-- ==== Sys2Proof/Word.lean ====
section
/-! DEFINITION. The widths the manual uses as words, and nothing else. -/

namespace Sys2Proof

/-- One parameter, one Stoker instruction, one ring WRITE value (R778, R749). -/
abbrev Word := BitVec 32

/-- One byte of a packet, a record or a memory. -/
abbrev Byte := BitVec 8

end Sys2Proof
end

