-- ==== Sys2Proof/Syntax.lean ====
section
/-! DEFINITION. The commands the block takes, one constructor of `Instr` per row of spec/opcode_table.json,
with the plain-data operands each carries: what a host sent, what arrived on a ring, or what the world outside
presented at that moment. A worker is named by `w` = 64 × ring + position from ring end A. -/

namespace Sys2Proof

/-- The watchdog as it stood at a request's receipt: an answer is judged against it (R291), and a write to WDG.PERIOD (R296). -/
structure WdgSnap where
  question : Nat
  seed : Nat
  isOpen : Bool
  /-- the period in progress, 0 where an answer of that source is refused (R284, R846) -/
  period : Nat
  /-- a write that would change WDG.PERIOD is taken (R296, R297) -/
  perOpen : Bool
  /-- the number of the watchdog's period at the receipt; a write of WDG.PERIOD applies to later ones (R296, R297) -/
  stamp : Nat
deriving DecidableEq, Repr

/-- A request packet as a port holds it (R160), less its opcode, with what the port noted at its receipt
(R164, R291) and, for Ethernet, where it came from (R188). -/
structure Req where
  port : Nat
  seq : Nat
  flags : Nat
  rsv : Nat
  handle : Nat
  payload : List Byte
  crc : Nat
  tick : Nat
  iface : Nat
  ip : Nat
  udp : Nat
  wdg : WdgSnap
deriving DecidableEq, Repr

/-- A cell worker's measurement record (R372). Cells in 100 µV, stack in 2 mV, temperatures in 0.1 °C. -/
structure CellRec where
  cells : List Nat
  stack : Nat
  temps : List Int
  cstat : List Nat
  tstat : List Nat
  bal : Nat
  wflags : Nat
deriving DecidableEq, Repr

/-- A meter worker's measurement record (R459). -/
structure MeterRec where
  iPri : Int
  iChk : Int
  vPack : Nat
  vLink : Nat
  iPeak : Int
  eIn : Nat
  eOut : Nat
  qIn : Nat
  qOut : Nat
  seq : Nat
  segment : Nat
  sflags : Nat
  mstat : Nat
  disagree : Nat
  tShunt : Int
deriving DecidableEq, Repr

/-- The measurement record of either role. -/
inductive Meas where
  | cell (r : CellRec)
  | meter (r : MeterRec)
deriving DecidableEq, Repr

/-- The station record (R676). -/
structure StnRec where
  di : Nat
  state : Nat
  fault : Nat
  misses : Nat
  temps : List Int
  tstat : List Nat
deriving DecidableEq, Repr

/-- The payload of a RESULT frame (R310, R373, R522, R676). -/
structure ResultRec where
  tick : Nat
  flags : Nat
  lease : Nat
  epoch : Nat
  meas : Meas
  stn : StnRec
deriving DecidableEq, Repr

/-- An accumulator slot (R466); `good` is 1 exactly when its CRC-32C matches and no word is uncorrectable (R469). -/
structure AccSlot where
  seq : Nat
  tick : Nat
  segment : Nat
  flags : Nat
  rtc : Nat
  eIn : Nat
  eOut : Nat
  qIn : Nat
  qOut : Nat
  good : Bool
deriving DecidableEq, Repr

/-- A turf (R481). Histogram, event, contactor and valve fields are lists in the order of the layout. -/
structure Turf where
  index : Nat
  inst : Nat
  segment : Nat
  kind : Nat
  tflags : Nat
  startTick : Nat
  endTick : Nat
  startRtc : Nat
  endRtc : Nat
  totals : List Nat
  deltas : List Nat
  cellMin : Nat
  cellMax : Nat
  cellMinLoc : Nat
  cellMinNo : Nat
  cellMaxLoc : Nat
  cellMaxNo : Nat
  hist : List Nat
  disMax : Nat
  disTicks : Nat
  blindTicks : Nat
  evtMap : Nat
  evtCounts : List Nat
  contOps : List Nat
  contI2t : List Nat
  vlvCnt : List Nat
  firstIndex : Nat
  signature : List Byte
deriving DecidableEq, Repr

/-- The binding of a ledger instance, bytes 0x080–0x0FF of its accumulator region (R475): serial (none while
nothing is bound), the SEALED state (R503) and the holder list of R489 as (ring, address) pairs. -/
structure Binding where
  serial : Option Nat
  isSealed : Bool
  holders : List (Nat × Nat)
deriving DecidableEq, Repr

/-- What the manager itself measures at the sample instant (R547, R616, R663, R824, R607, HB.STAT, MOT.STAT):
(channel, value) pairs; a channel not listed reads 0, a switch not listed keeps its level. -/
structure MgrSample where
  vbat : Nat
  hsI : List (Nat × Nat)
  hsOl : List (Nat × Nat)
  sw : List (Nat × Int)
  lsI : List (Nat × Nat)
  hbI : List (Nat × Nat)
  motRpm : List (Nat × Int)
  ledT : List (Nat × Int)
  dieT : List (Nat × Int)
  rail : List (Nat × Nat)
deriving DecidableEq, Repr

/-- One 8 kS/s conversion of a meter worker (R455): shunt voltages in nV, divider outputs in µV. -/
structure MeterConv where
  pri : Int
  chk : Int
  pack : Nat
  link : Nat
deriving DecidableEq, Repr

/-- What worker `w`'s converters see at its sample instant: cells in µV and the stack in mV, the reference's
deviation from trim in µV (R371), the NTC voltages in mV of the 3,000 mV NTCREF (R386), the sensed balance currents
in mA (R390), the die temperature in 0.1 °C (R392), the DI voltages in mV (R675) and, in a meter worker, the
interval's conversions with the trim verdicts of R458 on the channels' references. `stream` are the 128 kS/s conversions since the
previous sample instant (R447), each the readings of its slots as FLARE_COMPLETE gives them. -/
structure WkSample where
  w : Nat
  cells : List Int
  stack : Int
  ref : Int
  ntc : List Nat
  balI : List Nat
  dieT : Int
  di : List Nat
  conv : List MeterConv
  priBad : Bool
  chkBad : Bool
  packBad : Bool
  linkBad : Bool
  stream : List (List Int)
deriving DecidableEq, Repr

/-- How a manager's frame reaches a worker (R309, R311, R344): the role of the sender, a WRITE's lease epoch (0 in other
frames), SEQ, ADDR, and the side it came from: 0 the worker's A side, 1 its B side, which each training settles by the frames with
TOWARD_A at 0 whichever lane pair carries them (R810, R815). -/
structure WHdr where
  role : Nat
  epoch : Nat
  seq : Nat
  dest : Nat
  lane : Nat
deriving DecidableEq, Repr

/-- A SYNC frame at a worker or at the partner's ring end: its payload, the end that sent it (0 A, 1 B) and its
arrival after the tick's nominal start, in units of 0.5 ns (R319). -/
structure SyncF where
  tick : Nat
  period : Nat
  flags : Nat
  first : Nat
  last : Nat
  fromEnd : Nat
  arrival : Nat
deriving DecidableEq, Repr

/-- A LEASE frame (R340). -/
structure LeaseF where
  role : Nat
  op : Nat
  epoch : Nat
  first : Nat
  last : Nat
deriving DecidableEq, Repr

/-- A RESULT frame at ring end `fromEnd` of `ring`: its source, whether its CRC-32C matches, the payload, and the
identity that the worker at that address reports (R364). -/
structure ResultF where
  ring : Nat
  fromEnd : Nat
  addr : Nat
  crcOk : Bool
  body : ResultRec
  ident : Nat
deriving DecidableEq, Repr

/-- The payload of a STREAM frame by kind (R448, R449, R450). Samples are rows of unsigned 16-bit slots. -/
inductive StreamBody where
  | samples (first : Nat) (rows : List (List Nat))
  | flare (first : Nat) (record : Nat) (flags : Nat) (tick : Nat) (offset : Nat) (rows : List (List Nat))
  | impPoint (slot point status repeats valid tick freq : Nat) (z : List (Int × Int))
deriving DecidableEq, Repr

/-- What training, ENUM and CAL found on one ring (R330–R336, R351): the serials of the workers that took an
address from end A, whether that ENUM came back at end B, the count of PROBE_B from end B, whether a worker was left
without an address, and each addressed worker's sums of sixteen round trips from end A and from end B in 0.5 ns
(none where that end cannot reach it). -/
structure RingFound where
  ring : Nat
  serials : List Nat
  closed : Bool
  farCount : Nat
  farSerials : List Nat
  overflow : Bool
  tripsA : List (Option Nat)
  tripsB : List (Option Nat)
  roles : List Nat
deriving DecidableEq, Repr

/-- What a stored worker parameter read back as, when the manager configures the workers (R790). -/
structure WkStored where
  ring : Nat
  addr : Nat
  index : Nat
  value : Nat
deriving DecidableEq, Repr

/-- One shard entry read back from a holder (R493): the 24 words of a snapshot. -/
structure ShardRead where
  ring : Nat
  addr : Nat
  words : List Word
deriving DecidableEq, Repr

/-- What the manager read back for the reconstruction of one ledger instance (R496): whether the meter worker
answered, its serial, its two slots, the number of holders that answered, and every shard entry of every holder. -/
structure ReconIn where
  inst : Nat
  answered : Bool
  serial : Nat
  slots : List AccSlot
  holders : Nat
  shards : List ShardRead
deriving DecidableEq, Repr

/-- A BEAT frame (R514). -/
structure BeatF where
  tick : Nat
  period : Nat
  state : Nat
  source : Bool
  syncCurrent : Bool
  sleep : Bool
  cfgver : Nat
deriving DecidableEq, Repr

/-- The payload of a LEDGSYNC frame by kind (R514). -/
inductive LedgSyncBody where
  | turf (t : Turf)
  | ackLevel (index : Nat)
  | binding (b : Binding)
  | time (rtc : Nat)
deriving DecidableEq, Repr

/-- A ring frame that the partner manager sent and that reached this manager's own ring end (R61, R330, R340). -/
inductive PartnerRingF where
  | sync (f : SyncF)
  | lease (f : LeaseF)
  | enum (count : Nat)
deriving DecidableEq, Repr

/-- One two-wire transaction: the 7-bit address, the bytes written, the bytes clocked out afterwards, and the µs
since the STOP of the previous transaction to the same window (R725). -/
structure TwXfer where
  addr : Nat
  wr : List Byte
  rd : Nat
  gap : Nat
deriving DecidableEq, Repr

/-- The addressed and relayed frame kinds of a RELAY frame (R532): the whole ring frame, as bytes. -/
structure RelayF where
  ring : Nat
  frame : List Byte
deriving DecidableEq, Repr

/-- The commands of the block: every operation and event of spec/opcode_table.json, in the table's order. -/
inductive Instr where
  -- supply, rails, bring-up and reset
  | vbatPowerOn (mv : Nat)
  | vbatBrownout
  | fuseLoadDone (mv us : Nat)
  | railSenseGood (rail us : Nat)
  | railWindowExpired
  | railSenseLost (rail : Nat) (mv : Nat)
  | railRestEnd
  | railRetryClear
  | retryRails (dt : Nat)
  | pllLock (us : Nat)
  | romBootDone
  | ringEnumeration (found : List RingFound)
  | enumFromB (found : RingFound)
  | configLoad (stored : List WkStored)
  | releaseToLit (recon : List ReconIn) (safe : List WkStored)
  | extRefLockTimeout
  | extRefLost
  | hsUndervoltage
  | hsUvRestart
  | hsRestartStep
  | ovCoastEntry (mv : Nat)
  | ovCoastExit
  | collapse (cause : Nat) (joint : Bool) (cut : Option Nat)
  | crystalStop (joint : Bool)
  | thermalReset
  | pinReset (us : Nat)
  | endOfCommitReset
  | sleepEntry
  | wake (src : Nat) (dt : Nat)
  | rtcWakeTimer (dt : Nat)
  | canwakeInput (dt : Nat)
  -- the tick
  | tickStart
  | sampleInstant (m : MgrSample) (ws : List WkSample)
  | owHoldExpired (w : Nat) (wire : Nat)
  | owRoutineTest (w : Nat)
  | flywheelSample (x : WkSample)
  | ownTimingStart (w : Nat)
  | gatherEnd (count : Nat)
  | workerLost (ring : Nat) (addr : Nat)
  | stokerBudgetReached (core : Nat)
  | intentClose
  | setInstant
  | commitPhase
  | litReentry
  -- the command ports
  | spiFrame (sdi : List Byte) (clocked : Nat) (same : Bool)
  | ethDatagram (iface : Nat) (ip : Nat) (udp : Nat) (data : List Byte) (same : Bool)
  | canMessage (ctrl : Nat) (ident : Nat) (data : List Byte) (last : Bool) (same : Bool)
  | canIsotpTimeout (ctrl : Nat) (inbound : Bool)
  | twCommandWrite (x : TwXfer) (same : Bool)
  | twCommandRead (x : TwXfer)
  | signatureVerified (port : Nat)
  -- requests, as Compute executes them
  | nop (r : Req)
  | ident (r : Req)
  | status (r : Req)
  | getParam (r : Req)
  | setParam (r : Req)
  | workerGetParam (r : Req)
  | workerSetParam (r : Req)
  | getBlock (r : Req)
  | setBlock (r : Req)
  | wdgPeriodWrite (r : Req)
  | evtStatClear (r : Req)
  | hsLatchClear (r : Req)
  | hbPosWrite (r : Req)
  | canAutorecWrite (r : Req)
  | partResetPartner (r : Req)
  | partResync (r : Req)
  | openHandle (r : Req)
  | closeHandle (r : Req)
  | bind (r : Req)
  | queryHandle (r : Req)
  | outSet (r : Req)
  | outPwm (r : Req)
  | valveFire (r : Req)
  | ledSet (r : Req)
  | hbMove (r : Req)
  | motorStart (r : Req)
  | motorStop (r : Req)
  | sweepRead (r : Req)
  | cellRead (r : Req)
  | balance (r : Req)
  | impStart (r : Req)
  | flareArm (r : Req)
  | flareRead (r : Req)
  | stationRead (r : Req)
  | ledgerRead (r : Req)
  | turfRead (r : Req)
  | turfAck (r : Req)
  | ledgerProvision (r : Req)
  | relight (r : Req)
  | relightComplete (burnt : Bool)
  | challenge (r : Req)
  | setTime (r : Req)
  | shardPair (r : Req)
  | eventRead (r : Req)
  | eventSubscribe (r : Req)
  | eventClear (r : Req)
  | stokerLoad (r : Req)
  | stokerRun (r : Req)
  | stokerHalt (r : Req)
  | stokerState (r : Req)
  | stokerStep (r : Req)
  | wdgAnswer (r : Req)
  | wdgQuestion (r : Req)
  | sleepRequest (r : Req)
  | wakeReason (r : Req)
  | configWriteErase (r : Req)
  | configWriteWrite (r : Req)
  | configWriteCommit (r : Req)
  | eraseComplete
  | commitComplete (stored : List WkStored)
  | configWriteParam (r : Req)
  | configWriteFuse (r : Req)
  | clearDouse (r : Req)
  | douse (r : Req)
  | reset (r : Req)
  -- the watchdog's own instants
  | wdgEarlyWarning
  | wdgPeriodExpired
  | wdgResume
  -- frames at a worker
  | syncFrame (w : Nat) (h : WHdr) (f : SyncF)
  | workerBankEntry (w : Nat)
  | enumAssignA (w : Nat) (h : WHdr) (count : Nat)
  | enumProbeB (w : Nat) (h : WHdr) (count : Nat)
  | enumAssignB (w : Nat) (h : WHdr) (count : Nat) (total : Nat)
  | enumCal (w : Nat) (h : WHdr)
  | leaseRenew (w : Nat) (h : WHdr) (f : LeaseF)
  | leaseClaim (w : Nat) (h : WHdr) (f : LeaseF)
  | leaseRelease (w : Nat) (h : WHdr) (f : LeaseF)
  | readHeldResult (w : Nat) (h : WHdr) (back : Nat)
  | readParameter (w : Nat) (h : WHdr) (index : Nat)
  | readFaultJournal (w : Nat) (h : WHdr) (index : Nat)
  | readCaptureRecord (w : Nat) (h : WHdr) (index : Nat)
  | writeParameter (w : Nat) (h : WHdr) (index : Nat) (value : Word)
  | stationRefresh (w : Nat) (h : WHdr) (value : Word)
  | time (w : Nat) (h : WHdr) (value : Word)
  | balMask (w : Nat) (h : WHdr) (value : Word)
  | balRun (w : Nat) (h : WHdr) (value : Word)
  | impData (w : Nat) (h : WHdr) (index : Nat) (value : Word)
  | impStartCommand (w : Nat) (h : WHdr) (value : Word)
  | impStop (w : Nat) (h : WHdr) (value : Word)
  | impRestart (w : Nat) (h : WHdr) (value : Word)
  | flrMode (w : Nat) (h : WHdr) (value : Word)
  | flrTrig (w : Nat) (h : WHdr) (index : Nat) (value : Word)
  | flrArm (w : Nat) (h : WHdr) (value : Word)
  | flrTick (w : Nat) (h : WHdr) (value : Word)
  | flrFire (w : Nat) (h : WHdr) (value : Word)
  | flrRelease (w : Nat) (h : WHdr) (value : Word)
  | shardData (w : Nat) (h : WHdr) (index : Nat) (value : Word)
  | shardCommit (w : Nat) (h : WHdr) (value : Word)
  | slotData (w : Nat) (h : WHdr) (index : Nat) (value : Word)
  | slotCommit (w : Nat) (h : WHdr) (value : Word)
  -- frames at the manager
  | resultFrame (f : ResultF)
  | ackFrame (ring : Nat) (addr : Nat) (crcOk : Bool) (etype : Nat) (eseq : Nat) (status : Nat) (value : Word)
  | streamFrame (ring : Nat) (addr : Nat) (crcOk : Bool) (body : StreamBody)
  | alarmFrame (ring : Nat) (fromEnd : Nat) (addr : Nat) (crcOk : Bool) (cause : Nat) (item : Nat) (raw : Nat) (tick : Nat)
  | laneLoss (w : Nat) (lane : Nat)
  | ringHeal (found : RingFound)
  | bankedCheck (x : WkSample)
  | emberRepeat (w : Nat) (lane : Nat)
  | workerPowerUp (w : Nat) (roleHigh : Bool) (serial : Nat)
  | beatFrame (f : BeatF)
  | partnerLinkLost (cause : Nat)
  | partnerLinkUp
  | ledgsyncFrame (seq : Nat) (inst : Nat) (body : LedgSyncBody)
  | relayFrame (f : RelayF)
  | requestResetFrame (seq : Nat)
  | requestResyncFrame (seq : Nat) (turfNew : List Nat)
  | partnerAckFrame (etype : Nat) (eseq : Nat) (status : Nat)
  | tickSourceTakeover
  | tickReunion (counter : Nat) (aligned : Bool)
  | handbackRelease
  -- load switches and generators
  | pgReload (g : Nat) (sameClock : Bool)
  | hsLimiting (n : Nat)
  | hsOvercurrentTrip (n : Nat) (ma : Nat)
  | hsThermalTrip (n : Nat) (ma : Nat)
  | hsCooldownEnd (n : Nat)
  | hsRetriesClear (n : Nat)
  | followInputChange (n : Nat) (mv : Int) (us : Nat)
  | contactorPullinEnd (n : Nat)
  | weldCheckEnd
  | weldCheckTimeout
  -- valves
  | valveStart (c : Nat)
  | valvePeakReached (c : Nat)
  | valvePeakTimeout (c : Nat) (ma : Nat)
  | valveTurnOff (c : Nat)
  | valveLsOvercurrent (c : Nat) (ma : Nat)
  | valveBfOvercurrent (b : Nat) (ma : Nat)
  -- bridges and motors
  | hbRipple (b : Nat) (depth : Nat)
  | hbMoveEnd (b : Nat)
  | hbStall (b : Nat) (cur : Nat)
  | hbRippleTimeout (b : Nat) (cur : Nat)
  | hbOvercurrent (b : Nat) (cur : Nat)
  | hbBrakeEnd (b : Nat)
  | hbRevdeadEnd (b : Nat)
  | motorCatchEnd (m : Nat) (rpm : Int)
  | motorBackwardRelease (m : Nat) (rpm : Int)
  | motorBackwardTimeout (m : Nat) (rpm : Int)
  | motorBrakeEnd (m : Nat)
  | motorAlignEnd (m : Nat)
  | motorHandover (m : Nat) (rpm : Int)
  | motorHandoverTimeout (m : Nat) (rpm : Int)
  | motorTargetReached (m : Nat) (rpm : Int)
  | motorObserverLoss (m : Nat) (cause : Nat) (amount : Nat) (periods : Nat) (rpm : Int) (recent : Nat)
  | motorRecatch (m : Nat)
  | motorGateFault (m : Nat) (kind : Nat) (rpm : Int)
  -- balancing, impedance and flares at a worker
  | balanceEnd (w : Nat)
  | impPointStart (w : Nat)
  | impPointEnd (w : Nat) (conv : List (List (Int × Int)))
  | flareTrigger (w : Nat) (tick : Nat) (offset : Nat) (now : List Int) (ago : List Int)
  | flareComplete (w : Nat) (rows : List (List Int))
  -- the ledger's own instants
  | turfPeriodEnd
  | turfWrite (inst : Nat)
  | shardPeriod
  | meterTimeSend
  -- switch inputs, networks and the two-wire target
  | bankedPoll (levels : List (Nat × Int)) (dt : Nat)
  | switchWake (n : Nat) (mv : Int) (dt : Nat)
  | keepaliveSend
  | keepaliveReceived (ctrl : Nat) (ident : Nat) (data : List Byte)
  | sleepAgreed
  | kaPrepareEnd
  | maxAwakeReached
  | canBusOff (ctrl : Nat) (tec : Nat)
  | canBusOffRecovery (ctrl : Nat)
  | tc10SleepRequest
  | ethLinkChange (iface : Nat) (st : Nat)
  | linSlot (l : Nat)
  | linSlotEnd (l : Nat) (resp : List Byte) (valid : Bool)
  | twStatusWindow (x : TwXfer)
  | twEventWindow (x : TwXfer)
  | twLedgerWindow (x : TwXfer)
  | twSclTimeout (window : Nat) (ms : Nat)
  | twSdaTimeout (window : Nat) (ms : Nat)
  -- Stoker instructions: the core and the instruction's bits [25:0]
  | ldk (core : Nat) (x : BitVec 26)
  | mov (core : Nat) (x : BitVec 26)
  | tagq (core : Nat) (x : BitVec 26)
  | retag (core : Nat) (x : BitVec 26)
  | add (core : Nat) (x : BitVec 26)
  | sub (core : Nat) (x : BitVec 26)
  | mul (core : Nat) (x : BitVec 26)
  | div (core : Nat) (x : BitVec 26)
  | scl (core : Nat) (x : BitVec 26)
  | cmp (core : Nat) (x : BitVec 26)
  | and (core : Nat) (x : BitVec 26)
  | or (core : Nat) (x : BitVec 26)
  | xor (core : Nat) (x : BitVec 26)
  | not (core : Nat) (x : BitVec 26)
  | shl (core : Nat) (x : BitVec 26)
  | shr (core : Nat) (x : BitVec 26)
  | min (core : Nat) (x : BitVec 26)
  | max (core : Nat) (x : BitVec 26)
  | abs (core : Nat) (x : BitVec 26)
  | ld (core : Nat) (x : BitVec 26)
  | st (core : Nat) (x : BitVec 26)
  | brt (core : Nat) (x : BitVec 26)
  | brf (core : Nat) (x : BitVec 26)
  | jmp (core : Nat) (x : BitVec 26)
  | call (core : Nat) (x : BitVec 26)
  | ret (core : Nat) (x : BitVec 26)
  | hrd (core : Nat) (x : BitVec 26)
  | hwr (core : Nat) (x : BitVec 26)
  | hopen (core : Nat) (x : BitVec 26)
  | hclose (core : Nat) (x : BitVec 26)
  | evtLatchedRead (core : Nat) (x : BitVec 26)
  | evtClear (core : Nat) (x : BitVec 26)
  | evtSeverityRead (core : Nat) (x : BitVec 26)
  | wait (core : Nat) (x : BitVec 26)
  | tickrd (core : Nat) (x : BitVec 26)
  | ledgrd (core : Nat) (x : BitVec 26)
  | wdgaAnswer (core : Nat) (x : BitVec 26)
  | wdgaQuestion (core : Nat) (x : BitVec 26)
  | trap (core : Nat) (x : BitVec 26)
  | cvt (core : Nat) (x : BitVec 26)
  | satadd (core : Nat) (x : BitVec 26)
  | sel (core : Nat) (x : BitVec 26)
  | ldx (core : Nat) (x : BitVec 26)
  | stx (core : Nat) (x : BitVec 26)
  | orelse (core : Nat) (x : BitVec 26)
  | stkNop (core : Nat) (x : BitVec 26)
  | illegalOpcode (core : Nat) (op : Nat) (x : BitVec 26)
  | stokerRestart (core : Nat)
  -- the remaining events
  | partnerRingFrame (ring : Nat) (crcOk : Bool) (f : PartnerRingF)
  | vbatSequencingThreshold (us : Nat)
  | thermalHoldEnd (mv us : Nat)
  | hsThermalRestart (n : Nat)
  | wdgWindowOpen
  | valveStop (c : Nat)
  | valveMinoffEnd (c : Nat)
  | motorRampDownEnd (m : Nat)
  | stationOutputTrip (w : Nat) (lout : Nat)
  | napLockEnd
  | arpFrame (iface : Nat) (op : Nat) (mac : Nat) (ip : Nat) (target : Nat)
  | icmpEchoRequest (iface : Nat) (ip : Nat) (target : Nat) (data : List Byte)
  | workerAlarmReceived (w : Nat) (lane : Nat) (addr : Nat) (seq : Nat) (cause : Nat) (item : Nat) (raw : Nat) (tick : Nat)
  | laneLock (w : Nat) (lane : Nat)
  | mramScrub (w : Option Nat) (word : Nat) (finding : Nat)
  | workerPowerLoss (w : Nat)
  | debuggerAttach (attached : Bool)
deriving DecidableEq, Repr

end Sys2Proof
end

