-- ==== Sys2Proof/Decode.lean ====
section
/-! DEFINITION. The commands that a word spells: spec/opcode_table.json gives no row of this block any bits, so no word
spells a command. -/

namespace Sys2Proof

/-- The command that the `nbits` bits of `w` spell by the table: none, since no row has bits. -/
def decodeTableWord (_nbits _w : Nat) : Option Instr := none

end Sys2Proof
end

