-- ==== Sys2Proof/Config.lean ====
section
/-! DEFINITION. What one part or one implementation fixes and the manual does not say, and the free values: constants
without a body, of which no proof can use any value. -/

namespace Sys2Proof

/-- What a configuration image's body holds, as the device takes it (R86): whether it is consistent beyond the rules
the manual names, the parameter values, the worker parameters, the worker serials expected on each ring, and the
number of meter workers it names. -/
structure ImageBody where
  consistent : Bool
  params : List (Nat × Nat)
  workers : List WkStored
  /-- Stoker programs (R738): the core, instruction words and tagged data words by address -/
  programs : List (Nat × List (Nat × Word) × List (Nat × BitVec 36))
  serials : List (Nat × List Nat)
  meters : Nat
deriving DecidableEq, Repr, Inhabited

/-- How the body's bytes encode all that; the manual gives the header's layout and leaves the body to Hob. -/
opaque Config.decodeBody : List Byte → ImageBody

/-- The device serial of the identity record (R176 IDENT, R200). -/
opaque Config.serial : BitVec 64

/-- The ROM version that IDENT reports (R176). -/
opaque Config.romVersion : BitVec 32

/-- The MAC bytes of the identity record, six for each interface (NET.MAC). -/
opaque Config.macByte : Nat → Byte

/-- The device key, private (R483), which no rule gives. -/
opaque Config.deviceKey : Nat

/-- The secret number of the signature made in draw `n` (R483): ECDSA leaves its choice to the signer. -/
opaque Config.signNonce : Nat → Nat

/-- What hysteresis switch input `n` has beyond 0.2 V, in mV, up to 0.2 V (table "Switch input characteristics"). -/
opaque Config.hysteresis : Nat → Nat

/-- A free bit: draw `n` of a choice that the manual leaves open. -/
opaque Config.freeBit : Nat → Bool

/-- A free number, draw `n`. -/
opaque Config.freeNat : Nat → Nat

/-- A free byte, draw `n`, place `i`. -/
opaque Config.freeByte : Nat → Nat → Byte

end Sys2Proof
end

