-- ==== Sys2Proof/Machine/Bits.lean ====
section
/-! DEFINITION. Bit fields, little-endian bytes (R6), saturating counters and the CRC-32C (R161). -/

namespace Sys2Proof.Machine

/-- The `wid` bits of `x` from bit `lo` upwards. -/
def fld (x lo wid : Nat) : Nat := x / 2 ^ lo % 2 ^ wid

/-- `x` with its `wid` bits from bit `lo` upwards replaced by the low bits of `v`. -/
def setFld (x lo wid v : Nat) : Nat :=
  x % 2 ^ lo + (v % 2 ^ wid) * 2 ^ lo + (x / 2 ^ (lo + wid)) * 2 ^ (lo + wid)

/-- Bit `n` of `x`. -/
def bit (x n : Nat) : Bool := x / 2 ^ n % 2 == 1

/-- 1 for true, 0 for false. -/
def b2n (b : Bool) : Nat := if b then 1 else 0

/-- The number of ones among the low `n` bits. -/
def popcount (x : Nat) : Nat → Nat
  | 0 => 0
  | n + 1 => b2n (bit x n) + popcount x n

/-- The mask whose listed bits are 1. -/
def maskOf (l : List Nat) : Nat := l.eraseDups.foldl (fun a n => a + 2 ^ n) 0

/-- The bit numbers below `n` that are 1 in `x`, rising. -/
def bitsOf (x n : Nat) : List Nat := (List.range n).filter (fun i => bit x i)

/-- `n` little-endian bytes of `v` (R6). -/
def le : Nat → Nat → List Byte
  | 0, _ => []
  | n + 1, v => BitVec.ofNat 8 v :: le n (v / 256)

/-- `n` big-endian bytes of `v`. -/
def be (n v : Nat) : List Byte := (le n v).reverse

/-- The value of little-endian bytes. -/
def leNat : List Byte → Nat
  | [] => 0
  | b :: r => b.toNat + 256 * leNat r

/-- The value of big-endian bytes. -/
def beNat (l : List Byte) : Nat := leNat l.reverse

/-- The little-endian field of `n` bytes from byte `o`. -/
def leAt (l : List Byte) (o n : Nat) : Nat := leNat ((l.drop o).take n)

/-- Two's complement in `w` bits. -/
def toTwos (w : Nat) (v : Int) : Nat := (v % (2 ^ w : Nat)).toNat

/-- The signed value of the low `w` bits. -/
def ofTwos (w v : Nat) : Int :=
  let x := v % 2 ^ w
  if x < 2 ^ (w - 1) then (x : Int) else (x : Int) - (2 ^ w : Nat)

/-- Addition that saturates at the largest value of `w` bits. -/
def satAdd (w a b : Nat) : Nat := Nat.min (a + b) (2 ^ w - 1)

/-- A signed value held to the range of `w` bits. -/
def clampS (w : Nat) (v : Int) : Int :=
  if v < -(2 ^ (w - 1) : Nat) then -(2 ^ (w - 1) : Nat)
  else if v > (2 ^ (w - 1) : Nat) - 1 then (2 ^ (w - 1) : Nat) - 1 else v

/-- The list sorted by insertion, repeats dropped: a set of numbers in one canonical form. -/
def insNat (n : Nat) : List Nat → List Nat
  | [] => [n]
  | m :: r => if n < m then n :: m :: r else if n = m then m :: r else m :: insNat n r

/-- `n` zero bytes. -/
def zeros (n : Nat) : List Byte := List.replicate n 0#8

/-- The list padded with zeros to `n` entries, or cut to them. -/
def padTo {α : Type} (d : α) (n : Nat) (l : List α) : List α :=
  (l ++ List.replicate n d).take n

/-- The entry `n` of a list, `d` beyond its end. -/
def nth {α : Type} (d : α) (l : List α) (n : Nat) : α := l.getD n d

/-- One bit step of the reflected CRC-32C. -/
def crcBit (c : BitVec 32) : BitVec 32 :=
  if c.getLsbD 0 then (c >>> 1) ^^^ 0x82F63B78#32 else c >>> 1

/-- The CRC-32C register after one more byte. -/
def crcByte (c : BitVec 32) (b : Byte) : BitVec 32 :=
  let c := c ^^^ b.setWidth 32
  crcBit (crcBit (crcBit (crcBit (crcBit (crcBit (crcBit (crcBit c)))))))

/-- The CRC-32C of a list of bytes, as a number. PRESUMED: the reflected Castagnoli polynomial with
initial value and final inversion of all ones; the manual names the CRC and gives no polynomial. -/
def crc32c (l : List Byte) : Nat := (~~~ (l.foldl crcByte 0xFFFFFFFF#32)).toNat

/-- Bytes with their CRC-32C after them (R161). -/
def withCrc (l : List Byte) : List Byte := l ++ le 4 (crc32c l)

end Sys2Proof.Machine
end

