-- ==== Sys2Proof/Machine/Params.lean ====
section
/-! DEFINITION. The parameter map (R778 to R790): every listed address, the access and the range of every
field, and every reset word. -/

namespace Sys2Proof.Machine

/-- The access codes (R11). -/
inductive Acc where
  | rw | ro | w1c | wo | rwk | rwn | rww
deriving DecidableEq, Repr

/-- Where a reset word comes from (R785): a constant, the fuses, the device key, the identity record, MRAM, or a
constant that the always-on island keeps. -/
inductive Mark where
  | const | fuse | key | ident | mram | island
deriving DecidableEq, Repr

/-- One field: its lowest bit, its width, its access and the values it takes; no interval means every value (R837). -/
structure Fld where
  lo : Nat
  wid : Nat
  acc : Acc
  rng : List (Nat × Nat)
deriving DecidableEq, Repr

/-- One row of the parameter map: `count` words from `base`, `stride` apart. -/
structure PRow where
  base : Nat
  stride : Nat
  count : Nat
  mark : Mark
  reset : Nat
  flds : List Fld
deriving DecidableEq, Repr

/-- A read-only field. -/
def fro (lo wid : Nat) : Fld := ⟨lo, wid, .ro, []⟩
/-- A read and write field. -/
def frw (lo wid : Nat) : Fld := ⟨lo, wid, .rw, []⟩
/-- A read and write field with a range. -/
def frr (lo wid a b : Nat) : Fld := ⟨lo, wid, .rw, [(a, b)]⟩
/-- A field writable in Kindling. -/
def fk (lo wid : Nat) : Fld := ⟨lo, wid, .rwk, []⟩
/-- A field writable in Kindling, with a range. -/
def fkr (lo wid a b : Nat) : Fld := ⟨lo, wid, .rwk, [(a, b)]⟩
/-- A write 1 to clear field. -/
def fw1 (lo wid : Nat) : Fld := ⟨lo, wid, .w1c, []⟩

/-- Blocks SYS to CMD. -/
def rowsSys : List PRow :=
  [⟨0x0100, 1, 1, .const, 0x0003B900, [fro 0 16, fro 16 4]⟩,
   ⟨0x0101, 1, 1, .fuse, 0, [fro 0 2]⟩,
   ⟨0x0102, 1, 1, .const, 0, [fk 0 1, fro 1 1]⟩,
   ⟨0x0103, 1, 1, .const, 0, [fro 0 4, fro 4 8]⟩,
   ⟨0x0104, 1, 1, .const, 1, [fro 0 2, fro 2 1, fro 3 1]⟩,
   ⟨0x0105, 1, 1, .const, 1, [fw1 0 9]⟩,
   ⟨0x0106, 1, 1, .const, 0, [fro 0 1, fro 1 1, fro 2 1, fro 3 1]⟩,
   ⟨0x0107, 1, 1, .const, 0, [fro 0 4, fro 4 4, fro 8 1, fro 9 1]⟩,
   ⟨0x0108, 1, 1, .const, 0, [fro 0 32]⟩,
   ⟨0x0109, 1, 1, .fuse, 0, [fro 0 28]⟩,
   ⟨0x0110, 1, 8, .fuse, 0, [fro 0 32]⟩,
   ⟨0x0118, 1, 8, .fuse, 0, [fro 0 32]⟩,
   ⟨0x0200, 1, 1, .const, 2, [fkr 0 3 0 4]⟩,
   ⟨0x0201, 1, 1, .island, 0, [fro 0 32]⟩,
   ⟨0x0202, 1, 1, .island, 0, [fro 0 16]⟩,
   ⟨0x0203, 1, 1, .island, 4, [fro 0 1, fro 1 1, fro 2 1]⟩,
   ⟨0x0204, 1, 1, .island, 0, [fro 0 32]⟩,
   ⟨0x0205, 1, 1, .const, 0, [frw 0 16, frw 16 16]⟩,
   ⟨0x0206, 1, 1, .const, 0, [fro 0 2, fro 2 1]⟩] ++
  [⟨0x0300, 1, 1, .const, 0, [fro 0 16, fro 16 1, fro 17 1, fro 18 1]⟩,
   ⟨0x0301, 1, 1, .island, 0, [frw 0 16, frw 16 16]⟩,
   ⟨0x0302, 1, 1, .island, 0, [fro 0 3, fro 3 3, fro 6 2, fro 8 3, fro 11 1, fro 12 1]⟩,
   ⟨0x0303, 1, 1, .island, 0x2F, [frw 0 6]⟩,
   ⟨0x0304, 1, 1, .island, 0, [fw1 0 6]⟩,
   ⟨0x0305, 1, 1, .island, 0, [frr 0 17 0 86400]⟩,
   ⟨0x0308, 1, 6, .fuse, 0, [fro 0 3, fro 3 8]⟩,
   ⟨0x0310, 1, 5, .const, 0, [fro 0 32]⟩,
   ⟨0x0400, 1, 1, .const, 9, [fk 0 4]⟩,
   ⟨0x0401, 1, 1, .const, 0x76543210, [fkr 0 4 0 7, fkr 4 4 0 7, fkr 8 4 0 7, fkr 12 4 0 7, fkr 16 4 0 7,
     fkr 20 4 0 7, fkr 24 4 0 7, fkr 28 4 0 7]⟩,
   ⟨0x0402, 1, 1, .const, 4, [fk 0 2, fk 2 1, fk 8 8, fk 16 8]⟩,
   ⟨0x0403, 1, 3, .const, 0, [fk 0 29, fk 31 1]⟩,
   ⟨0x0406, 1, 1, .const, 60000, [frr 0 20 1000 600000]⟩,
   ⟨0x0408, 1, 4, .const, 0, [frw 0 8, frw 8 8, frw 16 8, frw 24 8]⟩]

/-- Blocks HDL, EVT and WDG. -/
def rowsEvt : List PRow :=
  [⟨0x0500, 1, 1, .const, 0, [fro 0 12, frw 16 12]⟩,
   ⟨0x0501, 1, 1, .mram, 0, [fro 0 10]⟩,
   ⟨0x0502, 1, 1, .const, 0, [fro 0 16, fro 16 16]⟩,
   ⟨0x0503, 1, 1, .const, 0, [frw 0 8, frw 8 8, frw 16 8]⟩,
   ⟨0x0510, 1, 16, .const, 0, [fro 0 1, fro 1 1, fro 2 8]⟩,
   ⟨0x0520, 1, 16, .const, 0, [fro 0 32]⟩,
   ⟨0x0600, 1, 2, .const, 0, [fw1 0 32]⟩,
   ⟨0x0602, 1, 2, .const, 0xFFFFFFFF, [frw 0 32]⟩,
   ⟨0x0604, 1, 1, .const, 0xA5FD2AA5, [frw 0 32]⟩,
   ⟨0x0605, 1, 1, .const, 0x84919807, [frw 0 32]⟩,
   ⟨0x0606, 1, 1, .const, 0x96514090, [frw 0 32]⟩,
   ⟨0x0607, 1, 1, .const, 0x68A6A616, [frw 0 32]⟩,
   ⟨0x0608, 1, 4, .const, 0, [frw 0 32]⟩,
   ⟨0x060C, 1, 2, .const, 0, [fro 0 32]⟩,
   ⟨0x060E, 1, 1, .const, 0, [fro 0 16, fro 16 1]⟩,
   ⟨0x060F, 1, 1, .mram, 0, [fro 0 32]⟩,
   ⟨0x0700, 1, 1, .const, 0x770, [fk 0 1, fk 1 3, ⟨4, 3, .rwk, [(0, 3), (7, 7)]⟩, fkr 7 2 1 3, fkr 9 3 1 7]⟩,
   ⟨0x0701, 1, 1, .const, 0, [fk 0 16]⟩,
   ⟨0x0702, 1, 1, .const, 20, [⟨0, 8, .rww, [(1, 255)]⟩]⟩,
   ⟨0x0703, 1, 1, .const, 0xACE1, [fro 0 16, fro 16 3, fro 19 1, fro 20 1, fw1 21 1]⟩]

/-- Blocks FLUE, CELL, CAP, LEDG and PART. -/
def rowsRing : List PRow :=
  [⟨0x1000, 1, 1, .const, 0xF, [fk 0 4]⟩,
   ⟨0x1001, 1, 1, .const, 0x3200, [fk 0 1, fkr 8 7 0 100]⟩,
   ⟨0x1002, 1, 1, .const, 0x64, [fro 0 7, fro 7 1]⟩,
   ⟨0x1004, 1, 4, .const, 0, [fro 0 6, fro 6 1, fro 7 1, fro 8 6, fro 14 6, fro 20 1, fro 21 1, fro 22 1]⟩,
   ⟨0x1008, 1, 4, .const, 0, [frw 0 16, frw 16 8, frw 24 8]⟩,
   ⟨0x1010, 1, 8, .const, 0, [fro 0 32]⟩,
   ⟨0x1018, 1, 8, .const, 0, [fro 0 32]⟩,
   ⟨0x1100, 1, 1, .const, 0x09C41068, [frw 0 16, frw 16 16]⟩,
   ⟨0x1101, 1, 1, .const, 0xFED40258, [frw 0 16, frw 16 16]⟩,
   ⟨0x1102, 1, 1, .const, 0x00011414, [frw 0 8, frw 8 8, frr 16 8 1 255]⟩,
   ⟨0x1103, 1, 1, .const, 0x000A0032, [frw 0 16, frr 16 8 1 255]⟩,
   ⟨0x1104, 1, 1, .const, 0x00051E14, [frr 0 8 4 255, frw 8 8, frw 16 8]⟩,
   ⟨0x1105, 1, 1, .const, 0x3E8, [⟨0, 16, .rw, [(0, 0), (100, 60000)]⟩]⟩,
   ⟨0x1300, 1, 1, .const, 0x7D0, [frr 0 16 100 60000]⟩,
   ⟨0x1301, 1, 1, .const, 0, [fro 0 9]⟩,
   ⟨0x1304, 1, 4, .const, 0, [frw 0 11, frw 12 4]⟩,
   ⟨0x1310, 1, 1, .const, 5, [fro 0 3, fro 3 2, fro 16 16]⟩,
   ⟨0x1311, 1, 1, .const, 0, [fro 0 24]⟩,
   ⟨0x1312, 1, 49, .const, 0, [fro 0 32]⟩] ++
  [⟨0x1800, 1, 8, .const, 0, [fk 0 6, fk 6 2, fk 8 8, fk 16 6, fk 31 1]⟩,
   ⟨0x1808, 1, 16, .const, 0, [fk 0 2, fk 8 6, fk 16 6, fk 31 1]⟩,
   ⟨0x1818, 1, 8, .const, 0, [fro 0 3, fro 3 3, fro 6 1, fro 7 1, fro 8 8, fro 16 5, frw 24 8]⟩,
   ⟨0x1820, 1, 16, .mram, 0, [fro 0 32]⟩,
   ⟨0x1830, 1, 1, .const, 0xE10, [fkr 0 12 900 3600]⟩,
   ⟨0x1831, 1, 1, .const, 0x2003C, [fkr 0 10 10 600, fkr 16 5 1 16]⟩,
   ⟨0x1832, 1, 1, .const, 0x3E8, [fk 0 32]⟩,
   ⟨0x1833, 1, 1, .const, 0xA050A, [fk 0 8, fk 8 8, fkr 16 8 1 255]⟩,
   ⟨0x1834, 1, 1, .const, 0x4B0, [fk 0 16]⟩,
   ⟨0x1835, 1, 1, .const, 5, [fkr 0 8 1 50]⟩,
   ⟨0x1840, 1, 16, .key, 0, [fro 0 32]⟩,
   ⟨0x1850, 1, 22, .mram, 0, [fro 0 32]⟩,
   ⟨0x1866, 1, 2, .mram, 0, [fro 0 32]⟩,
   ⟨0x1900, 1, 1, .const, 0x3C6400, [fk 0 1, fkr 8 8 1 255, fkr 16 12 1 3600]⟩,
   ⟨0x1901, 1, 4, .const, 0x3F, [fk 0 6]⟩,
   ⟨0x1905, 1, 1, .const, 0, [fro 0 1, fro 1 1, fro 2 2, fro 4 1, fro 5 1]⟩,
   ⟨0x1906, 1, 1, .const, 0, [fro 0 1, frw 8 8]⟩,
   ⟨0x1907, 1, 1, .const, 0, [⟨0, 1, .wo, []⟩, ⟨1, 1, .wo, []⟩]⟩,
   ⟨0x1908, 1, 1, .const, 0, [frw 0 8, frw 8 8]⟩,
   ⟨0x1910, 1, 8, .const, 0, [fro 0 32]⟩]

/-- Blocks HS, PG, VLV, LED, HB, MOT and SWI. -/
def rowsOut : List PRow :=
  [⟨0x2000, 6, 40, .const, 0x140C, [fk 0 1, fk 1 1, fk 2 4, fk 6 2, fkr 8 8 1 255, fk 16 1]⟩,
   ⟨0x2001, 6, 40, .const, 0xA0000, [frw 0 16, frr 16 8 1 255]⟩,
   ⟨0x2002, 6, 40, .const, 0, [fro 0 1, fro 1 1, fro 2 1, fro 3 1, fw1 4 1, fro 5 1, fro 6 1, fro 7 1, fro 8 4,
     fro 16 16]⟩,
   ⟨0x2003, 6, 40, .const, 0, [fro 0 16, fro 16 12]⟩,
   ⟨0x2004, 6, 40, .const, 0, [fro 0 16, fro 16 12]⟩,
   ⟨0x2005, 6, 40, .const, 0, [frw 0 16, fro 16 4, fro 20 1, fro 21 1]⟩,
   ⟨0x2700, 4, 8, .const, 10, [fkr 0 8 1 255]⟩,
   ⟨0x2701, 4, 8, .const, 50000, [fkr 0 24 40000 10000000]⟩,
   ⟨0x2702, 4, 8, .const, 0x5555, [⟨0, 16, .rwn, []⟩]⟩,
   ⟨0x2720, 1, 16, .const, 100, [frr 0 10 0 1000, frw 10 1]⟩,
   ⟨0x2730, 1, 1, .const, 0x14320000, [fk 0 8, fk 8 3, fkr 16 8 10 255, fkr 24 8 1 255]⟩,
   ⟨0x2731, 1, 1, .const, 0, [fro 0 2, fro 2 3, fro 16 16]⟩,
   ⟨0x2100, 2, 16, .const, 0, [fro 0 32]⟩,
   ⟨0x2101, 2, 16, .const, 0, [fro 0 22]⟩,
   ⟨0x2200, 2, 24, .const, 2, [fkr 0 9 2 500, fk 9 1]⟩,
   ⟨0x2201, 2, 24, .const, 0, [fro 0 2, fro 2 1, fro 3 1, frw 8 8, fro 16 16]⟩,
   ⟨0x2240, 2, 8, .const, 0x190A10, [frr 0 7 4 64, frr 8 7 1 100, frr 16 8 10 150]⟩,
   ⟨0x2241, 2, 8, .const, 0, [frw 0 24]⟩,
   ⟨0x2250, 1, 6, .const, 0x3E8, [fkr 0 13 0 5000]⟩] ++
  [⟨0x2300, 4, 32, .const, 0x114, [fkr 0 8 0 150, frw 8 2, fk 10 1]⟩,
   ⟨0x2301, 4, 32, .const, 0, [fk 0 16, fk 16 16]⟩,
   ⟨0x2302, 4, 32, .const, 0, [fro 0 16, fro 16 16]⟩,
   ⟨0x2380, 1, 8, .const, 0x640000, [fro 0 16, fro 16 7, fro 23 1]⟩,
   ⟨0x2388, 1, 1, .const, 110, [fkr 0 8 85 125]⟩,
   ⟨0x23A0, 1, 33, .const, 0, [frw 0 16]⟩,
   ⟨0x2400, 8, 8, .const, 0x1E1432, [frw 0 8, frw 8 8, frw 16 8, fkr 24 2 0 2]⟩,
   ⟨0x2401, 8, 8, .const, 200, [fkr 0 10 50 500, fk 10 1]⟩,
   ⟨0x2402, 8, 8, .const, 0xFFFF, [⟨0, 16, .rwn, []⟩]⟩,
   ⟨0x2403, 8, 8, .const, 0x323C, [frr 0 8 1 240, frr 8 8 1 255]⟩,
   ⟨0x2404, 8, 8, .const, 0x6414, [frr 0 8 1 255, frr 8 8 1 255]⟩,
   ⟨0x2405, 8, 8, .const, 0x2800, [frw 0 1, frw 8 8]⟩,
   ⟨0x2406, 8, 8, .const, 0, [fro 0 3, fro 3 4, fro 7 1, fro 16 16]⟩,
   ⟨0x2407, 8, 8, .mram, 0, [frw 0 32]⟩,
   ⟨0x2500, 16, 4, .const, 0x1440BB8, [fkr 0 16 100 60000, fkr 16 4 1 15, fkr 20 6 8 40, fk 26 2]⟩,
   ⟨0x2501, 16, 4, .const, 0x14051E, [frr 0 8 10 50, frr 8 8 1 50, frr 16 8 1 100]⟩,
   ⟨0x2502, 16, 4, .const, 0x7D0012C, [frr 0 16 10 5000, frr 16 16 0 10000]⟩,
   ⟨0x2503, 16, 4, .const, 0xA0A64, [frr 0 8 10 255, frr 8 8 1 255, frr 16 6 5 50]⟩,
   ⟨0x2504, 16, 4, .const, 0xA1019, [frr 0 8 1 100, frr 8 8 1 255, frr 16 8 1 100]⟩,
   ⟨0x2505, 16, 4, .const, 0x1412C, [fkr 0 12 1 4000, fkr 12 8 4 255]⟩,
   ⟨0x2506, 16, 4, .const, 2000, [fk 0 16]⟩,
   ⟨0x2507, 16, 4, .const, 0, [fk 0 16, fk 16 1]⟩,
   ⟨0x2508, 16, 4, .const, 0, [fro 0 3, fro 3 3, fro 6 2, fro 8 1, fro 16 16]⟩,
   ⟨0x2800, 1, 64, .island, 0x28030009, [fkr 0 2 0 2, fkr 2 3 0 5, fk 5 1, frw 6 1, frw 7 1, frw 8 1, frr 16 8 1 255,
     fkr 24 8 10 200]⟩,
   ⟨0x2840, 1, 1, .island, 0x480, [frr 0 9 16 256, frr 9 3 1 4]⟩,
   ⟨0x2841, 1, 2, .const, 0, [fro 0 32]⟩,
   ⟨0x2843, 1, 2, .island, 0, [fro 0 32]⟩,
   ⟨0x2845, 1, 2, .island, 0, [fw1 0 32]⟩,
   ⟨0x2850, 1, 16, .const, 0, [fro 0 32]⟩]

/-- Blocks NET and STK. -/
def rowsNet : List PRow :=
  [⟨0x3000, 1, 1, .const, 0, [fk 0 1, fk 1 2, fk 3 6]⟩,
   ⟨0x3001, 1, 1, .const, 0x500, [fk 0 29, fk 30 1, fk 31 1]⟩,
   ⟨0x3002, 1, 1, .const, 0x1F4201F4, [fkr 0 11 100 2000, fkr 16 4 1 10, fkr 20 12 0 2000]⟩,
   ⟨0x3003, 1, 1, .const, 0xA1E, [fkr 0 8 1 240, fkr 8 8 0 240]⟩,
   ⟨0x3004, 1, 1, .const, 0, [frw 0 8]⟩,
   ⟨0x3005, 1, 1, .const, 0, [fk 0 16, fk 16 3]⟩,
   ⟨0x3006, 1, 2, .const, 0, [fk 0 32]⟩,
   ⟨0x3008, 1, 1, .const, 0, [frw 0 32]⟩,
   ⟨0x3009, 1, 1, .const, 0, [frw 0 16]⟩,
   ⟨0x300A, 1, 1, .const, 0, [fro 0 1, fro 1 1, fro 2 1, frw 8 8, frw 16 16]⟩,
   ⟨0x300B, 1, 2, .island, 0, [fro 0 32]⟩,
   ⟨0x3010, 2, 4, .const, 0x4B50A4, [fk 0 1, fkr 1 3 0 3, fkr 4 3 0 5, frw 7 1, fkr 8 8 50 90, fkr 16 8 50 90]⟩,
   ⟨0x3011, 2, 4, .const, 0, [fro 0 2, fro 8 8, fro 16 8]⟩,
   ⟨0x3018, 8, 2, .const, 0, [fk 0 1, fk 1 1, fk 2 1]⟩,
   ⟨0x3019, 8, 2, .const, 0, [fro 0 1, fro 1 1, frw 8 8]⟩,
   ⟨0x301A, 8, 2, .const, 0, [fk 0 32]⟩,
   ⟨0x301B, 8, 2, .const, 0, [fk 0 32]⟩,
   ⟨0x301C, 8, 2, .const, 0, [fk 0 32]⟩,
   ⟨0x301D, 8, 2, .ident, 0, [fk 0 32]⟩,
   ⟨0x301E, 8, 2, .ident, 0, [fk 0 16]⟩,
   ⟨0x3028, 1, 1, .const, 1500, [fkr 0 11 576 1500]⟩,
   ⟨0x302C, 1, 1, .island, 0x4B4A4948, [fk 0 7, fk 8 7, fk 16 7, fk 24 7]⟩,
   ⟨0x302D, 1, 1, .island, 0x191906, [fk 0 1, fk 1 7, fkr 8 6 10 35, fkr 16 6 10 35]⟩,
   ⟨0x3030, 1, 2, .const, 0x16, [fk 0 1, fk 1 2, fkr 4 5 1 16]⟩,
   ⟨0x3040, 1, 32, .const, 0xA0C00, [fkr 0 6 0 0x3B, fk 6 1, fkr 7 4 1 8, fk 11 1, fro 12 1, fkr 16 8 1 255]⟩,
   ⟨0x3060, 1, 64, .const, 0, [frw 0 32]⟩,
   ⟨0x3800, 8, 4, .const, 0xC0000, [fk 0 13, fk 13 1, fkr 14 2 0 2, fk 16 1, fk 17 1, fkr 18 3 1 7]⟩,
   ⟨0x3801, 8, 4, .const, 80000, [frr 0 19 1 320000]⟩,
   ⟨0x3802, 8, 4, .const, 0, [fro 0 3, fro 4 4, fro 8 3, fro 16 13]⟩,
   ⟨0x3803, 8, 4, .const, 0, [fro 0 19]⟩,
   ⟨0x3804, 8, 4, .const, 0, [frw 0 19]⟩]

/-- Every row of the manager's parameter map. -/
def paramRows : List PRow := rowsSys ++ rowsEvt ++ rowsRing ++ rowsOut ++ rowsNet

/-- The roles that have a worker parameter (R788). -/
inductive WkWho where
  | cell | meter | both
deriving DecidableEq, Repr

/-- The worker indices (R788), with the role that has each. -/
def wkRows : List (WkWho × PRow) :=
  [(.both, ⟨0x00, 1, 1, .const, 0x31024, [fro 0 16, fro 16 4]⟩),
   (.both, ⟨0x01, 1, 2, .const, 0, [fro 0 16, fro 16 1]⟩),
   (.both, ⟨0x03, 1, 1, .const, 0, [fro 0 2, fro 2 4, fro 16 16]⟩),
   (.cell, ⟨0x08, 1, 1, .const, 24, [frr 0 5 1 24]⟩),
   (.cell, ⟨0x09, 1, 1, .const, 0x5DC10CC, [frw 0 16, frw 16 16]⟩),
   (.both, ⟨0x0A, 1, 1, .const, 0x10352, [frw 0 16, frr 16 3 1 4]⟩),
   (.cell, ⟨0x0B, 1, 1, .const, 0, [frr 0 12 0 2000]⟩),
   (.both, ⟨0x0C, 1, 1, .const, 0x3E80D6B, [frw 0 16, frw 16 16]⟩),
   (.both, ⟨0x0D, 1, 1, .const, 0xFF, [frw 0 8]⟩),
   (.cell, ⟨0x0E, 1, 1, .const, 0x6E0C, [frr 0 5 1 24, frw 8 8]⟩),
   (.cell, ⟨0x0F, 1, 1, .const, 0, [fro 0 24]⟩),
   (.cell, ⟨0x10, 1, 1, .const, 0, [fw1 0 24]⟩),
   (.cell, ⟨0x11, 1, 2, .const, 0, [fro 0 25]⟩),
   (.cell, ⟨0x20, 1, 25, .const, 0, [frw 0 16]⟩),
   (.meter, ⟨0x40, 1, 1, .const, 0x1901388, [fk 0 16, fkr 16 16 1 1000]⟩),
   (.meter, ⟨0x41, 1, 1, .const, 0x10578, [frw 0 16, frr 16 3 1 4]⟩),
   (.both, ⟨0x48, 1, 1, .const, 0x208, [frr 0 8 1 255, frr 8 4 1 15]⟩),
   (.both, ⟨0x49, 1, 1, .const, 0, [frw 0 1, frw 1 1, frw 2 1, frw 16 16]⟩),
   (.both, ⟨0x4A, 1, 1, .const, 0, [fro 0 2, fro 8 4, fro 16 8]⟩)]

/-- Whether a row lists the address. -/
def PRow.lists (r : PRow) (a : Nat) : Bool :=
  r.base ≤ a && (a - r.base) % r.stride == 0 && (a - r.base) / r.stride < r.count

/-- The row that lists an address (R780). -/
def paramRow (a : Nat) : Option PRow := paramRows.find? (fun r => r.lists a)

/-- The row of a worker index in a role: true for a meter worker (R788). -/
def wkRow (meter : Bool) (i : Nat) : Option PRow :=
  (wkRows.find? (fun r => r.2.lists i && (r.1 == .both || (r.1 == .meter) == meter))).map (·.2)

/-- The MAC words of the identity record (NET.MAC): bytes 0 to 3 of interface `i`, or bytes 4 and 5. -/
def macWord (i : Nat) (hi : Bool) : Word :=
  BitVec.ofNat 32 (leNat ((if hi then [4, 5] else [0, 1, 2, 3]).map (fun k => Config.macByte (6 * i + k))))

/-- The reset word of a manager parameter; a fuse or MRAM word reads elsewhere. LED.CURVE[k] rises by 2,048. -/
def paramReset (a : Nat) : Word :=
  if a = 0x301D ∨ a = 0x3025 then macWord ((a - 0x301D) / 8) false
  else if a = 0x301E ∨ a = 0x3026 then macWord ((a - 0x301E) / 8) true
  else if 0x23A0 ≤ a ∧ a ≤ 0x23BF then BitVec.ofNat 32 (0x800 * (a - 0x23A0))
  else if a = 0x23C0 then 0xFFFF#32
  else match paramRow a with
    | some r => BitVec.ofNat 32 r.reset
    | none => 0#32

/-- The reset word of a worker parameter, in the role. -/
def wkReset (meter : Bool) (i : Nat) : Word :=
  match wkRow meter i with
  | some r => BitVec.ofNat 32 r.reset
  | none => 0#32

/-- Whether a word may take the value in that field (R837). -/
def Fld.fits (f : Fld) (v : Nat) : Bool :=
  f.rng.isEmpty || f.rng.any (fun p => p.1 ≤ v && v ≤ p.2)

/-- The word after a write of `v` over `old`: each field by its access (R783), reserved bits 0 (R9). `open k` says
whether a field of that access takes the value. -/
def PRow.apply (r : PRow) (takes : Acc → Bool) (old v : Nat) : Nat :=
  r.flds.foldl (fun w f =>
    let o := fld old f.lo f.wid
    let n := fld v f.lo f.wid
    let x := match f.acc with
      | .w1c => if takes .w1c then ((BitVec.ofNat f.wid o) &&& ~~~(BitVec.ofNat f.wid n)).toNat else o
      | .ro => o
      | .wo => 0
      | k => if takes k then n else o
    setFld w f.lo f.wid x) 0

/-- Whether a field of access `k` would change (R783). -/
def PRow.changes (r : PRow) (k : Acc) (old v : Nat) : Bool :=
  r.flds.any (fun f => f.acc == k && fld old f.lo f.wid != fld v f.lo f.wid)

/-- Whether every written field takes its value (R837). A field that keeps its stored value is not given one. -/
def PRow.inRange (r : PRow) (takes : Acc → Bool) (v : Nat) : Bool :=
  r.flds.all (fun f => f.acc == .ro || f.acc == .w1c || f.acc == .wo || !takes f.acc || f.fits (fld v f.lo f.wid))

/-- Whether every field is read only. -/
def PRow.allRo (r : PRow) : Bool := r.flds.all (fun f => f.acc == .ro)

/-- Whether the parameter counts as RWK (R784). -/
def PRow.isKindling (r : PRow) : Bool := r.flds.any (fun f => f.acc == .rwk)

/-- Whether an image may name it (R786). -/
def PRow.imageMayName (r : PRow) : Bool :=
  r.flds.any (fun f => f.acc == .rw || f.acc == .rwk || f.acc == .rwn || f.acc == .rww)

end Sys2Proof.Machine
end

