-- ==== Sys2Proof/Machine/Tbl.lean ====
section
/-! DEFINITION. Sparse tables: lists of (key, value) pairs, keys strictly rising, no entry equal to the
default. Registers, memories, handle slots, workers and channels are all kept in this one canonical form,
so that equal contents are equal data. -/

namespace Sys2Proof

/-- A sparse table. An unlisted key reads as the default that the reader names. -/
abbrev Tbl (α : Type) := List (Nat × α)

/-- The value at key `k`; `d` where the table lists none. -/
def Tbl.get {α : Type} (d : α) (t : Tbl α) (k : Nat) : α :=
  match t with
  | [] => d
  | (j, v) :: r => if j = k then v else Tbl.get d r k

/-- The table without key `k`. -/
def Tbl.del {α : Type} (t : Tbl α) (k : Nat) : Tbl α :=
  t.filter (fun e => e.1 != k)

/-- The table with `v` inserted at key `k`, ahead of every higher key; `k` itself is listed nowhere. -/
def Tbl.ins {α : Type} (t : Tbl α) (k : Nat) (v : α) : Tbl α :=
  match t with
  | [] => [(k, v)]
  | (j, w) :: r => if k < j then (k, v) :: (j, w) :: r else (j, w) :: Tbl.ins r k v

/-- Writing `v` at key `k`. Writing the default removes the entry, which keeps the form canonical. -/
def Tbl.put {α : Type} [DecidableEq α] (d : α) (t : Tbl α) (k : Nat) (v : α) : Tbl α :=
  if v = d then Tbl.del t k else Tbl.ins (Tbl.del t k) k v

/-- Changing the value at key `k`. -/
def Tbl.upd {α : Type} [DecidableEq α] (d : α) (t : Tbl α) (k : Nat) (f : α → α) : Tbl α :=
  Tbl.put d t k (f (Tbl.get d t k))

/-- The canonical form: keys strictly rising and no entry equal to the default `d`. -/
def Tbl.wf {α : Type} [DecidableEq α] (d : α) : Tbl α → Bool
  | [] => true
  | [(_, v)] => v != d
  | (j, v) :: (k, w) :: r => (v != d) && decide (j < k) && Tbl.wf d ((k, w) :: r)

/-- Optional entries: a present entry, or none where the table lists none. -/
def Tbl.find {α : Type} (t : Tbl α) (k : Nat) : Option α :=
  match t with
  | [] => none
  | (j, v) :: r => if j = k then some v else Tbl.find r k

/-- Setting an optional entry, ahead of every higher key. -/
def Tbl.set {α : Type} (t : Tbl α) (k : Nat) (v : α) : Tbl α :=
  Tbl.ins (Tbl.del t k) k v

/-- A memory: byte cells by address. -/
abbrev Mem := Tbl Byte

/-- What `n` bytes from address `a` read as, an unlisted byte reading as `d`. -/
def Mem.bytes (d : Byte) (m : Mem) (a : Nat) : Nat → List Byte
  | 0 => []
  | n + 1 => Tbl.get d m a :: Mem.bytes d m (a + 1) n

/-- The memory with the bytes `bs` written from address `a`. -/
def Mem.write (d : Byte) (m : Mem) (a : Nat) : List Byte → Mem
  | [] => m
  | b :: bs => Mem.write d (Tbl.put d m a b) (a + 1) bs

/-- The memory with the range `[a, a + n)` reading as the default again. -/
def Mem.clear (m : Mem) (a n : Nat) : Mem :=
  m.filter (fun e => e.1 < a || a + n ≤ e.1)

end Sys2Proof
end

