-- ==== Sys2Proof/Machine/TypesBase.lean ====
section
/-! DEFINITION. State of the supply and bring-up, the command ports, the handles, the events and the watchdog. -/

namespace Sys2Proof.Machine

/-- Where the manager stands (R67). `cold` is no supply; `rest` is the rails-off rest after a rail fault (R139). -/
inductive Phase where
  | cold | fuseLoad | sequencing | rest | coldHold | kindling | lit | doused | banked
deriving DecidableEq, Repr

/-- A record of the always-on island (R130, R143, R732): the event, its ten detail bytes and the RTC at it. -/
structure IslandRec where
  ev : Nat
  detail : List Byte
  rtc : Nat
deriving DecidableEq, Repr

/-- What the always-on island keeps (R49, R52, R130, R143, R299), beside the parameters marked A. -/
structure Island where
  count : Nat
  /-- the next tick takes `count` itself: the first after POR (R49) -/
  fresh : Bool
  rtc : Nat
  /-- µs into the running second -/
  rtcUs : Nat
  recs : List IslandRec
  /-- the wake sources enabled by switches at Cold-hold or Banked entry (R145, R671) -/
  wakeMask : List Nat
  /-- seconds since Banked entry -/
  bankedS : Nat
  /-- the RTC wake timer counts since Banked entry (R154, R155) -/
  rtcRun : Bool
  /-- the trim of the 32.768 kHz oscillator that the last transition to Lit measured (R34), none before the first -/
  oscTrim : Option Nat
  /-- the watchdog's kept settings (R299): seed, period in ms, OPEN_AT and ERR_MAX; none when none are kept -/
  wdgKept : Option (List Nat)
  /-- a wake arrived during sleep entry (R153) -/
  wakePend : Bool
  /-- the rails are held off after a THERMAL reset (R113) -/
  thermalHold : Bool
  /-- differing polls in a row, by input (R672) -/
  polls : Tbl Nat
  /-- pins sensed continuously in Banked (R245) -/
  contPins : List Nat
  /-- the inputs whose comparator read high when they were last sensed (R663) -/
  raws : List Nat
  /-- seconds left of the nap lock (R718) -/
  napS : Nat
  /-- NET.TWADDR and NET.TWCFG as the two-wire target uses them (R723) -/
  twAddr : Nat
  twCfg : Nat
deriving DecidableEq, Repr

/-- What a rail fault changed (R138 to R140), for a collapse of the same tick or sequencing step that is one with it (R158):
PWR.SEQSTAT, SYS.RST_CAUSE, SWI.WAKEREF and the island before it; whether it fell in a tick, as only then a crystal stop may join it
(R825); and the instances whose mirror that tick's Commit had written. -/
structure RailUndo where
  seqstat : Nat
  cause : Nat
  ref0 : Nat
  ref1 : Nat
  island : Island
  ticking : Bool
  mirrors : List Nat
deriving DecidableEq, Repr

/-- A shadow copy in progress (R101): the slot that the image was loaded from, the half written, and the image as it was loaded. -/
structure ShCopy where
  slot : Nat
  half : Nat
  bytes : List Byte
deriving DecidableEq, Repr

/-- The supply, the rails, the boot path and the running configuration: lost at every reset unless said. -/
structure Sys where
  /-- the state of R67 -/
  phase : Phase
  /-- 1 while the path in progress is the warm path -/
  warm : Bool
  /-- SYS.STATE.WARM -/
  lastWarm : Bool
  /-- a douse is pending in Kindling (R80, R81) -/
  dousePend : Bool
  /-- the step of the sequence table in progress (R137) -/
  step : Nat
  /-- the rails enabled, newest first -/
  rails : List Nat
  /-- sequencing waits for VBAT to reach 6.0 V (R136) or for the die to cool (R113) -/
  seqWait : Bool
  /-- the cause bits of a reset due at the end of the next Commit (R181, R295) -/
  resetDue : List Nat
  /-- the system PLL is locked, and the tick runs (R76) -/
  pll : Bool
  /-- ROM boot has ended (R77) -/
  rom : Bool
  /-- enumeration and calibration have finished (R105) -/
  enumDone : Bool
  /-- warm enumeration matched, so the short worker check serves (R104) -/
  enumSame : Bool
  /-- the image loaded, none before a load -/
  image : Option ImageBody
  /-- sleep entry is in progress (R152): 0 no, 1 from acceptance, 2 after its Apply, 3 after its set instant, 4 after its
  Commit, 5 once the SYNC with BANK has left -/
  sleeping : Nat
  /-- the fuse bits as read at the last fuse load: the OR of both copies (R70) -/
  fuseRead : BitVec 2048
  /-- the parameters as the last fuse load left them (R785, R786) -/
  base : Tbl Word
  /-- parameters written by CONFIG_WRITE PARAM since the last fuse load (R786) -/
  paramHold : List Nat
  /-- the running ERASE (0) or COMMIT (1) and its slot (R90) -/
  nvmOp : Option (Nat × Nat)
  /-- release to Lit or Doused waits for the Kindling tick in progress to end (R66) -/
  releaseDue : Bool
  /-- a DOUSE executed in this tick (R303) -/
  douseTick : Bool
  /-- CLEAR_DOUSE was accepted in this tick (R277) -/
  clearDue : Bool
  /-- this tick is the tick in which Doused was entered (R272) -/
  douseEntry : Bool
  /-- restart step: 0 no restart, 1 to 4 the step that comes next (R122) -/
  uvStep : Nat
  /-- rails have not all stayed good for 60 s since they came good (R141) -/
  railClock : Bool
  /-- the crystal oscillator runs (R27, R33) -/
  crystal : Bool
  /-- the reference of the SerDes PLL (R28 to R33): 0 the PLL is stopped, 1 the crystal, 2 the external input -/
  serdes : Nat
  /-- the words of PWR.PDSTAT as they stood when sleep entry began (R841) -/
  pdKept : List Nat
  /-- the rail fault that a collapse may join (R158) -/
  fault : Option RailUndo
  /-- CONFIG_LOAD has run since Kindling was entered (R83) -/
  loaded : Bool
  /-- the shadow copy that is being written (R101, R114) -/
  copying : Option ShCopy
  /-- the tick's phase: 0 none, 1 Gather, 2 sampled, 3 Compute, 4 Apply, 5 set, 6 committed -/
  tph : Nat
deriving DecidableEq, Repr

/-- An event journal entry (R265). -/
structure JEntry where
  index : Nat
  tick : Nat
  ev : Nat
  sev : Nat
  rtc : Nat
  count : Nat
  detail : List Byte
deriving DecidableEq, Repr

/-- A queued request (R166). `due`: a tick began after its receipt. `verif`: 1 while its signature is being
verified (R202), 2 once verified. -/
structure QItem where
  op : Nat
  req : Req
  due : Bool
  verif : Nat
  /-- the clock cycle of its receipt, numbered in order (R168) -/
  cycle : Nat
  /-- an answer that holds EV53, having been received before its instant (R846) -/
  warn : Bool
  /-- an answer that holds the reset of a period which has ended (R846) -/
  ended : Bool
  /-- the question that a correct answer stepped from at its receipt (R290 to R292) -/
  was : Option Nat
deriving DecidableEq, Repr

/-- What a waiting output reply is resolved by at the set instant (R169): the output's kind and number, the lodging
number of the intent, the executor's status if it was refused, and the status of success. -/
structure Await where
  kind : Nat
  chan : Nat
  lodge : Nat
  ok : Nat
deriving DecidableEq, Repr

/-- One reply in execution order (R171): the packet's fields, and what it waits for. -/
structure RSlot where
  op : Nat
  seq : Nat
  crc : Nat
  quiet : Bool
  status : Nat
  tick : Nat
  payload : List Byte
  iface : Nat
  ip : Nat
  udp : Nat
  wait : Option Await
deriving DecidableEq, Repr

/-- An outbound packet (R163): 0 reply, 1 event packet, 2 stream packet, with its destination on Ethernet or, on
CAN, 1 where it goes out on CMD.CANEVTID. -/
structure Pkt where
  kind : Nat
  iface : Nat
  ip : Nat
  udp : Nat
  bytes : List Byte
deriving DecidableEq, Repr

/-- A packet as it left on Ethernet or CAN (R188 to R192): the port, the interface or controller, the UDP source port or the
word of the CAN identifier it went out on, whether in CAN FD frames (R193), and on Ethernet the fragments of its IPv4
payload as (offset, length) (R190). -/
structure NetTx where
  port : Nat
  via : Nat
  src : Nat
  fd : Bool
  frags : List (Nat × Nat)
  pkt : Pkt
deriving DecidableEq, Repr

/-- One command port. -/
structure Port where
  /-- replies in execution order that have not left for the outbound queue -/
  slots : List RSlot
  /-- outbound packets, oldest first (R210) -/
  out : List Pkt
  /-- SEQ, CRC and reply of the last 8 executed requests, oldest first; no reply where QUIET left it out (R173) -/
  last : List (Nat × Nat × Option Pkt)
  /-- the outstanding nonce: its sixteen bytes, the first and the last tick in which it is valid (R198) -/
  nonce : Option (List Byte × Nat × Nat)
  /-- the event sequence (R264) -/
  evSeq : Nat
deriving DecidableEq, Repr

/-- One handle slot (R212). The generation held is `closes` above the base of this release (R218, R220). -/
structure HSlot where
  closes : Nat
  isOpen : Bool
  cls : Nat
  res : Nat
  writer : Bool
  excl : Bool
  force : Bool
  /-- 0 to 3 ports, 4 to 7 SK0 to SK3 -/
  opener : Nat
  period : Nat
  /-- the generator bound or held -/
  pg : Option Nat
  /-- the GENERATOR handle of the last accepted BIND, 0 for none -/
  bindH : Nat
  /-- the class data as opened -/
  cdata : List Byte
  /-- TIMER: its generator's PG.RELOADS when it opened -/
  mark : Nat
deriving DecidableEq, Repr

/-- A subscription of EVENT_SUBSCRIBE, by the slot of its handle (R262). -/
structure Subs where
  port : Nat
  mask : Nat
  /-- the interface on which EVENT_SUBSCRIBE arrived (R706) -/
  iface : Nat
  ip : Nat
  udp : Nat
deriving DecidableEq, Repr

/-- What closing a writer does at the set instant of the next tick (R224). `age` counts ticks begun since; `pg` is the
generator that the resource stays bound to until then (R232), and `slot` the slot that the handle had. -/
structure CloseAct where
  cls : Nat
  res : Nat
  age : Nat
  pg : Option Nat
  slot : Nat
deriving DecidableEq, Repr

/-- A pending HOPEN or HCLOSE of a core (R227): the register for the result, and the packed request. -/
structure HReq where
  core : Nat
  isOpen : Bool
  gd : Nat
  cls : Nat
  flags : Nat
  res : Nat
  data : Nat
  handle : Nat
deriving DecidableEq, Repr

/-- The handle table and its waiting work. -/
structure Hdl where
  base : Nat
  slots : Tbl HSlot
  /-- writer roles freed at the end of this tick (R250) -/
  leaving : List (Nat × Nat)
  acts : List CloseAct
  subs : Tbl Subs
  reqs : List HReq
deriving DecidableEq, Repr

/-- Occurrences of one source in this tick (R266). -/
structure Occ where
  ev : Nat
  sev : Nat
  count : Nat
  detail : List Byte
  rtc : Nat
  island : Bool
deriving DecidableEq, Repr

/-- The event system's working state, beside the EVT parameters. -/
structure Evt where
  /-- occurrences of this tick, not yet in the journal -/
  occ : List Occ
  /-- held severity of each latched event (R844) -/
  held : Tbl Nat
  /-- level conditions that hold: event, item and DETAIL, without repeats, newest first -/
  conds : List (Nat × Nat × List Byte)
  /-- an event of severity DOUSE has occurred and the entry to Doused is due in this step -/
  douse : Bool
deriving DecidableEq, Repr

/-- The watchdog, beside WDG.STAT. Ages are in µs. -/
structure Wdg where
  /-- paused at Doused entry (R301) -/
  paused : Bool
  /-- it runs on its configured or kept values, not on those of R288 -/
  cfg : Bool
  seed : Nat
  periodMs : Nat
  openAt : Nat
  errMax : Nat
  /-- periods started; an answer is for the period at its receipt -/
  period : Nat
  /-- the last period that took its length from WDG.PERIOD (R289, R296, R297) -/
  loaded : Nat
  /-- the period has ended without a correct answer, and the reset is due -/
  expired : Bool
deriving DecidableEq, Repr

/-- The non-volatile contents of the part: fuses, flash and MRAM outside the ledger (R17, R70, R82). -/
structure Nvm where
  /-- the fuse array (R69) -/
  fuses : BitVec 4096
  /-- the configuration flash, both slots (R82) -/
  flash : Mem
  /-- the configuration shadow by offset from 0x0025_0000 (R100) -/
  shadow : Mem
  /-- the half recorded as current (R101) -/
  shadowCur : Option Nat
  /-- the slot recorded for each half (R101) -/
  shadowSlot : Tbl Nat
  /-- the halves whose copy was abandoned: they fail verification until they are written again (R114) -/
  torn : List Nat
  /-- the instances whose mirror write a collapse abandoned, until EV57 is journalled (table "Coinciding conditions" of the ledger
  chapter) -/
  mirCut : List Nat
  /-- the event journal, by INDEX modulo 8,192 (R265) -/
  journal : Tbl JEntry
  /-- INDEX of the next entry (EVT.JRNL) -/
  jnext : Nat
  /-- HDL.EPOCH.STORED (R220) -/
  epoch : Nat
  /-- Doused at Banked entry (R68) -/
  bankedDoused : Bool
  /-- the user area by offset (R178) -/
  user : Mem
  /-- Stoker program store: instruction words by core × 8192 + address (R762) -/
  imem : Tbl Word
  /-- Stoker program store: data words with their tags by core × 4096 + address -/
  dmem : Tbl (BitVec 36)
  /-- cores whose store has ever been loaded (R739) -/
  stored : List Nat
  /-- HB positions and their trust (R637) -/
  hbPos : Tbl Word
  hbValid : List Nat
  /-- the wear counters by index from LEDG.WEAR_OPS[0] (R510) -/
  wear : Tbl Nat
  /-- words found uncorrectable and not yet rewritten (R18) -/
  bad : List Nat
  /-- a RELIGHT_COUNT bit has burnt, and the slots of R508 are not yet written (R835) -/
  relit : Bool
  /-- the workers' serials by ring at Banked entry (R104) -/
  seen : List (Nat × List Nat)
deriving DecidableEq, Repr

end Sys2Proof.Machine
end

