-- ==== Sys2Proof/Machine/TypesNet.lean ====
section
/-! DEFINITION. State of the Stoker cores, the networks and the two-wire target. -/

namespace Sys2Proof.Machine

/-- A word with its tag in [35:32] (R735). -/
abbrev TWord := BitVec 36

/-- What the last HWR of a core on a handle settled with (R759): its lodging number while open, then the status. -/
structure HwrRes where
  handle : Nat
  lodge : Option Nat
  status : Nat
deriving DecidableEq, Repr

/-- A Stoker core (R735), beside STK.STAT, STK.CYC and STK.CYCMAX. -/
structure Core where
  imem : Tbl Word
  dmem : Tbl TWord
  regs : Tbl TWord
  /-- the return stack, newest first -/
  rstack : List Nat
  pc : Nat
  /-- a slice is open, and its cycles so far (R770) -/
  slice : Bool
  cycles : Nat
  /-- STK.BUDGET as the slice began (R772) -/
  budget : Nat
  /-- it halts at the end of the slice (R180, R272) -/
  haltDue : Bool
  /-- it starts at ENTRY at the next tick (R278, R766), or runs by STOKER_RUN (R773) -/
  startDue : Bool
  runDue : Bool
  /-- instructions left of STOKER_STEP (R774) -/
  steps : Option Nat
  results : List HwrRes
  /-- STOKERPROG writes of this tick (R762): core, address and word -/
  writes : List (Nat × Nat × TWord)
  /-- the data memory at 0.30 T of this tick (R762) -/
  snap : Tbl TWord
deriving DecidableEq, Repr

/-- A keep-alive node as last heard (R713): its flags, byte 2, and µs since, saturating. -/
structure KaNode where
  need : Bool
  ready : Bool
  byte2 : Nat
  us : Nat
deriving DecidableEq, Repr

/-- A LIN port (R699): the entry of the next slot, the ticks until that slot begins, the entry whose slot has begun, and the
entries whose last slot ended without error. -/
structure LinPort where
  next : Nat
  wait : Nat
  cur : Option Nat
  good : List Nat
deriving DecidableEq, Repr

/-- The networks (R693 to R734), beside the NET parameters. -/
structure Net where
  ka : Tbl KaNode
  /-- µs since the first Lit tick (R709), none before it -/
  litUs : Option Nat
  /-- the local need of the last tick start -/
  need : Bool
  /-- the tick in which the running preparation began (R714) -/
  prep : Option Nat
  /-- nodes heard with NEED while the awake timer ran -/
  seen : Nat
  /-- keep-alive frames have stopped (R717) -/
  stopped : Bool
  /-- the sleep entry of an ended preparation is under way, in which the frames keep SLEEP_READY at 1 (R716) -/
  ready : Bool
  /-- µs since the last keep-alive frame, and whether a change of the local need makes one due (R711) -/
  kaUs : Nat
  kaDue : Bool
  /-- the silence timer and the awake timer, in µs (R714, R717) -/
  silentUs : Nat
  awakeUs : Nat
  /-- the coming Banked entry is by R717 -/
  napDue : Bool
  lin : Tbl LinPort
  /-- bus-off controllers that a write of AUTOREC lets recover (R696) -/
  canFree : List Nat
  /-- the outbound CAN message of several frames that waits for flow control, and the bytes of the inbound one so far (R195) -/
  canTx : Option Pkt
  canRx : List Byte
  /-- resolved neighbours by IPv4 address (R705) -/
  arp : Tbl Nat
  /-- pointers of the status, event and ledger windows, and their selections (R726, R729, R730) -/
  twPtr : Tbl Nat
  evIdx : Nat
  ldIdx : Nat
  /-- bytes the target has acknowledged of the last transaction, and whether each window answered -/
  twAck : Bool
  twOut : List Byte
deriving DecidableEq, Repr

end Sys2Proof.Machine
end

