-- ==== Sys2Proof/Machine/TypesOut.lean ====
section
/-! DEFINITION. State of the outputs: intents, load switches, generators. -/

namespace Sys2Proof.Machine

/-- A write intent (R203). `kind` is the handle class of the output; `chan` its number, or the worker resource of a
station output; `src` 0 to 3 a port, 4 to 7 a core, 8 internal protection or the Doused state; `lodge` numbers the
lodgings of the tick; `a`, `b`, `c`, `d` carry the value as the class defines it; `excl` the handle's EXCLUSIVE flag. -/
structure Intent where
  kind : Nat
  chan : Nat
  src : Nat
  lodge : Nat
  excl : Bool
  a : Nat
  b : Nat
  c : Nat
  d : Nat
deriving DecidableEq, Repr

/-- What arbitration answered an intent (R203, R205), by lodging number: a status, and for a valve its start. -/
structure Verdict where
  lodge : Nat
  status : Nat
  tick : Nat
  us : Nat
deriving DecidableEq, Repr

/-- A load switch, beside HS.STAT, HS.PWM, HS.PWMSH and HS.PWMSTAT. -/
structure HsCh where
  /-- the commanded state of R552: off, or on, when not bound -/
  cmdOn : Bool
  /-- a retry or a cleared trip returns it to its commanded state at the next set instant (R567) -/
  retry : Bool
  /-- it has tripped in this tick (R571) -/
  tripped : Bool
  /-- counted ticks in a row below, and at or above, OLTH (R574) -/
  below : Nat
  above : Nat
  /-- the comparator's reading of the follow input, once it has stood for HS.FOLLOW.FILT while DIN is open (R576) -/
  follow : Option Bool
  /-- the channel has been stopped from following by Doused (R270) -/
  unfollow : Bool
  /-- the generator it is bound to in force, and the one it moves to at the set instant (R238) -/
  movePg : Option (Option Nat)
  /-- clocks from the last reload to the first rising edge at the values in force (R561) -/
  rise : Nat
  /-- clocks from the last rising edge to the last reload -/
  ago : Nat
  /-- clocks from the last reload to the end of the pulse that began before it, with the on-time it began with; 0 with none
  (R554, R560) -/
  carry : Nat
  /-- contactor: 0 open, 1 pull-in, 2 hold (R580) -/
  cont : Nat
  /-- opened by ALARM in this tick: an on intent does not close it (R582) -/
  alarmed : Bool
  /-- its economiser's generator (R240) -/
  econPg : Option Nat
  /-- an ECONHOLD write reaches the shadow at this tick's set instant (R588) -/
  econPend : Bool
  /-- a pulse of at least 2 µs was measured this tick: the current that open load counts (R573) -/
  olMa : Option Nat
  /-- its shadow was written at the last set instant: the word it held before (R559) -/
  shPrev : Option Nat
  /-- ticks begun since its last trip, up to 1,000 (R566, R570) -/
  quiet : Nat
  /-- its driver waits for its restart step after an undervoltage (R122) -/
  uvOff : Bool
deriving DecidableEq, Repr

/-- A pulse generator (R553): its period in ns, 0 when free, and whether it has reloaded since its claim. -/
structure PgCh where
  period : Nat
  /-- the claim's set instant has passed, and the generator counts (R557) -/
  counting : Bool
deriving DecidableEq, Repr

/-- The running weld check (R584): the channel whose opening started it, the tick of that opening, and whether it fell no later than
that tick's sample instant. -/
structure Weld where
  chan : Nat
  tick : Nat
  early : Bool
deriving DecidableEq, Repr

/-- A planned or running valve event (R600): instants in µs, counted as tick × T + µs. `stop` is its turn-off by ON
time, none with ON at 0, and `kill` the requested start of an accepted STOP (R604). -/
structure VEvent where
  start : Nat
  prof : Nat
  stop : Option Nat
  kill : Option Nat
deriving DecidableEq, Repr

/-- A reserved peak window (R600). -/
structure VWin where
  chan : Nat
  start : Nat
  stop : Nat
deriving DecidableEq, Repr

/-- A valve channel, beside VLV.STAT. `stopped` is the instant its last profile ended. -/
structure VlvCh where
  cur : Option VEvent
  queued : Option VEvent
  stopped : Nat
deriving DecidableEq, Repr

/-- A running fade (R613): from, to, length and place in ticks. -/
structure Fade where
  b0 : Nat
  b1 : Nat
  f : Nat
  k : Nat
deriving DecidableEq, Repr

/-- A move of a bridge (R626): direction 1 or 2, mode 0 run, 1 pulse, 2 position, and what is left of it. -/
structure Move where
  dir : Nat
  mode : Nat
  left : Nat
deriving DecidableEq, Repr

/-- What EV30 of a bridge found when it was raised, so that an abort of the same tick can take it back (R661): whether it was enabled and
latched, its held severity, its own, and the instances whose span had no mark of it. -/
structure Ev30Undo where
  on : Bool
  latched : Bool
  held : Nat
  sev : Nat
  fresh : List Nat
deriving DecidableEq, Repr

/-- An H-bridge, beside HB.STAT and HB.POS. -/
structure HbCh where
  /-- the move driving -/
  move : Option Move
  /-- the move that starts after the dead time (R629, R633, R662) -/
  next : Option Move
  /-- the drive backs off after an obstruction (R633) -/
  backing : Bool
  /-- its start is commanded by the Doused pulse (R658) -/
  doused : Bool
  /-- the move that overvoltage coast holds (R117, R660) -/
  held : Option Move
  movePg : Option (Option Nat)
  /-- HB.RUN's duty in the shadow and in force (R625) -/
  dutySh : Nat
  duty : Nat
  /-- an HB.RUN write reaches the shadow at this tick's set instant -/
  runPend : Bool
  /-- the shadow was written at the last set instant: the duty it held before (R559, R625) -/
  shPrev : Option Nat
  /-- a rule of another chapter has ended its move in this tick (R661) -/
  aborted : Bool
  /-- its move has ended in this tick by a stall, ripple loss or trip, with what its EV30 found (R661) -/
  judged : Option Ev30Undo
  /-- the direction that it drove when Doused began, 0 where it did not drive (R662) -/
  douseDir : Nat
  /-- the direction driven last, and the current at the last obstruction, in 10 mA -/
  dir : Nat
  cur : Nat
deriving DecidableEq, Repr

/-- A motor, beside MOT.STAT. -/
structure MotCh where
  target : Int
  ramp : Nat
  /-- EV32 is still to come for the last MOTOR_START (R647) -/
  starting : Bool
  /-- the observed speed in signed rpm (R656) -/
  speed : Int
  /-- a ramp-down under way: 0 none, 1 to coast (R649), 2 to brake and a new start (R648) -/
  down : Nat
  /-- it coasts before a re-catch (R651) -/
  recatch : Bool
  /-- it was under way when overvoltage coast or undervoltage stopped it (R126, R660) -/
  held : Bool
  /-- the brake stays until the next start (R649) -/
  braked : Bool
deriving DecidableEq, Repr

/-- A switch input (R663, R664, R666): the comparator's reading, the debounced level and the differing samples in a row. -/
structure SwCh where
  raw : Bool
  level : Bool
  cnt : Nat
  /-- the wetting current that it was last sensed with, in mA: a source from VBAT is positive, a sink to ground negative (R664) -/
  wet : Int
deriving DecidableEq, Repr

end Sys2Proof.Machine
end

