-- ==== Sys2Proof/Machine/TypesRing.lean ====
section
/-! DEFINITION. State of the workers, and of the manager's rings, capture, ledger and partner link. -/

namespace Sys2Proof.Machine

/-- A sense wire that is suspect or open (R403). `last`: 0 none, 1 INTACT, 2 INDETERMINATE, 3 OPEN. -/
structure Wire where
  isOpen : Bool
  hold : Nat
  last : Nat
  /-- the source sample of the test in progress, in µV (R399) -/
  src : Option Int
  /-- INTACT routine tests in a row (R412) -/
  clear : Nat
deriving DecidableEq, Repr

/-- A worker's fault journal entry (R316). -/
structure WkJ where
  index : Nat
  tick : Nat
  code : Nat
  timing : Nat
  rtc : Nat
  item : Nat
  value : Nat
deriving DecidableEq, Repr

/-- An impedance run on a worker (R419 to R428). -/
structure WkImp where
  /-- the class data: IMP_DATA words 0 to 10 -/
  words : List Nat
  slot : Nat
  point : Nat
  repeats : Nat
  /-- the point converts now; otherwise its start is awaited -/
  running : Bool
  /-- tick of the point's last start -/
  tick : Nat
  /-- the cells that the running point excites, and the phase of each in degrees (R423, R428) -/
  drive : List (Nat × Nat)
  /-- cells beside a wire that has become suspect during the run: not excited, and invalid, from then on -/
  bad : List Nat
deriving DecidableEq, Repr

/-- The flare unit of a worker (R437 to R446). `st`: 0 idle, 1 armed, 2 recording after the trigger, 3 held. -/
structure WkFlare where
  mode : Nat
  rate : Nat
  trig : List Nat
  st : Nat
  tick : Nat
  offset : Nat
  group : Bool
  short : Bool
  /-- the tick at whose set instant it was armed (R442) -/
  arm : Nat
  rows : List (List Nat)
deriving DecidableEq, Repr

/-- The meter side of a worker (R455 to R474): totals in µWh and µAh with their remainders in mV·mA and mA
conversions, the slot pair, and the flags its slots carry. -/
structure WkMeter where
  eIn : Nat
  eOut : Nat
  qIn : Nat
  qOut : Nat
  rIn : Nat
  rOut : Nat
  sIn : Nat
  sOut : Nat
  slot0 : Option AccSlot
  slot1 : Option AccSlot
  seq : Nat
  segment : Nat
  /-- SEQ of the valid slot found at the last power-up (R470) -/
  kept : Nat
  rtc : Nat
  rtcUs : Nat
  fresh : Bool
  abandoned : Bool
  chkUsed : Bool
  blind : Bool
deriving DecidableEq, Repr

/-- A worker (R16, R309 to R347, R367 to R418, R674 to R692). -/
structure Wk where
  /-- 0 unpowered, 1 running, 2 Banked -/
  mode : Nat
  meter : Bool
  serial : Nat
  /-- 0 when it has taken no address -/
  addr : Nat
  params : Tbl Word
  /-- its MRAM holds a configuration -/
  hasCfg : Bool
  restarted : Bool
  /-- receive lanes lost: from the end-A side, from the end-B side -/
  lostA : Bool
  lostB : Bool
  /-- it sends toward the other end after a LANE_LOSS from its primary end (R354): 0 A, 1 B -/
  toEnd : Nat
  tick : Nat
  period : Nat
  slow : Bool
  /-- a primary SYNC was taken in this tick, and from which end (R319) -/
  sync : Option Nat
  /-- ticks in a row without one -/
  fly : Nat
  own : Bool
  /-- what of its tick it has done: 0 the sample at most, 1 the set instant, 2 the Commit -/
  tphase : Nat
  /-- Banked at the end of this tick (R322) -/
  bank : Bool
  /-- time 0 in 0.5 ns after the nominal start (R319) -/
  zero : Int
  /-- LEASE frames since the last sample instant: RENEW with the current epoch, CLAIM A, CLAIM B, RELEASE -/
  lsRenew : Bool
  lsA : Bool
  lsB : Bool
  lsRel : Bool
  /-- staged words of this tick by command index (R315) -/
  staged : Tbl Nat
  /-- accepted commits waiting for the set instant or the Commit -/
  pend : List (Nat × Nat × List Nat)
  held : List ResultRec
  /-- breaches in a row by 256 × cause + item (R381) -/
  hard : Tbl Nat
  /-- last good readings in µV, by cell from 1 -/
  good : List Int
  /-- last readings not disturbed by a test -/
  calm : List Int
  /-- the stack less the cell sum, at the last good sample -/
  stackDiff : Int
  wires : Tbl Wire
  /-- the routine test: 0 none, else the tick of four that comes next (R413) -/
  rt : Nat
  /-- this tick is one of a routine test's four (R414) -/
  rtNow : Bool
  rtDue : Bool
  /-- the source readings of the routine test by wire, none where the sample had none -/
  rtSrc : List (Option Int)
  /-- an accelerated test holds its current into the next sample: the wire, and whether it sources -/
  owNow : Option (Nat × Bool)
  balMask : Nat
  balLeft : Nat
  hot : Bool
  /-- the value word of the station outputs in force, and trips -/
  outs : Nat
  trips : Nat
  stMiss : Nat
  stSafe : Bool
  /-- the refresh accepted for this tick's set instant -/
  refresh : Option Nat
  di : Nat
  diCnt : List Nat
  meterU : WkMeter
  journal : Tbl WkJ
  jnext : Nat
  shards : Tbl (List Word)
  imp : Option WkImp
  raw : List (List Nat)
  rawTick : Nat
  flare : WkFlare
  /-- ember tone: sending its own burst, hearing it on lane A, on lane B -/
  ember : Bool
  /-- a breach of Banked is to be told in the first RESULT (R350) -/
  emberTold : Bool
  /-- the INDEX of its first fault journal entry since it last entered Banked (R350) -/
  bankFrom : Nat
  refBad : Bool
  /-- its frames' SEQ -/
  seq : Nat
  /-- frames it sends in the next tick: type and payload (R450) -/
  out : List (Nat × List Byte)
deriving DecidableEq, Repr

/-- A frame that left a ring end (`dir` 0 A, 1 B) or a worker (`dir` toward 0 A, 1 B): its header, without LEN, and the payload
(R309). -/
structure Frame where
  ring : Nat
  dir : Nat
  addr : Nat
  kind : Nat
  flags : Nat
  seq : Nat
  body : List Byte
deriving DecidableEq, Repr

/-- A worker parameter request whose reply waits for the ACK (R789). -/
structure PWait where
  port : Nat
  seq : Nat
  lodge : Nat
  rseq : Nat
  read : Bool
deriving DecidableEq, Repr

/-- What the manager knows of the worker at an address. -/
structure View where
  serial : Nat
  meter : Bool
  /-- enumerated -/
  here : Bool
  lost : Bool
  miss : Nat
  /-- this tick's result was held at 0.30 T -/
  got : Bool
  /-- results held, newest first, with LATE -/
  res : List (ResultRec × Bool)
  owner : Nat
  lapsed : Bool
  epoch : Nat
  /-- the last manager that was named as owner (R526) -/
  named : Nat
  /-- the commanded value word of its station outputs (R678) -/
  cmd : Nat
  /-- refreshes in a row without ACK (R684) -/
  unack : Nat
  /-- this tick's refresh: 0 none sent, 1 sent, 2 acknowledged, 3 refused NOT_OWNER -/
  ack : Nat
  /-- the SEQ of this tick's refresh, and its value word -/
  refSeq : Nat
  refVal : Nat
  /-- the value word of the last acknowledged refresh, or the safe one (R54) -/
  heldVal : Nat
  /-- a station record was received since release (R687) -/
  stn : Bool
  /-- the wires known as suspect (R398) -/
  susp : List Nat
  sumOver : Nat
  sumIn : Nat
  dis : Nat
  waits : List PWait
  /-- RESTARTED was seen and its configuration must be rewritten first (R365) -/
  reconf : Bool
  /-- the tick and the value of the last current for the quiet-current rule (R429) -/
  lastI : Option (Nat × Int)
  /-- the first result after an ember wake is to raise its cell event (R350) -/
  told : Bool
deriving DecidableEq, Repr

/-- A ring at the manager, beside FLUE.RINGSTAT. -/
structure Ring where
  /-- serials in address order as enumerated -/
  serials : List Nat
  /-- the far segment's count, waiting for ASSIGN_B (R351) -/
  far : Option Nat
  /-- the partner runs it: joined without ENUM (R528) -/
  joined : Bool
  /-- SLOW of the partner's last SYNC on it (R528) -/
  slow : Bool
  /-- 0 not enumerated, 1 enumerated, 2 calibrated from the ends that reach each worker (R352), 3 from both (R336) -/
  cal : Nat
  /-- frames sent on this ring wrap their SEQ -/
  seq : Nat
deriving DecidableEq, Repr

/-- The result of an impedance point (R431, R450). -/
structure ImpPoint where
  status : Nat
  repeats : Nat
  valid : Nat
  tick : Nat
  freq : Nat
  z : List (Int × Int)
deriving DecidableEq, Repr

/-- An impedance run at the manager, by handle slot, or 2,048 above it once the handle is closed (R224). `status`: 0 running,
else 1 + the run status of EV18. `stepTick` is the tick of the last current step counted (R430). -/
structure ImpMgr where
  w : Nat
  words : List Nat
  status : Nat
  done : Nat
  cur : Nat
  repeats : Nat
  stepTick : Option Nat
  points : Tbl ImpPoint
deriving DecidableEq, Repr

/-- A FLARE_READ whose samples are on their way (R317, R444): the reply it settles, the worker and READ it waits for, the
first sample, and what has come. -/
structure FRead where
  port : Nat
  lodge : Nat
  w : Nat
  rseq : Nat
  first : Nat
  kind : Nat
  flags : Nat
  tick : Nat
  offset : Nat
  rows : List (List Nat)
deriving DecidableEq, Repr

/-- A trigger that goes to a group's other flares from a tick on (R440). -/
structure FGroup where
  group : Nat
  tick : Nat
  offset : Nat
  due : Nat
deriving DecidableEq, Repr

/-- A flare at the manager, by handle slot, or 2,048 above it once the handle is closed (R224). `st`: 0 idle, 1 armed, 2
triggered, 3 held, 4 streaming. -/
structure FlrMgr where
  w : Nat
  mode : Nat
  rate : Nat
  ip : Nat
  udp : Nat
  st : Nat
  trig : List Nat
  tick : Nat
  offset : Nat
  read : Bool
  seq : Nat
  gap : Bool
  /-- of the stream's last frame: its tick, and the index that follows it (R451) -/
  idx : Option (Nat × Nat)
deriving DecidableEq, Repr

/-- The span data of a ledger instance (R481, R537). -/
structure Span where
  startTick : Nat
  startRtc : Nat
  tflags : Nat
  cellMin : Nat
  cellMax : Nat
  cellMinLoc : Nat
  cellMinNo : Nat
  cellMaxLoc : Nat
  cellMaxNo : Nat
  /-- µs in each bin, with the remainder of earlier turfs -/
  hist : List Nat
  disMax : Nat
  disTicks : Nat
  blindTicks : Nat
  evtMap : Nat
  evtCounts : List Nat
  contOps : List Nat
  /-- mA²·ms broken -/
  contI2t : List Nat
  vlv : List Nat
deriving DecidableEq, Repr

/-- A ledger instance (R475 to R511). The mirror slots, the binding and the turf journal stand in MRAM. -/
structure Inst where
  m0 : Option AccSlot
  m1 : Option AccSlot
  bind : Binding
  turfs : Tbl Turf
  newest : Nat
  acked : Nat
  /-- a turf has been acknowledged: until then LEDG.TURFACK, at 0, acknowledges none (R485) -/
  ackAny : Bool
  any : Bool
  span : Span
  /-- of an instance that the partner owns: what each tick of the span adds, newest first (R537) -/
  adds : List (Nat × Span)
  /-- µs left in each bin when the last turf's seconds were rounded down (R481) -/
  rems : List Nat
  /-- totals at the end of the previous turf -/
  base : List Nat
  /-- turfs of ended spans, waiting to be signed and written (R483) -/
  due : List Turf
  lastRec : Option MeterRec
  recTick : Nat
  /-- its record arrived in this tick, not yet mirrored (R477) -/
  fresh : Bool
  /-- tick in which the mirror was last written from a record (R479) -/
  mirTick : Option Nat
  /-- tick of the record that the mirror was last written from (R479) -/
  mirRec : Option Nat
  /-- a snapshot is due in the next Apply, and in the Apply of the next tick (R491) -/
  snapNow : Bool
  snapNext : Bool
  /-- a slot to write to the meter worker in the next Apply, and whether the mirror takes it too (R500, R508) -/
  slotOut : Option (AccSlot × Bool)
  /-- the slot that this tick's Apply wrote, which the mirror takes in the Commit (R500, R508) -/
  slotSent : Option AccSlot
  /-- this manager owned it at the last RESULT (R536) -/
  mine : Bool
deriving DecidableEq, Repr

/-- The partner link (R512 to R544), beside PART.STAT. -/
structure Part where
  /-- valid BEATs in a row while the link is down -/
  beats : Nat
  seq : Nat
  /-- frames sent and not yet acknowledged: (SEQ, type, body) (R518) -/
  unacked : List (Nat × Nat × List Byte)
  /-- since the link came up, the partner's RESYNC has not been answered (R541) -/
  resync : Bool
  /-- the instances of the partner whose binding is still to come in answer to this manager's RESYNC -/
  awaits : List Nat
  /-- µs for which the partner's BEATs have shown Kindling -/
  kindUs : Nat
  /-- the partner's frames reached a ring end in this tick -/
  heard : Bool
  /-- the source's period code -/
  period : Nat
  /-- yielding after a reunion, and the counter to take (R535) -/
  slew : Option Nat
  /-- counter of the source to take at the next tick (R63) -/
  follow : Option Nat
  /-- the first aligned tick has begun, and the source's period is in force (R41, R63) -/
  aligned : Bool
  /-- this manager has taken the source's role over since it reached Kindling (R62) -/
  tookOver : Bool
  /-- sleep was begun by this manager (R534) -/
  sleep : Bool
  /-- the handback may begin (R527) -/
  handback : Bool
  /-- instances of which a turf was written in this tick, and in the one before (R527) -/
  turfDone : List Nat
  turfLast : List Nat
  /-- a valid BEAT came in this tick (R517) -/
  beat : Bool
  /-- the partner's RESYNC came before this manager declared the link up: the LEDG.TURFNEW that it carried (R541) -/
  asked : Option (List Nat)
deriving DecidableEq, Repr

end Sys2Proof.Machine
end

