-- ==== Sys2Proof/Machine/State.lean ====
section
/-! DEFINITION. The state of the block: one manager, its supply and stored contents, the workers on its rings, and
the queue of waiting commands. Everything is plain data, and what a table does not list is at its default. -/

namespace Sys2Proof.Machine

/-- Why a step stops with a fault. -/
inductive Fault where
  /-- Raised by OV_COAST_ENTRY and the other commands that present a supply above 58 V (R117, R818): the manual does
  not describe the part there. Safe: the model stops where the part's behaviour is not described. -/
  | outsideRatings
deriving DecidableEq, Repr

/-- Why a step is refused. -/
inductive Refusal where
  /-- Raised by the dispatcher for a command without a meaning. Safe: the model stops. -/
  | notModelled (mnemonic : String)
deriving DecidableEq, Repr

/-- The outputs of the two power dies, and the switch inputs. -/
structure Outs where
  hs : Tbl HsCh
  pg : Tbl PgCh
  weld : Option Weld
  vlv : Tbl VlvCh
  wins : List VWin
  fades : Tbl Fade
  /-- the derating factors that apply at the next set instant, by group, in thousandths and as LED.GSTAT shows them in % (R616) -/
  nextF : Tbl (Nat × Nat)
  /-- the derating factor in force of a group, in thousandths, 1000 where none is listed (R611, R616) -/
  factor : Tbl Nat
  hb : Tbl HbCh
  mot : Tbl MotCh
  sw : Tbl SwCh
  /-- the inputs have been sampled since entry to Kindling (R666) -/
  swInit : Bool
  /-- inputs whose debounced level changed at this tick's sample, for EV36 (R667) -/
  swChg : Nat
  /-- rail voltages at the last sample instant, mV -/
  railMv : Tbl Nat
  /-- samples in a row above, and below, the die warning thresholds: logic, P0, P1 (R824) -/
  dieHot : Tbl Nat
deriving DecidableEq, Repr

/-- The command ports' shared state. -/
structure Cmd where
  ports : Tbl Port
  /-- waiting requests in order of receipt (R168) -/
  queue : List QItem
  intents : List Intent
  winners : List Intent
  verdicts : List Verdict
  lodge : Nat
  /-- the number of the clock cycle of the newest receipt (R168) -/
  cycle : Nat
  /-- what the arbitration has decided for output replies, by lodging number -/
  closed : Bool
  /-- the masks of the RELIGHTs that wait for their burn, oldest first (R508) -/
  relights : List Nat
  /-- of RELIGHTs whose bit has burnt: the mask, and whether its slots have gone out (R508) -/
  burnt : List (Nat × Bool)
deriving DecidableEq, Repr

/-- The manager's side of the rings. -/
structure Flue where
  rings : Tbl Ring
  views : Tbl View
  /-- ticks in a row in which a judged value was beyond, and inside, each soft limit, by event (R378) -/
  softOver : Tbl Nat
  softIn : Tbl Nat
  imps : Tbl ImpMgr
  flares : Tbl FlrMgr
  reads : List FRead
  groups : List FGroup
  /-- SHARD_COMMITs of this tick that wait for their ACK: the worker, the SEQ, the instance (R494) -/
  shardAck : List (Nat × Nat × Nat)
  /-- frames to send in the next Apply: the worker, 65,536 × sort + index, and the value; sorts 1 and 3 are WRITE kinds,
  16 + k a READ of kind k -/
  apply : List (Nat × Nat × Nat)
deriving DecidableEq, Repr

/-- What has left the part since the present tick began. -/
structure Sent where
  /-- bytes shifted out on SDO in the last SPI frame (R185) -/
  sdo : List Byte
  /-- packets on CAN and Ethernet -/
  net : List NetTx
  /-- other network frames: 16 + controller for CAN, 32 + port for LIN, 48 + interface for Ethernet -/
  raw : List (Nat × List Byte)
  ring : List Frame
  worker : List (Nat × Frame)
  part : List (Nat × List Byte)
deriving DecidableEq, Repr

/-- What the manager-side channels held at the last sample instant, as HRD returns them (R757). -/
structure Sampled where
  params : Tbl Word
  out : Outs
  net : Net
deriving DecidableEq, Repr

/-- The state of the block. -/
structure State where
  /-- commands that wait, first in first out -/
  pending : List Instr
  /-- draws taken of the free values: the model's own counter -/
  free : Nat
  sys : Sys
  island : Island
  nvm : Nvm
  /-- the parameters, by address; an unlisted one holds its reset word -/
  params : Tbl Word
  cmd : Cmd
  hdl : Hdl
  evt : Evt
  wdg : Wdg
  out : Outs
  flue : Flue
  insts : Tbl Inst
  part : Part
  net : Net
  cores : Tbl Core
  sampled : Sampled
  /-- the workers, by 64 × ring + position from end A -/
  wks : Tbl Wk
  sent : Sent
  /-- a debugger is attached (R148) -/
  debugger : Bool
deriving DecidableEq, Repr

/-- Nothing sent. -/
def Sent.none : Sent := ⟨[], [], [], [], [], []⟩

/-- The supply and the boot path at the start of fuse load. -/
def Sys.start : Sys :=
  { phase := .fuseLoad, warm := false, lastWarm := false, dousePend := false, step := 0, rails := [], seqWait := false,
    resetDue := [], pll := false, rom := false, enumDone := false, enumSame := false, image := none, sleeping := 0,
    fuseRead := 0#2048, base := [], paramHold := [], nvmOp := none, releaseDue := false, douseTick := false,
    clearDue := false, douseEntry := false,
    uvStep := 0, railClock := false, crystal := false, serdes := 0, pdKept := [], fault := none, loaded := false,
    copying := none, tph := 0 }

/-- The island after POR (R49, R53, R785). -/
def Island.por : Island :=
  { count := 0, fresh := true, rtc := 0, rtcUs := 0, recs := [], wakeMask := [], bankedS := 0, rtcRun := false,
    oscTrim := none, wdgKept := none,
    wakePend := false, thermalHold := false, polls := [], contPins := [], raws := [], napS := 0,
    twAddr := (paramReset 0x302C).toNat, twCfg := (paramReset 0x302D).toNat }

/-- The fuses of a part as it leaves Helrevor, TRIM all 0 with its matching TRIM_CRC in both copies (R71). -/
def Nvm.fuses0 : BitVec 4096 :=
  let c := crc32c (zeros 128)
  BitVec.ofNat 4096 (c * 2 ^ 0x400 + c * 2 ^ 0xC00)

/-- Stored contents of a new part: every wear counter at 0 (R832), no turf (R831). -/
def Nvm.new : Nvm :=
  { fuses := Nvm.fuses0, flash := [], shadow := [], shadowCur := none, shadowSlot := [], torn := [], mirCut := [],
    journal := [], jnext := 0, epoch := 0,
    bankedDoused := false, user := [], imem := [], dmem := [], stored := [], hbPos := [], hbValid := [], wear := [], bad := [],
    relit := false, seen := [] }

/-- No port holds anything. -/
def Cmd.start : Cmd :=
  { ports := [], queue := [], intents := [], winners := [], verdicts := [], lodge := 0, cycle := 0, closed := false, relights := [],
    burnt := [] }

/-- Every handle closed. -/
def Hdl.start : Hdl := { base := 0, slots := [], leaving := [], acts := [], subs := [], reqs := [] }

/-- No event latched. -/
def Evt.start : Evt := { occ := [], held := [], conds := [], douse := false }

/-- The watchdog stopped, on the values of R288. -/
def Wdg.start : Wdg :=
  { paused := false, cfg := false, seed := 0, periodMs := 200, openAt := 2, errMax := 3, period := 0, loaded := 0,
    expired := false }

/-- Every output off. -/
def Outs.start : Outs :=
  { hs := [], pg := [], weld := none, vlv := [], wins := [], fades := [], nextF := [], factor := [], hb := [], mot := [], sw := [],
    swInit := false, swChg := 0, railMv := [], dieHot := [] }

/-- No ring enumerated. -/
def Flue.start : Flue :=
  { rings := [], views := [], softOver := [], softIn := [], imps := [], flares := [], reads := [],
    groups := [], shardAck := [], apply := [] }

/-- The partner link down. -/
def Part.start : Part :=
  { beats := 0, seq := 0, unacked := [], resync := false, awaits := [], kindUs := 0, heard := false,
    period := 0, slew := none, follow := none, aligned := false, tookOver := false, sleep := false, handback := false,
    turfDone := [], turfLast := [], beat := false, asked := none }

/-- The networks silent. -/
def Net.start : Net :=
  { ka := [], litUs := none, need := true, prep := none, seen := 0, stopped := false, ready := false, kaUs := 0, kaDue := false,
    silentUs := 0, awakeUs := 0, napDue := false,
    lin := [], canFree := [], canTx := none, canRx := [], arp := [], twPtr := [], evIdx := 0, ldIdx := 0, twAck := false,
    twOut := [] }

/-- Nothing sampled yet. -/
def Sampled.start : Sampled := ⟨[], Outs.start, Net.start⟩

/-- The machine right after POR: VBAT has risen through the always-on brown-out threshold of a new part, and fuse
load has begun (R67, R112, R785). -/
def State.reset : State :=
  { pending := [], free := 0, sys := Sys.start, island := Island.por, nvm := Nvm.new, params := [], cmd := Cmd.start,
    hdl := Hdl.start, evt := Evt.start, wdg := Wdg.start, out := Outs.start, flue := Flue.start, insts := [],
    part := Part.start, net := Net.start, cores := [], sampled := Sampled.start, wks := [], sent := Sent.none, debugger := false }

end Sys2Proof.Machine
end

