-- ==== Sys2Proof/Machine/Ops.lean ====
section
/-! DEFINITION. The named operations over the state: parameters, channels, workers, free values, pins, the tick. -/

namespace Sys2Proof.Machine

/-- The stored word of a parameter. -/
def State.p (s : State) (a : Nat) : Nat :=
  match Tbl.find s.params a with
  | some v => v.toNat
  | none => (paramReset a).toNat

/-- The parameter table with a word stored: a reset word is not listed, which keeps the form canonical. -/
def paramPut (t : Tbl Word) (a : Nat) (v : Word) : Tbl Word :=
  if v = paramReset a then Tbl.del t a else Tbl.set t a v

/-- Storing a word. -/
def State.setP (s : State) (a v : Nat) : State :=
  { s with params := paramPut s.params a (BitVec.ofNat 32 v) }

/-- A field of a parameter. -/
def State.pf (s : State) (a lo wid : Nat) : Nat := fld (s.p a) lo wid

/-- A one-bit field. -/
def State.pb (s : State) (a lo : Nat) : Bool := bit (s.p a) lo

/-- Setting a field. -/
def State.setPf (s : State) (a lo wid v : Nat) : State := s.setP a (setFld (s.p a) lo wid v)

/-- Setting a one-bit field. -/
def State.setPb (s : State) (a lo : Nat) (b : Bool) : State := s.setPf a lo 1 (b2n b)

/-- Incrementing a counter field, which saturates. -/
def State.incPf (s : State) (a lo wid : Nat) : State := s.setPf a lo wid (satAdd wid (s.pf a lo wid) 1)

/-- One draw of a free value has been taken. -/
def State.drawn (s : State) : State := { s with free := s.free + 1 }

/-- A load switch at rest. -/
def HsCh.d : HsCh :=
  { cmdOn := false, retry := false, tripped := false, below := 0, above := 0, follow := none, unfollow := false,
    movePg := none, rise := 0, ago := 0, carry := 0, cont := 0, alarmed := false, econPg := none, econPend := false, olMa := none,
    shPrev := none, quiet := 1000, uvOff := false }

/-- A free generator. -/
def PgCh.d : PgCh := { period := 0, counting := false }

/-- An idle valve. -/
def VlvCh.d : VlvCh := { cur := none, queued := none, stopped := 0 }

/-- No fade. -/
def Fade.d : Fade := { b0 := 0, b1 := 0, f := 0, k := 0 }

/-- A bridge at rest. -/
def HbCh.d : HbCh :=
  { move := none, next := none, backing := false, doused := false, held := none, movePg := none, dutySh := 0xFFFF,
    duty := 0xFFFF, runPend := false, shPrev := none, aborted := false, judged := none, douseDir := 0, dir := 1,
    cur := 0 }

/-- A motor at rest. -/
def MotCh.d : MotCh :=
  { target := 0, ramp := 0, starting := false, speed := 0, down := 0, recatch := false, held := false, braked := false }

/-- An input that reads low. -/
def SwCh.d : SwCh := { raw := false, level := false, cnt := 0, wet := 0 }

/-- A port that holds nothing. -/
def Port.d : Port := { slots := [], out := [], last := [], nonce := none, evSeq := 0 }

/-- A handle slot that has not been opened since release. -/
def HSlot.d : HSlot :=
  { closes := 0, isOpen := false, cls := 0, res := 0, writer := false, excl := false, force := false, opener := 0,
    period := 0, pg := none, bindH := 0, cdata := [], mark := 0 }

/-- A core whose store has never been loaded. -/
def Core.d : Core :=
  { imem := [], dmem := [], regs := [], rstack := [], pc := 0, slice := false, cycles := 0, budget := 0, haltDue := false,
    startDue := false, runDue := false, steps := none, results := [], writes := [], snap := [] }

/-- A LIN port before its first header. -/
def LinPort.d : LinPort := { next := 0, wait := 0, cur := none, good := [] }

/-- A keep-alive node that has not been heard. -/
def KaNode.d : KaNode := { need := false, ready := false, byte2 := 0, us := 65535000 }

/-- The meter side of a worker whose slots are both invalid (R471). -/
def WkMeter.d : WkMeter :=
  { eIn := 0, eOut := 0, qIn := 0, qOut := 0, rIn := 0, rOut := 0, sIn := 0, sOut := 0, slot0 := none, slot1 := none,
    seq := 0, segment := 0, kept := 0, rtc := 0, rtcUs := 0, fresh := true, abandoned := false,
    chkUsed := false, blind := false }

/-- A flare unit at rest. -/
def WkFlare.d : WkFlare :=
  { mode := 0, rate := 0, trig := [], st := 0, tick := 0, offset := 0, group := false, short := false, arm := 0, rows := [] }

/-- A worker without supply, as the model starts it. -/
def Wk.d : Wk :=
  { mode := 0, meter := false, serial := 0, addr := 0, params := [], hasCfg := false, restarted := false, lostA := true,
    lostB := true, toEnd := 0, tick := 0, period := 4, slow := true, sync := none, fly := 0, own := false, tphase := 2,
    bank := false,
    zero := 0, lsRenew := false, lsA := false, lsB := false, lsRel := false, staged := [], pend := [], held := [],
    hard := [], good := [], calm := [], stackDiff := 0, wires := [], rt := 0, rtNow := false, rtDue := false, rtSrc := [], owNow := none,
    balMask := 0, balLeft := 0, hot := false, outs := 0, trips := 0, stMiss := 0, stSafe := true, refresh := none, di := 0,
    diCnt := [], meterU := WkMeter.d, journal := [], jnext := 0, shards := [], imp := none, raw := [], rawTick := 0,
    flare := WkFlare.d, ember := false, emberTold := false, bankFrom := 0, refBad := false, seq := 0, out := [] }

/-- An address that no enumerated worker holds. -/
def View.d : View :=
  { serial := 0, meter := false, here := false, lost := false, miss := 0, got := false, res := [], owner := 0,
    lapsed := false, epoch := 0, named := 0, cmd := 0, unack := 0, ack := 0, refSeq := 0, refVal := 0, heldVal := 0,
    stn := false, susp := [], sumOver := 0, sumIn := 0, dis := 0,
    waits := [], reconf := false, lastI := none, told := false }

/-- A ring without workers. -/
def Ring.d : Ring := { serials := [], far := none, joined := false, slow := true, cal := 0, seq := 0 }

/-- An empty span. -/
def Span.d : Span :=
  { startTick := 0, startRtc := 0, tflags := 0, cellMin := 0xFFFF, cellMax := 0, cellMinLoc := 0, cellMinNo := 0,
    cellMaxLoc := 0, cellMaxNo := 0, hist := [], disMax := 0, disTicks := 0, blindTicks := 0, evtMap := 0,
    evtCounts := [0, 0, 0], contOps := [], contI2t := [], vlv := [] }

/-- A binding that names nothing. -/
def Binding.d : Binding := { serial := none, isSealed := false, holders := [] }

/-- An instance with an empty mirror and journal. -/
def Inst.d : Inst :=
  { m0 := none, m1 := none, bind := Binding.d, turfs := [], newest := 0, acked := 0, ackAny := false, any := false, span := Span.d, adds := [], rems := [],
    base := [], due := [], lastRec := none, recTick := 0, fresh := false, mirTick := none, mirRec := none,
    snapNow := false, snapNext := false, slotOut := none, slotSent := none, mine := false }

/-- Load switch `n`. -/
def State.hs (s : State) (n : Nat) : HsCh := Tbl.get HsCh.d s.out.hs n
/-- Changing load switch `n`. -/
def State.updHs (s : State) (n : Nat) (f : HsCh → HsCh) : State :=
  { s with out := { s.out with hs := Tbl.upd HsCh.d s.out.hs n f } }
/-- Generator `g`. -/
def State.pg (s : State) (g : Nat) : PgCh := Tbl.get PgCh.d s.out.pg g
/-- Changing generator `g`. -/
def State.updPg (s : State) (g : Nat) (f : PgCh → PgCh) : State :=
  { s with out := { s.out with pg := Tbl.upd PgCh.d s.out.pg g f } }
/-- Valve channel `c`. -/
def State.vlv (s : State) (c : Nat) : VlvCh := Tbl.get VlvCh.d s.out.vlv c
/-- Changing valve channel `c`. -/
def State.updVlv (s : State) (c : Nat) (f : VlvCh → VlvCh) : State :=
  { s with out := { s.out with vlv := Tbl.upd VlvCh.d s.out.vlv c f } }
/-- Bridge `b`. -/
def State.hb (s : State) (b : Nat) : HbCh := Tbl.get HbCh.d s.out.hb b
/-- Changing bridge `b`. -/
def State.updHb (s : State) (b : Nat) (f : HbCh → HbCh) : State :=
  { s with out := { s.out with hb := Tbl.upd HbCh.d s.out.hb b f } }
/-- Motor `m`. -/
def State.mot (s : State) (m : Nat) : MotCh := Tbl.get MotCh.d s.out.mot m
/-- Changing motor `m`. -/
def State.updMot (s : State) (m : Nat) (f : MotCh → MotCh) : State :=
  { s with out := { s.out with mot := Tbl.upd MotCh.d s.out.mot m f } }
/-- Input `n`. -/
def State.sw (s : State) (n : Nat) : SwCh := Tbl.get SwCh.d s.out.sw n
/-- Changing input `n`. -/
def State.updSw (s : State) (n : Nat) (f : SwCh → SwCh) : State :=
  { s with out := { s.out with sw := Tbl.upd SwCh.d s.out.sw n f } }
/-- Port `n`. -/
def State.port (s : State) (n : Nat) : Port := Tbl.get Port.d s.cmd.ports n
/-- Changing port `n`. -/
def State.updPort (s : State) (n : Nat) (f : Port → Port) : State :=
  { s with cmd := { s.cmd with ports := Tbl.upd Port.d s.cmd.ports n f } }
/-- Handle slot `i`. -/
def State.slot (s : State) (i : Nat) : HSlot := Tbl.get HSlot.d s.hdl.slots i
/-- Changing handle slot `i`. -/
def State.updSlot (s : State) (i : Nat) (f : HSlot → HSlot) : State :=
  { s with hdl := { s.hdl with slots := Tbl.upd HSlot.d s.hdl.slots i f } }
/-- Core `c`. -/
def State.core (s : State) (c : Nat) : Core := Tbl.get Core.d s.cores c
/-- Changing core `c`. -/
def State.updCore (s : State) (c : Nat) (f : Core → Core) : State :=
  { s with cores := Tbl.upd Core.d s.cores c f }
/-- Worker `w`. -/
def State.wk (s : State) (w : Nat) : Wk := Tbl.get Wk.d s.wks w
/-- Changing worker `w`. -/
def State.updWk (s : State) (w : Nat) (f : Wk → Wk) : State :=
  { s with wks := Tbl.upd Wk.d s.wks w f }
/-- The manager's view of address `w`. -/
def State.view (s : State) (w : Nat) : View := Tbl.get View.d s.flue.views w
/-- Changing a view. -/
def State.updView (s : State) (w : Nat) (f : View → View) : State :=
  { s with flue := { s.flue with views := Tbl.upd View.d s.flue.views w f } }
/-- Ring `r`. -/
def State.ring (s : State) (r : Nat) : Ring := Tbl.get Ring.d s.flue.rings r
/-- Changing ring `r`. -/
def State.updRing (s : State) (r : Nat) (f : Ring → Ring) : State :=
  { s with flue := { s.flue with rings := Tbl.upd Ring.d s.flue.rings r f } }
/-- Instance `n`. -/
def State.inst (s : State) (n : Nat) : Inst := Tbl.get Inst.d s.insts n
/-- Changing instance `n`. -/
def State.updInst (s : State) (n : Nat) (f : Inst → Inst) : State :=
  { s with insts := Tbl.upd Inst.d s.insts n f }
/-- A change of an instance's span data in tick `t`, and of what the tick adds to it where `keep` (R537). -/
def Inst.upSpan (i : Inst) (keep : Bool) (t : Nat) (f : Span → Span) : Inst :=
  { i with
    span := f i.span
    adds := if keep then (match i.adds with
        | (k, d) :: r => if k = t then (k, f d) :: r else (t, f Span.d) :: (k, d) :: r
        | [] => [(t, f Span.d)])
      else i.adds }

/-- Changing the span data of instance `n`: one that the partner owns keeps each tick's part, since the partner's turf ends the span
at an earlier tick (R537). -/
def State.upSpan (s : State) (n : Nat) (f : Span → Span) : State :=
  s.updInst n (fun i => i.upSpan (!i.mine && (s.sys.fuseRead.toNat / 2 ^ 0x46C) % 4 % 3 != 0) s.island.count f)

/-- LIN port `l`. -/
def State.lin (s : State) (l : Nat) : LinPort := Tbl.get LinPort.d s.net.lin l
/-- Changing LIN port `l`. -/
def State.updLin (s : State) (l : Nat) (f : LinPort → LinPort) : State :=
  { s with net := { s.net with lin := Tbl.upd LinPort.d s.net.lin l f } }

/-- Folding a state change over a list. -/
def State.each {α : Type} (s : State) (l : List α) (f : State → α → State) : State := l.foldl f s

/-- A change made only when the condition holds. -/
def State.when (s : State) (b : Bool) (f : State → State) : State := if b then f s else s

/-- Changing the supply and boot block. -/
def State.mapSys (s : State) (f : Sys → Sys) : State := { s with sys := f s.sys }
/-- Changing the always-on island. -/
def State.mapIsland (s : State) (f : Island → Island) : State := { s with island := f s.island }
/-- Changing the stored contents. -/
def State.mapNvm (s : State) (f : Nvm → Nvm) : State := { s with nvm := f s.nvm }
/-- Changing the ports' shared state. -/
def State.mapCmd (s : State) (f : Cmd → Cmd) : State := { s with cmd := f s.cmd }
/-- Changing the handle table. -/
def State.mapHdl (s : State) (f : Hdl → Hdl) : State := { s with hdl := f s.hdl }
/-- Changing the event system. -/
def State.mapEvt (s : State) (f : Evt → Evt) : State := { s with evt := f s.evt }
/-- Changing the watchdog. -/
def State.mapWdg (s : State) (f : Wdg → Wdg) : State := { s with wdg := f s.wdg }
/-- Changing the outputs. -/
def State.mapOut (s : State) (f : Outs → Outs) : State := { s with out := f s.out }
/-- Changing the rings. -/
def State.mapFlue (s : State) (f : Flue → Flue) : State := { s with flue := f s.flue }
/-- Changing the partner link. -/
def State.mapPart (s : State) (f : Part → Part) : State := { s with part := f s.part }
/-- Changing the networks. -/
def State.mapNet (s : State) (f : Net → Net) : State := { s with net := f s.net }
/-- Changing what has been sent. -/
def State.mapSent (s : State) (f : Sent → Sent) : State := { s with sent := f s.sent }

/-- Kindling, Lit or Doused: the manager serves, and its tick runs. -/
def State.awake (s : State) : Bool :=
  s.sys.phase == .kindling || s.sys.phase == .lit || s.sys.phase == .doused

/-- Lit or Doused. -/
def State.full (s : State) : Bool := s.sys.phase == .lit || s.sys.phase == .doused

/-- The role in force: 0 SOLO, 1 A, 2 B (R12, R73). -/
def State.role (s : State) : Nat :=
  let r := (s.sys.fuseRead.toNat / 2 ^ 0x46C) % 4
  if r = 3 then 0 else r

/-- The period code in force (R40, R41, R64): the source's from the first aligned tick. -/
def State.periodCode (s : State) : Nat :=
  if s.pf 0x0206 0 2 ≠ 0 ∧ s.part.aligned = true then s.part.period
  else if s.sys.phase == .kindling then 4 else s.pf 0x0200 0 3

/-- The tick period in µs. -/
def periodUs (c : Nat) : Nat := 250 * 2 ^ (Nat.min c 4)

/-- The tick period in force, in µs. -/
def State.tUs (s : State) : Nat := periodUs s.periodCode

/-- The 48-bit tick counter. -/
def State.tick (s : State) : Nat := s.island.count

/-- Bits [31:0] of the tick counter. -/
def State.tick32 (s : State) : Nat := s.island.count % 2 ^ 32

/-- SYS.STATE.STATE (R67). -/
def State.stateCode (s : State) : Nat :=
  match s.sys.phase with
  | .lit => 2
  | .doused => 3
  | _ => 1

/-- The ring of a worker key. -/
def wRing (w : Nat) : Nat := w / 64
/-- The address of a worker key. -/
def wAddr (w : Nat) : Nat := w % 64
/-- The key of an address. -/
def wKey (ring addr : Nat) : Nat := 64 * ring + addr % 64

/-- The keys of every enumerated worker, rising. -/
def State.workers (s : State) : List Nat := (s.flue.views.filter (fun e => e.2.here)).map (·.1)

/-- Whether the manager may write to the worker: SOLO, or the owner of its lease (R531). -/
def State.owns (s : State) (w : Nat) : Bool :=
  s.role == 0 || (let v := s.view w; v.owner == s.role && !v.lapsed)

/-- Sending a frame from a ring end, under the ring's next SEQ (R309). -/
def State.sendRing (s : State) (w dir kind : Nat) (body : List Byte) : State :=
  let n := (s.ring (wRing w)).seq
  (s.mapSent (fun t => { t with ring := t.ring ++ [⟨wRing w, dir, wAddr w, kind, 4 * s.role + dir, n, body⟩] })).updRing (wRing w)
    (fun r => { r with seq := (n + 1) % 256 })

/-- The manager's own ring end: A but for manager B's. -/
def State.ownEnd (s : State) : Nat := if s.role == 2 then 1 else 0

/-- The ring end that reaches a worker: 0 A, 1 B, none for an islanded one (R356). -/
def State.endFor (s : State) (w : Nat) : Option Nat :=
  let st := s.p (0x1004 + wRing w)
  if !bit st 6 then some s.ownEnd
  else if wAddr w ≤ fld st 8 6 && s.role != 2 then some 0
  else if fld st 14 6 ≤ wAddr w && s.role != 1 then some 1
  else none

/-- The whole frame of a manager, as RELAY carries it (R309, R532). -/
def State.frameBytes (s : State) (w kind seq : Nat) (body : List Byte) : List Byte :=
  withCrc (le 1 kind ++ le 1 (wAddr w) ++ le 1 (4 * s.role + b2n (s.role == 1)) ++ le 1 seq ++ le 2 body.length ++ zeros 2 ++ body)

/-- Sending a frame on the partner link under its next SEQ (R309, R514): the type, then SEQ and the payload. -/
def State.partOut (s : State) (typ : Nat) (body : List Byte) : State :=
  let n := s.part.seq
  (s.mapSent (fun t => { t with part := t.part ++ [(typ, le 1 n ++ body)] })).mapPart (fun p => { p with seq := (n + 1) % 256 })

/-- Sending a ring frame through the partner, which transmits it from its own ring end (R532). -/
def State.sendFar (s : State) (w kind : Nat) (body : List Byte) : State :=
  let n := (s.ring (wRing w)).seq
  (s.partOut 0x13 (le 1 (wRing w) ++ zeros 3 ++ s.frameBytes w kind n body)).updRing (wRing w)
    (fun r => { r with seq := (n + 1) % 256 })

/-- Sending an addressed frame to a worker from the ring end that reaches it, or to an owned one through the partner's when only
that does (R532). DEDUCED: what no end reaches leaves the own end, in vain (log 199). -/
def State.sendTo (s : State) (w kind : Nat) (body : List Byte) : State :=
  match s.endFor w with
  | some d => s.sendRing w d kind body
  | none =>
    if s.pb 0x1905 0 && s.owns w then s.sendFar w kind body else s.sendRing w s.ownEnd kind body

/-- A WRITE from the manager to a worker (R310). -/
def State.sendWrite (s : State) (w kind index value : Nat) : State :=
  s.sendTo w 5 (le 1 kind ++ zeros 1 ++ le 2 index ++ le 4 value ++ le 2 (s.view w).epoch)

/-- A READ from the manager to a worker (R310). -/
def State.sendRead (s : State) (w kind back index : Nat) : State :=
  s.sendTo w 4 (le 1 kind ++ le 1 back ++ le 2 index ++ zeros 4)

/-- Having a worker command (R314) sent in the next Apply. -/
def State.toWorker (s : State) (w index value : Nat) : State :=
  s.mapFlue (fun f => { f with apply := f.apply ++ [(w, 3 * 65536 + index, value)] })

/-- The largest of a list of naturals, 0 for none. -/
def maxOf (l : List Nat) : Nat := l.foldl Nat.max 0

/-- Wear counter `k` counts one or more, saturating (R510). -/
def State.wear (s : State) (k n : Nat) : State :=
  s.mapNvm (fun v => { v with wear := Tbl.upd 0 v.wear k (fun x => satAdd 32 x n) })

/-- Whether a word of the MRAM's bytes from `lo` is uncorrectable (R18). Word `w` holds bytes 8w to 8w + 7. -/
def State.badIn (s : State) (lo n : Nat) : Bool := s.nvm.bad.any (fun w => lo < 8 * w + 8 && 8 * w < lo + n)

/-- What bytes of the MRAM from `lo` read as: the bytes of an uncorrectable word are free. -/
def State.readMram (s : State) (lo : Nat) (l : List Byte) : List Byte :=
  l.zipIdx.map (fun e => if s.nvm.bad.contains ((lo + e.2) / 8) then Config.freeByte s.free (lo + e.2) else e.1)

/-- The MRAM address of the slot of a turf (R17, R483). -/
def turfAddr (n idx : Nat) : Nat := 0x10000 + 0x40000 * n + 256 * (idx % 1024)

/-- The MRAM's words in `n` bytes from `lo` have been written: none of them is uncorrectable any more. -/
def State.mramFresh (s : State) (lo n : Nat) : State :=
  s.mapNvm (fun v => { v with bad := v.bad.filter (fun w => !(lo < 8 * w + 8 && 8 * w < lo + n)) })

/-- The MRAM address of journal entry `k` (R265). -/
def jAddr (k : Nat) : Nat := 0x210000 + 32 * (k % 8192)

end Sys2Proof.Machine
end

