-- ==== Sys2Proof/Machine/Flags.lean ====
section
/-! DEFINITION. Raising, holding and clearing events, and the pins they drive (R252 to R261, R844). -/

namespace Sys2Proof.Machine

/-- Events that are always enabled (R253). -/
def evForced : List Nat := [54, 55, 56, 57, 58, 59, 61, 62]

/-- The level events of the table "Event sources" (R252). -/
def evLevels : List Nat :=
  [2, 3, 4, 5, 6, 9, 10, 11, 12, 14, 15, 17, 22, 24, 28, 29, 35, 40, 44, 46, 47, 63]

/-- Events that never take severity DOUSE (R254). -/
def evNoDouse : List Nat := [7, 18, 19, 20, 25, 32, 37, 38, 41, 60]

/-- Whether an event is enabled (R253, R256). -/
def State.evOn (s : State) (e : Nat) : Bool := evForced.contains e || s.pb (0x0602 + e / 32) (e % 32)

/-- The severity set for an event. -/
def State.evSev (s : State) (e : Nat) : Nat := s.pf (0x0604 + e / 16) (2 * (e % 16)) 2

/-- Whether an event is latched. -/
def State.latched (s : State) (e : Nat) : Bool := s.pb (0x0600 + e / 32) (e % 32)

/-- Whether a level event's condition holds for some item. -/
def State.holds (s : State) (e : Nat) : Bool := s.evt.conds.any (fun c => c.1 == e)

/-- The bytes from 18 of an event's DETAIL, filled to ten. -/
def detail (l : List Byte) : List Byte := padTo 0#8 10 l

/-- One more occurrence of a source in this tick's list (R266). An entry keeps the DETAIL of its first occurrence and
the highest severity. -/
def addOcc (e sev rtc : Nat) (d : List Byte) : List Occ → List Occ
  | [] => [⟨e, sev, 1, d, rtc, false⟩]
  | o :: r =>
    if o.ev = e ∧ o.island = false then { o with count := satAdd 16 o.count 1, sev := Nat.max o.sev sev } :: r
    else o :: addOcc e sev rtc d r

/-- A span counts a latching at WARN or above (R257, R481). -/
def Span.count (p : Span) (e sev : Nat) : Span :=
  if sev = 0 then p
  else { p with
    evtMap := if bit p.evtMap e then p.evtMap else p.evtMap + 2 ^ e
    evtCounts := (List.range 3).map (fun i => nth 0 p.evtCounts i + b2n (i + 1 == sev)) }

/-- Whether an instance is configured. -/
def State.instOn (s : State) (n : Nat) : Bool := s.pb (0x1800 + n) 31

/-- The configured instances. -/
def State.instances (s : State) : List Nat := (List.range 8).filter s.instOn

/-- The spans of every configured instance count the event. -/
def State.countSpans (s : State) (e sev : Nat) : State :=
  s.each ((List.range 8).filter (fun n => s.pb (0x1800 + n) 31))
    (fun t n => t.upSpan n (fun p => p.count e sev))

/-- What a severity of DOUSE does (R81, R257, R268, R274, R277): the event is recorded as holding Doused, and entry to
Doused is due in Lit, a douse is pending in Kindling under a loaded image, and a clear accepted in this tick lapses. -/
def State.douseBy (s : State) (e : Nat) : State :=
  let rec1 (t : State) : State := t.setPb (0x060C + e / 32) (e % 32) true
  match s.sys.phase with
  | .lit => (rec1 s).mapEvt (fun v => { v with douse := true })
  | .doused => (rec1 s).mapSys (fun y => { y with clearDue := false })
  | .kindling =>
    if s.sys.image.isSome || s.sys.dousePend then (rec1 s).mapSys (fun y => { y with dousePend := true }) else s
  | _ => s

/-- An enabled source occurs (R256, R257, R844). -/
def State.occurs (s : State) (e : Nat) (d : List Byte) : State :=
  let sev := s.evSev e
  let h := Tbl.get 0 s.evt.held e
  let s1 := s.setPb (0x0600 + e / 32) (e % 32) true
  let s2 := s1.mapEvt (fun v => { v with
    occ := addOcc e sev s.island.rtc (detail d) v.occ
    held := Tbl.put 0 v.held e (Nat.max h sev) })
  let s3 := s2.countSpans e sev
  if sev = 3 then s3.douseBy e else s3

/-- A source occurs; a disabled one takes no action (R256). -/
def State.raise (s : State) (e : Nat) (d : List Byte) : State := if s.evOn e then s.occurs e d else s

/-- Whether a level condition holds for this item. -/
def State.holdsItem (s : State) (e item : Nat) : Bool := s.evt.conds.any (fun c => c.1 == e && c.2.1 == item)

/-- A level condition begins for an item: an occurrence, unless it holds already (R252, R844). -/
def State.begin (s : State) (e item : Nat) (d : List Byte) : State :=
  if s.holdsItem e item then s
  else (s.mapEvt (fun v => { v with conds := (e, item, d) :: v.conds })).raise e d

/-- A level condition ends for an item; the latch stays (R259). -/
def State.finish (s : State) (e item : Nat) : State :=
  s.mapEvt (fun v => { v with conds := v.conds.filter (fun c => !(c.1 == e && c.2.1 == item)) })

/-- A level condition follows a verdict. -/
def State.level (s : State) (e item : Nat) (on : Bool) (d : List Byte) : State :=
  if on then s.begin e item d else s.finish e item

/-- Every condition of an event ends. -/
def State.finishAll (s : State) (e : Nat) : State :=
  s.mapEvt (fun v => { v with conds := v.conds.filter (fun c => c.1 != e) })

/-- A clear of one event (R258, R259): a level event whose condition holds stays latched; its held severity ends with
the bit (R844), and EVT.DHOLD drops it, since an event stays recorded only while latched (R274). -/
def State.clearEv (s : State) (e : Nat) : State :=
  if evLevels.contains e && s.holds e then s
  else ((s.setPb (0x0600 + e / 32) (e % 32) false).setPb (0x060C + e / 32) (e % 32) false).mapEvt
    (fun v => { v with held := Tbl.del v.held e })

/-- A clear by mask: bit n names EVn. -/
def State.clearEvs (s : State) (mask : Nat) : State := s.each (bitsOf mask 64) (fun t e => t.clearEv e)

/-- EVT.STAT as one 64-bit mask. -/
def State.evStat (s : State) : Nat := s.p 0x0600 + 2 ^ 32 * s.p 0x0601

/-- EVT.DHOLD as one 64-bit mask. -/
def State.dhold (s : State) : Nat := s.p 0x060C + 2 ^ 32 * s.p 0x060D

/-- The DETAIL of a level event's condition that has held longest (R265). -/
def State.condDetail (s : State) (e : Nat) : List Byte :=
  match (s.evt.conds.filter (fun c => c.1 == e)).getLast? with
  | some c => c.2.2
  | none => []

/-- Enabling a level source while its condition holds makes it occur, with the DETAIL of that condition (R256, R265). `old`
holds EVT.EN before the write or the load. -/
def State.enabled (s : State) (old : Nat → Nat) : State :=
  s.each (evLevels.filter (fun e => !(evForced.contains e) && s.holds e && !bit (old (e / 32)) (e % 32) && s.evOn e))
    (fun t e => t.occurs e (t.condDetail e))

/-- FAULT_N is asserted, that is low: Doused, a douse pending, a latched event held at FAULT or DOUSE (R260), and
Cold-hold; Banked releases it (R801). -/
def State.faultN (s : State) : Bool :=
  s.sys.phase == .doused || s.sys.phase == .coldHold || (s.sys.phase == .kindling && s.sys.dousePend) ||
    (s.awake && (List.range 64).any (fun e => s.latched e && 2 ≤ Tbl.get 0 s.evt.held e))

/-- EVT_A_N (0) or EVT_B_N (1) is driven low (R261). -/
def State.evtBall (s : State) (b : Nat) : Bool :=
  s.awake && (List.range 2).any (fun w => ((BitVec.ofNat 32 (s.p (0x0600 + w))) &&&
    (BitVec.ofNat 32 (s.p (0x0608 + 2 * b + w)))) != 0#32)

/-- WAKE_OUT is high from the start of fuse load until the rails are off (R802). -/
def State.wakeOut (s : State) : Bool :=
  s.awake || s.sys.phase == .fuseLoad || s.sys.phase == .sequencing

end Sys2Proof.Machine
end

