-- ==== Sys2Proof/Machine/Switches.lean ====
section
/-! DEFINITION. Load switches, contactors, pulse generators and the weld check (R545 to R588, R847). -/

namespace Sys2Proof.Machine

/-- HS.CFG[n]. -/
def hsCfg (n : Nat) : Nat := 0x2000 + 6 * n
/-- HS.STAT[n]. -/
def hsStat (n : Nat) : Nat := 0x2002 + 6 * n
/-- HS.PWM[n]. -/
def hsPwm (n : Nat) : Nat := 0x2003 + 6 * n
/-- HS.PWMSH[n]. -/
def hsPwmSh (n : Nat) : Nat := 0x2004 + 6 * n
/-- HS.PWMSTAT[n]. -/
def hsPwmStat (n : Nat) : Nat := 0x2005 + 6 * n

/-- Contactor class (R578). -/
def State.isCon (s : State) (n : Nat) : Bool := n < 8 && s.pb (hsCfg n) 0

/-- The contactor-class channels. -/
def State.contactors (s : State) : List Nat := (List.range 8).filter s.isCon

/-- Bound to a generator. -/
def State.hsBound (s : State) (n : Nat) : Bool := s.pb (hsPwmStat n) 20

/-- The channel follows its pin (R576). -/
def State.hsFollows (s : State) (n : Nat) : Bool := 24 ≤ n && s.pb (hsStat n) 6 && !(s.hs n).unfollow

/-- The follow level after the filter and the polarity of HS.FOLLOW (R576). Until the comparator has stood for FILT at one level since
DIN opened, the channel stays as it is commanded. -/
def State.followLevel (s : State) (n : Nat) : Bool :=
  match (s.hs n).follow with
  | some high => high != s.pb (0x2720 + (n - 24)) 10
  | none => (s.hs n).cmdOn

/-- Whether the commanded state turns the channel on (R552, R555, R563, R576). A pulsed channel is on while its duty in force is not
0x0000, and while a pulse that began before the last reload may still run. -/
def State.hsWant (s : State) (n : Nat) : Bool :=
  if s.hsFollows n then s.followLevel n
  else
    let pulse := s.pf (hsPwm n) 0 16 != 0 || (s.hs n).carry != 0
    if s.isCon n then (s.hs n).cmdOn && ((s.hs n).cont != 2 || pulse) else if s.hsBound n then pulse else (s.hs n).cmdOn

/-- The channel's commanded state is on (R552): the last intent's value, which a bound channel holds in its shadow. -/
def State.hsCmd (s : State) (n : Nat) : Bool :=
  if s.hsFollows n then s.followLevel n
  else if s.hsBound n && !s.isCon n then s.pf (hsPwmSh n) 0 16 != 0
  else (s.hs n).cmdOn

/-- Whether protection, the supply and the state let it drive (R121, R566, R569). -/
def State.hsMay (s : State) (n : Nat) : Bool :=
  s.awake && !s.pb (hsStat n) 2 && !s.pb (hsStat n) 3 && !s.pb (hsStat n) 4 && !(s.hs n).retry && !(s.hs n).uvOff

/-- The magnitude of an instance's last primary current, in mA. -/
def Inst.lastI (i : Inst) : Nat := match i.lastRec with
  | some r => r.iPri.natAbs
  | none => 0

/-- List entry `k` changed. -/
def bumpAt (l : List Nat) (k n : Nat) (f : Nat → Nat) : List Nat :=
  (padTo 0 n l).mapIdx (fun i x => if i = k then f x else x)

/-- An opening is counted (R481, R510, R583): CONT_OPS and break I²t in each span that names the channel, and the wear
counters, whose I²t takes the lowest such instance. -/
def State.countOpening (s : State) (n : Nat) : State :=
  let arc := s.pf 0x1835 0 8
  let is := (List.range 8).filter (fun k => s.pb (0x1800 + k) 31 && s.pb (0x1800 + k) (8 + n))
  let s1 := s.each is (fun t k => t.upSpan k (fun p => { p with
    contOps := bumpAt p.contOps n 8 (· + 1)
    contI2t := bumpAt p.contI2t n 8 (· + (t.inst k).lastI * (t.inst k).lastI * arc) }))
  let i2 := match is with
    | [] => 0
    | k :: _ => (s.inst k).lastI * (s.inst k).lastI * arc
  (s1.wear n 1).mapNvm (fun v => { v with wear := Tbl.upd 0 v.wear (32 + n) (· + i2) })

/-- A contactor has opened (R583, R584). -/
def State.opened (s : State) (n : Nat) : State :=
  let s1 := ((s.updHs n (fun c => { c with cont := 0, carry := 0 })).setPb (hsStat n) 7 false).countOpening n
  let s2 := s1.setPf (hsPwmSh n) 0 28 0 |>.setPf (hsPwm n) 0 28 0
  if s.pb 0x2730 n && s.out.weld.isNone then
    s2.mapOut (fun o => { o with weld := some ⟨n, s.tick, decide (s.sys.tph ≤ 1)⟩ })
  else s2

/-- Pull-in begins: the contactor is fully on (R580). DEDUCED: its duty in force is 0xFFFF, since it has no edges (R555;
log 131). -/
def State.pullIn (s : State) (n : Nat) : State :=
  ((s.updHs n (fun c => { c with cont := 1, rise := 0, ago := 0, carry := 0 })).setP (hsPwm n) 0xFFFF).setPb (hsStat n) 7 true

/-- A contactor has closed: pull-in begins (R580), and a weld check that names it is abandoned (R586). -/
def State.closed (s : State) (n : Nat) : State :=
  let s1 := s.pullIn n
  if s.pb 0x2730 n && s.out.weld.isSome then
    (s1.mapOut (fun o => { o with weld := none })).setPf 0x2731 0 2 0
  else s1

/-- Open load ends with the channel (R574). -/
def State.olEnd (s : State) (n : Nat) : State :=
  ((s.finish 22 n).setPb (hsStat n) 5 false).updHs n (fun c => { c with below := 0, above := 0, olMa := none })

/-- Settling the drive of a channel after any change: HS.STAT.ON follows what is commanded and allowed. -/
def State.hsDrive (s : State) (n : Nat) : State :=
  let old := s.pb (hsStat n) 0
  let new := s.hsWant n && s.hsMay n
  let s1 := s.setPb (hsStat n) 0 new
  let s2 := if new then s1 else (s1.setPb (hsStat n) 1 false)
  let s3 := if s.hsCmd n then s2 else s2.olEnd n
  if s.isCon n then
    if old && !new then s3.opened n else if new && !old then s3.closed n else s3
  else s3

/-- A word reaches a channel's shadow (R559): what the shadow held is kept for a reload in the same clock. Duty 0x0000 is the command
off (R549, R574). -/
def State.hsShadow (s : State) (n w : Nat) : State :=
  let s1 := (s.setP (hsPwmSh n) w).updHs n (fun c => { c with shPrev := some (c.shPrev.getD (s.p (hsPwmSh n))) })
  if s1.hsCmd n then s1 else s1.olEnd n

/-- Setting the commanded state to on or off outright (R548, R549, R582). -/
def State.hsSet (s : State) (n : Nat) (on : Bool) : State :=
  if s.hsBound n && !s.isCon n then (s.hsShadow n (setFld (s.p (hsPwmSh n)) 0 16 (if on then 0xFFFF else 0))).hsDrive n
  else (s.updHs n (fun c => { c with cmdOn := on })).hsDrive n

/-- The commanded state becomes off, bound or not (R552). -/
def State.hsCmdOff (s : State) (n : Nat) : State :=
  ((s.setPf (hsPwmSh n) 0 16 0).setPf (hsPwm n) 0 16 0).updHs n (fun c => { c with cmdOn := false, carry := 0, shPrev := none })

/-- Off at once, bound or not. -/
def State.hsOff (s : State) (n : Nat) : State := (s.hsCmdOff n).hsDrive n

/-- Clearing a latch (R569): the channel may return at the next set instant. -/
def State.hsUnlatch (s : State) (n : Nat) : State :=
  if s.pb (hsStat n) 4 then
    ((s.setPb (hsStat n) 4 false).setPf (hsStat n) 8 4 0).updHs n (fun c => { c with retry := true })
  else s

/-- A winning intent on a channel at the set instant (R548, R549, R569, R580). An on intent on a contactor that is closed already
begins its pull-in anew. `a`: 0 on or off by `b`, 1 duty `b` and
phase `c`, 2 duty `b` with the phase unchanged. -/
def State.hsApply (s : State) (i : Intent) : State :=
  let n := i.chan
  let s1 := if i.b = 0 then s.hsUnlatch n else s
  let sh := s1.p (hsPwmSh n)
  match i.a with
  | 0 =>
    let s2 := s1.hsSet n (i.b != 0)
    if i.b ≠ 0 ∧ (s1.hs n).cont ≠ 0 ∧ s2.pb (hsStat n) 0 = true then s2.pullIn n else s2
  | 1 => s1.hsShadow n (setFld (setFld sh 0 16 i.b) 16 12 i.c)
  | _ => s1.hsShadow n (setFld sh 0 16 i.b)

/-- A trip by current (EV21) or by temperature (EV23) (R552, R565 to R568, R570 to R572). A latch is the commanded state off. -/
def State.hsTrip (s : State) (n ev ma : Nat) : State :=
  let r := s.pf (hsStat n) 8 4
  let d (k : Nat) : List Byte := le 1 n ++ le 1 k ++ le 2 (ma / 100) ++ le 1 r
  let hot := ev = 23
  if (s.hs n).tripped then
    ((s.raise ev (d 0)).when hot (fun t => t.setPb (hsStat n) 3 true)).updHs n (fun c => { c with quiet := 0 })
  else
    let auto := s.sys.phase != .kindling && s.pb (hsCfg n) 1 && r < s.pf (hsCfg n) 2 4
    let s1 := (s.raise ev (d 0)).setPb (hsStat n) 2 true
    let s2 := s1.when hot (fun t => t.setPb (hsStat n) 3 true)
    let s3 := s2.updHs n (fun c => { c with tripped := true, retry := auto, quiet := 0, carry := 0 })
    let s4 := if auto then s3 else ((s3.setPb (hsStat n) 4 true).raise ev (d 1)).hsCmdOff n
    s4.hsDrive n

/-- The wait of a trip is over: under AUTO the retry counts (R567). -/
def State.hsWaited (s : State) (n : Nat) : State :=
  if s.pb (hsStat n) 2 || s.pb (hsStat n) 3 then s
  else if (s.hs n).retry && s.pb (hsCfg n) 1 && s.pf (hsStat n) 8 4 < s.pf (hsCfg n) 2 4 then s.incPf (hsStat n) 8 4 else s

/-- A retry returns to the commanded state at a set instant (R567). -/
def State.hsReturn (s : State) (n : Nat) : State :=
  if (s.hs n).retry && !s.pb (hsStat n) 2 && !s.pb (hsStat n) 3 then
    (s.updHs n (fun c => { c with retry := false })).hsDrive n
  else s

/-- Contactors open at once, by ALARM or by entry to Doused (R65, R269, R582). -/
def State.openContactors (s : State) (alarm : Bool) : State :=
  s.each s.contactors (fun t n =>
    (t.updHs n (fun c => { c with cmdOn := false, alarmed := c.alarmed || alarm })).hsDrive n)

/-- The system clocks of a period in ns (R553). -/
def pgClocks (ns : Nat) : Nat := ns * 2 / 5

/-- Whether the 200 ns clamp, 80 clocks, applies to the pulse of R554 or to the time between two pulses (R556). -/
def pwmClamps (duty ns : Nat) : Bool :=
  let on := duty * pgClocks ns / 65536
  duty != 0 && duty != 0xFFFF && (on < 80 || pgClocks ns - on < 80)

/-- The on-time of a pulse in clocks (R554), with the clamp of 200 ns, 80 clocks, at either end (R556). -/
def pwmOn (duty ns : Nat) : Nat := Nat.max 80 (Nat.min (duty * pgClocks ns / 65536) (pgClocks ns - 80))

/-- A duty that gives edges (R555). -/
def pulses (duty : Nat) : Bool := duty != 0 && duty != 0xFFFF

/-- The edges from a reload on: clocks to the first rising edge at the values in force, clocks since the last rising edge, and
clocks to the end of the pulse that began before it. A duty of 0xFFFF has its one edge where it turns on. -/
structure Edges where
  rise : Nat
  ago : Nat
  carry : Nat
deriving DecidableEq, Repr

/-- The edges after a reload that takes `newW` where `oldW` was in force (R554, R560 to R563): a changed pulsing channel's
first edge waits until a period after its last one; the pulse in progress keeps its on-time; from 0xFFFF to a pulsing duty the
channel stays on to the end of its first pulse, and from 0x0000 to 0xFFFF it is on from the reload (R555). -/
def nextEdges (c : HsCh) (oldW newW ns : Nat) : Edges :=
  let per := pgClocks ns
  let od := fld oldW 0 16
  let nd := fld newW 0 16
  let off := fld newW 16 12 * per / 4096
  let begun := pulses od && c.rise < per
  let ago := if begun then per - c.rise else c.ago + per
  let left := Nat.max (c.carry - per) (if begun then c.rise + pwmOn od ns - per else 0)
  let rise :=
    if od = 0 then (if nd = 0xFFFF then 0 else off)
    else if od = 0xFFFF then (if nd = 0xFFFF then c.rise - per else off)
    else if oldW = newW then (if per ≤ c.rise then c.rise - per else off)
    else if per ≤ off + ago then off else off + per
  let stays := od = 0xFFFF ∧ c.rise < per ∧ pulses nd
  ⟨rise, ago, if stays then Nat.max left (rise + pwmOn nd ns) else left⟩

/-- A pulsed channel takes its shadow at a reload (R559); a shadow write of the same clock waits for the next one, and the reload copies
what the shadow held before it. While an undervoltage holds its driver off the channel takes no duty: that comes from the first reload
after its restart (R123). A contactor whose hold duty is 0x0000 has opened when its last pulse is over (R555, R583). -/
def State.hsReload (s : State) (n ns : Nat) (same : Bool) : State :=
  let c := s.hs n
  let late := same && c.shPrev.isSome
  let w := if same then c.shPrev.getD (s.p (hsPwmSh n)) else s.p (hsPwmSh n)
  let s1 := if late then s.incPf (hsPwmStat n) 0 16 else s
  if c.uvOff then s1.updHs n (fun x => { x with shPrev := none, carry := 0 })
  else
    let r := nextEdges c (s.p (hsPwm n)) w ns
    (((s1.setP (hsPwm n) w).setPb (hsPwmStat n) 21 (pwmClamps (fld w 0 16) ns)).updHs n (fun x => { x with
      shPrev := none, rise := r.rise, ago := r.ago, carry := r.carry
      cmdOn := x.cmdOn && !(s.isCon n && fld w 0 16 == 0 && r.carry == 0) })).hsDrive n

/-- The generator that a channel pulses from: its economiser's in hold, else the bound one; none while a move to another
waits for the set instant. -/
def State.hsGen (s : State) (n : Nat) : Option Nat :=
  let c := s.hs n
  if s.isCon n then (if c.cont = 2 then c.econPg else none)
  else if c.movePg.isSome then none
  else if s.hsBound n then some (s.pf (hsPwmStat n) 16 4) else none

/-- Whether a channel is driven on at clock `t` after its generator's last reload (R553 to R556, R560 to R563): a pulse that
began before the reload lasts to its own end; a channel of no generator follows HS.STAT.ON. -/
def State.hsPulse (s : State) (n t : Nat) : Bool :=
  let c := s.hs n
  let d := s.pf (hsPwm n) 0 16
  match s.hsGen n with
  | none => s.pb (hsStat n) 0
  | some g =>
    s.hsMay n && (decide (t < c.carry) ||
      (d == 0xFFFF && decide (c.rise ≤ t)) ||
      (pulses d && decide (c.rise ≤ t) && decide (t < c.rise + pwmOn d (s.pg g).period)))

/-- Whether a bridge is bound to the generator, by its open writer or by one that has closed and not yet left (R224), and no
move waits. -/
def State.hbOn (s : State) (b g : Nat) : Bool :=
  (s.hb b).movePg.isNone &&
  (s.hdl.slots.any (fun e => e.2.isOpen && e.2.cls == 5 && e.2.res == b && e.2.writer && e.2.pg == some g) ||
    s.hdl.acts.any (fun a => a.cls == 5 && a.res == b && a.pg == some g))

/-- A generator reloads (R558, R559): load switches first, then bridges (R625). -/
def State.pgReload (s : State) (g : Nat) (same : Bool) : State :=
  let ns := (s.pg g).period
  if ns = 0 then s
  else
    let s1 := (s.setP (0x2100 + 2 * g) ((s.p (0x2100 + 2 * g) + 1) % 2 ^ 32)).updPg g (fun p => { p with counting := true })
    let s2 := s1.each ((List.range 24).filter (fun n => s1.hsGen n == some g)) (fun t n => t.hsReload n ns same)
    s2.each ((List.range 8).filter (fun b => s2.hbOn b g)) (fun t b => t.updHb b (fun h =>
      { h with duty := if same then h.shPrev.getD h.dutySh else h.dutySh, shPrev := none }))

end Sys2Proof.Machine
end

