-- ==== Sys2Proof/Machine/Douse.lean ====
section
/-! DEFINITION. Entry to Doused (R268 to R274, R283), and the end of every command's effect. -/

namespace Sys2Proof.Machine

/-- The watchdog's server is a core, and no port stands in for it in Doused (R283). -/
def State.wdgNoFallback (s : State) : Bool := 4 ≤ s.pf 0x0700 1 3 && s.pf 0x0700 4 3 == 7

/-- The watchdog runs (WDG.STAT.RUNNING). -/
def State.wdgRuns (s : State) : Bool := s.pb 0x0703 20

/-- The watchdog pauses at Doused entry (R283, R301). -/
def State.wdgPause (s : State) : State :=
  if s.wdgRuns && s.wdgNoFallback then
    ((s.setPb 0x0703 20 false).setPb 0x0703 19 false).mapWdg
      (fun w => { w with paused := true })
  else s

/-- Every core halts at the end of its slice in this tick, at once where the tick's slices are over (R272); a restart that
was due lapses. -/
def State.haltCores (s : State) : State :=
  let past : Bool := s.sys.tph = 0 || 4 ≤ s.sys.tph
  s.each (List.range 4) (fun t c =>
    let st := t.pf (0x3802 + 8 * c) 0 3
    let due := (t.core c).startDue
    let t1 := t.updCore c (fun k =>
      { k with haltDue := k.haltDue || (st == 2 && !past), startDue := false, runDue := false })
    if (st = 3 ∧ due = true) ∨ (st = 2 ∧ past = true) then t1.setPf (0x3802 + 8 * c) 0 3 1 else t1)

/-- HB.STAT[b]. -/
def hbStat (b : Nat) : Nat := 0x2406 + 8 * b

/-- HB.STAT[b].STATE: 0 coast, 1 forward, 2 reverse, 3 brake, 4 dead time, 5 TRIPPED. -/
def State.hbState (s : State) (b : Nat) : Nat := s.pf (hbStat b) 0 3

/-- Whether the bridge drives. -/
def State.hbDrives (s : State) (b : Nat) : Bool := s.hbState b == 1 || s.hbState b == 2

/-- The direction that each bridge drives as Doused begins (R662). -/
def State.drivesKept (s : State) : State :=
  s.each (List.range 8) (fun t b => t.updHb b (fun h => { h with douseDir := if t.hbDrives b then t.hbState b else 0 }))

/-- A follow channel that Doused holds keeps the value it has at entry (R270); it stops following at the set instant. -/
def State.followKept (s : State) : State :=
  s.each (((List.range 16).map (24 + ·)).filter (fun n => s.pb (hsStat n) 6 && !(s.hs n).unfollow && s.pf (hsCfg n) 6 2 == 2))
    (fun t n => t.updHs n (fun c => { c with cmdOn := t.followLevel n }))

/-- The manager enters Doused (R268 to R270). -/
def State.enterDoused (s : State) : State :=
  let s1 := (s.mapEvt (fun v => { v with douse := false })).mapSys
    (fun y => { y with phase := .doused, douseEntry := true })
  (((s1.followKept.drivesKept).openContactors false).haltCores).wdgPause

/-- A douse pending in Kindling holds every KINDLE_ON channel off (R80 and the table "Coinciding conditions" of the
bring-up chapter). -/
def State.kindleOff (s : State) : State :=
  s.each ((bitsOf (fld s.sys.fuseRead.toNat 0x46E 16) 16).filter (fun n => s.pb (hsStat (24 + n)) 0))
    (fun t n => t.hsOff (24 + n))

/-- The end of an effect: an event or command of severity DOUSE that occurred within it takes the manager into Doused, or
switches the channels of Kindling off. -/
def State.settle (s : State) : State :=
  if s.evt.douse then s.enterDoused
  else if s.sys.phase == .kindling && s.sys.dousePend then s.kindleOff else s

/-- The outcome of a command: the next state, with entry to Doused where it is due. -/
def done (s : State) : Host.Outcome State Fault Refusal := .next s.settle

end Sys2Proof.Machine
end

