-- ==== Sys2Proof/Machine/Inputs.lean ====
section
/-! DEFINITION. Switch inputs, and the manager's side of the remote stations (R663 to R692). -/

namespace Sys2Proof.Machine

/-- SWI.CFG[n]. -/
def swiCfg (n : Nat) : Nat := 0x2800 + n

/-- DIN n of pin SW(48+n) is open. -/
def State.dinOpen (s : State) (n : Nat) : Bool :=
  s.hdl.slots.any (fun e => e.2.isOpen && e.2.cls == 8 && e.2.res == n)

/-- Whether an open handle on input `n`, of class SWITCH or of the DIN on its pin, has it sensed continuously (R157, R244,
R245). -/
def State.swForced (s : State) (n : Nat) : Bool :=
  s.hdl.slots.any (fun e => e.2.isOpen && e.2.force && ((e.2.cls == 7 && e.2.res == n) || (e.2.cls == 8 && 48 + e.2.res == n)))

/-- Whether an input is sampled at the sample instant (R244, R245, R665, R669). -/
def State.swSampled (s : State) (n : Nat) : Bool :=
  s.pf (swiCfg n) 0 2 != 0 || s.swForced n || (48 ≤ n && s.full && s.dinOpen (n - 48))

/-- The comparator's reading at a pin voltage in mV (R663). -/
def State.swRead (s : State) (n : Nat) (mv : Int) (old : Bool) : Bool :=
  let thr : Int := 100 * s.pf (swiCfg n) 24 8
  if mv > thr then true
  else if mv < thr - 200 - (Config.hysteresis n % 201 : Nat) then false else old

/-- The magnitude of SWI.CFG[n].WET in mA. -/
def wetMa (code : Nat) : Nat := nth 0 [0, 1, 2, 5, 10, 15] code

/-- The wetting current that the manager applies at an input while it senses it, in mA (R664, R669): from VBAT with DIR 0, and
to ground, negative, with DIR 1. -/
def State.swWet (s : State) (n : Nat) : Int :=
  let i : Int := wetMa (s.pf (swiCfg n) 2 3)
  if s.pb (swiCfg n) 5 then Neg.neg i else i

/-- Whether an input receives its wetting current continuously while the manager is awake (R244, R245, R665, R669), and not as
a pulse of 10 µs that ends at the sample instant. -/
def State.swSteady (s : State) (n : Nat) : Bool :=
  s.pf (swiCfg n) 0 2 == 2 || s.swForced n || (48 ≤ n && s.full && s.dinOpen (n - 48))

/-- One input's debounce on a reading (R666): the channel, and whether its level changed. -/
def SwCh.take (c : SwCh) (first : Bool) (deb : Nat) (r : Bool) : SwCh × Bool :=
  if first then ({ c with raw := r, level := r, cnt := 0 }, false)
  else if r = c.level then ({ c with raw := r, cnt := 0 }, false)
  else if deb ≤ c.cnt + 1 then ({ c with raw := r, level := r, cnt := 0 }, true)
  else ({ c with raw := r, cnt := c.cnt + 1 }, false)

/-- The last reading of an input's comparator, which a restart outlasts (R663). -/
def State.swRaw (s : State) (n : Nat) : Bool := if s.out.swInit then (s.sw n).raw else s.island.raws.contains n

/-- Every input is sampled, under its wetting current, and debounced (R664 to R667). An input the sample does not list reads
as before. -/
def State.swSample (s : State) (l : List (Nat × Int)) : State :=
  let ns := ((l.map (·.1)).filter (· < 64) ++ s.out.sw.map (·.1)).eraseDups.filter s.swSampled
  let s1 := s.each ns (fun t n =>
    let c := t.sw n
    let r := match l.find? (fun e => e.1 == n) with
      | some e => t.swRead n e.2 (t.swRaw n)
      | none => t.swRaw n
    let k := c.take (!s.out.swInit) (t.pf (swiCfg n) 16 8) r
    let t1 := t.updSw n (fun _ => { k.1 with wet := t.swWet n })
    if k.2 then t1.mapOut (fun o => { o with swChg := o.swChg + 2 ^ n }) else t1)
  s1.mapOut (fun o => { o with swInit := true })

/-- EV36 in this tick's Compute where an input with EVT changed: one occurrence names every input that changed (R667). -/
def State.swEvent (s : State) : State :=
  if s.out.swChg = 0 then s
  else (s.when ((bitsOf s.out.swChg 64).any (fun n => s.pb (swiCfg n) 8)) (fun t => t.raise 36 (le 8 s.out.swChg))).mapOut
    (fun o => { o with swChg := 0 })

/-- The reported level of an input (R668). -/
def State.swLevel (s : State) (n : Nat) : Bool := (s.sw n).level != s.pb (swiCfg n) 6

/-- The worker that holds an address (R330). -/
def State.wkFind (s : State) (w : Nat) : Option (Nat × Wk) :=
  s.wks.find? (fun e => wRing e.1 == wRing w && e.2.addr == wAddr w && e.2.mode != 0)

/-- A parameter word of a worker. -/
def Wk.p (k : Wk) (i : Nat) : Nat :=
  match Tbl.find k.params i with
  | some v => v.toNat
  | none => (wkReset k.meter i).toNat

/-- What the manager takes as a worker's parameter: the stored word, or its reset word. -/
def State.wkParam (s : State) (w i : Nat) : Nat :=
  match s.wkFind w with
  | some e => e.2.p i
  | none => (wkReset (s.view w).meter i).toNat

/-- The value word of the station outputs with output `item` at `v` (R677). -/
def stnPut (word item v : Nat) : Nat :=
  match item with
  | 0 => setFld word 0 1 v
  | 1 => setFld word 1 1 v
  | 2 => setFld word 16 16 v
  | _ => setFld word 2 1 v

/-- The value of output `item` in a value word. -/
def stnGet (word item : Nat) : Nat :=
  match item with
  | 0 => fld word 0 1
  | 1 => fld word 1 1
  | 2 => fld word 16 16
  | _ => fld word 2 1

/-- Whether a value suits a station output (R674). -/
def stnFits (item v : Nat) : Bool := if item = 2 then v ≤ 0xFFFF else v ≤ 1

/-- A winning station intent becomes the commanded value (R678). `chan` is 4 × worker key + output. -/
def State.stnApply (s : State) (i : Intent) : State :=
  s.updView (i.chan / 4) (fun v => { v with cmd := stnPut v.cmd (i.chan % 4) i.a })

/-- The safe value word of a worker's station outputs. -/
def State.stnSafe (s : State) (w : Nat) : Nat := s.wkParam w 0x49

/-- A station output takes its safe value (R224, R270). -/
def State.stnToSafe (s : State) (w item : Nat) : State :=
  s.updView w (fun v => { v with cmd := stnPut v.cmd item (stnGet (s.stnSafe w) item) })

/-- In Apply, each worker that the manager owns receives its refresh (R677). -/
def State.stnRefresh (s : State) : State :=
  if s.full then
    s.each (s.workers.filter s.owns) (fun t w =>
      let n := (t.ring (wRing w)).seq
      (t.sendWrite w 2 0 (t.view w).cmd).updView w (fun v => { v with ack := 1, refSeq := n, refVal := v.cmd }))
  else s

/-- DETAIL of EV46 and EV47 (R685). DESIGN CHOICE: a count above 255, which HOLD 255 allows, shows as 255 (log 197). -/
def stnDetail (w n : Nat) : List Byte := le 1 (wRing w) ++ le 1 (wAddr w) ++ le 1 (Nat.min n 255)

/-- The station outputs whose new value a refresh carried: those that it changes from the last acknowledged one (R54). -/
def View.newOuts (v : View) : Nat := ((List.range 4).filter (fun k => stnGet v.refVal k != stnGet v.heldVal k)).length

/-- At the set instant the refresh of this tick is judged (R54, R684, R691). -/
def State.stnJudge (s : State) (w : Nat) : State :=
  let v := s.view w
  if v.ack = 0 then s
  else if v.ack = 2 then
    ((s.updView w (fun v => { v with unack := 0, heldVal := v.refVal })).finish 46 w).finish 47 w
  else
    let hold := fld (s.wkParam w 0x48) 0 8
    let n := v.unack + 1
    let s1 := (s.updView w (fun v => { v with unack := n })).each (List.range v.newOuts) (fun t _ => t.incPf 0x0205 0 16)
    let s2 := s1.raise 0 []
    if n ≤ hold then s2.begin 46 w (stnDetail w n)
    else (s2.finish 46 w).begin 47 w (stnDetail w n)

/-- How the refresh of this tick answers an OUT_SET (R681). -/
def State.stnStatus (s : State) (w : Nat) : Nat :=
  match (s.view w).ack with
  | 2 => 0
  | 3 => 0x0302
  | _ => 0x0500

/-- SWI.STNHELD (event 46) or SWI.STNDOWN (47), word `k`. -/
def State.stnMap (s : State) (e k : Nat) : Nat :=
  maskOf (((s.evt.conds.filter (fun c => c.1 == e && c.2.1 / 32 == k)).map (fun c => c.2.1 % 32)))

end Sys2Proof.Machine
end

