-- ==== Sys2Proof/Machine/HsEvents.lean ====
section
/-! DEFINITION. The commands of the load switches and generators. An event that cannot occur in the present state, such
as a trip of a channel that is off, leaves the state as it is. -/

namespace Sys2Proof.Machine

/-- PG_RELOAD (R558, R559, R561). -/
def execPgReload (g : Nat) (sameClock : Bool) (s : State) : Host.Outcome State Fault Refusal :=
  done (if g < 16 && s.awake then s.pgReload g sameClock else s)

/-- HS_LIMITING (R564). -/
def execHsLimiting (n : Nat) (s : State) : Host.Outcome State Fault Refusal :=
  done (if n < 40 && s.pb (hsStat n) 0 then s.setPb (hsStat n) 1 true else s)

/-- HS_OVERCURRENT_TRIP (R565 to R568). -/
def execHsOvercurrentTrip (n ma : Nat) (s : State) : Host.Outcome State Fault Refusal :=
  done (if n < 40 && (s.pb (hsStat n) 0 || (s.hs n).tripped) then s.hsTrip n 21 ma else s)

/-- HS_THERMAL_TRIP (R565, R566, R571). -/
def execHsThermalTrip (n ma : Nat) (s : State) : Host.Outcome State Fault Refusal :=
  done (if n < 40 && (s.pb (hsStat n) 0 || (s.hs n).tripped) then s.hsTrip n 23 ma else s)

/-- HS_COOLDOWN_END (R566, R567): the cool-down lasts 8 ticks. -/
def execHsCooldownEnd (n : Nat) (s : State) : Host.Outcome State Fault Refusal :=
  done (if n < 40 && s.pb (hsStat n) 2 && 8 ≤ (s.hs n).quiet then (s.setPb (hsStat n) 2 false).hsWaited n else s)

/-- HS_THERMAL_RESTART (R566). -/
def execHsThermalRestart (n : Nat) (s : State) : Host.Outcome State Fault Refusal :=
  done (if n < 40 && s.pb (hsStat n) 3 then (s.setPb (hsStat n) 3 false).hsWaited n else s)

/-- HS_RETRIES_CLEAR (R570): 1,000 ticks have passed since the last trip. -/
def execHsRetriesClear (n : Nat) (s : State) : Host.Outcome State Fault Refusal :=
  done (if n < 40 && 1000 ≤ (s.hs n).quiet then s.setPf (hsStat n) 8 4 0 else s)

/-- FOLLOW_INPUT_CHANGE (R576, R577, R663, R669): while DIN `n` is open, the comparator of SW(48+n), which is sensed continuously, has
read the pin voltage `mv` for `us` µs. A level that has stood for HS.FOLLOW.FILT drives HS(24+n). -/
def execFollowInputChange (n : Nat) (mv : Int) (us : Nat) (s : State) : Host.Outcome State Fault Refusal :=
  done (if n < 16 && s.full && s.pb (hsStat (24 + n)) 6 then
    let r := s.swRead (48 + n) mv (s.swRaw (48 + n))
    let s1 := s.updSw (48 + n) (fun c => { c with raw := r })
    if s.pf (0x2720 + n) 0 10 ≤ us then (s1.updHs (24 + n) (fun c => { c with follow := some r })).hsDrive (24 + n) else s1
  else s)

/-- CONTACTOR_PULLIN_END (R580): the hold duty reaches the shadow, and the channel stays fully on until the next reload. -/
def execContactorPullinEnd (n : Nat) (s : State) : Host.Outcome State Fault Refusal :=
  done (if n < 8 && (s.hs n).cont = 1 then
    ((s.hsShadow n (s.pf (0x2702 + 4 * n) 0 16)).setPb (hsStat n) 7 false).updHs n (fun c => { c with cont := 2 })
  else s)

/-- Whether a record may end the weld check (R584): its sample instant lies at least HS.WELD.DELAY after the opening, and every
channel of MASK is open. The sample instants of two ticks lie whole ticks apart, and the opening fell after its tick's own, or not. -/
def State.weldEnds (s : State) (w : Weld) (tick : Nat) : Bool :=
  let us := (tick - w.tick) * s.tUs
  let wait := 1000 * s.pf 0x2730 16 8
  (wait < us || (w.early && wait == us)) && (bitsOf (s.p 0x2730) 8).all (fun n => (s.hs n).cont == 0)

/-- WELD_CHECK_END (R584 to R586). -/
def execWeldCheckEnd (s : State) : Host.Outcome State Fault Refusal :=
  done (match s.out.weld.filter (fun w => s.weldEnds w (s.inst (s.pf 0x2730 8 3)).recTick),
      (s.inst (s.pf 0x2730 8 3)).lastRec with
  | some w, some r =>
    let d := if r.vPack < r.vLink then r.vLink - r.vPack else r.vPack - r.vLink
    let s1 := (s.mapOut (fun o => { o with weld := none })).setPf 0x2731 2 3 w.chan
    if bit r.mstat 2 || bit r.mstat 3 then s1.setPf 0x2731 0 2 3
    else
      let s2 := s1.setPf 0x2731 16 16 (Nat.min (d / 1000) 0xFFFF)
      if d ≤ 1000 * s.pf 0x2730 24 8 then
        (s2.setPf 0x2731 0 2 2).raise 21 (le 1 w.chan ++ le 1 3 ++ le 2 (d / 1000) ++ le 1 (s.pf (hsStat w.chan) 8 4))
      else s2.setPf 0x2731 0 2 1
  | _, _ => s)

/-- WELD_CHECK_TIMEOUT (R586). -/
def execWeldCheckTimeout (s : State) : Host.Outcome State Fault Refusal :=
  done (match s.out.weld with
  | some w => ((s.mapOut (fun o => { o with weld := none })).setPf 0x2731 2 3 w.chan).setPf 0x2731 0 2 3
  | none => s)

end Sys2Proof.Machine
end

