-- ==== Sys2Proof/Machine/Records.lean ====
section
/-! DEFINITION. The byte layouts of records: RESULT payloads, accumulator slots, turfs, snapshots (R310, R372, R459,
R466, R475, R481, R490, R676). -/

namespace Sys2Proof.Machine

/-- A signed value in `n` little-endian bytes. -/
def sle (n : Nat) (v : Int) : List Byte := le n (toTwos (8 * n) v)

/-- Two 4-bit statuses to a byte, the first in the low nibble. -/
def nibbles : List Nat → List Byte
  | a :: b :: r => le 1 (a % 16 + 16 * (b % 16)) ++ nibbles r
  | [a] => le 1 (a % 16)
  | [] => []

/-- The 2-bit statuses of eight inputs. -/
def twoBits (l : List Nat) : Nat := (List.range 8).foldl (fun a i => a + 4 ^ i * (nth 3 l i % 4)) 0

/-- A cell worker's measurement record (R372). -/
def cellBytes (r : CellRec) : List Byte :=
  ((padTo 0 24 r.cells).flatMap (le 2)) ++ le 2 r.stack ++ ((padTo 0 8 r.temps).flatMap (sle 2)) ++
    nibbles (padTo 6 24 r.cstat) ++ le 2 (twoBits r.tstat) ++ le 3 r.bal ++ le 1 r.wflags ++ zeros 4

/-- A meter worker's measurement record (R459). -/
def meterBytes (r : MeterRec) : List Byte :=
  sle 4 r.iPri ++ sle 4 r.iChk ++ le 4 r.vPack ++ le 4 r.vLink ++ sle 4 r.iPeak ++ le 8 r.eIn ++ le 8 r.eOut ++
    le 8 r.qIn ++ le 8 r.qOut ++ le 8 r.seq ++ le 1 r.segment ++ le 1 r.sflags ++ le 1 r.mstat ++ zeros 1 ++
    le 2 r.disagree ++ sle 2 r.tShunt ++ zeros 20

/-- A measurement record. -/
def measBytes : Meas → List Byte
  | .cell r => cellBytes r
  | .meter r => meterBytes r

/-- A station record (R676). -/
def stnBytes (r : StnRec) : List Byte :=
  le 1 r.di ++ le 1 r.state ++ le 1 r.fault ++ le 1 r.misses ++ ((padTo 0 8 r.temps).flatMap (sle 2)) ++
    le 2 (twoBits r.tstat) ++ zeros 2

/-- A RESULT payload (R310). -/
def resultBytes (r : ResultRec) : List Byte :=
  le 6 r.tick ++ le 1 r.flags ++ le 1 r.lease ++ le 2 r.epoch ++ zeros 2 ++ measBytes r.meas ++ stnBytes r.stn

/-- Bytes 0 to 59 of an accumulator slot (R466). -/
def slotBody (a : AccSlot) : List Byte :=
  le 8 a.seq ++ le 6 a.tick ++ le 1 a.segment ++ le 1 a.flags ++ le 4 a.rtc ++ zeros 4 ++ le 8 a.eIn ++ le 8 a.eOut ++
    le 8 a.qIn ++ le 8 a.qOut ++ zeros 4

/-- A whole accumulator slot. -/
def slotBytes (a : AccSlot) : List Byte := withCrc (slotBody a)

/-- The slot whose first 56 bytes are `l` (R466). -/
def slotOf (l : List Byte) (good : Bool) : AccSlot :=
  { seq := leAt l 0 8, tick := leAt l 8 6, segment := leAt l 14 1, flags := leAt l 15 1, rtc := leAt l 16 4,
    eIn := leAt l 24 8, eOut := leAt l 32 8, qIn := leAt l 40 8, qOut := leAt l 48 8, good := good }

/-- The newer valid slot of a pair (R469). -/
def newerSlot (a b : Option AccSlot) : Option AccSlot :=
  match a.filter (·.good), b.filter (·.good) with
  | some x, some y => if x.seq < y.seq then some y else some x
  | some x, none => some x
  | none, y => y

/-- Bytes 0 to 191 of a turf (R481). -/
def turfBody (t : Turf) : List Byte :=
  le 4 t.index ++ le 1 t.inst ++ le 1 t.segment ++ le 1 t.kind ++ le 1 t.tflags ++ le 6 t.startTick ++ le 6 t.endTick ++
    le 4 t.startRtc ++ le 4 t.endRtc ++ ((padTo 0 4 t.totals).flatMap (le 8)) ++ ((padTo 0 4 t.deltas).flatMap (le 4)) ++
    le 2 t.cellMin ++ le 2 t.cellMax ++ le 1 t.cellMinLoc ++ le 1 t.cellMinNo ++ le 1 t.cellMaxLoc ++ le 1 t.cellMaxNo ++
    ((padTo 0 8 t.hist).flatMap (le 4)) ++ le 2 t.disMax ++ zeros 2 ++ le 4 t.disTicks ++ le 4 t.blindTicks ++
    le 8 t.evtMap ++ ((padTo 0 3 t.evtCounts).flatMap (le 2)) ++ zeros 2 ++ ((padTo 0 8 t.contOps).flatMap (le 2)) ++
    ((padTo 0 8 t.contI2t).flatMap (le 2)) ++ ((padTo 0 6 t.vlvCnt).flatMap (le 2)) ++ le 4 t.firstIndex

/-- A whole turf, 256 bytes. -/
def turfBytes (t : Turf) : List Byte := turfBody t ++ padTo 0#8 64 t.signature

/-- The 128-byte binding record; its layout within those bytes is the model's. -/
def bindingBytes (b : Binding) : List Byte :=
  padTo 0#8 128 (le 8 (b.serial.getD 0) ++ le 1 (b2n b.serial.isSome + 2 * b2n b.isSealed) ++ le 1 b.holders.length ++
    b.holders.flatMap (fun h => le 1 h.1 ++ le 1 h.2))

/-- The bytes as little-endian words. -/
def wordsOf : List Byte → List Nat
  | a :: b :: c :: d :: r => leNat [a, b, c, d] :: wordsOf r
  | [] => []
  | l => [leNat l]

/-- Words as little-endian bytes. -/
def bytesOf (l : List Nat) : List Byte := l.flatMap (le 4)

end Sys2Proof.Machine
end

