-- ==== Sys2Proof/Machine/Worker.lean ====
section
/-! DEFINITION. A worker's frames, timing, lease, enumeration, stored parameters, station outputs and supply (R16, R20 to
R32, R309 to R350, R354, R521, R522, R674 to R692). A frame named for a worker is the frame as it arrives there. -/

namespace Sys2Proof.Machine

/-- Whether the worker runs from its RC oscillator: no ring signal on either lane (R32). -/
def Wk.onRc (k : Wk) : Bool := k.lostA && k.lostB

/-- A worker sends a frame of its own toward an end: 0 A, 1 B. -/
def State.wkSend (s : State) (w dir kind : Nat) (body : List Byte) : State :=
  let k := s.wk w
  (s.mapSent (fun t => { t with worker := t.worker ++ [(w, ⟨wRing w, dir, k.addr, kind, 2 + b2n (dir == 0), k.seq,
      body⟩)] })).updWk w
    (fun k => { k with seq := (k.seq + 1) % 256 })

/-- A frame that came to the worker from the side of end `lane` goes on, or back where its onward lane has no signal (R311,
R333). `flags` is FLAGS without TOWARD_A. -/
def State.wkForward (s : State) (w lane addr kind flags seq : Nat) (body : List Byte) : State :=
  let k := s.wk w
  let d := if lane = 0 then (if k.lostB then 0 else 1) else if k.lostA then 1 else 0
  s.mapSent (fun t => { t with worker := t.worker ++ [(w, ⟨wRing w, d, addr, kind, flags + b2n (d == 0), seq, body⟩)] })

/-- A manager's frame goes on as it came (R311). -/
def State.wkPass (s : State) (w : Nat) (h : WHdr) (kind : Nat) (body : List Byte) : State :=
  s.wkForward w h.lane h.dest kind (4 * h.role) h.seq body

/-- Whether the worker takes a manager's frame: ADDR 0, or its own address (R23, R311). -/
def Wk.takes (k : Wk) (h : WHdr) : Bool := h.dest == 0 || h.dest == k.addr

/-- What a worker does with a manager's frame (R311): it forwards all but its own, and `f` takes what is meant for it. -/
def State.wkFrame (s : State) (w : Nat) (h : WHdr) (kind : Nat) (body : List Byte) (f : State → State) : State :=
  let k := s.wk w
  let s1 := if h.dest = k.addr ∧ h.dest ≠ 0 then s else s.wkPass w h kind body
  if k.takes h then f s1 else s1

/-- An ACK (R310). -/
def State.wkAck (s : State) (w etype eseq status value : Nat) : State :=
  s.wkSend w (s.wk w).toEnd 6 (le 1 etype ++ le 1 eseq ++ le 2 status ++ le 4 value)

/-- A fault journal entry (R316). -/
def Wk.log (k : Wk) (code item value : Nat) : Wk :=
  let e : WkJ := { index := k.jnext, tick := k.tick, code := code,
                   timing := b2n (k.fly != 0) + 2 * b2n k.own + 4 * b2n (k.mode == 2),
                   rtc := if k.meter then k.meterU.rtc else 0, item := item, value := value }
  { k with journal := Tbl.set k.journal (k.jnext % 512) e, jnext := k.jnext + 1 }

/-- A worker writes its fault journal. -/
def State.wkJournal (s : State) (w code item value : Nat) : State := s.updWk w (fun k => k.log code item value)

/-- The bytes of a fault journal entry. -/
def wkjBytes (e : WkJ) : List Byte :=
  withCrc (le 4 e.index ++ le 6 e.tick ++ le 1 e.code ++ le 1 e.timing ++ le 4 e.rtc ++ le 1 e.item ++ zeros 1 ++
    le 2 e.value ++ zeros 8)

/-- Whether the worker runs: powered, and not Banked. -/
def Wk.runs (k : Wk) : Bool := k.mode == 1

/-- The lease record: owner, remaining ticks, epoch (R341). -/
def Wk.owner (k : Wk) : Nat := fld (k.p 3) 0 2
def Wk.remain (k : Wk) : Nat := fld (k.p 3) 2 4
def Wk.epoch (k : Wk) : Nat := fld (k.p 3) 16 16

/-- A worker's parameter stored. -/
def Wk.setP (k : Wk) (i v : Nat) : Wk :=
  let x := BitVec.ofNat 32 v
  { k with params := if x = wkReset k.meter i then Tbl.del k.params i else Tbl.set k.params i x }

/-- Whether the worker takes a WRITE of that sender (R344, R346). -/
def Wk.accepts (k : Wk) (h : WHdr) : Bool := h.role == 0 || (h.role == k.owner && h.epoch == k.epoch)

/-- A WRITE at a running worker (R310, R311, R313, R344): refused with NOT_OWNER, or answered with the status and value of what
it does. -/
def State.wkWrite (s : State) (w : Nat) (h : WHdr) (kind index : Nat) (value : Word) (f : Wk → Nat × Nat × Wk) : State :=
  let k := s.wk w
  if !k.runs then s
  else s.wkFrame w h 5 (le 1 kind ++ zeros 1 ++ le 2 index ++ le 4 value.toNat ++ le 2 h.epoch) (fun t =>
    if !k.accepts h then t.wkAck w 5 h.seq 0x0302 0
    else
      let r := f k
      (t.updWk w (fun _ => r.2.2)).wkAck w 5 h.seq r.1 r.2.1)

/-- A worker command at an index (R314): BAD_PARAM where the role lacks it or `ok` fails. `who`: 0 both, 1 cell, 2 meter. -/
def State.wkCommand (s : State) (w : Nat) (h : WHdr) (index : Nat) (value : Word) (who : Nat) (ok : Wk → Bool) (f : Wk → Wk) :
    State :=
  s.wkWrite w h 3 index value (fun k =>
    if (who = 1 ∧ k.meter = true) ∨ (who = 2 ∧ k.meter = false) ∨ ok k = false then (0x0103, 0, k) else (0, 0, f k))

/-- A READ at a running worker, which any manager may send (R310, R311, R344). -/
def State.wkRead (s : State) (w : Nat) (h : WHdr) (kind back index : Nat) (f : State → State) : State :=
  if (s.wk w).runs then s.wkFrame w h 4 (le 1 kind ++ le 1 back ++ le 2 index ++ zeros 4) f else s

/-- Staging one word (R315). -/
def Wk.stage (k : Wk) (i v : Nat) : Wk := { k with staged := Tbl.set k.staged i v }

/-- Whether the `n` words from index `i` are staged. -/
def Wk.hasStaged (k : Wk) (i n : Nat) : Bool := (List.range n).all (fun j => (Tbl.find k.staged (i + j)).isSome)

/-- The `n` staged words from index `i`. -/
def Wk.stagedAt (k : Wk) (i n : Nat) : List Nat := (List.range n).map (fun j => (Tbl.find k.staged (i + j)).getD 0)

/-- A commit takes its group (R315): it applies at the set instant or in the Commit. -/
def Wk.commit (k : Wk) (i v first n : Nat) : Wk :=
  { k with pend := k.pend ++ [(i, v, k.stagedAt first n)],
           staged := k.staged.filter (fun e => e.1 < first || first + n ≤ e.1) }

/-- Wires that are suspect, and open. -/
def Wk.suspects (k : Wk) : List Nat := (k.wires.filter (fun e => !e.2.isOpen)).map (·.1)
def Wk.opens (k : Wk) : List Nat := (k.wires.filter (fun e => e.2.isOpen)).map (·.1)

/-- Whether cell `c` from 1 is beside a wire that is suspect or open (R398, R418, R428). -/
def Wk.beside (k : Wk) (c : Nat) : Bool := k.wires.any (fun e => e.1 == c || e.1 + 1 == c)

/-- The cells of a running impedance point (R426). -/
def Wk.impCells (k : Wk) : Nat :=
  match k.imp with
  | some m => if m.running then nth 0 m.words 1 % 2 ^ 24 else 0
  | none => 0

/-- The cells selected by a run in progress (table "Coinciding conditions" of the capture chapter). -/
def Wk.runCells (k : Wk) : Nat :=
  match k.imp with
  | some m => nth 0 m.words 1 % 2 ^ 24
  | none => 0

/-- Whether cell `c` from 1 balances (R389, R391, R392, R398, R414, R418, R426). -/
def Wk.balances (k : Wk) (c : Nat) : Bool :=
  k.balLeft != 0 && bit k.balMask (c - 1) && !k.hot && !k.rtNow && !k.beside c && !bit k.impCells (c - 1)

/-- WRK.BALSTAT. -/
def Wk.balNow (k : Wk) : Nat := maskOf ((List.range 24).filter (fun i => k.balances (i + 1)))

/-- The state of the station (R676, R683, R688). -/
def Wk.stnState (k : Wk) : Nat := if k.stSafe then 2 else if k.stMiss = 0 then 0 else 1

/-- A worker parameter as read (R788). -/
def Wk.readP (k : Wk) (i : Nat) : Nat :=
  match i with
  | 0x0F => k.balNow
  | 0x11 => maskOf k.suspects
  | 0x12 => maskOf k.opens
  | 0x4A => k.stnState + 2 ^ 8 * k.trips + 2 ^ 16 * Nat.min k.stMiss 255
  | _ => k.p i

/-- Which of the four lamps of a value word are off: those whose value is 0. -/
def stnOff (v : Nat) : Nat := maskOf ((List.range 4).filter (fun i => stnGet v i == 0))

/-- The outputs of `v` that are not tripped. -/
def stnMask (v trips : Nat) : Nat := (List.range 4).foldl (fun a i => if bit trips i then stnPut a i 0 else a) v

/-- A worker's station outputs keep their safe values, off without a stored configuration: in Kindling (R688), and while it is
RESTARTED (R692). -/
def Wk.safeHeld (k : Wk) : Wk := { k with outs := if k.hasCfg then stnMask (k.p 0x49) k.trips else 0 }

/-- A refresh takes effect (R679, R682, R692): an output that it carries 0 for is no longer tripped, and a worker that sets
RESTARTED keeps its safe values. -/
def Wk.refreshed (k : Wk) (v : Nat) : Wk :=
  let t := ((BitVec.ofNat 4 k.trips) &&& ~~~(BitVec.ofNat 4 (stnOff v))).toNat
  if k.restarted then ({ k with trips := t, stMiss := 0 }).safeHeld
  else { k with outs := stnMask v t, trips := t, stMiss := 0, stSafe := false }

/-- A set instant without an accepted refresh (R683, R688). -/
def Wk.missed (k : Wk) : Wk :=
  if k.slow then k
  else
    let n := Nat.min (k.stMiss + 1) 255
    let hold := fld (k.p 0x48) 0 8
    if hold ≤ k.stMiss ∧ k.stSafe = false then
      { (k.log 0x25 0 0) with stMiss := n, stSafe := true, outs := stnMask (k.p 0x49) k.trips }
    else { k with stMiss := n }

/-- WRITE_PARAMETER (R344, R783, R790, R837): the worker's RWK fields are written by the manager's configuration, and
its hop delays by the manager's calibration (R334). -/
def execWriteParameter (w : Nat) (h : WHdr) (index : Nat) (value : Word) (s : State) : Host.Outcome State Fault Refusal :=
  done (s.wkWrite w h 1 index value (fun k =>
    match wkRow k.meter index with
    | none => (0x0103, 0, k)
    | some r =>
      let takes : Acc → Bool := fun a => a != .ro
      let v := value.toNat
      if index = 1 ∨ index = 2 then (0, v % 2 ^ 17, k.setP index (v % 2 ^ 17))
      else if r.allRo then (0x0301, k.readP index, k)
      else if !r.inRange takes v then (0x0103, k.readP index, k)
      else
        let k1 := { (k.setP index (r.apply takes (k.p index) v)) with
                    hasCfg := true, restarted := false, meterU := { k.meterU with abandoned := false } }
        (0, k1.readP index, k1)))

/-- Bytes 0 to 3 of the station record, as an ACK's value carries them (R679). -/
def Wk.stnWord (k : Wk) : Nat := k.di + 2 ^ 8 * k.stnState + 2 ^ 16 * k.trips + 2 ^ 24 * Nat.min k.stMiss 255

/-- STATION_REFRESH (R313, R679): it applies at the set instant, and the ACK tells the record after it. DESIGN CHOICE: one that comes
after the set instant of its tick is not accepted, and its ACK tells the record as it stands (log 197). -/
def execStationRefresh (w : Nat) (h : WHdr) (value : Word) (s : State) : Host.Outcome State Fault Refusal :=
  done (s.wkWrite w h 2 0 value (fun k =>
    if k.tphase = 1 then (0, k.stnWord, k)
    else (0, (k.refreshed value.toNat).stnWord, { k with refresh := some value.toNat })))

/-- TIME (R474). -/
def execTime (w : Nat) (h : WHdr) (value : Word) (s : State) : Host.Outcome State Fault Refusal :=
  done (s.wkCommand w h 1 value 2 (fun _ => true) (fun k =>
    { k with meterU := { k.meterU with rtc := value.toNat, rtcUs := 0 } }))

/-- BAL_MASK (R315). -/
def execBalMask (w : Nat) (h : WHdr) (value : Word) (s : State) : Host.Outcome State Fault Refusal :=
  done (s.wkCommand w h 0x10 value 1 (fun _ => true) (fun k => k.stage 0x10 (value.toNat % 2 ^ 24)))

/-- BAL_RUN (R315, R389). -/
def execBalRun (w : Nat) (h : WHdr) (value : Word) (s : State) : Host.Outcome State Fault Refusal :=
  done (s.wkCommand w h 0x11 value 1 (fun k => k.hasStaged 0x10 1) (fun k => k.commit 0x11 value.toNat 0x10 1))

/-- SHARD_DATA (R315, R492). -/
def execShardData (w : Nat) (h : WHdr) (index : Nat) (value : Word) (s : State) : Host.Outcome State Fault Refusal :=
  done (s.wkCommand w h index value 0 (fun _ => 0x100 ≤ index && index < 0x118) (fun k => k.stage index value.toNat))

/-- Whether the 24 words of a snapshot carry a matching CRC (R490). -/
def snapGood (l : List Nat) : Bool := crc32c (bytesOf (l.take 23)) == nth 0 l 23

/-- SHARD_COMMIT (R315, R492). -/
def execShardCommit (w : Nat) (h : WHdr) (value : Word) (s : State) : Host.Outcome State Fault Refusal :=
  done (s.wkCommand w h 0x118 value 0
    (fun k => k.hasStaged 0x100 24 && value.toNat < 8 && snapGood (k.stagedAt 0x100 24))
    (fun k => k.commit 0x118 value.toNat 0x100 24))

/-- SLOT_DATA (R315). -/
def execSlotData (w : Nat) (h : WHdr) (index : Nat) (value : Word) (s : State) : Host.Outcome State Fault Refusal :=
  done (s.wkCommand w h index value 2 (fun _ => 0x120 ≤ index && index < 0x12F) (fun k => k.stage index value.toNat))

/-- SLOT_COMMIT (R315, R471, R500). -/
def execSlotCommit (w : Nat) (h : WHdr) (value : Word) (s : State) : Host.Outcome State Fault Refusal :=
  done (s.wkCommand w h 0x12F value 2 (fun k => k.hasStaged 0x120 15) (fun k => k.commit 0x12F value.toNat 0x120 15))

/-- The SEQ of the shard entry's slot, one more than it, 0 where the entry holds none. -/
def shardRank (l : List Word) : Nat :=
  if snapGood (l.map (·.toNat)) then 1 + leNat ((bytesOf (l.map (·.toNat))).drop 16 |>.take 8) else 0

/-- SHARD_COMMIT in the Commit: the older entry of the pair takes the snapshot (R492). -/
def Wk.putShard (k : Wk) (inst : Nat) (l : List Nat) : Wk :=
  let e (h : Nat) := Tbl.get [] k.shards (2 * inst + h)
  let half := if shardRank (e 1) < shardRank (e 0) then 1 else 0
  { k with shards := Tbl.put [] k.shards (2 * inst + half) (l.map (BitVec.ofNat 32)) }

/-- A slot goes to its place by SEQ (R466). -/
def WkMeter.put (m : WkMeter) (a : AccSlot) : WkMeter :=
  { m with slot0 := if a.seq % 2 = 0 then some a else m.slot0
           slot1 := if a.seq % 2 = 1 then some a else m.slot1
           seq := a.seq }

/-- The SEQ of the slot to come (R467, R471): a worker that has found no valid slot writes SEQ 0 first (DEDUCED: R470 speaks of
a lone valid slot with SEQ 0). -/
def WkMeter.nextSeq (m : WkMeter) : Nat :=
  if m.seq = 0 ∧ (newerSlot m.slot0 m.slot1).isNone = true then 0 else m.seq + 1

/-- The slot of this tick (R466, R467). -/
def Wk.slotNow (k : Wk) : AccSlot :=
  let m := k.meterU
  { seq := m.nextSeq, tick := k.tick, segment := m.segment,
    flags := b2n (k.slow && k.mode == 1) + 2 * b2n (k.sync.isNone && k.mode == 1) + 4 * b2n (k.mode == 2) +
      8 * b2n m.chkUsed + 16 * b2n m.blind + 128 * b2n m.fresh,
    rtc := m.rtc, eIn := m.eIn, eOut := m.eOut, qIn := m.qIn, qOut := m.qOut, good := true }

/-- SLOT_COMMIT in the Commit (R471): a FRESH worker adds its own totals. -/
def Wk.putStaged (k : Wk) (l : List Nat) : Wk :=
  let a := slotOf (bytesOf l) true
  let m := k.meterU
  let x (v own : Nat) := if m.fresh then v + own else v
  let b := { a with flags := a.flags % 128, eIn := x a.eIn m.eIn, eOut := x a.eOut m.eOut,
                    qIn := x a.qIn m.qIn, qOut := x a.qOut m.qOut }
  { k with meterU := { (m.put b) with eIn := b.eIn, eOut := b.eOut, qIn := b.qIn, qOut := b.qOut, segment := b.segment,
                                      fresh := false } }

/-- The worker's set instant (R315, R389, R422, R436, R438 to R440, R679, R683): accepted commits and the refresh. A disarm
leaves a capture that has triggered to complete (R224), and every FLR_ARM ends the raw record. -/
def Wk.atSet (k : Wk) : Wk :=
  let one (k : Wk) (e : Nat × Nat × List Nat) : Wk :=
    let f := k.flare
    let src := nth 0 f.trig 0 % 256
    if e.1 = 0x11 then { k with balMask := nth 0 e.2.2 0, balLeft := e.2.1 }
    else if e.1 = 0x2B then
      { k with imp := some { words := e.2.2, slot := e.2.1 % 2048, point := 0, repeats := 0, running := false, tick := 0,
                             drive := [], bad := [] }, raw := [], rawTick := 0 }
    else if e.1 = 0x35 then
      let x := nth 0 e.2.2 0 % 256
      if x = 0 then { k with
        flare := { f with trig := e.2.2, st := if f.st = 3 ∨ (f.st = 2 ∧ f.mode = 0) then f.st else 0 }, raw := [], rawTick := 0 }
      else { k with flare := { f with trig := e.2.2, st := 1, tick := 0, offset := 0, group := false, short := false,
                                      arm := k.tick, rows := [] }, raw := [], rawTick := 0 }
    else if e.1 = 0x37 then
      if f.st = 1 then
        { k with flare := { f with st := 2, tick := nth 0 e.2.2 0 + 2 ^ 32 * (e.2.1 % 65536), offset := e.2.1 / 65536,
                                   group := 4 ≤ src && src ≤ 6 } }
      else k
    else k
  let now := k.pend.filter (fun e => e.1 != 0x118 && e.1 != 0x12F)
  let k0 := { k with balLeft := k.balLeft - 1 }
  let k1 := now.foldl one { k0 with pend := k.pend.filter (fun e => e.1 == 0x118 || e.1 == 0x12F), staged := [] }
  let k2 := match k1.refresh with
    | some v => { (k1.refreshed v) with refresh := none }
    | none => k1.missed
  { k2 with tphase := 1 }

/-- The meter worker's wall time advances by `us` (R474). -/
def WkMeter.advance (m : WkMeter) (us : Nat) : WkMeter :=
  let n := m.rtcUs + us
  { m with rtc := (m.rtc + n / 1000000) % 2 ^ 32, rtcUs := n % 1000000 }

/-- Whether the meter worker has sampled since its last slot: the newest record it holds names the slot to come (R459,
R467). A worker that has had no tick of its own writes none. -/
def Wk.slotDue (k : Wk) : Bool :=
  match k.held with
  | r :: _ => (match r.meas with
    | .meter m => m.seq == k.meterU.nextSeq
    | .cell _ => false)
  | [] => false

/-- The worker's Commit (R315, R322, R467, R492): shards, the accumulator slot, and the tick's marks. -/
def Wk.atCommit (k : Wk) : Wk :=
  let staged := k.pend.filter (fun e => e.1 == 0x12F)
  let k1 := (k.pend.filter (fun e => e.1 == 0x118)).foldl (fun k e => k.putShard e.2.1 e.2.2) k
  let k2 := if k1.meter then
      if staged.isEmpty then (if k1.slotDue then { k1 with meterU := k1.meterU.put k1.slotNow } else k1)
      else staged.foldl (fun k e => k.putStaged e.2.2) k1
    else k1
  { k2 with pend := k2.pend.filter (fun e => e.1 != 0x118 && e.1 != 0x12F), sync := none, tphase := 2,
            meterU := if k1.meter && k1.slotDue then k2.meterU.advance (periodUs k2.period) else k2.meterU }

/-- READ_PARAMETER (R316, R493). -/
def execReadParameter (w : Nat) (h : WHdr) (index : Nat) (s : State) : Host.Outcome State Fault Refusal :=
  done (s.wkRead w h 1 0 index (fun t =>
    let k := t.wk w
    if 0x200 ≤ index ∧ index < 0x400 then
      t.wkAck w 4 h.seq 0 (nth 0#32 (Tbl.get [] k.shards ((index - 0x200) / 32)) (index % 32)).toNat
    else if (wkRow k.meter index).isSome then t.wkAck w 4 h.seq 0 (k.readP index)
    else t.wkAck w 4 h.seq 0x0103 0))

/-- READ_FAULT_JOURNAL (R316): an entry never written reads as zeros. -/
def execReadFaultJournal (w : Nat) (h : WHdr) (index : Nat) (s : State) : Host.Outcome State Fault Refusal :=
  done (s.wkRead w h 2 0 index (fun t =>
    let k := t.wk w
    if index = 0xFFFF then t.wkAck w 4 h.seq 0 k.jnext
    else if index < 4096 then
      let l := match Tbl.find k.journal (index / 8) with
        | some e => wordsOf (wkjBytes e)
        | none => []
      t.wkAck w 4 h.seq 0 (nth 0 l (index % 8))
    else t.wkAck w 4 h.seq 0x0103 0))

/-- READ_HELD_RESULT (R324, R325): the held result of that tick again; a tick that was not sampled leaves none. -/
def execReadHeldResult (w : Nat) (h : WHdr) (back : Nat) (s : State) : Host.Outcome State Fault Refusal :=
  done (s.wkRead w h 0 back 0 (fun t =>
    let k := t.wk w
    if 3 < back then t.wkAck w 4 h.seq 0x0103 0
    else match k.held.find? (fun r => r.tick + back == k.tick) with
      | some r => t.wkSend w k.toEnd 7 (resultBytes { r with flags := setFld r.flags 1 1 (b2n (back != 0)) })
      | none => t.wkAck w 4 h.seq 0x0501 0))

/-- A worker's tick ends with its own set instant and Commit, which a manager that has stopped does not bring about (R467,
R683). -/
def Wk.tickOver (k : Wk) : Wk :=
  let k1 := if k.tphase = 0 then k.atSet else k
  if k1.tphase ≤ 1 then k1.atCommit else k1

/-- Ending the open-wire procedure with its marks: Kindling takes every wire as whole again (R382, R416; DEDUCED: its sensing
starts anew with the release). -/
def Wk.dropWires (k : Wk) : Wk := { k with wires := [], rt := 0, rtNow := false, rtDue := false, rtSrc := [], owNow := none }

/-- A lane on which a frame arrives has signal (R31, R32). -/
def Wk.hears (k : Wk) (lane : Nat) : Wk := { k with lostA := k.lostA && lane != 0, lostB := k.lostB && lane == 0 }

/-- What a SYNC does to a worker (R319 to R322, R347, R688): of the primary ones of a tick that cover it, the first from end A
counts, else the first from end B. A worker that has sampled in Kindling and hears the full rate has been configured on the
path to Lit, and ends RESTARTED (R106, R790). -/
def Wk.synced (k : Wk) (f : SyncF) : Wk :=
  let prim := bit f.flags 0
  let again := k.sync.isSome && f.tick % 2 ^ 48 == k.tick && (f.fromEnd != 0 || k.sync == some 0)
  let turned := if f.tick % 2 ^ 48 = k.tick then k else k.tickOver
  let k0 := { turned with mode := 1, ember := false, bank := k.bank || (prim && bit f.flags 1) }
  let k1 := if bit f.flags 2 then k0.dropWires.safeHeld else k0
  if prim && f.first ≤ k.addr && k.addr ≤ f.last && k.addr != 0 && !again then
    let d := k.p (if f.fromEnd = 0 then 1 else 2)
    { k1 with tick := f.tick % 2 ^ 48, staged := if f.tick % 2 ^ 48 = k.tick then k.staged else [], period := f.period,
              slow := bit f.flags 2, sync := some f.fromEnd, fly := 0,
              own := false, toEnd := f.fromEnd,
              restarted := k.restarted && !(k.slow && !bit f.flags 2 && !k.held.isEmpty),
              meterU := { k1.meterU with abandoned := k1.meterU.abandoned && !(k.slow && !bit f.flags 2 && !k.held.isEmpty) },
              zero := (f.arrival : Int) - (if bit d 16 then (fld d 0 16 : Int) else 0) }
  else k1

/-- SYNC_FRAME (R311, R319 to R322, R347). -/
def execSyncFrame (w : Nat) (h : WHdr) (f : SyncF) (s : State) : Host.Outcome State Fault Refusal :=
  done (
    if (s.wk w).mode = 0 then s
    else
      let body := le 6 f.tick ++ le 1 f.period ++ le 1 f.flags ++ le 1 f.first ++ le 1 f.last ++ zeros 6
      (s.updWk w (fun k => k.hears h.lane)).wkFrame w h 1 body (fun t => t.updWk w (fun k => k.synced f)))

/-- OWN_TIMING_START (R321). -/
def execOwnTimingStart (w : Nat) (s : State) : Host.Outcome State Fault Refusal :=
  done (
    let k := s.wk w
    if k.runs && 64 ≤ k.fly && !k.own then (s.updWk w (fun k => { k with own := true })).wkJournal w 0x22 0 0 else s)

/-- WORKER_BANK_ENTRY (R322, R454, R690): balancing and capture end, and the station outputs go off. -/
def execWorkerBankEntry (w : Nat) (s : State) : Host.Outcome State Fault Refusal :=
  done (
    let k := s.wk w
    if k.runs && k.bank then s.updWk w (fun k =>
      { k with mode := 2, bank := false, tphase := 2, sync := none, fly := 0, own := false, balMask := 0, balLeft := 0, imp := none,
               raw := [], flare := { WkFlare.d with mode := k.flare.mode, rate := k.flare.rate }, outs := 0, trips := 0,
               stMiss := 0, stSafe := true, refresh := none, staged := [], pend := [], wires := [], rt := 0, rtNow := false, rtDue := false,
               owNow := none, hard := [], good := [], calm := [], out := [], emberTold := false, bankFrom := k.jnext })
    else s)

/-- An ENUM that every worker takes: the worker after it, and the mode, count and total that it forwards (R311, R330 to R333). -/
def State.wkEnum (s : State) (w : Nat) (h : WHdr) (mode count total : Nat) (f : Wk → Wk) : State :=
  if (s.wk w).mode = 0 then s
  else (s.updWk w (fun k => f (k.hears h.lane))).wkPass w h 2 (le 1 mode ++ le 1 count ++ le 1 total ++ zeros 1)

/-- A worker takes an address (R330, R332): it wakes, and the delays of its old place end. -/
def Wk.takeAddr (k : Wk) (a : Nat) : Wk := ({ k with addr := a, mode := 1, ember := false }.setP 1 0).setP 2 0

/-- ENUM_ASSIGN_A (R330, R331, R333). -/
def execEnumAssignA (w : Nat) (h : WHdr) (count : Nat) (s : State) : Host.Outcome State Fault Refusal :=
  done (if 63 ≤ count then s.wkEnum w h 0 count 0 (fun k => { k with addr := 0 })
    else s.wkEnum w h 0 (count + 1) 0 (fun k => k.takeAddr (count + 1)))

/-- ENUM_PROBE_B (R332, R333). -/
def execEnumProbeB (w : Nat) (h : WHdr) (count : Nat) (s : State) : Host.Outcome State Fault Refusal :=
  done (s.wkEnum w h 1 (count + 1) 0 id)

/-- ENUM_ASSIGN_B (R332). -/
def execEnumAssignB (w : Nat) (h : WHdr) (count total : Nat) (s : State) : Host.Outcome State Fault Refusal :=
  done (s.wkEnum w h 2 (count + 1) total (fun k => k.takeAddr ((total - count) % 64)))

/-- ENUM_CAL (R335): the ACK leaves on the lane toward the end that sent the CAL, which measures the round trip. -/
def execEnumCal (w : Nat) (h : WHdr) (s : State) : Host.Outcome State Fault Refusal :=
  done (if (s.wk w).runs then s.wkFrame w h 2 (le 1 3 ++ zeros 3) (fun t => t.wkSend w h.lane 6 (le 1 2 ++ le 1 h.seq ++ le 2 0 ++ le 4 0)) else s)

/-- Whether a LEASE frame covers the worker. -/
def Wk.covered (k : Wk) (f : LeaseF) : Bool := f.first ≤ k.addr && k.addr ≤ f.last && k.addr != 0

/-- A LEASE at a running worker (R311, R340): `op` is its operation, and `f` what it leaves for the sample instant. -/
def State.wkLease (s : State) (w : Nat) (h : WHdr) (op : Nat) (f : LeaseF) (g : Wk → Wk) : State :=
  let body := le 1 f.role ++ le 1 op ++ le 2 f.epoch ++ le 1 f.first ++ le 1 f.last ++ zeros 2
  if (s.wk w).runs then s.wkFrame w h 3 body (fun t => t.updWk w (fun k => if k.covered f then g k else k)) else s

/-- LEASE_RENEW (R341, R521). -/
def execLeaseRenew (w : Nat) (h : WHdr) (f : LeaseF) (s : State) : Host.Outcome State Fault Refusal :=
  done (s.wkLease w h 1 f (fun k =>
    { k with lsRenew := k.lsRenew || (f.role == k.owner && k.owner != 0 && f.epoch == k.epoch) }))

/-- LEASE_CLAIM (R342, R521). -/
def execLeaseClaim (w : Nat) (h : WHdr) (f : LeaseF) (s : State) : Host.Outcome State Fault Refusal :=
  done (s.wkLease w h 2 f (fun k => { k with lsA := k.lsA || f.role == 1, lsB := k.lsB || f.role == 2 }))

/-- LEASE_RELEASE (R343, R521). -/
def execLeaseRelease (w : Nat) (h : WHdr) (f : LeaseF) (s : State) : Host.Outcome State Fault Refusal :=
  done (s.wkLease w h 3 f (fun k => { k with lsRel := k.lsRel || (f.role == k.owner && k.owner != 0) }))

/-- The lease record's update at the sample instant (R341 to R343, R521): a claim is judged on the record as last
reported. -/
def Wk.leaseUpdate (k : Wk) : Wk :=
  let free := k.owner = 0 ∨ k.remain = 0
  let rec1 (o r e : Nat) : Wk := k.setP 3 (o + 4 * r + 2 ^ 16 * e)
  let k1 :=
    if free ∧ (k.lsA = true ∨ k.lsB = true) then rec1 (if k.lsA then 1 else 2) 8 ((k.epoch + 1) % 65536)
    else if k.lsRel then rec1 0 0 k.epoch
    else if k.lsRenew then rec1 k.owner 8 k.epoch
    else rec1 k.owner (k.remain - 1) k.epoch
  { k1 with lsRenew := false, lsA := false, lsB := false, lsRel := false }

/-- Byte 7 of a RESULT (R522). -/
def Wk.leaseByte (k : Wk) : Nat := k.owner + 4 * b2n (k.owner != 0 && k.remain == 0)

/-- WORKER_POWER_UP (R16, R32, R315, R341, R469 to R471, R688, R692, R809): another part in the place brings MRAM of its own, and
no lane has signal until the receivers lock. DESIGN CHOICE: a part whose ROLE level has changed counts as another part, with
blank MRAM. -/
def execWorkerPowerUp (w : Nat) (roleHigh : Bool) (serial : Nat) (s : State) : Host.Outcome State Fault Refusal :=
  done (
    let k := s.wk w
    if k.mode != 0 then s
    else
      let k0 := if k.serial = serial ∧ k.meter = roleHigh then k else { Wk.d with serial := serial, meter := roleHigh }
      let m := k0.meterU
      let a := newerSlot m.slot0 m.slot1
      let v0 := (m.slot0.filter (·.good)).isSome
      let v1 := (m.slot1.filter (·.good)).isSome
      let n := a.getD ⟨0, 0, 0, 128, 0, 0, 0, 0, 0, false⟩
      let aband := (v0 != v1) && !(n.seq == 0 && bit n.flags 7)
      let mu : WkMeter := { WkMeter.d with
        eIn := n.eIn, eOut := n.eOut, qIn := n.qIn, qOut := n.qOut, slot0 := m.slot0, slot1 := m.slot1, seq := n.seq,
        segment := n.segment, kept := n.seq, fresh := bit n.flags 7, abandoned := roleHigh && aband }
      let k1 : Wk := { Wk.d with
        mode := 1, meter := roleHigh, serial := serial,
        params := k0.params.filter (fun e => e.1 != 1 && e.1 != 2 && e.1 != 3 && e.1 != 0x10),
        hasCfg := k0.hasCfg, restarted := true, lostA := true, lostB := true, journal := k0.journal,
        jnext := k0.jnext, bankFrom := k0.jnext, shards := k0.shards, meterU := if roleHigh then mu else WkMeter.d,
        outs := if k0.hasCfg then k0.p 0x49 else 0 }
      let s1 := (s.updWk w (fun _ => k1)).wkJournal w 0x23 0 0
      if roleHigh && aband then s1.wkJournal w 0x26 0 0 else s1)

/-- WORKER_POWER_LOSS (R472): what is not in MRAM is lost at the next power-up, and the outputs are off. -/
def execWorkerPowerLoss (w : Nat) (s : State) : Host.Outcome State Fault Refusal :=
  done (if (s.wk w).mode = 0 then s else s.updWk w (fun k => { k with mode := 0, outs := 0 }))

/-- STATION_OUTPUT_TRIP (R682, R821). -/
def execStationOutputTrip (w lout : Nat) (s : State) : Host.Outcome State Fault Refusal :=
  done (
    let k := s.wk w
    if k.runs && lout < 4 && stnGet k.outs lout != 0 then
      s.updWk w (fun k => { k with outs := stnPut k.outs lout 0, trips := setFld k.trips lout 1 1 })
    else s)

/-- LANE_LOSS (R306, R333, R353): the worker journals the lost receive lane and alarms away from it; a worker whose
primary end it loses turns to the other. -/
def execLaneLoss (w lane : Nat) (s : State) : Host.Outcome State Fault Refusal :=
  done (
    let k := s.wk w
    if !k.runs || (if lane = 0 then k.lostA else k.lostB) then
      s.updWk w (fun k => { k with lostA := k.lostA || lane == 0, lostB := k.lostB || lane != 0 })
    else
      let s1 := (s.updWk w (fun k => { k with
        lostA := k.lostA || lane == 0, lostB := k.lostB || lane != 0
        toEnd := if (lane = 0 ∧ k.toEnd = 0) ∨ (lane ≠ 0 ∧ k.toEnd = 1) then 1 - k.toEnd else k.toEnd })).wkJournal w 0x10
          (b2n (lane != 0)) 0
      s1.wkSend w (if lane = 0 then 1 else 0) 9 (le 1 0x10 ++ le 1 (b2n (lane != 0)) ++ zeros 2 ++ le 6 k.tick ++ zeros 2))

/-- LANE_LOCK at a worker (R31, R333). -/
def execLaneLock (w lane : Nat) (s : State) : Host.Outcome State Fault Refusal :=
  done (s.updWk w (fun k =>
    { k with lostA := k.lostA && lane != 0, lostB := k.lostB && lane == 0 }))

/-- WORKER_ALARM_RECEIVED (R311, R338, R354): it goes on at once as it came; a LANE_LOSS from the primary side turns the
results. `lane` is the side it came from. -/
def execWorkerAlarmReceived (w lane addr seq cause item raw tick : Nat) (s : State) : Host.Outcome State Fault Refusal :=
  done (
    let k := s.wk w
    if !k.runs then s
    else
      let s1 := s.wkForward w lane addr 9 2 seq (le 1 cause ++ le 1 item ++ le 2 raw ++ le 6 tick ++ zeros 2)
      if cause = 0x10 ∧ k.toEnd = (if lane = 0 then 0 else 1) then
        s1.updWk w (fun k => { k with toEnd := 1 - k.toEnd }) else s1)

/-- EMBER_REPEAT (R348): a Banked worker repeats the tone on its other lane. Frame kind 0xEE stands for a burst. -/
def execEmberRepeat (w lane : Nat) (s : State) : Host.Outcome State Fault Refusal :=
  done (if (s.wk w).mode = 2 then
    s.mapSent (fun t => { t with worker := t.worker ++ [(w, ⟨wRing w, if lane = 0 then 1 else 0, 0, 0xEE, 0, 0, []⟩)] })
  else s)

end Sys2Proof.Machine
end

