-- ==== Sys2Proof/Machine/Cells.lean ====
section
/-! DEFINITION. What a worker converts, corrects, judges and reports at its sample instant (R367 to R418, R455 to R464,
R675, R676), and its checks in Banked (R347, R383, R468). -/

namespace Sys2Proof.Machine

/-- A quotient whose rounding the manual does not give: exact where it is whole, else one of its two neighbours. -/
def divFree (n : Nat) (v d : Int) : Int :=
  if v % d = 0 then v / d else v / d + (if Config.freeBit n then 1 else 0)

/-- One bit of a binary logarithm: the argument and the bits so far, scaled by 2^40. -/
def logBit : Nat → Nat × Nat → Nat × Nat
  | 0, p => p
  | n + 1, p =>
    let y := p.1 * p.1 / 2 ^ 40
    if y < 2 ^ 41 then logBit n (y, 2 * p.2) else logBit n (y / 2, 2 * p.2 + 1)

/-- The natural logarithm of a positive number, scaled by 2^40. -/
def lnNat (x : Nat) : Int :=
  let e := Nat.log2 x
  let m := (logBit 40 (x * 2 ^ 40 / 2 ^ e, 0)).2
  ((e * 2 ^ 40 + m : Nat) : Int) * 762123384786 / 2 ^ 40

/-- An NTC input at `mv` of the 3,000 mV of NTCREF, in 0.1 °C (R386, R387). `n` numbers the free choices. -/
def ntcTemp (n nomr beta mv : Nat) : Int :=
  let l := lnNat (1000 * mv) - lnNat ((3000 - mv) * nomr)
  let den := 20 * (beta : Int) * 2 ^ 40 + 5963 * l
  if nomr = 0 ∨ den ≤ 0 then ofTwos 16 (Config.freeNat n)
  else clampS 16 (divFree n (20 * 5963 * (beta : Int) * 2 ^ 40 - 5463 * den) (2 * den))

/-- The status and value of input `i` (R388); a value that no rule states is free. -/
def Wk.input (k : Wk) (n i mv : Nat) : Int × Nat :=
  let c := k.p 0x0C
  if !bit (k.p 0x0D) i then (ofTwos 16 (Config.freeNat (n + i)), 3)
  else if 2910 < mv then (ofTwos 16 (Config.freeNat (n + i)), 1)
  else if mv < 90 then (ofTwos 16 (Config.freeNat (n + i)), 2)
  else (ntcTemp (n + i) (fld c 16 16) (fld c 0 16) mv, 0)

/-- The station's digital inputs on their voltages (R675): between the thresholds a reading is free. -/
def Wk.dis (k : Wk) (n : Nat) (l : List Nat) : Wk :=
  let deb := fld (k.p 0x48) 8 4
  let one (k : Wk) (i : Nat) : Wk :=
    let v := nth 0 l i
    let r := if 2000 < v then true else if v < 800 then false else Config.freeBit (n + i)
    let c := SwCh.take ⟨r, bit k.di i, nth 0 k.diCnt i, 0⟩ false deb r
    { k with di := setFld k.di i 1 (b2n c.1.level), diCnt := (List.range 2).map (fun j =>
      if j = i then c.1.cnt else nth 0 k.diCnt j) }
  one (one k 0) 1

/-- The station record (R676). -/
def Wk.station (k : Wk) (t : List (Int × Nat)) : StnRec :=
  { di := k.di, state := k.stnState, fault := k.trips, misses := Nat.min k.stMiss 255,
    temps := t.map (·.1), tstat := t.map (·.2) }

/-- A worker that samples without a primary SYNC does so on flywheel timing, and then on its own (R320, R321). -/
def Wk.onTime (k : Wk) : Wk :=
  if k.sync.isSome then k
  else
    let k1 := { k with tick := (k.tick + 1) % 2 ^ 48, fly := k.fly + 1, staged := [] }
    if k.fly = 0 then k1.log 0x21 0 0 else k1

/-- The balance correction of R390 on the readings in µV; `i` holds the sensed currents in mA. -/
def Wk.corrected (k : Wk) (count : Nat) (v : List Int) (i : List Nat) : List Int :=
  let cur (c : Nat) : Int := if c = 0 ∨ count < c then 0 else ((nth 0 i (c - 1) : Nat) : Int)
  let wr (j : Nat) : Int := (k.p (0x20 + j) : Int)
  (List.range 24).map (fun j =>
    let c := j + 1
    let m := nth 0 v j
    if c ≤ count then m + wr c * (cur c - cur (c + 1)) - wr (c - 1) * (cur (c - 1) - cur c) else m)

/-- For cell `c`, the first and last cell of the fallback group it belongs to, none outside one: the cells between the nearest
closed wires on either side of adjacent open ones (R406). -/
def groupOf (opens : List Nat) (count c : Nat) : Option (Nat × Nat) :=
  let opn (j : Nat) : Bool := opens.contains j
  let up (n : Nat) : Nat := (List.range (count + 1)).foldl (fun b _ => if b < count && opn b then b + 1 else b) n
  let down (n : Nat) : Nat := (List.range (count + 1)).foldl (fun a _ => if 1 < a && opn (a - 1) then a - 1 else a) n
  if 1 ≤ c && c ≤ count && (opn c || opn (c - 1)) then some (down c, up c) else none

/-- The fallback groups of a set of open wires, as (first, last) cells. -/
def groupsOf (opens : List Nat) (count : Nat) : List (Nat × Nat) :=
  ((List.range count).filterMap (fun j => groupOf opens count (j + 1))).eraseDups

/-- The fallback group of cell `c`. -/
def Wk.group (k : Wk) (count c : Nat) : Option (Nat × Nat) := groupOf k.opens count c

/-- Whether a group contains an end wire (R407). -/
def Wk.groupEnd (k : Wk) (count a b : Nat) : Bool :=
  (a == 1 && k.opens.contains 0) || (b == count && k.opens.contains count)

/-- The sum of the readings of cells `a` to `b`. -/
def sumCells (v : List Int) (a b : Nat) : Int := ((v.drop (a - 1)).take (b + 1 - a)).foldl (· + ·) 0

/-- A group's voltage in µV (R407). -/
def Wk.groupV (k : Wk) (count a b : Nat) (v : List Int) (stack : Int) : Int :=
  if k.groupEnd count a b then stack - (sumCells v 1 count - sumCells v a b) else sumCells v a b

/-- The groups as (first, last) cells. -/
def Wk.groups (k : Wk) (count : Nat) : List (Nat × Nat) := groupsOf k.opens count

/-- The shift of a test in µV (R400). `rf` is WRK.OWCFG.RF; 2 × 100 µA × RF is 200 µV per Ω. -/
def testShift (rf : Nat) (src snk : Int) : Nat := (src - snk - 200 * (rf : Int)).natAbs

/-- A shift's verdict: 1 INTACT, 2 INDETERMINATE, 3 OPEN (R400). -/
def shiftVerdict (x : Nat) : Nat := if x < 2000 then 1 else if 50000 < x then 3 else 2

/-- The reading that a test of wire `j` looks at (R400). -/
def wireReading (v : List Int) (j : Nat) : Int := nth 0 v (j - 1)

/-- A suspect wire after its tick (R403): `r` is the verdict of a test that ended at this sample. The new wire, or none where
it is cleared. -/
def Wire.after (x : Wire) (hold : Nat) (r : Option Nat) : Option Wire :=
  let y := { x with hold := x.hold + 1 }
  match r with
  | some 3 => if x.last = 3 ∨ hold ≤ y.hold then some { y with isOpen := true, last := 3 } else some { y with last := 3 }
  | some 1 => if x.last = 1 then none
              else some { y with last := 1, isOpen := y.isOpen || hold ≤ y.hold }
  | some n => some { y with last := n, isOpen := y.isOpen || hold ≤ y.hold }
  | none => some { y with isOpen := y.isOpen || hold ≤ y.hold }

/-- A new suspicion. -/
def Wire.new : Wire := { isOpen := false, hold := 0, last := 0, src := none, clear := 0 }

/-- A wire's place is set, or it is closed again; a wire decided open is journalled (R405). -/
def Wk.putWire (k : Wk) (j : Nat) (x : Option Wire) : Wk :=
  match x with
  | none => { k with wires := Tbl.del k.wires j }
  | some y =>
    let was := match Tbl.find k.wires j with
      | some z => z.isOpen
      | none => false
    let k1 := if y.isOpen && !was then k.log 0x24 j 0 else k
    { k1 with wires := Tbl.set k1.wires j y }

/-- Wires that the passive signature marks suspect at this sample (R395, R396). `step` and `tol` are in µV. -/
def Wk.signature (k : Wk) (count : Nat) (v : List Int) (diff step tol : Int) : List Nat :=
  let d (c : Nat) : Int := nth 0 v (c - 1) - nth 0 k.good (c - 1)
  let known (j : Nat) : Bool := (Tbl.find k.wires j).isSome
  let dd := diff - k.stackDiff
  let endW (c : Nat) : Bool := decide (step ≤ (d c).natAbs) && decide (((d c).natAbs - dd.natAbs : Int).natAbs ≤ tol)
  if k.good.isEmpty then []
  else (List.range (count + 1)).filter (fun j =>
    !known j &&
      (if j = 0 then endW 1
      else if j = count then endW count
      else decide (d j * d (j + 1) < 0) && decide (step ≤ (d j).natAbs) && decide (step ≤ (d (j + 1)).natAbs) &&
        decide ((d j + d (j + 1)).natAbs ≤ tol)))

/-- The wires under the routine test of tick `r` of the four, and whether it sources (R413). -/
def rtWires (r count : Nat) : List Nat := (List.range (count + 1)).filter (fun j => j % 2 == (r + 1) % 2)

/-- Open wires after a routine test that `res` gives the verdicts of (R412): one found INTACT twice in a row is cleared. -/
def Wk.retested (k : Wk) (js : List Nat) (res : Nat → Option Nat) : Wk :=
  (k.opens.filter js.contains).foldl (fun k j => match Tbl.find k.wires j, res j with
    | some x, some r =>
      if r = 1 ∧ 1 ≤ x.clear then k.putWire j none
      else k.putWire j (some { x with clear := if r = 1 then x.clear + 1 else 0 })
    | _, _ => k) k

/-- The open-wire procedure of one sample, outside Kindling (R395 to R403, R412, R413, R417). `ok` is false at a sample whose
reference is out of trim: it has no readings to judge, and the tests and the hold go on. A wire whose accelerated and routine
tests end at one sample takes the accelerated one's result (DESIGN CHOICE). -/
def Wk.openWire (k : Wk) (cfg count : Nat) (ok : Bool) (v : List Int) (diff : Int) : Wk :=
  let hold := fld cfg 0 8
  let rf := fld (k.p 0x0B) 0 12
  let js := if k.rt = 0 then [] else rtWires k.rt count
  let verdict (src : Option Int) (j : Nat) : Option Nat :=
    if ok then src.map (fun a => shiftVerdict (testShift rf a (wireReading v j))) else none
  let routine (j : Nat) : Option Nat := if 3 ≤ k.rt ∧ js.contains j = true then verdict (nth none k.rtSrc j) j else none
  let res (j : Nat) : Option Nat := match k.owNow with
    | some (i, false) => if i = j then verdict ((Tbl.find k.wires j).bind (·.src)) j else routine j
    | _ => routine j
  let k1 := match k.owNow with
    | some (j, true) => match Tbl.find k.wires j with
      | some x => { k with wires := Tbl.set k.wires j { x with src := if ok then some (wireReading v j) else none } }
      | none => k
    | _ => k
  let passive := if ok && k.rt == 0 then k1.signature count v diff (1000 * fld cfg 8 8) (1000 * fld cfg 16 8) else []
  let active := js.filter (fun j => (Tbl.find k1.wires j).isNone && (match routine j with
    | some r => r != 1
    | none => false))
  let k2 := ((passive ++ active).foldl (fun k j => { k with wires := Tbl.set k.wires j Wire.new }) k1).retested js routine
  let k3 := k2.suspects.foldl (fun k j => match Tbl.find k.wires j with
    | some x => k.putWire j (x.after hold (res j))
    | none => k) k2
  let next : Option (Nat × Bool) := match k.owNow with
    | some (j, true) => if k3.suspects.contains j then some (j, false) else none
    | _ => none
  let src := (List.range (count + 1)).map (fun j =>
    if js.contains j then (if ok then some (wireReading v j) else none) else nth none k.rtSrc j)
  { k3 with
    owNow := next.orElse (fun _ => (k3.suspects.head?).map (fun j => (j, true)))
    rt := if k.rt = 0 ∨ k.rt = 4 then 0 else k.rt + 1
    rtSrc := if k.rt = 1 ∨ k.rt = 2 then src else if k.rt = 3 then k.rtSrc else [] }

/-- Alarm causes and journal codes (R339): a breach's item, raw value, and whether it needs FILT samples. -/
structure Breach where
  cause : Nat
  item : Nat
  raw : Nat
  filt : Bool
deriving DecidableEq, Repr

/-- Breaches in a row (R381), and those that hold for FILT samples: the worker and the breaches to tell. -/
def Wk.judge (k : Wk) (filt : Nat) (l : List Breach) : Wk × List Breach :=
  let key (b : Breach) := 256 * b.cause + b.item
  let n (b : Breach) := Nat.min (Tbl.get 0 k.hard (key b) + 1) 255
  let out := l.filter (fun b => !b.filt || filt ≤ n b)
  let k1 := { k with hard := l.foldl (fun t b => Tbl.put 0 t (key b) (n b)) [] }
  let fresh := out.filter (fun b => n b = (if b.filt then Nat.max filt 1 else 1))
  (fresh.foldl (fun k b => k.log b.cause b.item b.raw) k1, out)

/-- The voltage breaches of a list of (item, mean in 100 µV, size, µV): the limits are in mV. -/
def voltBreach (ov uv : Nat) (filt : Bool) (l : List (Nat × Nat × Nat × Int)) : List Breach :=
  l.filterMap (fun e =>
    if e.2.2.2 > 1000 * (ov : Int) * e.2.2.1 then some ⟨1, e.1, e.2.1, filt⟩
    else if e.2.2.2 < 1000 * (uv : Int) * e.2.2.1 then some ⟨2, e.1, e.2.1, filt⟩ else none)

/-- The temperature breaches of the GOOD inputs (R381). -/
def tempBreach (ot : Int) (t : List (Int × Nat)) : List Breach :=
  (List.range 8).filterMap (fun i =>
    let e := nth (0, 3) t i
    if e.2 = 0 ∧ e.1 > ot then some ⟨3, i, toTwos 16 e.1, true⟩ else none)

/-- A breach is told in each direction (R337, R384). -/
def State.wkAlarm (s : State) (w : Nat) (b : Breach) : State :=
  let body := le 1 b.cause ++ le 1 b.item ++ le 2 b.raw ++ le 6 (s.wk w).tick ++ zeros 2
  (s.wkSend w 0 9 body).wkSend w 1 9 body

/-- The readings of the cells without the drop of an accelerated test's current across RF (R400, R404): a cell that is
released at a test's sink sample is released at its own voltage (DEDUCED). `ow` is the wire tested at this sample, and whether
it sources. -/
def Wk.undrop (k : Wk) (ow : Option (Nat × Bool)) (v : List Int) : List Int :=
  match ow with
  | none => v
  | some (j, src) =>
    let d : Int := (if src then 100 else -100) * (fld (k.p 0x0B) 0 12 : Int)
    (List.range v.length).map (fun i => nth 0 v i - (if i + 1 = j then d else 0) + (if i = j then d else 0))

/-- A code in units of 100 µV. -/
def code100 (n : Nat) (v : Int) : Nat := Nat.min (divFree n v 100).toNat 65535

/-- A RESULT leaves: toward the end of the primary SYNC, or one copy toward each with managers in roles A and B (R323); the
frames that waited for this tick follow (R450). -/
def State.wkResult (s : State) (w : Nat) (r : ResultRec) : State :=
  let k := s.wk w
  let s1 := s.updWk w (fun k => { k with held := r :: k.held.take 3, out := [], emberTold := false })
  let s2 := if s.role = 0 then s1.wkSend w k.toEnd 7 (resultBytes r)
    else (s1.wkSend w 0 7 (resultBytes r)).wkSend w 1 7 (resultBytes r)
  s2.each k.out (fun t f => t.wkSend w k.toEnd f.1 f.2)

/-- What a sample does to a run in progress (R428, table "Coinciding conditions" of the capture chapter): a cell beside a wire
that has become suspect in it is excited no more, in this and later points. -/
def WkImp.spoiled (m : WkImp) (was now : Nat → Bool) : WkImp :=
  { m with
    drive := m.drive.filter (fun e => !now e.1)
    bad := m.bad ++ ((List.range 24).map (· + 1)).filter (fun c => now c && !was c && !m.bad.contains c) }

/-- A worker's wires up to the last cell in use: no wire above it is tested (R369). -/
def Wk.inUse (k : Wk) (count : Nat) : Wk :=
  { k with wires := k.wires.filter (fun e => e.1 ≤ count), owNow := k.owNow.filter (fun e => e.1 ≤ count) }

/-- A cell worker's sample: the worker after it, its record, the RESULT flags, and the breaches to tell. `cfg` is
CELL.OWCFG and `per` CELL.OWPER.PERIOD; `n` numbers the free choices. -/
def Wk.sampleCell (k : Wk) (cfg per n : Nat) (x : WkSample) : Wk × CellRec × Nat × List Breach :=
  let count := fld (k.p 0x08) 0 5
  let k0 := { (k.inUse count) with rtNow := k.rt != 0 }
  let bal := k0.balNow
  let isBal (c : Nat) : Bool := bit bal (c - 1)
  let limit (c : Nat) : Option Int :=
    let m := nth 0 x.cells (c - 1)
    if m ≤ 0 then some 0 else if 5000000 ≤ m then some 5000000 else none
  let v := k0.corrected count (padTo 0 24 x.cells) (padTo 0 24 x.balI)
  let stack := 1000 * x.stack
  let refBad := decide (5000 < x.ref.natAbs)
  let stkBad := decide (x.stack < 0) || decide (125000 < x.stack)
  let bad := (List.range 24).filter (fun j => isBal (j + 1) && (nth 0 x.balI j < 20 || 330 < nth 0 x.balI j))
  let tstop := 10 * (fld (k0.p 0x0E) 8 8 : Int)
  let hot := if k0.hot then decide (x.dieT > tstop - 100) else decide (x.dieT > tstop)
  let fltOld := k0.p 0x10
  let flt := bad.foldl (fun a j => setFld a j 1 1) fltOld
  let k1 := { (k0.setP 0x10 flt) with hot := hot, balMask := bad.foldl (fun a j => setFld a j 1 0) k0.balMask,
                                      refBad := refBad }
  let k2 := if refBad && !k0.refBad then k1.log 0x27 0 0 else k1
  let rt := k2.rt
  let ow := k2.owNow
  let diff := stack - sumCells v 1 count
  let k3 := if k2.slow then k2 else k2.openWire cfg count (!refBad) v diff
  let real := if rt = 0 ∧ k2.slow = false then k2.undrop ow v else v
  let k4 := { k3 with
    rt := if rt = 0 ∧ k3.rtDue = true ∧ k3.impCells = 0 ∧ k3.slow = false ∧ per ≠ 0 then 1 else k3.rt
    rtDue := k3.rtDue && !(rt == 0 && k3.impCells == 0)
    imp := k3.imp.map (fun (m : WkImp) => m.spoiled k0.beside k3.beside) }
  let last : List Nat := match k0.held.head? with
    | some r => (match r.meas with
      | .cell c => c.cells
      | .meter _ => [])
    | none => []
  let susp (c : Nat) : Bool := k4.suspects.any (fun j => j == c || j + 1 == c)
  let grp (c : Nat) := k4.group count c
  let code (c : Nat) (u : Int) : Nat := code100 (n + 8 + c) u
  let gv (a b : Nat) : Int := k4.groupV count a b v stack
  let mean (a b : Nat) : Nat := code100 (n + 40 + a) (gv a b / ((b + 1 - a : Nat) : Int))
  let one (j : Nat) : Nat × Nat :=
    let c := j + 1
    if count < c then (0, 6)
    else if refBad then (nth 0 last j, 4)
    else if rt ≠ 0 then (code c (nth (nth 0 v j) k4.calm j), 1)
    else match grp c with
      | some (a, b) => if 4 < b + 1 - a then (nth 0 last j, 4) else (mean a b, 3)
      | none =>
        if susp c then (code c (nth (nth 0 v j) k4.good j), 2)
        else match limit c with
          | some u => (code c u, 5)
          | none => (code c (nth 0 real j), 0)
  let cs := (List.range 24).map one
  let ts := (List.range 8).map (fun i => k4.input n i (nth 0 x.ntc i))
  let good (c : Nat) : Bool := (nth (0, 6) cs (c - 1)).2 == 0
  let goodV := (List.range count).map (fun j => if good (j + 1) then nth 0 real j else nth (nth 0 v j) k4.good j)
  let calmV := (List.range count).map (fun j => if rt = 0 then (if good (j + 1) then nth 0 real j
    else 100 * (nth (0, 0) cs j).1) else nth (nth 0 v j) k4.calm j)
  let k5 := { k4 with good := if refBad then k4.good else goodV, calm := if refBad then k4.calm else calmV,
                      stackDiff := if (List.range count).all (fun j => good (j + 1)) && !stkBad then stack - sumCells real 1 count
                        else k4.stackDiff }
  let hv := k5.p 0x09
  let ov := if k5.slow then 4300 else fld hv 0 16
  let uv := if k5.slow then 1500 else fld hv 16 16
  let ot : Int := if k5.slow then 850 else ofTwos 16 (fld (k5.p 0x0A) 0 16)
  let filt := if k5.slow then 1 else fld (k5.p 0x0A) 16 3
  let singles := (List.range count).filterMap (fun j =>
    let e := nth (0, 6) cs j
    if e.2 = 0 then some (j + 1, e.1, 1, nth 0 real j)
    else if e.2 = 1 then some (j + 1, e.1, 1, nth (nth 0 v j) k4.calm j) else none)
  let pairAt (j : Nat) : Option (Nat × Nat × Nat × Int) :=
    if 1 ≤ j ∧ j < count then
      let u := nth 0 v (j - 1) + nth 0 v j
      some (0x80 + j, code100 (n + 72 + j) (u / 2), 2, u)
    else none
  let pairs := if k5.slow || refBad then []
    else (if rt ≠ 0 then (rtWires rt count).filterMap pairAt else []) ++ (k5.suspects.filterMap pairAt)
  let groups := if k5.slow || refBad then []
    else (k5.groups count).map (fun (g : Nat × Nat) => (0x80 + g.1, mean g.1 g.2, g.2 + 1 - g.1, gv g.1 g.2))
  let l := voltBreach ov uv true singles ++ voltBreach ov uv false (pairs ++ groups) ++ tempBreach ot ts
  let jd := k5.judge filt l.eraseDups
  let flags := 8 * b2n (rt != 0) + 16 * b2n (rt == 3 || rt == 4) + 32 * b2n (rt == 2 || rt == 4) +
    64 * b2n (!l.isEmpty || k0.emberTold) + 128 * b2n (ow.isSome && !k2.slow)
  (jd.1, { cells := cs.map (·.1), stack := Nat.min (divFree (n + 7) x.stack 2).toNat 65535, temps := ts.map (·.1),
           cstat := cs.map (·.2), tstat := ts.map (·.2), bal := bal,
           wflags := b2n refBad + 2 * b2n stkBad + 4 * b2n (flt != 0) + 8 * b2n hot }, flags, jd.2)

/-- One conversion's energy and charge, weighted (R457): `u` is mV, `i` mA, `wt` counts 125 µs. -/
def WkMeter.add (m : WkMeter) (u : Nat) (i : Int) (wt : Nat) : WkMeter :=
  let e := u * i.natAbs * wt
  let q := i.natAbs * wt
  if 0 < i then
    { m with eIn := m.eIn + (m.rIn + e) / 28800000, rIn := (m.rIn + e) % 28800000,
             qIn := m.qIn + (m.sIn + q) / 28800, sIn := (m.sIn + q) % 28800 }
  else
    { m with eOut := m.eOut + (m.rOut + e) / 28800000, rOut := (m.rOut + e) % 28800000,
             qOut := m.qOut + (m.sOut + q) / 28800, sOut := (m.sOut + q) % 28800 }

/-- A shunt reading in mA, and a divider output in mV (R460, R461); a shunt of 0 leaves the current free. -/
def Wk.milliamps (k : Wk) (n : Nat) (nv : Int) : Int :=
  let r := fld (k.p 0x40) 0 16
  if r = 0 then ofTwos 32 (Config.freeNat n) else divFree n (nv * 100) r

def Wk.millivolts (k : Wk) (n uv : Nat) : Nat := (divFree n ((uv * fld (k.p 0x40) 16 16 : Nat) : Int) 1000).toNat

/-- The mean of a list, 0 of an empty one. -/
def meanOf (n : Nat) (l : List Int) : Int :=
  if l.isEmpty then 0 else divFree n (l.foldl (· + ·) 0) l.length

/-- The element of largest magnitude. -/
def peakOf (l : List Int) : Int := l.foldl (fun a b => if a.natAbs < b.natAbs then b else a) 0

/-- Whether a shunt channel's reading in nV is at its converter limit (R458): the end of the shunt input range, 75 mV, of the table
"Meter characteristics" (DEDUCED: no other limit is given; log 188). -/
def atLimit (nv : Int) : Bool := 75000000 ≤ nv.natAbs

/-- Whether the primary and the check channel are bad in a conversion (R458). -/
def chansBad (x : WkSample) (c : MeterConv) : Bool × Bool := (x.priBad || atLimit c.pri, x.chkBad || atLimit c.chk)

/-- The currents that are integrated, in mA, by conversion: the primary's, else the check channel's, none where both are bad
(R458). The second is 1 for the check channel. -/
def Wk.used (k : Wk) (n : Nat) (x : WkSample) : List (Option (Int × Nat)) :=
  x.conv.map (fun c => match chansBad x c with
    | (false, _) => some (k.milliamps n c.pri, 0)
    | (true, false) => some (k.milliamps (n + 1) c.chk, 1)
    | (true, true) => none)

/-- A meter worker's sample (R455 to R464). -/
def Wk.sampleMeter (k : Wk) (n : Nat) (x : WkSample) : Wk × MeterRec × List Breach × List (Int × Nat) × Bool :=
  let ip := x.conv.map (fun c => k.milliamps n c.pri)
  let ic := x.conv.map (fun c => k.milliamps (n + 1) c.chk)
  let vp := x.conv.map (fun c => k.millivolts (n + 2) c.pack)
  let vl := x.conv.map (fun c => k.millivolts (n + 3) c.link)
  let use := k.used n x
  let priBad := x.priBad || x.conv.any (fun c => atLimit c.pri)
  let chkBad := x.chkBad || x.conv.any (fun c => atLimit c.chk)
  let chkUsed := use.any (fun e => e.any (fun e => e.2 == 1))
  let m1 := (vp.zip use).foldl (fun m e => match e.2 with
    | some i => m.add e.1 i.1 1
    | none => m) k.meterU
  let k1 := { k with meterU := { m1 with chkUsed := chkUsed, blind := use.any (·.isNone) } }
  let slot := k1.slotNow
  let pri := meanOf (n + 4) ip
  let chk := meanOf (n + 5) ic
  let ts := (List.range 8).map (fun i => k1.input (n + 16) i (nth 0 x.ntc i))
  let pk := (use.filterMap id).foldl (fun a b => if a.1.natAbs < b.1.natAbs then b else a) (0, 0)
  let lim := k1.p 0x41
  let oc : List Breach := if 1000 * fld lim 0 16 < pk.1.natAbs then
      [⟨4, pk.2, toTwos 16 (clampS 16 (divFree (n + 6) pk.1 100)), true⟩] else []
  let ot : Int := if k1.slow then 850 else ofTwos 16 (fld (k1.p 0x0A) 0 16)
  let tb := tempBreach ot ts
  let key (b : Breach) := 256 * b.cause + (if b.cause = 4 then 0 else b.item)
  let cnt (b : Breach) := Nat.min (Tbl.get 0 k1.hard (key b) + 1) 255
  let need (b : Breach) := if b.cause = 4 then fld lim 16 3 else if k1.slow then 1 else fld (k1.p 0x0A) 16 3
  let l := oc ++ tb
  let out := l.filter (fun b => need b ≤ cnt b)
  let k2 := { k1 with hard := l.foldl (fun t b => Tbl.put 0 t (key b) (cnt b)) [] }
  let k3 := (out.filter (fun b => cnt b = Nat.max (need b) 1)).foldl (fun k b => k.log b.cause b.item b.raw) k2
  (k3, { iPri := pri, iChk := chk, vPack := (meanOf (n + 7) (vp.map (fun (e : Nat) => (e : Int)))).toNat,
         vLink := (meanOf (n + 8) (vl.map (fun (e : Nat) => (e : Int)))).toNat, iPeak := peakOf ip,
         eIn := slot.eIn, eOut := slot.eOut, qIn := slot.qIn, qOut := slot.qOut, seq := slot.seq,
         segment := slot.segment, sflags := slot.flags,
         mstat := b2n priBad + 2 * b2n chkBad + 4 * b2n x.packBad + 8 * b2n x.linkBad + 16 * b2n chkUsed + 32 * b2n k1.meterU.abandoned,
         disagree := Nat.min (divFree (n + 9) (pri - chk).natAbs 10).toNat 65535,
         tShunt := (nth (0, 0) ts 0).1 }, out, ts, !l.isEmpty)

/-- The 25 slots of a worker's sample (R441): a cell worker gives 24 cells in µV and the stack in mV, a meter worker the primary
and check currents in mA and the pack and link voltages in mV. Rounding is free. -/
def flareSlots (n : Nat) (meter : Bool) (l : List Int) : List Nat :=
  let x (k : Nat) : Int := nth 0 l k
  let u (v d : Int) : Nat := Nat.min (divFree n v d).toNat 65535
  let i (v : Int) : Nat := toTwos 16 (clampS 16 (divFree n v 100))
  if meter then [i (x 0), i (x 1), u (x 2) 20, u (x 3) 20] ++ List.replicate 21 0
  else (List.range 24).map (fun k => u (x k) 100) ++ [u (x 24) 2]

/-- STREAM frames of kind 0x00 with the rows from index `a` on, at most 10 to a frame (R448). -/
def streamFrames : Nat → Nat → List (List Nat) → List (List Byte)
  | 0, _, _ => []
  | fuel + 1, a, rows =>
    if rows.isEmpty then []
    else (le 1 0 ++ zeros 1 ++ le 2 a ++ (rows.take 10).flatMap (fun r => (padTo 0 25 r).flatMap (le 2))) ::
      streamFrames fuel (a + 10) (rows.drop 10)

/-- A stream's samples since the previous sample instant leave in STREAM frames, from the trigger sample on (R447, R448). DESIGN
CHOICE: they leave after the RESULT, counted from that earlier sample instant, and 64 kS/s takes every second conversion of it (log
189). -/
def State.wkStream (s : State) (w n : Nat) (conv : List (List Int)) : State :=
  let k := s.wk w
  let f := k.flare
  if f.mode = 0 ∨ f.st ≠ 2 ∨ k.tick ≤ f.tick then s
  else
    let d := f.rate + 1
    let from0 := if f.tick + 1 = k.tick then (f.offset + f.rate) / d else 0
    let rows := (List.range ((conv.length + f.rate) / d)).map (fun j => flareSlots n k.meter (nth [] conv (d * j)))
    s.each (streamFrames rows.length from0 (rows.drop from0)) (fun t b => t.wkSend w k.toEnd 8 b)

/-- A worker samples, at most once in a tick (R327), updates its lease (R521), alarms, and sends its RESULT and its stream
(R447). -/
def State.wkSample (s : State) (x : WkSample) : State :=
  let k0 := s.wk x.w
  if !k0.runs then s
  else
    let k1 := k0.onTime
    if k1.held.any (fun r => r.tick == k1.tick) then s
    else
      let n := s.free
      let k2 := k1.leaseUpdate
      let base := b2n k2.sync.isNone + 4 * b2n k2.restarted
      let fin (k : Wk) (m : Meas) (ts : List (Int × Nat)) (flags : Nat) (l : List Breach) : State :=
        let k3 := k.dis (n + 120) x.di
        let r : ResultRec := { tick := k3.tick, flags := base + flags, lease := k3.leaseByte, epoch := k3.epoch, meas := m,
                               stn := k3.station ts }
        let s1 := ({ s with free := n + 128 }).updWk x.w (fun _ => { k3 with tphase := 0 })
        ((s1.each l (fun t b => t.wkAlarm x.w b)).wkResult x.w r).wkStream x.w (n + 126) x.stream
      if k2.meter then
        let r := k2.sampleMeter n x
        fin r.1 (.meter r.2.1) r.2.2.2.1 (64 * b2n (r.2.2.2.2 || k2.emberTold)) r.2.2.1
      else
        let r := k2.sampleCell (s.p 0x1104) (s.pf 0x1105 0 16) n x
        fin r.1 (.cell r.2.1) (r.2.1.temps.zip r.2.1.tstat) r.2.2.1 r.2.2.2

/-- FLYWHEEL_SAMPLE (R320, R321, R357): no primary SYNC has come by 0.01 T. -/
def execFlywheelSample (x : WkSample) (s : State) : Host.Outcome State Fault Refusal :=
  done ((s.updWk x.w (fun k => if k.runs then { k.tickOver with sync := none } else k)).wkSample x)

/-- OW_HOLD_EXPIRED (R403): a suspect wire that is not decided is decided open, and the group it forms follows at the next
sample. -/
def execOwHoldExpired (w wire : Nat) (s : State) : Host.Outcome State Fault Refusal :=
  done (match Tbl.find (s.wk w).wires wire with
  | some x => if x.isOpen then s else s.updWk w (fun k => k.putWire wire (some { x with isOpen := true }))
  | none => s)

/-- OW_ROUTINE_TEST (R413, R416, R427): the four-tick test begins at the next sample, or when a running point ends. -/
def execOwRoutineTest (w : Nat) (s : State) : Host.Outcome State Fault Refusal :=
  done (
    let k := s.wk w
    if !k.runs || k.meter || k.slow || s.pf 0x1105 0 16 == 0 || k.rt != 0 then s
    else if k.impCells != 0 then s.updWk w (fun k => { k with rtDue := true })
    else s.updWk w (fun k => { k with rt := 1, rtSrc := [], rtDue := false }))

/-- BALANCE_END (R389). -/
def execBalanceEnd (w : Nat) (s : State) : Host.Outcome State Fault Refusal :=
  done (if (s.wk w).runs then s.updWk w (fun k => { k with balLeft := 0 }) else s)

/-- BANKED_CHECK (R347, R350, R383, R468): the hard limits, the meter's integration over the second, and the first burst of a
tone. Frame kind 0xEE stands for a burst. -/
def execBankedCheck (x : WkSample) (s : State) : Host.Outcome State Fault Refusal :=
  done (
    let k := s.wk x.w
    if k.mode ≠ 2 then s
    else
      let n := s.free
      let count := fld (k.p 0x08) 0 5
      let hv := k.p 0x09
      let ts := (List.range 8).map (fun i => k.input n i (nth 0 x.ntc i))
      let c := nth ⟨0, 0, 0, 0⟩ x.conv 0
      let bad := chansBad x c
      let i := if bad.1 then k.milliamps (n + 9) c.chk else k.milliamps (n + 9) c.pri
      let blind := bad.1 && bad.2
      let volts := if k.meter then [] else voltBreach (fld hv 0 16) (fld hv 16 16) false ((List.range count).map (fun j =>
        (j + 1, code100 (n + 10 + j) (nth 0 x.cells j), 1, nth 0 x.cells j)))
      let oc : List Breach := if k.meter && !blind && decide (1000 * fld (k.p 0x41) 0 16 < i.natAbs) then
        [⟨4, b2n bad.1, toTwos 16 (clampS 16 (divFree (n + 40) i 100)), false⟩] else []
      let l := volts ++ oc ++ tempBreach (ofTwos 16 (fld (k.p 0x0A) 0 16)) ts
      let m0 := k.meterU
      let m1 := if !k.meter || blind then m0 else m0.add (k.millivolts (n + 41) c.pack) i 8000
      let k1 := { k with meterU := { m1 with chkUsed := bad.1 && !bad.2, blind := blind } }
      let moved := k.meter && (m1.eIn != m0.eIn || m1.eOut != m0.eOut || m1.qIn != m0.qIn || m1.qOut != m0.qOut)
      let k2 := if moved then { k1 with meterU := k1.meterU.put k1.slotNow } else k1
      let k3 := if k.meter then { k2 with meterU := k2.meterU.advance 1000000 } else k2
      let k4 := l.foldl (fun k b => k.log b.cause b.item b.raw) k3
      let k5 := if l.isEmpty then k4
        else { (if k.ember then k4 else k4.log 0x20 0 0) with ember := true, emberTold := true }
      let s1 := ({ s with free := n + 64 }).updWk x.w (fun _ => k5)
      if k5.ember then s1.mapSent (fun t => { t with worker := t.worker ++
        [(x.w, ⟨wRing x.w, 0, 0, 0xEE, 0, 0, []⟩), (x.w, ⟨wRing x.w, 1, 0, 0xEE, 0, 0, []⟩)] }) else s1)

end Sys2Proof.Machine
end

