-- ==== Sys2Proof/Machine/Motion.lean ====
section
/-! DEFINITION. Bridges and motors (R622 to R662). Times that a command's arrival ends, such as a pulse or a brake, are
kept by the world outside. -/

namespace Sys2Proof.Machine

/-- HB.CFG[b]. -/
def hbCfg (b : Nat) : Nat := 0x2400 + 8 * b
/-- HB.POS[b]. -/
def hbPosA (b : Nat) : Nat := 0x2407 + 8 * b
/-- Overvoltage coast holds (R117). -/
def State.ovOn (s : State) : Bool := s.pb 0x0300 18
/-- HS undervoltage holds (R120). -/
def State.uvOn (s : State) : Bool := s.pb 0x0300 16
/-- Motors are held: overvoltage coast, undervoltage, or the restart steps before the last (R117, R122, R126). -/
def State.motHeld (s : State) : Bool := s.ovOn || s.uvOn || s.pb 0x0300 17

/-- The generator that a bridge pulses from; none while it is unbound (R625). -/
def State.hbGen (s : State) (b : Nat) : Option Nat := (List.range 16).find? (fun g => s.hbOn b g)

/-- Whether a bridge's driven high side is on at clock `t` after its generator's last reload (R625): a pulse of the duty in force from
each reload on, and fully on while unbound. -/
def State.hbHigh (s : State) (b t : Nat) : Bool :=
  match s.hbGen b with
  | none => true
  | some g =>
    let d := (s.hb b).duty
    d == 0xFFFF || decide (t < d * pgClocks (s.pg g).period / 65536)

/-- The four switches of a bridge: the high and low sides of HBbA and of HBbB. -/
structure HbLegs where
  highA : Bool
  lowA : Bool
  highB : Bool
  lowB : Bool
deriving DecidableEq, Repr

/-- The switches at clock `t` after the generator's last reload (R623, R625): forward drives HBbA to VBAT and HBbB to ground, reverse
the opposite, brake both low sides, and all are off in coast, in a dead time and in TRIPPED. -/
def State.hbLegs (s : State) (b t : Nat) : HbLegs :=
  match s.hbState b with
  | 1 => ⟨s.hbHigh b t, false, false, true⟩
  | 2 => ⟨false, true, s.hbHigh b t, false⟩
  | 3 => ⟨false, true, false, true⟩
  | _ => ⟨false, false, false, false⟩

/-- A move is under way: driving, in a dead time, held by overvoltage coast, or braking after an obstruction (R633). -/
def State.hbMoving (s : State) (b : Nat) : Bool :=
  let h := s.hb b
  h.move.isSome || h.next.isSome || h.held.isSome || h.backing

/-- HB.POS and POS_VALID are kept in MRAM (R637). -/
def State.hbKeep (s : State) (b : Nat) : State :=
  s.mapNvm (fun v => { v with
    hbPos := Tbl.put 0#32 v.hbPos b (BitVec.ofNat 32 (s.p (hbPosA b)))
    hbValid := if s.pb (hbStat b) 7 then insNat b v.hbValid else v.hbValid.filter (· != b) })

/-- A move ends with a result (R630, R636, R637). -/
def State.hbEnds (s : State) (b r : Nat) : State :=
  let s1 := s.updHb b (fun h => { h with move := none, next := none, held := none, backing := false, doused := false })
  let s2 := s1.setPf (hbStat b) 3 4 r
  (if r = 6 ∨ r = 8 then s2.setPb (hbStat b) 7 false else s2).hbKeep b

/-- The bridge takes a state. -/
def State.hbPut (s : State) (b st : Nat) : State := s.setPf (hbStat b) 0 3 st

/-- The bridge drives a move, whose RESULT is NONE until it ends (R630). In overvoltage coast the move is held (R117);
in undervoltage a bridge coasts and needs a new move (R126), so the move ends ABORTED. -/
def State.hbGo (s : State) (b : Nat) (m : Move) : State :=
  let s1 := (if (s.hb b).backing then s else s.setPf (hbStat b) 3 4 0).updHb b (fun h => { h with judged := none })
  if s.uvOn then (s1.hbEnds b 8).hbPut b 0
  else if s.ovOn then (s1.updHb b (fun h => { h with move := none, next := none, held := some m })).hbPut b 0
  else (s1.updHb b (fun h => { h with move := some m, next := none, held := none, dir := m.dir })).hbPut b m.dir

/-- EV30 (R639). -/
def State.ev30 (s : State) (b kind cur : Nat) : State :=
  s.raise 30 (le 1 b ++ le 1 kind ++ le 2 cur ++ le 4 (s.p (hbPosA b)))

/-- A move of the bridge ends by a stall, ripple loss or trip: what an EV30 raised now would find (R661). -/
def State.hbJudged (s : State) (b : Nat) (ev30 : Bool) : State :=
  let u : Ev30Undo := ⟨ev30 && s.evOn 30, s.latched 30, Tbl.get 0 s.evt.held 30, s.evSev 30,
    s.instances.filter (fun n => !bit (s.inst n).span.evtMap 30)⟩
  s.updHb b (fun h => { h with judged := some u })

/-- One occurrence fewer of an event in this tick's list. -/
def dropOcc (e : Nat) : List Occ → List Occ
  | [] => []
  | o :: r => if o.ev = e ∧ o.island = false then (if o.count ≤ 1 then r else { o with count := o.count - 1 } :: r) else o :: dropOcc e r

/-- The bridge's EV30 of this tick is taken back (R661): its occurrence, its count in the spans and, where no other bridge has raised it
in this tick, its latch, held severity and mark. -/
def State.ev30Back (s : State) (u : Ev30Undo) : State :=
  let s1 := s.mapEvt (fun v => { v with occ := dropOcc 30 v.occ })
  let last := !s1.evt.occ.any (fun o => o.ev == 30 && !o.island)
  let s2 := if last then (s1.setPb 0x0600 30 u.latched).mapEvt (fun v => { v with held := Tbl.put 0 v.held 30 u.held }) else s1
  if u.sev = 0 then s2
  else s2.each s2.instances (fun t n => t.upSpan n (fun p => { p with
    evtMap := if last && u.fresh.contains n && bit p.evtMap 30 then p.evtMap - 2 ^ 30 else p.evtMap
    evtCounts := bumpAt p.evtCounts (u.sev - 1) 3 (fun x => x - 1) }))

/-- The brake of a bridge is over: it coasts, and a move that backed off from an obstruction ends here, after its brake, with
OBSTRUCTED and EV30 (R628, R633 and the example of a blocked louvre). -/
def State.hbBraked (s : State) (b : Nat) : State :=
  let c := (s.hb b).cur
  if (s.hb b).backing then ((s.hbEnds b 4).hbPut b 0).ev30 b 1 c else (s.hbPut b 0).hbKeep b

/-- A winning HB_MOVE at the set instant (R626 to R630, R638): `a` direction, `b` mode, `c` the time or count. -/
def State.hbApply (s : State) (i : Intent) : State :=
  let b := i.chan
  let m : Move := ⟨i.a, i.b, i.c⟩
  let h := s.hb b
  if i.a = 0 then
    ((if s.hbMoving b then s.hbEnds b 1 else s).hbPut b (if s.ovOn || s.uvOn then 0 else 3))
  else match h.move with
    | some o =>
      let s1 := s.hbEnds b 7
      if o.dir = i.a then s1.hbGo b m
      else (s1.updHb b (fun h => { h with next := some m })).hbPut b 4
    | none =>
      if s.hbState b = 4 then
        let s1 := if h.backing then s.hbEnds b 7 else s
        s1.updHb b (fun h => { h with next := some m })
      else (if h.backing then s.hbEnds b 7 else s).hbGo b m

/-- A rule of another chapter takes the bridge to coast (R269, R224, R126, R152, R636, R661). A move that a stall, ripple loss or trip
ended in this tick ends ABORTED too, and its EV30 is taken back. DEDUCED: an EV30 of severity DOUSE stands, since the entry to Doused is
its own effect (log 187). -/
def State.hbAbort (s : State) (b : Nat) : State :=
  let s1 := match (s.hb b).judged with
    | none => if s.hbMoving b then (s.hbEnds b 8).updHb b (fun h => { h with aborted := true }) else s
    | some u =>
      if u.on && u.sev == 3 then s
      else
        let t := (s.hbEnds b 8).updHb b (fun h => { h with aborted := true, judged := none })
        if u.on then t.ev30Back u else t
  if s.hbState b = 5 then s1 else s1.hbPut b 0

/-- Overvoltage coast holds the move (R117, R636, R660). A dead time runs on to its end. -/
def State.hbHold (s : State) (b : Nat) : State :=
  let h := s.hb b
  match h.move with
  | some m => (((s.updHb b (fun h => { h with move := none, held := some m })).hbPut b 0).setPb (hbStat b) 7 false).hbKeep b
  | none => if s.hbState b = 3 then s.hbBraked b else s

/-- Overvoltage coast ends: the held move resumes (R660). -/
def State.hbResume (s : State) (b : Nat) : State :=
  match (s.hb b).held with
  | some m => s.hbGo b m
  | none => s

/-- The Doused setting of a bridge at the entry to Doused (R658, R661, R662): one that drove against its pulse as Doused began coasts for
REVDEAD first. -/
def State.hbDouse (s : State) (b : Nat) : State :=
  match s.pf (hbCfg b) 24 2 with
  | 0 => s.hbAbort b
  | 1 =>
    let m : Move := ⟨1 + s.pf (0x2401 + 8 * b) 10 1, 1, s.pf (0x2401 + 8 * b) 0 10⟩
    let against := (s.hb b).douseDir != 0 && (s.hb b).douseDir != m.dir
    let s1 := s.hbAbort b
    if against then (s1.updHb b (fun h => { h with next := some m, doused := true })).hbPut b 4
    else (s1.hbGo b m).updHb b (fun h => { h with doused := true })
  | _ => s

/-- HB_RIPPLE (R634): `depth` in mA. -/
def execHbRipple (b depth : Nat) (s : State) : Host.Outcome State Fault Refusal :=
  done (if b < 8 && (s.hbDrives b || s.hbState b == 3) && s.pf (0x2404 + 8 * b) 0 8 * 10 < depth then
    let h := s.hb b
    let fwd := h.dir == 1
    let pos := (s.p (hbPosA b) + (if fwd then 1 else 2 ^ 32 - 1)) % 2 ^ 32
    (s.setP (hbPosA b) pos).updHb b (fun h =>
      { h with move := h.move.map (fun m => if m.mode = 2 then { m with left := m.left - 1 } else m) })
  else s)

/-- HB_MOVE_END (R627, R628, R633): a pulse's time is over, or a count is reached. -/
def execHbMoveEnd (b : Nat) (s : State) : Host.Outcome State Fault Refusal :=
  done (match (s.hb b).move with
  | some m =>
    if m.mode = 1 ∨ (m.mode = 2 ∧ m.left = 0) then
      if (s.hb b).backing then (s.updHb b (fun h => { h with move := none })).hbPut b 3
      else (s.hbEnds b 1).hbPut b 3
    else s
  | none => s)

/-- HB_STALL (R631 to R633, R661): `cur` in 10 mA, which has stood above STALL.I, in 50 mA, for STALL.T. -/
def execHbStall (b cur : Nat) (s : State) : Host.Outcome State Fault Refusal :=
  done (match (s.hb b).move with
  | some m =>
    if cur ≤ 5 * s.pf (0x2403 + 8 * b) 0 8 then s
    else if m.mode = 2 ∧ s.pb (0x2405 + 8 * b) 0 = true ∧ (s.hb b).backing = false then
      let back : Move := ⟨3 - m.dir, 2, s.pf (0x2405 + 8 * b) 8 8⟩
      (s.updHb b (fun h => { h with move := none, backing := true, cur := cur, next := some back })).hbPut b 4
    else (((s.hbJudged b true).hbEnds b (if m.mode = 1 then 2 else 3)).hbPut b 3).ev30 b 0 cur
  | none => s)

/-- HB_RIPPLE_TIMEOUT (R635). A pulse is judged by its time alone (table "Motion failures"). -/
def execHbRippleTimeout (b cur : Nat) (s : State) : Host.Outcome State Fault Refusal :=
  done (match (s.hb b).move with
  | some m =>
    if m.mode = 1 then s
    else ((((s.hbJudged b true).setPb (hbStat b) 7 false).hbEnds b 5).hbPut b 3).ev30 b 2 cur
  | none => s)

/-- HB_OVERCURRENT (R636, R638, R639, R661). -/
def execHbOvercurrent (b cur : Nat) (s : State) : Host.Outcome State Fault Refusal :=
  done (if b < 8 && (s.hbDrives b || s.hbState b == 3 || (s.hb b).aborted) then
    let s1 := if (s.hb b).move.isSome || ((s.hb b).backing && s.hbState b == 3) then (s.hbJudged b false).hbEnds b 6 else s
    let s2 := if s.hbDrives b || s.hbState b == 3 then s1.hbPut b 5 else s1
    s2.raise 31 (le 1 b ++ zeros 1 ++ le 2 cur)
  else s)

/-- HB_BRAKE_END (R628, R633). -/
def execHbBrakeEnd (b : Nat) (s : State) : Host.Outcome State Fault Refusal :=
  done (if b < 8 && s.hbState b == 3 then s.hbBraked b else s)

/-- HB_REVDEAD_END (R629, R633, R662). -/
def execHbRevdeadEnd (b : Nat) (s : State) : Host.Outcome State Fault Refusal :=
  done (match (s.hb b).next with
  | some m => if s.hbState b = 4 then s.hbGo b m else s
  | none => s)

/-- MOT.CFG[m]. -/
def motCfg (m : Nat) : Nat := 0x2500 + 16 * m
/-- MOT.STAT[m]. -/
def motStat (m : Nat) : Nat := 0x2508 + 16 * m
/-- MOT.STAT[m].STATE: 0 coast, 1 catch, 2 backward wait, 3 brake, 4 align, 5 open loop, 6 closed loop, 7 FAULT. -/
def State.motState (s : State) (m : Nat) : Nat := s.pf (motStat m) 0 3
/-- The motor takes a state. -/
def State.motPut (s : State) (m st : Nat) : State := s.setPf (motStat m) 0 3 st

/-- The observed speed is taken, with MOT.STAT's SPEED and REV: backward is against the target (R643). -/
def State.motSpeed (s : State) (m : Nat) (rpm : Int) : State :=
  let t := (s.mot m).target
  let back := if t < 0 then decide (0 < rpm) else decide (rpm < 0)
  (((s.updMot m (fun x => { x with speed := rpm })).setPf (motStat m) 16 16 (Nat.min rpm.natAbs 0xFFFF)).setPb
    (motStat m) 8 back)

/-- The speed along the target. -/
def State.motAlong (s : State) (m : Nat) (rpm : Int) : Int := if (s.mot m).target < 0 then -rpm else rpm

/-- A fault (R654, R655). -/
def State.motFault (s : State) (m kind : Nat) (rpm : Int) : State :=
  let s1 := (s.motPut m 7).setPf (motStat m) 3 3 kind
  let s2 := s1.updMot m (fun x =>
    { x with starting := false, down := 0, recatch := false, held := false, braked := false })
  s2.begin 35 m (le 1 m ++ le 1 kind ++ le 4 (toTwos 32 rpm))

/-- The direction a motor in closed loop turns: against its target while it ramps down for a reversal. -/
def MotCh.turnsBack (x : MotCh) : Bool := if x.down = 2 then decide (0 < x.target) else decide (x.target < 0)

/-- A run towards a target (R644, R648). -/
def State.motRun (s : State) (m : Nat) (target : Int) (ramp : Nat) : State :=
  let x := s.mot m
  let put (t : State) (down : Nat) : State := t.updMot m (fun y =>
    { y with target := target, ramp := ramp, down := down, recatch := false, braked := false })
  if s.motHeld = true ∧ s.motState m ≠ 7 then (put s 0).updMot m (fun y => { y with held := true })
  else match s.motState m with
  | 6 => put s (if x.turnsBack = decide (target < 0) then 0 else 2)
  | 1 => put s 0
  | 2 => put s 0
  | 7 => s
  | _ => (put s 0).motPut m 1

/-- A stop (R649): 0 coast, 1 ramp, 2 brake. A ramp needs the closed loop; elsewhere the motor coasts. -/
def State.motStop (s : State) (m mode : Nat) : State :=
  let closed := s.motState m = 6
  let dn := if mode = 1 ∧ closed then 1 else 0
  let s1 := (s.finish 35 m).updMot m (fun x =>
    { x with starting := false, recatch := false, held := false, braked := mode = 2, down := dn })
  match mode with
  | 1 => if closed then s1 else s1.motPut m 0
  | 2 => if s.motHeld then s1.motPut m 0 else s1.motPut m 3
  | _ => s1.motPut m 0

/-- A winning motor intent at the set instant: `a` 0 a start towards `b`, two's complement, at ramp `c`; 1 a stop of
mode `b`. -/
def State.motApply (s : State) (i : Intent) : State :=
  if i.a = 0 then
    if s.motState i.chan = 7 then s
    else (s.motRun i.chan (ofTwos 32 i.b) i.c).updMot i.chan (fun x => { x with starting := true })
  else s.motStop i.chan i.b

/-- The motor coasts by a rule of another chapter; a fault stands. -/
def State.motCoast (s : State) (m : Nat) : State :=
  let s1 := s.updMot m (fun x =>
    { x with starting := false, down := 0, recatch := false, held := false, braked := false })
  if s.motState m = 7 then s1 else s1.motPut m 0

/-- Overvoltage coast or undervoltage stops a motor that is under way (R117, R126). -/
def State.motHold (s : State) (m : Nat) : State :=
  let st := s.motState m
  let x := s.mot m
  if st = 7 then s
  else if x.braked then s.motPut m 0
  else if x.down = 1 then s.motCoast m
  else (s.updMot m (fun y =>
    { y with held := y.held || st != 0 || y.recatch, recatch := false, down := 0 })).motPut m 0

/-- A held motor resumes by catch towards its last target, and a held brake returns (R660, R122). -/
def State.motResume (s : State) (m : Nat) : State :=
  let x := s.mot m
  if s.motState m = 7 then s
  else if x.held then (s.updMot m (fun y => { y with held := false })).motPut m 1
  else if x.braked then s.motPut m 3 else s

/-- The Doused setting of a motor (R659). A brake that overvoltage coast or undervoltage forbids waits for its end (R117,
R126). -/
def State.motDouse (s : State) (m : Nat) : State :=
  match s.pf (motCfg m) 26 2 with
  | 0 => s.motCoast m
  | 1 => if s.motState m = 7 then s
    else ((s.motCoast m).updMot m (fun x => { x with braked := true })).motPut m (if s.motHeld then 0 else 3)
  | 2 =>
    let v : Int := s.pf (0x2507 + 16 * m) 0 16
    if v = 0 then s.motCoast m
    else s.motRun m (if s.pb (0x2507 + 16 * m) 16 then -v else v) (s.mot m).ramp
  | _ => s

/-- MOTOR_CATCH_END (R644). -/
def execMotorCatchEnd (m : Nat) (rpm : Int) (s : State) : Host.Outcome State Fault Refusal :=
  done (if m < 4 && s.motState m == 1 then
    let s1 := s.motSpeed m rpm
    let v := s.motAlong m rpm
    let rated : Int := s.pf (motCfg m) 0 16
    let min : Int := s.pf (0x2501 + 16 * m) 8 8
    let brk : Int := s.pf (0x2501 + 16 * m) 16 8
    if (100 * v < rated ∧ -(100 * v) < rated) ∨ (0 ≤ v ∧ 100 * v < min * rated) then s1.motPut m 4
    else if 0 ≤ v then (s1.motPut m 6).raise 33 (le 1 m ++ zeros 1 ++ le 4 (toTwos 32 rpm))
    else if -(100 * v) < brk * rated then s1.motPut m 3
    else s1.motPut m 2
  else s)

/-- MOTOR_BACKWARD_RELEASE (R644): the backward speed has fallen below BRAKE_MAX. -/
def execMotorBackwardRelease (m : Nat) (rpm : Int) (s : State) : Host.Outcome State Fault Refusal :=
  done (if m < 4 && s.motState m == 2 && -(100 * s.motAlong m rpm) < (s.pf (0x2501 + 16 * m) 16 8 : Int) * s.pf (motCfg m) 0 16 then
    (s.motSpeed m rpm).motPut m 3 else s)

/-- MOTOR_BACKWARD_TIMEOUT (R644, R654, R655). -/
def execMotorBackwardTimeout (m : Nat) (rpm : Int) (s : State) : Host.Outcome State Fault Refusal :=
  done (if m < 4 && s.motState m == 2 then (s.motSpeed m rpm).motFault m 0 rpm else s)

/-- MOTOR_BRAKE_END (R644, R645). A brake of MOTOR_STOP does not end by time. -/
def execMotorBrakeEnd (m : Nat) (s : State) : Host.Outcome State Fault Refusal :=
  done (if m < 4 && s.motState m == 3 && !(s.mot m).braked then s.motPut m 4 else s)

/-- MOTOR_ALIGN_END (R645). -/
def execMotorAlignEnd (m : Nat) (s : State) : Host.Outcome State Fault Refusal :=
  done (if m < 4 && s.motState m == 4 then s.motPut m 5 else s)

/-- MOTOR_HANDOVER (R645): the open loop has reached HANDOVER % of RATED. -/
def execMotorHandover (m : Nat) (rpm : Int) (s : State) : Host.Outcome State Fault Refusal :=
  done (if m < 4 && s.motState m == 5 && (s.pf (0x2503 + 16 * m) 16 6 : Int) * s.pf (motCfg m) 0 16 ≤ 100 * s.motAlong m rpm then (s.motSpeed m rpm).motPut m 6 else s)

/-- MOTOR_HANDOVER_TIMEOUT (R646, R654, R655). -/
def execMotorHandoverTimeout (m : Nat) (rpm : Int) (s : State) : Host.Outcome State Fault Refusal :=
  done (if m < 4 && (s.motState m == 5 || s.motState m == 6) then (s.motSpeed m rpm).motFault m 4 rpm else s)

/-- MOTOR_TARGET_REACHED (R647, R655): the observed speed lies within 3 % of the target. -/
def execMotorTargetReached (m : Nat) (rpm : Int) (s : State) : Host.Outcome State Fault Refusal :=
  done (if m < 4 && s.motState m == 6 && (s.mot m).starting && 100 * (rpm - (s.mot m).target).natAbs ≤ 3 * (s.mot m).target.natAbs then
    ((s.motSpeed m rpm).updMot m (fun x => { x with starting := false })).raise 32
      (le 1 m ++ zeros 1 ++ le 4 (toTwos 32 rpm))
  else s)

/-- What declares observer loss (R650): cause 0, a residual of `amount` % of the rated back-EMF above RESID for `periods` PWM periods, N
or more; cause 1, an estimated speed that changed by `amount` rpm, more than JUMP % of RATED, between two periods. -/
def State.motLost (s : State) (m cause amount periods : Nat) : Bool :=
  let o := 0x2504 + 16 * m
  match cause with
  | 0 => s.pf o 0 8 < amount && s.pf o 8 8 ≤ periods
  | 1 => s.pf o 16 8 * s.pf (motCfg m) 0 16 < 100 * amount
  | _ => false

/-- MOTOR_OBSERVER_LOSS (R650 to R652, R655): `recent` re-catches started within the preceding 1,000 ms. -/
def execMotorObserverLoss (m cause amount periods : Nat) (rpm : Int) (recent : Nat) (s : State) : Host.Outcome State Fault Refusal :=
  done (if m < 4 && s.motState m == 6 && s.motLost m cause amount periods then
    let stopping := (s.mot m).down = 1
    let again := ¬stopping ∧ recent < 3
    let s1 := ((s.motSpeed m rpm).setPf (motStat m) 6 2 (Nat.min recent 3)).raise 34
      (le 1 m ++ le 1 cause ++ le 4 (toTwos 32 rpm) ++ le 1 (recent + if again then 1 else 0))
    if stopping then s1.motCoast m
    else if again then (s1.updMot m (fun x => { x with recatch := true, down := 0 })).motPut m 0
    else s1.motFault m 1 rpm
  else s)

/-- MOTOR_RECATCH (R651). -/
def execMotorRecatch (m : Nat) (s : State) : Host.Outcome State Fault Refusal :=
  done (if m < 4 && s.motState m == 0 && (s.mot m).recatch then
    ((s.updMot m (fun x => { x with recatch := false })).motPut m 1).incPf (motStat m) 6 2
  else s)

/-- MOTOR_GATE_FAULT (R653 to R655): kind 2 a phase overcurrent, 3 a drain-source or gate drive fault. -/
def execMotorGateFault (m kind : Nat) (rpm : Int) (s : State) : Host.Outcome State Fault Refusal :=
  done (if m < 4 && (kind == 2 || kind == 3) && s.motState m != 7 then (s.motSpeed m rpm).motFault m kind rpm else s)

/-- MOTOR_RAMP_DOWN_END (R648, R649). -/
def execMotorRampDownEnd (m : Nat) (s : State) : Host.Outcome State Fault Refusal :=
  done (if m < 4 && s.motState m == 6 then
    match (s.mot m).down with
    | 1 => s.motCoast m
    | 2 => (s.updMot m (fun x => { x with down := 0 })).motPut m 3
    | _ => s
  else s)

end Sys2Proof.Machine
end

