-- ==== Sys2Proof/Machine/Valves.lean ====
section
/-! DEFINITION. Valve banks and lighting (R589 to R621). -/

namespace Sys2Proof.Machine

/-- VLV.CFG[c]. -/
def vlvCfg (c : Nat) : Nat := 0x2200 + 2 * c
/-- VLV.STAT[c]. -/
def vlvStat (c : Nat) : Nat := 0x2201 + 2 * c
/-- VLV.PROF[p].PEAKMAX in µs. -/
def State.peakMax (s : State) (p : Nat) : Nat := 500 * s.pf (0x2240 + 2 * p) 8 7
/-- VLV.PROFON[p].ON in µs. -/
def State.onTime (s : State) (p : Nat) : Nat := 100 * s.pf (0x2241 + 2 * p) 0 24
/-- VLV.CFG[c].MINOFF in µs. -/
def State.minOff (s : State) (c : Nat) : Nat := 100 * s.pf (vlvCfg c) 0 9

/-- An instant of this tick in µs, as the valves count them (R598). -/
def State.now (s : State) : Nat := s.tick * s.tUs

/-- Whether bank feed `b` is on: a channel of the bank is in peak or hold (R590). The turn-off itself takes no time in
this model. -/
def State.bankFeed (s : State) (b : Nat) : Bool :=
  (List.range 4).any (fun k => let st := s.pf (vlvStat (4 * b + k)) 0 2; st == 1 || st == 2)

/-- The switches about a coil: its low-side switch, its recirculation switch to the bank feed, and the bank feed. -/
structure VSwitches where
  low : Bool
  recirc : Bool
  feed : Bool
deriving DecidableEq, Repr

/-- The switches of a channel (R590, R591, R593), `off` in the off-time of a hold chop: peak drives fully, hold chops the low side
while the coil recirculates, and with both open the low side clamps the coil at 45 V (fast decay). -/
def State.vlvSwitches (s : State) (c : Nat) (off : Bool) : VSwitches :=
  let st := s.pf (vlvStat c) 0 2
  ⟨st == 1 || (st == 2 && !off), st == 2 && off, s.bankFeed (c / 4)⟩

/-- VLV.STAT's bits for the events held. -/
def State.vlvBits (s : State) (c : Nat) : State :=
  let v := s.vlv c
  let st := s.pf (vlvStat c) 0 2
  (s.setPb (vlvStat c) 2 v.queued.isSome).setPb (vlvStat c) 3 (v.cur.isSome && st != 1 && st != 2)

/-- When an event ends, none while nothing but STOP ends it. -/
def VEvent.ends (e : VEvent) : Option Nat :=
  match e.stop, e.kill with
  | none, k => k
  | some t, none => some t
  | some t, some k => some (Nat.min t k)

/-- The set instant of this tick in whole µs, 0.85 T (R47); at a tick of 250 µs the next whole one. -/
def State.setNow (s : State) : Nat := s.now + (85 * s.tUs + 99) / 100

/-- A current event ends at instant `t` with fast decay (R591, R593, R603): the minimum off-time begins where the coil was
driven, and the queued event becomes current at its planned start. -/
def State.vlvEnd (s : State) (c t : Nat) : State :=
  let st := s.pf (vlvStat c) 0 2
  let ran := st = 1 ∨ st = 2
  let s1 := s.updVlv c (fun v =>
    { v with cur := v.queued, queued := none, stopped := if ran then t else v.stopped })
  (s1.setPf (vlvStat c) 0 2 (if ran then 3 else st)).vlvBits c

/-- The windows of a channel are released. -/
def State.vlvRelease (s : State) (c : Nat) : State :=
  s.mapOut (fun o => { o with wins := o.wins.filter (fun w => w.chan != c) })

/-- The current event ends at instant `t`, the queued one is discarded and their windows are released (R224, R270, R608). -/
def State.vlvDrop (s : State) (c t : Nat) : State :=
  ((s.updVlv c (fun v => { v with queued := none })).vlvEnd c t).vlvRelease c

/-- One pass over the windows of the other channels of the bank (R600): the start, and the channel of the last window
that moved it. -/
def windowPass (peak : Nat) (l : List VWin) (a : Nat × Nat) : Nat × Nat :=
  l.foldl (fun x w => if x.1 < w.stop ∧ w.start < x.1 + peak then (w.stop, w.chan) else x) a

/-- The passes repeat until no window overlaps: each pass that moves the start passes a further window. -/
def windowFit (peak : Nat) (l : List VWin) : Nat → Nat × Nat → Nat × Nat
  | 0, a => a
  | n + 1, a => windowFit peak l n (windowPass peak l a)

/-- What planning answers (R600, R605). -/
structure VPlan where
  status : Nat
  start : Nat
  by' : Nat
  delay : Nat
deriving DecidableEq, Repr

/-- The planning of R600 for a profile `p` on channel `c` at the requested start, without its effect. -/
def State.vlvPlan (s : State) (c p req dl : Nat) : VPlan :=
  let v := s.vlv c
  let low := match v.cur with
    | none => req
    | some e => match e.ends with
      | none => req
      | some t => Nat.max req (t + s.minOff c)
  if (match v.cur with | some e => e.stop.isNone | none => false) then ⟨0x0401, req, 0, 0⟩
  else
    let peak := s.peakMax p
    let l := s.out.wins.filter (fun w => w.chan / 4 == c / 4 && w.chan != c)
    let r := windowFit peak l (l.length + 1) (low, c)
    let d := r.1 - low
    if d > s.pf (0x2250 + c / 4) 0 13 then ⟨0x0400, r.1, r.2, d⟩
    else if 0 < dl ∧ dl < r.1 - req then ⟨0x0401, r.1, r.2, d⟩
    else ⟨if v.cur.isSome then 3 else 0, r.1, r.2, d⟩

/-- The verdict of a valve intent: its reply names an instant (R605). -/
def State.verdictAt (s : State) (lodge status at' : Nat) : State :=
  s.mapCmd (fun c => { c with verdicts := ⟨lodge, status, at' / s.tUs, at' % s.tUs⟩ :: c.verdicts })

/-- Planning of the winning VALVE_FIRE of a channel at 0.70 T (R599 to R606). The intent's `a` is the profile, 255 for
STOP; `b` the requested start in µs; `c` the deadline. -/
def State.vlvWin (s : State) (i : Intent) : State :=
  let c := i.chan
  let v := s.vlv c
  if i.a = 255 then
    let s1 := (s.updVlv c (fun v => { v with queued := none, cur := v.cur.map (fun e => { e with
      kill := some (match e.kill with | some t => Nat.min t i.b | none => i.b) }) }))
    ((if v.cur.isSome then s1.vlvRelease c else s1).vlvBits c).verdictAt i.lodge 0 i.b
  else
    let q := s.vlvPlan c i.a i.b i.c
    if q.status < 0x100 then
      let on := s.onTime i.a
      let e : VEvent := ⟨q.start, i.a, if on = 0 then none else some (q.start + on), none⟩
      let s1 := match v.queued with
        | some o => (s.mapOut (fun x => { x with
            wins := x.wins.filter (fun w => !(w.chan == c && w.start == o.start)) })).incPf (vlvStat c) 8 8
        | none => s
      let s2 := s1.updVlv c (fun v => if v.cur.isSome then { v with queued := some e } else { v with cur := some e })
      let s3 := s2.mapOut (fun x => { x with
        wins := x.wins.filter (fun w => s.now < w.stop) ++ [⟨c, q.start, q.start + s.peakMax i.a⟩] })
      (s3.vlvBits c).verdictAt i.lodge q.status q.start
    else
      let s1 := if q.status = 0x0400 then
          s.raise 26 (le 1 c ++ le 1 i.a ++ le 1 q.by' ++ zeros 1 ++ le 2 (Nat.min q.delay 0xFFFF))
        else s
      s1.verdictAt i.lodge q.status q.start

/-- A running event begins its peak: the start is counted for the bank (R481, R510, R590, R593, R597). -/
def State.vlvBegin (s : State) (c : Nat) : State :=
  let b := c / 4
  let is := (List.range 8).filter (fun k => s.pb (0x1800 + k) 31 && s.pb (0x1800 + k) (16 + b))
  let s1 := s.each is (fun t k => t.upSpan k (fun p => { p with vlv := bumpAt p.vlv b 6 (· + 1) }))
  (((s1.wear (16 + b) 1).setPf (vlvStat c) 0 2 1).vlvBits c)


/-- EV27 (R595). -/
def State.vlvFail (s : State) (c kind ma p : Nat) : State :=
  s.raise 27 (le 1 c ++ le 1 kind ++ le 2 ma ++ le 1 p)

/-- Whether a channel is in peak or hold. -/
def State.vlvRuns (s : State) (c : Nat) : Bool := let st := s.pf (vlvStat c) 0 2; st == 1 || st == 2

/-- The profile of the current event. -/
def State.vlvProf (s : State) (c : Nat) : Nat := match (s.vlv c).cur with
  | some e => e.prof
  | none => 0

/-- A free instant of the tick in progress. -/
def State.freeNow (s : State) : Nat := s.now + Config.freeNat s.free % s.tUs

/-- VALVE_START (R590, R593, R597, R603). The bank feeds are off in undervoltage and until the last restart step
(R122, R126). -/
def execValveStart (c : Nat) (s : State) : Host.Outcome State Fault Refusal :=
  done (if c < 24 && (s.vlv c).cur.isSome && !s.vlvRuns c && !s.pb 0x0300 16 && !s.pb 0x0300 17 then s.vlvBegin c else s)

/-- VALVE_PEAK_REACHED (R593). -/
def execValvePeakReached (c : Nat) (s : State) : Host.Outcome State Fault Refusal :=
  done (if c < 24 && s.pf (vlvStat c) 0 2 == 1 then s.setPf (vlvStat c) 0 2 2 else s)

/-- VALVE_PEAK_TIMEOUT (R594 to R596). -/
def execValvePeakTimeout (c ma : Nat) (s : State) : Host.Outcome State Fault Refusal :=
  done (if c < 24 && s.pf (vlvStat c) 0 2 == 1 then
    let p := s.vlvProf c
    (s.vlvEnd c (match (s.vlv c).cur with | some e => e.start + s.peakMax p | none => s.now)).vlvFail c 0 ma p
  else s)

/-- VALVE_TURN_OFF (R591, R593, R603). -/
def execValveTurnOff (c : Nat) (s : State) : Host.Outcome State Fault Refusal :=
  done (match (s.vlv c).cur with
  | some e => match e.stop with
    | some t => if c < 24 && s.vlvRuns c then s.vlvEnd c t else s
    | none => s
  | none => s)

/-- VALVE_LS_OVERCURRENT (R594, R595). -/
def execValveLsOvercurrent (c ma : Nat) (s : State) : Host.Outcome State Fault Refusal :=
  done (if c < 24 && s.vlvRuns c then ((s.vlvEnd c s.freeNow).vlvFail c 1 ma (s.vlvProf c)).drawn else s)

/-- VALVE_BF_OVERCURRENT (R594, R595): every running channel of the bank goes off. The profile named is that of its
lowest running channel. -/
def execValveBfOvercurrent (b ma : Nat) (s : State) : Host.Outcome State Fault Refusal :=
  done (match ((List.range 4).map (fun k => 4 * b + k)).filter s.vlvRuns with
  | [] => s
  | c :: r => if b < 6 then
      ((s.each (c :: r) (fun t k => t.vlvEnd k s.freeNow)).vlvFail (4 * b) 2 ma (s.vlvProf c)).drawn
    else s)

/-- VALVE_STOP (R604): the requested start of an accepted STOP. -/
def execValveStop (c : Nat) (s : State) : Host.Outcome State Fault Refusal :=
  done (match (s.vlv c).cur with
  | some e => match e.kill with
    | some t => if c < 24 then s.vlvEnd c t else s
    | none => s
  | none => s)

/-- VALVE_MINOFF_END (R604, R607): the minimum off-time counts from the end of the last event, and ends within this tick or before. -/
def execValveMinoffEnd (c : Nat) (s : State) : Host.Outcome State Fault Refusal :=
  done (if c < 24 && s.pf (vlvStat c) 0 2 == 3 && (s.vlv c).stopped + s.minOff c ≤ s.now + s.tUs then (s.setPf (vlvStat c) 0 2 0).vlvBits c else s)

/-- LED.CFG[n]. -/
def ledCfg (n : Nat) : Nat := 0x2300 + 4 * n
/-- LED.STAT[n]. -/
def ledStat (n : Nat) : Nat := 0x2302 + 4 * n
/-- LED.GSTAT[g]. -/
def ledGstat (g : Nat) : Nat := 0x2380 + g

/-- The least number below `2 ^ k` for which `f` fails, by bisection, `f` holding up to it. -/
def bisect (f : Nat → Bool) : Nat → Nat → Nat
  | 0, lo => lo
  | k + 1, lo => if f (lo + 2 ^ k - 1) then bisect f k (lo + 2 ^ k) else bisect f k lo

/-- 65,535 × (b / 65,535)^2.2 rounded to nearest: the number of half steps passed, by integer comparison. -/
def gamma22 (b : Nat) : Nat :=
  bisect (fun l => decide ((2 * l + 1) ^ 5 * 65535 ^ 6 ≤ 32 * b ^ 11)) 16 0

/-- 2^(16 b / 65,535) − 1 rounded to nearest. -/
def logCurve (b : Nat) : Nat :=
  bisect (fun l => decide ((2 * l + 3) ^ 65535 ≤ 2 ^ (16 * b + 65535))) 16 0

/-- The linear level of a brightness (R612). -/
def State.ledLevel (s : State) (n b : Nat) : Nat :=
  match s.pf (ledCfg n) 8 2 with
  | 0 => b
  | 1 => gamma22 b
  | 2 => logCurve b
  | _ =>
    let i := b / 2048
    let c (k : Nat) : Int := s.pf (0x23A0 + k) 0 16
    (c i + (c (i + 1) - c i) * ((b : Int) - 2048 * (i : Int)) / 2048).toNat

/-- The level that a brightness gives a sink: 0 at brightness 0, but by a CUSTOM curve its first point (R612). -/
def State.ledShown (s : State) (n b : Nat) : Nat := if b = 0 ∧ s.pf (ledCfg n) 8 2 < 3 then 0 else s.ledLevel n b

/-- Putting a brightness in force (R612). -/
def State.ledPut (s : State) (n b : Nat) : State :=
  (s.setPf (ledStat n) 0 16 b).setPf (ledStat n) 16 16 (s.ledShown n b)

/-- A sink's level under a changed curve: the brightness in force keeps (R612). -/
def State.ledAgain (s : State) (n : Nat) : State := s.ledPut n (s.pf (ledStat n) 0 16)

/-- The brightness at step `k` of a fade: rounded towards its start (R613). -/
def Fade.at' (f : Fade) : Nat :=
  if f.f = 0 then f.b1
  else if f.b0 ≤ f.b1 then f.b0 + (f.b1 - f.b0) * f.k / f.f else f.b0 - (f.b0 - f.b1) * f.k / f.f

/-- A winning LED intent at the set instant (R613, R614): `a` the brightness, `b` the fade in ticks. -/
def State.ledApply (s : State) (i : Intent) : State :=
  let f : Fade := ⟨s.pf (ledStat i.chan) 0 16, i.a, i.b, 0⟩
  (s.mapOut (fun o => { o with fades := if i.b = 0 then Tbl.del o.fades i.chan else Tbl.set o.fades i.chan f })).ledPut
    i.chan f.at'

/-- Every running fade moves one step (R613). -/
def State.ledFades (s : State) : State :=
  let s1 := s.mapOut (fun o => { o with fades := o.fades.map (fun e => (e.1, { e.2 with k := e.2.k + 1 })) })
  let s2 := s1.each s1.out.fades (fun t e => t.ledPut e.1 e.2.at')
  s2.mapOut (fun o => { o with fades := o.fades.filter (fun e => e.2.k < e.2.f) })

/-- The derating factors of the last sample instant come into force (R616). -/
def State.ledFactors (s : State) : State :=
  (s.each s.out.nextF (fun t e => (t.setPf (ledGstat e.1) 16 7 e.2.2).mapOut (fun o => { o with
    factor := Tbl.set o.factor e.1 e.2.1 }))).mapOut (fun o => { o with nextF := [] })

/-- The derating factor F_g in thousandths at a temperature of 0.1 °C (R616). -/
def derate (t : Int) (knee : Nat) : Nat :=
  let d := t - 10 * (knee : Int)
  if d ≤ 0 then 1000 else Nat.max 250 (1000 - 3 * d.toNat)

/-- A factor in thousandths as a field in %: between two whole percentages a free one of the two. -/
def pctOf (m free : Nat) : Nat := m / 10 + (if m % 10 ≠ 0 ∧ Config.freeBit free then 1 else 0)

/-- A group's temperature at the sample instant (R616 to R619). -/
def State.ledSample (s : State) (g : Nat) (t : Int) : State :=
  let knee := s.pf 0x2388 0 8
  let f := derate t knee
  let d := le 1 g ++ zeros 1 ++ le 2 (toTwos 16 t) ++ le 1 (pctOf f s.free)
  let s1 := (s.setPf (ledGstat g) 0 16 (toTwos 16 t)).mapOut (fun o => { o with nextF := Tbl.set o.nextF g (f, pctOf f s.free) })
  let s2 := if t > 10 * (knee : Int) then s1.begin 28 g d
    else if t ≤ 10 * (knee : Int) - 20 then s1.finish 28 g else s1
  let s3 := if t ≥ 1500 then (s2.begin 29 g d).setPb (ledGstat g) 23 true
    else if t ≤ 1350 then (s2.finish 29 g).setPb (ledGstat g) 23 false else s2
  s3.drawn

/-- The burst of a sink in system clocks out of the 32,768 of a period (R611): its level in steps of 1/32,768, rounded down. -/
def State.ledBurst (s : State) (n : Nat) : Nat := s.pf (ledStat n) 16 16 / 2

/-- The current of a sink's bursts in µA, 0 while its group is shut down (R611, R618). -/
def State.ledSet (s : State) (n : Nat) : Nat :=
  if s.pb (ledGstat (n / 4)) 23 then 0 else s.pf (ledCfg n) 0 8 * Tbl.get 1000 s.out.factor (n / 4)

end Sys2Proof.Machine
end

