-- ==== Sys2Proof/Machine/Intents.lean ====
section
/-! DEFINITION. Write intents and their arbitration (R203 to R207, R270, R271). -/

namespace Sys2Proof.Machine

/-- The rank of a source: CMD.RANK, below internal protection (R203). -/
def State.rankOf (s : State) (src : Nat) : Nat := if 8 ≤ src then 0 else 1 + s.pf 0x0401 (4 * src) 4

/-- Lodging an intent. Its lodging number is the count of lodgings before it. -/
def State.lodge (s : State) (kind chan src : Nat) (excl : Bool) (a b c d : Nat) : State :=
  s.mapCmd (fun m => { m with lodge := m.lodge + 1, intents := m.intents ++ [⟨kind, chan, src, m.lodge, excl, a, b, c, d⟩] })

/-- Whether two intents are for one output. -/
def Intent.same (i j : Intent) : Bool := i.kind == j.kind && i.chan == j.chan

/-- Whether `i` ranks before `j` (R203, R204). -/
def State.ranks (s : State) (i j : Intent) : Bool :=
  s.rankOf i.src < s.rankOf j.src || (s.rankOf i.src == s.rankOf j.src && j.lodge < i.lodge)

/-- Whether the Doused state holds the output with rank 1 (R270, R271). -/
def State.dousedHolds (s : State) (kind chan : Nat) : Bool :=
  s.sys.phase == .doused &&
  match kind with
  | 1 => s.isCon chan || s.pf (hsCfg chan) 6 2 != 3
  | 3 => !s.pb (vlvCfg chan) 9
  | 4 => !s.pb (ledCfg chan) 10
  | 5 => s.pf (hbCfg chan) 24 2 != 2
  | 6 => s.pf (motCfg chan) 26 2 != 3
  | _ => true

/-- Whether internal protection beats the intent: the Doused state, and an ALARM of this tick for a contactor that the
intent would close (R65, R582). -/
def State.protects (s : State) (i : Intent) : Bool :=
  s.dousedHolds i.kind i.chan || (i.kind == 1 && s.isCon i.chan && (s.hs i.chan).alarmed && i.b != 0)

/-- Whether an intent of the list wins its output. -/
def State.wins (s : State) (l : List Intent) (i : Intent) : Bool :=
  !s.protects i && l.all (fun j => !i.same j || j.lodge == i.lodge || s.ranks i j)

/-- The status of a losing intent; on an EXCLUSIVE channel EV51 is raised (R205). A valve that Doused holds answers OK_SUPERSEDED
however it was opened (R608). DESIGN CHOICE: EV51 occurs once for each loser, where R205 says only that it is raised (log 181). -/
def State.lose (s : State) (i : Intent) : State :=
  let excl := i.excl && !(i.kind == 3 && s.dousedHolds 3 i.chan)
  let s1 := s.mapCmd (fun m => { m with
    verdicts := ⟨i.lodge, if excl then 0x0204 else 2, i.b / s.tUs, i.b % s.tUs⟩ :: m.verdicts })
  if excl then s1.raise 51 [] else s1

/-- Arbitration at 0.70 T (R203, R205, R599): losers are answered, winners wait for the set instant, and winning valve
events are planned in the execution order of their requests. -/
def State.arbitrate (s : State) : State :=
  let l := s.cmd.intents
  let w := l.filter (fun i => s.wins l i)
  let s1 := s.each (l.filter (fun i => !s.wins l i)) (fun t i => t.lose i)
  let s2 := s1.mapCmd (fun m => { m with intents := [], winners := w, closed := true })
  let s3 := s2.each (w.filter (fun i => i.kind == 3)) (fun t i => t.vlvWin i)
  s3.each (w.filter (fun i => i.kind == 0x0B)) (fun t i => t.stnApply i)

/-- A winner takes effect at the set instant (R47, R548, R613, R626, R644). A contactor that an ALARM opened since the
arbitration stays open. -/
def State.applyWinner (s : State) (i : Intent) : State :=
  if s.protects i then s.lose i
  else match i.kind with
    | 1 => s.hsApply i
    | 4 => s.ledApply i
    | 5 => s.hbApply i
    | 6 => s.motApply i
    | _ => s

/-- What arbitration answered a lodging. -/
def State.verdict (s : State) (lodge : Nat) : Option Verdict := s.cmd.verdicts.find? (fun v => v.lodge == lodge)

end Sys2Proof.Machine
end

