-- ==== Sys2Proof/Machine/Watchdog.lean ====
section
/-! DEFINITION. The watchdog (R279 to R303, R846). Its instants, such as 90 % of a period, are commands of their own. -/

namespace Sys2Proof.Machine

/-- The next question: one step of the Fibonacci LFSR (R286). -/
def lfsr (q : Nat) : Nat :=
  let fb := (b2n (bit q 0) + b2n (bit q 2) + b2n (bit q 3) + b2n (bit q 5)) % 2
  q % 65536 / 2 + fb * 32768

/-- The correct answer to a question (R287). -/
def wdgAnswerTo (q seed : Nat) : Nat := (q ^^^ seed) * 0x9E37 % 65536

/-- A reset falls due at the end of Commit, by the cause bit `c` (R181, R295). -/
def State.dueReset (s : State) (c : Nat) : State :=
  s.mapSys (fun y => { y with resetDue := insNat c y.resetDue })

/-- A new period, with its window closed (R290). On the configured values it takes its length from WDG.PERIOD (R296). What an
earlier instant holds back stays held (R846). -/
def State.wdgPeriod (s : State) : State :=
  (s.setPb 0x0703 19 false).mapWdg (fun w =>
    let takes := w.cfg && s.full
    { w with
      period := w.period + 1, periodMs := if takes then 10 * s.pf 0x0702 0 8 else w.periodMs
      loaded := if takes then w.period + 1 else w.loaded })

/-- The question steps (R286). -/
def State.wdgStep (s : State) : State := s.setPf 0x0703 0 16 (lfsr (s.pf 0x0703 0 16))

/-- The question steps at a release or a resume (R289, R300, R301): from the question before the step of an answer that is yet to
execute, since that answer then changes the error count alone (R291). -/
def State.wdgRestep (s : State) : State :=
  (s.setPf 0x0703 0 16 (lfsr ((s.cmd.queue.findSome? (·.was)).getD (s.pf 0x0703 0 16)))).mapCmd (fun m =>
    { m with queue := m.queue.map (fun q => { q with was := none }) })

/-- A watchdog starts, or resumes: it runs a full period. -/
def State.wdgGo (s : State) : State :=
  ((s.setPb 0x0703 20 true).mapWdg (fun w => { w with paused := false, expired := false })).wdgPeriod

/-- The hardware start at the first Kindling tick (R279, R288). A kept watchdog resumes by WDG_RESUME instead. -/
def State.wdgHwStart (s : State) : State :=
  if s.sys.fuseRead.getLsbD 0x46B && s.island.wdgKept.isNone then s.wdgGo else s

/-- The watchdog takes its configured values (R289). -/
def State.wdgConfigured (s : State) : State :=
  s.mapWdg (fun w => { w with cfg := true, seed := s.pf 0x0701 0 16, periodMs := 10 * s.pf 0x0702 0 8,
                              loaded := w.period + 1, openAt := s.pf 0x0700 7 2, errMax := s.pf 0x0700 9 3 })

/-- At release to Lit (R280, R289): a watchdog on the Kindling values, or one that starts, takes its configured values. -/
def State.wdgRelease (s : State) : State :=
  let starts := !s.sys.fuseRead.getLsbD 0x46B && s.pb 0x0700 0 && !s.wdgRuns
  if (s.wdgRuns && !s.wdg.cfg) || starts then (s.wdgConfigured.wdgRestep).wdgGo else s

/-- Whether an answer of a source counts: ports 0 to 3, cores 4 to 7 (R281 to R283). -/
def State.wdgServer (s : State) (src : Nat) : Bool :=
  let sv := s.pf 0x0700 1 3
  if s.sys.phase == .kindling then src == 0 || src == 3
  else if s.sys.phase == .doused && 4 ≤ sv then src == s.pf 0x0700 4 3
  else src == sv

/-- A waiting answer holds the reset of a period that has ended (R846). -/
def State.wdgEndHeld (s : State) : Bool := s.cmd.queue.any (·.ended)

/-- The watchdog as it stands for an answer or a write of a source (R284, R291, R296, R297, R846). DEDUCED: its source is judged
at receipt with the rest of the answer (R281, R282). -/
def State.wdgSnap (s : State) (src : Nat) : WdgSnap :=
  { question := s.pf 0x0703 0 16, seed := s.wdg.seed, isOpen := s.pb 0x0703 19,
    period := if s.wdgRuns && !s.wdg.expired && !s.wdgEndHeld && s.wdgServer src then s.wdg.period else 0,
    perOpen := !s.wdgRuns || !s.wdg.cfg || s.pb 0x0703 19, stamp := s.wdg.period }

/-- Whether an answer is correct, and was received in the open window (R287, R292). -/
def wdgCorrect (k : WdgSnap) (ans : Nat) : Bool :=
  k.period != 0 && k.isOpen && ans % 65536 == wdgAnswerTo k.question k.seed

/-- Whether an answer starts the next period (R290, R292): a correct one, of the period in progress. -/
def State.wdgStarts (s : State) (ans : Nat) (k : WdgSnap) : Bool := wdgCorrect k ans && k.period == s.wdg.period

/-- The receipt of an answer: a correct one starts the next period, with the next question (R290, R292). -/
def State.wdgHear (s : State) (ans : Nat) (k : WdgSnap) : State := if s.wdgStarts ans k then s.wdgStep.wdgPeriod else s

/-- The period has ended without a correct answer (R295). -/
def State.wdgExpire (s : State) : State := (s.mapWdg (fun w => { w with expired := true })).dueReset 2

/-- The request has left the queue, executed (R846): what it held back follows, unless another waiting answer holds it too. DESIGN
CHOICE: also while the watchdog is paused, since the instant fell before the pause (log 185). -/
def State.wdgJudged (s : State) (q : QItem) : State :=
  let s1 := if q.warn && !s.cmd.queue.any (·.warn) then s.raise 53 [] else s
  if q.ended && !s.wdgEndHeld then s1.wdgExpire else s1

/-- Whether a received answer waits to be judged (R846). -/
def State.wdgWaits (s : State) : Bool := s.cmd.queue.any (fun q => q.op == 0x70)

/-- Every waiting answer is marked. -/
def State.wdgHold (s : State) (f : QItem → QItem) : State :=
  s.mapCmd (fun m => { m with queue := m.queue.map (fun q => if q.op = 0x70 then f q else q) })

/-- An answer is judged as of its receipt (R284, R287, R291 to R295, R302): the status and the state after. A correct one has
started its period already where it waited in the queue. -/
def State.wdgJudge (s : State) (ans : Nat) (k : WdgSnap) : Nat × State :=
  if k.period = 0 then (0x0301, s)
  else if wdgCorrect k ans then (0, (s.setPf 0x0703 16 3 (s.pf 0x0703 16 3 - 1)).wdgHear ans k)
  else
    let s1 := (s.raise 52 []).incPf 0x0703 16 3
    (0x0103, if s.wdg.errMax ≤ s1.pf 0x0703 16 3 then s1.dueReset 2 else s1)

/-- WDG_EARLY_WARNING (R294, R846). -/
def execWdgEarlyWarning (s : State) : Host.Outcome State Fault Refusal :=
  done (if s.wdgRuns && !s.wdg.expired then
    if s.wdgWaits then s.wdgHold (fun q => { q with warn := true }) else s.raise 53 []
  else s)

/-- WDG_PERIOD_EXPIRED (R290, R295, R846). -/
def execWdgPeriodExpired (s : State) : Host.Outcome State Fault Refusal :=
  done (if s.wdgRuns && !s.wdg.expired then
    let s1 := s.setPb 0x0703 19 false
    if s.wdgWaits then s1.wdgHold (fun q => { q with ended := true }) else s1.wdgExpire
  else s)

/-- WDG_WINDOW_OPEN (R290). -/
def execWdgWindowOpen (s : State) : Host.Outcome State Fault Refusal :=
  done (if s.wdgRuns && !s.wdg.expired && !s.wdgEndHeld then s.setPb 0x0703 19 true else s)

/-- WDG_RESUME (R300, R301): at the first Lit tick after CLEAR_DOUSE, or at the first Kindling tick after a wake. -/
def execWdgResume (s : State) : Host.Outcome State Fault Refusal :=
  done (if s.wdg.paused && s.sys.phase == .lit then s.wdgRestep.wdgGo
  else match s.island.wdgKept with
    | some l =>
      if s.sys.phase == .kindling && s.sys.pll then
        (((s.mapWdg (fun w => { w with cfg := true, seed := nth 0 l 0, periodMs := nth 0 l 1, openAt := nth 0 l 2,
                                       errMax := nth 0 l 3 })).mapIsland (fun i => { i with wdgKept := none })).wdgRestep).wdgGo
      else s
    | none => s)

/-- At sleep entry the watchdog pauses, and the island keeps its settings (R299). DESIGN CHOICE: among them is the period in
force, not a WDG.PERIOD that was accepted for the next period. -/
def State.wdgBank (s : State) : State :=
  let on := s.wdgRuns || s.wdg.paused
  let w := s.wdg
  ((s.setPb 0x0703 20 false).setPb 0x0703 19 false).mapIsland (fun i => { i with
    wdgKept := if on then some [w.seed, w.periodMs, w.openAt, w.errMax] else none })

end Sys2Proof.Machine
end

