-- ==== Sys2Proof/Machine/Ports.lean ====
section
/-! DEFINITION. Packets, receipt, replies and the outbound queues of the four command ports (R160 to R175, R182 to R196,
R209 to R211). -/

namespace Sys2Proof.Machine

/-- CMD.PORTSTAT[p]. -/
def portStat (p : Nat) : Nat := 0x0408 + p

/-- A reply packet (R161, R162). -/
def replyBytes (op seq status tick : Nat) (payload : List Byte) : List Byte :=
  withCrc (le 1 0xF2 ++ le 1 op ++ le 2 seq ++ le 2 payload.length ++ le 2 status ++ le 4 tick ++ payload)

/-- The list without its first element that satisfies the test. -/
def dropFirst {α : Type} (f : α → Bool) : List α → List α
  | [] => []
  | x :: r => if f x then r else x :: dropFirst f r

/-- A frame on a network: 16 + controller for CAN, 32 + port for LIN, 48 + interface for Ethernet. A CAN frame is its
identifier in four bytes, bit 30 an FD frame and bit 31 a 29-bit identifier as in NET.KABASE (R710), and its data. The first
byte of a LIN frame is 0 wake-up signal, 1 frame, 2 go-to-sleep; of an
Ethernet one 0 TC10 reject, 1 TC10 acknowledge, 2 TC10 sleep request, 3 TC10 wake-up, 4 ARP, 5 ICMP. -/
def State.sendRaw (s : State) (lane : Nat) (l : List Byte) : State :=
  s.mapSent (fun t => { t with raw := t.raw ++ [(lane, l)] })

/-- A controller is bus-off. -/
def State.busOff (s : State) (c : Nat) : Bool := s.pf (0x3011 + 2 * c) 0 2 == 2

/-- Whether Ethernet interface `i` is up. -/
def State.ethUp (s : State) (i : Nat) : Bool := s.pf (0x3019 + 8 * i) 0 2 == 1

/-- The next hop of a destination of interface `i` (R705). -/
def State.nextHop (s : State) (i ip : Nat) : Nat :=
  let own := BitVec.ofNat 32 (s.p (0x301A + 8 * i))
  let mask := BitVec.ofNat 32 (s.p (0x301B + 8 * i))
  if own &&& mask = BitVec.ofNat 32 ip &&& mask then ip else s.p (0x301C + 8 * i)

/-- An ARP request (R705). -/
def State.arpAsk (s : State) (i ip : Nat) : State :=
  s.sendRaw (48 + i) (le 1 4 ++ be 2 1 ++ be 2 0x0800 ++ le 1 6 ++ le 1 4 ++ be 2 1 ++ le 4 (s.p (0x301D + 8 * i)) ++
    le 2 (s.p (0x301E + 8 * i)) ++ le 4 (s.p (0x301A + 8 * i)) ++ zeros 6 ++ le 4 ip)

/-- The fragments of `n` bytes of IPv4 payload at the MTU of the NET block (R190): each but the last is a multiple of 8 bytes
long and, with the IPv4 header, no longer than the MTU. -/
def fragments (mtu n : Nat) : List (Nat × Nat) :=
  let cap := (mtu - 20) / 8 * 8
  if n + 20 ≤ mtu ∨ cap = 0 then [(0, n)]
  else (List.range ((n + cap - 1) / cap)).map (fun k => (cap * k, Nat.min cap (n - cap * k)))

/-- A packet as it leaves on Ethernet: replies from port 50741 (R188), event and stream packets from port 50742 (R189). -/
def State.ethPkt (s : State) (k : Pkt) : NetTx :=
  ⟨1, k.iface, if k.kind = 0 then 50741 else 50742, false, fragments (s.pf 0x3028 0 16) (k.bytes.length + 8), k⟩

/-- The identifier that a word of CMD.CANRXID's layout names: 29 bits with EXT, else bits [10:0] (R192). -/
def canIdent (w : Nat) : Nat := if bit w 31 then w % 2 ^ 29 + 2 ^ 31 else w % 2 ^ 11

/-- A packet as it leaves on CAN: replies on CMD.CANTXID, event packets on CMD.CANEVTID (R192, R193). -/
def State.canPkt (s : State) (k : Pkt) : NetTx :=
  ⟨2, s.pf 0x0402 0 2, canIdent (s.p (if k.kind = 1 then 0x0405 else 0x0404)), s.pb 0x0402 2, [], k⟩

/-- The flow-control frames that have left once `n` bytes of a message have come (R195): one after the first frame and, with a block
size, one after each block that more frames follow; none for a message of one frame. A first frame holds 6 bytes, or 62 under FD,
and each further one 7, or 63. -/
def State.flowCount (s : State) (n : Nat) (done : Bool) : Nat :=
  let fd := s.pb 0x0402 2
  let bs := s.pf 0x0402 8 8
  if done && n ≤ (if fd then 62 else 7) then 0
  else
    let cf := if fd then 63 else 7
    let more := (n - (cf - 1) + cf - 1) / cf
    1 + (if bs = 0 then 0 else (if done then more - 1 else more) / bs)

/-- Flow-control frames leave on CMD.CANTXID (R193, R195). -/
def State.flowSend (s : State) (k : Nat) : State :=
  s.each (List.range k) (fun t _ => t.sendRaw (16 + t.pf 0x0402 0 2)
    (le 4 (canIdent (t.p 0x0404) + 2 ^ 30 * t.pf 0x0402 2 1) ++ le 1 0x30 ++ le 1 (t.pf 0x0402 8 8) ++ le 1 (t.pf 0x0402 16 8)))

/-- Packets have left. -/
def State.sentNet (s : State) (l : List NetTx) : State := s.mapSent (fun t => { t with net := t.net ++ l })

/-- What waits for Ethernet leaves: packets of a link that is up towards a resolved neighbour; the others have their
neighbour asked for (R705). -/
def State.ethDrain (s : State) : State :=
  let eth := (s.port 1).out
  let up (k : Pkt) : Bool := s.ethUp k.iface && s.pb (0x3018 + 8 * k.iface) 0
  let known (k : Pkt) : Bool := (Tbl.find s.net.arp (s.nextHop k.iface k.ip)).isSome
  let s1 := (s.sentNet ((eth.filter (fun k => up k && known k)).map s.ethPkt)).updPort 1
    (fun p => { p with out := eth.filter (fun k => !(up k && known k)) })
  let ask := ((eth.filter (fun k => up k && !known k)).map (fun k => (k.iface, s.nextHop k.iface k.ip))).eraseDups
  s1.each ask (fun t e => t.arpAsk e.1 e.2)

/-- Whether the CAN transport's controller runs. -/
def State.canRuns (s : State) : Bool := s.pb (0x3010 + 2 * s.pf 0x0402 0 2) 0 && !s.busOff (s.pf 0x0402 0 2)

/-- The packets of a list up to the first that does not fit one CAN frame, and the rest. -/
def canSplit (cap : Nat) : List Pkt → List Pkt × List Pkt
  | [] => ([], [])
  | k :: r => if k.bytes.length ≤ cap then (k :: (canSplit cap r).1, (canSplit cap r).2) else ([], k :: r)

/-- What waits for CAN leaves while its controller runs (R192 to R195): a message of one frame at once, one of several begins
and ends with the tick's Commit, unless CAN_ISOTP_TIMEOUT abandons it before (DESIGN CHOICE). DESIGN CHOICE: the message under way has
left the queue and is none of the 64 packets of R210 (log 178); unsafe by one packet for a full port. -/
def State.canDrain (s : State) : State :=
  if s.canRuns && s.net.canTx.isNone then
    let q := canSplit (if s.pb 0x0402 2 then 62 else 7) (s.port 2).out
    ((s.sentNet (q.1.map s.canPkt)).mapNet (fun n => { n with canTx := q.2.head? })).updPort 2
      (fun p => { p with out := q.2.tail })
  else s

/-- The CAN message of several frames has ended, and the next may begin. -/
def State.canDone (s : State) : State :=
  match s.net.canTx with
  | some k => if s.canRuns then ((s.sentNet [s.canPkt k]).mapNet (fun n => { n with canTx := none })).canDrain else s
  | none => s

/-- What waits for Ethernet and CAN leaves. -/
def State.netDrain (s : State) : State := s.ethDrain.canDrain

/-- Of the elements that satisfy the test, the one after `n` others changes. -/
def changeNth {α : Type} (n : Nat) (f : α → Bool) (g : α → α) : List α → List α
  | [] => []
  | x :: r => if f x then (match n with
      | 0 => g x :: r
      | k + 1 => x :: changeNth k f g r)
    else x :: changeNth n f g r

/-- Whether a packet is of the stream that packet `d` is of (R451): the ring and the worker address of its header. -/
def Pkt.sameStream (d e : Pkt) : Bool :=
  e.kind == 2 && leAt e.bytes 1 1 == leAt d.bytes 1 1 && leAt e.bytes 6 1 == leAt d.bytes 6 1

/-- A stream packet with GAP set (R451). -/
def Pkt.gapped (e : Pkt) : Pkt :=
  { e with bytes := withCrc ((e.bytes.take (e.bytes.length - 4)).set 7 (BitVec.ofNat 8 (setFld (leAt e.bytes 7 1) 1 1 1))) }

/-- A packet `d` has been dropped from a port: the next packet of its stream carries GAP (R451), one that waits or one to come. -/
def State.dropGap (s : State) (p : Nat) (d : Pkt) : State :=
  if d.kind ≠ 2 then s
  else if (s.port p).out.any d.sameStream then s.updPort p (fun x => { x with out := changeNth 0 d.sameStream Pkt.gapped x.out })
  else s.mapFlue (fun x => { x with flares := x.flares.map (fun e =>
    if e.2.w = wKey (leAt d.bytes 1 1) (leAt d.bytes 6 1) ∧ e.2.mode = 1 then (e.1, { e.2 with gap := true }) else e) })

/-- Queueing a packet to a port: a full port drops its oldest event packet, else its oldest reply (R210), else its oldest
stream packet. -/
def State.enqueueOut (s : State) (p : Nat) (k : Pkt) : State :=
  let o := (s.port p).out
  if o.length < 64 then s.updPort p (fun x => { x with out := x.out ++ [k] })
  else
    let o1 := if o.any (fun e => e.kind == 1) then dropFirst (fun e => e.kind == 1) o
      else if o.any (fun e => e.kind == 0) then dropFirst (fun e => e.kind == 0) o else o.drop 1
    let s1 := (s.updPort p (fun x => { x with out := o1 ++ [k] })).incPf (portStat p) 16 8
    if o.any (fun e => e.kind == 1 || e.kind == 0) then s1 else (o.head?.map (s1.dropGap p)).getD s1

/-- A packet for a port: what can leave on Ethernet or CAN leaves at once (R170). -/
def State.pushOut (s : State) (p : Nat) (k : Pkt) : State :=
  let t := s.enqueueOut p k
  if p = 1 then t.ethDrain else if p = 2 then t.canDrain else t

/-- The reply packet of a slot. -/
def RSlot.pkt (r : RSlot) : Pkt := ⟨0, r.iface, r.ip, r.udp, replyBytes r.op r.seq r.status r.tick r.payload⟩

/-- The record of the executed request takes its reply in its place (R173), where it still holds the request: of the entries with its
SEQ and CRC, the one that `n` newer ones follow. -/
def fillLast (seq crc n : Nat) (k : Pkt) (l : List (Nat × Nat × Option Pkt)) : List (Nat × Nat × Option Pkt) :=
  (changeNth n (fun e => e.1 == seq && e.2.1 == crc) (fun e => (e.1, e.2.1, some k)) l.reverse).reverse

/-- A slot that waits for nothing leaves: QUIET keeps a success to the record (R175). DESIGN CHOICE: its record holds no reply,
so a repeat of it is answered nothing. `newer` are the requests executed after it whose replies wait behind it. -/
def State.leave (s : State) (p : Nat) (r : RSlot) (newer : List RSlot) : State :=
  if r.quiet && r.status < 0x100 then s
  else
    let n := (newer.filter (fun x => x.seq == r.seq && x.crc == r.crc)).length
    let s1 := s.updPort p (fun x => { x with last := fillLast r.seq r.crc n r.pkt x.last })
    let s2 := if r.status = 0x0303 then s1.incPf (portStat p) 24 8 else s1
    s2.pushOut p r.pkt

/-- Replies leave in execution order, up to the first that still waits (R171). -/
def State.flushList (s : State) (p : Nat) : List RSlot → State
  | [] => s.updPort p (fun x => { x with slots := [] })
  | r :: l => if r.wait.isSome then s.updPort p (fun x => { x with slots := r :: l }) else (s.leave p r l).flushList p l

/-- Sending what may leave a port. -/
def State.flush (s : State) (p : Nat) : State := s.flushList p (s.port p).slots

/-- The list less all but its last `n` entries. -/
def lastN {α : Type} (n : Nat) (l : List α) : List α := l.drop (l.length - n)

/-- The opcodes whose replies leave after the set instant (R169, R170). -/
def outputOp (op : Nat) : Bool := 0x20 ≤ op && op ≤ 0x26

/-- A request has executed: its reply takes its place, and the request is recorded for R173. The reply to an output opcode that
lodged nothing, a refused one too, waits for the set instant like the others (R170): kind 255 settles with its own status. -/
def State.answer (s : State) (op : Nat) (r : Req) (status : Nat) (payload : List Byte) (wait : Option Await) : State :=
  let bare := wait.isNone && outputOp op
  let slot : RSlot :=
    { op := op, seq := r.seq, crc := r.crc, quiet := bit r.flags 0, status := status, tick := s.tick32,
      payload := payload, iface := r.iface, ip := r.ip, udp := r.udp,
      wait := if bare then some ⟨255, 0, s.cmd.lodge, status⟩ else wait }
  (((if bare then s.mapCmd (fun m => { m with lodge := m.lodge + 1 }) else s).updPort r.port (fun x => { x with
    slots := x.slots ++ [slot], last := lastN 8 (x.last ++ [(r.seq, r.crc, none)]) })).flush r.port)

/-- A waiting reply is settled: status and payload, and it may leave. Its TICK stays that of its execution (R169). -/
def State.settleReply (s : State) (p lodge status : Nat) (payload : List Byte) : State :=
  (s.updPort p (fun x => { x with slots := x.slots.map (fun r =>
    match r.wait with
    | some w => if w.lodge = lodge then { r with status := status, payload := payload, wait := none } else r
    | none => r) })).flush p

/-- Whether a port serves (R77, R188, R827; CMD.PORTEN). -/
def State.portServes (s : State) (p : Nat) : Bool :=
  let en := s.pb 0x0400 p
  match s.sys.phase with
  | .kindling => if p = 0 ∨ p = 3 then s.sys.rom else s.sys.image.isSome && en
  | .lit => en
  | .doused => en
  | _ => false

/-- A reply to a failed check at receipt (R165): the tick in progress and an empty payload. -/
def State.refuse (s : State) (p iface ip udp op seq status : Nat) : State :=
  s.pushOut p ⟨0, iface, ip, udp, replyBytes op seq status s.tick32 []⟩

/-- The opcodes whose requests must be signed (R197). -/
def signedOps : List Nat := [0x42, 0x43, 0x44, 0x46, 0x47]

/-- A request takes its place in the queue: in order of receipt, and of CMD.RANK within one clock cycle (R168). -/
def State.place (s : State) (q : QItem) : List QItem → List QItem
  | [] => [q]
  | x :: l => if x.cycle = q.cycle ∧ x.due = false ∧ s.rankOf q.req.port < s.rankOf x.req.port then q :: x :: l
    else x :: s.place q l

/-- Whether a received request is a well-formed WDG_ANSWER that starts the next period (R290, R292). -/
def State.startsPeriod (s : State) (op : Nat) (r : Req) : Bool :=
  op == 0x70 && r.payload.length == 2 && r.flags < 2 && r.rsv == 0 && r.handle == 0 && s.wdgStarts (leAt r.payload 0 2) r.wdg

/-- A received request that waits for its execution. A WDG_ANSWER acts on the watchdog as it arrives (R290, R291), and counts as
received until it is judged (R846). -/
def State.enqueue (s : State) (op : Nat) (r : Req) : State :=
  let v := if signedOps.contains op && bit r.flags 1 then 1 else 0
  let h := s.startsPeriod op r
  let q : QItem := ⟨op, r, false, v, s.cmd.cycle, false, false, if h then some (s.pf 0x0703 0 16) else none⟩
  let s1 := s.mapCmd (fun m => { m with queue := s.place q m.queue })
  if h then s1.wdgStep.wdgPeriod else s1

/-- The clock cycle of a receipt: that of the receipt before it, or a later one (R164, R168). -/
def State.received (s : State) (same : Bool) : State :=
  if same then s else s.mapCmd (fun m => { m with cycle := m.cycle + 1 })

/-- Receipt of the bytes of one packet (R160, R161, R164 to R166, R173). `more` allows bytes after the request (R184). DESIGN
CHOICE: a repeat of a request that has executed and whose reply still waits is dropped, since its reply is on its way. -/
def State.receive (s : State) (p : Nat) (l : List Byte) (more : Bool) (iface ip udp : Nat) : State :=
  if l.length < 4 ∨ leAt l 0 1 ≠ 0xF1 then s.incPf (portStat p) 0 8
  else
    let op := leAt l 1 1
    let seq := leAt l 2 2
    let len := leAt l 4 2
    let n := 16 + len
    if l.length < 6 ∨ 4096 < len ∨ l.length < n ∨ (more = false ∧ l.length ≠ n) then
      s.refuse p iface ip udp op seq 0x0102
    else
      let crc := leAt l (12 + len) 4
      if crc32c (l.take (12 + len)) ≠ crc then (s.incPf (portStat p) 0 8).refuse p iface ip udp op seq 0x0100
      else match (s.port p).last.find? (fun e => e.1 == seq && e.2.1 == crc) with
        | some e => match e.2.2 with
          | some k => s.pushOut p { k with iface := iface, ip := ip, udp := udp }
          | none => s
        | none =>
          if 64 ≤ (s.cmd.queue.filter (fun q => q.req.port == p)).length then
            ((s.raise 50 []).incPf (portStat p) 8 8).refuse p iface ip udp op seq 0x0204
          else s.enqueue op
            { port := p, seq := seq, flags := leAt l 6 1, rsv := leAt l 7 1, handle := leAt l 8 4,
              payload := (l.drop 12).take len, crc := crc, tick := s.tick32, iface := iface, ip := ip, udp := udp,
              wdg := s.wdgSnap p }

/-- The oldest outbound packet goes; `n` bytes were clocked, of which it needed all (R186, R196). -/
def State.shiftOut (s : State) (p n : Nat) : List Byte × State :=
  match (s.port p).out with
  | [] => (zeros n, s)
  | k :: r =>
    (padTo 0#8 n k.bytes, if k.bytes.length ≤ n then s.updPort p (fun x => { x with out := r }) else s)

/-- RDY_N is low (R187). -/
def State.rdyN (s : State) : Bool := !(s.port 0).out.isEmpty

/-- SPI_FRAME (R168, R183 to R187): the bytes on SDI, the bytes clocked, and whether a request on it is received in the clock
cycle of the receipt before. The packet that waits at the first clock shifts out. -/
def execSpiFrame (sdi : List Byte) (clocked : Nat) (same : Bool) (s : State) : Host.Outcome State Fault Refusal :=
  done (
    let n := Nat.max clocked sdi.length
    let o := if s.portServes 0 then s.shiftOut 0 n else (zeros n, s)
    let s1 := o.2.mapSent (fun t => { t with sdo := o.1 })
    if !s.portServes 0 then s1
    else match sdi with
      | [] => s1
      | b :: _ => if b = 0#8 then s1 else (s1.received same).receive 0 sdi true 0 0 0)

/-- ETH_DATAGRAM (R168, R188, R190, R191). -/
def execEthDatagram (iface ip udp : Nat) (data : List Byte) (same : Bool) (s : State) : Host.Outcome State Fault Refusal :=
  done (if iface < 2 && s.portServes 1 && s.pb (0x3018 + 8 * iface) 0 && data.length ≤ 4112 then
    (s.received same).receive 1 data false iface ip udp else s)

/-- CAN_MESSAGE (R168, R192 to R195): a message on another controller or identifier is none of the port's. `ident` is laid out
as CMD.CANRXID. Bytes that are not the last of their message are kept; what the message's frames call for leaves as flow control. -/
def execCanMessage (ctrl ident : Nat) (data : List Byte) (last same : Bool) (s : State) : Host.Outcome State Fault Refusal :=
  done (if ctrl = s.pf 0x0402 0 2 ∧ canIdent ident = canIdent (s.p 0x0403) ∧ s.portServes 2 = true ∧ s.pb (0x3010 + 2 * ctrl) 0 = true then
    let l := s.net.canRx ++ data
    let old := if s.net.canRx.isEmpty then 0 else s.flowCount s.net.canRx.length false
    let s1 := s.flowSend (s.flowCount l.length last - old)
    if last then ((s1.mapNet (fun n => { n with canRx := [] })).received same).receive 2 l false ctrl 0 0
    else s1.mapNet (fun n => { n with canRx := l })
  else s)

/-- CAN_ISOTP_TIMEOUT (R195): of the port's controller, N_Cr has passed for the inbound message, or N_Bs for the outbound one, which
is abandoned; no reply is sent. -/
def execCanIsotpTimeout (ctrl : Nat) (inbound : Bool) (s : State) : Host.Outcome State Fault Refusal :=
  done (if ctrl = s.pf 0x0402 0 2 then
    (if inbound then s.mapNet (fun n => { n with canRx := [] }) else (s.mapNet (fun n => { n with canTx := none })).canDrain)
  else s)

end Sys2Proof.Machine
end

