-- ==== Sys2Proof/Machine/Handles.lean ====
section
/-! DEFINITION. Handles, their slots, generators and pins (R212 to R251, R843). -/

namespace Sys2Proof.Machine

/-- The generation of a slot (R218, R220). -/
def State.genOf (s : State) (i : Nat) : Nat := (s.hdl.base + (s.slot i).closes) % 1024

/-- The handle of a slot (R212). -/
def State.handleOf (s : State) (i : Nat) : Nat := (s.slot i).cls * 2 ^ 26 + s.genOf i * 2 ^ 16 + i

/-- The slot of a current handle (R213). -/
def State.current (s : State) (h : Nat) : Option Nat :=
  let i := h % 2 ^ 16
  if i < 2048 ∧ (s.slot i).isOpen = true ∧ s.handleOf i = h then some i else none

/-- The lowest free slot (R217), among `n` from `i`. -/
def State.freeFrom (s : State) : Nat → Nat → Option Nat
  | 0, _ => none
  | n + 1, i => if (s.slot i).isOpen then s.freeFrom n (i + 1) else some i

/-- The open slots. -/
def State.openSlots (s : State) : List (Nat × HSlot) := s.hdl.slots.filter (fun e => e.2.isOpen)

/-- How many handles are open (HDL.COUNT.OPEN). -/
def State.openCount (s : State) : Nat := s.openSlots.length

/-- An open writer of the resource, or one whose role frees at the end of this tick (R222, R250). -/
def State.hasWriter (s : State) (cls res : Nat) : Bool :=
  s.openSlots.any (fun e => e.2.cls == cls && e.2.res == res && e.2.writer) ||
    s.hdl.leaving.any (fun e => e.1 == cls && e.2 == res)

/-- The open writer's slot of a resource. -/
def State.writerOf (s : State) (cls res : Nat) : Option Nat :=
  (s.openSlots.find? (fun e => e.2.cls == cls && e.2.res == res && e.2.writer)).map (·.1)

/-- The worker key of a worker resource (R229). -/
def resW (res : Nat) : Nat := wKey (res / 2 ^ 24) (res / 2 ^ 16 % 256)
/-- The item of a worker resource. -/
def resItem (res : Nat) : Nat := res % 2 ^ 16

/-- The roles of a class (R229): 0 none, 1 writer or reader, 2 writer only, 3 reader only, 4 holder. -/
def classRole (c : Nat) : Nat :=
  if [1, 3, 4, 5, 6, 9, 0x0A, 0x0B, 0x13].contains c then 1
  else if [8, 0x0E, 0x0F, 0x12].contains c then 2
  else if [7, 0x0C, 0x0D, 0x10, 0x14, 0x15].contains c then 3
  else if c = 2 then 4 else 0

/-- Whether a worker resource names an enumerated worker: any, a cell worker, or a meter worker, with an item below a
bound. -/
def State.wkRes (s : State) (res items : Nat) (meter : Option Bool) : Bool :=
  let v := s.view (resW res)
  res / 2 ^ 24 < 4 && res / 2 ^ 16 % 256 < 64 && v.here && resItem res < items &&
    (match meter with
      | none => true
      | some m => v.meter == m)

/-- Whether a resource exists (check 3 of R231). -/
def State.resExists (s : State) (c res : Nat) : Bool :=
  match c with
  | 0x01 => res < 40
  | 0x02 => res < 16 || res == 0xFFFFFFFF
  | 0x03 => res < 24
  | 0x04 => res < 32
  | 0x05 => res < 8
  | 0x06 => res < 4
  | 0x07 => res < 64
  | 0x08 => res < 16
  | 0x09 => s.wkRes res 1 (some false)
  | 0x0A => s.wkRes res 1 none
  | 0x0B => s.wkRes res 4 none
  | 0x0C => s.wkRes res 10 none
  | 0x0D => s.wkRes res 4 (some true)
  | 0x0E => s.wkRes res 1 (some false)
  | 0x0F => s.wkRes res 1 none
  | 0x10 => res < 8
  | 0x12 => res == 0
  | 0x13 => res < 4
  | 0x14 => res / 2 ^ 16 % 256 == 0 &&
      ((res / 2 ^ 24 < 4 && res % 2 ^ 16 < 64) || ((res / 2 ^ 24 == 4 || res / 2 ^ 24 == 5) && res % 2 ^ 16 < 16))
  | 0x15 => res < 6
  | _ => false

/-- Whether the class data has the class's length (R843). -/
def dataFits (c n : Nat) : Bool :=
  match c with
  | 0x01 => n == 0 || n == 4
  | 0x05 => n == 0 || n == 4
  | 0x02 => n == 4
  | 0x12 => n == 4
  | 0x13 => n == 4
  | 0x0E => n == 44
  | 0x0F => n == 12
  | _ => n == 0

/-- The IMPRUN class data is in range for the worker (R419, R420). -/
def State.impFits (s : State) (w : Nat) (d : List Byte) : Bool :=
  let pts := leAt d 0 1
  let amp := leAt d 2 2
  let cells := leAt d 4 3
  let cyc := leAt d 7 1
  let mr := leAt d 8 1
  let ma := leAt d 9 1
  let f (k : Nat) := leAt d (12 + 2 * k) 2
  1 ≤ pts && pts ≤ 16 && leAt d 1 1 ≤ 1 && 50 ≤ amp && amp ≤ 300 &&
  cells != 0 && cells < 2 ^ (fld (s.wkParam w 0x08) 0 5) && 1 ≤ cyc && cyc ≤ 16 && leAt d 10 2 == 0 &&
  (if ma = 0 then mr == 0 else mr < 4 && ma < 64 && (s.view (wKey mr ma)).here && (s.view (wKey mr ma)).meter) &&
  (List.range 16).all (fun k =>
    if k < pts then 5 ≤ f k && f k ≤ 20000 && (cyc + 1) * 10 ≤ 34 * f k else f k == 0)

/-- The FLARE class data is in range (R437). -/
def flrFits (d : List Byte) : Bool :=
  let mode := leAt d 0 1
  let rate := leAt d 1 1
  mode ≤ 1 && rate ≤ 1 && leAt d 2 2 == 0 && leAt d 10 2 == 0 &&
    (mode == 1 || (rate == 0 && leAt d 4 4 == 0 && leAt d 8 2 == 0))

/-- The stream units in use (R452). -/
def State.streamUsed (s : State) : Nat :=
  ((s.openSlots.filter (fun e => e.2.cls == 0x0F)).map (fun e =>
    if leAt e.2.cdata 0 1 = 1 then (if leAt e.2.cdata 1 1 = 1 then 1 else 2) else 0)).foldl (· + ·) 0

/-- Whether a period is one the class takes (R235, R236, R579, R624). -/
def State.periodFits (s : State) (c res ns : Nat) : Bool :=
  let inR := 40000 ≤ ns && ns ≤ 10000000
  match c with
  | 0x01 => ns == 0 || (inR && res < 24 && !s.isCon res)
  | 0x05 => ns == 0 || (inR && ns ≤ 1000000)
  | _ => inR

/-- Whether the class data's values are in range (check 4 of R231). -/
def State.dataRange (s : State) (c res : Nat) (d : List Byte) : Bool :=
  match c with
  | 0x01 => s.periodFits 1 res (leAt d 0 4)
  | 0x02 => s.periodFits 2 res (leAt d 0 4)
  | 0x05 => s.periodFits 5 res (leAt d 0 4)
  | 0x12 => s.periodFits 0x12 res (leAt d 0 4)
  | 0x13 => leAt d 0 2 + leAt d 2 2 ≤ 4096
  | 0x0E => s.impFits (resW res) d
  | 0x0F => flrFits d
  | _ => true

/-- Whether a generator runs (R232). -/
def State.pgRuns (s : State) (g : Nat) : Bool := (s.pg g).period != 0

/-- Whether a closed writer's resource is still bound to generator `g` (R224, R232): a switch or a bridge that a new writer
has bound is that writer's consumer. -/
def State.actHolds (s : State) (g : Nat) (a : CloseAct) : Bool :=
  a.pg == some g && (a.cls == 0x12 ||
    !s.openSlots.any (fun e => e.2.cls == a.cls && e.2.res == a.res && e.2.writer && e.2.pg.isSome))

/-- The holders of a generator (R224, R232, HDL.PGSTAT.HOLDERS): a consumer whose writer has closed leaves at the set instant
that takes it to its closed state. -/
def State.pgHolders (s : State) (g : Nat) : Nat :=
  (s.openSlots.filter (fun e => e.2.pg == some g)).length + (s.hdl.acts.filter (s.actHolds g)).length +
    (s.out.hs.filter (fun e => e.2.econPg == some g)).length

/-- An economiser claim is among them. -/
def State.pgEcon (s : State) (g : Nat) : Bool := s.out.hs.any (fun e => e.2.econPg == some g)

/-- The generator a claim at a period gets (R233): the lowest running at exactly that period, else the lowest free. -/
def State.pgFor (s : State) (ns : Nat) : Option Nat :=
  match (List.range 16).find? (fun g => (s.pg g).period == ns) with
  | some g => some g
  | none => (List.range 16).find? (fun g => !s.pgRuns g)

/-- Claiming: a free generator takes the period, and counts from the clock after this tick's set instant (R557). -/
def State.pgClaim (s : State) (g ns : Nat) : State :=
  if s.pgRuns g then s
  else (s.updPg g (fun _ => { period := ns, counting := false })).setP (0x2100 + 2 * g) 0

/-- Generators without holders end with their tick (R232). -/
def State.pgFree (s : State) : State :=
  s.each ((List.range 16).filter (fun g => s.pgRuns g && s.pgHolders g == 0)) (fun t g => t.updPg g (fun _ => PgCh.d))

/-- Whether the pin of DIN `n` is sensed continuously under FORCE_CONTINUOUS (R245). -/
def State.forced (s : State) (n : Nat) : Bool := s.swForced (48 + n)

/-- Binding a switch to a generator, or freeing it: its duty says whether it was on, its values come from the generator's
first reload after the set instant (R238, R549). -/
def State.hsBind (s : State) (n : Nat) (g : Option Nat) : State :=
  match g with
  | some k =>
    let s1 := if s.hsBound n then s
      else
        let d := if (s.hs n).cmdOn then 0xFFFF else 0
        ((s.setP (hsPwm n) d).setP (hsPwmSh n) d).updHs n (fun c => { c with rise := 0, ago := 0, carry := 0 })
    ((s1.setPf (hsPwmStat n) 16 4 k).setPb (hsPwmStat n) 20 true).updHs n (fun c => { c with movePg := some (some k) })
  | none =>
    let on := if s.hsBound n then s.pf (hsPwmSh n) 0 16 != 0 else (s.hs n).cmdOn
    ((((s.setPf (hsPwmStat n) 16 4 0).setPb (hsPwmStat n) 20 false).setPb (hsPwmStat n) 21 false).updHs n
      (fun c => { c with cmdOn := on, movePg := none })).hsDrive n

/-- A bridge's generator changes: the duty of its first reload after the set instant (R238, R625). -/
def State.hbBind (s : State) (b : Nat) (g : Option Nat) : State :=
  s.updHb b (fun h => { h with movePg := some g, dutySh := s.pf (0x2402 + 8 * b) 0 16 })

/-- A refusal of OPEN, BIND, IMP_START or FLARE_ARM is counted (R251). -/
def State.conflict (s : State) (status : Nat) : State :=
  match status with
  | 0x0203 => s.incPf 0x0503 0 8
  | 0x0202 => s.incPf 0x0503 8 8
  | 0x0206 => s.incPf 0x0503 16 8
  | _ => s

/-- What OPEN answers (R231): the first failed check's status, or 0. `src` is the opener. -/
def State.openCheck (s : State) (src c fl res : Nat) (d : List Byte) : Nat :=
  let role := classRole c
  let wr := role = 2 ∨ (role = 1 ∧ bit fl 0 = true)
  let ns := leAt d 0 4
  let n := res % 64
  if role = 0 ∨ (c = 0x12 ∧ src < 4) then 0x0103
  else if (bit fl 0 = true ∧ role ≠ 1 ∧ role ≠ 2) ∨ (bit fl 1 = true ∧ ¬wr) ∨ (bit fl 2 = true ∧ c ≠ 7 ∧ c ≠ 8) ∨ 8 ≤ fl then
    0x0103
  else if s.resExists c res = false then 0x0103
  else if dataFits c d.length = false then 0x0102
  else if s.dataRange c res d = false then 0x0103
  else if (s.freeFrom 2048 0).isNone then 0x0202
  else if wr ∧ c ≠ 0x12 ∧ (s.hasWriter c res = true ∨ (c = 8 ∧ s.hasWriter 1 (24 + res) = true) ∨
      (c = 1 ∧ 24 ≤ res ∧ s.hasWriter 8 (res - 24) = true)) then 0x0203
  else if c = 8 ∧ s.pf (swiCfg (48 + n)) 0 2 = 1 ∧ bit fl 2 = false ∧ s.forced n = false ∧
      s.openSlots.any (fun e => e.2.cls == 7 && e.2.res == 48 + n) = true then 0x0203
  else if c = 7 ∧ 48 ≤ n ∧ s.pf (swiCfg n) 0 2 = 1 ∧ bit fl 2 = false ∧ s.forced (n - 48) = false ∧
      s.dinOpen (n - 48) = true then 0x0203
  else if (c = 1 ∨ c = 5 ∨ c = 0x12) ∧ ns ≠ 0 ∧ (s.pgFor ns).isNone = true then 0x0202
  else if c = 2 ∧ res = 0xFFFFFFFF ∧ (s.pgFor ns).isNone = true then 0x0202
  else if c = 2 ∧ res ≠ 0xFFFFFFFF ∧ s.pgRuns res = true ∧ (s.pg res).period ≠ ns then 0x0202
  else if c = 0x0F ∧ leAt d 0 1 = 1 ∧ 378 < s.streamUsed + (if leAt d 1 1 = 1 then 1 else 2) then 0x0202
  else 0

/-- The generator an accepted OPEN takes. -/
def State.openPg (s : State) (c res ns : Nat) : Option Nat :=
  match c with
  | 0x02 => if res = 0xFFFFFFFF then s.pgFor ns else some res
  | 0x01 => if ns = 0 then none else s.pgFor ns
  | 0x05 => if ns = 0 then none else s.pgFor ns
  | 0x12 => s.pgFor ns
  | _ => none

/-- What an accepted OPEN does beside its slot: binding, follow mode (R241), and the flare's mode (R437). In Doused a channel whose
Doused setting is not FREE keeps its Doused value and does not follow (R270). DEDUCED: the channel follows from the first level that has
stood for HS.FOLLOW.FILT (log 198). -/
def State.openEffect (s : State) (i c res : Nat) (wr : Bool) (g : Option Nat) (d : List Byte) : State :=
  match c with
  | 0x01 => if wr && g.isSome then s.hsBind res g else s
  | 0x05 => if wr && g.isSome then s.hbBind res g else s
  | 0x08 =>
    ((s.setPb (hsStat (24 + res)) 6 true).updHs (24 + res) (fun h =>
      { h with follow := none, unfollow := s.dousedHolds 1 (24 + res) })).hsDrive (24 + res)
  | 0x0F =>
    let w := resW res
    let udp := if leAt d 8 2 = 0 then 50742 else leAt d 8 2
    let fm : FlrMgr := { w := w, mode := leAt d 0 1, rate := leAt d 1 1, ip := leAt d 4 4, udp := udp, st := 0, trig := [],
                         tick := 0, offset := 0, read := false, seq := 0, gap := false, idx := none }
    (s.mapFlue (fun f => { f with flares := Tbl.set f.flares i fm })).toWorker w 0x30 (leAt d 0 1 + 2 * leAt d 1 1)
  | _ => s

/-- OPEN (R216 to R244): the status, the handle, and the state after. -/
def State.openH (s : State) (src c fl res : Nat) (d : List Byte) : Nat × Nat × State :=
  let st := s.openCheck src c fl res d
  if st ≠ 0 then (st, 0, s.conflict st)
  else match s.freeFrom 2048 0 with
    | none => (0x0202, 0, s.conflict 0x0202)
    | some i =>
      let role := classRole c
      let wr := role == 2 || (role == 1 && bit fl 0)
      let ns := if c = 1 ∨ c = 2 ∨ c = 5 ∨ c = 0x12 then leAt d 0 4 else 0
      let g := s.openPg c res ns
      let s1 := match g with
        | some k => s.pgClaim k ns
        | none => s
      let s2 := s1.updSlot i (fun h =>
        { h with isOpen := true, cls := c, res := res, writer := wr, excl := bit fl 1, force := bit fl 2, opener := src,
                 period := ns, pg := g, bindH := 0, cdata := d,
                 mark := match g with | some k => s1.p (0x2100 + 2 * k) | none => 0 })
      let s3 := s2.setPf 0x0500 16 12 (Nat.max (s2.pf 0x0500 16 12) s2.openCount)
      (0, s3.handleOf i, s3.openEffect i c res wr g d)

/-- CLOSE of an open slot (R218, R224, R225, R250): a writer's role leaves with the tick, and its resource takes its closed
state at the next tick's set instant. -/
def State.closeSlot (s : State) (i : Nat) : State :=
  let h := s.slot i
  if !h.isOpen then s
  else
    let s1 := s.updSlot i (fun x => { HSlot.d with closes := (x.closes + 1) % 1024 })
    s1.mapHdl (fun t => { t with
      leaving := if h.writer then t.leaving ++ [(h.cls, h.res)] else t.leaving
      acts := if h.writer then t.acts ++ [⟨h.cls, h.res, 0, h.pg, i⟩] else t.acts
      subs := Tbl.del t.subs i })

/-- BIND's status (R237), after the checks of R165. -/
def State.bindCheck (s : State) (i gh : Nat) : Nat :=
  let h := s.slot i
  if h.cls ≠ 1 ∧ h.cls ≠ 5 then 0x0201
  else if h.writer = false then 0x0205
  else if h.cls = 1 ∧ (24 ≤ h.res ∨ s.isCon h.res = true) then 0x0103
  else if gh = 0 then 0
  else match s.current gh with
    | none => 0x0200
    | some j =>
      let g := s.slot j
      if g.cls ≠ 2 then 0x0201
      else if h.period ≠ 0 ∧ h.period ≠ g.period then 0x0103
      else if s.periodFits h.cls h.res g.period = false then 0x0103
      else 0

/-- An accepted BIND (R237, R238). -/
def State.bindTo (s : State) (i gh : Nat) : State :=
  let g := if gh = 0 then none else (s.current gh).bind (fun j => (s.slot j).pg)
  let h := s.slot i
  let s1 := s.updSlot i (fun x => { x with pg := g, bindH := gh })
  if h.cls = 1 then s1.hsBind h.res g else s1.hbBind h.res g

/-- Whether a resource has an open writer whose handle holds a generator, if `bound` asks for one. -/
def State.writtenBy (s : State) (cls res : Nat) (bound : Bool) : Bool :=
  s.openSlots.any (fun e => e.2.cls == cls && e.2.res == res && e.2.writer && (!bound || e.2.pg.isSome))

/-- The closed state of a writer's resource (R224). DESIGN CHOICE: where a new writer has opened in the tick after the CLOSE,
the resource goes off as R224 says, and keeps what that OPEN has given it: its binding (R233) and follow mode (R241). -/
def State.closed' (s : State) (cls res : Nat) : State :=
  match cls with
  | 0x01 => if s.writtenBy 1 res true then s.hsOff res else ((s.hsOff res).hsBind res none).hsSet res false
  | 0x03 => s.vlvDrop res s.setNow
  | 0x04 => s.ledApply ⟨4, res, 8, 0, false, 0, 0, 0, 0⟩
  | 0x05 => if s.writtenBy 5 res true then s.hbAbort res else (s.hbAbort res).hbBind res none
  | 0x06 => s.motCoast res
  | 0x08 =>
    let n := 24 + res
    if s.writtenBy 8 res false then s.hsOff n
    else (((s.setPb (hsStat n) 6 false).updHs n (fun h => { h with follow := none, unfollow := false })).hsOff n)
  | 0x0B => s.stnToSafe (resW res) (resItem res)
  | _ => s

end Sys2Proof.Machine
end

