-- ==== Sys2Proof/Machine/Capture.lean ====
section
/-! DEFINITION. Impedance runs and flares, on the worker and at the manager (R419 to R454, R246 to R249, R314 to R317). -/

namespace Sys2Proof.Machine

/-- Byte `i` of little-endian words. -/
def wordByte (l : List Nat) (i : Nat) : Nat := fld (nth 0 l (i / 4)) (8 * (i % 4)) 8

/-- IMP_DATA (R315). -/
def execImpData (w : Nat) (h : WHdr) (index : Nat) (value : Word) (s : State) : Host.Outcome State Fault Refusal :=
  done (s.wkCommand w h index value 1 (fun _ => 0x20 ≤ index && index < 0x2B) (fun k => k.stage index value.toNat))

/-- IMP_START_COMMAND (R315, R422). -/
def execImpStartCommand (w : Nat) (h : WHdr) (value : Word) (s : State) : Host.Outcome State Fault Refusal :=
  done (s.wkCommand w h 0x2B value 1 (fun k => k.hasStaged 0x20 11) (fun k => k.commit 0x2B value.toNat 0x20 11))

/-- An impedance point frame (R450). -/
def impFrame (m : WkImp) (status valid : Nat) (z : List (Int × Int)) : List Byte :=
  le 1 2 ++ zeros 1 ++ le 2 m.slot ++ le 1 m.point ++ le 1 status ++ le 1 (Nat.min m.repeats 2) ++ zeros 1 ++
    le 4 valid ++ le 4 m.tick ++ le 2 (fld (nth 0 m.words (3 + m.point / 2)) (16 * (m.point % 2)) 16) ++ zeros 2 ++
    (padTo (0, 0) 24 z).flatMap (fun e => sle 4 e.1 ++ sle 4 e.2)

/-- IMP_STOP (R247, R434, R436, R454): the run ends, and the frame of a running point follows in the next tick. The raw record
ends too: FLARE_ARM, CLOSE and sleep entry, which send it, all end that record. -/
def execImpStop (w : Nat) (h : WHdr) (value : Word) (s : State) : Host.Outcome State Fault Refusal :=
  done (s.wkCommand w h 0x2C value 1 (fun _ => value.toNat = 1 || value.toNat = 2) (fun k =>
    match k.imp with
    | some m => { k with imp := none, raw := [], rawTick := 0,
                         out := if m.running then k.out ++ [(8, impFrame m (value.toNat + 1) 0 [])] else k.out }
    | none => { k with raw := [], rawTick := 0 }))

/-- IMP_RESTART (R429): a point that does not run has nothing to abandon. -/
def execImpRestart (w : Nat) (h : WHdr) (value : Word) (s : State) : Host.Outcome State Fault Refusal :=
  done (s.wkCommand w h 0x2D value 1 (fun _ => value.toNat < 16) (fun k =>
    match k.imp with
    | some m => if m.running && m.point == value.toNat then
        { k with imp := some { m with running := false, repeats := m.repeats + 1 } } else k
    | none => k))

/-- FLR_MODE (R437). -/
def execFlrMode (w : Nat) (h : WHdr) (value : Word) (s : State) : Host.Outcome State Fault Refusal :=
  done (s.wkCommand w h 0x30 value 0 (fun _ => true) (fun k =>
    { k with flare := { k.flare with mode := fld value.toNat 0 1, rate := fld value.toNat 1 1 } }))

/-- FLR_TRIG (R315, R438). -/
def execFlrTrig (w : Nat) (h : WHdr) (index : Nat) (value : Word) (s : State) : Host.Outcome State Fault Refusal :=
  done (s.wkCommand w h index value 0 (fun _ => 0x31 ≤ index && index < 0x35) (fun k => k.stage index value.toNat))

/-- FLR_ARM (R315, R438). -/
def execFlrArm (w : Nat) (h : WHdr) (value : Word) (s : State) : Host.Outcome State Fault Refusal :=
  done (s.wkCommand w h 0x35 value 0 (fun k => k.hasStaged 0x31 4) (fun k => k.commit 0x35 value.toNat 0x31 4))

/-- FLR_TICK (R315). -/
def execFlrTick (w : Nat) (h : WHdr) (value : Word) (s : State) : Host.Outcome State Fault Refusal :=
  done (s.wkCommand w h 0x36 value 0 (fun _ => true) (fun k => k.stage 0x36 value.toNat))

/-- FLR_FIRE (R315, R439, R440). -/
def execFlrFire (w : Nat) (h : WHdr) (value : Word) (s : State) : Host.Outcome State Fault Refusal :=
  done (s.wkCommand w h 0x37 value 0 (fun k => k.hasStaged 0x36 1) (fun k => k.commit 0x37 value.toNat 0x36 1))

/-- FLR_RELEASE (R443, R446). -/
def execFlrRelease (w : Nat) (h : WHdr) (value : Word) (s : State) : Host.Outcome State Fault Refusal :=
  done (s.wkCommand w h 0x38 value 0 (fun _ => true) (fun k =>
    if k.flare.st = 3 then { k with flare := { k.flare with st := 0, rows := [], short := false, group := false } } else k))

/-- The phase of cell `c`'s excitation on the worker at address `a`, in degrees (R423). -/
def excitePhase (c a : Nat) : Nat := if (c + a) % 2 = 0 then 0 else 180

/-- The frequency of the point in progress, in 0.1 Hz (R419). -/
def WkImp.freq (m : WkImp) : Nat := fld (nth 0 m.words (3 + m.point / 2)) (16 * (m.point % 2)) 16

/-- The excitation peak AMP, in mA (R419). -/
def WkImp.amp (m : WkImp) : Nat := fld (nth 0 m.words 0) 16 16

/-- 2π scaled by 2^40. -/
def twoPi : Nat := 6908435304715

/-- One more term of the sine series at `y`, scaled by 2^40: the term's number, the term and the sum. -/
def sineTerm (y : Int) (p : Nat × Int × Int) : Nat × Int × Int :=
  let t := -(p.2.1 * y / 2 ^ 40 * y / 2 ^ 40) / (((2 * p.1 + 2) * (2 * p.1 + 3) : Nat) : Int)
  (p.1 + 1, t, p.2.2 + t)

/-- The sine of `n / d` turns, scaled by 2^40: its series about half a turn. -/
def sinTurn (n d : Nat) : Int :=
  let y : Int := ((n % d * twoPi / d : Nat) : Int) - ((twoPi / 2 : Nat) : Int)
  Neg.neg ((List.range 16).foldl (fun p _ => sineTerm y p) (0, y, y)).2.2

/-- The current drawn from cell `c` at conversion `j` of the running point, in µA: AMP/2 × (1 + sin(2πft + φ)), 0 from a cell
that is not excited (R423, R428). -/
def WkImp.draws (m : WkImp) (c j : Nat) : Int :=
  match m.drive.find? (fun e => e.1 == c) with
  | some e => 500 * (m.amp : Int) * (2 ^ 40 + sinTurn (m.freq * j + 1280000 * e.2 / 360) 1280000) / 2 ^ 40
  | none => 0

/-- IMP_POINT_START (R422, R423, R426 to R428): cells beside a suspect or open wire are not excited, and a routine test that has
begun starts anew at the end of the point (DEDUCED; log 190). -/
def execImpPointStart (w : Nat) (s : State) : Host.Outcome State Fault Refusal :=
  done (
    let k := s.wk w
    match k.imp with
    | some m =>
      if k.runs && !m.running then
        let cells := (bitsOf (nth 0 m.words 1) 24).map (· + 1)
        s.updWk w (fun k => { k with
          imp := some { m with running := true, tick := k.tick % 2 ^ 32,
                               drive := (cells.filter (fun c => !m.bad.contains c && !k.beside c)).map
                                 (fun c => (c, excitePhase c k.addr)) }
          rawTick := if m.point = 0 ∧ k.raw.isEmpty = true then k.tick else k.rawTick
          rt := 0, rtSrc := if k.rt = 0 then k.rtSrc else [], rtDue := k.rtDue || k.rt != 0 })
      else s
    | none => s)

/-- A cell's impedance from demodulated nV and µA, in µΩ (R424): none where the amplitude is out of its range (R425). -/
def impZ (n amp : Nat) (v i : Int × Int) : Option (Int × Int) :=
  let q := i.1 * i.1 + i.2 * i.2
  let a := (amp : Int)
  if q < (400 * a) * (400 * a) ∨ (600 * a) * (600 * a) < q ∨ q = 0 then none
  else some (clampS 32 (divFree n (1000 * (v.1 * i.1 + v.2 * i.2)) q),
             clampS 32 (divFree (n + 1) (1000 * (v.2 * i.1 - v.1 * i.2)) q))

/-- The conversions of a point: ⌈(CYCLES + 1) × 128,000 / f⌉ (R421). -/
def WkImp.convs (m : WkImp) : Nat := ((wordByte m.words 7 + 1) * 1280000 + m.freq - 1) / m.freq

/-- The conversions of one cycle, at least: those before the integrated cycles, and those of the last one (R421, R435). -/
def WkImp.cycle (m : WkImp) : Nat := (1280000 + m.freq - 1) / m.freq

/-- In phase and in quadrature against the sine of the excitation: 2/M times the sums over the `M` conversions from number `a`,
times `scale` (R424). Its rounding is free. -/
def demod (n freq a scale : Nat) (l : List Int) : Int × Int :=
  let sum (q : Nat) : Int := (l.zipIdx.map (fun e => e.1 * sinTurn (freq * (a + e.2) + q) 1280000)).foldl (· + ·) 0
  let d : Int := ((l.length * 2 ^ 40 : Nat) : Int)
  if l.isEmpty then (0, 0) else (divFree n (2 * scale * sum 0) d, divFree (n + 1) (2 * scale * sum 320000) d)

/-- The raw record of a point (R435): 256 conversions spread evenly over the last cycle, voltages in 100 µV and currents in
0.1 mA. DESIGN CHOICE: a sample between two conversions is the earlier one. -/
def rawRecord (n : Nat) (last : List (List (Int × Int))) : List (List Nat) :=
  (List.range 256).map (fun k =>
    let row := padTo (0, 0) 24 (nth [] last (k * last.length / 256))
    row.map (fun e => code100 n e.1) ++ row.map (fun e => code100 n e.2))

/-- IMP_POINT_END (R421, R424, R425, R428, R435, R450): the point's conversions, each the voltages in µV and the sensed currents
in µA by cell, are demodulated over the integrated cycles. DEDUCED: V counts as the drop that the drawn current causes, so
that a resistance is positive as in the example of the manual. -/
def execImpPointEnd (w : Nat) (conv : List (List (Int × Int))) (s : State) : Host.Outcome State Fault Refusal :=
  done (
    let k := s.wk w
    match k.imp with
    | some m =>
      if !(k.runs && m.running) then s
      else
        let n := s.free
        let win := (conv.take m.convs).drop m.cycle
        let on (c : Nat) : Bool := m.drive.any (fun e => e.1 == c)
        let dem (c scale : Nat) (f : Int × Int → Int) : Int × Int :=
          demod (n + 4 * c) m.freq m.cycle scale (win.map (fun r => f (nth (0, 0) r (c - 1))))
        let is := (List.range 26).map (fun c => if on c then dem c 1 (·.2) else (0, 0))
        let cur (c : Nat) : Int × Int := nth (0, 0) is c
        let wr (j : Nat) : Int := (k.p (0x20 + j) : Int)
        let cor (c : Nat) (v : Int) (f : Int × Int → Int) : Int :=
          v + wr c * (f (cur c) - f (cur (c + 1))) - wr (c - 1) * (f (cur (c - 1)) - f (cur c))
        let one (j : Nat) : Option (Int × Int) :=
          let c := j + 1
          if !on c || k.beside c then none
          else
            let v := dem c 1000 (·.1)
            impZ (n + 110 + 2 * j) m.amp (-(cor c v.1 (·.1)), -(cor c v.2 (·.2))) (cur c)
        let zs := (List.range 24).map one
        let flt := (List.range 24).filter (fun j => on (j + 1) && !k.beside (j + 1) && (nth none zs j).isNone)
        let valid := maskOf ((List.range 24).filter (fun j => (nth none zs j).isSome))
        let fr := impFrame m 0 valid (zs.map (fun z => z.getD (0, 0)))
        let last := wordByte m.words 0 ≤ m.point + 1
        let rawOn := bit (wordByte m.words 1) 0
        ({ s with free := n + 160 }).updWk w (fun k =>
          { (k.setP 0x10 (flt.foldl (fun a j => setFld a j 1 1) (k.p 0x10))) with
            imp := if last then none else some { m with point := m.point + 1, repeats := 0, running := false, drive := [] }
            raw := if rawOn then k.raw ++ rawRecord (n + 159) ((conv.take m.convs).drop (m.convs - m.cycle)) else k.raw
            out := k.out ++ [(8, fr)] })
    | none => s)

/-- Whether a conversion meets a worker's own trigger (R438, R439): `now` is its slots, and `ago` those 8 conversions earlier.
Slots 0 and 1 of a meter worker are signed, and the level with them. -/
def trigMet (meter : Bool) (trig now ago : List Nat) : Bool :=
  let sg (k : Nat) (v : Nat) : Int := if meter && k < 2 then ofTwos 16 v else (v % 65536 : Nat)
  let lev (k : Nat) : Int := sg k (nth 0 trig 1)
  let one (k : Nat) : Bool :=
    let a := sg k (nth 0 now k)
    match wordByte trig 0 with
    | 4 => decide (lev k < a)
    | 5 => decide (a < lev k)
    | 6 => decide (lev k < (a - sg k (nth 0 ago k)).natAbs)
    | _ => false
  let item := wordByte trig 1
  if item = 0xFF then (List.range 24).any one else item < 25 && one item

/-- A flare status frame without samples (R449). -/
def flareFrame (f : WkFlare) (flags : Nat) : List Byte :=
  le 1 1 ++ zeros 1 ++ le 2 0xFFFF ++ le 1 0 ++ le 1 (b2n f.short + 2 * b2n f.group + flags) ++ le 6 f.tick ++
    le 2 f.offset ++ le 2 0

/-- FLARE_TRIGGER (R439, R440, R449): a flare armed on a source of its own judges a conversion, `offset` conversions after the
sample instant of `tick`, against the one 8 earlier; the first that meets the trigger is its trigger sample. -/
def execFlareTrigger (w tick offset : Nat) (now ago : List Int) (s : State) : Host.Outcome State Fault Refusal :=
  done (
    let k := s.wk w
    let slots (l : List Int) : List Nat := flareSlots s.free k.meter l
    if k.runs && k.flare.st == 1 && trigMet k.meter k.flare.trig (slots now) (slots ago) then
      let f := { k.flare with st := 2, tick := tick % 2 ^ 48, offset := offset % 65536 }
      ((s.drawn.updWk w (fun k => { k with flare := f })).wkSend w k.toEnd 8 (flareFrame f 4))
    else s)

/-- The conversions of a tick at 128 kS/s. -/
def tickConvs (period : Nat) : Nat := periodUs period * 128 / 1000

/-- How many of a record's samples come before the arm (R442), which applied at the set instant of tick `arm` (R315), 0.83 T
after that tick's sample instant. -/
def WkFlare.before (f : WkFlare) (period : Nat) : Nat :=
  let c := tickConvs period
  Nat.min (f.arm * c + (83 * c + 99) / 100 + 10240 - (f.tick * c + f.offset)) 20480

/-- FLARE_COMPLETE (R441 to R443, R449): the record's samples are given from the first, and those from before the arm read
as 0. -/
def execFlareComplete (w : Nat) (rows : List (List Int)) (s : State) : Host.Outcome State Fault Refusal :=
  done (
    let k := s.wk w
    if k.runs && k.flare.st == 2 && k.flare.mode == 0 then
      let n := k.flare.before k.period
      let f := { k.flare with
        st := 3, short := n != 0
        rows := List.replicate n (List.replicate 25 0) ++ (rows.drop n).map (flareSlots s.free k.meter) }
      (s.drawn.updWk w (fun k => { k with flare := f })).wkSend w k.toEnd 8 (flareFrame f 8)
    else s)

/-- The frames that carry rows from sample `a` on, `per` to a frame (R449). -/
def captureFrames (per size record flags tick offset : Nat) : Nat → Nat → List (List Nat) → List (List Byte)
  | 0, _, _ => []
  | fuel + 1, a, rows =>
    if rows.isEmpty then []
    else
      let now := rows.take per
      (le 1 1 ++ zeros 1 ++ le 2 a ++ le 1 record ++ le 1 flags ++ le 6 tick ++ le 2 offset ++ le 2 now.length ++
        now.flatMap (fun r => (padTo 0 size r).flatMap (le 2))) ::
        captureFrames per size record flags tick offset fuel (a + per) (rows.drop per)

/-- READ_CAPTURE_RECORD (R317, R436, R446). -/
def execReadCaptureRecord (w : Nat) (h : WHdr) (index : Nat) (s : State) : Host.Outcome State Fault Refusal :=
  done (s.wkRead w h 3 0 index (fun t =>
    let k := t.wk w
    let f := k.flare
    if f.st = 3 then
      if 20480 ≤ index then t.wkAck w 4 h.seq 0x0103 0
      else
        let rows := (List.range (Nat.min 81 (20480 - index))).map (fun j => nth [] f.rows (index + j))
        t.each (captureFrames 9 25 0 (b2n f.short + 2 * b2n f.group) f.tick f.offset 9 index rows)
          (fun t b => t.wkSend w k.toEnd 8 b)
    else if k.raw.isEmpty then t.wkAck w 4 h.seq 0x0501 0
    else if k.raw.length ≤ index then t.wkAck w 4 h.seq 0x0103 0
    else t.each (captureFrames 5 48 1 0 k.rawTick 0 9 index ((k.raw.drop index).take 42))
      (fun t b => t.wkSend w k.toEnd 8 b)))

/-- Sending a list of worker commands in the next Apply. -/
def State.toWorkers (s : State) (w : Nat) (l : List (Nat × Nat)) : State := s.each l (fun t e => t.toWorker w e.1 e.2)

/-- Changing a run at the manager. -/
def State.updImp (s : State) (slot : Nat) (f : ImpMgr → ImpMgr) : State :=
  match Tbl.find s.flue.imps slot with
  | some m => s.mapFlue (fun x => { x with imps := Tbl.set x.imps slot (f m) })
  | none => s

/-- Changing a flare at the manager. -/
def State.updFlr (s : State) (slot : Nat) (f : FlrMgr → FlrMgr) : State :=
  match Tbl.find s.flue.flares slot with
  | some m => s.mapFlue (fun x => { x with flares := Tbl.set x.flares slot (f m) })
  | none => s

/-- A run ends (R431 to R434): the run status 0 to 3; the point in progress takes its status, and later points none. -/
def State.impFinish (s : State) (slot st : Nat) : State :=
  match Tbl.find s.flue.imps slot with
  | none => s
  | some m =>
    if m.status ≠ 0 then s
    else
      let freq := fld (nth 0 m.words (3 + m.cur / 2)) (16 * (m.cur % 2)) 16
      let pt : ImpPoint := ⟨st + 1, Nat.min m.repeats 2, 0, 0, freq, []⟩
      let s1 := s.updImp slot (fun m => { m with
        status := 1 + st, points := if st = 0 then m.points else Tbl.set m.points m.cur pt })
      s1.raise 18 (le 1 (wRing m.w) ++ le 1 (wAddr m.w) ++ le 1 m.done ++ le 1 st ++ le 2 (slot % 2048))

/-- The runs of a worker that are in progress, by slot. -/
def State.impRuns (s : State) (w : Nat) : List Nat :=
  (s.flue.imps.filter (fun e => e.2.w == w && e.2.status == 0)).map (·.1)

/-- IMP_START executed (R422, R431): a new run on the handle. -/
def State.impBegin (s : State) (slot : Nat) : State :=
  let h := s.slot slot
  let w := resW h.res
  let words := wordsOf (padTo 0#8 44 h.cdata)
  let m : ImpMgr := { w := w, words := words, status := 0, done := 0, cur := 0, repeats := 0, stepTick := none,
                      points := [] }
  (s.mapFlue (fun x => { x with imps := Tbl.set x.imps slot m })).toWorkers w
    ((words.zipIdx.map (fun e => (0x20 + e.2, e.1))) ++ [(0x2B, slot)])

/-- A current step seen at the primary current `i` of meter worker `w` against its value at the previous sample instant (R429,
R430): the points it spoils restart, at most twice. Steps of one sample instant on several meters are one step. -/
def State.impWatch (s : State) (w : Nat) (i : Int) : State :=
  match (s.view w).lastI with
  | none => s
  | some last =>
    if last.1 + 1 ≠ s.tick ∨ (i - last.2).natAbs ≤ s.pf 0x1300 0 16 then s
    else s.each (s.flue.imps.filter (fun e => e.2.status == 0 && e.2.stepTick != some s.tick &&
        (wordByte e.2.words 9 == 0 || wKey (wordByte e.2.words 8) (wordByte e.2.words 9) == w)))
      (fun t e =>
        let t1 := t.updImp e.1 (fun m => { m with repeats := if m.repeats < 2 then m.repeats + 1 else 3, stepTick := some s.tick })
        if e.2.repeats < 2 then t1.toWorker e.2.w 0x2D e.2.cur else t1)

/-- A worker's flare at the manager, with its key: one that records after its trigger before any other (R453). -/
def State.flrOf (s : State) (w : Nat) : Option (Nat × FlrMgr) :=
  (s.flue.flares.find? (fun e => e.2.w == w && e.2.st == 2)).orElse (fun _ => s.flue.flares.find? (fun e => e.2.w == w))

/-- The manager places a trigger sample (R439, R440). -/
def State.flrFire (s : State) (slot tick offset : Nat) : State :=
  match Tbl.find s.flue.flares slot with
  | none => s
  | some f =>
    if f.st ≠ 1 then s
    else (s.updFlr slot (fun f => { f with st := if f.mode = 1 then 4 else 2, tick := tick % 2 ^ 48, offset := offset })).toWorkers
      f.w [(0x36, tick % 2 ^ 32), (0x37, tick / 2 ^ 32 % 65536 + offset % 65536 * 65536)]

/-- The armed flares whose trigger satisfies the test. -/
def State.flrArmed (s : State) (f : FlrMgr → Bool) : List Nat :=
  (s.flue.flares.filter (fun e => e.2.st == 1 && f e.2)).map (·.1)

/-- The event, tick and group triggers that this Apply sends (R438 to R440). -/
def State.flrApply (s : State) : State :=
  let now := s.tick
  let src (f : FlrMgr) : Nat := wordByte f.trig 0
  let evs := s.evt.occ.map (·.ev)
  let s1 := s.each (s.flrArmed (fun f => src f == 2 && evs.contains (wordByte f.trig 1))) (fun t k => t.flrFire k now 0)
  let s2 := s1.each (s1.flrArmed (fun f => src f == 7 && nth 0 f.trig 2 + 2 ^ 32 * (nth 0 f.trig 3 % 65536) ≤ now))
    (fun t k => t.flrFire k (match Tbl.find t.flue.flares k with
      | some f => nth 0 f.trig 2 + 2 ^ 32 * (nth 0 f.trig 3 % 65536)
      | none => now) 0)
  let due := s2.flue.groups.filter (fun g => g.due ≤ now)
  let s3 := s2.each due (fun t g =>
    t.each (t.flrArmed (fun f => wordByte f.trig 2 == g.group)) (fun t k => t.flrFire k g.tick g.offset))
  s3.mapFlue (fun x => { x with groups := x.groups.filter (fun g => now < g.due) })

/-- Events that latched after this tick's Apply trigger the flares that name them (R438). -/
def State.flrLate (s : State) : State :=
  let evs := s.evt.occ.map (·.ev)
  s.each (s.flrArmed (fun f => wordByte f.trig 0 == 2 && evs.contains (wordByte f.trig 1))) (fun t k => t.flrFire k t.tick 0)

/-- An ALARM that names a tick triggers every flare armed on ALARM (R438). -/
def State.flrAlarm (s : State) (tick : Nat) : State :=
  s.each (s.flrArmed (fun f => wordByte f.trig 0 == 3)) (fun t k => t.flrFire k tick 0)

/-- DETAIL of EV19 and EV20 (R445). -/
def flrDetail (f : FlrMgr) : List Byte :=
  le 1 (wRing f.w) ++ le 1 (wAddr f.w) ++ le 1 (wordByte f.trig 0) ++ zeros 1 ++ le 6 f.tick

/-- FLARE_ARM executed on an open flare (R436, R438, R247): the run of a raw point is preempted first. DESIGN CHOICE: a raw run that is
in progress between two points, or before its first, is preempted too, where R247 names a running point (log 186). -/
def State.flrArm (s : State) (slot : Nat) (d : List Byte) : State :=
  match Tbl.find s.flue.flares slot with
  | none => s
  | some f =>
    let words := wordsOf d
    let src := leAt d 0 1
    let raw := s.flue.imps.filter (fun e => e.2.w == f.w && e.2.status == 0 && bit (wordByte e.2.words 1) 0)
    let s1 := s.each raw (fun t e => (((t.impFinish e.1 1).toWorker f.w 0x2C 1).raise 51 []).incPf 0x0503 16 8)
    let s2 := s1.toWorkers f.w ((words.zipIdx.map (fun e => (0x31 + e.2, e.1))) ++ [(0x35, 0)])
    if src = 0 then s2.updFlr slot (fun f => { f with trig := words, st := if f.st = 3 then 3 else 0 })
    else
      let s3 := s2.updFlr slot (fun f => { f with trig := words, st := 1, read := false, tick := 0, offset := 0, idx := none })
      if src = 1 then s3.flrFire slot s3.tick 0 else s3

/-- A reply of FLARE_READ is settled (R444, R446): the next sample is the one after those that came, 0 when the record is done.
Carrying sample 20,479 counts the record as read, and its release leaves in this Apply, or in the next one where this tick's is
over. -/
def State.flrSettle (s : State) (r : FRead) (status : Nat) : State :=
  let n := r.rows.length
  let size := if r.kind = 0 then 25 else 48
  let total := if r.kind = 0 then 20480 else match s.flue.imps.find? (fun e => e.2.w == r.w) with
    | some e => 256 * (wordByte e.2.words 0)
    | none => r.first + n
  let next := if total ≤ r.first + n ∨ n = 0 ∨ status ≠ 0 then 0 else r.first + n
  let pay := le 4 next ++ le 2 n ++ le 1 r.kind ++ le 1 r.flags ++ le 6 r.tick ++ le 2 r.offset ++
    r.rows.flatMap (fun x => (padTo 0 size x).flatMap (le 2))
  let s1 := s.mapFlue (fun x => { x with reads := x.reads.filter (fun e => e.lodge != r.lodge) })
  let s2 := s1.settleReply r.port r.lodge status (if status = 0x0500 ∨ status = 0x0103 then [] else pay)
  if status = 0 ∧ r.kind = 0 ∧ r.first + n = 20480 then
    match s2.flrOf r.w with
    | some e =>
      let t := s2.updFlr e.1 (fun f => { f with read := true, st := 0 })
      if t.sys.tph = 4 then t.sendWrite r.w 3 0x38 0 else t.toWorker r.w 0x38 0
    | none => s2
  else s2

/-- The samples a READ of kind 0x03 brings (R317): complete once as many are here as one READ brings, or the record's last.
DESIGN CHOICE: while none of its samples has come, and no ACK, the reply and those behind it on its port wait (R170, R171). -/
def State.flrSamples (s : State) (w first record flags tick offset : Nat) (rows : List (List Nat)) : State :=
  match s.flue.reads.find? (fun r => r.w == w && r.first + r.rows.length == first && r.rseq != 256) with
  | none => s
  | some r =>
    let r1 := { r with rows := r.rows ++ rows, kind := record, flags := flags % 4, tick := tick, offset := offset }
    let need := if record = 0 then Nat.min 81 (20480 - r.first) else 42
    let s1 := s.mapFlue (fun x => { x with reads := x.reads.map (fun e => if e.lodge = r.lodge then r1 else e) })
    if need ≤ r1.rows.length then s1.flrSettle r1 0 else s1

/-- A worker answers a READ of kind 0x03 within its tick (R317): as the next tick begins, what has come of a record that ended
there is all of it. -/
def State.flrLast (s : State) : State :=
  s.each (s.flue.reads.filter (fun r => r.rseq != 256 && !r.rows.isEmpty)) (fun t r => t.flrSettle r 0)

/-- Whether samples are missing between the last frame of a stream and one that begins at index `first` in this tick (R451): it goes
on in the same tick, or begins the tick after a whole one. -/
def State.streamGap (s : State) (f : FlrMgr) (first : Nat) : Bool :=
  match f.idx with
  | none => false
  | some e => !((e.1 == s.tick && e.2 == first) ||
      (e.1 + 1 == s.tick && first == 0 && e.2 == (tickConvs s.periodCode + f.rate) / (f.rate + 1)))

/-- A stream packet (R451), and its loss while the lane is down (R211). GAP tells of samples lost on the ring, or with a packet that
did not leave. -/
def State.streamOut (s : State) (slot : Nat) (f0 : FlrMgr) (first : Nat) (rows : List (List Nat)) : State :=
  let f := { f0 with gap := f0.gap || s.streamGap f0 first, idx := some (s.tick, first + rows.length) }
  if !s.ethUp 0 then s.updFlr slot (fun _ => { f with gap := true })
  else
    let now := rows.take 64
    let pay := le 2 first ++ le 2 now.length ++ now.flatMap (fun x => (padTo 0 25 x).flatMap (le 2))
    let b := withCrc (le 1 0xF4 ++ le 1 (wRing f.w) ++ le 2 f.seq ++ le 2 pay.length ++ le 1 (wAddr f.w) ++
      le 1 (f.rate + 2 * b2n f.gap) ++ le 4 s.tick32 ++ pay)
    (s.updFlr slot (fun _ => { f with seq := (f.seq + 1) % 65536, gap := false })).pushOut 1 ⟨2, 0, f.ip, f.udp, b⟩

/-- A worker has triggered on its own source (R440): EV19, and its group follows from the next tick's Apply. A flare that the
manager has just fired for its group keeps its own trigger. -/
def State.flrSelf (s : State) (k : Nat) (f : FlrMgr) (tick offset : Nat) : State :=
  let src := wordByte f.trig 0
  let grp := wordByte f.trig 2
  if (f.st = 1 ∨ f.st = 2 ∨ f.st = 4) ∧ 4 ≤ src ∧ src ≤ 6 then
    let g := { f with st := if f.mode = 1 then 4 else 2, tick := tick, offset := offset }
    let t := (s.updFlr k (fun _ => g)).raise 19 (flrDetail g)
    if grp = 0 then t
    else t.mapFlue (fun x => { x with groups := x.groups ++ [(⟨grp, tick, offset, s.tick + 1⟩ : FGroup)] })
  else s

/-- A worker has recorded its last sample (R443): EV20. The record is held, or discarded where the handle has closed (R224). -/
def State.flrDone (s : State) (k : Nat) (f : FlrMgr) (tick offset : Nat) : State :=
  if f.st = 3 then s
  else
    let g := { f with st := 3, tick := tick, offset := offset }
    let t := s.raise 20 (flrDetail g)
    if 2048 ≤ k then (t.mapFlue (fun x => { x with flares := Tbl.del x.flares k })).toWorker f.w 0x38 0
    else t.updFlr k (fun _ => g)

/-- The key of the run that a point frame of worker `w` names: an open handle's, or one that has just closed. -/
def State.impKey (s : State) (slot w : Nat) : Nat :=
  match Tbl.find s.flue.imps slot with
  | some m => if m.w = w then slot else 2048 + slot
  | none => 2048 + slot

/-- An impedance point's result (R431, R434, R450). A point whose frame was lost stays without a result, and the run goes on to its
last point. The frame of a point that the manager has ended gives that point its content. -/
def State.impPointIn (s : State) (key w point status repeats valid tick freq : Nat) (z : List (Int × Int)) : State :=
  match Tbl.find s.flue.imps key with
  | some m =>
    if m.w ≠ w ∨ point < m.cur ∨ wordByte m.words 0 ≤ point then s
    else if m.status ≠ 0 then
      (if m.status = status ∧ m.cur = point then s.updImp key (fun m => { m with
        points := Tbl.set m.points point ⟨status, Nat.min repeats 2, valid, tick, freq, z⟩ }) else s)
    else
      let st := if status = 0 ∧ m.repeats = 3 ∧ m.cur = point then 1 else status
      let pt : ImpPoint := ⟨st, Nat.min repeats 3, valid, tick, freq, z⟩
      let s1 := s.updImp key (fun m => { m with
        points := Tbl.set m.points point pt, done := if st ≤ 1 then m.done + 1 else m.done,
        cur := point + 1, repeats := 0 })
      if st = 2 ∨ st = 3 then
        (s1.updImp key (fun m => { m with status := st })).raise 18
          (le 1 (wRing w) ++ le 1 (wAddr w) ++ le 1 m.done ++ le 1 (st - 1) ++ le 2 (key % 2048))
      else if wordByte m.words 0 ≤ point + 1 then s1.impFinish key 0 else s1
  | none => s

/-- A frame that fails its CRC is discarded and counted (R312). -/
def State.badFrame (s : State) (ring : Nat) : State := if s.awake && ring < 4 then s.incPf (0x1008 + ring) 0 16 else s

/-- STREAM_FRAME (R312, R317, R440, R443, R447 to R450, R431). -/
def execStreamFrame (ring addr : Nat) (crcOk : Bool) (body : StreamBody) (s : State) : Host.Outcome State Fault Refusal :=
  done (
    let w := wKey ring addr
    if !crcOk then s.badFrame ring
    else if !s.full then s
    else match body with
    | .samples first rows => (match s.flrOf w with
      | some (k, f) => if f.mode = 1 ∧ f.st = 4 then s.streamOut k f first rows else s
      | none => s)
    | .flare first record flags tick offset rows =>
      let s1 := match s.flrOf w with
        | some (k, f) => if bit flags 2 then s.flrSelf k f tick offset else s
        | none => s
      let s2 := match s1.flrOf w with
        | some (k, f) => if bit flags 3 then s1.flrDone k f tick offset else s1
        | none => s1
      if rows.isEmpty then s2 else s2.flrSamples w first record flags tick offset rows
    | .impPoint slot point status repeats valid tick freq z => s.impPointIn (s.impKey slot w) w point status repeats valid tick freq z)

/-- A worker is declared lost: its runs end LOST, and what FLARE_READ awaits from it does not come (R434, table "Capture
failures"). -/
def State.captureLost (s : State) (w : Nat) : State :=
  let s1 := s.each (s.impRuns w) (fun t k => t.impFinish k 3)
  s1.each (s1.flue.reads.filter (fun r => r.w == w)) (fun t r => t.flrSettle r 0x0500)

/-- At sleep entry every run ends ABORTED and every flare is disarmed (R454). -/
def State.captureSleep (s : State) : State :=
  let s1 := s.each ((s.flue.imps.filter (fun e => e.2.status == 0)).map (·.1)) (fun t k => t.impFinish k 2)
  s1.each (s1.flue.flares.map (·.1)) (fun t k => t.updFlr k (fun f => { f with st := 0 }))

/-- What closing an IMPRUN, FLARE or CELLVIEW writer of slot `i` sends in the next tick (R224, R436, R443, R447): a capture
that has triggered is left to complete. -/
def State.captureClose (s : State) (cls res i : Nat) : State :=
  let w := resW res
  match cls with
  | 0x09 => s.toWorkers w [(0x10, 0), (0x11, 0)]
  | 0x0E => s.toWorker w 0x2C 2
  | 0x0F =>
    match Tbl.find s.flue.flares (2048 + i) with
    | some f =>
      if f.st = 2 then s
      else s.toWorkers w ((if f.st = 1 ∨ f.st = 4 then [(0x31, 0), (0x32, 0), (0x33, 0), (0x34, 0), (0x35, 0)] else []) ++
        [(0x38, 0)])
    | none => s
  | _ => s

/-- What a closed IMPRUN or FLARE handle leaves at the manager ends at the set instant of the tick after the CLOSE (R224,
R431, R443). Key `k` is 2,048 above the handle's slot. A flare stays known, disarmed, for a capture that completes. -/
def State.captureDrop (s : State) (k cls : Nat) : State :=
  match cls with
  | 0x0E => (s.impFinish k 2).mapFlue (fun x => { x with imps := Tbl.del x.imps k })
  | 0x0F => s.updFlr k (fun f => { f with st := if f.st = 2 then 2 else 0 })
  | _ => s

/-- The run or flare of a handle that closes goes to the key 2,048 above its slot, until the next tick's set instant
(R224). -/
def State.captureLeave (s : State) (i cls : Nat) : State :=
  match cls with
  | 0x0E => match Tbl.find s.flue.imps i with
    | some m => (s.captureDrop (2048 + i) 0x0E).mapFlue (fun x => { x with
        imps := Tbl.set (Tbl.del x.imps i) (2048 + i) m })
    | none => s
  | 0x0F => match Tbl.find s.flue.flares i with
    | some f => s.mapFlue (fun x => { x with flares := Tbl.set (Tbl.del x.flares i) (2048 + i) f })
    | none => s
  | _ => s

end Sys2Proof.Machine
end

