-- ==== Sys2Proof/Machine/Crypto.lean ====
section
/-! DEFINITION. SHA-256, and the making and the verification of an ECDSA P-256 signature (R87, R200, R483, R484). PRESUMED: the manual
names both algorithms; their definitions are FIPS 180-4 and FIPS 186-4. -/

namespace Sys2Proof.Machine

/-- The round constants of SHA-256. -/
def shaK : List (BitVec 32) :=
  [0x428a2f98, 0x71374491, 0xb5c0fbcf, 0xe9b5dba5, 0x3956c25b, 0x59f111f1, 0x923f82a4, 0xab1c5ed5] ++
  [0xd807aa98, 0x12835b01, 0x243185be, 0x550c7dc3, 0x72be5d74, 0x80deb1fe, 0x9bdc06a7, 0xc19bf174] ++
  [0xe49b69c1, 0xefbe4786, 0x0fc19dc6, 0x240ca1cc, 0x2de92c6f, 0x4a7484aa, 0x5cb0a9dc, 0x76f988da] ++
  [0x983e5152, 0xa831c66d, 0xb00327c8, 0xbf597fc7, 0xc6e00bf3, 0xd5a79147, 0x06ca6351, 0x14292967] ++
  [0x27b70a85, 0x2e1b2138, 0x4d2c6dfc, 0x53380d13, 0x650a7354, 0x766a0abb, 0x81c2c92e, 0x92722c85] ++
  [0xa2bfe8a1, 0xa81a664b, 0xc24b8b70, 0xc76c51a3, 0xd192e819, 0xd6990624, 0xf40e3585, 0x106aa070] ++
  [0x19a4c116, 0x1e376c08, 0x2748774c, 0x34b0bcb5, 0x391c0cb3, 0x4ed8aa4a, 0x5b9cca4f, 0x682e6ff3] ++
  [0x748f82ee, 0x78a5636f, 0x84c87814, 0x8cc70208, 0x90befffa, 0xa4506ceb, 0xbef9a3f7, 0xc67178f2]

/-- The initial hash value of SHA-256. -/
def shaInit : List (BitVec 32) :=
  [0x6a09e667, 0xbb67ae85, 0x3c6ef372, 0xa54ff53a, 0x510e527f, 0x9b05688c, 0x1f83d9ab, 0x5be0cd19]

/-- The message padded to whole blocks of 64 bytes. -/
def shaPad (m : List Byte) : List Byte :=
  let z := (119 - m.length % 64) % 64
  m ++ [0x80#8] ++ zeros z ++ be 8 (8 * m.length)

/-- The big-endian words of a byte list. -/
def shaWords : Nat → List Byte → List (BitVec 32)
  | 0, _ => []
  | n + 1, l => BitVec.ofNat 32 (beNat (l.take 4)) :: shaWords n (l.drop 4)

/-- The message schedule, newest word first, extended by `n` words. -/
def shaSched : Nat → List (BitVec 32) → List (BitVec 32)
  | 0, w => w
  | n + 1, w =>
    let a := nth 0#32 w 1
    let b := nth 0#32 w 14
    let s1 := a.rotateRight 17 ^^^ a.rotateRight 19 ^^^ (a >>> 10)
    let s0 := b.rotateRight 7 ^^^ b.rotateRight 18 ^^^ (b >>> 3)
    shaSched n ((s1 + nth 0#32 w 6 + s0 + nth 0#32 w 15) :: w)

/-- One round of the compression function, on the eight working variables. -/
def shaRound (v : List (BitVec 32)) (kw : BitVec 32) : List (BitVec 32) :=
  match v with
  | [a, b, c, d, e, f, g, h] =>
    let s1 := e.rotateRight 6 ^^^ e.rotateRight 11 ^^^ e.rotateRight 25
    let ch := (e &&& f) ^^^ (~~~e &&& g)
    let t1 := h + s1 + ch + kw
    let s0 := a.rotateRight 2 ^^^ a.rotateRight 13 ^^^ a.rotateRight 22
    let mj := (a &&& b) ^^^ (a &&& c) ^^^ (b &&& c)
    [t1 + s0 + mj, a, b, c, d + t1, e, f, g]
  | l => l

/-- The hash value after one block. -/
def shaBlock (h : List (BitVec 32)) (blk : List Byte) : List (BitVec 32) :=
  let w := (shaSched 48 (shaWords 16 blk).reverse).reverse
  let v := (List.zipWith (· + ·) shaK w).foldl shaRound h
  List.zipWith (· + ·) h v

/-- The hash value after `n` blocks. -/
def shaBlocks : Nat → List (BitVec 32) → List Byte → List (BitVec 32)
  | 0, h, _ => h
  | n + 1, h, m => shaBlocks n (shaBlock h (m.take 64)) (m.drop 64)

/-- SHA-256, as 32 bytes. -/
def sha256 (m : List Byte) : List Byte :=
  let p := shaPad m
  (shaBlocks (p.length / 64) shaInit p).flatMap (fun w => be 4 w.toNat)

/-- The prime of P-256. -/
def p256P : Nat := 0xffffffff00000001000000000000000000000000ffffffffffffffffffffffff
/-- The order of P-256. -/
def p256N : Nat := 0xffffffff00000000ffffffffffffffffbce6faada7179e84f3b9cac2fc632551
/-- The constant b of P-256. -/
def p256B : Nat := 0x5ac635d8aa3a93e7b3ebbd55769886bc651d06b0cc53b0f63bce3c3e27d2604b
/-- The base point of P-256. -/
def p256G : Nat × Nat :=
  (0x6b17d1f2e12c4247f8bce6e563a440f277037d812deb33a0f4a13945d898c296,
   0x4fe342e2fe1a7f9b8ee7eb4a7c0f9e162bce33576b315ececbb6406837bf51f5)

/-- `b ^ e mod m` over the low `n` bits of `e`. -/
def powMod (m : Nat) : Nat → Nat → Nat → Nat
  | 0, _, _ => 1
  | n + 1, b, e => (if e % 2 = 1 then b else 1) * powMod m n (b * b % m) (e / 2) % m

/-- The inverse modulo a prime below 2^256. -/
def invMod (m x : Nat) : Nat := powMod m 256 (x % m) (m - 2)

/-- Point addition on P-256; none is the point at infinity. -/
def ecAdd (a b : Option (Nat × Nat)) : Option (Nat × Nat) :=
  match a, b with
  | none, q => q
  | p, none => p
  | some (x1, y1), some (x2, y2) =>
    if x1 = x2 ∧ (y1 + y2) % p256P = 0 then none
    else
      let l := if x1 = x2 then (3 * x1 * x1 + p256P - 3) * invMod p256P (2 * y1) % p256P
        else (y2 + p256P - y1) * invMod p256P (x2 + p256P - x1) % p256P
      let x3 := (l * l + 2 * p256P - x1 - x2) % p256P
      some (x3, (l * (x1 + p256P - x3) + p256P - y1) % p256P)

/-- Scalar multiplication over the low `n` bits of `k`. -/
def ecMul : Nat → Nat → Option (Nat × Nat) → Option (Nat × Nat)
  | 0, _, _ => none
  | n + 1, k, q => ecAdd (if k % 2 = 1 then q else none) (ecMul n (k / 2) (ecAdd q q))

/-- Whether the signature (r then s) verifies with the public key (x then y) over the hash. -/
def ecdsaVerify (pub hash sig : List Byte) : Bool :=
  let x := beNat (pub.take 32)
  let y := beNat ((pub.drop 32).take 32)
  let r := beNat (sig.take 32)
  let s := beNat ((sig.drop 32).take 32)
  if r = 0 ∨ p256N ≤ r ∨ s = 0 ∨ p256N ≤ s ∨ p256P ≤ x ∨ p256P ≤ y
      ∨ (y * y) % p256P ≠ (x * x * x + (p256P - 3) * x + p256B) % p256P then false
  else
    let w := invMod p256N s
    let z := beNat (hash.take 32)
    match ecAdd (ecMul 256 (z * w % p256N) (some p256G)) (ecMul 256 (r * w % p256N) (some (x, y))) with
    | none => false
    | some (px, _) => px % p256N == r

/-- A secret number of P-256, from 1 to the order less 1. -/
def ecSecret (x : Nat) : Nat := x % (p256N - 1) + 1

/-- The device's public key, x then y (R484). -/
def devicePub : List Byte :=
  match ecMul 256 (ecSecret Config.deviceKey) (some p256G) with
  | some q => be 32 q.1 ++ be 32 q.2
  | none => zeros 64

/-- The device's signature over a hash, r then s, made with the secret number `k` (R483). -/
def deviceSign (k : Nat) (hash : List Byte) : List Byte :=
  match ecMul 256 (ecSecret k) (some p256G) with
  | some q =>
    let r := q.1 % p256N
    be 32 r ++ be 32 (invMod p256N (ecSecret k) * (beNat (hash.take 32) + r * ecSecret Config.deviceKey) % p256N)
  | none => zeros 64

end Sys2Proof.Machine
end

