-- ==== Sys2Proof/Machine/Supply.lean ====
section
/-! DEFINITION. Fuses, resets, the rail sequencer, the supply thresholds and the power domains (R67 to R75, R110 to
R150, R818, R825, R841). -/

namespace Sys2Proof.Machine

/-- A field of the fuses as read at the last fuse load (R70). -/
def State.fz (s : State) (lo wid : Nat) : Nat := fld s.sys.fuseRead.toNat lo wid

/-- The OR of both copies of the array (R70). -/
def Nvm.fuseOr (v : Nvm) : BitVec 2048 := v.fuses.setWidth 2048 ||| (v.fuses >>> 2048).setWidth 2048

/-- RAIL_RETRY, decoded. -/
def State.railN (s : State) : Nat := s.fz 0x468 3 ^^^ 3

/-- The twelve bits of step `n` of RAIL_SEQ (R133). -/
def State.seqRaw (s : State) (n : Nat) : Nat := s.fz (0x420 + 12 * n) 12

/-- RAIL_SEQ is not all zero, and bad (R135). -/
def State.seqBad (s : State) : Bool :=
  s.fz 0x420 72 != 0 &&
  (List.range 6).any (fun n =>
    let r := s.seqRaw n
    5 < fld r 0 3 || fld r 3 8 == 0 || 250 < fld r 3 8 || bit r 11 ||
      (List.range n).any (fun k => fld (s.seqRaw k) 0 3 == fld r 0 3))

/-- The sequence table in use: rail and window of step `n` (R134, R135). -/
def State.seqStep (s : State) (n : Nat) : Nat × Nat :=
  if s.fz 0x420 72 = 0 ∨ s.seqBad = true then (n, 40) else (fld (s.seqRaw n) 0 3, fld (s.seqRaw n) 3 8)

/-- What an instance keeps in MRAM. -/
def Inst.kept (i : Inst) : Inst :=
  { Inst.d with m0 := i.m0, m1 := i.m1, bind := i.bind, turfs := i.turfs, newest := i.newest, acked := i.acked, ackAny := i.ackAny,
                any := i.any, rems := i.rems }

/-- Whether a parameter survives every fuse load but the one after POR (R785). -/
def keptParam (wdg : Bool) (a : Nat) : Bool :=
  a == 0x0105 || (wdg && a == 0x0703) ||
    (match paramRow a with
      | some r => r.mark == .island
      | none => false)

/-- The manager at the start of a fuse load that does not follow POR (R110, R115, R785, R833): what MRAM, the fuses, the flash
and the island keep, and the world outside. A bridge that was moving has lost its position (R636, R637), a shadow copy in
progress is abandoned (R114), and a wake of a sleep entry that did not end is forgotten. -/
def State.restarted (s : State) (wdg : Bool) : State :=
  { State.reset with
    pending := s.pending
    free := s.free
    island := { s.island with wakePend := false }
    nvm := { s.nvm with
      hbValid := s.nvm.hbValid.filter (fun b => !s.hbMoving b)
      torn := match s.sys.copying with
        | some c => insNat c.half s.nvm.torn
        | none => s.nvm.torn }
    params := s.params.filter (fun e => keptParam wdg e.1)
    insts := (s.insts.map (fun e => (e.1, e.2.kept))).filter (fun e => e.2 != Inst.d)
    wks := s.wks
    debugger := s.debugger }

/-- Contactors that the outputs' end opens: each opening counts, whatever its cause (R510, R583). -/
def State.contactorsDrop (s : State) : State :=
  s.each ((List.range 8).filter (fun n => (s.hs n).cont != 0)) (fun t n =>
    (t.countOpening n).updHs n (fun c => { c with cont := 0 }))

/-- The comparators' readings outlast the sampled levels (R663). -/
def State.rawsKept (s : State) : State :=
  s.mapIsland (fun i => { i with raws := if s.out.swInit then (List.range 64).filter (fun n => (s.sw n).raw) else i.raws })

/-- A fuse load that does not follow POR begins. -/
def State.restart (s : State) (wdg : Bool) : State := s.contactorsDrop.rawsKept.restarted wdg

/-- A reset with cause bit `c` (R110, R111). -/
def State.reboot (s : State) (c : Nat) : State :=
  ((s.mapIsland (fun i => { i with wdgKept := none })).restart false).setPb 0x0105 c true

/-- POR: the island has lost its supply too (R53, R112, R785). -/
def State.por (s : State) : State :=
  let s1 := { s.contactorsDrop with island := Island.por, params := [] }
  s1.restarted false

/-- A record for the journal, kept by the island (R130, R143). -/
def State.islandRec (s : State) (ev : Nat) (d : List Byte) : State :=
  s.mapIsland (fun i => { i with recs := i.recs ++ [⟨ev, detail d, i.rtc⟩] })

/-- The RTC and the island's timers advance by `dt` seconds (R52, R154, R718). -/
def State.idle (s : State) (dt : Nat) : State :=
  s.mapIsland (fun i => { i with rtc := (i.rtc + dt) % 2 ^ 32, bankedS := i.bankedS + dt, napS := i.napS - dt })

/-- The RTC advances by `us` microseconds (R52). -/
def State.rtcUs (s : State) (us : Nat) : State :=
  let n := s.island.rtcUs + us
  (s.idle (n / 1000000)).mapIsland (fun i => { i with rtcUs := n % 1000000 })

/-- The time outside the ticks, in µs, that has passed when a command of the boot path comes: the RTC counts in every state
above the always-on brown-out threshold (R52). -/
def State.lapse (s : State) (us : Nat) : State := if s.sys.phase == .cold then s else s.rtcUs us

/-- What presents a supply above 58 V stops the model (R117, R818). -/
def rated (mv : Nat) (s : State) : Host.Outcome State Fault Refusal :=
  if 58000 < mv then .fault .outsideRatings else done s

/-- Rail sequencing begins where nothing holds it (R113, R136, R137). -/
def State.seqStart (s : State) : State :=
  if s.sys.phase == .sequencing && s.sys.rails.isEmpty && !s.sys.seqWait && !s.island.thermalHold then
    s.mapSys (fun y => { y with step := 0, rails := [(s.seqStep 0).1] })
  else s

/-- At entry to Cold-hold or Banked the inputs' levels and readings are kept, and the inputs that may wake (R145, R245, R663, R671,
R672). -/
def State.wakeArm (s : State) (levels forced raws : Nat → Bool) : State :=
  let ref (k : Nat) := maskOf ((List.range 32).filter (fun b => levels (32 * k + b)))
  let ns := (List.range 64).filter (fun n => s.pb (0x2800 + n) 7 && (s.pf (0x2800 + n) 0 2 != 0 || forced n))
  ((s.setP 0x2843 (ref 0)).setP 0x2844 (ref 1)).mapIsland (fun i =>
    { i with wakeMask := ns, contPins := (List.range 64).filter forced, raws := (List.range 64).filter raws, polls := [],
               bankedS := 0 })

/-- The levels of the inputs as Cold-hold is entered (R672): the debounced ones, and before the first sample of Kindling, which
alone tells the manager a level, free values. -/
def State.levelNow (s : State) (n : Nat) : Bool :=
  if s.out.swInit then (s.sw n).level else Config.freeNat (s.free + n) % 2 == 1

/-- The readings of the inputs' comparators as Cold-hold is entered (R663). -/
def State.rawNow (s : State) (n : Nat) : Bool := if s.out.swInit then (s.sw n).raw else s.levelNow n

/-- The instances whose mirror write the Commit in progress has begun (R477). -/
def State.mirrorsWritten (s : State) : List Nat :=
  if s.awake && s.sys.tph == 6 then (List.range 8).filter (fun n => (s.inst n).mirTick == some s.tick) else []

/-- A rail fault (R132, R138 to R140, R143, R158): the rails go off in reverse order, and a rest or Cold-hold follows. What it
changes is kept for a collapse of the same tick or step. -/
def State.railFault (s : State) (step rail kind : Nat) : State :=
  let last := s.pf 0x0302 8 3 = s.railN
  let undo : RailUndo := ⟨s.p 0x0302, s.p 0x0105, s.p 0x2843, s.p 0x2844, s.island, s.awake, s.mirrorsWritten⟩
  let s1 := (((s.setPf 0x0302 0 3 step).setPf 0x0302 3 3 rail).setPf 0x0302 6 2 kind).islandRec 54 []
  let s2 := if last then s1.islandRec 55 [] else s1
  let s3 := (s2.mapIsland (fun i => { i with wdgKept := none })).restart false
  let s4 := if last then { (s3.setPb 0x0105 8 true).wakeArm s.levelNow s.swForced s.rawNow with free := s.free + 64 } else s3
  (s4.mapSys (fun y => { y with
    phase := if last then .coldHold else .rest, fuseRead := s.sys.fuseRead, fault := some undo }))

/-- Cold-hold ends for fuse load, with RETRIES cleared (R145). -/
def State.coldExit (s : State) (byRetry : Bool) : State :=
  if s.sys.phase == .coldHold then
    ((s.restart false).setPf 0x0302 8 3 0).setPb 0x0302 12 byRetry
  else s

/-- A wake source becomes active (R153, R154, R159). EV37 is journalled at the next Kindling. DESIGN CHOICE: during fuse load it is
latched in PWR.WAKE_SRC as R159 has it during sequencing and the rest, since R159 does not name fuse load (log 174); unsafe where the
part does not latch there. -/
def State.wakeBy (s : State) (src : Nat) : State :=
  if !s.pb 0x0303 src then s
  else
    let s1 := s.setPb 0x0304 src true
    match s.sys.phase with
    | .banked => ((s1.islandRec 37 []).restart true).mapSys (fun y => { y with warm := true })
    | .fuseLoad => s1
    | .sequencing => s1
    | .rest => s1
    | _ => if s.sys.sleeping = 0 then s else s1.mapIsland (fun i => { i with wakePend := true })

/-- A collapse (R127 to R130, R142, R825): the record, the count and a reset with BROWNOUT, in every state with a supply. -/
def State.collapse (s : State) (cause : Nat) : State :=
  if s.sys.phase == .cold then s else ((s.incPf 0x0301 16 16).islandRec 56 (le 1 cause)).reboot 1

/-- A rail fault of the same tick or sequencing step is undone: the event is a collapse only (R158). The island's clocks go on. -/
def State.faultUndo (s : State) : State :=
  match s.sys.fault with
  | some u =>
    let s1 := (((s.setP 0x0302 u.seqstat).setP 0x0105 u.cause).setP 0x2843 u.ref0).setP 0x2844 u.ref1
    (s1.mapIsland (fun i => { u.island with rtc := i.rtc, rtcUs := i.rtcUs, napS := i.napS })).mapSys (fun y => { y with fault := none })
  | none => s

/-- The tick counter at the start of a tick (R49). -/
def State.count (s : State) : State :=
  s.mapIsland (fun i => if i.fresh then { i with fresh := false } else { i with count := (i.count + 1) % 2 ^ 48 })

/-- The island's records become journal entries of their own, with the time at their occurrence (R143, R266, R845). Their
events latch. The island keeps its records until a Commit has written them. -/
def State.islandEvents (s : State) : State :=
  let l := s.island.recs
  s.each l (fun t r =>
    if t.evOn r.ev then
      let sev := t.evSev r.ev
      let t1 := (t.setPb (0x0600 + r.ev / 32) (r.ev % 32) true).mapEvt (fun v => { v with
        occ := v.occ ++ [⟨r.ev, sev, 1, r.detail, r.rtc, true⟩]
        held := Tbl.put 0 v.held r.ev (Nat.max (Tbl.get 0 v.held r.ev) sev) })
      t1.countSpans r.ev sev
    else t)

/-- Kindling begins (R30, R75, R77, R143, R219, R510, R835). A cold path is counted here, and the crystal oscillator starts. -/
def State.enterKindling (s : State) : State :=
  let s1 := (s.mapSys (fun y => { y with phase := .kindling, railClock := true, crystal := true, serdes := 1 })).islandEvents
  let s2 := s1.when (s1.pb 0x0106 0) (fun t => t.raise 62 [])
  let s3 := s2.when (s2.pb 0x0106 1) (fun t => t.raise 62 [])
  let s4 := s3.when (s3.pb 0x0302 11) (fun t => t.raise 62 [])
  let s5 := s4.when s4.nvm.relit (fun t => (t.raise 62 []).mapNvm (fun v => { v with relit := false }))
  let s5 := s5.each s5.nvm.mirCut (fun t n => t.raise 57 (le 1 n ++ le 1 1 ++
    le 8 (((newerSlot (t.inst n).m0 (t.inst n).m1).map (·.seq)).getD 0)))
  let s6 := s5.when (!s5.sys.warm) (fun t => t.wear 23 1)
  s6.each (bitsOf (s6.fz 0x46E 16) 16) (fun t n => (t.updHs (24 + n) (fun h => { h with cmdOn := true })).hsDrive (24 + n))

/-- VBAT_POWER_ON (R67, R112). -/
def execVbatPowerOn (mv : Nat) (s : State) : Host.Outcome State Fault Refusal :=
  rated mv (if s.sys.phase == .cold then s.por else s)

/-- VBAT_BROWNOUT (R53, R67). -/
def execVbatBrownout (s : State) : Host.Outcome State Fault Refusal :=
  done (if s.sys.phase == .cold then s else s.por.mapSys (fun y => { y with phase := .cold }))

/-- The fuses are read, and what they and MRAM hold takes effect (R70 to R73, R134, R135, R637). -/
def State.fusesRead (s : State) : State :=
  let s1 := s.mapSys (fun y => { y with fuseRead := s.nvm.fuseOr })
  let trim := crc32c (le 128 (s1.fz 0 1024)) != s1.fz 0x400 32
  let s2 := ((s1.setPb 0x0106 0 trim).setPb 0x0106 1 (s1.fz 0x46C 2 == 3)).setPb 0x0302 11 s1.seqBad
  let s3 := s2.each (List.range 8) (fun t b =>
    (t.setP (0x2407 + 8 * b) (Tbl.get 0#32 t.nvm.hbPos b).toNat).setPb (0x2406 + 8 * b) 7 (t.nvm.hbValid.contains b))
  s3.mapSys (fun y => { y with base := s3.params })

/-- FUSE_LOAD_DONE (R69 to R73, R135 to R137). -/
def execFuseLoadDone (mv us : Nat) (s : State) : Host.Outcome State Fault Refusal :=
  rated mv (if s.sys.phase == .fuseLoad then
    ((s.lapse us).fusesRead.mapSys (fun y => { y with phase := .sequencing, seqWait := decide (mv < 6000) })).seqStart
  else s)

/-- VBAT_SEQUENCING_THRESHOLD (R136, R142). -/
def execVbatSequencingThreshold (us : Nat) (s : State) : Host.Outcome State Fault Refusal :=
  done (if s.sys.phase == .sequencing then ((s.lapse us).mapSys (fun y => { y with seqWait := false })).seqStart else s)

/-- THERMAL_HOLD_END (R113, R136): VBAT, `mv`, decides whether sequencing begins now. -/
def execThermalHoldEnd (mv us : Nat) (s : State) : Host.Outcome State Fault Refusal :=
  rated mv (((if s.awake then s else s.lapse us).mapIsland (fun i => { i with thermalHold := false })).mapSys
    (fun y => { y with seqWait := if y.phase == .sequencing && y.rails.isEmpty then decide (mv < 6000) else y.seqWait })).seqStart

/-- RAIL_SENSE_GOOD (R75, R137). -/
def execRailSenseGood (rail us : Nat) (s : State) : Host.Outcome State Fault Refusal :=
  done (match s.sys.rails with
  | [] => s
  | r :: _ =>
    if s.sys.phase == .sequencing && r == rail then
      if s.sys.step = 5 then (s.lapse us).enterKindling
      else (s.lapse us).mapSys (fun y => { y with step := y.step + 1, rails := (s.seqStep (y.step + 1)).1 :: y.rails })
    else s)

/-- RAIL_WINDOW_EXPIRED (R52, R133, R138 to R140): the step's window has passed. -/
def execRailWindowExpired (s : State) : Host.Outcome State Fault Refusal :=
  done (match s.sys.rails with
  | [] => s
  | r :: _ => if s.sys.phase == .sequencing then (s.lapse (100 * (s.seqStep s.sys.step).2)).railFault s.sys.step r 1 else s)

/-- The step of the sequence table that names a rail. DESIGN CHOICE: PWR.SEQSTAT.FAIL_STEP of a rail whose sense was lost is the step
that enabled that rail, not the step in progress (log 173); unsafe where the part reports the other. -/
def State.stepOf (s : State) (rail : Nat) : Nat := ((List.range 6).find? (fun n => (s.seqStep n).1 == rail)).getD 0

/-- RAIL_SENSE_LOST (R127, R132, R138 to R140). -/
def execRailSenseLost (rail mv : Nat) (s : State) : Host.Outcome State Fault Refusal :=
  rated mv (match s.sys.phase with
  | .sequencing => if (s.sys.rails.drop 1).contains rail then s.railFault (s.stepOf rail) rail 2 else s
  | .kindling => if rail = 0 then s.collapse 1 else if rail < 6 ∧ 4800 < mv then s.railFault (s.stepOf rail) rail 2 else s
  | .lit => if rail = 0 then s.collapse 1 else if rail < 6 ∧ 4800 < mv then s.railFault (s.stepOf rail) rail 2 else s
  | .doused => if rail = 0 then s.collapse 1 else if rail < 6 ∧ 4800 < mv then s.railFault (s.stepOf rail) rail 2 else s
  | _ => s)

/-- RAIL_REST_END (R52, R139): 50 ms have passed. -/
def execRailRestEnd (s : State) : Host.Outcome State Fault Refusal :=
  done (if s.sys.phase == .rest then ((s.lapse 50000).reboot 8).incPf 0x0302 8 3 else s)

/-- RAIL_RETRY_CLEAR (R141). -/
def execRailRetryClear (s : State) : Host.Outcome State Fault Refusal :=
  done (if s.awake && s.sys.railClock then (s.setPf 0x0302 8 3 0).mapSys (fun y => { y with railClock := false }) else s)

/-- RETRY_RAILS (R52, R145 to R147): `dt` seconds of Cold-hold have passed. -/
def execRetryRails (dt : Nat) (s : State) : Host.Outcome State Fault Refusal :=
  done (if s.sys.phase == .coldHold then (s.idle dt).coldExit true else s)

/-- The counter of the tick that begins: the source's for the first aligned tick of a follower (R49, R63). -/
def State.tickCount (s : State) : State :=
  match s.part.follow with
  | some n => (s.mapIsland (fun i => { i with count := n % 2 ^ 48, fresh := false })).mapPart
      (fun p => { p with follow := none, aligned := true })
  | none => s.count

/-- The tick source as the first Kindling tick begins (R59, R63): manager A and a manager of role SOLO, unless a running
partner has been heard; manager B follows, over the link or by ring SYNC, until it takes over (R62). -/
def State.tickRole (s : State) : State :=
  if s.role = 2 ∧ s.pf 0x0206 0 2 = 0 then (s.setPf 0x0206 0 2 (if s.pb 0x1905 0 then 1 else 2)).setPb 0x0203 0 false
  else s.setPb 0x0203 0 (s.pf 0x0206 0 2 == 0)

/-- The BEAT of a tick (R514, R515, R534). -/
def State.sendBeat (s : State) : State :=
  if s.role = 0 then s
  else
    let s1 := if s.full && 2 ≤ s.pf 0x1905 2 2 then s.setPb 0x1905 5 false else s
    s1.partOut 0x11 (le 6 s.tick ++ le 1 s.periodCode ++
      le 1 (s.stateCode + 4 * s.pf 0x0203 0 1 + 8 * s.pf 0x1906 0 1 + 16 * b2n s.part.sleep) ++ le 4 (s.p 0x0108) ++ zeros 4)

/-- PLL_LOCK (R49, R52, R59, R76, R279, R515): the first Kindling tick begins, `us` after the last rail came good. -/
def execPllLock (us : Nat) (s : State) : Host.Outcome State Fault Refusal :=
  done (if s.sys.phase == .kindling && !s.sys.pll then
    ((((s.lapse us).mapSys (fun y => { y with pll := true, tph := 1 })).tickCount).tickRole).wdgHwStart.sendBeat
  else s)

/-- ROM_BOOT_DONE (R77, R304): the ports serve, and the rings in use train at one-eighth rate. -/
def execRomBootDone (s : State) : Host.Outcome State Fault Refusal :=
  done (if s.sys.phase == .kindling && !s.sys.rom then
    (s.mapSys (fun y => { y with rom := true })).each ((List.range 4).filter (s.pb 0x1000)) (fun t r => t.setPb (0x1004 + r) 22 true)
  else s)

/-- The channels of restart step `n` return to their commanded state (R122). -/
def State.uvReturn (s : State) (lo hi : Nat) : State :=
  s.each ((List.range 40).filter (fun n => lo ≤ n && n < hi)) (fun t n =>
    (t.updHs n (fun h => { h with uvOff := false })).hsDrive n)

/-- HS_UNDERVOLTAGE (R120, R121, R124 to R126). A pulsed channel takes its duty again from a reload (R123). -/
def execHsUndervoltage (s : State) : Host.Outcome State Fault Refusal :=
  done (if s.awake && !s.uvOn then
    let s1 := (((s.setPb 0x0300 16 true).setPb 0x0300 17 false).incPf 0x0301 0 16).mapSys (fun y => { y with uvStep := 0 })
    let s2 := (s1.begin 24 0 []).each (List.range 40) (fun t n =>
      let t1 := t.updHs n (fun h => { h with uvOff := true, carry := 0 })
      (if t.hsBound n then t1.setPf (hsPwm n) 0 16 0 else t1).hsDrive n)
    let s3 := s2.each (List.range 24) (fun t c => if t.vlvRuns c then (t.vlvEnd c t.freeNow).drawn else t)
    (s3.each (List.range 8) (fun t b => t.hbAbort b)).each (List.range 4) (fun t m => t.motHold m)
  else s)

/-- HS_UV_RESTART (R122): EV25, and the step at 0 µs. -/
def execHsUvRestart (s : State) : Host.Outcome State Fault Refusal :=
  done (if s.awake && s.uvOn then
    ((((((s.setPb 0x0300 16 false).setPb 0x0300 17 true).finishAll 24).raise 25 []).mapSys
      (fun y => { y with uvStep := 2 })).uvReturn 0 8)
  else s)

/-- HS_RESTART_STEP (R122, R126): the steps at 100, 200 and 300 µs. -/
def execHsRestartStep (s : State) : Host.Outcome State Fault Refusal :=
  done (if s.awake && s.pb 0x0300 17 then
    match s.sys.uvStep with
    | 2 => (s.uvReturn 8 24).mapSys (fun y => { y with uvStep := 3 })
    | 3 => (s.uvReturn 24 40).mapSys (fun y => { y with uvStep := 4 })
    | _ =>
      let s1 := (s.setPb 0x0300 17 false).mapSys (fun y => { y with uvStep := 0 })
      if s.ovOn then s1 else s1.each (List.range 4) (fun t m => t.motResume m)
  else s)

/-- OV_COAST_ENTRY (R117, R818). -/
def execOvCoastEntry (mv : Nat) (s : State) : Host.Outcome State Fault Refusal :=
  rated mv (if s.awake && !s.ovOn then
    ((s.setPb 0x0300 18 true).each (List.range 8) (fun t b => t.hbHold b)).each (List.range 4) (fun t m => t.motHold m)
  else s)

/-- OV_COAST_EXIT (R117, R660). -/
def execOvCoastExit (s : State) : Host.Outcome State Fault Refusal :=
  done (if s.ovOn then
    let s1 := (s.setPb 0x0300 18 false).each (List.range 8) (fun t b => t.hbResume b)
    if s1.motHeld then s1 else s1.each (List.range 4) (fun t m => t.motResume m)
  else s)

/-- Whether a crystal stop has just reset the part: fuse load is still to end, and the newest record of the island is its
EV56 (R825, R830). -/
def State.crystalReset (s : State) : Bool :=
  s.sys.phase == .fuseLoad &&
    (match s.island.recs.getLast? with
      | some r => r.ev == 56 && r.detail.head? == some 2#8
      | none => false)

/-- A collapse in the tick of a crystal stop is one with it, under its own cause (R830). -/
def State.collapseJoin (s : State) (cause : Nat) : State :=
  s.mapIsland (fun i => { i with recs := i.recs.dropLast ++ [⟨56, detail (le 1 cause), i.rtc⟩] })

/-- The mirror write of this tick's Commit that a collapse finds in progress is abandoned: its slot fails its CRC (R128, R469, table
"Coinciding conditions" of the ledger chapter). -/
def State.mirrorCut (s : State) (live : List Nat) (cut : Option Nat) : State :=
  match cut with
  | none => s
  | some n =>
    if live.contains n then
      let bad (a : AccSlot) : AccSlot := { a with good := false }
      let q := ((newerSlot (s.inst n).m0 (s.inst n).m1).map (·.seq)).getD 0 % 2
      (s.updInst n (fun i => { i with
        m0 := if q = 0 then i.m0.map bad else i.m0, m1 := if q = 1 then i.m1.map bad else i.m1 })).mapNvm
        (fun v => { v with mirCut := insNat n v.mirCut })
    else s

/-- COLLAPSE (R127 to R130, R158, R830): cause 0 VBAT, 1 SQS0 lost after Kindling was entered; `joint` where a rail fault was
detected in the same tick or sequencing step; `cut` names the instance whose mirror write is in progress. -/
def execCollapse (cause : Nat) (joint : Bool) (cut : Option Nat) (s : State) : Host.Outcome State Fault Refusal :=
  done (if s.crystalReset && cause < 2 then s.collapseJoin cause
  else match s.sys.fault.filter (fun _ => joint && cause < 2) with
    | some u => (s.mirrorCut u.mirrors cut).faultUndo.collapse cause
    | none => if cause = 0 ∨ (cause = 1 ∧ s.awake = true) then (s.mirrorCut s.mirrorsWritten cut).collapse cause else s)

/-- CRYSTAL_STOP (R158, R825); `joint` where a rail fault was detected in the same tick. -/
def execCrystalStop (joint : Bool) (s : State) : Host.Outcome State Fault Refusal :=
  done (match s.sys.fault.filter (fun u => joint && u.ticking) with
    | some _ => s.faultUndo.collapse 2
    | none => if s.awake then s.collapse 2 else s)

/-- THERMAL_RESET (R110, R113). The logic die has a supply from rail sequencing on. -/
def execThermalReset (s : State) : Host.Outcome State Fault Refusal :=
  done (if s.awake || s.sys.phase == .sequencing then
    (s.reboot 5).mapIsland (fun i => { i with thermalHold := true })
  else s)

/-- PIN_RESET (R110): between 2 and 10 µs either outcome may occur. -/
def execPinReset (us : Nat) (s : State) : Host.Outcome State Fault Refusal :=
  done (if s.sys.phase == .cold || us ≤ 2 then s
  else if 10 ≤ us then s.reboot 4
  else if Config.freeBit s.free then s.drawn.reboot 4 else s.drawn)

/-- END_OF_COMMIT_RESET (R110, R181, R295). -/
def execEndOfCommitReset (s : State) : Host.Outcome State Fault Refusal :=
  done (s.each s.sys.resetDue (fun t c => t.reboot c))

/-- The RTC wake timer, once PWR.RTCWAKE seconds have passed since Banked entry; it does not run at 0 (R154, R155, R159). -/
def State.rtcWake (s : State) : State :=
  if s.island.rtcRun = true ∧ s.p 0x0305 ≠ 0 ∧ s.p 0x0305 ≤ s.island.bankedS then
    (s.mapIsland (fun i => { i with rtcRun := false })).wakeBy 4
  else s

/-- WAKE (R153, R154, R155, R159). -/
def execWake (src dt : Nat) (s : State) : Host.Outcome State Fault Refusal :=
  done (
    let t := if s.awake then s else s.idle dt
    if src = 4 then t.rtcWake else if src < 6 then t.wakeBy src else s)

/-- RTC_WAKE_TIMER (R154, R155, R159). -/
def execRtcWakeTimer (dt : Nat) (s : State) : Host.Outcome State Fault Refusal :=
  done ((if s.awake || s.sys.phase == .cold then s else s.idle dt).rtcWake)

/-- DEBUGGER_ATTACH (R74, R148). -/
def execDebuggerAttach (attached : Bool) (s : State) : Host.Outcome State Fault Refusal :=
  done { s with debugger := attached }

/-- Whether an open handle of class `c` is on a resource of the range. -/
def State.heldIn (s : State) (c lo n : Nat) : Bool :=
  s.openSlots.any (fun e => e.2.cls == c && lo ≤ e.2.res && e.2.res < lo + n)

/-- Whether a network port is set up by a loaded image, from a slot or from the shadow (R77). -/
def State.netOn (s : State) (on : Bool) : Bool := s.sys.image.isSome && on

/-- Whether the driver of load switch `n` is powered (R148, R841). -/
def State.hsPowered (s : State) (n : Nat) : Bool :=
  (24 ≤ n && bit (s.fz 0x46E 16) (n - 24)) ||
  (s.full && (s.pb (hsStat n) 0 || s.pb (hsCfg n) 16 || s.pf (hsCfg n) 6 2 == 1 || s.heldIn 1 n 1 ||
    (24 ≤ n && s.heldIn 8 (n - 24) 1)))

/-- Whether a ring's lanes are in use: from the first SYNC, and once enumeration has ended, on rings with workers (R44, R148,
R150). -/
def State.ringUsed (s : State) (r : Nat) : Bool :=
  s.pb 0x1000 r && s.sys.rom && (!s.sys.enumDone || !(s.ring r).serials.isEmpty || (s.ring r).joined)

/-- Whether domain PD `n` is powered (R148 to R150, R841). -/
def State.pd (s : State) (n : Nat) : Bool :=
  s.awake &&
  (if n < 4 then s.full && s.pf (0x3802 + 8 * n) 0 3 != 0
  else if n < 29 then true
  else if n < 45 then
    let r := (n - 29) / 4
    s.ringUsed r && (if (n - 29) % 4 < 2 then s.role != 2 else s.role != 1)
  else if n < 47 then s.role != 0
  else if n < 49 then s.netOn (s.pb (0x3018 + 8 * (n - 47)) 0)
  else if n < 53 then s.netOn (s.pb (0x3010 + 2 * (n - 49)) 0)
  else if n < 55 then s.full && s.pb (0x3030 + (n - 53)) 0
  else if n < 57 then true
  else if n < 97 then s.hsPowered (n - 57)
  else if n < 103 then
    let b := n - 97
    s.full && ((List.range 4).any (fun k => let v := s.vlv (4 * b + k); v.cur.isSome || v.queued.isSome) || s.heldIn 3 (4 * b) 4)
  else if n < 111 then
    let g := n - 103
    s.full && ((List.range 4).any (fun k =>
      let n := 4 * g + k
      s.pf (ledStat n) 16 16 != 0 || s.ledShown n (s.pf (0x2301 + 4 * n) 16 16) != 0 ||
        (!s.pb (ledCfg n) 10 && s.ledShown n (s.pf (0x2301 + 4 * n) 0 16) != 0)) ||
      s.heldIn 4 (4 * g) 4)
  else if n < 119 then
    let b := n - 111
    s.full && ((s.hbState b != 0 && s.hbState b != 5) || s.pf (hbCfg b) 24 2 == 1 || s.heldIn 5 b 1)
  else if n < 123 then
    let m := n - 119
    s.full && ((s.motState m != 0 && s.motState m != 7) || s.pf (motCfg m) 26 2 == 1 ||
      (s.pf (motCfg m) 26 2 == 2 && s.pf (0x2507 + 16 * m) 0 16 != 0) || s.heldIn 6 m 1)
  else if n < 137 then true
  else if n < 141 then s.full && (List.range 4).any (fun k => s.pgRuns (4 * (n - 137) + k))
  else if n = 141 then s.debugger && !bit (s.fz 0x485 1) 0
  else n < 144)

/-- PWR.PDSTAT[w]: during sleep entry the domains stay as they were (R841). -/
def State.pdWord (s : State) (w : Nat) : Nat :=
  if s.sys.sleeping ≠ 0 then nth 0 s.sys.pdKept w else maskOf ((List.range 32).filter (fun b => s.pd (32 * w + b)))

end Sys2Proof.Machine
end

