-- ==== Sys2Proof/Machine/View.lean ====
section
/-! DEFINITION. Reading parameters: the stored words, and the words that show other state (R778 to R782). -/

namespace Sys2Proof.Machine

/-- SYS.FUSE. RELIGHT_COUNT shows a bit from its burn (R508). -/
def State.fuseWord (s : State) : Nat :=
  s.fz 0x46E 16 + s.railN * 2 ^ 16 + s.fz 0x46B 1 * 2 ^ 19 + fld s.nvm.fuseOr.toNat 0x47E 7 * 2 ^ 20 + s.fz 0x485 1 * 2 ^ 27

/-- The ledger instances opened from the image (SYS.LEDGCNT.MAP). -/
def State.ledgMap (s : State) : Nat :=
  if s.sys.image.isSome then maskOf ((List.range 8).filter (fun n => s.pb (0x1800 + n) 31)) else 0

/-- SYS.STATE. -/
def State.stateWord (s : State) : Nat :=
  s.stateCode + 4 * b2n (s.sys.phase == .kindling && s.sys.dousePend) + 8 * b2n s.sys.lastWarm

/-- A bitmap over the addresses of the rings: word 2r + w, bit b for address 32w + b of ring r. -/
def State.addrMap (s : State) (k : Nat) (f : View → Bool) : Nat :=
  maskOf ((List.range 32).filter (fun b =>
    let a := 32 * (k % 2) + b
    a != 0 && f (s.view (wKey (k / 2) a))))

/-- HDL.PINSTAT. -/
def State.pinStat (s : State) : Nat :=
  maskOf ((List.range 16).filter s.forced) + 2 ^ 16 * maskOf ((List.range 16).filter s.dinOpen)

/-- HDL.PGSTAT[g]. -/
def State.pgStat (s : State) (g : Nat) : Nat :=
  if s.pgRuns g then 1 + 2 * b2n (s.pgEcon g) + 4 * s.pgHolders g else 0

/-- PG.POS[g]: somewhere in the period, where in it being free. -/
def State.pgPos (s : State) (g : Nat) : Nat :=
  let n := pgClocks (s.pg g).period
  if n = 0 ∨ (s.pg g).counting = false then 0 else Config.freeNat (s.free + g) % n

/-- The slot of a generator's impedance result that port or core source `src` selects: an IMPRUN handle that is open. -/
def State.impOf (s : State) (slot : Nat) : Option ImpMgr :=
  if (s.slot slot).isOpen && (s.slot slot).cls == 0x0E then Tbl.find s.flue.imps slot else none

/-- Word `k` of the 51 words of a point (R433): header, validity, tick, real and imaginary parts. Status 0x5 where there is
no such result. -/
def State.impWord (s : State) (slot point k : Nat) : Nat :=
  match s.impOf slot with
  | none => if k = 0 then 5 else 0
  | some m =>
    match Tbl.find m.points point with
    | none => if k = 0 then 5 else 0
    | some p =>
      let ok (c : Nat) := bit p.valid c
      let z (c : Nat) : Int × Int := nth (0, 0) p.z c
      if k = 0 then p.status + 8 * p.repeats + 2 ^ 16 * p.freq
      else if k = 1 then p.valid
      else if k = 2 then p.tick
      else if k < 27 then (if ok (k - 3) then toTwos 32 (z (k - 3)).1 else 0)
      else if ok (k - 27) then toTwos 32 (z (k - 27)).2 else 0

/-- A selected point for a reader: a port's CAP.IMPSEL; a core reads 0 (R433). -/
def State.impSel (s : State) (src k : Nat) : Nat :=
  if src < 4 then s.impWord (s.pf (0x1304 + src) 0 11) (s.pf (0x1304 + src) 12 4) k else 0

/-- A word of a key hash in the fuses. -/
def State.fuseHash (s : State) (lo a : Nat) : Nat := s.fz (lo + 32 * (a % 8)) 32

/-- LEDG.WEAR_I2T[n] in A²s, from mA²ms (R510). -/
def State.wearI2t (s : State) (n : Nat) : Nat := Nat.min (Tbl.get 0 s.nvm.wear (32 + n) / 1000000000) 0xFFFFFFFF

/-- The local need (R709). -/
def State.localNeed (s : State) : Bool :=
  s.sys.phase == .kindling ||
  (s.full &&
    (s.pf 0x3004 0 8 != 0 ||
      (List.range 64).any (fun n => s.pb (0x3006 + n / 32) (n % 32) && s.swLevel n) ||
      (s.pf 0x3005 0 16 != 0 && 1000 * s.pf 0x3005 0 16 < (s.inst (s.pf 0x3005 16 3)).lastI) ||
      (match s.net.litUs with
        | none => true
        | some u => decide (u < 1000000 * s.pf 0x3002 16 4))))

/-- What a read of a listed address returns; `src` is the reading port, or 4 and above for a core (R433, R508, R785). -/
def State.readParam (s : State) (src a : Nat) : Nat :=
  if a = 0x0101 then s.role
  else if a = 0x0103 then popcount s.ledgMap 8 + 16 * s.ledgMap
  else if a = 0x0104 then s.stateWord
  else if a = 0x0109 then s.fuseWord
  else if 0x0110 ≤ a ∧ a ≤ 0x0117 then s.fuseHash 0x500 (a - 0x0110)
  else if 0x0118 ≤ a ∧ a ≤ 0x011F then s.fuseHash 0x600 (a - 0x0118)
  else if a = 0x0201 then s.tick32
  else if a = 0x0202 then s.tick / 2 ^ 32
  else if a = 0x0204 then s.island.rtc
  else if 0x0308 ≤ a ∧ a ≤ 0x030D then (s.seqStep (a - 0x0308)).1 + 8 * (s.seqStep (a - 0x0308)).2
  else if 0x0310 ≤ a ∧ a ≤ 0x0314 then s.pdWord (a - 0x0310)
  else if a = 0x0500 then s.openCount + 2 ^ 16 * s.pf a 16 12
  else if a = 0x0501 then s.nvm.epoch
  else if a = 0x0502 then s.pinStat
  else if 0x0510 ≤ a ∧ a ≤ 0x051F then s.pgStat (a - 0x0510)
  else if 0x0520 ≤ a ∧ a ≤ 0x052F then (s.pg (a - 0x0520)).period
  else if a = 0x0603 then s.p a ||| 0x6FC00000
  else if a = 0x060F then s.nvm.jnext % 2 ^ 32
  else if 0x1010 ≤ a ∧ a ≤ 0x1017 then s.addrMap (a - 0x1010) (fun v => v.here && v.got)
  else if 0x1018 ≤ a ∧ a ≤ 0x101F then s.addrMap (a - 0x1018) (fun v => v.here && v.lost)
  else if a = 0x1301 then s.streamUsed
  else if 0x1310 ≤ a ∧ a ≤ 0x1342 then s.impSel src (a - 0x1310)
  else if 0x1820 ≤ a ∧ a ≤ 0x1827 then (s.inst (a - 0x1820)).newest
  else if 0x1828 ≤ a ∧ a ≤ 0x182F then (s.inst (a - 0x1828)).acked
  else if 0x1840 ≤ a ∧ a ≤ 0x184F then leAt devicePub (4 * (a - 0x1840)) 4
  else if 0x1850 ≤ a ∧ a ≤ 0x1857 then Tbl.get 0 s.nvm.wear (a - 0x1850)
  else if 0x1858 ≤ a ∧ a ≤ 0x185F then s.wearI2t (a - 0x1858)
  else if 0x1860 ≤ a ∧ a ≤ 0x1867 then Tbl.get 0 s.nvm.wear (a - 0x1850)
  else if 0x1910 ≤ a ∧ a ≤ 0x1917 then s.addrMap (a - 0x1910) (fun v => v.here && v.owner == s.role && !v.lapsed)
  else if 0x2100 ≤ a ∧ a ≤ 0x211F ∧ a % 2 = 1 then s.pgPos ((a - 0x2100) / 2)
  else if a = 0x2841 ∨ a = 0x2842 then
    maskOf ((List.range 32).filter (fun b => s.swLevel (32 * (a - 0x2841) + b)))
  else if a = 0x300A then setFld (setFld (s.p a) 0 1 (b2n s.localNeed)) 2 1 (b2n (s.island.napS != 0))
  else if 0x3800 ≤ a ∧ a < 0x3820 ∧ a % 8 = 2 then setFld (s.p a) 16 13 (s.core ((a - 0x3800) / 8)).pc
  else if 0x2850 ≤ a ∧ a ≤ 0x2857 then s.stnMap 46 (a - 0x2850)
  else if 0x2858 ≤ a ∧ a ≤ 0x285F then s.stnMap 47 (a - 0x2858)
  else s.p a

end Sys2Proof.Machine
end

