-- ==== Sys2Proof/Machine/Operands.lean ====
section
/-! DEFINITION. The operand of a parameter write: its address, access, ranges and what the write does besides storing
(R9 to R11, R43, R254, R578, R642, R694, R700, R721, R722, R780 to R787, R837, R847). -/

namespace Sys2Proof.Machine

/-- Who writes: a command outside Kindling, with the watchdog at its receipt; CONFIG_WRITE PARAM; an image. -/
inductive WMode where
  | host (k : WdgSnap)
  | param
  | image
deriving DecidableEq, Repr

/-- Whether a field of an access takes the written value. -/
def WMode.takes (m : WMode) (k : Acc) : Bool :=
  match m, k with
  | .host k, .rww => k.perOpen
  | .host _, .rwk => false
  | .host _, .ro => false
  | .host _, _ => true
  | _, .rw => true
  | _, .rwk => true
  | _, .rwn => true
  | _, .rww => true
  | _, _ => false

/-- Whether a LIN port's entries in use leave room for their frames (R700). -/
def State.linFits (s : State) : Bool :=
  let t := periodUs (s.pf 0x0200 0 3)
  (List.range 2).all (fun l =>
    let c := s.p (0x3030 + l)
    !bit c 0 || (List.range (fld c 4 5)).all (fun e =>
      let f := s.p (0x3040 + 16 * l + e)
      let rate := nth 0 [2400, 9600, 10417, 19200] (fld c 1 2)
      14 * (34 + 10 * (fld f 7 4 + 1)) * 1000000 ≤ 10 * (fld f 16 8 * t * rate)))

/-- Whether the command controller's settings agree (R694). -/
def State.canFits (s : State) : Bool :=
  let c := s.pf 0x0402 0 2
  !s.pb 0x0400 2 || !s.pb 0x0402 2 || s.pf (0x3010 + 2 * c) 4 3 != 0

/-- Whether HS.WELD names contactors only (R847). -/
def State.weldFits (s : State) : Bool := (bitsOf (s.p 0x2730) 8).all s.isCon

/-- Whether a channel's set-up agrees with its class (R578). -/
def hsFits (n w : Nat) : Bool := !bit w 0 || (n < 8 && !bit w 1 && !bit w 16 && fld w 6 2 == 0)

/-- Whether the two-wire addresses are apart (R721, R722). -/
def State.twFits (s : State) : Bool :=
  let a := s.p 0x302C
  let l := [fld a 0 7, fld a 8 7, fld a 16 7, fld a 24 7]
  let c := s.p 0x302D
  nth 0 l 0 != 0 && fld c 1 2 == 3 &&
    (bit c 0 || (let u := l.filter (· != 0); u.eraseDups.length == u.length))

/-- Whether the word that a write leaves at `a` breaks no rule across fields (R837). `s` holds it already. -/
def State.paramCross (s : State) (a : Nat) : Bool :=
  let w := s.p a
  if a = 0x0200 then s.linFits
  else if a = 0x0401 then (List.range 8).all (fun k => (List.range 8).any (fun n => fld w (4 * n) 4 == k))
  else if a = 0x0400 ∨ a = 0x0402 then s.canFits
  else if 0x0604 ≤ a ∧ a ≤ 0x0607 then
    evNoDouse.all (fun e => e / 16 != a - 0x0604 || fld w (2 * (e % 16)) 2 != 3)
  else if 0x2000 ≤ a ∧ a < 0x20F0 ∧ (a - 0x2000) % 6 = 0 then hsFits ((a - 0x2000) / 6) w && s.weldFits
  else if a = 0x2730 then s.weldFits
  else if 0x2241 ≤ a ∧ a < 0x2250 ∧ a % 2 = 1 then w == 0 || 5 * s.pf (a - 1) 8 7 ≤ w
  else if 0x2500 ≤ a ∧ a < 0x2540 ∧ a % 16 = 0 then fld w 0 16 * fld w 16 4 ≤ 1500 * 60
  else if 0x2507 ≤ a ∧ a < 0x2540 ∧ a % 16 = 7 then fld w 0 16 ≤ s.pf (a - 7) 0 16
  else if a = 0x3001 then fld w 0 29 + 63 < (if bit w 31 then 2 ^ 29 else 2 ^ 11)
  else if 0x3010 ≤ a ∧ a < 0x3018 then s.canFits
  else if a = 0x302C ∨ a = 0x302D then s.twFits
  else if 0x3030 ≤ a ∧ a ≤ 0x305F then s.linFits
  else true

/-- Sending on the partner link a frame that the partner acknowledges (R518). -/
def State.partSend (s : State) (typ : Nat) (body : List Byte) : State :=
  let n := s.part.seq
  (s.partOut typ body).mapPart (fun p => { p with unacked := p.unacked ++ [(n, typ, body)] })

/-- A request for resynchronisation (R541): the newest turf of each instance. -/
def State.sendResync (s : State) : State :=
  s.partSend 0x14 (le 1 2 ++ zeros 3 ++ (List.range 8).flatMap (fun n => le 4 (s.inst n).newest))

/-- A write of LEDG.INSTCFG[n].EN: an instance that is not enabled is CLOSED (R503). DEDUCED: one that CONFIG_WRITE PARAM enables
after a load is PENDING, as one that the load enables is, until the release reconstructs it. -/
def State.instEnable (s old : State) (n : Nat) : State :=
  if !s.pb (0x1800 + n) 31 then s.setPf (0x1818 + n) 0 3 0
  else if !old.pb (0x1800 + n) 31 && s.sys.image.isSome then s.setPf (0x1818 + n) 0 3 1 else s

/-- What a stored write does besides (R256, R258, R503, R569, R588, R612, R625, R636, R696, R519). `old` is the state before it. -/
def State.paramEffect (s old : State) (a v : Nat) : State :=
  if a = 0x0600 ∨ a = 0x0601 then
    (s.setP a (old.p a)).each (bitsOf v 32) (fun t b => t.clearEv (32 * (a - 0x0600) + b))
  else if a = 0x0602 ∨ a = 0x0603 then
    s.enabled (fun k => if k = a - 0x0602 then old.p a else s.p (0x0602 + k))
  else if 0x2000 ≤ a ∧ a < 0x20F0 ∧ (a - 0x2000) % 6 = 2 then
    let n := (a - 0x2000) / 6
    if bit v 4 then ((s.setPb a 4 (old.pb a 4)).hsUnlatch n) else s
  else if 0x2720 ≤ a ∧ a < 0x2730 then s.hsDrive (24 + (a - 0x2720))
  else if 0x2700 ≤ a ∧ a < 0x2720 ∧ a % 4 = 2 then s.updHs ((a - 0x2700) / 4) (fun c => { c with econPend := true })
  else if 0x2300 ≤ a ∧ a < 0x2380 ∧ a % 4 = 0 then s.ledAgain ((a - 0x2300) / 4)
  else if 0x23A0 ≤ a ∧ a ≤ 0x23C0 then s.each ((List.range 32).filter (fun n => s.pf (ledCfg n) 8 2 == 3)) (fun t n => t.ledAgain n)
  else if 0x2400 ≤ a ∧ a < 0x2440 ∧ a % 8 = 2 then s.updHb ((a - 0x2400) / 8) (fun h => { h with runPend := true })
  else if 0x2400 ≤ a ∧ a < 0x2440 ∧ a % 8 = 7 then
    let b := (a - 0x2400) / 8
    let s1 := s.setPb (hbStat b) 7 true
    if s1.hbMoving b then s1 else s1.hbKeep b
  else if 0x3010 ≤ a ∧ a < 0x3018 ∧ a % 2 = 0 then
    let c := (a - 0x3010) / 2
    if s.pf (a + 1) 0 2 = 2 then s.mapNet (fun n => { n with canFree := insNat c n.canFree }) else s
  else if 0x1800 ≤ a ∧ a < 0x1808 then s.instEnable old (a - 0x1800)
  else if a = 0x1907 then
    let s1 := if bit v 0 then s.partSend 0x14 (le 1 1 ++ zeros 3) else s
    if bit v 1 && s1.pb 0x1905 0 then s1.sendResync else s1
  else s

/-- A write of WDG.PERIOD that was received before the period in progress began on the configured values is that period's length
(R296, R297). -/
def State.wdgLength (s : State) (m : WMode) (a : Nat) : State :=
  match m with
  | .host k => if a = 0x0702 ∧ k.stamp < s.wdg.loaded then s.mapWdg (fun w => { w with periodMs := 10 * s.pf 0x0702 0 8 }) else s
  | _ => s

/-- A write of one parameter: its status, and the state after it (R780, R783, R837). -/
def State.paramWrite (s : State) (m : WMode) (a v : Nat) : Nat × State :=
  match paramRow a with
  | none => (0x0103, s)
  | some r =>
    let old := s.p a
    if r.allRo then (0x0301, s)
    else if !m.takes .rwk && r.changes .rwk old v then (0x0300, s)
    else if !m.takes .rww && r.changes .rww old v then (0x0301, s.setPb 0x0703 21 true)
    else if !r.inRange m.takes v then (0x0103, s)
    else
      let s1 := s.setP a (r.apply m.takes old v)
      if !s1.paramCross a then (0x0103, s) else (0, (s1.paramEffect s a v).wdgLength m a)

/-- CONFIG_WRITE PARAM reaches parameters with access RWK alone (R96). -/
def State.paramConfig (s : State) (a v : Nat) : Nat × State :=
  match paramRow a with
  | none => (0x0103, s)
  | some r =>
    if !r.isKindling then (0x0301, s)
    else
      let q := s.paramWrite .param a v
      (q.1, if q.1 = 0 then q.2.mapSys (fun y => { y with paramHold := insNat a y.paramHold }) else q.2)

/-- SET_BLOCK's values in order: the index and status of the first refused one, or the state with all of them (R177). -/
def State.paramBlock (s : State) (m : WMode) (a : Nat) : Nat → List Nat → Nat × Nat × State
  | _, [] => (0, 0xFFFF, s)
  | i, v :: l =>
    let q := s.paramWrite m a v
    if q.1 ≠ 0 then (q.1, i, q.2) else q.2.paramBlock m (a + 1) (i + 1) l

/-- An image's value (R786): a field that the image may not set keeps its word, and the write is not refused. -/
def State.paramImage (s : State) (a v : Nat) : State :=
  match paramRow a with
  | none => s
  | some r => s.setP a (r.apply WMode.image.takes (s.p a) v)

end Sys2Proof.Machine
end

