-- ==== Sys2Proof/Machine/Ledger.lean ====
section
/-! DEFINITION. The Peat ledger at the manager: mirrors, spans and turfs, snapshots, reconstruction (R462, R463, R474 to
R511, R536 to R543). -/

namespace Sys2Proof.Machine

/-- LEDG.INSTSTAT[n]. -/
def instStat (n : Nat) : Nat := 0x1818 + n

/-- The state of an instance (R503): 0 CLOSED, 1 PENDING, 2 RUNNING, 3 VOID, 4 FOREIGN, 5 SEALED. -/
def State.instState (s : State) (n : Nat) : Nat := s.pf (instStat n) 0 3

/-- Whether an instance decides and keeps a value. -/
def State.instLives (s : State) (n : Nat) : Bool := s.instState n == 2 || s.instState n == 5

/-- The place of an instance's meter worker (R476). -/
def State.instW (s : State) (n : Nat) : Nat := wKey (s.pf (0x1800 + n) 6 2) (s.pf (0x1800 + n) 0 6)

/-- Whether this manager owns the instance (R478). -/
def State.ownsInst (s : State) (n : Nat) : Bool := s.owns (s.instW n)

/-- Whether a worker is a member of an instance (R476). -/
def State.isMember (s : State) (n w : Nat) : Bool :=
  (List.range 2).any (fun j =>
    let c := s.p (0x1808 + 2 * n + j)
    bit c 31 && fld c 0 2 == wRing w && fld c 8 6 ≤ wAddr w && wAddr w ≤ fld c 16 6)

/-- The newest valid mirror slot (R496). -/
def Inst.mirror (i : Inst) : Option AccSlot := newerSlot i.m0 i.m1

/-- Writing a mirror slot (R466, R477). -/
def Inst.putMirror (i : Inst) (a : AccSlot) : Inst :=
  if a.seq % 2 = 0 then { i with m0 := some a } else { i with m1 := some a }

/-- The four totals of a slot. -/
def slotTotals (a : AccSlot) : List Nat := [a.eIn, a.eOut, a.qIn, a.qOut]

/-- The slot that a record makes in the mirror (R477). -/
def State.mirrorSlot (s : State) (r : MeterRec) (tick : Nat) : AccSlot :=
  { seq := r.seq, tick := tick, segment := r.segment, flags := r.sflags, rtc := s.island.rtc, eIn := r.eIn,
    eOut := r.eOut, qIn := r.qIn, qOut := r.qOut, good := true }

/-- The instances that a meter worker serves. -/
def State.instsOf (s : State) (w : Nat) : List Nat := s.instances.filter (fun n => s.instW n == w)

/-- The SEQ of the valid slot that a meter worker kept at its power-up (R470), as the worker at the place holds it; without one, that
of the slot before the record's (DEDUCED; log 109). -/
def State.keptSeq (s : State) (w : Nat) (r : MeterRec) : Nat :=
  match s.wkFind w with
  | some e => e.2.meterU.kept
  | none => r.seq - 1

/-- A meter record has arrived (R470, R477): EV57 when ABANDONED appears, with the SEQ of the slot that was kept. A LATE record older
than one that waits for this tick's Commit leaves that one. -/
def State.ledgRecord (s : State) (w : Nat) (r : MeterRec) (tick : Nat) : State :=
  s.each (s.instsOf w) (fun t n =>
    let was := match (t.inst n).lastRec with
      | some o => bit o.mstat 5
      | none => false
    let t1 := if bit r.mstat 5 && !was then t.raise 57 (le 1 n ++ le 1 0 ++ le 8 (s.keptSeq w r)) else t
    if (t.inst n).fresh && tick < (t.inst n).recTick then t1
    else t1.updInst n (fun i => { i with lastRec := some r, recTick := tick, fresh := true }))

/-- The instance's totals as last known (table "Coinciding conditions" of the ledger chapter). -/
def Inst.totals (i : Inst) : List Nat :=
  match i.lastRec with
  | some r => [r.eIn, r.eOut, r.qIn, r.qOut]
  | none => match i.mirror with
    | some a => slotTotals a
    | none => [0, 0, 0, 0]

/-- A count field of `w` bits, which saturates. -/
def satW (w v : Nat) : Nat := Nat.min v (2 ^ w - 1)

/-- A turf out of the span, to be written (R481, R482): its INDEX is given when it is written. Where no cell was judged the
CELLS fields are free. -/
def State.spanTurf (s : State) (n kind rtcEnd : Nat) : Turf :=
  let i := s.inst n
  let p := i.span
  let tot := i.totals
  let del := (List.range 4).map (fun k => (nth 0 tot k - nth 0 i.base k) / 10000)
  let cont := s.pf (0x1800 + n) 8 8
  let vb := s.pf (0x1800 + n) 16 6
  let ops := (List.range 8).map (fun c => if bit cont c then nth 0 p.contOps c else 0)
  let i2t := (List.range 8).map (fun c => if bit cont c then nth 0 p.contI2t c / 1000000000 else 0)
  let vlv := (List.range 6).map (fun b => if bit vb b then nth 0 p.vlv b else 0)
  let sat := ops.any (65535 < ·) || i2t.any (65535 < ·) || vlv.any (65535 < ·) || p.evtCounts.any (65535 < ·) ||
    decide (0xFFFFFFFF < p.disTicks) || decide (0xFFFFFFFF < p.blindTicks) || del.any (0xFFFFFFFF < ·)
  let neg := (List.range 4).any (fun k => nth 0 tot k < nth 0 i.base k)
  let cf (k m x : Nat) : Nat := if p.cellMin = 0xFFFF then Config.freeNat (s.free + k) % m else x
  let fl := p.tflags % 16 + b2n (s.pb (instStat n) 6 && p.tflags % 2 == 0)
  { index := 0, inst := n, segment := s.pf (instStat n) 8 8, kind := kind,
    tflags := setFld (setFld (setFld fl 2 1 (b2n (bit p.tflags 2 || s.pb 0x0203 2))) 4 1 (b2n (p.blindTicks != 0))) 5 1 (b2n (sat || neg)),
    startTick := p.startTick, endTick := s.tick, startRtc := p.startRtc, endRtc := rtcEnd, totals := tot,
    deltas := del.map (satW 32), cellMin := cf 0 65536 p.cellMin, cellMax := cf 1 65536 p.cellMax,
    cellMinLoc := cf 2 256 p.cellMinLoc, cellMinNo := cf 3 256 p.cellMinNo, cellMaxLoc := cf 4 256 p.cellMaxLoc,
    cellMaxNo := cf 5 256 p.cellMaxNo,
    hist := (List.range 8).map (fun k => nth 0 p.hist k / 1000000), disMax := p.disMax,
    disTicks := satW 32 p.disTicks, blindTicks := satW 32 p.blindTicks, evtMap := p.evtMap,
    evtCounts := p.evtCounts.map (satW 16), contOps := ops.map (satW 16), contI2t := i2t.map (satW 16),
    vlvCnt := vlv.map (satW 16), firstIndex := 0, signature := [] }

/-- A span begins (R482), with the remainders of the histogram of the turf before it (R481). -/
def State.spanStart (s : State) (n tflags : Nat) : State :=
  s.updInst n (fun i => { i with adds := [], span := { Span.d with
    startTick := s.tick, startRtc := s.island.rtc, tflags := tflags, hist := i.rems } })

/-- The part of a histogram that whole seconds leave (R481). -/
def histRem (l : List Nat) : List Nat := (List.range 8).map (fun k => nth 0 l k % 1000000)

/-- The next span begins, with the remainders of the histogram (R481, R482). -/
def State.spanNext (s : State) (n : Nat) : State :=
  (s.updInst n (fun i => { i with base := i.totals, rems := histRem i.span.hist })).spanStart n 0

/-- The span's turf waits, and the next span begins. -/
def State.spanCut (s : State) (n kind rtcEnd : Nat) (cmd : Bool) : State :=
  let t := { s.spanTurf n kind rtcEnd with index := b2n cmd }
  ((s.updInst n (fun i => { i with due := i.due ++ [t] })).setPb (instStat n) 6 false).spanNext n

/-- A span ends (R482, R506): its turf waits to be written, and the next span begins. Only an instance that is RUNNING and
owned makes turfs (R478, R502, R509); a manager that does not own it begins its next span without one (R537). A period end
or sleep entry in the tick of another end makes no turf of its own, and a
command's end joins a period end of its tick (table "Coinciding conditions"). A turf that waits carries INDEX 1 when a command
ended it. -/
def State.spanEnd (s : State) (n kind rtcEnd : Nat) (cmd : Bool) : State :=
  if s.instState n = 2 ∧ s.ownsInst n = true ∧ s.full = true then
    let old := (s.inst n).due.getLast?.filter (fun t => t.endTick == s.tick && (s.inst n).span.startTick == s.tick)
    match old with
    | some t =>
      if !cmd then s
      else if t.index = 0 then s.updInst n (fun i => { i with
        due := i.due.dropLast ++ [{ t with kind := kind, endRtc := rtcEnd, index := 1 }] })
      else s.spanCut n kind rtcEnd cmd
    | none => s.spanCut n kind rtcEnd cmd
  else if s.instState n = 2 ∧ s.full = true then s.spanNext n
  else s

/-- Insertion by rising INDEX. -/
def insTurf (t : Turf) : List Turf → List Turf
  | [] => [t]
  | u :: r => if t.index ≤ u.index then t :: u :: r else u :: insTurf t r

/-- The turfs in journal order. -/
def Inst.sorted (i : Inst) : List Turf := (i.turfs.map (·.2)).foldl (fun l t => insTurf t l) []

/-- A merged turf (R486, R487) of an older and a newer one. -/
def mergeTurf (a b : Turf) : Turf :=
  let z (w : Nat) (l m : List Nat) (k : Nat) := (List.range k).map (fun j => satW w (nth 0 l j + nth 0 m j))
  let fulls (w : Nat) (l m : List Nat) (k : Nat) := (List.range k).any (fun j => 2 ^ w ≤ nth 0 l j + nth 0 m j)
  let sat := fulls 32 a.deltas b.deltas 4 || fulls 32 a.hist b.hist 8 || fulls 16 a.evtCounts b.evtCounts 3 ||
    fulls 16 a.contOps b.contOps 8 || fulls 16 a.contI2t b.contI2t 8 || fulls 16 a.vlvCnt b.vlvCnt 6 ||
    decide (2 ^ 32 ≤ a.disTicks + b.disTicks) || decide (2 ^ 32 ≤ a.blindTicks + b.blindTicks)
  let lowA := a.cellMin ≤ b.cellMin
  let highA := b.cellMax ≤ a.cellMax
  { b with
    kind := 1, tflags := (a.tflags ||| b.tflags) ||| (32 * b2n sat), startTick := a.startTick, startRtc := a.startRtc,
    firstIndex := a.firstIndex, deltas := z 32 a.deltas b.deltas 4,
    cellMin := if lowA then a.cellMin else b.cellMin, cellMinLoc := if lowA then a.cellMinLoc else b.cellMinLoc,
    cellMinNo := if lowA then a.cellMinNo else b.cellMinNo, cellMax := if highA then a.cellMax else b.cellMax,
    cellMaxLoc := if highA then a.cellMaxLoc else b.cellMaxLoc,
    cellMaxNo := if highA then a.cellMaxNo else b.cellMaxNo, hist := z 32 a.hist b.hist 8,
    disMax := Nat.max a.disMax b.disMax, disTicks := satW 32 (a.disTicks + b.disTicks),
    blindTicks := satW 32 (a.blindTicks + b.blindTicks), evtMap := a.evtMap ||| b.evtMap,
    evtCounts := z 16 a.evtCounts b.evtCounts 3, contOps := z 16 a.contOps b.contOps 8,
    contI2t := z 16 a.contI2t b.contI2t 8, vlvCnt := z 16 a.vlvCnt b.vlvCnt 6 }

/-- The device's signature of a turf, by draw (R483): over the SHA-256 of bytes 0 to 191 and the device serial. -/
def State.sign (s : State) (t : Turf) : Turf :=
  { t with signature := deviceSign (Config.signNonce s.free) (sha256 (turfBody t ++ le 8 Config.serial.toNat)) }

/-- A turf in its journal slot. -/
def Inst.putTurf (i : Inst) (t : Turf) : Inst := { i with turfs := Tbl.set i.turfs (t.index % 1024) t }

/-- LEDGSYNC frames to the partner while the link is up (R538). -/
def State.ledgSync (s : State) (n kind : Nat) (body : List Byte) : State :=
  if s.role ≠ 0 ∧ s.pb 0x1905 0 = true then s.partSend 0x12 (le 1 kind ++ le 1 n ++ zeros 2 ++ body) else s

/-- Whether a turf of the instance has not been acknowledged (R485). -/
def Inst.unacked (i : Inst) (t : Turf) : Bool := !i.ackAny || i.acked < t.index

/-- The merge that a full journal needs before a new turf, which the partner gets as each turf (R486, R511, R538). -/
def State.mergeTurfs (s : State) (n : Nat) : State :=
  let i := s.inst n
  let full := match Tbl.find i.turfs ((i.newest + 1) % 1024) with
    | some t => i.any && i.unacked t
    | none => false
  match (i.sorted.filter i.unacked).take 24 with
  | a :: l =>
    if !full then s
    else
      let m := (s.sign (l.foldl mergeTurf a))
      let gone := (a :: l).map (fun t => t.index % 1024)
      (((s.drawn).updInst n (fun i => { i with
        turfs := Tbl.set (i.turfs.filter (fun e => !gone.contains e.1)) (m.index % 1024) m })).mramFresh (turfAddr n m.index) 256).ledgSync
          n 1 (turfBytes m)
  | [] => s

/-- The binding goes to the partner after a change (R538). -/
def State.bindSync (s : State) (n : Nat) : State := s.ledgSync n 3 (bindingBytes (s.inst n).bind)

/-- A due turf is written (R483, R486, R538, R542), the first of an instance with INDEX 0 (R831). -/
def State.writeTurf (s : State) (n : Nat) (t : Turf) : State :=
  let s1 := s.mergeTurfs n
  let i := s1.inst n
  let idx := if i.any then i.newest + 1 else 0
  let u := s1.sign { t with index := idx, firstIndex := idx }
  let s2 := (s1.drawn).updInst n (fun i => { (i.putTurf u) with newest := idx, any := true })
  let s3 := (s2.mapPart (fun p => { p with turfDone := insNat n p.turfDone })).mramFresh (turfAddr n idx) 256
  s3.ledgSync n 1 (turfBytes u)

/-- TURF_WRITE (R483): the due turfs of the instance, oldest first. -/
def execTurfWrite (inst : Nat) (s : State) : Host.Outcome State Fault Refusal :=
  done (
    let l := (s.inst inst).due
    if l.isEmpty then s
    else (s.updInst inst (fun i => { i with due := [] })).each l (fun t u => t.writeTurf inst u))

/-- TURF_PERIOD_END (R482). -/
def execTurfPeriodEnd (s : State) : Host.Outcome State Fault Refusal :=
  done (if s.full then s.each s.instances (fun t n => t.spanEnd n 0 t.island.rtc false) else s)

/-- SHARD_PERIOD (R491). -/
def execShardPeriod (s : State) : Host.Outcome State Fault Refusal :=
  done (if s.full then
    s.each (s.instances.filter (fun n => s.instState n == 2)) (fun t n => t.updInst n (fun i => { i with snapNow := true }))
  else s)

/-- The wall time goes to each meter worker that this manager owns (R474). -/
def State.sendTimes (s : State) : State :=
  s.each (s.workers.filter (fun w => (s.view w).meter && s.owns w)) (fun t w => t.toWorker w 1 t.island.rtc)

/-- METER_TIME_SEND (R474). -/
def execMeterTimeSend (s : State) : Host.Outcome State Fault Refusal := done (if s.full then s.sendTimes else s)

/-- A snapshot (R490), from the slot that this tick's Commit writes. -/
def State.snapshot (s : State) (n : Nat) (a : AccSlot) : List Byte :=
  let b := (s.inst n).bind
  withCrc (le 8 (b.serial.getD 0) ++ le 8 Config.serial.toNat ++ (slotBody a).take 56 ++ le 1 n ++ le 1 b.holders.length ++
    zeros 18)

/-- The snapshots due in this Apply (R491, R494, R502, R509): a lost holder is skipped. -/
def State.sendSnaps (s : State) : State :=
  s.each (s.instances.filter (fun n => (s.inst n).snapNow || (s.inst n).snapNext)) (fun t n =>
    let i := t.inst n
    let t0 := t.updInst n (fun i => { i with snapNow := i.snapNext, snapNext := false })
    let a := match i.fresh, i.lastRec with
      | true, some r => some (t.mirrorSlot r i.recTick)
      | _, _ => i.mirror
    if i.snapNow = false ∨ t.instState n ≠ 2 ∨ t.ownsInst n = false then t0
    else match a with
      | none => t0
      | some a =>
        let l := wordsOf (t.snapshot n a)
        t0.each i.bind.holders (fun t h =>
          let w := wKey h.1 h.2
          if (t.view w).here && !(t.view w).lost then
            t.toWorkers w (l.zipIdx.map (fun e => (0x100 + e.2, e.1)) ++ [(0x118, n)])
          else t.incPf (instStat n) 24 8))

/-- The slots to be written to meter workers go out (R314, R500). -/
def State.sendSlots (s : State) : State :=
  s.each (s.instances.filter (fun n => (s.inst n).slotOut.isSome)) (fun t n =>
    match (t.inst n).slotOut with
    | none => t
    | some a =>
      (t.updInst n (fun i => { i with slotOut := none, slotSent := if a.2 then some a.1 else none })).toWorkers (t.instW n)
        ((wordsOf (slotBody a.1)).zipIdx.map (fun e => (0x120 + e.2, e.1)) ++ [(0x12F, 0)]))

/-- The mirror slots of this tick's Commit (R477): the slot that this tick's Apply wrote to the meter worker, which holds it from this
Commit on (R500, R508), else the new record's. An instance that no reconstruction has decided keeps its mirror, G of R496 (DEDUCED;
log 170). -/
def State.mirrorCommit (s : State) : State :=
  s.each s.instances (fun t n =>
    let i := t.inst n
    match i.slotSent with
    | some a => (t.updInst n (fun i => { (i.putMirror a) with
        fresh := false, slotSent := none, mirTick := some t.tick, mirRec := some t.tick })).setPf (instStat n) 8 8 a.segment
    | none => match i.fresh, i.lastRec with
      | true, some r =>
        if 2 ≤ t.instState n then
          (t.updInst n (fun i => { (i.putMirror (t.mirrorSlot r i.recTick)) with
            fresh := false, mirTick := some t.tick, mirRec := some i.recTick })).setPf (instStat n) 8 8 r.segment
        else t.updInst n (fun i => { i with fresh := false })
      | _, _ => t)

/-- Whether slot `x` is larger than `y` (R498). -/
def slotLarger (x y : AccSlot) : Bool :=
  y.eIn + y.eOut < x.eIn + x.eOut || (x.eIn + x.eOut == y.eIn + y.eOut && y.seq < x.seq)

/-- Insertion by falling SEQ. -/
def insSeq (a : AccSlot) : List AccSlot → List AccSlot
  | [] => [a]
  | b :: r => if b.seq ≤ a.seq then a :: b :: r else b :: insSeq a r

/-- The slot inside a snapshot. -/
def snapSlot (l : List Word) : AccSlot := slotOf ((bytesOf (l.map (·.toNat))).drop 16) true

/-- Q and the number of valid holders, and for each SEQ that entries of different content share the largest difference in mWh between
two of them (R496). -/
def State.quorum (s : State) (n serial : Nat) (l : List ShardRead) : Option AccSlot × Nat × List Nat :=
  let ok := l.filter (fun x =>
    let w := x.words.map (·.toNat)
    x.words.length == 24 && snapGood w && leNat ((bytesOf w).take 8) == serial && fld (nth 0 w 18) 0 8 == n &&
      (s.view (wKey x.ring x.addr)).here)
  let clash (x : ShardRead) : Bool := ok.any (fun y => (snapSlot y.words).seq == (snapSlot x.words).seq && y.words != x.words)
  let bad := ok.filter clash
  let good := ok.filter (fun x => !clash x)
  let hs := (good.map (fun x => wKey x.ring x.addr)).eraseDups
  let best := hs.filterMap (fun h =>
    (((good.filter (fun x => wKey x.ring x.addr == h)).map (fun x => snapSlot x.words)).foldl (fun l a => insSeq a l) []).head?)
  let srt := best.foldl (fun l a => insSeq a l) []
  let k := srt.length
  let dif := ((bad.map (fun x => (snapSlot x.words).seq)).eraseDups).map (fun q =>
    let es := (bad.filter (fun x => (snapSlot x.words).seq == q)).map (fun x => (snapSlot x.words).eIn + (snapSlot x.words).eOut)
    (maxOf es - es.foldl Nat.min (maxOf es)) / 1000)
  (if k < s.pf 0x1831 16 5 then none else srt[k / 2]?, k, dif)

/-- What the manager would read back for an instance (R493, R496), from the workers as they stand: of the paired holders, or of every
enumerated worker but the meter worker where the binding names no holder (DEDUCED; log 194). -/
def State.reconGather (s : State) (n : Nat) : ReconIn :=
  let w := s.instW n
  let m := s.wkFind w
  let b := (s.inst n).bind.holders
  let asked := if b.isEmpty then (s.workers.filter (· != w)).map (fun x => (wRing x, wAddr x)) else b
  let hs := asked.filter (fun h => (s.wkFind (wKey h.1 h.2)).isSome)
  { inst := n, answered := m.isSome,
    serial := match m with
      | some e => e.2.serial
      | none => (s.view w).serial,
    slots := match m with
      | some e => e.2.meterU.slot0.toList ++ e.2.meterU.slot1.toList
      | none => [],
    holders := hs.length,
    shards := hs.flatMap (fun h => match s.wkFind (wKey h.1 h.2) with
      | some e => (List.range 2).filterMap (fun k => match Tbl.get [] e.2.shards (2 * n + k) with
        | [] => none
        | x => some ⟨h.1, h.2, x⟩)
      | none => []) }

/-- Writing a value to the meter worker and the mirror (R500): SEQ above both, a flag set. -/
def State.ledgWrite (s : State) (n : Nat) (v : AccSlot) (mseq flag : Nat) (fresh : Bool) : State :=
  let a := { v with seq := Nat.max v.seq mseq + 1, tick := s.tick, flags := flag, rtc := s.island.rtc, good := true }
  s.updInst n (fun i =>
    let j := { i with slotOut := some (a, !fresh) }
    if fresh then j else { (j.putMirror a) with mirTick := none, mirRec := none })

/-- The reconstruction of an instance (R495 to R503, R543). -/
def State.reconstruct (s : State) (x : ReconIn) : State :=
  let n := x.inst
  let i := s.inst n
  let cand := x.slots.foldl (fun l a => if a.good then insSeq a l else l) []
  let newest := if x.answered then cand.head? else none
  let fresh := match newest with
    | some a => bit a.flags 7
    | none => false
  let blank := newest.isNone || fresh
  let m0 := if fresh then none else newest
  let sealed := s.instState n == 5 || i.bind.isSealed
  let put (t : State) (st src : Nat) : State := ((t.setPf (instStat n) 0 3 (if sealed then 5 else st)).setPf (instStat n) 3 3 src)
  let foreign := x.answered && i.bind.serial.isSome && i.bind.serial != some x.serial && !blank
  let v := s.view (s.instW n)
  let own := if x.answered then x.serial else v.serial
  let rebind := (i.bind.serial.isNone && (x.answered || v.here)) || (x.answered && i.bind.serial != some x.serial && !foreign)
  let ev58 (t : State) (src k : Nat) : State := t.raise 58 (le 1 n ++ le 1 src ++ le 1 x.holders ++ le 1 k)
  let s0 := s.setPf (instStat n) 16 5 i.bind.holders.length
  if foreign then
    ev58 (put (s0.setPb (instStat n) 7 false) 4 4) 4 (s0.quorum n ((i.bind.serial).getD x.serial) x.shards).2.1
  else
    let other := rebind && i.bind.serial.isSome
    let s1 := (if rebind then s0.updInst n (fun i => { i with bind := { i.bind with serial := some own } }) else s0).setPb
      (instStat n) 7 rebind
    let s1 := if rebind && s1.ownsInst n then s1.bindSync n else s1
    let m := if other then none else m0
    let q := s1.quorum n ((i.bind.serial).getD own) x.shards
    let s2 := s1.each q.2.2 (fun t d => t.raise 59 (le 1 n ++ le 1 1 ++ le 4 (satW 32 d)))
    let g := i.mirror.filter (fun a => !bit a.flags 7)
    let big (a b : AccSlot) : AccSlot := if slotLarger b a then b else a
    let isLarger (o : Option AccSlot) (a : AccSlot) : Bool := match o with
      | some b => slotLarger b a
      | none => false
    let pick : Option (AccSlot × Nat) := match m, g with
      | some a, some b =>
        let c := big a b
        if isLarger q.1 c then q.1.map (fun z => (z, 2)) else some (c, if slotLarger b a then 1 else 0)
      | some a, none => if isLarger q.1 a then q.1.map (fun z => (z, 2)) else some (a, 0)
      | none, some b => if isLarger q.1 b then q.1.map (fun z => (z, 2)) else some (b, 1)
      | none, none => q.1.map (fun z => (z, 2))
    match pick with
    | none => ev58 (put s2 3 3) 3 q.2.1
    | some (v, src) =>
      let s3 := put s2 2 src
      let s4 := if src = 0 then s3 else ev58 s3 src q.2.1
      let e (a : AccSlot) := a.eIn + a.eOut
      let lower (a : AccSlot) : Bool := ((slotTotals a).zip (slotTotals v)).any (fun p => p.2 < p.1)
      let s5 := match m, g with
        | some a, some b =>
          let d := (Nat.max (e a) (e b) - Nat.min (e a) (e b)) / 1000
          if s.p 0x1832 < d ∨ (Nat.max (e a) (e b) - Nat.min (e a) (e b)) > 1000 * s.p 0x1832 ∨ lower a = true ∨ lower b = true then
            (s4.raise 59 (le 1 n ++ le 1 0 ++ le 4 (satW 32 d))).setPb (instStat n) 6 true
          else s4
        | _, _ => s4
      let s6 := s5.setPf (instStat n) 8 8 v.segment
      if src = 0 then s6.updInst n (fun i => i.putMirror v)
      else if s6.ownsInst n then
        (s6.ledgWrite n v (match newest with
          | some a => if other then 0 else a.seq
          | none => 0) 32 fresh).updInst n (fun i => { i with span := { i.span with tflags := setFld i.span.tflags 1 1 1 } })
      else s6.updInst n (fun i => i.putMirror v)

/-- The current of this tick's records: EV16 and EV17 (R462, R463). -/
def State.meterProtect (s : State) (w : Nat) (r : MeterRec) : State :=
  let c := s.p 0x1833
  let dis := decide (r.iPri.natAbs * fld c 0 8 + 100000 * fld c 8 8 < 1000 * (r.iPri - r.iChk).natAbs)
  let pb := bit r.mstat 0
  let cb := bit r.mstat 1
  let on := dis || pb || cb
  let n := if on then (s.view w).dis + 1 else 0
  let kind := if pb && cb then 3 else if pb then 1 else if cb then 2 else 0
  let loc := le 1 (wRing w) ++ le 1 (wAddr w)
  let s1 := (s.updView w (fun v => { v with dis := Nat.min n 255 })).level 17 w (on && fld c 16 8 ≤ n)
    (loc ++ le 1 kind ++ zeros 1 ++ le 2 r.disagree)
  if s.pf 0x1834 0 16 * s.pf 0x1002 0 7 * 1000 < r.iPeak.natAbs * 100 then
    s1.raise 16 (loc ++ zeros 2 ++ sle 2 (clampS 16 (divFree s.free r.iPeak 100)))
  else s1

/-- The histogram bin of a temperature in 0.1 °C (R481). -/
def histBin (t : Int) : Nat :=
  if t < -100 then 0 else if t < 0 then 1 else if t < 100 then 2 else if t < 250 then 3 else if t < 350 then 4
  else if t < 450 then 5 else if t < 550 then 6 else 7

/-- The result of this tick that the manager holds from a worker, on time (R326). -/
def State.nowRec (s : State) (w : Nat) : Option ResultRec :=
  let v := s.view w
  if v.got && !v.lost then (v.res.head?).map (·.1) else none

/-- Span data with what a tick adds (R481): cells and temperatures of the members, and the meter's marks. -/
def State.tickInto (s : State) (n : Nat) (p0 : Span) : Span :=
  let ms := s.workers.filter (s.isMember n)
  let recs := ms.filterMap (fun w => (s.nowRec w).map (fun r => (w, r)))
  let cells := recs.flatMap (fun e => match e.2.meas with
    | .cell c => (List.range 24).filterMap (fun j =>
      let st := nth 6 c.cstat j
      if st = 0 ∨ st = 1 ∨ st = 3 then
        some ((divFree (s.free + j) ((nth 0 c.cells j : Nat) : Int) 10).toNat, wRing e.1 * 64 + wAddr e.1, j + 1) else none)
    | .meter _ => [])
  let temps := recs.flatMap (fun e => match e.2.meas with
    | .cell c => (List.range 8).filterMap (fun j => if nth 3 c.tstat j = 0 then some (nth 0 c.temps j) else none)
    | .meter _ => [])
  let w := s.instW n
  let met : Option MeterRec := (s.nowRec w).bind (fun r => match r.meas with
    | .meter m => some m
    | .cell _ => none)
  let p1 := cells.foldl (fun p e =>
    let p := if e.1 < p.cellMin then { p with cellMin := e.1, cellMinLoc := e.2.1, cellMinNo := e.2.2 } else p
    if p.cellMax < e.1 then { p with cellMax := e.1, cellMaxLoc := e.2.1, cellMaxNo := e.2.2 } else p) p0
  let p2 := match temps with
    | [] => p1
    | a :: l =>
      let hot := l.foldl (fun x y => if x < y then y else x) a
      { p1 with hist := (List.range 8).map (fun k => nth 0 p1.hist k + (if k = histBin hot then s.tUs else 0)) }
  let p3 := match met with
    | some m => { p2 with disMax := Nat.max p2.disMax m.disagree,
                          blindTicks := p2.blindTicks + b2n (bit m.mstat 0 && bit m.mstat 1) }
    | none => { p2 with blindTicks := p2.blindTicks + 1 }
  if s.holdsItem 17 w then { p3 with disTicks := p3.disTicks + 1 } else p3

/-- One tick of an instance's span (R481, R537). -/
def State.spanTick (s : State) (n : Nat) : State := s.upSpan n (s.tickInto n)

/-- At release to Lit each configured instance starts its first span, which carries GAP (R482). -/
def State.spansOpen (s : State) : State :=
  s.each s.instances (fun t n =>
    let i := t.inst n
    let base := match i.sorted.reverse with
      | u :: _ => u.totals
      | [] => []
    (t.updInst n (fun i => { i with base := base })).spanStart n (8 + i.span.tflags % 4))

/-- The instances that a RELIGHT's mask names, as long as they run (R507, R508). -/
def State.relightOf (s : State) (mask : Nat) : List Nat := (bitsOf mask 8).filter (fun n => s.instState n == 2)

/-- The slots of a RELIGHT whose bit has burnt go out (R508): the totals of this tick's record, the next segment, and RELIGHT, with SEQ
above both. -/
def State.relightSlots (s : State) : State :=
  match s.cmd.burnt with
  | (mask, false) :: r =>
    let s1 := s.each (s.relightOf mask) (fun t n =>
      let i := t.inst n
      match i.mirror with
      | none => t
      | some a =>
        let tot := i.totals
        let mseq := match i.lastRec with
          | some r => r.seq
          | none => a.seq
        let b := { a with seq := Nat.max a.seq mseq + 1, tick := t.tick, flags := 64, rtc := t.island.rtc, good := true,
                          eIn := nth 0 tot 0, eOut := nth 0 tot 1, qIn := nth 0 tot 2, qOut := nth 0 tot 3,
                          segment := (t.pf (instStat n) 8 8 + 1) % 256 }
        t.updInst n (fun i => { i with slotOut := some (b, true) }))
    s1.mapCmd (fun m => { m with burnt := (mask, true) :: r })
  | _ => s

/-- The Commit after that writes the turfs, and with them the mirror's slots; until then a reset loses them (R508, R835). -/
def State.relightCommit (s : State) : State :=
  match s.cmd.burnt with
  | (mask, true) :: r =>
    let s1 := s.each (s.relightOf mask) (fun t n =>
      ((t.spanEnd n 3 t.island.rtc true).updInst n (fun i => { i with snapNow := true })).bindSync n)
    (s1.mapCmd (fun m => { m with burnt := r })).mapNvm (fun v => { v with relit := !r.isEmpty })
  | _ => s

/-- RELIGHT_COMPLETE (R508): the burn of the oldest RELIGHT that waits has ended, well or not. A bit burnt in both copies shows at
once; the slots follow in the next Apply, and the turfs in its Commit. With no bit left there is none to read back. -/
def execRelightComplete (burnt : Bool) (s : State) : Host.Outcome State Fault Refusal :=
  done (
    match s.cmd.relights with
    | [] => s
    | mask :: rest =>
      let s1 := s.mapCmd (fun m => { m with relights := rest })
      let cnt := popcount (fld s.nvm.fuseOr.toNat 0x47E 7) 7
      if !burnt || cnt = 7 then s1.raise 62 []
      else
        let b := (1#4096 <<< (0x47E + cnt)) ||| (1#4096 <<< (0xC7E + cnt))
        (s1.mapCmd (fun m => { m with burnt := m.burnt ++ [(mask, false)] })).mapNvm (fun v =>
          { v with fuses := v.fuses ||| b, relit := true }))

end Sys2Proof.Machine
end

