-- ==== Sys2Proof/Machine/Protect.lean ====
section
/-! DEFINITION. The manager's protection in Compute (R326, R329, R350, R359 to R362, R378 to R380, R393, R394, R398, R405,
R409 to R411). -/

namespace Sys2Proof.Machine

/-- One judged value (R380): its place and item, whether it is a group or pair, the size, the code that DETAIL carries, and
the value times the size, with the size's limit factor, in 100 µV or 0.1 °C. -/
structure Judged where
  w : Nat
  item : Nat
  kind : Nat
  size : Nat
  code : Nat
  val : Int
deriving DecidableEq, Repr

/-- DETAIL of EV09 to EV15 (R385). -/
def cellDetail (w item kind code size : Nat) : List Byte :=
  le 1 (wRing w) ++ le 1 (wAddr w) ++ le 1 item ++ le 1 kind ++ le 2 code ++ le 1 size

/-- The cells that a worker's record shows, and their number. -/
def State.cellCount (s : State) (w : Nat) : Nat := fld (s.wkParam w 0x08) 0 5

/-- The wires of a worker that are suspect, WRK.OWSUSP. DEDUCED: no frame names them, so the manager takes them as the worker's
parameter shows them. -/
def State.suspW (s : State) (w : Nat) : List Nat := ((s.wkFind w).map (·.2.suspects)).getD []

/-- The wires of a worker that are open, WRK.OWOPEN (DEDUCED, as the suspect ones). -/
def State.openW (s : State) (w : Nat) : List Nat := ((s.wkFind w).map (·.2.opens)).getD []

/-- A fallback group's voltage as a record gives it, in 100 µV (R407, R408, R410): its size times the mean that its cells carry, at a
TEST tick the last undisturbed one; a group of more than 4 cells, whose cells are INVALID, has none and is the stack reading less
the cells outside it, where that reading and all of those are sound (DEDUCED; log 191). -/
def groupShown (n : Nat) (c : CellRec) (a b : Nat) : Option Nat :=
  let size := b + 1 - a
  let st := nth 6 c.cstat (a - 1)
  let others := ((List.range n).map (· + 1)).filter (fun j => j < a || b < j)
  if size ≤ 4 then (if st = 3 ∨ st = 1 then some (nth 0 c.cells (a - 1) * size) else none)
  else if bit c.wflags 0 || bit c.wflags 1 || others.any (fun j => nth 6 c.cstat (j - 1) > 3) then none
  else some (20 * c.stack - (others.map (fun j => nth 0 c.cells (j - 1))).foldl (· + ·) 0)

/-- The judged voltages of a record (R380, R410, R415). -/
def State.judgedV (s : State) (w flags : Nat) (c : CellRec) : List Judged :=
  let n := s.cellCount w
  let v (j : Nat) : Nat := nth 0 c.cells (j - 1)
  let singles := (List.range n).filterMap (fun k =>
    let st := nth 6 c.cstat k
    if (st = 0 ∨ st = 1) ∧ (groupOf (s.openW w) n (k + 1)).isNone = true then some ⟨w, k + 1, 0, 1, v (k + 1), (v (k + 1) : Int)⟩ else none)
  let groups := (groupsOf (s.openW w) n).filterMap (fun g => (groupShown n c g.1 g.2).map (fun u =>
    ⟨w, g.1, 1, g.2 + 1 - g.1, u / (g.2 + 1 - g.1), (u : Int)⟩))
  let pair (j : Nat) : Judged := ⟨w, j, 1, 2, (v j + v (j + 1)) / 2, ((v j + v (j + 1) : Nat) : Int)⟩
  let held := ((s.suspW w).filter (fun j => 1 ≤ j && j < n)).map pair
  let test := if bit flags 3 then
      ((List.range n).filter (fun j => 1 ≤ j && j < n && j % 2 == fld flags 5 1)).map pair
    else []
  singles ++ groups ++ held ++ test

/-- The judged temperatures of a worker (R380). -/
def judgedT (w : Nat) (t : StnRec) : List Judged :=
  (List.range 8).filterMap (fun i =>
    if nth 3 t.tstat i = 0 then some ⟨w, i, 0, 0, toTwos 16 (nth 0 t.temps i), nth 0 t.temps i⟩ else none)

/-- A soft threshold of event `e` (R378, R379, R411): `beyond` and `back` judge one value against the limit and against the
limit with its hysteresis. A tick with an ALARM of a pair or group, at the key `64 + e`, is no tick back inside. -/
def State.soft (s : State) (e : Nat) (l : List Judged) (beyond back : Judged → Bool) : State :=
  let filt := s.pf 0x1102 16 8
  let worst := l.find? beyond
  let now := l.find? (fun j => beyond j && j.kind == 1)
  let n := if worst.isSome then Nat.min (Tbl.get 0 s.flue.softOver e + 1) 255 else 0
  let told := Tbl.get 0 s.flue.softOver (64 + e) == 1
  let m := if worst.isNone && !told && !l.isEmpty && l.all back then Nat.min (Tbl.get 0 s.flue.softIn e + 1) 255 else 0
  let s1 := s.mapFlue (fun f => { f with
    softOver := Tbl.put 0 (Tbl.put 0 f.softOver e n) (64 + e) 0, softIn := Tbl.put 0 f.softIn e m })
  let d (j : Judged) := cellDetail j.w j.item j.kind j.code j.size
  match now, worst with
  | some j, _ => s1.begin e 0 (d j)
  | none, some j => if filt ≤ n then s1.begin e 0 (d j) else s1
  | none, none => if filt ≤ m then s1.finish e 0 else s1

/-- EV09 to EV12 (R378, R379). -/
def State.softAll (s : State) : State :=
  let recs := s.workers.filterMap (fun w => (s.nowRec w).map (fun r => (w, r)))
  let vs := recs.flatMap (fun e => match e.2.meas with
    | .cell c => s.judgedV e.1 e.2.flags c
    | .meter _ => [])
  let ts := recs.flatMap (fun e => judgedT e.1 e.2.stn)
  let ov : Int := 10 * s.pf 0x1100 0 16
  let uv : Int := 10 * s.pf 0x1100 16 16
  let vh : Int := 10 * s.pf 0x1102 0 8
  let ot := ofTwos 16 (s.pf 0x1101 0 16)
  let ut := ofTwos 16 (s.pf 0x1101 16 16)
  let th : Int := s.pf 0x1102 8 8
  let s1 := s.soft 9 vs (fun j => j.val > ov * j.size) (fun j => j.val ≤ (ov - vh) * j.size)
  let s2 := s1.soft 10 vs (fun j => j.val < uv * j.size) (fun j => (uv + vh) * j.size ≤ j.val)
  let s3 := s2.soft 11 ts (fun j => j.val > ot) (fun j => j.val ≤ ot - th)
  s3.soft 12 ts (fun j => j.val < ut) (fun j => ut + th ≤ j.val)

/-- EV15 for one worker (R393, R394, R409): a mismatch of the stack and the cells, REF_BAD, and STACK_BAD. -/
def State.stackCheck (s : State) (w : Nat) (c : CellRec) : State :=
  let n := s.cellCount w
  let refBad := bit c.wflags 0
  let stkBad := bit c.wflags 1
  let d : Int := (((c.cells.take n).foldl (· + ·) 0 : Nat) : Int) - 20 * (c.stack : Int)
  let code := toTwos 16 (clampS 16 (divFree s.free d 10))
  let s1 := s.level 15 (4 * w + 3) refBad (cellDetail w 0 3 code 0)
  let s2 := s1.level 15 (4 * w) stkBad (cellDetail w 0 4 code 0)
  let all := (List.range n).all (fun k => nth 6 c.cstat k == 0)
  if !all || stkBad then s2
  else
    let filt := s.pf 0x1103 16 8
    let v := s2.view w
    if d.natAbs > 10 * s.pf 0x1103 0 16 then
      let k := Nat.min (v.sumOver + 1) 255
      let s3 := s2.updView w (fun v => { v with sumOver := k, sumIn := 0 })
      if filt ≤ k then s3.begin 15 (4 * w + 1) (cellDetail w 0 0 code 0) else s3
    else
      let k := Nat.min (v.sumIn + 1) 255
      let s3 := s2.updView w (fun v => { v with sumOver := 0, sumIn := k })
      if filt ≤ k then s3.finish 15 (4 * w + 1) else s3

/-- EV13 and EV14 as a worker's result comes (R398, R405): each wire that has become suspect since the last one, and each that
is open. -/
def State.wireEvents (s : State) (w : Nat) : State :=
  let n := s.cellCount w
  let susp := s.suspW w
  let opn := s.openW w
  let old := (s.view w).susp
  let s1 := (s.each (susp.filter (fun j => !old.contains j)) (fun t j => t.raise 13 (cellDetail w j 0 0 0))).updView w
    (fun v => { v with susp := susp })
  let size (j : Nat) : Nat := match (groupOf opn n j).orElse (fun _ => groupOf opn n (j + 1)) with
    | some g => g.2 + 1 - g.1
    | none => 0
  let s2 := s1.each opn (fun t j => t.begin 14 (32 * w + j) (cellDetail w j 0 0 (size j)))
  s2.each ((List.range 25).filter (fun j => !opn.contains j && s2.holdsItem 14 (32 * w + j))) (fun t j => t.finish 14 (32 * w + j))

/-- The breaches that a worker's fault journal keeps from its last Banked (R316, R350): the newest of each cause 1 to 3. In
Banked its tick stands still. A power-up since then ends what that Banked found. -/
def Wk.bankedFound (k : Wk) : List WkJ :=
  let l := (k.journal.map (·.2)).filter (fun e => k.bankFrom ≤ e.index && bit e.timing 2 && 1 ≤ e.code && e.code ≤ 3)
  let newest (l : List WkJ) : Option WkJ := l.foldl (fun a e => match a with
    | some b => if b.index < e.index then some e else a
    | none => some e) none
  match newest l with
  | some z => [1, 2, 3].filterMap (fun c => newest (l.filter (fun e => e.code == c && e.tick == z.tick)))
  | none => []

/-- The event that a breach found in Banked raises in the first tick of Lit or Doused (R350). DEDUCED: the first RESULT tells
that there was one, and the fault journal which. -/
def State.emberTell (s : State) (w : Nat) : State :=
  if !(s.view w).told || !s.full then s
  else (s.updView w (fun v => { v with told := false })).each (s.wk w).bankedFound (fun t e =>
    t.raise (8 + e.code) (cellDetail w e.item 2 e.value (if e.code = 3 then 0 else 1)))

/-- The action of FLUE.POLICY when the number of lost workers rises from 0 (R361). EVT.DHOLD records events of severity DOUSE
alone (R274), so the policy's douse leaves it. -/
def State.lossPolicy (s : State) : State :=
  if s.pb 0x1001 0 then (match s.sys.phase with
    | .lit => s.mapEvt (fun v => { v with douse := true })
    | .kindling => s.mapSys (fun y => { y with dousePend := true })
    | _ => s)
  else (s.setPf 0x1002 0 7 (s.pf 0x1001 8 7)).setPb 0x1002 7 true

/-- A worker is declared lost (R359 to R361). -/
def State.loseWorker (s : State) (w : Nat) : State :=
  let v := s.view w
  if !v.here || v.lost then s
  else
    let first := s.workers.all (fun x => !(s.view x).lost)
    let s1 := (s.updView w (fun v => { v with lost := true })).incPf (0x1008 + wRing w) 24 8
    let s2 := (s1.begin 6 w (le 1 (wRing w) ++ le 1 (wAddr w))).captureLost w
    if first then s2.lossPolicy else s2

/-- WORKER_LOST (R359). -/
def execWorkerLost (ring addr : Nat) (s : State) : Host.Outcome State Fault Refusal :=
  done (if s.awake then s.loseWorker (wKey ring addr) else s)

/-- Missing results at 0.30 T (R325, R326, R329, R359): EV08, the READ of the next tick, and loss after three ticks. -/
def State.missing (s : State) : State :=
  s.each (s.workers.filter (fun w => !(s.view w).got)) (fun t w =>
    let n := Nat.min ((t.view w).miss + 1) 255
    let t1 := (t.raise 8 []).updView w (fun v => { v with miss := n })
    if n = 3 then t1.loseWorker w else t1)

/-- Protection at the start of Compute (R326, R378 to R380, R393, R462, R463). Soft thresholds and the stack sum check run in
Lit and Doused. A tick without a meter's record ends the row of ticks of R462. -/
def State.protect (s : State) : State :=
  let s1 := s.missing
  if !s1.full then s1
  else
    let s2 := s1.each s1.workers (fun t w => t.emberTell w)
    let s3 := s2.softAll
    s3.each s3.workers (fun t w =>
      match t.nowRec w with
      | some r => (match r.meas with
        | .cell c => (t.stackCheck w c).wireEvents w
        | .meter m => t.meterProtect w m)
      | none => if (t.view w).meter then (t.updView w (fun v => { v with dis := 0 })).level 17 w false [] else t)

end Sys2Proof.Machine
end

