-- ==== Sys2Proof/Machine/Rings.lean ====
section
/-! DEFINITION. The rings at the manager: enumeration, results, ACKs, alarms, breaks and healing (R28 to R37, R65, R304 to
R366, R524 to R533, R789). -/

namespace Sys2Proof.Machine

/-- FLUE.RINGSTAT[r]. -/
def ringStat (r : Nat) : Nat := 0x1004 + r

/-- The partner link is up. -/
def State.linkUp (s : State) : Bool := s.pb 0x1905 0

/-- A delay in 0.5 ns from the sum of sixteen round trips (R334). -/
def hopDelay (n sum : Nat) : Nat := (divFree n ((sum : Int) - 2048) 32).toNat % 65536

/-- The manager calibrates a worker from an end that reaches it, index 1 for end A and 2 for end B: 16 CAL frames, then the delay
(R334). -/
def State.putDelay (s : State) (w i : Nat) (trip : Option Nat) : State :=
  match trip with
  | some x => (s.each (List.range 16) (fun t _ => t.sendRing w (i - 1) 2 (le 1 3 ++ zeros 3))).sendWrite w 1 i
      (hopDelay s.free x + 65536)
  | none => s

/-- How far a ring's calibration has come: 3 when every worker holds both delays, 2 when each holds that of the ends that
reach it (R336, R352). -/
def calOf (f : RingFound) (n : Nat) : Nat :=
  let has (l : List (Option Nat)) (k : Nat) : Bool := (nth none l k).isSome
  if (List.range n).all (fun k => has f.tripsA k && has f.tripsB k) then 3
  else if (List.range n).all (fun k => has f.tripsA k || has f.tripsB k) then 2 else 1

/-- Whether a ring is in use (R13, R14, FLUE.CFG). -/
def State.ringOn (s : State) (r : Nat) : Bool := r < 4 && s.pb 0x1000 r

/-- Whether a ring meets the release condition (R105): every worker addressed, and calibrated from both ends, or from the end
that reaches it where the ring is broken or has one end here (R14, R352). -/
def State.ringReady (s : State) (r : Nat) : Bool :=
  let g := s.ring r
  g.far.isNone && (g.cal == 3 || (g.cal == 2 && (s.pb (ringStat r) 6 || s.role != 0)))

/-- Whether every worker of a ring holds both delays (R336). A manager of a twin calibrates from its own end alone, and the other
delay is the partner's: it takes that one as the worker shows it (DEDUCED; log 192). -/
def State.ringWhole (s : State) (r : Nat) : Bool :=
  let g := s.ring r
  g.cal == 3 || (s.role != 0 && g.cal == 2 && g.far.isNone && s.workers.all (fun w => wRing w != r ||
    bit (s.wkParam w (if s.role = 1 then 2 else 1)) 16))

/-- Every enumerated worker on every ring in use holds both delays (R336). -/
def State.calibrated (s : State) : Bool := ((List.range 4).filter s.ringOn).all s.ringWhole

/-- TICK.STAT.CALIBRATED, and the release condition of R105, after a change. -/
def State.calSettle (s : State) : State :=
  let on := (List.range 4).filter s.ringOn
  (s.setPb 0x0203 1 s.calibrated).mapSys (fun y => { y with enumDone := on.all s.ringReady })

/-- The views of a ring's workers from address `a`. -/
def State.setViews (s : State) (r a : Nat) (serials roles : List Nat) : State :=
  s.each serials.zipIdx (fun t e =>
    t.updView (wKey r (a + e.2)) (fun v => { v with here := true, serial := e.1, meter := nth 0 roles e.2 == 1 }))

/-- What enumeration and calibration found on one ring (R330 to R334, R351, R352). `fromB` is the two-pass enumeration of
manager B. -/
def State.ringFound (s : State) (f : RingFound) (fromB : Bool) : State :=
  let r := f.ring
  if !s.ringOn r || (s.ring r).cal != 0 then s
  else
    let n := f.serials.length
    let joined := s.role != 0 && (s.ring r).joined
    let w0 := wKey r 0
    let s0 := if joined then s
      else if fromB then (s.sendRing w0 1 2 (le 1 1 ++ zeros 3)).sendRing w0 1 2 (le 1 2 ++ le 1 0 ++ le 1 n ++ zeros 1)
      else s.sendRing w0 0 2 (zeros 4)
    let whole := f.closed || fromB || (n = 0 && f.farCount = 0)
    let st := n + 64 * b2n (!whole) + 256 * n + 2 ^ 14 * (if whole then Nat.min n 1 else Nat.min (n + 1) 63) +
      2 ^ 21 * b2n f.overflow + 2 ^ 22 * b2n (if joined then (s.ring r).slow else n != 0)
    let s1 := ((s0.setP (ringStat r) st).setViews r 1 f.serials f.roles).updRing r (fun g =>
      { g with serials := f.serials, joined := joined, cal := if n = 0 then 3 else calOf f n,
               far := if whole || s.role != 0 then none else some f.farCount })
    let s2 := s1.each (List.range n) (fun t k =>
      (t.putDelay (wKey r (k + 1)) 1 (nth none f.tripsA k)).putDelay (wKey r (k + 1)) 2 (nth none f.tripsB k))
    if whole then s2
    else (((if s.role = 0 then s2.sendRing w0 1 2 (le 1 1 ++ zeros 3) else s2).begin (2 + r) r []).incPf (0x1008 + r) 16 8)

/-- RING_ENUMERATION (R304, R330, R331, R334, R336, R528): by the SOLO manager or manager A, or by a manager that joins rings
its partner runs or has enumerated. -/
def execRingEnumeration (found : List RingFound) (s : State) : Host.Outcome State Fault Refusal :=
  done (
    if s.sys.phase == .kindling && s.sys.rom &&
        (s.role != 2 || (List.range 4).any (fun r => (s.ring r).joined)) then
      let mine (r : Nat) : Bool := s.role != 2 || (s.ring r).joined
      let s1 := s.each (found.filter (fun f => mine f.ring)) (fun t f => t.ringFound f false)
      let s2 := s1.each ((List.range 4).filter (fun r => mine r && s1.ringOn r && (s1.ring r).cal == 0 &&
          found.all (fun f => f.ring != r))) (fun t r => (t.setPb (ringStat r) 22 false).updRing r (fun g => { g with cal := 3 }))
      let same := (List.range 4).all (fun r => match s.nvm.seen.find? (fun e => e.1 == r) with
        | some e => e.2 == (s2.ring r).serials
        | none => (s2.ring r).serials.isEmpty)
      s2.calSettle.mapSys (fun y => { y with enumSame := y.warm && same })
    else s)

/-- The serials that the loaded image expects on a ring (R351). -/
def State.ringPlan (s : State) (r : Nat) : List Nat :=
  match s.sys.image with
  | some im => (match im.serials.find? (fun e => e.1 == r) with
    | some e => e.2
    | none => [])
  | none => []

/-- The configured values of a worker go to it as WRITEs (R365, R790): all of them, or those that differ from what is
stored. -/
def State.configWorker (s : State) (w : Nat) (stored : List WkStored) (all : Bool) : State :=
  match s.sys.image with
  | none => s
  | some im =>
    s.each (im.workers.filter (fun x => wKey x.ring x.addr == w)) (fun t x =>
      let known := stored.any (fun y => y.ring == x.ring && y.addr == x.addr && y.index == x.index && y.value == x.value)
      if all || !known then t.sendWrite w 1 x.index x.value else t)

/-- Whether the image sets a value of a worker. -/
def State.hasConfig (s : State) (w : Nat) : Bool :=
  match s.sys.image with
  | some im => im.workers.any (fun x => wKey x.ring x.addr == w)
  | none => false

/-- Where the far segment of a broken ring begins, and how many of its workers the configured total gives an address (R332, R351). -/
def State.farPlace (s : State) (r : Nat) : Nat × Nat :=
  let total := (s.ringPlan r).length
  let m := Nat.min ((s.ring r).far.getD 0) total
  (total + 1 - m, m)

/-- The far segment of a broken ring takes its addresses from end B, with the configured count as total (R351). Counts that do not
add up to it give IDMISMATCH and EV62; manager B knows only its own, which must not exceed it. -/
def State.farAssign (s : State) (r : Nat) (serials roles : List Nat) : State :=
  match (s.ring r).far with
  | none => s
  | some k =>
    let total := (s.ringPlan r).length
    let a := (s.farPlace r).1
    let n := (s.ring r).serials.length
    let s1 := s.sendRing (wKey r 0) 1 2 (le 1 2 ++ le 1 0 ++ le 1 total ++ zeros 1)
    let s2 := ((s1.setPf (ringStat r) 0 6 total).setPf (ringStat r) 14 6 a).updRing r (fun g =>
      { g with far := none, serials := padTo 0 (a - 1) g.serials ++ serials })
    let s3 := s2.setViews r a serials roles
    if (if s.role = 2 then k ≤ total else n + k = total) then s3 else (s3.setPb (ringStat r) 20 true).raise 62 []

/-- Manager B hears its partner on the link, and no ENUM: the ring is broken, and PROBE_B counts its segment (R332, R351; DEDUCED;
log 193). -/
def State.segmentB (s : State) (r k : Nat) : State :=
  if !s.ringOn r || (s.ring r).cal != 0 || (s.ring r).joined then s
  else
    let s1 := s.sendRing (wKey r 0) 1 2 (le 1 1 ++ zeros 3)
    let s2 := (s1.setP (ringStat r) (64 + 2 ^ 14 + 2 ^ 22)).updRing r (fun g => { g with far := some k, cal := 1 })
    (s2.begin (2 + r) r []).incPf (0x1008 + r) 16 8

/-- ENUM_FROM_B (R332, R334, R351). -/
def execEnumFromB (found : RingFound) (s : State) : Host.Outcome State Fault Refusal :=
  done (
    let r := found.ring
    if s.sys.phase != .kindling || !s.sys.rom then s
    else match (s.ring r).far with
      | some k =>
        if s.sys.image.isNone then s
        else
          let p := s.farPlace r
          let l := (found.farSerials.take k).drop (k - p.2)
          let s1 := s.farAssign r l (found.roles.drop (p.1 - 1))
          let s2 := s1.each (List.range l.length) (fun t j =>
            t.putDelay (wKey r (p.1 + j)) 2 (nth none found.tripsB (p.1 - 1 + j)))
          let seen := if s.role = 2 then { found with tripsA := List.replicate (p.1 - 1) (some 0) } else found
          let s3 := (s2.updRing r (fun g => { g with cal := calOf seen (p.1 - 1 + l.length) })).calSettle
          s3.each (List.range l.length) (fun t j => t.configWorker (wKey r (p.1 + j)) [] true)
      | none =>
        if s.role ≠ 2 then s
        else if s.linkUp then s.segmentB r found.serials.length
        else (s.ringFound found true).calSettle)

/-- A value that the image sets for a worker, or what the worker is taken to hold. -/
def State.wkImage (s : State) (w i : Nat) : Nat :=
  match s.sys.image with
  | some im => (match im.workers.find? (fun x => wKey x.ring x.addr == w && x.index == i) with
    | some x => x.value
    | none => s.wkParam w i)
  | none => s.wkParam w i

/-- Whether the partner cannot reach the worker through a broken ring (R532). -/
def State.partnerBlind (s : State) (w : Nat) : Bool :=
  let st := s.p (ringStat (wRing w))
  s.role != 0 && s.pb 0x1905 0 && bit st 6 && (if s.role = 1 then wAddr w < fld st 14 6 else fld st 8 6 < wAddr w)

/-- A worker's frame goes on to the partner (R532, R533). Its SEQ is as it arrived, which no command names. -/
def State.relay (s : State) (w kind : Nat) (body : List Byte) (first : Bool) : State :=
  if !s.partnerBlind w then s
  else
    let fr := withCrc (le 1 kind ++ le 1 (wAddr w) ++ le 1 (2 + b2n (s.role == 1)) ++ [Config.freeByte s.free 0] ++
      le 2 body.length ++ zeros 2 ++ body)
    let b := le 1 (wRing w) ++ zeros 3 ++ fr
    let s1 := s.drawn.partOut 0x13 b
    let lead (l : List (Nat × List Byte)) := l.drop (l.length - 1) ++ l.take (l.length - 1)
    if first then s1.mapSent (fun t => { t with part := lead t.part }) else s1

/-- A READ of kind 0x00 that goes out in the next Apply (R325, R363). -/
def State.readBack (s : State) (w back : Nat) : State :=
  s.mapFlue (fun f => { f with apply := f.apply ++ [(w, 16 * 65536, back)] })

/-- This manager has become the owner of a meter worker's instances (R536, R542). -/
def State.takeInst (s : State) (n : Nat) : State :=
  let mine := s.ownsInst n
  let i := s.inst n
  let s1 := s.updInst n (fun i => { i with mine := mine })
  if mine && !i.mine && s.full && s.role != 0 then
    let s2 := if s1.pb 0x1906 0 then s1
      else s1.updInst n (fun i => { i with span := { i.span with tflags := setFld i.span.tflags 3 1 1 } })
    s2.toWorker (s2.instW n) 1 s2.island.rtc
  else s1

/-- The lease that a RESULT reports (R522, R526, R536, R544; PART.CNT.CLAIMS). -/
def State.leaseSeen (s : State) (w lease epoch : Nat) : State :=
  if s.role = 0 then s
  else
    let v := s.view w
    let o := lease % 4
    let lap := bit lease 2
    let cause := if lap then 0 else if v.owner = 0 then 1 else 2
    let moved := (v.named != 0 && o != 0 && o != v.named && !lap) || (lap && !v.lapsed && o != 0 && v.owner != 0)
    let s1 := s.updView w (fun v => { v with
      owner := o, lapsed := lap, epoch := epoch, named := if o = 0 then v.named else o })
    let s2 := if moved then
        s1.raise 45 (le 1 (wRing w) ++ le 1 (wAddr w) ++ le 1 (lease % 8) ++ le 1 cause ++ le 2 epoch) else s1
    let s3 := if o = s.role ∧ v.named ≠ 0 ∧ v.named ≠ s.role ∧ lap = false then s2.incPf 0x1908 8 8 else s2
    s3.each (s3.instsOf w) (fun t n => t.takeInst n)

/-- A lost worker that answers again (R363 to R365, R495): the identity must be that enumerated, and a worker that has
restarted since its configuration was written has it rewritten first. -/
def State.restored (s : State) (w : Nat) (b : ResultRec) (ident : Nat) : State :=
  let v := s.view w
  if !v.lost then s
  else if ident ≠ v.serial then s.setPb (ringStat (wRing w)) 20 true
  else if bit b.flags 2 && s.hasConfig w then
    (s.configWorker w [] true).updView w (fun v => { v with reconf := true })
  else
    let s1 := ((s.updView w (fun v => { v with lost := false, miss := 0, reconf := false })).finish 6 w).raise 7 []
    let have' (k : Nat) : Bool := v.res.any (fun e => e.1.tick + k == s.tick)
    let s2 := s1.each ([1, 2, 3].filter (fun k => !have' k)) (fun t k => t.readBack w k)
    if v.reconf || bit b.flags 2 then s2.each (s2.instsOf w) (fun t n => t.reconstruct (t.reconGather n)) else s2

/-- Insertion of a result, newest tick first. -/
def insRes (r : ResultRec × Bool) : List (ResultRec × Bool) → List (ResultRec × Bool)
  | [] => [r]
  | a :: l => if a.1.tick < r.1.tick then r :: a :: l else if a.1.tick = r.1.tick then a :: l else a :: insRes r l

/-- A RESULT reaches the manager (R312, R323 to R328, R350, R355, R363 to R365, R429, R477, R526, R528, R532). -/
def State.takeResult (s : State) (f : ResultF) : State :=
    let w := wKey f.ring f.addr
    if !s.awake || 4 ≤ f.ring || f.addr = 0 || 63 < f.addr then s
    else if !f.crcOk then s.incPf (0x1008 + f.ring) 0 16
    else
      let b := f.body
      let isM := match b.meas with
        | .meter _ => true
        | .cell _ => false
      let s0 := if (s.ring f.ring).joined && !(s.view w).here then
          let t := s.updView w (fun v => { v with here := true, serial := f.ident, meter := isM })
          let c := Nat.max (t.pf (ringStat f.ring) 0 6) f.addr
          ((t.setPf (ringStat f.ring) 0 6 c).setPf (ringStat f.ring) 8 6 c).setPf (ringStat f.ring) 14 6 1
        else s
      let v := s0.view w
      let ember := s.sys.phase == .kindling && s.pb 0x0304 3 && bit b.flags 6
      if !v.here then (if ember then s0.updView w (fun v => { v with told := true }) else s0)
      else if v.res.any (fun e => e.1.tick == b.tick) then s0
      else if v.lost && f.ident != v.serial then s0.setPb (ringStat f.ring) 20 true
      else
        let onTime := b.tick == s.tick && s.sys.tph ≤ 2
        let s1 := s0.relay w 7 (resultBytes b) false
        let s2 := if onTime then s1.restored w b f.ident else s1
        let s3 := s2.updView w (fun v => { v with
          res := (insRes (b, !onTime) v.res).take 8, got := v.got || onTime, miss := if onTime && !v.lost then 0 else v.miss,
          stn := v.stn || onTime, told := v.told || ember })
        let s4 := if onTime || (s3.view w).res.head? = some (b, true) then s3.leaseSeen w b.lease b.epoch else s3
        match b.meas with
        | .meter m =>
          let s5 := if onTime then (s4.impWatch w m.iPri).updView w (fun v => { v with lastI := some (b.tick, m.iPri) }) else s4
          s5.ledgRecord w m b.tick
        | .cell _ => s4

/-- RESULT_FRAME (R328). -/
def execResultFrame (f : ResultF) (s : State) : Host.Outcome State Fault Refusal := done (s.takeResult f)

/-- Settling the waiting parameter request of a worker that this ACK answers (R789). -/
def State.ackWait (s : State) (w eseq status value : Nat) : State :=
  match (s.view w).waits.find? (fun x => x.rseq == eseq) with
  | some x =>
    (s.updView w (fun v => { v with waits := v.waits.filter (fun y => y.lodge != x.lodge) })).settleReply x.port x.lodge
      status (if status = 0 then le 4 value else [])
  | none => s

/-- An ACK of a worker reaches the manager (R313, R317, R492, R494, R679, R681, R789, R532). -/
def State.takeAck (s : State) (ring addr etype eseq status : Nat) (value : Word) : State :=
    let w := wKey ring addr
    if !s.awake || 4 ≤ ring then s
    else
      let s0 := s.relay w 6 (le 1 etype ++ le 1 eseq ++ le 2 status ++ le 4 value.toNat) false
      let v := s0.view w
      let s1 := if etype = 5 ∧ v.ack = 1 ∧ v.refSeq = eseq then
          s0.updView w (fun v => { v with ack := if status = 0 then 2 else if status = 0x0302 then 3 else 1 }) else s0
      let s2 := if etype = 5 then
          s1.mapFlue (fun x => { x with shardAck := x.shardAck.filter (fun e => !(e.1 == w && e.2.1 == eseq)) }) else s1
      let s3 := if etype = 4 ∨ etype = 5 then s2.ackWait w eseq status value.toNat else s2
      match s3.flue.reads.find? (fun r => etype == 4 && r.w == w && r.rseq == eseq) with
      | some r => s3.flrSettle r status
      | none => s3

/-- ACK_FRAME (R312, R313). -/
def execAckFrame (ring addr : Nat) (crcOk : Bool) (etype eseq status : Nat) (value : Word) (s : State) :
    Host.Outcome State Fault Refusal :=
  done (if crcOk then s.takeAck ring addr etype eseq status value else s.badFrame ring)

/-- A break is declared (R353, R355, R358): the highest address that end A reaches, and the lowest that end B reaches. -/
def State.breakAt (s : State) (r a b : Nat) : State :=
  let st := s.p (ringStat r)
  let was := bit st 6
  let cnt := fld st 0 6
  let ra := if was then Nat.min (fld st 8 6) a else a
  let rb := Nat.min (if was then Nat.max (fld st 14 6) b else b) 63
  if was && ra = fld st 8 6 && rb = fld st 14 6 then s
  else
    let isl := ra + 1 < rb && ra + 1 ≤ cnt
    let s1 := ((((s.setPb (ringStat r) 6 true).setPf (ringStat r) 8 6 ra).setPf (ringStat r) 14 6 rb).setPb (ringStat r) 7 isl).incPf
      (0x1008 + r) 16 8
    let s2 := s1.begin (2 + r) r []
    if s.sys.tph ≤ 2 ∧ s.role ≠ 1 then s2.sendRing (wKey r 0) 1 4 (zeros 8) else s2

/-- The size of the pair or group that an ALARM names by its first cell (R385): a pair whose lower cell lies further on in a group
is a pair. -/
def State.groupSize (s : State) (w c : Nat) : Nat :=
  match groupOf (s.openW w) (s.cellCount w) c with
  | some g => if g.1 = c then g.2 + 1 - g.1 else 2
  | none => 2

/-- An ALARM reaches the manager (R65, R339, R353, R355, R411, R438, R533). -/
def State.takeAlarm (s : State) (ring addr cause item raw tick : Nat) : State :=
    if !s.awake || 4 ≤ ring then s
    else
      let w := wKey ring addr
      let s0 := s.relay w 9 (le 1 cause ++ le 1 item ++ le 2 raw ++ le 6 tick ++ zeros 2) true
      let s1 := if 1 ≤ cause ∧ cause ≤ 15 then s0.openContactors true else s0
      let s2 := s1.flrAlarm tick
      if cause = 0x10 then (if item = 0 then s2.breakAt ring (addr - 1) addr else s2.breakAt ring addr (addr + 1))
      else if (cause = 1 ∨ cause = 2) ∧ 0x80 ≤ item ∧ s.full = true then
        (s2.begin (8 + cause) 0 (cellDetail w (item - 0x80) 1 raw (s2.groupSize w (item - 0x80)))).mapFlue (fun f =>
          { f with softOver := Tbl.put 0 f.softOver (72 + cause) 1 })
      else s2

/-- ALARM_FRAME (R65, R312). Both ends report the same alarm alike. -/
def execAlarmFrame (ring _fromEnd addr : Nat) (crcOk : Bool) (cause item raw tick : Nat) (s : State) :
    Host.Outcome State Fault Refusal :=
  done (if crcOk then s.takeAlarm ring addr cause item raw tick else s.badFrame ring)

/-- RING_HEAL (R358, R366): the workers that an end reaches again are calibrated from it. -/
def execRingHeal (found : RingFound) (s : State) : Host.Outcome State Fault Refusal :=
  done (
    let r := found.ring
    if !s.awake || !s.ringOn r || !s.pb (ringStat r) 6 then s
    else
      let n := s.pf (ringStat r) 0 6
      let ra := s.pf (ringStat r) 8 6
      let rb := s.pf (ringStat r) 14 6
      let tA (k : Nat) : Option Nat := if k + 1 ≤ ra then none else nth none found.tripsA k
      let tB (k : Nat) : Option Nat := if rb ≤ k + 1 then none else nth none found.tripsB k
      let held := { found with
        tripsA := (List.range n).map (fun k => if k + 1 ≤ ra then some 0 else tA k)
        tripsB := (List.range n).map (fun k => if rb ≤ k + 1 ∧ s.role = 0 then some 0 else tB k) }
      let s1 := (((s.setPb (ringStat r) 6 false).setPb (ringStat r) 7 false).setPf (ringStat r) 8 6 n).setPf (ringStat r) 14 6
        (Nat.min n 1)
      let s2 := s1.each (List.range n) (fun t k =>
        (t.putDelay (wKey r (k + 1)) 1 (tA k)).putDelay (wKey r (k + 1)) 2 (tB k))
      ((s2.finish (2 + r) r).updRing r (fun g => { g with cal := calOf held n })).calSettle)

/-- EXT_REF_LOCK_TIMEOUT (R35). -/
def execExtRefLockTimeout (s : State) : Host.Outcome State Fault Refusal :=
  done (if s.full && s.pb 0x0102 0 then (s.setPb 0x0102 1 false).mapSys (fun y => { y with serdes := 1 }) else s)

/-- EXT_REF_LOST (R36): each ring in use is reported as broken until it has retrained. -/
def execExtRefLost (s : State) : Host.Outcome State Fault Refusal :=
  done (if s.full && s.pb 0x0102 0 then
    ((s.setPb 0x0102 1 false).mapSys (fun y => { y with serdes := 1 })).each ((List.range 4).filter (fun r => s.ringOn r &&
        s.pf (ringStat r) 0 6 != 0)) (fun t r =>
      if t.pb (ringStat r) 6 then t
      else ((t.setPb (ringStat r) 6 true).begin (2 + r) r []).incPf (0x1008 + r) 16 8)
  else s)

/-- The frames queued for this Apply leave (R314, R317, R325, R363, R494, R789). -/
def State.applySend (s : State) : State :=
  let l := s.flue.apply
  let s0 := s.mapFlue (fun f => { f with apply := [] })
  s0.each l (fun t e =>
    let w := e.1
    let sort := e.2.1 / 65536
    let idx := e.2.1 % 65536
    let n := (t.ring (wRing w)).seq
    if sort = 1 ∨ sort = 3 then
      let t1 := t.sendWrite w sort idx e.2.2
      if sort = 1 then t1.updView w (fun v => { v with waits := (match v.waits.findIdx? (fun x => x.rseq == 256 && !x.read) with
        | some k => v.waits.modify k (fun x => { x with rseq := n })
        | none => v.waits) })
      else if idx = 0x118 then t1.mapFlue (fun f => { f with shardAck := f.shardAck ++ [(w, n, e.2.2)] })
      else t1
    else
      let t1 := t.sendRead w (sort - 16) (if sort = 16 then e.2.2 else 0) (if sort = 16 then 0 else e.2.2)
      if sort = 17 then t1.updView w (fun v => { v with waits := (match v.waits.findIdx? (fun x => x.rseq == 256 && x.read) with
        | some k => v.waits.modify k (fun x => { x with rseq := n })
        | none => v.waits) })
      else if sort = 19 then t1.mapFlue (fun f => { f with reads := (match f.reads.findIdx? (fun x => x.rseq == 256 &&
          x.w == w) with
        | some k => f.reads.modify k (fun x => { x with rseq := n })
        | none => f.reads) })
      else t1)

/-- What a set instant settles on the rings (R494, R684, R789): unanswered parameter requests and snapshots. -/
def State.ringSet (s : State) : State :=
  let s1 := s.each s.workers (fun t w =>
    let t1 := t.each (t.view w).waits (fun u x => u.settleReply x.port x.lodge 0x0500 [])
    (t1.updView w (fun v => { v with waits := [] })).stnJudge w)
  (s1.each s1.flue.shardAck (fun t e => t.incPf (instStat e.2.2) 24 8)).mapFlue (fun f => { f with shardAck := [] })

end Sys2Proof.Machine
end

