-- ==== Sys2Proof/Machine/Twin.lean ====
section
/-! DEFINITION. The partner manager: the link, following its tick, leases, synchronisation and relay (R59 to R64, R346,
R506, R512 to R544). Commands of the link leave a manager of role SOLO as it is. -/

namespace Sys2Proof.Machine

/-- A manager of a twin system that is awake. -/
def State.twin (s : State) : Bool := s.awake && s.role != 0

/-- The role of the partner. -/
def State.other (s : State) : Nat := 3 - s.role

/-- The ACK of a LEDGSYNC or REQUEST (R518). -/
def State.partAck (s : State) (typ seq status : Nat) : State := s.partOut 0x15 (le 1 typ ++ le 1 seq ++ le 2 status)

/-- Whether a frame takes part in resynchronisation: a LEDGSYNC, or a REQUEST of kind RESYNC. -/
def partSyncs (typ : Nat) (body : List Byte) : Bool := typ == 0x12 || (typ == 0x14 && leAt body 0 1 == 2)

/-- PART.SYNCSTAT.CURRENT (R541): every answer of either side has been acknowledged. -/
def State.partSettle (s : State) : State :=
  if s.linkUp && !s.part.resync && s.part.awaits.isEmpty && s.part.unacked.all (fun f => !partSyncs f.2.1 f.2.2) then
    s.setPb 0x1906 0 true
  else s

/-- The instances that the partner owns. -/
def State.partnerInsts (s : State) : List Nat :=
  s.instances.filter (fun n => let v := s.view (s.instW n); v.owner == s.other && !v.lapsed)

/-- The answers to the partner's RESYNC, by its LEDG.TURFNEW of each instance (R541). -/
def State.resyncAnswer (s : State) (turfNew : List Nat) : State :=
  let s1 := s.each (s.instances.filter s.ownsInst) (fun t n =>
    let i := t.inst n
    let t1 := t.each (i.sorted.filter (fun u => nth 0 turfNew n < u.index)) (fun t u => t.ledgSync n 1 (turfBytes u))
    (t1.ledgSync n 2 (le 4 i.acked)).bindSync n)
  (s1.mapPart (fun p => { p with resync := false, asked := none })).partSettle

/-- The link is declared up (R517, R541): a RESYNC of the partner that came before is answered now. -/
def State.linkRise (s : State) : State :=
  if !s.twin || s.linkUp then s
  else
    let s1 := (s.setPb 0x1905 0 true).finish 44 0
    let s2 := (s1.mapPart (fun p => { p with beats := 0, resync := true, awaits := s1.partnerInsts })).sendResync
    match s2.part.asked with
    | some l => s2.resyncAnswer l
    | none => s2

/-- The link is declared lost (R516, R541): 0 lane loss, 1 BEAT timeout. -/
def State.linkFall (s : State) (cause : Nat) : State :=
  if !s.twin then s
  else
    let s1 := s.mapPart (fun p => { p with beats := 0, kindUs := 0, asked := none })
    if s.linkUp then
      (((s1.setPb 0x1905 0 false).setPb 0x1906 0 false).incPf 0x1908 0 8).begin 44 0 (le 1 cause)
    else s1

/-- PARTNER_LINK_LOST (R516). -/
def execPartnerLinkLost (cause : Nat) (s : State) : Host.Outcome State Fault Refusal := done (s.linkFall cause)

/-- PARTNER_LINK_UP (R517). -/
def execPartnerLinkUp (s : State) : Host.Outcome State Fault Refusal := done s.linkRise

/-- Sleep entry begins, from Lit or Doused (R67, R151, R152, R534). The domains stay as they are until the rails go off
(R841). -/
def State.sleepBegin (s : State) (own : Bool) : State :=
  if s.sys.sleeping = 0 ∧ s.full = true then
    let s1 := s.mapSys (fun y => { y with sleeping := 1, pdKept := (List.range 5).map s.pdWord })
    s1.mapPart (fun p => { p with sleep := p.sleep || (own && s.role != 0) })
  else s

/-- In Kindling a ring that the partner runs has the rate that its SYNC announces (R304, R528). -/
def State.ringRate (s : State) (r : Nat) (slow : Bool) : State :=
  if s.sys.phase == .kindling && ((s.ring r).joined || (s.ring r).cal == 0) then s.setPb (ringStat r) 22 slow else s

/-- The manager becomes the follower of the partner's tick (R63, R64, R535). -/
def State.followPartner (s : State) (count : Nat) : State :=
  let s1 := (s.setPf 0x0206 0 2 (if s.linkUp then 1 else 2)).setPb 0x0203 0 false
  (s1.setPb 0x0206 2 (s1.pf 0x0200 0 3 != s1.part.period)).mapPart (fun p => { p with follow := some count, slew := none })

/-- Whether a tick reference from a partner that is the source makes this manager a follower, or tells a follower that has
not aligned yet where the source's counter stands (R59, R63). A manager that has taken the source's role over in this
Kindling yields by R535 alone. -/
def State.mayFollow (s : State) : Bool :=
  s.sys.phase == .kindling && !s.part.aligned && !s.part.tookOver

/-- BEAT_FRAME (R60, R512, R515, R517, R525, R534; PART.STAT). -/
def execBeatFrame (f : BeatF) (s : State) : Host.Outcome State Fault Refusal :=
  done (
    if !s.twin then s
    else
      let kind := s.pf 0x1905 2 2 == 1 && f.state == 1
      let s1 := ((s.setPf 0x1905 2 2 f.state).setPb 0x1905 4 (f.cfgver != s.p 0x0108)).mapPart (fun p =>
        { p with kindUs := if kind then p.kindUs + s.tUs else 0, period := f.period })
      let s2 := if s.linkUp then s1
        else
          let t := (if s.part.beats = 0 then s1.setPb 0x1905 5 true else s1).mapPart (fun p => { p with beats := p.beats + 1, beat := true })
          if 16 ≤ t.part.beats then t.linkRise else t
      let s3 := if s2.full && 2 ≤ f.state then s2.setPb 0x1905 5 false else s2
      let s4 := if f.source && s3.mayFollow then s3.followPartner (f.tick + 1) else s3
      if f.sleep then s4.sleepBegin false else s4)

/-- The count that manager A's ENUM brings to ring end B is the ring's total (R330); the ring is then the partner's. -/
def State.enumTotal (s : State) (r n : Nat) : State :=
  if s.role = 2 ∧ s.sys.phase = .kindling ∧ (s.ring r).cal = 0 then
    (((s.setPf (ringStat r) 0 6 n).setPf (ringStat r) 8 6 n).setPf (ringStat r) 14 6 (Nat.min n 1)).updRing r
      (fun g => { g with joined := true })
  else s

/-- PARTNER_RING_FRAME. A ring on which SYNC comes before this manager's first tick of Kindling is one that the partner runs (R528;
DEDUCED: that is what it finds on reaching Kindling; log 193). DESIGN CHOICE: manager A becomes the follower by a SYNC with PRIMARY alone, manager B by any, since R63 says
only that the partner is sending SYNC frames (log 175); unsafe where A should follow a shadow SYNC (R61, R63, R312, R330, R340, R528, R534). -/
def execPartnerRingFrame (ring : Nat) (crcOk : Bool) (f : PartnerRingF) (s : State) : Host.Outcome State Fault Refusal :=
  done (
    if !s.twin || !s.ringOn ring then s
    else if !crcOk then s.badFrame ring
    else
      let s1 := (s.mapPart (fun p => { p with heard := true })).when (!s.sys.pll) (fun t => t.setPb 0x1905 1 true)
      match f with
      | .lease _ => s1
      | .enum count => s1.enumTotal ring count
      | .sync y =>
        let s2 := ((s1.mapPart (fun p => { p with period := y.period })).updRing ring (fun g =>
          { g with slow := bit y.flags 2, joined := g.joined || !s.sys.pll })).ringRate ring (bit y.flags 2)
        let s3 := if (bit y.flags 0 || s2.role == 2) && s2.mayFollow then s2.followPartner (y.tick + 1) else s2
        if bit y.flags 0 && bit y.flags 1 then s3.sleepBegin false else s3)

/-- TICK_SOURCE_TAKEOVER (R62). -/
def execTickSourceTakeover (s : State) : Host.Outcome State Fault Refusal :=
  done (if s.twin && s.pf 0x0206 0 2 != 0 then
    (((s.raise 1 []).setP 0x0206 0).setPb 0x0203 0 true).mapPart
      (fun p => { p with follow := none, aligned := false, tookOver := true })
  else s)

/-- TICK_REUNION (R535): the partner's counter, and whether the yielding manager has reached alignment. -/
def execTickReunion (counter : Nat) (aligned : Bool) (s : State) : Host.Outcome State Fault Refusal :=
  done (if s.twin && s.pf 0x0206 0 2 == 0 && s.sys.pll && (s.tick < counter || (s.tick == counter && s.role == 2)) then
    if aligned then s.followPartner ((counter + 1) % 2 ^ 48) else s.mapPart (fun p => { p with slew := some counter })
  else s)

/-- The home manager of a worker (R520). -/
def State.homeOf (s : State) (w : Nat) : Nat := if wAddr w ≤ s.pf (0x1901 + wRing w) 0 6 then 1 else 2

/-- This manager holds the worker's lease (R522). -/
def State.holdsLease (s : State) (w : Nat) : Bool := let v := s.view w; v.owner == s.role && !v.lapsed

/-- Whether the manager claims a worker (R524, R525, R544), by the last RESULT. -/
def State.claims (s : State) (w : Nat) : Bool :=
  let v := s.view w
  s.full && !v.res.isEmpty && (v.owner == 0 || v.lapsed) &&
    (s.homeOf w == s.role || !s.linkUp || s.pf 0x1905 2 2 ≥ 2 ||
      (s.pf 0x1905 2 2 == 1 && decide (10000 * s.pf 0x1900 8 8 < s.part.kindUs)))

/-- Whether a handback is due (R527): RECLAIM, and the partner Lit over a link that is up. -/
def State.handbackDue (s : State) : Bool := s.full && s.pb 0x1900 0 && s.linkUp && s.pf 0x1905 2 2 == 2

/-- Whether a handback releases a worker now: a meter worker with an instance only in the tick after a turf of it was written. -/
def State.releases (s : State) (w : Nat) : Bool :=
  s.part.handback && s.handbackDue && s.holdsLease w && s.homeOf w == s.other &&
    (let l := s.instsOf w
     l.isEmpty || l.any (fun n => s.part.turfLast.contains n))

/-- Runs of consecutive addresses with one epoch, as (first, last, epoch). -/
def leaseRuns (l : List (Nat × Nat)) : List (Nat × Nat × Nat) :=
  l.foldr (fun x r => match r with
    | (a, b, e) :: t => if x.1 + 1 = a ∧ x.2 = e then (x.1, b, e) :: t else (x.1, x.1, x.2) :: r
    | [] => [(x.1, x.1, x.2)]) []

/-- LEASE frames with one operation for the workers of a ring that satisfy the test: from the own ring end, and for workers that it
owns and does not reach through the partner's (R340, R523, R532). -/
def State.sendLease (s : State) (r op : Nat) (f : Nat → Bool) : State :=
  let d := if s.role = 2 then 1 else 0
  let runs (near : Nat → Bool) := leaseRuns ((s.workers.filter (fun w => wRing w == r && near w && f w)).map (fun w =>
    (wAddr w, (s.view w).epoch)))
  let body (e : Nat × Nat × Nat) : List Byte := le 1 s.role ++ le 1 op ++ le 2 e.2.2 ++ le 1 e.1 ++ le 1 e.2.1 ++ zeros 2
  let s1 := s.each (runs (fun w => s.endFor w == some d)) (fun t e => t.sendRing (wKey r 0) d 3 (body e))
  if s.linkUp && op != 2 then s1.each (runs (fun w => (s.endFor w).isNone && s.owns w)) (fun t e => t.sendFar (wKey r 0) 3 (body e))
  else s1

/-- The LEASE frames of a tick (R340, R346, R523 to R527). -/
def State.leases (s : State) : State :=
  if s.role = 0 then s
  else
    let rel := s.releases
    s.each ((List.range 4).filter s.ringOn) (fun t r =>
      ((t.sendLease r 1 (fun w => s.holdsLease w && !rel w)).sendLease r 2 s.claims).sendLease r 3 rel)

/-- HANDBACK_RELEASE (R527). -/
def execHandbackRelease (s : State) : Host.Outcome State Fault Refusal :=
  done (if s.twin && s.handbackDue then
    let s1 := s.mapPart (fun p => { p with handback := true })
    s1.each ((List.range 4).filter s1.ringOn) (fun t r => t.sendLease r 3 s1.releases)
  else s)

/-- What the partner link does at a tick's start (R60, R61, R515, R518, R527): PARTNER_RING and FOLLOW.SRC, the BEAT, and every
frame that has not been acknowledged. TICK.STAT.CALIBRATED follows the delays that the partner has written (R336). -/
def State.partTick (s : State) : State :=
  if s.role = 0 then s
  else
    let src := s.pf 0x0206 0 2
    let s0 := if s.sys.enumDone then s.setPb 0x0203 1 s.calibrated else s
    let s1 := (s0.setPb 0x1905 1 s.part.heard).mapPart (fun p =>
      { p with heard := false, beat := false, beats := if p.beat then p.beats else 0, handback := p.handback && s.handbackDue })
    let s2 := if src = 0 then s1
      else (s1.setPf 0x0206 0 2 (if s1.linkUp then 1 else 2)).setPb 0x0206 2
        (s1.part.aligned && s1.pf 0x0200 0 3 != s1.part.period)
    let s3 := s2.sendBeat
    if s3.linkUp then
      s3.mapSent (fun t => { t with part := t.part ++ s3.part.unacked.map (fun f => (f.2.1, le 1 f.1 ++ f.2.2)) })
    else s3

/-- TURF_ACK's effect (R485): the status, and the state after. DEDUCED: LEDG.TURFACK at 0 before any acknowledgement acknowledges no
turf, not the one of INDEX 0 (log 195). -/
def State.ackTurfs (s : State) (n idx : Nat) : Nat × State :=
  let i := s.inst n
  if !i.any || i.newest < idx then (0x0103, s)
  else if idx ≤ i.acked ∧ i.ackAny = true then (0, s)
  else (0, s.updInst n (fun i => { i with acked := idx, ackAny := true }))

/-- An accepted SET_TIME (R474, R506). DESIGN CHOICE: the second that it sets begins at its execution, so the running fraction
restarts at 0. -/
def State.setTime (s : State) (rtc : Nat) : State :=
  let old := s.island.rtc
  let s1 := s.mapIsland (fun i => { i with rtc := rtc, rtcUs := 0 })
  ((s1.each s1.instances (fun t n => t.spanEnd n 0 old true)).setPb 0x0203 2 false).sendTimes

/-- A binding that takes the place of an instance's (R540): its holders and its SEALED state show. -/
def State.takeBinding (s : State) (n : Nat) (b : Binding) : State :=
  let s1 := (s.updInst n (fun i => { i with bind := b })).setPf (instStat n) 16 5 b.holders.length
  if b.isSealed && s.instState n == 2 then s1.setPf (instStat n) 0 3 5
  else if !b.isSealed && s.instState n == 5 then s1.setPf (instStat n) 0 3 2 else s1

/-- Span data of two stretches, the first before the second (R481). -/
def Span.join (a b : Span) : Span :=
  let add (l m : List Nat) (k : Nat) := (List.range k).map (fun j => nth 0 l j + nth 0 m j)
  let low := a.cellMin ≤ b.cellMin
  let high := b.cellMax ≤ a.cellMax
  { a with
    cellMin := if low then a.cellMin else b.cellMin, cellMinLoc := if low then a.cellMinLoc else b.cellMinLoc,
    cellMinNo := if low then a.cellMinNo else b.cellMinNo, cellMax := if high then a.cellMax else b.cellMax,
    cellMaxLoc := if high then a.cellMaxLoc else b.cellMaxLoc, cellMaxNo := if high then a.cellMaxNo else b.cellMaxNo,
    hist := add a.hist b.hist 8, disMax := Nat.max a.disMax b.disMax, disTicks := a.disTicks + b.disTicks,
    blindTicks := a.blindTicks + b.blindTicks, evtMap := a.evtMap ||| b.evtMap, evtCounts := add a.evtCounts b.evtCounts 3,
    contOps := add a.contOps b.contOps 8, contI2t := add a.contI2t b.contI2t 8, vlv := add a.vlv b.vlv 6 }

/-- The span of an instance that the partner owns begins anew at the END of the partner's turf `t`, with what the ticks since then
have added (R482, R537). -/
def Inst.spanFrom (i : Inst) (t : Turf) : Inst :=
  let later := i.adds.filter (fun e => t.endTick < e.1)
  let since := later.foldr (fun e p => p.join e.2) Span.d
  let rems := histRem ((List.range 8).map (fun k => nth 0 i.span.hist k - nth 0 since.hist k))
  { i with
    adds := later, rems := rems
    span := { since with startTick := t.endTick, startRtc := t.endRtc, tflags := 0,
                         hist := (List.range 8).map (fun k => nth 0 rems k + nth 0 since.hist k) } }

/-- A turf of the partner's goes into the journal (R539). The span that it ends at the partner ends here too, and the next turf counts
from this one (R481, R482, R537). -/
def State.takeTurf (s : State) (n : Nat) (t : Turf) : State :=
  (s.updInst n (fun i =>
    let j := if i.span.startTick < t.endTick ∧ i.newest ≤ t.index then i.spanFrom t else i
    { (j.putTurf t) with
      newest := Nat.max i.newest t.index, any := true, base := if i.newest ≤ t.index then t.totals else j.base })).mramFresh
    (turfAddr n t.index) 256

/-- LEDGSYNC_FRAME (R485, R518, R538 to R541). -/
def execLedgsyncFrame (seq inst : Nat) (body : LedgSyncBody) (s : State) : Host.Outcome State Fault Refusal :=
  done (
    if !s.twin then s
    else
      let n := inst % 8
      match body with
      | .turf t =>
        let i := s.inst n
        let s1 := match (Tbl.find i.turfs (t.index % 1024)).filter (fun u => u.index == t.index) with
          | some u => if u = t then s else (s.incPf 0x1906 8 8).raise 59 (le 1 n ++ le 1 2 ++ le 4 t.index)
          | none => s.takeTurf n t
        s1.partAck 0x12 seq 0
      | .ackLevel index =>
        let q := s.ackTurfs n index
        q.2.partAck 0x12 seq q.1
      | .binding b =>
        (((s.takeBinding n b).mapPart (fun p => { p with awaits := p.awaits.filter (· != n) })).partAck 0x12 seq 0).partSettle
      | .time rtc => (s.setTime rtc).partAck 0x12 seq 0)

/-- REQUEST_RESET_FRAME (R110, R518, R519). -/
def execRequestResetFrame (seq : Nat) (s : State) : Host.Outcome State Fault Refusal :=
  done (if s.twin then (s.dueReset 6).partAck 0x14 seq 0 else s)

/-- REQUEST_RESYNC_FRAME (R518, R541): answered while the link is up here, else as soon as it is. -/
def execRequestResyncFrame (seq : Nat) (turfNew : List Nat) (s : State) : Host.Outcome State Fault Refusal :=
  done (
    if !s.twin then s
    else
      let s1 := s.partAck 0x14 seq 0
      if s1.linkUp then s1.resyncAnswer turfNew else s1.mapPart (fun p => { p with asked := some turfNew }))

/-- PARTNER_ACK_FRAME (R518, R541). -/
def execPartnerAckFrame (etype eseq _status : Nat) (s : State) : Host.Outcome State Fault Refusal :=
  done (if s.twin then
    (s.mapPart (fun p => { p with unacked := p.unacked.filter (fun f => !(f.1 == eseq && f.2.1 == etype)) })).partSettle
  else s)

/-- A station record in bytes (R676). -/
def stnOf (l : List Byte) : StnRec :=
  { di := leAt l 0 1, state := leAt l 1 1, fault := leAt l 2 1, misses := leAt l 3 1,
    temps := (List.range 8).map (fun k => ofTwos 16 (leAt l (4 + 2 * k) 2)),
    tstat := (List.range 8).map (fun k => fld (leAt l 20 2) (2 * k) 2) }

/-- A cell record in bytes (R372). -/
def cellOf (l : List Byte) : CellRec :=
  { cells := (List.range 24).map (fun k => leAt l (2 * k) 2), stack := leAt l 48 2,
    temps := (List.range 8).map (fun k => ofTwos 16 (leAt l (50 + 2 * k) 2)),
    cstat := (List.range 24).map (fun k => fld (leAt l 66 12) (4 * k) 4),
    tstat := (List.range 8).map (fun k => fld (leAt l 78 2) (2 * k) 2), bal := leAt l 80 3, wflags := leAt l 83 1 }

/-- A meter record in bytes (R459). -/
def meterOf (l : List Byte) : MeterRec :=
  { iPri := ofTwos 32 (leAt l 0 4), iChk := ofTwos 32 (leAt l 4 4), vPack := leAt l 8 4, vLink := leAt l 12 4,
    iPeak := ofTwos 32 (leAt l 16 4), eIn := leAt l 20 8, eOut := leAt l 28 8, qIn := leAt l 36 8, qOut := leAt l 44 8,
    seq := leAt l 52 8, segment := leAt l 60 1, sflags := leAt l 61 1, mstat := leAt l 62 1, disagree := leAt l 64 2,
    tShunt := ofTwos 16 (leAt l 66 2) }

/-- A RESULT payload in bytes (R310). -/
def resultOf (meter : Bool) (l : List Byte) : ResultRec :=
  let m := (l.drop 12).take 88
  { tick := leAt l 0 6, flags := leAt l 6 1, lease := leAt l 7 1, epoch := leAt l 8 2,
    meas := if meter then .meter (meterOf m) else .cell (cellOf m), stn := stnOf (l.drop 100) }

/-- RELAY_FRAME (R312, R532, R533): a manager's frame leaves the own ring end as it is, and a worker's is taken as if it had
come from the ring. -/
def execRelayFrame (f : RelayF) (s : State) : Host.Outcome State Fault Refusal :=
  done (
    let l := f.frame
    let r := f.ring
    let typ := leAt l 0 1
    let addr := leAt l 1 1
    let body := (l.drop 8).take (leAt l 4 2)
    let w := wKey r addr
    if !s.twin || 4 ≤ r || l.length < 12 then s
    else if typ ≤ 5 then
      s.mapSent (fun t => { t with ring := t.ring ++ [⟨r, if s.role = 2 then 1 else 0, addr, typ, leAt l 2 1, leAt l 3 1, body⟩] })
    else if crc32c (l.take (l.length - 4)) ≠ leAt l (l.length - 4) 4 then s.incPf (0x1008 + r) 0 16
    else if typ = 7 then
      let v := s.view w
      s.takeResult { ring := r, fromEnd := 0, addr := addr, crcOk := true, body := resultOf v.meter body, ident := v.serial }
    else if typ = 6 then
      s.takeAck r addr (leAt body 0 1) (leAt body 1 1) (leAt body 2 2) (BitVec.ofNat 32 (leAt body 4 4))
    else if typ = 9 then s.takeAlarm r addr (leAt body 0 1) (leAt body 1 1) (leAt body 2 2) (leAt body 4 6)
    else s)

end Sys2Proof.Machine
end

