-- ==== Sys2Proof/Machine/Networks.lean ====
section
/-! DEFINITION. CAN, LIN and Ethernet, the keep-alive sleep protocol, the two-wire target, and what wakes the manager from
Banked (R145 to R147, R154, R196, R246, R670 to R672, R693 to R734). -/

namespace Sys2Proof.Machine

/-- The keep-alive controller. -/
def State.kaCtrl (s : State) : Nat := s.pf 0x3000 1 2

/-- Whether the keep-alive timers run (R714, R717, R719). -/
def State.kaRuns (s : State) : Bool :=
  s.full && s.pb 0x3000 0 && !s.localNeed && !s.busOff s.kaCtrl && s.sys.sleeping == 0

/-- The preparation ends or is cancelled, and AGREED with it (R715). -/
def State.kaCancel (s : State) : State :=
  if s.net.prep.isSome then (s.setPb 0x300A 1 false).mapNet (fun n => { n with prep := none }) else s

/-- A timer of `us` at a tick's start reaches `ms` milliseconds before the next tick. -/
def State.dueIn (s : State) (us ms : Nat) : Bool := decide (1000 * ms < us + s.tUs)

/-- The silence timer reaches NET.KATIME.SLEEP_WAIT in this tick (R714). -/
def State.silentDue (s : State) : Bool := s.dueIn s.net.silentUs (1000 * s.pf 0x3002 16 4)

/-- The awake timer reaches NET.KAAWAKE.MAX_AWAKE in this tick (R717). -/
def State.awakeDue (s : State) : Bool := s.dueIn s.net.awakeUs (60000 * s.pf 0x3003 0 8)

/-- The networks' timers at a tick's start (R699, R711, R714, R717, R719): the silence timer and the awake timer stand at 0 with a
local need, and stop with a bus-off controller. -/
def State.netTimers (s : State) (need turned : Bool) : State :=
  let t := s.tUs
  let step (us : Nat) : Nat := if need then 0 else if s.kaRuns then us + t else us
  s.mapNet (fun n => { n with
    kaUs := if s.full then n.kaUs + t else 0, kaDue := n.kaDue || (s.full && turned)
    silentUs := step n.silentUs, awakeUs := step n.awakeUs
    lin := n.lin.map (fun e => (e.1, { e.2 with wait := e.2.wait - 1 })) })

/-- The networks at a tick's start: the local need, and what its change does (R708, R709, R711, R713, R715, R717). -/
def State.netTick (s : State) : State :=
  let t := s.tUs
  let s1 := s.mapNet (fun n => { n with
    litUs := if s.full then some (match n.litUs with | none => 0 | some u => u + t) else n.litUs })
  let s2 := s1.each (s1.net.ka.map (·.1)) (fun x k => x.mapNet (fun n => { n with
    ka := Tbl.upd KaNode.d n.ka k (fun e => { e with us := Nat.min (e.us + t) 65535000 }) }))
  let now := s2.localNeed
  let s3 := if now && !s2.net.need && s2.pb 0x3020 2 && s2.pb 0x3021 1 then s2.sendRaw 49 (le 1 3) else s2
  let s4 := (s3.netTimers now (now != s2.net.need)).mapNet (fun n => { n with need := now, seen := if now then 0 else n.seen })
  if now then s4.kaCancel else s4

/-- The identifier word of a keep-alive frame (R694, R710): a controller without a data rate sends a classical frame. -/
def State.kaIdent (s : State) (c node : Nat) : Nat :=
  let id := s.p 0x3001 + node
  if s.pf (0x3010 + 2 * c) 4 3 = 0 then setFld id 30 1 0 else id

/-- KEEPALIVE_SEND (R694, R710, R711, R716, R717): PERIOD has passed since the last frame, or the local need has changed. DESIGN CHOICE: the
first period counts from the first Lit tick (log 196). -/
def execKeepaliveSend (s : State) : Host.Outcome State Fault Refusal :=
  done (
    let c := s.kaCtrl
    if s.full && s.pb 0x3000 0 && !s.net.stopped && s.pb (0x3010 + 2 * c) 0 && !s.busOff c &&
        (s.net.kaDue || s.dueIn s.net.kaUs (s.pf 0x3002 0 11)) then
      let node := s.pf 0x3000 3 6
      let need := b2n (s.localNeed && !s.net.ready)
      (s.sendRaw (16 + c) (le 4 (s.kaIdent c node) ++ le 1 node ++ le 1 (need + 2 * (1 - need)) ++ le 4 (s.p 0x3008) ++
        le 2 (s.p 0x3009))).mapNet (fun n => { n with kaUs := 0, kaDue := false })
    else s)

/-- KEEPALIVE_RECEIVED (R695, R710, R712 to R715): `ident` is laid out as NET.KABASE, with bit 31 for a 29-bit identifier. -/
def execKeepaliveReceived (ctrl ident : Nat) (data : List Byte) (s : State) : Host.Outcome State Fault Refusal :=
  done (
    let base := s.pf 0x3001 0 29
    let id := ident % 2 ^ 29
    if !s.awake || !s.pb 0x3000 0 || ctrl != s.kaCtrl || !s.pb (0x3010 + 2 * ctrl) 0 || bit ident 31 != s.pb 0x3001 31 ||
        id < base || base + 63 < id then s
    else
      let node := id - base
      if data.isEmpty || leAt data 0 1 != node || node == s.pf 0x3000 3 6 then s.incPf 0x300A 8 8
      else
        let fl := leAt data 1 1
        let s1 := s.mapNet (fun n => { n with
          ka := Tbl.put KaNode.d n.ka node ⟨bit fl 0, bit fl 1, leAt data 2 1, 0⟩
          seen := if bit fl 0 && s.kaRuns then setFld n.seen node 1 1 else n.seen
          silentUs := if bit fl 0 then 0 else n.silentUs })
        if bit fl 0 then s1.kaCancel else s1)

/-- Agreement (R714, R734): EV38 and the preparation. An awake timer that expires in the same tick stops: DESIGN CHOICE, it counts
anew from there (log 196). -/
def State.kaAgree (s : State) : State :=
  ((s.raise 38 []).setPb 0x300A 1 true).mapNet (fun n =>
    { n with prep := some s.tick, awakeUs := if s.awakeDue then 0 else n.awakeUs, seen := if s.awakeDue then 0 else n.seen })

/-- SLEEP_AGREED (R714). -/
def execSleepAgreed (s : State) : Host.Outcome State Fault Refusal :=
  done (if s.kaRuns && s.net.prep.isNone && s.silentDue then s.kaAgree else s)

/-- Whether the preparation that began in tick `t` has lasted NET.KATIME.PREPARE at the end of this tick (R714). -/
def State.prepDue (s : State) (t : Nat) : Bool := s.dueIn ((s.tick - t) * s.tUs) (s.pf 0x3002 20 12)

/-- KA_PREPARE_END (R716, R733). -/
def execKaPrepareEnd (s : State) : Host.Outcome State Fault Refusal :=
  done (match s.net.prep with
  | none => s
  | some t =>
    if !s.prepDue t then s
    else if s.localNeed then s.kaCancel else (s.kaCancel.mapNet (fun n => { n with ready := true })).sleepBegin true)

/-- MAX_AWAKE_REACHED (R717, R734): where the silence timer expires in the same tick, the agreement comes instead. -/
def execMaxAwakeReached (s : State) : Host.Outcome State Fault Refusal :=
  done (if s.kaRuns && s.awakeDue then
    if s.net.prep.isNone && s.silentDue then s.kaAgree
    else
    let m := s.net.seen
    ((((s.setP 0x300B (m % 2 ^ 32)).setP 0x300C (m / 2 ^ 32)).raise 39 (le 8 m)).mapNet
      (fun n => { n with stopped := true, napDue := true })).sleepBegin true
  else s)

/-- CAN_BUS_OFF (R696, R719): `tec` is the transmit error count before bus-off. -/
def execCanBusOff (ctrl tec : Nat) (s : State) : Host.Outcome State Fault Refusal :=
  done (if ctrl < 4 && s.awake && s.pb (0x3010 + 2 * ctrl) 0 && !s.busOff ctrl then
    ((s.setPf (0x3011 + 2 * ctrl) 0 2 2).setPf (0x3011 + 2 * ctrl) 8 8 tec).begin 40 ctrl (le 1 ctrl ++ le 1 tec)
  else s)

/-- A controller leaves bus-off. -/
def State.canRecover (s : State) (c : Nat) : State :=
  if s.busOff c then
    ((s.setP (0x3011 + 2 * c) 0).finish 40 c).mapNet (fun n => { n with canFree := n.canFree.filter (· != c) })
  else s

/-- CAN_BUS_OFF_RECOVERY (R696). -/
def execCanBusOffRecovery (ctrl : Nat) (s : State) : Host.Outcome State Fault Refusal :=
  done (if ctrl < 4 && (s.pb (0x3010 + 2 * ctrl) 7 || s.net.canFree.contains ctrl) then s.canRecover ctrl else s)

/-- A link changes: 0 down, 1 up, 2 asleep (R211, R707). -/
def State.ethChange (s : State) (i st : Nat) : State :=
  let a := 0x3019 + 8 * i
  let was := if s.pb a 1 then 2 else s.pf a 0 1
  if was = st ∨ 2 < st ∨ (i = 0 ∧ st = 2) then s
  else
    let s1 := (((s.setPb a 0 (st == 1)).setPb a 1 (st == 2)).incPf a 8 8).raise 41 (le 1 i ++ le 1 st)
    if st = 1 then s1
    else s1.updPort 1 (fun p => { p with out := p.out.filter (fun k => !(k.iface == i && (k.kind == 0 || k.kind == 2))) })

/-- ETH_LINK_CHANGE (R211, R707). -/
def execEthLinkChange (iface st : Nat) (s : State) : Host.Outcome State Fault Refusal :=
  done (if iface < 2 && s.awake && s.pb (0x3018 + 8 * iface) 0 then s.ethChange iface st else s)

/-- TC10_SLEEP_REQUEST (R708). -/
def execTc10SleepRequest (s : State) : Host.Outcome State Fault Refusal :=
  done (if s.awake && s.pb 0x3020 0 && s.pb 0x3020 2 && s.ethUp 1 then
    if s.localNeed then s.sendRaw 49 (le 1 0) else (s.sendRaw 49 (le 1 1)).ethChange 1 2
  else s)

/-- ARP_FRAME (R705): 1 a request, 2 a reply. Addresses count their first octet lowest. -/
def execArpFrame (iface op mac ip target : Nat) (s : State) : Host.Outcome State Fault Refusal :=
  done (
    let own := s.p (0x301A + 8 * iface)
    if 2 ≤ iface ∨ s.awake = false ∨ s.pb (0x3018 + 8 * iface) 0 = false ∨ target ≠ own then s
    else
      let s1 := s.mapNet (fun n => { n with arp := Tbl.set n.arp ip mac })
      if op = 1 then s1.sendRaw (48 + iface) (le 1 4 ++ be 2 1 ++ be 2 0x0800 ++ le 1 6 ++ le 1 4 ++ be 2 2 ++
        le 4 (s.p (0x301D + 8 * iface)) ++ le 2 (s.p (0x301E + 8 * iface)) ++ le 4 own ++ le 6 mac ++ le 4 ip)
      else if op = 2 then s1 else s)

/-- ICMP_ECHO_REQUEST (R705): the data go back to their sender. -/
def execIcmpEchoRequest (iface ip target : Nat) (data : List Byte) (s : State) : Host.Outcome State Fault Refusal :=
  done (if iface < 2 && s.awake && s.pb (0x3018 + 8 * iface) 0 && target == s.p (0x301A + 8 * iface) then
    s.sendRaw (48 + iface) (le 1 5 ++ le 4 ip ++ data)
  else s)

/-- The protected identifier of a LIN frame. PRESUMED: the parity bits of ISO 17987, which the manual names. -/
def linPid (i : Nat) : Nat :=
  let b (k : Nat) := b2n (bit i k)
  i % 64 + 64 * ((b 0 + b 1 + b 2 + b 4) % 2) + 128 * ((1 + b 1 + b 3 + b 4 + b 5) % 2)

/-- The checksum of a LIN frame over the bytes: the inverted sum with carry. PRESUMED: as ISO 17987 has it. -/
def linSum (l : List Byte) : Nat :=
  255 - l.foldl (fun a b => let x := a + b.toNat
                            if 255 < x then x - 255 else x) 0

/-- The eight data bytes of entry `e` of port `l`. -/
def State.linData (s : State) (l e : Nat) : List Byte :=
  le 4 (s.p (0x3060 + 2 * (16 * l + e))) ++ le 4 (s.p (0x3061 + 2 * (16 * l + e)))

/-- LIN_SLOT (R699, R701, R703): the entry's slot begins where SLOT ticks have passed since the one before it began. -/
def execLinSlot (l : Nat) (s : State) : Host.Outcome State Fault Refusal :=
  done (
    let c := s.p (0x3030 + l)
    if 2 ≤ l ∨ s.full = false ∨ bit c 0 = false ∨ s.sys.sleeping ≠ 0 ∨ (s.lin l).wait ≠ 0 then s
    else
      let e := (s.lin l).next % (Nat.max (fld c 4 5) 1)
      let f := s.p (0x3040 + 16 * l + e)
      let pid := le 1 (linPid (fld f 0 6))
      let d := (s.linData l e).take (fld f 7 4)
      let body := if bit f 6 then pid else pid ++ d ++ le 1 (linSum (if bit f 11 then pid ++ d else d))
      (s.sendRaw (32 + l) (le 1 1 ++ body)).updLin l (fun p =>
        { p with next := (e + 1) % (Nat.max (fld c 4 5) 1), wait := fld f 16 8, cur := some e }))

/-- LIN_SLOT_END (R701, R702): the response, and whether it was complete with a valid checksum. -/
def execLinSlotEnd (l : Nat) (resp : List Byte) (valid : Bool) (s : State) : Host.Outcome State Fault Refusal :=
  done (match (s.lin l).cur with
  | none => s
  | some e =>
    let a := 0x3040 + 16 * l + e
    let sub := s.pb a 6
    let ok := !sub || (valid && resp.length == s.pf a 7 4)
    let s1 := s.updLin l (fun p =>
      { p with cur := none, good := if ok then insNat e p.good else p.good.filter (· != e) })
    let s2 := if sub then s1.setPb a 12 (!ok) else s1
    if sub && ok then
      let d := resp ++ (s.linData l e).drop resp.length
      (s2.setP (0x3060 + 2 * (16 * l + e)) (leAt d 0 4)).setP (0x3061 + 2 * (16 * l + e)) (leAt d 4 4)
    else s2)

/-- At sleep entry: go-to-sleep on every enabled LIN port, and the TC10 sleep request (R703, R708). -/
def State.netSleep (s : State) : State :=
  let s1 := s.each ((List.range 2).filter (fun l => s.pb (0x3030 + l) 0)) (fun t l => t.sendRaw (32 + l) (le 1 2))
  if s.pb 0x3020 0 && s.pb 0x3020 2 && s.ethUp 1 then s1.sendRaw 49 (le 1 2) else s1

/-- At release to Lit (R696, R703, R723): LIN wake-up signals, recovered controllers, and the two-wire settings. -/
def State.netRelease (s : State) : State :=
  let s1 := s.each ((List.range 2).filter (fun l => s.pb (0x3030 + l) 0)) (fun t l => t.sendRaw (32 + l) (le 1 0))
  let s2 := s1.each (List.range 4) (fun t c => t.canRecover c)
  s2.mapIsland (fun i => { i with twAddr := s2.p 0x302C, twCfg := s2.p 0x302D })

/-- The window that an address selects (R721, R722): 0 status, 1 event, 2 ledger, 3 command. -/
def State.twWindow (s : State) (a : Nat) : Option Nat :=
  let w := s.island.twAddr
  let c := s.island.twCfg
  if bit c 0 then
    let d := (a ^^^ fld w 0 7) % 128
    if d &&& (127 - fld c 1 7) = 0 then some (d % 4) else none
  else if a = 0 then none
  else (List.range 4).find? (fun k => fld w (8 * k) 7 == a)

/-- Whether the windows beside the status window answer (R724). -/
def State.twOpen (s : State) : Bool := s.full || (s.sys.phase == .kindling && s.sys.rom)

/-- What the target answered: every byte acknowledged, and the bytes read. -/
def State.twAnswer (s : State) (ack : Bool) (out : List Byte) : State :=
  s.mapNet (fun n => { n with twAck := ack, twOut := out })

/-- The state that the status window shows. -/
def State.twState (s : State) : Nat :=
  if s.sys.sleeping ≠ 0 then 6
  else match s.sys.phase with
    | .coldHold => 0
    | .kindling => 2
    | .lit => 3
    | .doused => 4
    | .banked => 5
    | _ => 1

/-- A register of the status window (R727). VBAT is free where no sample of the tick has measured it. -/
def State.twReg (s : State) (k : Nat) : Nat :=
  let vbat := if s.awake then s.pf 0x0300 0 16 else Config.freeNat s.free % 65536
  match k with
  | 0 => 0xB9
  | 1 => s.twState
  | 2 => s.pf 0x0105 0 8
  | 3 => s.pf 0x0105 8 1 + 2 * b2n s.faultN + 4 * b2n (s.sys.phase == .doused || s.sys.dousePend)
  | 4 => s.pf 0x0302 0 8
  | 5 => s.pf 0x0302 8 5
  | 6 => s.pf 0x0304 0 6
  | 8 => vbat % 256
  | 9 => vbat / 256
  | 10 => fld s.island.rtc 0 8
  | 11 => fld s.island.rtc 8 8
  | 12 => fld s.island.rtc 16 8
  | 13 => fld s.island.rtc 24 8
  | 14 => b2n s.localNeed + 2 * b2n (s.island.napS != 0) + 4 * b2n ((List.range 4).any s.busOff)
  | _ => 0

/-- The pointer after `n` data bytes written to the status window: register 0x0F holds it (R726, R728). -/
def twStep : Nat → Nat → Nat
  | 0, p => p
  | n + 1, p => if p = 15 then 15 else twStep n (p + 1)

/-- Whether the bytes hold the RETRY_RAILS sequence (R146). -/
def retrySeq : List Byte → Bool
  | a :: b :: r => (a == 0xA5#8 && b == 0x5A#8) || retrySeq (b :: r)
  | _ => false

/-- TW_STATUS_WINDOW (R144 to R147, R154, R720, R724 to R728). -/
def execTwStatusWindow (x : TwXfer) (s : State) : Host.Outcome State Fault Refusal :=
  done (
    if s.sys.phase == .cold then s
    else if s.twWindow x.addr ≠ some 0 then s.twAnswer false []
    else
      let p0 := Tbl.get 0 s.net.twPtr 0
      let p1 := match x.wr with
        | [] => p0
        | b :: _ => b.toNat % 16
      let data := x.wr.drop 1
      let retry := retrySeq (data.drop (15 - p1))
      let p2 := twStep data.length p1
      let out := (List.range x.rd).map (fun k => BitVec.ofNat 8 (s.twReg ((p2 + k) % 16)))
      let s1 := ((s.twAnswer true out).mapNet (fun n => { n with twPtr := Tbl.put 0 n.twPtr 0 ((p2 + x.rd) % 16) })).drawn
      if retry && s.sys.phase == .coldHold then s1.coldExit true
      else s1.wakeBy 5)

/-- The bytes of a journal entry (R265). -/
def jBytes (e : JEntry) : List Byte :=
  withCrc (le 4 e.index ++ le 6 e.tick ++ le 1 e.ev ++ le 1 e.sev ++ le 4 e.rtc ++ le 2 e.count ++ padTo 0#8 10 e.detail)

/-- The journal entry of an index, where the store still holds it and each of its words reads. -/
def State.jFind (s : State) (idx : Nat) : Option JEntry :=
  match Tbl.find s.nvm.journal (idx % 8192) with
  | some e => if e.index = idx ∧ s.badIn (jAddr idx) 32 = false then some e else none
  | none => none

/-- TW_EVENT_WINDOW (R724 to R726, R729). -/
def execTwEventWindow (x : TwXfer) (s : State) : Host.Outcome State Fault Refusal :=
  done (
    if s.sys.phase == .cold then s
    else if s.twWindow x.addr ≠ some 1 ∨ s.twOpen = false then s.twAnswer false []
    else
      let p0 := Tbl.get 0 s.net.twPtr 1
      let p1 := match x.wr with
        | [] => p0
        | b :: _ => b.toNat % 32
      let data := x.wr.drop 1
      let idx := if p1 = 0 ∧ data.length = 4 then leNat data else s.net.evIdx
      let p2 := (p1 + data.length) % 32
      let busy := x.rd != 0 && decide (x.gap < 50)
      let n := if busy then 0 else x.rd
      let rec1 (k : Nat) : List Byte := match s.jFind ((idx + k) % 2 ^ 32) with
        | some e => jBytes e
        | none => zeros 32
      let all := (List.range ((p2 + n + 31) / 32)).flatMap rec1
      (s.twAnswer (!busy) ((all.drop p2).take n)).mapNet (fun t => { t with
        twPtr := Tbl.put 0 t.twPtr 1 ((p2 + n) % 32), evIdx := (idx + (p2 + n) / 32) % 2 ^ 32 }))

/-- TW_LEDGER_WINDOW (R724 to R726, R730). -/
def execTwLedgerWindow (x : TwXfer) (s : State) : Host.Outcome State Fault Refusal :=
  done (
    if s.sys.phase == .cold then s
    else if s.twWindow x.addr ≠ some 2 ∨ s.twOpen = false then s.twAnswer false []
    else
      let p0 := Tbl.get 0 s.net.twPtr 2
      let p1 := match x.wr with
        | [] => p0
        | b :: _ => b.toNat % 64
      let data := x.wr.drop 1
      let sel := if p1 = 0 ∧ data.length = 1 ∧ leNat data < 8 then leNat data else s.net.ldIdx
      let p2 := (p1 + data.length) % 64
      let busy := x.rd != 0 && decide (x.gap < 50)
      let n := if busy then 0 else x.rd
      let rec1 := match s.instLives sel, (s.inst sel).mirror with
        | true, some a => slotBytes a
        | _, _ => zeros 64
      (s.twAnswer (!busy) ((List.range n).map (fun k => nth 0#8 rec1 ((p2 + k) % 64)))).mapNet (fun t => { t with
        twPtr := Tbl.put 0 t.twPtr 2 ((p2 + n) % 64), ldIdx := sel }))

/-- TW_COMMAND_WRITE (R164, R165, R168, R196, R724, R725). -/
def execTwCommandWrite (x : TwXfer) (same : Bool) (s : State) : Host.Outcome State Fault Refusal :=
  done (
    if s.sys.phase == .cold then s
    else if s.twWindow x.addr ≠ some 3 ∨ s.twOpen = false ∨ x.gap < 10 then s.twAnswer false []
    else
      let s1 := s.twAnswer (decide (x.wr.length ≤ 4112)) []
      if s.portServes 3 && !x.wr.isEmpty then (s1.received same).receive 3 (x.wr.take 4112) false 0 0 0 else s1)

/-- TW_COMMAND_READ (R196, R724). -/
def execTwCommandRead (x : TwXfer) (s : State) : Host.Outcome State Fault Refusal :=
  done (
    if s.sys.phase == .cold then s
    else if s.twWindow x.addr ≠ some 3 ∨ s.twOpen = false then s.twAnswer false []
    else
      let q := s.shiftOut 3 x.rd
      q.2.twAnswer true q.1)

/-- A timeout on the two-wire bus (R731, R732): in Banked and Cold-hold the island records it. -/
def State.twTimeout (s : State) (ev window ms : Nat) : State :=
  let d := le 1 window ++ le 2 (Nat.min ms 65535)
  if s.sys.phase == .cold then s else if s.awake then s.raise ev d else s.islandRec ev d

/-- TW_SCL_TIMEOUT (R731, R732): SCL has been low for `ms`, NET.TWCFG.SCL_TO or more, during a transaction that the target has
answered. -/
def execTwSclTimeout (window ms : Nat) (s : State) : Host.Outcome State Fault Refusal :=
  done (if window < 4 && fld s.island.twCfg 8 6 ≤ ms then s.twTimeout 42 window ms else s)

/-- TW_SDA_TIMEOUT (R731, R732): SDA has been low for `ms`, NET.TWCFG.SDA_TO or more. -/
def execTwSdaTimeout (window ms : Nat) (s : State) : Host.Outcome State Fault Refusal :=
  done (if fld s.island.twCfg 16 6 ≤ ms then s.twTimeout 43 window ms else s)

/-- CANWAKE_INPUT (R145, R154, R718). -/
def execCanwakeInput (dt : Nat) (s : State) : Host.Outcome State Fault Refusal :=
  done (
    let s1 := if s.awake then s else s.idle dt
    if s1.island.napS ≠ 0 then s1.incPf 0x300A 16 16
    else if s1.sys.phase == .coldHold then s1.coldExit false
    else s1.wakeBy 1)

/-- NAP_LOCK_END (R718). -/
def execNapLockEnd (s : State) : Host.Outcome State Fault Refusal := done (s.mapIsland (fun i => { i with napS := 0 }))

/-- Whether a pin is sensed continuously in Banked (R245, R670). -/
def State.swCont (s : State) (n : Nat) : Bool := s.pf (swiCfg n) 0 2 == 2 || s.island.contPins.contains n

/-- Whether the island senses an input in Banked and Cold-hold (R670): its MODE is not OFF, and a SWITCH handle is open on it or
it may wake; a pin that serves only as a follow input is not sensed (R246). -/
def State.swSensed (s : State) (n : Nat) : Bool :=
  (s.pf (swiCfg n) 0 2 != 0 && (s.pb (swiCfg n) 7 ||
    s.hdl.slots.any (fun e => e.2.isOpen && e.2.cls == 7 && e.2.res == n))) || s.island.contPins.contains n

/-- What sensing an input adds to the manager's current in Banked, in nA (R673): a polled one its wetting current for 10 µs in
each period, a continuous one its wetting current and 5 µA. -/
def State.swBankedNa (s : State) (n : Nat) : Nat :=
  if !s.swSensed n then 0
  else if s.swCont n then 1000000 * (s.swWet n).natAbs + 5000
  else 10000 * (s.swWet n).natAbs / s.pf 0x2840 0 9

/-- WAKEREF of an input. -/
def State.wakeRef (s : State) (n : Nat) : Bool := s.pb (0x2843 + n / 32) (n % 32)

/-- An input wakes the manager, or ends Cold-hold (R145, R671, R672). -/
def State.swWakes (s : State) (n : Nat) : State :=
  let s1 := s.setPb (0x2845 + n / 32) (n % 32) true
  if s.sys.phase == .coldHold then s1.coldExit false else s1.wakeBy 0

/-- The island senses the inputs: in Banked and in Cold-hold. -/
def State.senses (s : State) : Bool := s.sys.phase == .banked || s.sys.phase == .coldHold

/-- What the island's comparator reads at an input (R663): between the thresholds, its previous reading. -/
def State.islandRead (s : State) (n : Nat) (mv : Int) : Bool := s.swRead n mv (s.island.raws.contains n)

/-- The island has sensed an input. -/
def State.islandSensed (s : State) (n : Nat) (mv : Int) : State :=
  let r := s.islandRead n mv
  s.mapIsland (fun i => { i with raws := if r then insNat n i.raws else i.raws.filter (· != n) })

/-- SWITCH_WAKE (R671, R672): a continuously sensed input has differed for 1 ms. -/
def execSwitchWake (n : Nat) (mv : Int) (dt : Nat) (s : State) : Host.Outcome State Fault Refusal :=
  done (if s.senses then
    let s1 := s.idle dt
    if s1.island.wakeMask.contains n && s1.swCont n then
      let s2 := s1.islandSensed n mv
      if s1.islandRead n mv != s1.wakeRef n then s2.swWakes n else s2
    else s1
  else s)

/-- BANKED_POLL (R670 to R672): one poll of the polled inputs. -/
def execBankedPoll (levels : List (Nat × Int)) (dt : Nat) (s : State) : Host.Outcome State Fault Refusal :=
  done (if s.senses then
    let s1 := s.idle dt
    let l := levels.filter (fun e => s1.island.wakeMask.contains e.1 && !s1.swCont e.1)
    let s2 := s1.each l (fun t e =>
      let dif := t.islandRead e.1 e.2 != t.wakeRef e.1
      ((t.islandSensed e.1 e.2).updSw e.1 (fun c => { c with wet := t.swWet e.1 })).mapIsland (fun i =>
        { i with polls := Tbl.upd 0 i.polls e.1 (fun c => if dif then c + 1 else 0) }))
    let hits := (s2.island.wakeMask).filter (fun n => s2.pf 0x2840 9 3 ≤ Tbl.get 0 s2.island.polls n &&
      l.any (fun e => e.1 == n))
    match hits with
    | [] => s2
    | n :: r => ((s2.each r (fun t k => t.setPb (0x2845 + k / 32) (k % 32) true))).swWakes n
  else s)

end Sys2Proof.Machine
end

