-- ==== Sys2Proof/Machine/Channels.lean ====
section
/-! DEFINITION. Tagged words, and the channel words that HRD and HWR take (R741, R756 to R759, R762). -/

namespace Sys2Proof.Machine

/-- A tagged word (R735). -/
def tword (tag payload : Nat) : TWord := BitVec.ofNat 36 (tag % 16 * 2 ^ 32 + payload % 2 ^ 32)
/-- The tag of a word. -/
def tagOf (w : TWord) : Nat := w.toNat / 2 ^ 32
/-- The payload of a word as 32 bits. -/
def payOf (w : TWord) : Nat := w.toNat % 2 ^ 32
/-- The payload of a word as a signed integer. -/
def intOf (w : TWord) : Int := ofTwos 32 w.toNat
/-- An INT word of 32 bits. -/
def wInt (v : Nat) : TWord := tword 1 v
/-- A BOOL word. -/
def wBool (b : Bool) : TWord := tword 3 (b2n b)
/-- A STATUS word. -/
def wStatus (v : Nat) : TWord := tword 0xE v
/-- A numeric word of a signed value that its tag's channel keeps within 32 bits. -/
def wNum (tag : Nat) (v : Int) : TWord := tword tag (toTwos 32 v)
/-- The POISON word that a channel without a good value gives; the manual gives it no payload but 0 stands for none. -/
def wPoison : TWord := tword 0xF 0

/-- The state as HRD of a manager-side channel sees it: at the last sample instant (R757). -/
def State.atSample (s : State) : State :=
  { s with params := s.sampled.params, out := s.sampled.out, net := s.sampled.net }

/-- HRD on a VALVE handle (R607). -/
def State.hrdValve (s : State) (c : Nat) : TWord :=
  let v := s.p (vlvStat c)
  wInt (fld v 0 4 + 2 ^ 16 * fld v 16 16)

/-- HRD on an HBRIDGE handle (R640). -/
def State.hrdBridge (s : State) (b : Nat) : TWord :=
  let v := s.p (hbStat b)
  wInt (s.pf (hbPosA b) 0 16 + 2 ^ 16 * fld v 0 3 + 2 ^ 19 * fld v 3 4 + 2 ^ 23 * fld v 7 1)

/-- HRD on a MOTOR handle (R644, R656): the observed speed, 0 at standstill, below 1 % of RATED, and while faulted. -/
def State.hrdMotor (s : State) (m : Nat) : TWord :=
  wNum 1 (if s.motState m = 7 ∨ 100 * (s.mot m).speed.natAbs < s.pf (motCfg m) 0 16 then 0 else (s.mot m).speed)

/-- A cell worker's record of this tick, held at 0.30 T (R757). -/
def State.cellNow (s : State) (w : Nat) : Option CellRec :=
  match s.nowRec w with
  | some r => match r.meas with
    | .cell c => some c
    | .meter _ => none
  | none => none

/-- A meter worker's record of this tick. -/
def State.meterNow (s : State) (w : Nat) : Option MeterRec :=
  match s.nowRec w with
  | some r => match r.meas with
    | .meter c => some c
    | .cell _ => none
  | none => none

/-- HRD on a CELLVIEW handle (R375): cells in mV, where a value between two mV is either of them; none for an item without
an entry. -/
def State.hrdCell (s : State) (w item : Nat) : Option TWord :=
  if 1 ≤ item ∧ item ≤ 24 then
    some (match s.cellNow w with
      | some r => if nth 6 r.cstat (item - 1) ≤ 1 then
          wNum 8 (divFree s.free ((nth 0 r.cells (item - 1) : Nat) : Int) 10) else wPoison
      | none => wPoison)
  else if item = 25 then
    some (match s.cellNow w with
      | some r => if bit r.wflags 1 then wPoison else tword 8 (2 * r.stack)
      | none => wPoison)
  else if 32 ≤ item ∧ item ≤ 39 then
    some (match s.cellNow w with
      | some r => if nth 3 r.tstat (item - 32) = 0 then wNum 0xA (100 * nth 0 r.temps (item - 32)) else wPoison
      | none => wPoison)
  else none

/-- HRD on a STATION_IN handle (R687). -/
def State.hrdStation (s : State) (w item : Nat) : TWord :=
  match s.nowRec w with
  | none => wPoison
  | some r =>
    if item < 2 then wBool (bit r.stn.di item)
    else if nth 3 r.stn.tstat (item - 2) = 0 then wNum 0xA (100 * nth 0 r.stn.temps (item - 2)) else wPoison

/-- HRD on a METER handle (R465). -/
def State.hrdMeter (s : State) (w item : Nat) : TWord :=
  match s.meterNow w with
  | none => wPoison
  | some r =>
    if bit r.mstat item then wPoison
    else match item with
      | 0 => wNum 9 r.iPri
      | 1 => wNum 9 r.iChk
      | 2 => tword 8 r.vPack
      | _ => tword 8 r.vLink

/-- HRD on a NETNODE handle (R702, R713). -/
def State.hrdNode (s : State) (net node : Nat) : TWord :=
  if net < 4 then
    let k := Tbl.get KaNode.d s.net.ka node
    let ours := net == s.kaCtrl
    let heard := k.us ≤ 2000 * s.pf 0x3002 0 11 && ours
    if ours then
      wInt (b2n heard + 2 * b2n k.need + 4 * b2n k.ready + 2 ^ 8 * k.byte2 + 2 ^ 16 * Nat.min (k.us / 1000) 65535)
    else wInt (2 ^ 16 * 65535)
  else
    let l := net - 4
    wInt (b2n ((s.lin l).good.contains node) + 2 * s.pf (0x3040 + 16 * l + node) 12 1 +
      2 ^ 8 * leNat ((s.linData l node).take 3))

/-- HRD of item `fn` through handle slot `i`, before the item 0x3FFF (R756): a word, or the trap DATA_BOUNDS. -/
def State.hrdWord (s : State) (i fn : Nat) : Except Nat TWord :=
  let h := s.slot i
  let t := s.atSample
  let one (w : TWord) : Except Nat TWord := if fn = 0 then .ok w else .ok (wStatus 0x0103)
  match h.cls with
  | 0x01 => one (wInt (t.p (hsStat h.res)))
  | 0x03 => one (t.hrdValve h.res)
  | 0x04 => one (tword 0xD (t.pf (ledStat h.res) 0 16))
  | 0x05 => one (t.hrdBridge h.res)
  | 0x06 => one (t.hrdMotor h.res)
  | 0x07 => one (wBool (t.swLevel h.res))
  | 0x08 => one (wBool (t.followLevel (24 + h.res)))
  | 0x09 => .ok ((s.hrdCell (resW h.res) fn).getD (wStatus 0x0103))
  | 0x0B => one (tword (if resItem h.res = 2 then 0xD else 3) (stnGet (s.view (resW h.res)).cmd (resItem h.res)))
  | 0x0C => one (s.hrdStation (resW h.res) (resItem h.res))
  | 0x0D => one (s.hrdMeter (resW h.res) (resItem h.res))
  | 0x12 =>
    match h.pg with
    | none => .ok (wStatus 0x0103)
    | some g =>
      if fn = 0 then .ok (wNum 1 ((t.p (0x2100 + 2 * g) : Int) - (h.mark : Int)))
      else if fn = 1 then .ok (wInt (t.pgPos g))
      else .ok (wStatus 0x0103)
  | 0x13 =>
    if leAt h.cdata 2 2 ≤ fn then .error 9
    else .ok (Tbl.get 0#36 (s.core h.res).snap (leAt h.cdata 0 2 + fn))
  | 0x14 => one (t.hrdNode (h.res / 2 ^ 24) (h.res % 2 ^ 16))
  | 0x15 => one (tword 8 (Tbl.get 0 t.out.railMv h.res))
  | _ => .ok (wStatus 0x0201)

/-- The tags that HWR accepts for a class (table "Channel words"), none for a class without an entry. -/
def hwrTags (cls item : Nat) : Option (List Nat) :=
  match cls with
  | 0x01 => some [1, 3, 0xD]
  | 0x03 => some [1]
  | 0x04 => some [0xD]
  | 0x0B => some [if item = 2 then 0xD else 3]
  | 0x13 => some (List.range 15)
  | _ => none

/-- Lodging a core's intent: the last HWR of a slice on an output is the core's one intent for it (R204). -/
def State.lodgeCore (s : State) (kind chan core : Nat) (excl : Bool) (a b c : Nat) : State :=
  (s.mapCmd (fun m => { m with
    intents := m.intents.filter (fun i => !(i.kind == kind && i.chan == chan && i.src == 4 + core)) })).lodge
      kind chan (4 + core) excl a b c 0

/-- The result of the core's last HWR on a handle is awaited (R759). -/
def State.hwrWaits (s : State) (core handle lodge : Nat) : State :=
  s.updCore core (fun k => { k with
    results := k.results.filter (fun r => r.handle != handle) ++ [⟨handle, some lodge, 1⟩] })

/-- The value range of an HWR (R239, R581, R592, R598, R615, R674, R758), within the tags that the class accepts. -/
def State.hwrFits (s : State) (h : HSlot) (tag v : Nat) : Bool :=
  match h.cls with
  | 0x01 =>
    if tag = 3 then v ≤ 1
    else s.hsBound h.res && !s.isCon h.res && (if tag = 0xD then v ≤ 0xFFFF else v < 2 ^ 28)
  | 0x03 => (v % 256 ≤ 7 || v % 256 == 255) && fld v 8 8 == 0 && v / 2 ^ 16 < s.tUs
  | 0x04 => v ≤ 0xFFFF
  | 0x0B => stnFits (resItem h.res) v
  | _ => true

/-- Lodging of an accepted HWR. A station output of a worker that this manager does not own settles with NOT_OWNER
(R531, R759). -/
def State.hwrLodge (s : State) (core : Nat) (h : HSlot) (fn tag v : Nat) (w : TWord) : State :=
  match h.cls with
  | 0x01 =>
    if tag = 3 then s.lodgeCore 1 h.res core h.excl 0 v 0
    else if tag = 0xD then s.lodgeCore 1 h.res core h.excl 2 v 0
    else s.lodgeCore 1 h.res core h.excl 1 (v % 2 ^ 16) (v / 2 ^ 16)
  | 0x03 => s.lodgeCore 3 h.res core h.excl (v % 256) ((s.tick + 1) * s.tUs + v / 2 ^ 16) 0
  | 0x04 => s.lodgeCore 4 h.res core h.excl v 0 0
  | 0x0B =>
    if s.owns (resW h.res) then s.lodgeCore 0x0B (4 * resW h.res + resItem h.res) core h.excl v 0 0
    else s.mapCmd (fun m => { m with lodge := m.lodge + 1, verdicts := ⟨m.lodge, 0x0302, 0, 0⟩ :: m.verdicts })
  | _ =>
    (s.updCore core (fun k => { k with writes := k.writes ++ [(h.res, leAt h.cdata 0 2 + fn, w)] })).mapCmd
      (fun m => { m with lodge := m.lodge + 1 })

/-- HWR of `w` to item `fn` through handle slot `i` (R758, R762), its tag being accepted: the STATUS and the state after,
or the trap DATA_BOUNDS. -/
def State.hwrWord (s : State) (core i handle fn : Nat) (w : TWord) : Except Nat (Nat × State) :=
  let h := s.slot i
  if (hwrTags h.cls (resItem h.res)).isNone then .ok (0x0201, s)
  else if h.cls = 0x13 ∧ leAt h.cdata 2 2 ≤ fn then .error 9
  else if h.writer = false then .ok (0x0205, s)
  else if (h.cls ≠ 0x13 ∧ fn ≠ 0) ∨ s.hwrFits h (tagOf w) (payOf w) = false then .ok (0x0103, s)
  else .ok (1, (s.hwrLodge core h fn (tagOf w) (payOf w) w).hwrWaits core handle s.cmd.lodge)

/-- HRD item 0x3FFF (R759). -/
def State.hwrStatus (s : State) (core handle : Nat) : TWord :=
  match (s.core core).results.find? (fun r => r.handle == handle) with
  | some r => wStatus r.status
  | none => wStatus 0x0103

/-- LEDGRD (R480). -/
def State.ledgItem (s : State) (n item : Nat) : TWord :=
  if 8 ≤ item then wStatus 0x0103
  else if s.instLives n = false then wPoison
  else
    let t := (s.inst n).totals
    let m := nth 0 t (item % 4) / 1000
    if item < 2 then tword 0xB (m % 1000000000)
    else if item < 4 then wInt (m % 1000000000)
    else wInt (m / 1000000000)

/-- A DOUSE command with its reason code (R80, R268, R274, R277). The manual names no event for it, so the reason stands
in EVT.DCMD alone. -/
def State.douseCmd (s : State) (reason : Nat) : State :=
  let s1 := (s.setP 0x060E (reason % 2 ^ 16 + 2 ^ 16)).mapSys (fun y => { y with douseTick := true })
  match s.sys.phase with
  | .lit => s1.mapEvt (fun v => { v with douse := true })
  | .doused => s1.mapSys (fun y => { y with clearDue := false })
  | .kindling => s1.mapSys (fun y => { y with dousePend := true })
  | _ => s

end Sys2Proof.Machine
end

