-- ==== Sys2Proof/Machine/Stoker.lean ====
section
/-! DEFINITION. The Stoker cores: traps, slices and the effect of each instruction (R735 to R776). -/

namespace Sys2Proof.Machine

/-- STK.CFG[c]. -/
def stkCfg (c : Nat) : Nat := 0x3800 + 8 * c
/-- STK.STAT[c]. -/
def stkStat (c : Nat) : Nat := 0x3802 + 8 * c
/-- STK.STAT[c].STATE: 0 EMPTY, 1 HALTED, 2 RUNNING, 3 TRAPPED. -/
def State.stkState (s : State) (c : Nat) : Nat := s.pf (stkStat c) 0 3

/-- What an instruction does: a trap with its soft code, or the state it leaves, the next PC, its cycles, and whether it
ends the slice. -/
inductive SkOut where
  | trap (code soft : Nat)
  | next (s : State) (pc cycles : Nat) (ends : Bool)

/-- Register `r` of core `c`. -/
def State.reg (s : State) (c r : Nat) : TWord := Tbl.get 0#36 (s.core c).regs r
/-- Writing register `r` of core `c`. -/
def State.setReg (s : State) (c r : Nat) (w : TWord) : State :=
  s.updCore c (fun k => { k with regs := Tbl.put 0#36 k.regs r w })

/-- gd of an instruction's bits [25:0]. -/
def xd (x : Nat) : Nat := fld x 22 4
/-- ga. -/
def xa (x : Nat) : Nat := fld x 18 4
/-- gb. -/
def xb (x : Nat) : Nat := fld x 14 4
/-- fn. -/
def xf (x : Nat) : Nat := fld x 0 14

/-- Whether the bits outside those that the row uses are 0 (R750): `used` counts them. -/
def unusedZero (x used : Nat) : Bool := x % 2 ^ 26 &&& (2 ^ 26 - 1 - used) == 0
/-- The bits of gd. -/
def useD : Nat := 15 * 2 ^ 22
/-- The bits of ga. -/
def useA : Nat := 15 * 2 ^ 18
/-- The bits of gb. -/
def useB : Nat := 15 * 2 ^ 14

/-- The trap that an instruction takes (R747): POISON_USE, then TAG_MISMATCH, then any other, of which the manual orders
none before another: where more than one applies, it is one of them. -/
def trapOf (n : Nat) (poison mismatch : Bool) (others : List (Bool × Nat)) : Option Nat :=
  if poison then some 2
  else if mismatch then some 1
  else
    let l := (others.filter (·.1)).map (·.2)
    if l.isEmpty then none else some (nth 0 l (Config.freeNat n % l.length))

/-- An instruction that writes gd and goes on to PC + 1, or traps. -/
def State.skPut (s : State) (c x cycles : Nat) (t : Option Nat) (w : TWord) : SkOut :=
  match t with
  | some k => .trap k 0
  | none => .next (s.setReg c (xd x) w) ((s.core c).pc + 1) cycles false

/-- Whether a tag is a quantity (R741). -/
def isQty (t : Nat) : Bool := 8 ≤ t && t ≤ 0xD
/-- INT, FIX, TICK or a quantity. -/
def isNum (t : Nat) : Bool := t == 1 || t == 2 || t == 4 || isQty t
/-- POISON. -/
def isPoison (w : TWord) : Bool := tagOf w == 0xF

/-- Whether a signed result fits 32 bits. -/
def fits32 (v : Int) : Bool := decide (-(2 ^ 31 : Int) ≤ v) && decide (v < (2 ^ 31 : Int))

/-- Whether a result overflows its tag (R744): INT and TICK wrap. -/
def overflows (tag : Nat) (v : Int) : Bool := !(tag == 1 || tag == 4) && !fits32 v

/-- The tag of a sum or difference, none for operands that the table "Tag rules" does not list; `kind`: 0 ADD, 1 SUB,
2 SATADD. -/
def sumTag (kind ta tb : Nat) : Option Nat :=
  if ta = 4 ∧ tb = 4 then (if kind = 0 then none else if kind = 1 then some 1 else some 4)
  else if ta = tb ∧ isNum ta = true then some ta
  else if ta = 4 ∧ tb = 1 then some 4
  else none

/-- The tag and value of a product before any overflow, none for operands not listed. -/
def mulOf (a b : TWord) : Option (Nat × Int) :=
  let ta := tagOf a
  let tb := tagOf b
  let p := intOf a * intOf b
  if isQty ta = true ∧ tb = 1 then some (ta, p)
  else if isQty ta = true ∧ tb = 2 then some (ta, p / 65536)
  else if ta = 2 ∧ tb = 2 then some (2, p / 65536)
  else if ta = 1 ∧ tb = 2 then some (2, p)
  else if ta = 1 ∧ tb = 1 then some (1, p)
  else none

/-- The tag and the dividend's scale of a quotient, none for operands not listed. -/
def divOf (ta tb : Nat) : Option (Nat × Int) :=
  if isQty ta = true ∧ ta = tb then some (2, 65536)
  else if ta = 8 ∧ tb = 9 then some (0xC, 1000000)
  else if (isQty ta = true ∨ ta = 1) ∧ tb = 1 then some (ta, 1)
  else if (isQty ta = true ∨ ta = 2) ∧ tb = 2 then some (ta, 65536)
  else none

/-- ga − gb as CMP, MIN and MAX judge it (R745). -/
def cmpOf (a b : TWord) : Int :=
  if tagOf a = 4 then ofTwos 32 (toTwos 32 (intOf a - intOf b)) else intOf a - intOf b

/-- A two-operand instruction over INT, FIX, TICK or quantities: its poison, and the trap or the result. -/
def State.skSum (s : State) (c x kind : Nat) : SkOut :=
  let a := s.reg c (xa x)
  let b := s.reg c (xb x)
  let tag := sumTag kind (tagOf a) (tagOf b)
  let v := if kind = 1 then intOf a - intOf b else intOf a + intOf b
  let r := if kind = 2 then clampS 32 v else v
  s.skPut c x 1
    (trapOf s.free (isPoison a || isPoison b) tag.isNone
      [(!unusedZero x (useD + useA + useB), 7), (overflows (tag.getD 1) r, 3)])
    (wNum (tag.getD 0) r)

/-- NOP. -/
def State.skNop (s : State) (c x : Nat) : SkOut :=
  if unusedZero x 0 then .next s ((s.core c).pc + 1) 1 false else .trap 7 0

/-- LDK: a word with a tag and a sign-extended immediate; a BOOL is 0 or 1. -/
def State.skLdk (s : State) (c x : Nat) : SkOut :=
  let tag := fld x 18 4
  let v := ofTwos 18 x
  s.skPut c x 1 (trapOf s.free false (tag == 5) [])
    (if tag = 3 then wBool (v != 0) else wNum tag v)

/-- MOV. -/
def State.skMov (s : State) (c x : Nat) : SkOut :=
  s.skPut c x 1 (trapOf s.free false false [(!unusedZero x (useD + useA), 7)]) (s.reg c (xa x))

/-- TAGQ. With fn[4] at 0 the row uses no bit of fn[3:0]. -/
def State.skTagq (s : State) (c x : Nat) : SkOut :=
  let t := tagOf (s.reg c (xa x))
  let q := bit x 4
  s.skPut c x 1 (trapOf s.free false false [(!unusedZero x (useD + useA + (if q then 31 else 0)), 7)])
    (if q then wBool (t == fld x 0 4) else wInt t)

/-- Whether RETAG converts (R748). -/
def retags (ta tt : Nat) : Bool :=
  if ta = 1 then tt == 2 || tt == 4 || isQty tt || tt == 7 || tt == 6 || tt == 3
  else tt == 1 && (ta == 2 || ta == 4 || ta == 3 || isQty ta || ta == 5 || ta == 0xE || ta == 7 || ta == 6)

/-- RETAG. -/
def State.skRetag (s : State) (c x : Nat) : SkOut :=
  let a := s.reg c (xa x)
  let tt := fld x 0 4
  s.skPut c x 1
    (trapOf s.free (isPoison a) (!retags (tagOf a) tt) [(!unusedZero x (useD + useA + 15), 7)])
    (if tt = 3 then wBool (payOf a != 0) else tword tt (payOf a))

/-- ADD. -/
def State.skAdd (s : State) (c x : Nat) : SkOut := s.skSum c x 0
/-- SUB. -/
def State.skSub (s : State) (c x : Nat) : SkOut := s.skSum c x 1
/-- SATADD. -/
def State.skSatadd (s : State) (c x : Nat) : SkOut := s.skSum c x 2

/-- MUL. -/
def State.skMul (s : State) (c x : Nat) : SkOut :=
  let a := s.reg c (xa x)
  let b := s.reg c (xb x)
  let r := mulOf a b
  let q := r.getD (1, 0)
  s.skPut c x 2
    (trapOf s.free (isPoison a || isPoison b) r.isNone
      [(!unusedZero x (useD + useA + useB), 7), (overflows q.1 q.2, 3)])
    (wNum q.1 q.2)

/-- DIV: the quotient truncates towards zero (R743). -/
def State.skDiv (s : State) (c x : Nat) : SkOut :=
  let a := s.reg c (xa x)
  let b := s.reg c (xb x)
  let r := divOf (tagOf a) (tagOf b)
  let q := r.getD (1, 1)
  let v := Int.tdiv (intOf a * q.2) (intOf b)
  s.skPut c x 12
    (trapOf s.free (isPoison a || isPoison b) r.isNone
      [(!unusedZero x (useD + useA + useB), 7), (intOf b == 0, 4), (intOf b != 0 && overflows q.1 v, 3)])
    (wNum q.1 v)

/-- SCL: a 64-bit product shifted right arithmetically. -/
def State.skScl (s : State) (c x : Nat) : SkOut :=
  let a := s.reg c (xa x)
  let b := s.reg c (xb x)
  let ok := (tagOf a == 1 || isQty (tagOf a)) && tagOf b == 1
  let v := intOf a * intOf b / (2 ^ fld x 0 5 : Nat)
  s.skPut c x 2
    (trapOf s.free (isPoison a || isPoison b) (!ok)
      [(!unusedZero x (useD + useA + useB + 31), 7), (overflows (tagOf a) v, 3)])
    (wNum (tagOf a) v)

/-- The condition of CMP on a difference. -/
def condOf (k : Nat) (d : Int) : Bool :=
  match k with
  | 0 => d == 0
  | 1 => d != 0
  | 2 => decide (d < 0)
  | 3 => decide (d ≤ 0)
  | 4 => decide (0 < d)
  | _ => decide (0 ≤ d)

/-- CMP. -/
def State.skCmp (s : State) (c x : Nat) : SkOut :=
  let a := s.reg c (xa x)
  let b := s.reg c (xb x)
  let k := fld x 0 3
  let t := tagOf a
  let ok := t == tagOf b && (isNum t || (k ≤ 1 && (t == 3 || t == 5 || t == 0xE || t == 6 || t == 7)))
  s.skPut c x 1
    (trapOf s.free (isPoison a || isPoison b) (!ok)
      [(!unusedZero x (useD + useA + useB + 7) || 6 ≤ k, 7)])
    (wBool (condOf k (cmpOf a b)))

/-- AND, OR and XOR: `f` on bits of INT words, `g` on BOOL words. -/
def State.skLogic (s : State) (c x : Nat) (f : BitVec 32 → BitVec 32 → BitVec 32) (g : Bool → Bool → Bool) : SkOut :=
  let a := s.reg c (xa x)
  let b := s.reg c (xb x)
  let ok := tagOf a == tagOf b && (tagOf a == 1 || tagOf a == 3)
  s.skPut c x 1
    (trapOf s.free (isPoison a || isPoison b) (!ok) [(!unusedZero x (useD + useA + useB), 7)])
    (if tagOf a = 3 then wBool (g (payOf a != 0) (payOf b != 0))
     else wInt (f (BitVec.ofNat 32 (payOf a)) (BitVec.ofNat 32 (payOf b))).toNat)

/-- AND. -/
def State.skAnd (s : State) (c x : Nat) : SkOut := s.skLogic c x (· &&& ·) (fun p q => p && q)
/-- OR. -/
def State.skOr (s : State) (c x : Nat) : SkOut := s.skLogic c x (· ||| ·) (fun p q => p || q)
/-- XOR. -/
def State.skXor (s : State) (c x : Nat) : SkOut := s.skLogic c x (· ^^^ ·) (fun p q => p != q)

/-- NOT. -/
def State.skNot (s : State) (c x : Nat) : SkOut :=
  let a := s.reg c (xa x)
  s.skPut c x 1
    (trapOf s.free (isPoison a) (!(tagOf a == 1 || tagOf a == 3)) [(!unusedZero x (useD + useA), 7)])
    (if tagOf a = 3 then wBool (payOf a == 0) else wInt (~~~ (BitVec.ofNat 32 (payOf a))).toNat)

/-- SHL. -/
def State.skShl (s : State) (c x : Nat) : SkOut :=
  let a := s.reg c (xa x)
  s.skPut c x 1
    (trapOf s.free (isPoison a) (tagOf a != 1) [(!unusedZero x (useD + useA + 31), 7)])
    (wInt (payOf a * 2 ^ fld x 0 5))

/-- SHR: fn[5] at 0 arithmetic, at 1 logical. -/
def State.skShr (s : State) (c x : Nat) : SkOut :=
  let a := s.reg c (xa x)
  let n := fld x 0 5
  s.skPut c x 1
    (trapOf s.free (isPoison a) (tagOf a != 1) [(!unusedZero x (useD + useA + 63), 7)])
    (if bit x 5 then wInt (payOf a / 2 ^ n) else wNum 1 (intOf a / (2 ^ n : Nat)))

/-- MIN and MAX. -/
def State.skPick (s : State) (c x : Nat) (low : Bool) : SkOut :=
  let a := s.reg c (xa x)
  let b := s.reg c (xb x)
  let ok := tagOf a == tagOf b && isNum (tagOf a)
  s.skPut c x 1
    (trapOf s.free (isPoison a || isPoison b) (!ok) [(!unusedZero x (useD + useA + useB), 7)])
    (if decide (cmpOf a b < 0) == low then a else b)

/-- MIN. -/
def State.skMin (s : State) (c x : Nat) : SkOut := s.skPick c x true
/-- MAX. -/
def State.skMax (s : State) (c x : Nat) : SkOut := s.skPick c x false

/-- ABS. -/
def State.skAbs (s : State) (c x : Nat) : SkOut :=
  let a := s.reg c (xa x)
  let t := tagOf a
  let v : Int := ((intOf a).natAbs : Int)
  s.skPut c x 1
    (trapOf s.free (isPoison a) (!(t == 1 || t == 2 || isQty t))
      [(!unusedZero x (useD + useA), 7), (overflows t v, 3)])
    (wNum t v)

/-- Whether a data address is out of bounds (R752). -/
def dataOut (v : Int) : Bool := decide (v < 0) || decide (4095 < v)

/-- Reading data memory into gd. -/
def State.skLoad (s : State) (c x : Nat) (poison mismatch unused : Bool) (addr : Int) : SkOut :=
  s.skPut c x 2 (trapOf s.free poison mismatch [(unused, 7), (dataOut addr, 9)])
    (Tbl.get 0#36 (s.core c).dmem addr.toNat)

/-- Writing gd to data memory. -/
def State.skStore (s : State) (c x : Nat) (poison mismatch unused : Bool) (addr : Int) : SkOut :=
  match trapOf s.free poison mismatch [(unused, 7), (dataOut addr, 9)] with
  | some k => .trap k 0
  | none =>
    .next (s.updCore c (fun k => { k with dmem := Tbl.put 0#36 k.dmem addr.toNat (s.reg c (xd x)) }))
      ((s.core c).pc + 1) 2 false

/-- LD: ga is DPTR, and imm18 an unsigned offset (R751). -/
def State.skLd (s : State) (c x : Nat) : SkOut :=
  let a := s.reg c (xa x)
  s.skLoad c x (isPoison a) (tagOf a != 7) false ((payOf a + fld x 0 18 : Nat) : Int)

/-- ST: the stored word may be POISON (R746). -/
def State.skSt (s : State) (c x : Nat) : SkOut :=
  let a := s.reg c (xa x)
  s.skStore c x (isPoison a) (tagOf a != 7) false ((payOf a + fld x 0 18 : Nat) : Int)

/-- LDX: gb is an INT index. -/
def State.skLdx (s : State) (c x : Nat) : SkOut :=
  let a := s.reg c (xa x)
  let b := s.reg c (xb x)
  s.skLoad c x (isPoison a || isPoison b) (tagOf a != 7 || tagOf b != 1) (!unusedZero x (useD + useA + useB))
    ((payOf a : Int) + intOf b)

/-- STX: R746 exempts ST alone, so a POISON word to store traps here. -/
def State.skStx (s : State) (c x : Nat) : SkOut :=
  let a := s.reg c (xa x)
  let b := s.reg c (xb x)
  s.skStore c x (isPoison a || isPoison b || isPoison (s.reg c (xd x))) (tagOf a != 7 || tagOf b != 1)
    (!unusedZero x (useD + useA + useB)) ((payOf a : Int) + intOf b)

/-- Whether an instruction address is out of bounds (R752). -/
def codeOut (v : Int) : Bool := decide (v < 0) || decide (8191 < v)

/-- BRT and BRF: the branch is taken when ga holds `want`. -/
def State.skBranch (s : State) (c x : Nat) (want : Bool) : SkOut :=
  let a := s.reg c (xa x)
  let pc := (s.core c).pc
  let taken := (payOf a != 0) == want
  let target : Int := (pc : Int) + ofTwos 18 x
  match trapOf s.free (isPoison a) (tagOf a != 3)
      [(!unusedZero x (useA + 2 ^ 18 - 1), 7), (taken && codeOut target, 8)] with
  | some k => .trap k 0
  | none => if taken then .next s target.toNat 2 false else .next s (pc + 1) 1 false

/-- BRT. -/
def State.skBrt (s : State) (c x : Nat) : SkOut := s.skBranch c x true
/-- BRF. -/
def State.skBrf (s : State) (c x : Nat) : SkOut := s.skBranch c x false

/-- The target of a J-form instruction (R749, R751): poison, a wrong tag, whether its unused bits are 0, and the
address. -/
def State.jTarget (s : State) (c x : Nat) : Bool × Bool × Bool × Nat :=
  if bit x 25 then
    let a := s.reg c (fld x 21 4)
    (isPoison a, tagOf a != 6, unusedZero x (2 ^ 25 + 15 * 2 ^ 21), payOf a)
  else (false, false, unusedZero x (2 ^ 13 - 1), fld x 0 13)

/-- JMP. -/
def State.skJmp (s : State) (c x : Nat) : SkOut :=
  let j := s.jTarget c x
  match trapOf s.free j.1 j.2.1 [(!j.2.2.1, 7), (codeOut j.2.2.2, 8)] with
  | some k => .trap k 0
  | none => .next s j.2.2.2 2 false

/-- CALL (R763): newest entry first; a full stack traps or loses its oldest entry. -/
def State.skCall (s : State) (c x : Nat) : SkOut :=
  let j := s.jTarget c x
  let full := 8 ≤ (s.core c).rstack.length
  match trapOf s.free j.1 j.2.1 [(!j.2.2.1, 7), (codeOut j.2.2.2, 8), (full && !s.pb (stkCfg c) 16, 5)] with
  | some k => .trap k 0
  | none =>
    .next (s.updCore c (fun k => { k with rstack := ((k.pc + 1) :: k.rstack).take 8 })) j.2.2.2 2 false

/-- RET (R763). -/
def State.skRet (s : State) (c x : Nat) : SkOut :=
  match trapOf s.free false false
      [(!unusedZero x 0, 7), ((s.core c).rstack.isEmpty, 6), (codeOut ((nth 0 (s.core c).rstack 0 : Nat) : Int), 8)] with
  | some k => .trap k 0
  | none => .next (s.updCore c (fun k => { k with rstack := k.rstack.drop 1 })) (nth 0 (s.core c).rstack 0) 2 false

/-- The slot of a register that holds a current handle. -/
def State.handleIn (s : State) (c r : Nat) : Option Nat := s.current (payOf (s.reg c r))

/-- HRD (R746, R756, R757, R759, R761). -/
def State.skHrd (s : State) (c x : Nat) : SkOut :=
  let a := s.reg c (xa x)
  let i := s.handleIn c (xa x)
  let r : Except Nat TWord := match i with
    | none => .ok 0#36
    | some k => if xf x = 0x3FFF then .ok (s.hwrStatus c (payOf a)) else s.hrdWord k (xf x)
  let oob := match r with | .error _ => true | .ok _ => false
  s.drawn.skPut c x 4
    (trapOf s.free (isPoison a) (tagOf a != 5)
      [(!unusedZero x (useD + useA + 2 ^ 14 - 1), 7), (i.isNone, 0xA), (i.isSome && oob, 9)])
    (match r with | .ok w => w | .error _ => 0#36)

/-- HWR (R746, R758, R761). The class is that of the handle word. -/
def State.skHwr (s : State) (c x : Nat) : SkOut :=
  let a := s.reg c (xa x)
  let b := s.reg c (xb x)
  let i := s.handleIn c (xa x)
  let item := resItem (s.slot (payOf a % 2 ^ 16)).res
  let badTag := tagOf a != 5 || (match hwrTags (payOf a / 2 ^ 26) item with
    | some l => !l.contains (tagOf b)
    | none => false)
  let r : Except Nat (Nat × State) := match i with
    | none => .ok (0, s)
    | some k => s.hwrWord c k (payOf a) (xf x) b
  let oob := match r with | .error _ => true | .ok _ => false
  match trapOf s.free (isPoison a || isPoison b) badTag [(i.isNone, 0xA), (i.isSome && oob, 9)] with
  | some k => .trap k 0
  | none =>
    match r with
    | .ok q => .next (q.2.setReg c (xd x) (wStatus q.1)) ((s.core c).pc + 1) 4 false
    | .error k => .trap k 0

/-- HOPEN (R760): a request that is resolved at 0.70 T. Without class data the row uses no bit of gb. -/
def State.skHopen (s : State) (c x : Nat) : SkOut :=
  let a := s.reg c (xa x)
  let b := s.reg c (xb x)
  let data := bit x 9
  match trapOf s.free (isPoison a || (data && isPoison b)) (tagOf a != 1 || (data && tagOf b != 1))
      [(!unusedZero x (useD + useA + (if data then useB else 0) + 1023), 7)] with
  | some k => .trap k 0
  | none =>
    let q : HReq := { core := c, isOpen := true, gd := xd x, cls := fld x 0 6, flags := fld x 6 4, res := payOf a,
                      data := payOf b, handle := 0 }
    .next ((s.mapHdl (fun h => { h with reqs := h.reqs ++ [q] })).setReg c (xd x) (wStatus 3))
      ((s.core c).pc + 1) 4 false

/-- HCLOSE (R760, R761). -/
def State.skHclose (s : State) (c x : Nat) : SkOut :=
  let a := s.reg c (xa x)
  match trapOf s.free (isPoison a) (tagOf a != 5)
      [(!unusedZero x (useD + useA), 7), ((s.handleIn c (xa x)).isNone, 0xA)] with
  | some k => .trap k 0
  | none =>
    let q : HReq := { core := c, isOpen := false, gd := xd x, cls := 0, flags := 0, res := 0, data := 0,
                      handle := payOf a }
    .next ((s.mapHdl (fun h => { h with reqs := h.reqs ++ [q] })).setReg c (xd x) (wStatus 1))
      ((s.core c).pc + 1) 4 false

/-- EVT fn[7:6] 0: whether the event is latched. -/
def State.skEvtRead (s : State) (c x : Nat) : SkOut :=
  s.skPut c x 4 (trapOf s.free false false [(!unusedZero x (useD + 255), 7)]) (wBool (s.latched (fld x 0 6)))

/-- EVT fn[7:6] 1: clear, then whether it is still latched (R258, R259). -/
def State.skEvtClear (s : State) (c x : Nat) : SkOut :=
  let t := s.clearEv (fld x 0 6)
  t.skPut c x 4 (trapOf s.free false false [(!unusedZero x (useD + 255), 7)]) (wBool (t.latched (fld x 0 6)))

/-- EVT fn[7:6] 2: the severity set for the event. -/
def State.skEvtSev (s : State) (c x : Nat) : SkOut :=
  s.skPut c x 4 (trapOf s.free false false [(!unusedZero x (useD + 255), 7)]) (wInt (s.evSev (fld x 0 6)))

/-- EVT. -/
def State.skEvt (s : State) (c x : Nat) : SkOut :=
  match fld x 6 2 with
  | 0 => s.skEvtRead c x
  | 1 => s.skEvtClear c x
  | 2 => s.skEvtSev c x
  | _ => .trap 7 0

/-- WAIT. -/
def State.skWait (s : State) (c x : Nat) : SkOut :=
  if unusedZero x 0 then .next s ((s.core c).pc + 1) 1 true else .trap 7 0

/-- TICKRD. -/
def State.skTickrd (s : State) (c x : Nat) : SkOut :=
  s.skPut c x 1 (trapOf s.free false false [(!unusedZero x (useD + 3), 7)])
    (match xf x with
      | 0 => tword 4 s.tick32
      | 1 => wInt (s.tick / 2 ^ 32)
      | 2 => wInt (s.core c).cycles
      | _ => wInt s.island.rtc)

/-- LEDGRD (R480). -/
def State.skLedgrd (s : State) (c x : Nat) : SkOut :=
  let a := s.reg c (xa x)
  let i := s.handleIn c (xa x)
  s.skPut c x 4
    (trapOf s.free (isPoison a) (tagOf a != 5)
      [(!unusedZero x (useD + useA + 2 ^ 14 - 1), 7), (i.isNone, 0xA)])
    (let h := s.slot (i.getD 0)
     if h.cls = 0x10 then s.ledgItem h.res (xf x) else wStatus 0x0201)

/-- WDGA fn 0 (R755): an answer from this core. -/
def State.skWdgaAnswer (s : State) (c x : Nat) : SkOut :=
  let a := s.reg c (xa x)
  let q := s.wdgJudge (payOf a % 2 ^ 16) (s.wdgSnap (4 + c))
  q.2.skPut c x 4 (trapOf s.free (isPoison a) (tagOf a != 1) [(!unusedZero x (useD + useA), 7)]) (wStatus q.1)

/-- WDGA fn 1 (R298). -/
def State.skWdgaQuestion (s : State) (c x : Nat) : SkOut :=
  s.skPut c x 4 (trapOf s.free false false [(!unusedZero x (useD + 1), 7)]) (wInt (s.pf 0x0703 0 16))

/-- WDGA. -/
def State.skWdga (s : State) (c x : Nat) : SkOut :=
  match xf x with
  | 0 => s.skWdgaAnswer c x
  | 1 => s.skWdgaQuestion c x
  | _ => .trap 7 0

/-- TRAP. -/
def State.skTrapInstr (s : State) (_c x : Nat) : SkOut :=
  match trapOf s.free false false [(!unusedZero x (2 ^ 14 - 1), 7), (true, 0xC)] with
  | some 0xC => .trap 0xC (xf x)
  | some k => .trap k 0
  | none => .trap 0xC (xf x)

/-- CVT. -/
def State.skCvt (s : State) (c x : Nat) : SkOut :=
  let a := s.reg c (xa x)
  let t := tagOf a
  let v := intOf a
  let f := xf x
  let want := match f with
    | 0 => 1
    | 1 => 2
    | 2 => 0xD
    | _ => 2
  let tooBig := match f with
    | 0 => !fits32 (v * 65536)
    | 3 => decide (v < 0) || decide (65535 < v)
    | _ => false
  s.skPut c x 1
    (trapOf s.free (isPoison a) (f ≤ 3 && t != want)
      [(!unusedZero x (useD + useA + 3), 7), (tooBig, 3)])
    (match f with
      | 0 => wNum 2 (v * 65536)
      | 1 => wNum 1 (Int.tdiv v 65536)
      | 2 => tword 2 (payOf a)
      | _ => tword 0xD (payOf a))

/-- SEL. -/
def State.skSel (s : State) (c x : Nat) : SkOut :=
  let a := s.reg c (xa x)
  let b := s.reg c (xb x)
  let k := s.reg c (fld x 0 4)
  s.skPut c x 1
    (trapOf s.free (isPoison a || isPoison b || isPoison k) (tagOf k != 3)
      [(!unusedZero x (useD + useA + useB + 15), 7)])
    (if payOf k != 0 then a else b)

/-- ORELSE. -/
def State.skOrelse (s : State) (c x : Nat) : SkOut :=
  let a := s.reg c (xa x)
  s.skPut c x 1 (trapOf s.free false false [(!unusedZero x (useD + useA + useB), 7)])
    (if isPoison a then s.reg c (xb x) else a)

/-- The instruction of opcode `op` (table "Instruction set"). -/
def State.skExec (s : State) (c op x : Nat) : SkOut :=
  match op with
  | 0x00 => s.skNop c x
  | 0x01 => s.skLdk c x
  | 0x02 => s.skMov c x
  | 0x03 => s.skTagq c x
  | 0x04 => s.skRetag c x
  | 0x05 => s.skAdd c x
  | 0x06 => s.skSub c x
  | 0x07 => s.skMul c x
  | 0x08 => s.skDiv c x
  | 0x09 => s.skScl c x
  | 0x0A => s.skCmp c x
  | 0x0B => s.skAnd c x
  | 0x0C => s.skOr c x
  | 0x0D => s.skXor c x
  | 0x0E => s.skNot c x
  | 0x0F => s.skShl c x
  | 0x10 => s.skShr c x
  | 0x11 => s.skMin c x
  | 0x12 => s.skMax c x
  | 0x13 => s.skAbs c x
  | 0x14 => s.skLd c x
  | 0x15 => s.skSt c x
  | 0x16 => s.skBrt c x
  | 0x17 => s.skBrf c x
  | 0x18 => s.skJmp c x
  | 0x19 => s.skCall c x
  | 0x1A => s.skRet c x
  | 0x1B => s.skHrd c x
  | 0x1C => s.skHwr c x
  | 0x1D => s.skHopen c x
  | 0x1E => s.skHclose c x
  | 0x1F => s.skEvt c x
  | 0x20 => s.skWait c x
  | 0x21 => s.skTickrd c x
  | 0x22 => s.skLedgrd c x
  | 0x23 => s.skWdga c x
  | 0x24 => s.skTrapInstr c x
  | 0x25 => s.skCvt c x
  | 0x26 => s.skSatadd c x
  | 0x27 => s.skSel c x
  | 0x28 => s.skLdx c x
  | 0x29 => s.skStx c x
  | 0x2A => s.skOrelse c x
  | _ => .trap 7 0

end Sys2Proof.Machine
end

