-- ==== Sys2Proof/Machine/Cores.lean ====
section
/-! DEFINITION. The cores within the tick: slices, traps, restarts and the resolution of what they asked for at 0.70 T
(R57, R227, R760 to R774), and the rows of the instruction set. A row executes the given instruction at the core's
present PC, in an open slice that has cycles left; without one it leaves the state as it is. -/

namespace Sys2Proof.Machine

/-- The tags of ga and gb that EV48 reports (R769): those that the form of the opcode has. -/
def State.trapTags (s : State) (c op x : Nat) : Nat :=
  if op = 1 ∨ op = 0x18 ∨ op = 0x19 ∨ 0x2B ≤ op then 0
  else if op = 0x14 ∨ op = 0x15 ∨ op = 0x16 ∨ op = 0x17 then tagOf (s.reg c (xa x))
  else tagOf (s.reg c (xa x)) + 16 * tagOf (s.reg c (xb x))

/-- The slice closes: STK.CYC and STK.CYCMAX. -/
def State.skEnd (s : State) (c : Nat) : State :=
  let n := Nat.min (s.core c).cycles (2 ^ 19 - 1)
  ((s.setPf (0x3803 + 8 * c) 0 19 n).setPf (0x3804 + 8 * c) 0 19 (Nat.max n (s.pf (0x3804 + 8 * c) 0 19))).updCore c
    (fun k => { k with slice := false })

/-- A slice ends without a trap (R180, R272, R774): a core that was to halt, or that stepped, is HALTED. -/
def State.skYield (s : State) (c : Nat) : State :=
  let k := s.core c
  let s1 := (s.skEnd c).updCore c (fun k => { k with haltDue := false, steps := none })
  if k.haltDue || k.steps.isSome then s1.setPf (stkStat c) 0 3 1 else s1

/-- The action of a trap (R766, R767, R774): 0 HALT, 1 RESTART, 2 DOUSE. -/
def State.trapAction (s : State) (c : Nat) : Nat :=
  let a := s.pf (stkCfg c) 14 2
  if (s.core c).steps.isSome ∨ (a = 1 ∧ s.pf (stkCfg c) 18 3 ≤ s.pf (stkStat c) 8 3) then 0 else a

/-- A trap (R765 to R769). A restart that falls into Doused lapses, and the core is HALTED. -/
def State.skTrap (s : State) (c code soft tags : Nat) : State :=
  let act := s.trapAction c
  let lapse : Bool := act = 1 && s.sys.phase == .doused
  let s1 := s.raise 48 (le 1 c ++ le 1 code ++ le 2 (s.core c).pc ++ le 1 act ++ le 1 tags ++ le 2 soft)
  let s2 := ((s1.skEnd c).setPf (stkStat c) 0 3 (if lapse then 1 else 3)).setPf (stkStat c) 4 4 code
  let s3 := s2.updCore c (fun k =>
    { k with haltDue := false, runDue := false, steps := none, startDue := act == 1 && !lapse })
  if act = 2 then s3.douseCmd (0xD500 + c) else s3

/-- The slice is stopped before it yields (R57, R770, R771): cause 0 the budget, 1 the instant 0.70 T. -/
def State.skStop (s : State) (c cause : Nat) : State :=
  let k := s.core c
  let s1 := s.raise 49 (le 1 c ++ le 1 cause ++ le 2 k.pc ++ le 4 k.cycles)
  if cause = 0 ∧ s.pb (stkCfg c) 17 = true then s1.skTrap c 0xB 0 0 else s1.skYield c

/-- The core goes on after an instruction: its PC, the cycles taken, the steps left of a STOKER_STEP (R774), and the end of the
slice at a WAIT or at the last step (R770). -/
def State.skAdvance (s : State) (c pc cycles : Nat) (ends : Bool) : State :=
  let t := s.updCore c (fun k =>
    { k with pc := pc, cycles := k.cycles + cycles, steps := k.steps.map (fun n => n - 1) })
  if ends then (t.setPf (stkStat c) 8 3 0).skYield c
  else if (t.core c).steps = some 0 then t.skYield c
  else t

/-- One instruction of an open slice (R752 to R754, R774). -/
def State.skOne (s : State) (c op x : Nat) : State :=
  if 8191 < (s.core c).pc then s.skTrap c 8 0 0
  else match s.skExec c op x with
  | .trap code soft => s.drawn.skTrap c code soft (s.trapTags c op x)
  | .next t pc cycles ends => t.skAdvance c pc cycles ends

/-- The cycles that a slice may take: its budget, and 0.40 T (R57, R770). -/
def State.skLimit (s : State) (c : Nat) : Nat := Nat.min (s.core c).budget (80 * s.tUs)

/-- Whether the core's slice is open with cycles left. -/
def State.skReady (s : State) (c : Nat) : Bool :=
  c < 4 && (s.core c).slice && (s.core c).cycles < s.skLimit c

/-- A row of the instruction set. -/
def State.skRow (s : State) (c op x : Nat) : State := if s.skReady c then s.skOne c op (x % 2 ^ 26) else s

/-- The rest of a slice, up to `n` instructions, as the core fetches it. -/
def State.skRun (s : State) (c : Nat) : Nat → State
  | 0 => s
  | n + 1 =>
    let k := s.core c
    if !k.slice then s
    else if k.budget ≤ k.cycles then s.skStop c 0
    else if 80 * s.tUs ≤ k.cycles then s.skStop c 1
    else
      let w := (Tbl.get 0#32 k.imem k.pc).toNat
      (s.skOne c (w / 2 ^ 26) (w % 2 ^ 26)).skRun c n

/-- Every slice of the tick ends (R57): what rows have not executed runs from the core's memory. -/
def State.slicesClose (s : State) : State := s.each (List.range 4) (fun t c => t.skRun c ((t.core c).budget + 2))

/-- A core that was to halt and has no slice left in the tick is HALTED (R180, R272). -/
def State.haltsClose (s : State) : State :=
  s.each (List.range 4) (fun t c =>
    if (t.core c).haltDue then
      let t1 := t.updCore c (fun k => { k with haltDue := false })
      if t.stkState c = 2 then t1.setPf (stkStat c) 0 3 1 else t1
    else t)

/-- A slice opens (R770, R772). -/
def State.sliceOpen (s : State) (c : Nat) : State :=
  s.updCore c (fun k => { k with slice := true, cycles := 0, budget := s.pf (0x3801 + 8 * c) 0 19 })

/-- A core starts at ENTRY with every register VOID and the return stack empty (R739, R766); its data memory stays. -/
def State.skStart (s : State) (c : Nat) : State :=
  (s.updCore c (fun k => { k with
    regs := [], rstack := [], pc := s.pf (stkCfg c) 0 13, startDue := false, runDue := false, haltDue := false })).setPf
    (stkStat c) 0 3 2

/-- A restart after a trap counts among the consecutive ones (R766, R767). -/
def State.skRestart (s : State) (c : Nat) : State := (s.skStart c).incPf (stkStat c) 8 3

/-- At 0.30 T every running core starts its slice, and STOKERPROG reads take the words of this instant (R762, R770). DEDUCED: a core
whose restart is still due starts here at ENTRY (R766, log 200). -/
def State.slicesOpen (s : State) : State :=
  let s0 := s.each ((List.range 4).filter (fun c => s.full && (s.core c).startDue)) (fun t c => t.skRestart c)
  let s1 := s0.each (List.range 4) (fun t c => if t.stkState c = 2 then t.sliceOpen c else t)
  s1.each (List.range 4) (fun t c => t.updCore c (fun k => { k with snap := k.dmem }))

/-- STOKER_RUN takes effect at a tick's beginning (R773). -/
def State.skResume (s : State) : State :=
  s.each (List.range 4) (fun t c =>
    if (t.core c).runDue then
      let t1 := t.updCore c (fun k => { k with runDue := false })
      if t.stkState c = 1 then t1.setPf (stkStat c) 0 3 2
      else if t.stkState c = 3 then t1.skStart c
      else t1
    else t)

/-- The cores in the order of CMD.RANK. -/
def State.coresRanked (s : State) : List Nat :=
  (List.range 8).flatMap (fun k => (List.range 4).filter (fun c => s.pf 0x0401 (4 * (4 + c)) 4 == k))

/-- STOKERPROG writes of the tick, after every slice (R762). -/
def State.progWrites (s : State) : State :=
  s.each s.coresRanked (fun t c =>
    let l := (t.core c).writes
    (t.updCore c (fun k => { k with writes := [] })).each l
      (fun u w => u.updCore w.1 (fun k => { k with dmem := Tbl.put 0#36 k.dmem w.2.1 w.2.2 })))

/-- A handle closes, with the captures that it held. -/
def State.closeHandle (s : State) (i : Nat) : State := (s.captureLeave i (s.slot i).cls).closeSlot i

/-- HOPEN and HCLOSE of the tick, cores in the order of CMD.RANK, and their results in gd (R227, R760). -/
def State.handleReqs (s : State) : State :=
  let l := s.hdl.reqs
  let s1 := s.mapHdl (fun h => { h with reqs := [] })
  s1.each (s.coresRanked.flatMap (fun c => l.filter (fun q => q.core == c))) (fun t q =>
    if q.isOpen then
      let r := t.openH (4 + q.core) q.cls (q.flags % 8) q.res (if bit q.flags 3 then le 4 q.data else [])
      r.2.2.setReg q.core q.gd (if r.1 = 0 then tword 5 r.2.1 else wStatus r.1)
    else
      let t1 := match t.current q.handle with
        | some i => t.closeHandle i
        | none => t
      t1.setReg q.core q.gd (wStatus 0))

/-- What a lodged write settled with (R205, R206, R679, R759): `ok` is the status of success. -/
def State.outResult (s : State) (kind chan lodge ok : Nat) : Nat :=
  match s.verdict lodge with
  | some v => if v.status = 0 then ok else v.status
  | none => if kind = 0x0B then s.stnStatus (chan / 4) else ok

/-- At the set instant every HWR of the tick has its result (R759). -/
def State.hwrSettle (s : State) : State :=
  s.each (List.range 4) (fun t c => t.updCore c (fun k => { k with
    results := k.results.map (fun r => match r.lodge with
      | none => r
      | some n =>
        let st := match s.cmd.winners.find? (fun i => i.lodge == n) with
          | some i => s.outResult i.kind i.chan n 0
          | none => s.outResult 0 0 n 0
        { r with lodge := none, status := st }) }))

/-- STOKER_BUDGET_REACHED (R57, R765, R770). -/
def execStokerBudgetReached (core : Nat) (s : State) : Host.Outcome State Fault Refusal :=
  done (if core < 4 && (s.core core).slice && (s.core core).budget ≤ (s.core core).cycles then s.skStop core 0 else s)

/-- STOKER_RESTART (R766, R767): the restart that is due; without this command it takes place as the next slices open. -/
def execStokerRestart (core : Nat) (s : State) : Host.Outcome State Fault Refusal :=
  done (if core < 4 && s.full && (s.core core).startDue then s.skRestart core else s)

/-- LDK (R741, R746). -/
def execLdk (core : Nat) (x : BitVec 26) (s : State) : Host.Outcome State Fault Refusal :=
  done (s.skRow core 1 x.toNat)

/-- MOV (R746). -/
def execMov (core : Nat) (x : BitVec 26) (s : State) : Host.Outcome State Fault Refusal :=
  done (s.skRow core 2 x.toNat)

/-- TAGQ (R746). -/
def execTagq (core : Nat) (x : BitVec 26) (s : State) : Host.Outcome State Fault Refusal :=
  done (s.skRow core 3 x.toNat)

/-- RETAG (R748). -/
def execRetag (core : Nat) (x : BitVec 26) (s : State) : Host.Outcome State Fault Refusal :=
  done (s.skRow core 4 x.toNat)

/-- ADD (R742, R744). -/
def execAdd (core : Nat) (x : BitVec 26) (s : State) : Host.Outcome State Fault Refusal :=
  done (s.skRow core 5 x.toNat)

/-- SUB (R742, R744). -/
def execSub (core : Nat) (x : BitVec 26) (s : State) : Host.Outcome State Fault Refusal :=
  done (s.skRow core 6 x.toNat)

/-- MUL (R742, R744). -/
def execMul (core : Nat) (x : BitVec 26) (s : State) : Host.Outcome State Fault Refusal :=
  done (s.skRow core 7 x.toNat)

/-- DIV (R742 to R744). -/
def execDiv (core : Nat) (x : BitVec 26) (s : State) : Host.Outcome State Fault Refusal :=
  done (s.skRow core 8 x.toNat)

/-- SCL (R742, R744). -/
def execScl (core : Nat) (x : BitVec 26) (s : State) : Host.Outcome State Fault Refusal :=
  done (s.skRow core 9 x.toNat)

/-- CMP (R742, R745). -/
def execCmp (core : Nat) (x : BitVec 26) (s : State) : Host.Outcome State Fault Refusal :=
  done (s.skRow core 0xA x.toNat)

/-- AND (R753). -/
def execAnd (core : Nat) (x : BitVec 26) (s : State) : Host.Outcome State Fault Refusal :=
  done (s.skRow core 0xB x.toNat)

/-- OR (R753). -/
def execOr (core : Nat) (x : BitVec 26) (s : State) : Host.Outcome State Fault Refusal :=
  done (s.skRow core 0xC x.toNat)

/-- XOR (R753). -/
def execXor (core : Nat) (x : BitVec 26) (s : State) : Host.Outcome State Fault Refusal :=
  done (s.skRow core 0xD x.toNat)

/-- NOT (R753). -/
def execNot (core : Nat) (x : BitVec 26) (s : State) : Host.Outcome State Fault Refusal :=
  done (s.skRow core 0xE x.toNat)

/-- SHL (R753). -/
def execShl (core : Nat) (x : BitVec 26) (s : State) : Host.Outcome State Fault Refusal :=
  done (s.skRow core 0xF x.toNat)

/-- SHR (R753). -/
def execShr (core : Nat) (x : BitVec 26) (s : State) : Host.Outcome State Fault Refusal :=
  done (s.skRow core 0x10 x.toNat)

/-- MIN (R742, R745). -/
def execMin (core : Nat) (x : BitVec 26) (s : State) : Host.Outcome State Fault Refusal :=
  done (s.skRow core 0x11 x.toNat)

/-- MAX (R742, R745). -/
def execMax (core : Nat) (x : BitVec 26) (s : State) : Host.Outcome State Fault Refusal :=
  done (s.skRow core 0x12 x.toNat)

/-- ABS (R742, R744). -/
def execAbs (core : Nat) (x : BitVec 26) (s : State) : Host.Outcome State Fault Refusal :=
  done (s.skRow core 0x13 x.toNat)

/-- LD (R751, R752). -/
def execLd (core : Nat) (x : BitVec 26) (s : State) : Host.Outcome State Fault Refusal :=
  done (s.skRow core 0x14 x.toNat)

/-- ST (R746, R751, R752). -/
def execSt (core : Nat) (x : BitVec 26) (s : State) : Host.Outcome State Fault Refusal :=
  done (s.skRow core 0x15 x.toNat)

/-- BRT (R751, R752). -/
def execBrt (core : Nat) (x : BitVec 26) (s : State) : Host.Outcome State Fault Refusal :=
  done (s.skRow core 0x16 x.toNat)

/-- BRF (R751, R752). -/
def execBrf (core : Nat) (x : BitVec 26) (s : State) : Host.Outcome State Fault Refusal :=
  done (s.skRow core 0x17 x.toNat)

/-- JMP (R751, R752). -/
def execJmp (core : Nat) (x : BitVec 26) (s : State) : Host.Outcome State Fault Refusal :=
  done (s.skRow core 0x18 x.toNat)

/-- CALL (R752, R763). -/
def execCall (core : Nat) (x : BitVec 26) (s : State) : Host.Outcome State Fault Refusal :=
  done (s.skRow core 0x19 x.toNat)

/-- RET (R752, R763). -/
def execRet (core : Nat) (x : BitVec 26) (s : State) : Host.Outcome State Fault Refusal :=
  done (s.skRow core 0x1A x.toNat)

/-- HRD (R756, R757, R759, R761). -/
def execHrd (core : Nat) (x : BitVec 26) (s : State) : Host.Outcome State Fault Refusal :=
  done (s.skRow core 0x1B x.toNat)

/-- HWR (R756, R758, R761, R762). -/
def execHwr (core : Nat) (x : BitVec 26) (s : State) : Host.Outcome State Fault Refusal :=
  done (s.skRow core 0x1C x.toNat)

/-- HOPEN (R227, R760). -/
def execHopen (core : Nat) (x : BitVec 26) (s : State) : Host.Outcome State Fault Refusal :=
  done (s.skRow core 0x1D x.toNat)

/-- HCLOSE (R227, R760, R761). -/
def execHclose (core : Nat) (x : BitVec 26) (s : State) : Host.Outcome State Fault Refusal :=
  done (s.skRow core 0x1E x.toNat)

/-- EVT_LATCHED_READ (R753): EVT with fn[7:6] at 0. -/
def execEvtLatchedRead (core : Nat) (x : BitVec 26) (s : State) : Host.Outcome State Fault Refusal :=
  done (s.skRow core 0x1F (setFld x.toNat 6 2 0))

/-- EVT_CLEAR (R258, R259, R753): EVT with fn[7:6] at 1. -/
def execEvtClear (core : Nat) (x : BitVec 26) (s : State) : Host.Outcome State Fault Refusal :=
  done (s.skRow core 0x1F (setFld x.toNat 6 2 1))

/-- EVT_SEVERITY_READ (R753): EVT with fn[7:6] at 2. -/
def execEvtSeverityRead (core : Nat) (x : BitVec 26) (s : State) : Host.Outcome State Fault Refusal :=
  done (s.skRow core 0x1F (setFld x.toNat 6 2 2))

/-- WAIT (R770). -/
def execWait (core : Nat) (x : BitVec 26) (s : State) : Host.Outcome State Fault Refusal :=
  done (s.skRow core 0x20 x.toNat)

/-- TICKRD (R753). -/
def execTickrd (core : Nat) (x : BitVec 26) (s : State) : Host.Outcome State Fault Refusal :=
  done (s.skRow core 0x21 x.toNat)

/-- LEDGRD (R480, R761). -/
def execLedgrd (core : Nat) (x : BitVec 26) (s : State) : Host.Outcome State Fault Refusal :=
  done (s.skRow core 0x22 x.toNat)

/-- WDGA_ANSWER (R284, R291 to R295, R755): WDGA with fn at 0. -/
def execWdgaAnswer (core : Nat) (x : BitVec 26) (s : State) : Host.Outcome State Fault Refusal :=
  done (s.skRow core 0x23 (setFld x.toNat 0 14 0))

/-- WDGA_QUESTION (R298, R755): WDGA with fn at 1. -/
def execWdgaQuestion (core : Nat) (x : BitVec 26) (s : State) : Host.Outcome State Fault Refusal :=
  done (s.skRow core 0x23 (setFld x.toNat 0 14 1))

/-- TRAP (R765). -/
def execTrap (core : Nat) (x : BitVec 26) (s : State) : Host.Outcome State Fault Refusal :=
  done (s.skRow core 0x24 x.toNat)

/-- CVT (R753). -/
def execCvt (core : Nat) (x : BitVec 26) (s : State) : Host.Outcome State Fault Refusal :=
  done (s.skRow core 0x25 x.toNat)

/-- SATADD (R742, R744). -/
def execSatadd (core : Nat) (x : BitVec 26) (s : State) : Host.Outcome State Fault Refusal :=
  done (s.skRow core 0x26 x.toNat)

/-- SEL (R753). -/
def execSel (core : Nat) (x : BitVec 26) (s : State) : Host.Outcome State Fault Refusal :=
  done (s.skRow core 0x27 x.toNat)

/-- LDX (R752). -/
def execLdx (core : Nat) (x : BitVec 26) (s : State) : Host.Outcome State Fault Refusal :=
  done (s.skRow core 0x28 x.toNat)

/-- STX (R746, R752). -/
def execStx (core : Nat) (x : BitVec 26) (s : State) : Host.Outcome State Fault Refusal :=
  done (s.skRow core 0x29 x.toNat)

/-- ORELSE (R746). -/
def execOrelse (core : Nat) (x : BitVec 26) (s : State) : Host.Outcome State Fault Refusal :=
  done (s.skRow core 0x2A x.toNat)

/-- NOP of a core (R753). -/
def execStkNop (core : Nat) (x : BitVec 26) (s : State) : Host.Outcome State Fault Refusal :=
  done (s.skRow core 0 x.toNat)

/-- ILLEGAL_OPCODE (R753): an opcode from 0x2B to 0x3F traps; any other is none of this row's. -/
def execIllegalOpcode (core op : Nat) (x : BitVec 26) (s : State) : Host.Outcome State Fault Refusal :=
  done (if 0x2B ≤ op % 64 then s.skRow core (op % 64) x.toNat else s)

end Sys2Proof.Machine
end

