-- ==== Sys2Proof/Machine/Requests.lean ====
section
/-! DEFINITION. The checks of a request at its execution, and its reply (R165, R169, R176, R197 to R202, R842). -/

namespace Sys2Proof.Machine

/-- What an executor answers at check 11: status, payload, what the reply waits for, and the state after. -/
structure Ans where
  status : Nat
  payload : List Byte
  wait : Option Await
  st : State

/-- A refusal that changes nothing. -/
def State.deny (s : State) (status : Nat) : Ans := ⟨status, [], none, s⟩
/-- A reply that waits for nothing. -/
def State.reply (s : State) (status : Nat) (payload : List Byte) : Ans := ⟨status, payload, none, s⟩

/-- Every opcode of the tables "Opcodes". -/
def opcodes : List Nat :=
  [0x00, 0x01, 0x02, 0x03, 0x04, 0x05, 0x06, 0x10, 0x11, 0x12, 0x13, 0x20, 0x21, 0x22, 0x23, 0x24, 0x25, 0x26, 0x30, 0x31,
   0x32, 0x33, 0x34, 0x35, 0x36, 0x40, 0x41, 0x42, 0x43, 0x44, 0x45, 0x46, 0x47, 0x50, 0x51, 0x52, 0x60, 0x61, 0x62, 0x63,
   0x64, 0x70, 0x71, 0x78, 0x79, 0x7C, 0x7D, 0x7E, 0x7F]

/-- The opcodes that Kindling permits; CONFIG_WRITE judges its states itself (R839). -/
def opsKindling : List Nat := [0x01, 0x02, 0x03, 0x40, 0x41, 0x50, 0x70, 0x71, 0x7C, 0x7E, 0x7F]

/-- Whether an opcode is permitted in the present state (R78, R79, R176). -/
def State.opAllowed (s : State) (op : Nat) : Bool :=
  match s.sys.phase with
  | .kindling => opsKindling.contains op
  | .lit => op != 0x7D
  | .doused => op != 0x61 && op != 0x64
  | _ => false

/-- The classes whose handles an opcode accepts; none where it takes no handle. Class 0 stands for HANDLE 0. -/
def opClasses (op : Nat) : Option (List Nat) :=
  match op with
  | 0x03 => some [0, 0x0A]
  | 0x04 => some [0, 0x0A]
  | 0x11 => some ((List.range 0x16).drop 1)
  | 0x12 => some [0x01, 0x05]
  | 0x13 => some ((List.range 0x16).drop 1)
  | 0x20 => some [0x01, 0x0B]
  | 0x21 => some [0x01]
  | 0x22 => some [0x03]
  | 0x23 => some [0x04]
  | 0x24 => some [0x05]
  | 0x25 => some [0x06]
  | 0x26 => some [0x06]
  | 0x31 => some [0x09]
  | 0x32 => some [0x09]
  | 0x33 => some [0x0E]
  | 0x34 => some [0x0F]
  | 0x35 => some [0x0F]
  | 0x36 => some [0x0C]
  | _ => none

/-- Whether LEN suits the opcode (R176, R178, R197, R489, R504, R507, R737, R839). DESIGN CHOICE: a CONFIG_WRITE with LEN 0 has no
byte 0 for step 1 of R839 to judge, and step 2 answers BAD_LENGTH. -/
def lenFits (op : Nat) (r : Req) : Bool :=
  let n := r.payload.length
  let user := bit r.flags 2
  match op with
  | 0x03 => n == 4
  | 0x04 => n == 8
  | 0x05 => n == (if user then 6 else 4)
  | 0x06 => if user then 16 ≤ n && n ≤ 4096 else n == 4 + 4 * leAt r.payload 2 2 && 8 ≤ n
  | 0x10 => 8 ≤ n && n ≤ 64
  | 0x12 => n == 4
  | 0x20 => n == 4
  | 0x21 => n == 4
  | 0x22 => n == 12
  | 0x23 => n == 4
  | 0x24 => n == 8
  | 0x25 => n == 8
  | 0x26 => n == 4
  | 0x30 => n == 8
  | 0x32 => n == 8
  | 0x34 => n == 16
  | 0x35 => n == 4
  | 0x40 => n == 1
  | 0x41 => n == 10
  | 0x42 => n == 136
  | 0x43 => n == 176
  | 0x44 => n == 132
  | 0x46 => n == 132
  | 0x47 => 132 ≤ n && (n == 132 + 2 * leAt r.payload 1 1 || 16 < leAt r.payload 1 1)
  | 0x50 => n == 6
  | 0x51 => n == (if r.port = 1 then 14 else 8)
  | 0x52 => n == 8
  | 0x60 => 8 ≤ n && (match leAt r.payload 1 1 with
    | 0 => n % 4 == 0
    | 1 => (n - 8) % 5 == 0
    | _ => true)
  | 0x61 => n == 1
  | 0x62 => n == 1
  | 0x63 => n == 1
  | 0x64 => n == 8
  | 0x70 => n == 2
  | 0x7C => 1 ≤ n && (match leAt r.payload 0 1 with
    | 1 => n == 2
    | 2 => 9 ≤ n && n ≤ 4096
    | 3 => n == 2
    | 4 => n == 8
    | 5 => 2 ≤ n && (match leAt r.payload 1 1 with
      | 1 => n == 3
      | 2 => n == 4
      | 3 => n == 3
      | 4 => n == 12
      | 5 => n == 34
      | 6 => n == 34
      | 7 => n == 3
      | _ => true)
    | _ => true)
  | 0x7E => n == 2
  | 0x7F => n == 4
  | _ => n == 0

/-- Check 7 (R165, R197): 0 where the flags are right. -/
def flagCheck (op : Nat) (r : Req) : Nat :=
  let signed := signedOps.contains op
  if r.flags / 8 % 32 ≠ 0 ∨ r.rsv ≠ 0 then 0x0103
  else if signed = true ∧ bit r.flags 1 = false then 0x0303
  else if signed = false ∧ bit r.flags 1 = true then 0x0103
  else if bit r.flags 2 = true ∧ op ≠ 0x05 ∧ op ≠ 0x06 then 0x0103
  else 0

/-- Check 9 (R165, R214). -/
def State.handleCheck (s : State) (op : Nat) (r : Req) : Nat :=
  match opClasses op with
  | none => if r.handle = 0 then 0 else 0x0103
  | some l =>
    if r.handle = 0 ∧ l.contains 0 = true then 0
    else match s.current r.handle with
      | none => 0x0200
      | some i => if l.contains (s.slot i).cls then 0 else 0x0201

/-- The handle slot that a request names. -/
def State.slotOf (s : State) (r : Req) : Nat := (s.current r.handle).getD 0

/-- The body of a signed request (R197). -/
def bodyOf (r : Req) : List Byte := r.payload.take (r.payload.length - 128)

/-- Check 10 (R198, R200): key hash, key, signature and nonce. -/
def State.signedOk (s : State) (op : Nat) (r : Req) : Bool :=
  match (s.port r.port).nonce with
  | none => false
  | some (nonce, first, last) =>
    let tail := r.payload.drop (r.payload.length - 128)
    let pub := tail.take 64
    let hash := le 32 (s.fz 0x600 256)
    first ≤ s.tick && s.tick ≤ last && s.fz 0x600 256 != 0 && sha256 pub == hash &&
      ecdsaVerify pub (sha256 (le 1 op ++ bodyOf r ++ le 8 Config.serial.toNat ++ nonce)) (tail.drop 64)

/-- Checks 5 to 9: 0 where all pass. -/
def State.preCheck (s : State) (op : Nat) (r : Req) : Nat :=
  if opcodes.contains op = false then 0x0101
  else if s.opAllowed op = false then 0x0300
  else if flagCheck op r ≠ 0 then flagCheck op r
  else if lenFits op r = false then 0x0102
  else s.handleCheck op r

/-- The payload of a refusal: SET_BLOCK names no refused value (R177, R842), and VALVE_FIRE the start that was refused, where the
request is long enough to name one (R598, R605). -/
def State.refusalBytes (s : State) (op : Nat) (r : Req) (payload : List Byte) : List Byte :=
  if op = 0x06 ∧ payload = [] then le 2 0xFFFF
  else if op = 0x22 ∧ r.payload.length = 12 then le 4 (s.tick + 1 + leAt r.payload 0 2) ++ le 2 (leAt r.payload 2 2)
  else payload

/-- One request executes: checks 5 to 11, and its reply in its place (R165, R201). -/
def State.runReq (s : State) (op : Nat) (r : Req) (f : State → Req → Ans) : State :=
  let c := s.preCheck op r
  if c ≠ 0 then s.answer op r c (s.refusalBytes op r []) none
  else
    let signed := signedOps.contains op
    let ok := !signed || s.signedOk op r
    let s1 := if signed then s.updPort r.port (fun p => { p with nonce := none }) else s
    if !ok then s1.answer op r 0x0303 [] none
    else
      let a := f s1 r
      a.st.answer op r a.status (if a.status < 0x100 then a.payload else s.refusalBytes op r a.payload) a.wait

/-- A row that executes one request in Compute. A port that does not serve, or does not exist, has none (R77). -/
def State.runRow (s : State) (op : Nat) (r : Req) (f : State → Req → Ans) : State :=
  if s.portServes r.port && r.port < 4 then s.runReq op r f else s

/-- An output reply waits for the set instant (R169, R170). -/
def State.lodged (s : State) (kind chan : Nat) (r : Req) (excl : Bool) (a b c ok : Nat) : Ans :=
  ⟨ok, [], some ⟨kind, chan, s.cmd.lodge, ok⟩, s.lodge kind chan r.port excl a b c 0⟩

end Sys2Proof.Machine
end

