-- ==== Sys2Proof/Machine/ReqSystem.lean ====
section
/-! DEFINITION. Requests on events, the Stoker cores, the watchdog, power and state (R176, R179 to R181, R226, R262, R267,
R275 to R278, R298, R737, R773 to R775). -/

namespace Sys2Proof.Machine

/-- EVENT_READ (R174, R267). -/
def State.opEventRead (s : State) (r : Req) : Ans :=
  let first := leAt r.payload 0 4
  let cnt := Nat.min (leAt r.payload 4 2) 127
  let top := s.nvm.jnext
  if top ≤ first then s.reply 0 (le 4 top)
  else
    let a := Nat.max first (top - 8192)
    let n := Nat.min cnt (top - a)
    s.reply 0 (le 4 (a + n) ++ (List.range n).flatMap (fun k => match s.jFind (a + k) with
      | some e => jBytes e
      | none => []))

/-- EVENT_SUBSCRIBE (R216, R217, R262). -/
def State.opEventSubscribe (s : State) (r : Req) : Ans :=
  if 8 ≤ (s.hdl.subs.filter (fun e => e.2.port == r.port)).length then s.deny 0x0202
  else match s.freeFrom 2048 0 with
    | none => s.deny 0x0202
    | some i =>
      let udp := leAt r.payload 12 2
      let s1 := s.updSlot i (fun h => { h with isOpen := true, cls := 0x11, opener := r.port })
      let s2 := s1.setPf 0x0500 16 12 (Nat.max (s1.pf 0x0500 16 12) s1.openCount)
      let sub : Subs := { port := r.port, mask := leAt r.payload 0 8, iface := r.iface,
                          ip := if r.port = 1 then leAt r.payload 8 4 else 0,
                          udp := if r.port = 1 then (if udp = 0 then 50742 else udp) else 0 }
      let s3 := s2.mapHdl (fun h => { h with subs := Tbl.set h.subs i sub })
      s3.reply 0 (le 4 (s3.handleOf i))

/-- EVENT_CLEAR (R258, R259). -/
def State.opEventClear (s : State) (r : Req) : Ans :=
  let t := s.clearEvs (leAt r.payload 0 8)
  t.reply 0 (le 8 t.evStat)

/-- The words of a STOKER_LOAD, `k` bytes each. -/
def loadWords (k : Nat) (l : List Byte) : List Nat := (List.range (l.length / k)).map (fun i => leAt l (k * i) k)

/-- Words written into the memory and the store of a core (R736, R737). -/
def State.coreStore (s : State) (c area off : Nat) (ws : List Nat) : State :=
  let l := ws.zipIdx
  if area = 0 then
    let s1 := s.updCore c (fun k => { k with
      imem := l.foldl (fun m e => Tbl.put 0#32 m (off + e.2) (BitVec.ofNat 32 e.1)) k.imem })
    (s1.mapNvm (fun v => { v with
      imem := l.foldl (fun m e => Tbl.put 0#32 m (8192 * c + off + e.2) (BitVec.ofNat 32 e.1)) v.imem })).mramFresh
      (0x2D0000 + 0x10000 * c + 4 * off) (4 * ws.length)
  else
    let s1 := s.updCore c (fun k => { k with
      dmem := l.foldl (fun m e => Tbl.put 0#36 m (off + e.2) (BitVec.ofNat 36 e.1)) k.dmem })
    (s1.mapNvm (fun v => { v with
      dmem := l.foldl (fun m e => Tbl.put 0#36 m (4096 * c + off + e.2) (BitVec.ofNat 36 e.1)) v.dmem })).mramFresh
      (0x2D8000 + 0x10000 * c + 8 * off) (8 * ws.length)

/-- STOKER_LOAD (R179, R226, R737). An EMPTY core whose store is loaded is HALTED at ENTRY. -/
def State.opStokerLoad (s : State) (r : Req) : Ans :=
  let c := leAt r.payload 0 1
  let area := leAt r.payload 1 1
  let off := leAt r.payload 4 4
  let d := r.payload.drop 8
  let ws := loadWords (if area = 0 then 4 else 5) d
  if 3 < c ∨ 1 < area ∨ leAt r.payload 2 2 ≠ 0 ∨ (if area = 0 then 8192 else 4096) < off + ws.length ∨
      (area = 1 ∧ ws.any (fun w => 2 ^ 36 ≤ w || w / 2 ^ 32 == 5) = true) then s.deny 0x0103
  else if s.stkState c = 2 then s.deny 0x0204
  else
    let s1 := (s.coreStore c area off ws).mapNvm (fun v => { v with stored := insNat c v.stored })
    let s2 := if s.stkState c = 0 then
        (s1.updCore c (fun k => { k with regs := [], rstack := [], pc := s.pf (stkCfg c) 0 13 })).setPf (stkStat c) 0 3 1
      else s1
    (s2.each ((s2.openSlots.filter (fun e => e.2.opener == 4 + c)).map (·.1)) (fun t i => t.closeHandle i)).reply 0 []

/-- The cores of a mask. -/
def coreMask (m : Nat) : List Nat := bitsOf m 4

/-- STOKER_RUN (R773). -/
def State.opStokerRun (s : State) (r : Req) : Ans :=
  let m := leAt r.payload 0 1
  if 16 ≤ m ∨ (coreMask m).any (fun c => s.stkState c == 0) = true then s.deny 0x0103
  else (s.each (coreMask m) (fun t c => t.updCore c (fun k => { k with runDue := true }))).reply 0 []

/-- STOKER_HALT (R180): at the end of the slice of this tick. A start that was due lapses. -/
def State.opStokerHalt (s : State) (r : Req) : Ans :=
  let m := leAt r.payload 0 1
  if 16 ≤ m then s.deny 0x0103
  else (s.each (coreMask m) (fun t c =>
    t.updCore c (fun k => { k with haltDue := k.haltDue || t.stkState c == 2, runDue := false }))).reply 0 []

/-- The payload of STOKER_STATE (R775). -/
def State.stokerBytes (s : State) (c : Nat) : List Byte :=
  le 4 (s.core c).pc ++ le 1 (s.stkState c) ++ le 1 (s.pf (stkStat c) 4 4) ++ zeros 2 ++ le 4 (s.pf (0x3803 + 8 * c) 0 19)

/-- STOKER_STATE (R775). -/
def State.opStokerState (s : State) (r : Req) : Ans :=
  let c := leAt r.payload 0 1
  if 3 < c then s.deny 0x0103 else s.reply 0 (s.stokerBytes c)

/-- STOKER_STEP (R774): the core's slice of this tick opens for the given number of instructions. DESIGN CHOICE: the reply leaves as
the step begins, so it tells the state RUNNING and the PC before the step (log 75). -/
def State.opStokerStep (s : State) (r : Req) : Ans :=
  let c := leAt r.payload 0 1
  let n := leAt r.payload 4 4
  if 3 < c ∨ leAt r.payload 1 3 ≠ 0 ∨ n < 1 ∨ 65536 < n then s.deny 0x0103
  else if s.stkState c = 0 then s.deny 0x0103
  else if s.stkState c ≠ 1 then s.deny 0x0204
  else
    let s1 := ((s.setPf (stkStat c) 0 3 2).sliceOpen c).updCore c (fun k => { k with steps := some n })
    s1.reply 0 (s1.stokerBytes c)

/-- The payload of a judged watchdog answer: the question then in force, and the error count (R291). -/
def State.wdgBytes (s : State) : List Byte := le 2 (s.pf 0x0703 0 16) ++ le 1 (s.pf 0x0703 16 3)

/-- WDG_ANSWER (R281 to R284, R291 to R295, R846). -/
def State.opWdgAnswer (s : State) (r : Req) : Ans :=
  let q := s.wdgJudge (leAt r.payload 0 2) r.wdg
  ⟨q.1, q.2.wdgBytes, none, q.2⟩

/-- WDG_QUESTION (R298). -/
def State.opWdgQuestion (s : State) (_r : Req) : Ans :=
  s.reply 0 (le 2 (s.pf 0x0703 0 16) ++ le 1 (s.pf 0x0703 19 1) ++ le 1 (s.pf 0x0703 16 3))

/-- SLEEP_REQUEST (R151, R172). -/
def State.opSleepRequest (s : State) (_r : Req) : Ans := (s.sleepBegin true).reply 1 []

/-- WAKE_REASON. -/
def State.opWakeReason (s : State) (_r : Req) : Ans := s.reply 0 (le 4 (s.p 0x0304))

/-- CLEAR_DOUSE (R275 to R277, R303). -/
def State.opClearDouse (s : State) (_r : Req) : Ans :=
  let still := s.dhold &&& s.evStat
  if still ≠ 0 ∨ s.sys.douseTick = true then ⟨0x0301, le 8 still, none, s⟩
  else ((s.setP 0x060E 0).mapSys (fun y => { y with clearDue := true })).reply 0 (zeros 8)

/-- DOUSE (R80, R268, R274, R277, R303). -/
def State.opDouse (s : State) (r : Req) : Ans := (s.douseCmd (leAt r.payload 0 2)).reply 0 []

/-- RESET (R181, R209): every request that has not yet executed is discarded. -/
def State.opReset (s : State) (r : Req) : Ans :=
  if leAt r.payload 0 4 ≠ 0x5A5AA5A5 then s.deny 0x0103
  else ((s.dueReset 3).mapCmd (fun m => { m with queue := [] })).reply 0 []

/-- EVENT_READ (R174, R267). -/
def execEventRead (r : Req) (s : State) : Host.Outcome State Fault Refusal := done (s.runRow 0x50 r State.opEventRead)
/-- EVENT_SUBSCRIBE (R262). -/
def execEventSubscribe (r : Req) (s : State) : Host.Outcome State Fault Refusal :=
  done (s.runRow 0x51 r State.opEventSubscribe)
/-- EVENT_CLEAR (R258, R259). -/
def execEventClear (r : Req) (s : State) : Host.Outcome State Fault Refusal := done (s.runRow 0x52 r State.opEventClear)
/-- STOKER_LOAD (R179, R226, R737). -/
def execStokerLoad (r : Req) (s : State) : Host.Outcome State Fault Refusal := done (s.runRow 0x60 r State.opStokerLoad)
/-- STOKER_RUN (R773). -/
def execStokerRun (r : Req) (s : State) : Host.Outcome State Fault Refusal := done (s.runRow 0x61 r State.opStokerRun)
/-- STOKER_HALT (R180). -/
def execStokerHalt (r : Req) (s : State) : Host.Outcome State Fault Refusal := done (s.runRow 0x62 r State.opStokerHalt)
/-- STOKER_STATE (R775). -/
def execStokerState (r : Req) (s : State) : Host.Outcome State Fault Refusal := done (s.runRow 0x63 r State.opStokerState)
/-- STOKER_STEP (R774). -/
def execStokerStep (r : Req) (s : State) : Host.Outcome State Fault Refusal := done (s.runRow 0x64 r State.opStokerStep)
/-- WDG_ANSWER (R291 to R293). -/
def execWdgAnswer (r : Req) (s : State) : Host.Outcome State Fault Refusal := done (s.runRow 0x70 r State.opWdgAnswer)
/-- WDG_QUESTION (R298). -/
def execWdgQuestion (r : Req) (s : State) : Host.Outcome State Fault Refusal := done (s.runRow 0x71 r State.opWdgQuestion)
/-- SLEEP_REQUEST (R151). -/
def execSleepRequest (r : Req) (s : State) : Host.Outcome State Fault Refusal := done (s.runRow 0x78 r State.opSleepRequest)
/-- WAKE_REASON (R176). -/
def execWakeReason (r : Req) (s : State) : Host.Outcome State Fault Refusal := done (s.runRow 0x79 r State.opWakeReason)
/-- CLEAR_DOUSE (R275 to R277). -/
def execClearDouse (r : Req) (s : State) : Host.Outcome State Fault Refusal := done (s.runRow 0x7D r State.opClearDouse)
/-- DOUSE (R268, R274). -/
def execDouse (r : Req) (s : State) : Host.Outcome State Fault Refusal := done (s.runRow 0x7E r State.opDouse)
/-- RESET (R181). -/
def execReset (r : Req) (s : State) : Host.Outcome State Fault Refusal := done (s.runRow 0x7F r State.opReset)

end Sys2Proof.Machine
end

