-- ==== Sys2Proof/Machine/ReqConfig.lean ====
section
/-! DEFINITION. Configuration images, their verification and loading, and CONFIG_WRITE (R25, R26, R82 to R104, R503,
R784 to R786, R790, R838, R839). -/

namespace Sys2Proof.Machine

/-- The parameters that the image loaded before named return to what the fuse load left (R786). -/
def State.imageUndo (s : State) : State :=
  match s.sys.image with
  | none => s
  | some im => s.each im.params (fun t e =>
    if s.sys.paramHold.contains e.1 then t
    else t.paramImage e.1 (match Tbl.find s.sys.base e.1 with
      | some v => v.toNat
      | none => (paramReset e.1).toNat))

/-- The parameters that an image names take its values (R93, R786); a level source that the load enables while its condition
holds occurs, by the severities that the load leaves (R256). -/
def State.imageParams (s : State) (b : ImageBody) : State :=
  (s.imageUndo.each b.params (fun t e => if s.sys.paramHold.contains e.1 then t else t.paramImage e.1 e.2)).enabled
    (fun k => s.p (0x0602 + k))

/-- Check CONTENT (R26, R578, R694, R700, R786, R847). DEDUCED: a body that gives a contactor-class channel another policy, initial
state or Doused setting than R578 gives the class is not consistent. -/
def State.contentFits (s : State) (b : ImageBody) : Bool :=
  b.consistent && b.meters ≤ 8 &&
    b.params.all (fun e => match paramRow e.1 with
      | some r => r.imageMayName
      | none => false) &&
    (let t := s.imageParams b
     t.linFits && t.canFits && t.weldFits && (List.range 40).all (fun n => hsFits n (t.p (hsCfg n))))

/-- An image in memory, as its slot or half holds it: a byte that no entry lists reads as `d`. -/
structure ImageAt where
  mem : Mem
  d : Byte
  base : Nat

/-- The header (R86). -/
def ImageAt.header (x : ImageAt) : List Byte := Mem.bytes x.d x.mem x.base 128
/-- IMG_LEN. -/
def ImageAt.len (x : ImageAt) : Nat := leAt x.header 8 4
/-- VERSION. -/
def ImageAt.version (x : ImageAt) : Nat := leAt x.header 12 4
/-- The body. -/
def ImageAt.body (x : ImageAt) : List Byte := Mem.bytes x.d x.mem (x.base + 128) (x.len - 192)
/-- The signature. -/
def ImageAt.sig (x : ImageAt) : List Byte := Mem.bytes x.d x.mem (x.base + x.len - 64) 64

/-- The first check that an image fails (R87), 0 for a valid one. -/
def State.imageCheck (s : State) (x : ImageAt) : Nat :=
  let h := x.header
  if leAt h 0 4 ≠ 0xF10AC0F6 ∨ leAt h 4 2 ≠ 1 ∨ leAt h 6 2 ≠ 128 then 1
  else if x.len < 320 ∨ 262144 < x.len then 2
  else if leAt h 16 2 ≠ 0xB900 ∨ (leAt h 18 1 ≠ s.role ∧ leAt h 18 1 ≠ 0xFF) ∨ s.pf 0x0100 16 4 < leAt h 19 1 ∨
      (leAt h 20 8 ≠ 0 ∧ leAt h 20 8 ≠ Config.serial.toNat) then 3
  else if crc32c x.body ≠ leAt h 28 4 then 4
  else if s.fz 0x500 256 = 0 ∨ sha256 (h.drop 64) ≠ le 32 (s.fz 0x500 256) then 5
  else if ecdsaVerify (h.drop 64) (sha256 (h ++ x.body)) x.sig = false then 6
  else if s.contentFits (Config.decodeBody x.body) = false then 7
  else 0

/-- Slot 0 (A) or 1 (B) of the flash (R82). -/
def State.slotImage (s : State) (k : Nat) : ImageAt := ⟨s.nvm.flash, 0xFF#8, 0x40000 * k⟩

/-- Half 0 or 1 of the shadow (R100). -/
def State.halfImage (s : State) (k : Nat) : ImageAt := ⟨s.nvm.shadow, 0#8, 0x40000 * k⟩

/-- The check of a slot; too many meter workers raise EV62 (R26, R87, R88). -/
def State.checkSlot (s : State) (k : Nat) : Nat × State :=
  let x := s.slotImage k
  let c := s.imageCheck x
  let s1 := s.setPf 0x0107 (4 * k) 4 c
  (c, if c = 7 ∧ 8 < (Config.decodeBody x.body).meters then s1.raise 62 [] else s1)

/-- The check of a half: an uncorrectable word of it, or an abandoned copy (R114), fails BODY_CRC. -/
def State.checkHalf (s : State) (k : Nat) : Nat :=
  let c := s.imageCheck (s.halfImage k)
  if c = 0 ∧ (s.badIn (0x250000 + 0x40000 * k) (s.halfImage k).len = true ∨ s.nvm.torn.contains k = true) then 4 else c

/-- SYS.BOOTSTAT.SHADOW_HALF. -/
def State.showHalf (s : State) : State := s.setPb 0x0106 3 (s.nvm.shadowCur == some 1)

/-- A half becomes the current one, with the slot it was copied from (R101). -/
def State.halfCurrent (s : State) (half slot : Nat) : State :=
  (s.mapNvm (fun v => { v with shadowCur := some half, shadowSlot := Tbl.put 0 v.shadowSlot half slot })).showHalf

/-- A shadow copy that is in progress ends: its half holds the image that was loaded and becomes current (R101). DESIGN CHOICE:
the copy takes until the next tick starts, the release is taken or another load follows, whichever comes first. -/
def State.copyEnd (s : State) : State :=
  match s.sys.copying with
  | none => s
  | some c =>
    let s1 := (s.mapNvm (fun v => { v with
      shadow := Mem.write 0#8 v.shadow (0x40000 * c.half) c.bytes
      torn := v.torn.filter (· != c.half) })).mramFresh (0x250000 + 0x40000 * c.half) c.bytes.length
    (s1.halfCurrent c.half c.slot).mapSys (fun y => { y with copying := none })

/-- The shadow copy of a loaded slot begins (R101), or is skipped where the half holds the same image already. -/
def State.shadowBegin (s : State) (slot : Nat) : State :=
  let half := match s.nvm.shadowCur with
    | some h => 1 - h
    | none => 0
  let x := s.slotImage slot
  let bytes := Mem.bytes x.d x.mem x.base x.len
  let same := Mem.bytes 0#8 s.nvm.shadow (0x40000 * half) x.len == bytes &&
    !s.badIn (0x250000 + 0x40000 * half) x.len && !s.nvm.torn.contains half
  if same then s.halfCurrent half slot else s.mapSys (fun y => { y with copying := some ⟨slot, half, bytes⟩ })

/-- A load's shadow copy, after an earlier load's. -/
def State.shadowCopy (s : State) (slot : Nat) : State := s.copyEnd.shadowBegin slot

/-- Every enumerated worker is configured (R104, R790). -/
def State.configWorkers (s : State) (stored : List WkStored) : State :=
  s.each s.workers (fun t w => t.configWorker w stored false)

/-- A configuration takes effect (R25, R93, R105, R503, R786): parameters, version, instances and identities. Its instances are still to
be reconstructed, so a release that was due is not. -/
def State.takeImage (s : State) (x : ImageAt) (slot : Nat) : State :=
  let im := Config.decodeBody x.body
  let s1 := (s.imageParams im).mapSys (fun y => { y with image := some im, releaseDue := false })
  let s2 := ((s1.setP 0x0108 x.version).setPb 0x0106 2 (slot == 1)).setPb 0x0107 8 false
  let s3 := s2.each (List.range 8) (fun t n => t.setPf (instStat n) 0 3 (b2n (t.instOn n)))
  s3.each (im.serials.filter (fun e => s3.ringOn e.1 && (s3.ring e.1).far.isNone && e.2 != (s3.ring e.1).serials))
    (fun t e => t.setPb (ringStat e.1) 20 true)

/-- A slot is loaded on the cold path, or by a COMMIT in Kindling (R93, R101). -/
def State.loadSlot (s : State) (slot : Nat) (stored : List WkStored) : State :=
  ((s.takeImage (s.slotImage slot) slot).shadowCopy slot).configWorkers stored

/-- CONFIG_LOAD on the cold path (R83 to R85). -/
def State.coldLoad (s : State) (stored : List WkStored) : State :=
  let a := s.checkSlot 0
  let b := a.2.checkSlot 1
  let t := b.2
  if a.1 ≠ 0 ∧ b.1 ≠ 0 then (t.setPb 0x0107 8 true).raise 62 []
  else if b.1 = 0 ∧ (a.1 ≠ 0 ∨ (s.slotImage 0).version < (s.slotImage 1).version) then t.loadSlot 1 stored
  else t.loadSlot 0 stored

/-- CONFIG_LOAD on the warm path (R102 to R104). -/
def State.warmLoad (s : State) (stored : List WkStored) : State :=
  let a := s.checkHalf 0 == 0
  let b := s.checkHalf 1 == 0
  let va := (s.halfImage 0).version
  let vb := (s.halfImage 1).version
  if !a && !b then s.reboot 7
  else
    let half := if !a then 1 else if !b then 0 else if va < vb then 1 else if vb < va then 0
      else if s.nvm.shadowCur == some 1 then 1 else 0
    let s1 := s.takeImage (s.halfImage half) (Tbl.get 0 s.nvm.shadowSlot half)
    ((s1.mapNvm (fun v => { v with shadowCur := some half })).showHalf).configWorkers stored

/-- Every ring in use has been enumerated (R83). -/
def State.ringsFound (s : State) : Bool := ((List.range 4).filter s.ringOn).all (fun r => (s.ring r).cal != 0)

/-- CONFIG_LOAD (R83, R102): once, after enumeration. A slot that a COMMIT has loaded before it takes part like any other. -/
def execConfigLoad (stored : List WkStored) (s : State) : Host.Outcome State Fault Refusal :=
  done (if s.sys.phase == .kindling && s.sys.rom && s.ringsFound && !s.sys.loaded then
    let t := s.mapSys (fun y => { y with loaded := true })
    if s.sys.warm then t.warmLoad stored else t.coldLoad stored
  else s)

/-- The fuse fields of FUSE (R89, R838): first bit, width, and bytes of the value. Field 0x04 is two fields in one. -/
def fuseField (k : Nat) : Option (Nat × Nat × Nat) :=
  match k with
  | 1 => some (0x46C, 2, 1)
  | 2 => some (0x46E, 16, 2)
  | 3 => some (0x46B, 1, 1)
  | 4 => some (0x420, 75, 10)
  | 5 => some (0x500, 256, 32)
  | 6 => some (0x600, 256, 32)
  | 7 => some (0x485, 1, 1)
  | _ => none

/-- The cells that a value sets, as a number at the field's first bit (R838). -/
def fuseCells (k v : Nat) : Nat := if k = 4 then v % 2 ^ 72 + ((v / 2 ^ 72) ^^^ 3) * 2 ^ 72 else v

/-- Whether a FUSE value is in range (R838). -/
def fuseFits (k v wid : Nat) : Bool := v < 2 ^ wid && !(k == 1 && v == 3) && !(k == 7 && v == 0)

/-- CONFIG_WRITE's states, step 3 (R99). -/
def State.configState (s : State) (sub : Nat) : Bool := s.sys.phase == .kindling || sub ≤ 3

/-- CONFIG_WRITE's values, step 4 (R839). -/
def State.configRange (s : State) (p : List Byte) : Bool :=
  let k := leAt p 1 1
  match leAt p 0 1 with
  | 1 => k ≤ 1
  | 2 => k ≤ 1 && leAt p 2 2 == 0 && leAt p 4 4 % 256 == 0 && leAt p 4 4 + (p.length - 8) ≤ 0x40000
  | 3 => k ≤ 1
  | 4 => k == 0 && (match paramRow (leAt p 2 2) with
    | some r =>
      let v := leAt p 4 4
      r.inRange WMode.param.takes v &&
          (s.setP (leAt p 2 2) (r.apply WMode.param.takes (s.p (leAt p 2 2)) v)).paramCross (leAt p 2 2)
    | none => false)
  | _ => (match fuseField k with
    | some f => fuseFits k (leNat (p.drop 2)) f.2.1
    | none => false)

/-- FUSE (R97, R98, R838). -/
def State.fuseWrite (s : State) (k v : Nat) : Ans :=
  match fuseField k with
  | none => s.deny 0x0103
  | some (lo, wid, _) =>
    let now := s.nvm.fuseOr.toNat
    if fld now lo wid ≠ 0 ∨ bit now 0x485 = true ∨ s.fz 0x485 1 = 1 then s.deny 0x0301
    else
      let cells := fuseCells k v
      (s.mapNvm (fun n => { n with fuses := n.fuses ||| BitVec.ofNat 4096 (cells * 2 ^ lo + cells * 2 ^ (lo + 2048)) })).reply 0 []

/-- ERASE and COMMIT begin (R90). An erased slot is invalid from its acceptance on (R115). -/
def State.nvmBegin (s : State) (op k : Nat) : Ans :=
  let s1 := (s.setPb 0x0107 9 true).mapSys (fun y => { y with nvmOp := some (op, k) })
  (if op = 0 then s1.mapNvm (fun v => { v with flash := Mem.clear v.flash (0x40000 * k) 0x40000 }) else s1).reply 1 []

/-- CONFIG_WRITE from step 1 (R89 to R99, R839); its length is judged at check 8. -/
def State.opConfigWrite (s : State) (r : Req) : Ans :=
  let p := r.payload
  let sub := leAt p 0 1
  let k := leAt p 1 1
  if sub < 1 ∨ 5 < sub then s.deny 0x0103
  else if s.configState sub = false then s.deny 0x0300
  else if s.configRange p = false then s.deny 0x0103
  else if s.pb 0x0107 9 = true then s.deny 0x0204
  else match sub with
    | 1 => s.nvmBegin 0 k
    | 2 => (s.mapNvm (fun v => { v with flash := Mem.write 0xFF#8 v.flash (0x40000 * k + leAt p 4 4) (p.drop 8) })).reply 0 []
    | 3 => s.nvmBegin 1 k
    | 4 =>
      let q := s.paramConfig (leAt p 2 2) (leAt p 4 4)
      if q.1 = 0 then q.2.reply 0 [] else s.deny q.1
    | _ => s.fuseWrite k (leNat (p.drop 2))

/-- A CONFIG_WRITE row: the request names its subfunction. -/
def State.configRow (s : State) (r : Req) (sub : Nat) : State :=
  if leAt r.payload 0 1 = sub then s.runRow 0x7C r State.opConfigWrite else s

/-- CONFIG_WRITE_ERASE (R89, R90). -/
def execConfigWriteErase (r : Req) (s : State) : Host.Outcome State Fault Refusal := done (s.configRow r 1)
/-- CONFIG_WRITE_WRITE (R89). -/
def execConfigWriteWrite (r : Req) (s : State) : Host.Outcome State Fault Refusal := done (s.configRow r 2)
/-- CONFIG_WRITE_COMMIT (R89, R90). -/
def execConfigWriteCommit (r : Req) (s : State) : Host.Outcome State Fault Refusal := done (s.configRow r 3)
/-- CONFIG_WRITE_PARAM (R95, R96, R784). -/
def execConfigWriteParam (r : Req) (s : State) : Host.Outcome State Fault Refusal := done (s.configRow r 4)
/-- CONFIG_WRITE_FUSE (R97, R98, R838). -/
def execConfigWriteFuse (r : Req) (s : State) : Host.Outcome State Fault Refusal := done (s.configRow r 5)

/-- BUSY ends. -/
def State.nvmEnd (s : State) : State := (s.setPb 0x0107 9 false).mapSys (fun y => { y with nvmOp := none })

/-- ERASE_COMPLETE (R90). -/
def execEraseComplete (s : State) : Host.Outcome State Fault Refusal :=
  done (match s.sys.nvmOp with
  | some (0, _) => s.nvmEnd
  | _ => s)

/-- COMMIT_COMPLETE (R90, R92 to R94). -/
def execCommitComplete (stored : List WkStored) (s : State) : Host.Outcome State Fault Refusal :=
  done (match s.sys.nvmOp with
  | some (1, k) =>
    let q := s.nvmEnd.checkSlot k
    let o := q.2.imageCheck (q.2.slotImage (1 - k))
    if q.1 = 0 ∧ s.sys.phase = .kindling ∧ (o ≠ 0 ∨ (s.slotImage (1 - k)).version ≤ (s.slotImage k).version) then
      q.2.loadSlot k stored
    else q.2
  | _ => s)

end Sys2Proof.Machine
end

