-- ==== Sys2Proof/Machine/ReqLedger.lean ====
section
/-! DEFINITION. Requests on the Peat ledger (R176, R197 to R202, R478, R479, R485, R488, R489, R504 to R509). -/

namespace Sys2Proof.Machine

/-- LEDGER_READ (R479): the newest mirror slot; a mirror that holds none reads as the erased MRAM of a new part. -/
def State.opLedgerRead (s : State) (r : Req) : Ans :=
  let n := leAt r.payload 0 1
  if 8 ≤ n then s.deny 0x0103
  else
    let i := s.inst n
    let slot := match i.mirror with
      | some a => slotBytes a
      | none => zeros 64
    let fresh := match i.mirRec with
      | some t => t == s.tick || t + 1 == s.tick
      | none => false
    s.reply (if s.instLives n then 0 else 0x0501) (slot ++ le 1 (b2n (!fresh)) ++ zeros 3)

/-- TURF_READ (R174, R488). Without a turf to return the manual states no next index: it is free. -/
def State.opTurfRead (s : State) (r : Req) : Ans :=
  let n := leAt r.payload 0 1
  let first := leAt r.payload 4 4
  let cnt := leAt r.payload 8 2
  if 8 ≤ n ∨ leAt r.payload 1 3 ≠ 0 ∨ cnt < 1 ∨ 15 < cnt then s.deny 0x0103
  else
    let l := ((s.inst n).sorted.filter (fun t => first ≤ t.index)).take cnt
    match l.reverse with
    | t :: _ => ⟨0, le 4 (t.index + 1) ++ le 2 l.length ++ zeros 2 ++
        l.flatMap (fun u => s.readMram (turfAddr n u.index) (turfBytes u)), none, s.drawn⟩
    | [] => ⟨0, le 4 (Config.freeNat s.free) ++ zeros 4, none, s.drawn⟩

/-- TURF_ACK (R478, R485, R538). -/
def State.opTurfAck (s : State) (r : Req) : Ans :=
  let b := bodyOf r
  let n := leAt b 0 1
  if 8 ≤ n ∨ leAt b 1 3 ≠ 0 ∨ s.instOn n = false then s.deny 0x0103
  else if s.ownsInst n = false then s.deny 0x0302
  else
    let q := s.ackTurfs n (leAt b 4 4)
    let new := (q.2.inst n).acked != (s.inst n).acked
    if q.1 ≠ 0 then s.deny q.1
    else (if new then q.2.ledgSync n 2 (le 4 (q.2.inst n).acked) else q.2).reply 0 []

/-- The value of an accepted provisioning (R500, R504, R505): the slot as staged, and the state. -/
def State.provision (s : State) (n serial seg : Nat) (tot : List Nat) : State :=
  let i := s.inst n
  let fresh := match i.lastRec with
    | some m => bit m.sflags 7
    | none => false
  let mirSeq := match i.mirror with
    | some a => a.seq
    | none => 0
  let mseq := match i.lastRec with
    | some m => m.seq
    | none => mirSeq
  let v : AccSlot :=
    { seq := mirSeq, tick := 0, segment := seg, flags := 0, rtc := 0, eIn := nth 0 tot 0, eOut := nth 0 tot 1,
      qIn := nth 0 tot 2, qOut := nth 0 tot 3, good := true }
  let put (m : MeterRec) : MeterRec := { m with eIn := nth 0 tot 0, eOut := nth 0 tot 1, qIn := nth 0 tot 2, qOut := nth 0 tot 3 }
  let s1 := s.updInst n (fun i => { i with
    bind := { i.bind with serial := some serial, isSealed := false }
    lastRec := i.lastRec.map put
    snapNext := true
    span := { i.span with tflags := setFld i.span.tflags 1 1 1 } })
  let s2 := ((s1.setPf (instStat n) 0 3 2).setPf (instStat n) 8 8 seg).setPb (instStat n) 7 false
  let s3 := s2.ledgWrite n v mseq 32 false
  let s4 := s3.spanEnd n 2 s.island.rtc true
  let s5 := if fresh then s4.updInst n (fun j => { j with
      m0 := i.m0, m1 := i.m1, slotOut := j.slotOut.map (fun a => (a.1, false)) }) else s4
  s5.bindSync n

/-- LEDGER_PROVISION (R478, R504, R505). -/
def State.opLedgerProvision (s : State) (r : Req) : Ans :=
  let b := bodyOf r
  let n := leAt b 0 1
  let serial := leAt b 4 8
  let tot := [leAt b 12 8, leAt b 20 8, leAt b 28 8, leAt b 36 8]
  let seg := leAt b 44 1
  if 8 ≤ n ∨ leAt b 1 3 ≠ 0 ∨ leAt b 45 3 ≠ 0 ∨ s.instOn n = false then s.deny 0x0103
  else
    let v := s.view (s.instW n)
    if v.here = false ∨ v.meter = false ∨ v.serial ≠ serial then s.deny 0x0103
    else if s.ownsInst n = false then s.deny 0x0302
    else if s.instLives n = true ∧ (((s.inst n).totals.zip tot).any (fun p => p.2 < p.1) = true ∨
        seg ≠ s.pf (instStat n) 8 8) then s.deny 0x0301
    else
      let t := s.provision n serial seg tot
      ⟨0, match (t.inst n).slotOut with
        | some a => slotBytes a.1
        | none => zeros 64, none, t⟩

/-- Sealing an instance (R509). -/
def State.sealInst (s : State) (n : Nat) : State :=
  (((s.spanEnd n 4 s.island.rtc true).setPf (instStat n) 0 3 5).updInst n
    (fun i => { i with bind := { i.bind with isSealed := true } })).bindSync n

/-- RELIGHT (R478, R507 to R509). -/
def State.opRelight (s : State) (r : Req) : Ans :=
  let b := bodyOf r
  let ns := bitsOf (leAt b 0 1) 8
  let fl := leAt b 1 1
  if 2 ≤ fl ∨ leAt b 2 2 ≠ 0 ∨ ns.any (fun n => s.instState n != 2) = true then s.deny 0x0103
  else if ns.any (fun n => !s.ownsInst n) = true then s.deny 0x0302
  else if fl = 1 then (s.each ns (fun t n => t.sealInst n)).reply 1 []
  else if popcount (fld s.nvm.fuseOr.toNat 0x47E 7) 7 = 7 then s.deny 0x0301
  else (s.mapCmd (fun m => { m with relights := m.relights ++ [leAt b 0 1] })).reply 1 []

/-- CHALLENGE (R198, R199): a free nonce. -/
def State.opChallenge (s : State) (r : Req) : Ans :=
  let nonce := (List.range 16).map (Config.freeByte s.free)
  let last := s.tick + s.pf 0x0406 0 20
  ⟨0, nonce ++ le 8 Config.serial.toNat ++ le 4 last, none,
    s.drawn.updPort r.port (fun p => { p with nonce := some (nonce, s.tick + 1, last) })⟩

/-- SET_TIME (R506, R538). -/
def State.opSetTime (s : State) (r : Req) : Ans :=
  let t := leAt (bodyOf r) 0 4
  let s1 := s.setTime t
  (match s1.instances.filter s1.ownsInst with
    | n :: _ => s1.ledgSync n 4 (le 4 t)
    | [] => s1).reply 0 []

/-- SHARD_PAIR (R478, R489, R491, R538). -/
def State.opShardPair (s : State) (r : Req) : Ans :=
  let b := bodyOf r
  let n := leAt b 0 1
  let k := leAt b 1 1
  let hs := (List.range k).map (fun j => (leAt b (4 + 2 * j) 1, leAt b (5 + 2 * j) 1))
  let bad (h : Nat × Nat) : Bool := 3 < h.1 || 63 < h.2 || !(s.view (wKey h.1 h.2)).here || wKey h.1 h.2 == s.instW n
  if 8 ≤ n ∨ 16 < k ∨ leAt b 2 2 ≠ 0 ∨ s.instOn n = false ∨ hs.any bad = true ∨ hs.eraseDups.length ≠ hs.length then
    s.deny 0x0103
  else if s.ownsInst n = false then s.deny 0x0302
  else
    (((s.updInst n (fun i => { i with bind := { i.bind with holders := hs }, snapNext := true })).setPf (instStat n) 16 5 k).bindSync
      n).reply 0 []

/-- LEDGER_READ (R479). -/
def execLedgerRead (r : Req) (s : State) : Host.Outcome State Fault Refusal := done (s.runRow 0x40 r State.opLedgerRead)
/-- TURF_READ (R488). -/
def execTurfRead (r : Req) (s : State) : Host.Outcome State Fault Refusal := done (s.runRow 0x41 r State.opTurfRead)
/-- TURF_ACK (R485). -/
def execTurfAck (r : Req) (s : State) : Host.Outcome State Fault Refusal := done (s.runRow 0x42 r State.opTurfAck)
/-- LEDGER_PROVISION (R504, R505). -/
def execLedgerProvision (r : Req) (s : State) : Host.Outcome State Fault Refusal :=
  done (s.runRow 0x43 r State.opLedgerProvision)
/-- RELIGHT (R507 to R509). -/
def execRelight (r : Req) (s : State) : Host.Outcome State Fault Refusal := done (s.runRow 0x44 r State.opRelight)
/-- CHALLENGE (R198, R199). -/
def execChallenge (r : Req) (s : State) : Host.Outcome State Fault Refusal := done (s.runRow 0x45 r State.opChallenge)
/-- SET_TIME (R506). -/
def execSetTime (r : Req) (s : State) : Host.Outcome State Fault Refusal := done (s.runRow 0x46 r State.opSetTime)
/-- SHARD_PAIR (R489). -/
def execShardPair (r : Req) (s : State) : Host.Outcome State Fault Refusal := done (s.runRow 0x47 r State.opShardPair)

end Sys2Proof.Machine
end

