-- ==== Sys2Proof/Machine/ReqOutputs.lean ====
section
/-! DEFINITION. Requests on outputs, measurement and capture (R176, R223, R239, R328, R376, R377, R389, R419 to R454, R531,
R548 to R550, R598, R626, R643, R674, R687). -/

namespace Sys2Proof.Machine

/-- OUT_SET (R223, R531, R548, R674). -/
def State.opOutSet (s : State) (r : Req) : Ans :=
  let h := s.slot (s.slotOf r)
  let v := leAt r.payload 0 4
  if h.writer = false then s.deny 0x0205
  else if h.cls = 1 then
    if 1 < v then s.deny 0x0103 else s.lodged 1 h.res r h.excl 0 v 0 0
  else if stnFits (resItem h.res) v = false then s.deny 0x0103
  else if s.owns (resW h.res) = false then s.deny 0x0302
  else s.lodged 0x0B (4 * resW h.res + resItem h.res) r h.excl v 0 0 0

/-- OUT_PWM (R223, R239, R550, R581). -/
def State.opOutPwm (s : State) (r : Req) : Ans :=
  let h := s.slot (s.slotOf r)
  let phase := leAt r.payload 2 2
  if h.writer = false then s.deny 0x0205
  else if s.hsBound h.res = false ∨ s.isCon h.res = true ∨ 4095 < phase then s.deny 0x0103
  else s.lodged 1 h.res r h.excl 1 (leAt r.payload 0 2) phase 0

/-- VALVE_FIRE (R223, R592, R598, R842). DESIGN CHOICE, for every output request: on a reader handle NOT_WRITER answers before the
ranges and reserved bytes are judged, since R842 gives no order within check 11. -/
def State.opValveFire (s : State) (r : Req) : Ans :=
  let h := s.slot (s.slotOf r)
  let ahead := leAt r.payload 0 2
  let us := leAt r.payload 2 2
  let p := leAt r.payload 4 1
  if h.writer = false then s.deny 0x0205
  else if 1023 < ahead ∨ s.tUs ≤ us ∨ (7 < p ∧ p ≠ 255) ∨ leAt r.payload 5 3 ≠ 0 then s.deny 0x0103
  else s.lodged 3 h.res r h.excl p ((s.tick + 1 + ahead) * s.tUs + us) (leAt r.payload 8 4) 0

/-- LED_SET (R223, R613). -/
def State.opLedSet (s : State) (r : Req) : Ans :=
  let h := s.slot (s.slotOf r)
  if h.writer = false then s.deny 0x0205
  else s.lodged 4 h.res r h.excl (leAt r.payload 0 2) (leAt r.payload 2 2) 0 0

/-- HB_MOVE (R223, R626). -/
def State.opHbMove (s : State) (r : Req) : Ans :=
  let h := s.slot (s.slotOf r)
  let dir := leAt r.payload 0 1
  let mode := leAt r.payload 1 1
  let v := leAt r.payload 4 4
  if h.writer = false then s.deny 0x0205
  else if leAt r.payload 2 2 ≠ 0 ∨ (dir = 0 ∧ mode ≠ 0) ∨ (mode = 1 ∧ (v < 50 ∨ 500 < v)) ∨
      (mode = 2 ∧ (v < 1 ∨ 65535 < v)) ∨ 2 < dir ∨ 2 < mode then s.deny 0x0103
  else s.lodged 5 h.res r h.excl dir mode v (if mode = 0 then 0 else 1)

/-- MOTOR_START (R223, R643). -/
def State.opMotorStart (s : State) (r : Req) : Ans :=
  let h := s.slot (s.slotOf r)
  let t := ofTwos 32 (leAt r.payload 0 4)
  let ramp := leAt r.payload 4 4
  if h.writer = false then s.deny 0x0205
  else if t = 0 ∨ s.pf (motCfg h.res) 0 16 < t.natAbs ∨ ramp < 1 ∨ 100000 < ramp then s.deny 0x0103
  else if s.motState h.res = 7 then s.deny 0x0301
  else s.lodged 6 h.res r h.excl 0 (leAt r.payload 0 4) ramp 1

/-- MOTOR_STOP (R223, R649). -/
def State.opMotorStop (s : State) (r : Req) : Ans :=
  let h := s.slot (s.slotOf r)
  let mode := leAt r.payload 0 1
  if h.writer = false then s.deny 0x0205
  else if 2 < mode ∨ leAt r.payload 1 3 ≠ 0 then s.deny 0x0103
  else s.lodged 6 h.res r h.excl 1 mode 0 0

/-- The result of a worker for a tick, on time or LATE, with the LATE flag that the manager gives it (R325, R328). -/
def State.heldResult (s : State) (w k : Nat) : Option (ResultRec × Bool) :=
  if (s.view w).here then (s.view w).res.find? (fun e => e.1.tick % 2 ^ 32 == k) else none

/-- The record of a worker as the host gets it (R360, R374, R375): a lost worker's cells are INVALID at their last values, and
those of a worker that no record came from INVALID at 0. TSTAT has no code for INVALID and stays as it came. -/
def State.cellShown (s : State) (w : Nat) (r : Option CellRec) : CellRec :=
  let n := s.cellCount w
  let bad : List Nat := (List.range 24).map (fun k => if k < n then 4 else 6)
  let b (k : Nat) : Nat := (Config.freeByte s.free k).toNat
  match r with
  | some c => if (s.view w).lost then { c with cstat := bad } else c
  | none => { cells := List.replicate 24 0, stack := b 0 + 256 * b 1, temps := (List.range 8).map (fun k => (b (2 + k) : Int)),
              cstat := bad, tstat := (List.range 8).map (fun k => b (10 + k) % 4), bal := b 18, wflags := b 19 % 16 }

/-- A held measurement record as the host gets it (R360). -/
def State.measShown (s : State) (w : Nat) (m : Meas) : Meas :=
  match m with
  | .cell c => .cell (s.cellShown w (some c))
  | .meter _ => m

/-- SWEEP_READ (R174, R328, R376). DESIGN CHOICE: the latest complete tick that tick 0 asks for is the executing one, whose Gather has
closed, whether every worker's record has come or not (log 184). -/
def State.opSweepRead (s : State) (r : Req) : Ans :=
  let ring := leAt r.payload 0 1
  let first := leAt r.payload 1 1
  let t := leAt r.payload 4 4
  if 3 < ring ∨ first < 1 ∨ 63 < first ∨ leAt r.payload 2 2 ≠ 0 then s.deny 0x0103
  else
    let k := if t = 0 then s.tick32 else t
    let held := (List.range 64).filter (fun a => 1 ≤ a && (s.heldResult (wKey ring a) k).isSome)
    let l := held.filter (fun a => first ≤ a)
    let next := nth 0 l 44
    let row (a : Nat) : List Byte := match s.heldResult (wKey ring a) k with
      | some e => le 1 a ++ le 1 (setFld e.1.flags 1 1 (b2n (e.2 || bit e.1.flags 1))) ++
          le 1 (b2n (s.view (wKey ring a)).meter) ++ zeros 1 ++
          measBytes (s.measShown (wKey ring a) e.1.meas)
      | none => []
    s.reply 0 (le 8 (maskOf held) ++ le 4 k ++ le 1 next ++ zeros 3 ++ (l.take 44).flatMap row)

/-- Whether every cell to COUNT and every enabled temperature of a record has good validity (R374, R377). -/
def State.cellsGood (s : State) (w : Nat) (c : CellRec) : Bool :=
  (List.range (s.wkParam w 0x08 % 32)).all (fun k => nth 6 c.cstat k ≤ 1) &&
    (bitsOf (s.wkParam w 0x0D) 8).all (fun k => nth 3 c.tstat k == 0)

/-- CELL_READ (R360, R377): the latest record of the worker. DESIGN CHOICE: with none held the tick is that of the reply, and what
the cell statuses do not cover is free. -/
def State.opCellRead (s : State) (r : Req) : Ans :=
  let w := resW (s.slot (s.slotOf r)).res
  let last := (s.view w).res.head?.map (·.1)
  let c := s.cellShown w (last.bind (fun b => match b.meas with
    | .cell c => some c
    | .meter _ => none))
  let good := s.cellsGood w c && !(s.view w).lost && last.isSome
  ⟨if good then 0 else 0x0501, le 6 ((last.map (·.tick)).getD s.tick) ++ zeros 2 ++ cellBytes c, none, s.drawn⟩

/-- BALANCE (R223, R389, R531). -/
def State.opBalance (s : State) (r : Req) : Ans :=
  let h := s.slot (s.slotOf r)
  let w := resW h.res
  let mask := leAt r.payload 0 4
  if h.writer = false then s.deny 0x0205
  else if 2 ^ (s.wkParam w 0x08 % 32) ≤ mask ∨ s.wkParam w 0x0E % 32 < popcount mask 24 then s.deny 0x0103
  else if s.owns w = false then s.deny 0x0302
  else if (s.view w).lost = true then s.deny 0x0500
  else (s.toWorkers w [(0x10, mask), (0x11, leAt r.payload 4 4)]).reply 0 []

/-- Whether a worker's flare is armed, or still holds a capture that has not been read (R248). -/
def State.flrBusy (s : State) (w : Nat) : Bool :=
  match s.flrOf w with
  | some e => e.2.st == 1 || e.2.st == 2 || (e.2.st == 3 && !e.2.read)
  | none => false

/-- IMP_START (R248, R251, R422, R531). -/
def State.opImpStart (s : State) (r : Req) : Ans :=
  let i := s.slotOf r
  let h := s.slot i
  let w := resW h.res
  if s.owns w = false then s.deny 0x0302
  else if (s.view w).lost = true then s.deny 0x0500
  else if bit (leAt h.cdata 1 1) 0 = true ∧ s.flrBusy w = true then (s.conflict 0x0206).deny 0x0206
  else (s.impBegin i).reply 1 []

/-- Whether a flare trigger's fields are in range (R438, R842). -/
def State.trigFits (s : State) (d : List Byte) : Bool :=
  let src := leAt d 0 1
  let item := leAt d 1 1
  leAt d 3 1 == 0 && leAt d 6 2 == 0 && leAt d 14 2 == 0 && src ≤ 7 && leAt d 2 1 ≤ 15 &&
    (match src with
      | 2 => item < 64
      | 4 => item ≤ 24 || item == 255
      | 5 => item ≤ 24 || item == 255
      | 6 => item ≤ 24 || item == 255
      | 7 => s.tick < leAt d 8 6
      | _ => true)

/-- FLARE_ARM (R247, R438, R453, R531). -/
def State.opFlareArm (s : State) (r : Req) : Ans :=
  let i := s.slotOf r
  let w := resW (s.slot i).res
  if s.trigFits r.payload = false then s.deny 0x0103
  else if s.owns w = false then s.deny 0x0302
  else if (s.view w).lost = true then s.deny 0x0500
  else if s.flue.flares.any (fun e => e.2.w == w && e.2.st == 2) then s.deny 0x0204
  else (s.flrArm i r.payload).reply 0 []

/-- FLARE_READ (R436, R444, R446): a READ of the worker's record in this Apply, whose samples the reply awaits. -/
def State.opFlareRead (s : State) (r : Req) : Ans :=
  let w := resW (s.slot (s.slotOf r)).res
  let first := leAt r.payload 0 4
  if (s.view w).lost = true then s.deny 0x0500
  else if 20480 ≤ first then s.deny 0x0103
  else
    let k := s.cmd.lodge
    let s1 := (s.mapCmd (fun m => { m with lodge := k + 1 })).mapFlue (fun f => { f with
      reads := f.reads ++ [{ port := r.port, lodge := k, w := w, rseq := 256, first := first, kind := 0, flags := 0, tick := 0,
                             offset := 0, rows := [] }]
      apply := f.apply ++ [(w, 19 * 65536 + first, first)] })
    ⟨0, [], some ⟨0, 0, k, 0⟩, s1⟩

/-- STATION_READ (R687): the value, and how far it holds. -/
def State.opStationRead (s : State) (r : Req) : Ans :=
  let h := s.slot (s.slotOf r)
  let w := resW h.res
  let item := resItem h.res
  let val (b : StnRec) : List Byte := if item < 2 then le 4 (b2n (bit b.di item)) else sle 4 (nth 0 b.temps (item - 2))
  let good (b : StnRec) : Bool := item < 2 || nth 3 b.tstat (item - 2) == 0
  if (s.view w).stn = false then s.reply 0x0500 (zeros 4)
  else match s.nowRec w with
    | some b => s.reply (if good b.stn then 0 else 0x0501) (val b.stn)
    | none => s.reply 0x0501 (match (s.view w).res with
      | e :: _ => val e.1.stn
      | [] => zeros 4)

/-- OUT_SET (R548). -/
def execOutSet (r : Req) (s : State) : Host.Outcome State Fault Refusal := done (s.runRow 0x20 r State.opOutSet)
/-- OUT_PWM (R549, R550). -/
def execOutPwm (r : Req) (s : State) : Host.Outcome State Fault Refusal := done (s.runRow 0x21 r State.opOutPwm)
/-- VALVE_FIRE (R598). -/
def execValveFire (r : Req) (s : State) : Host.Outcome State Fault Refusal := done (s.runRow 0x22 r State.opValveFire)
/-- LED_SET (R613). -/
def execLedSet (r : Req) (s : State) : Host.Outcome State Fault Refusal := done (s.runRow 0x23 r State.opLedSet)
/-- HB_MOVE (R626). -/
def execHbMove (r : Req) (s : State) : Host.Outcome State Fault Refusal := done (s.runRow 0x24 r State.opHbMove)
/-- MOTOR_START (R643). -/
def execMotorStart (r : Req) (s : State) : Host.Outcome State Fault Refusal := done (s.runRow 0x25 r State.opMotorStart)
/-- MOTOR_STOP (R649). -/
def execMotorStop (r : Req) (s : State) : Host.Outcome State Fault Refusal := done (s.runRow 0x26 r State.opMotorStop)
/-- SWEEP_READ (R328, R376). -/
def execSweepRead (r : Req) (s : State) : Host.Outcome State Fault Refusal := done (s.runRow 0x30 r State.opSweepRead)
/-- CELL_READ (R377). -/
def execCellRead (r : Req) (s : State) : Host.Outcome State Fault Refusal := done (s.runRow 0x31 r State.opCellRead)
/-- BALANCE (R389). -/
def execBalance (r : Req) (s : State) : Host.Outcome State Fault Refusal := done (s.runRow 0x32 r State.opBalance)
/-- IMP_START (R248, R422). -/
def execImpStart (r : Req) (s : State) : Host.Outcome State Fault Refusal := done (s.runRow 0x33 r State.opImpStart)
/-- FLARE_ARM (R247, R438). -/
def execFlareArm (r : Req) (s : State) : Host.Outcome State Fault Refusal := done (s.runRow 0x34 r State.opFlareArm)
/-- FLARE_READ (R444, R446). -/
def execFlareRead (r : Req) (s : State) : Host.Outcome State Fault Refusal := done (s.runRow 0x35 r State.opFlareRead)
/-- STATION_READ (R687). -/
def execStationRead (r : Req) (s : State) : Host.Outcome State Fault Refusal := done (s.runRow 0x36 r State.opStationRead)

end Sys2Proof.Machine
end

