-- ==== Sys2Proof/Machine/ReqParams.lean ====
section
/-! DEFINITION. Requests on identity, parameters and handles (R176 to R178, R208 to R251, R780 to R790). -/

namespace Sys2Proof.Machine

/-- The row's status replies of NOP. -/
def State.opNop (s : State) (_r : Req) : Ans := s.reply 0 []

/-- IDENT. -/
def State.opIdent (s : State) (_r : Req) : Ans :=
  s.reply 0 (le 2 (s.pf 0x0100 0 16) ++ le 1 (s.pf 0x0100 16 4) ++ le 1 s.role ++ le 8 Config.serial.toNat ++
    le 4 Config.romVersion.toNat ++ le 4 (s.p 0x0108) ++ le 1 (popcount (fld s.nvm.fuseOr.toNat 0x47E 7) 7) ++
    le 1 (popcount s.ledgMap 8) ++ le 1 s.stateCode ++ zeros 9)

/-- STATUS. -/
def State.opStatus (s : State) (_r : Req) : Ans :=
  s.reply 0 (le 4 s.stateWord ++ le 8 s.evStat ++ le 4 (s.p 0x0105) ++ le 4 (s.p 0x0300) ++ le 4 (s.p 0x0203))

/-- A worker parameter request goes out in this tick's Apply, and its reply waits for the ACK (R789). -/
def State.workerAsk (s : State) (r : Req) (w index value : Nat) (read : Bool) : Ans :=
  let k := s.cmd.lodge
  let s1 := (s.mapCmd (fun m => { m with lodge := k + 1 })).updView w (fun v =>
    { v with waits := v.waits ++ [⟨r.port, r.seq, k, 256, read⟩] })
  ⟨0, [], some ⟨0, 0, k, 0⟩,
    s1.mapFlue (fun f => { f with apply := f.apply ++ [if read then (w, 17 * 65536 + index, index) else (w, 65536 + index,
        value)] })⟩

/-- The word an address reads as, a draw taken where it is free (PG.POS). -/
def State.opRead (s : State) (r : Req) (a : Nat) : Ans :=
  ⟨0, le 4 (s.readParam r.port a), none, if 0x2100 ≤ a ∧ a ≤ 0x211F then s.drawn else s⟩

/-- GET_PARAM (R780, R788, R789). -/
def State.opGetParam (s : State) (r : Req) : Ans :=
  let a := leAt r.payload 0 2
  if leAt r.payload 2 2 ≠ 0 then s.deny 0x0103
  else if r.handle = 0 then
    if (paramRow a).isNone then s.deny 0x0103 else s.opRead r a
  else
    let w := resW (s.slot (s.slotOf r)).res
    if (wkRow (s.view w).meter a).isNone then s.deny 0x0103 else s.workerAsk r w a 0 true

/-- Whether every field of a worker's parameter is read only (R11): the manager itself writes HOPDLY by R334, no command
does. -/
def State.wkLocked (s : State) (w a : Nat) : Bool :=
  match wkRow (s.view w).meter a with
  | some p => p.allRo
  | none => false

/-- Whether a write would change a field of a worker that only Kindling may write: METCFG takes values only from the image, for no
SET_PARAM executes in Kindling (R11, R783). -/
def State.wkBars (s : State) (w a v : Nat) : Bool :=
  match wkRow (s.view w).meter a with
  | some p => p.changes .rwk (s.wkParam w a) v
  | none => false

/-- SET_PARAM (R11, R223, R531, R783, R788, R789, R837). DESIGN CHOICE: on a reader handle NOT_WRITER answers before the reserved bytes are
judged, since R842 gives no order within check 11 (log 151). -/
def State.opSetParam (s : State) (r : Req) : Ans :=
  let a := leAt r.payload 0 2
  let v := leAt r.payload 4 4
  if r.handle = 0 then
    if leAt r.payload 2 2 ≠ 0 then s.deny 0x0103
    else
      let q := s.paramWrite (.host r.wdg) a v
      if q.1 = 0 then ⟨0, le 4 (q.2.readParam r.port a), none, q.2⟩ else q.2.deny q.1
  else
    let h := s.slot (s.slotOf r)
    let w := resW h.res
    if h.writer = false then s.deny 0x0205
    else if leAt r.payload 2 2 ≠ 0 ∨ (wkRow (s.view w).meter a).isNone = true then s.deny 0x0103
    else if s.wkLocked w a = true then s.deny 0x0301
    else if s.wkBars w a v = true then s.deny 0x0300
    else if s.owns w = false then s.deny 0x0302
    else s.workerAsk r w a v false

/-- The size of the user area (R178). -/
def userSize : Nat := 983040

/-- Whether a range of the user area is one that R178 admits. -/
def userFits (off n : Nat) : Bool := off % 8 == 0 && n % 8 == 0 && off + n ≤ userSize

/-- GET_BLOCK (R178, R781, R782). -/
def State.opGetBlock (s : State) (r : Req) : Ans :=
  if bit r.flags 2 then
    let off := leAt r.payload 0 4
    let n := leAt r.payload 4 2
    if n < 8 ∨ 4096 < n ∨ userFits off n = false then s.deny 0x0103
    else ⟨0, s.readMram (0x310000 + off) (Mem.bytes 0#8 s.nvm.user off n), none, s.drawn⟩
  else
    let a := leAt r.payload 0 2
    let n := leAt r.payload 2 2
    if n = 0 ∨ 1024 < n ∨ 0x10000 < a + n then s.deny 0x0103
    else
      let word (k : Nat) : Nat := if (paramRow (a + k)).isNone then 0 else s.readParam r.port (a + k)
      ⟨0, (List.range n).flatMap (fun k => le 4 (word k)), none, s.drawn⟩

/-- SET_BLOCK (R177, R178, R781, R842): all of its values, or none. -/
def State.opSetBlock (s : State) (r : Req) : Ans :=
  if bit r.flags 2 then
    let off := leAt r.payload 0 4
    let d := r.payload.drop 8
    if leAt r.payload 4 4 ≠ 0 ∨ userFits off d.length = false then s.deny 0x0103
    else ⟨0, le 2 0xFFFF, none, (s.mapNvm (fun v => { v with user := Mem.write 0#8 v.user off d })).mramFresh
      (0x310000 + off) d.length⟩
  else
    let a := leAt r.payload 0 2
    let n := leAt r.payload 2 2
    if n = 0 ∨ 1023 < n ∨ 0x10000 < a + n then s.deny 0x0103
    else
      let vals := (List.range n).map (fun k => leAt r.payload (4 + 4 * k) 4)
      let q := s.paramBlock (.host r.wdg) a 0 vals
      if q.1 = 0 then ⟨0, le 2 0xFFFF, none, q.2.2⟩
      else ⟨q.1, le 2 q.2.1, none, if q.2.2.pb 0x0703 21 then s.setPb 0x0703 21 true else s⟩

/-- OPEN (R216 to R251, R842). -/
def State.opOpen (s : State) (r : Req) : Ans :=
  if leAt r.payload 2 2 ≠ 0 then s.deny 0x0103
  else
    let q := s.openH r.port (leAt r.payload 0 1) (leAt r.payload 1 1) (leAt r.payload 4 4) (r.payload.drop 8)
    if q.1 = 0 then ⟨0, le 4 q.2.1, none, q.2.2⟩ else q.2.2.deny q.1

/-- CLOSE (R208, R215, R218, R224). -/
def State.opClose (s : State) (r : Req) : Ans := (s.closeHandle (s.slotOf r)).reply 0 []

/-- BIND (R237, R238). -/
def State.opBind (s : State) (r : Req) : Ans :=
  let i := s.slotOf r
  let gh := leAt r.payload 0 4
  let c := s.bindCheck i gh
  if c = 0 then (s.bindTo i gh).reply 0 [] else (s.conflict c).deny c

/-- QUERY_HANDLE. A binding by its OPEN period or by an economiser claim shows the generator alone. -/
def State.opQuery (s : State) (r : Req) : Ans :=
  let h := s.slot (s.slotOf r)
  let g := match h.pg with
    | some k => some k
    | none => if h.cls = 1 then (s.hs h.res).econPg else none
  s.reply 0 (le 1 h.cls ++ le 1 (b2n h.writer) ++ le 1 h.opener ++ zeros 1 ++ le 4 h.res ++ le 4 h.bindH ++
    le 1 (match g with | some k => k + 128 | none => 0) ++ zeros 3)

/-- NOP (R176). -/
def execNop (r : Req) (s : State) : Host.Outcome State Fault Refusal := done (s.runRow 0x00 r State.opNop)
/-- IDENT (R176). -/
def execIdent (r : Req) (s : State) : Host.Outcome State Fault Refusal := done (s.runRow 0x01 r State.opIdent)
/-- STATUS (R176). -/
def execStatus (r : Req) (s : State) : Host.Outcome State Fault Refusal := done (s.runRow 0x02 r State.opStatus)
/-- GET_PARAM (R780). -/
def execGetParam (r : Req) (s : State) : Host.Outcome State Fault Refusal := done (s.runRow 0x03 r State.opGetParam)
/-- SET_PARAM (R783). -/
def execSetParam (r : Req) (s : State) : Host.Outcome State Fault Refusal := done (s.runRow 0x04 r State.opSetParam)
/-- GET_PARAM on a WORKER handle (R788, R789). -/
def execWorkerGetParam (r : Req) (s : State) : Host.Outcome State Fault Refusal :=
  done (if r.handle = 0 then s else s.runRow 0x03 r State.opGetParam)
/-- SET_PARAM on a WORKER handle (R788, R789). -/
def execWorkerSetParam (r : Req) (s : State) : Host.Outcome State Fault Refusal :=
  done (if r.handle = 0 then s else s.runRow 0x04 r State.opSetParam)
/-- GET_BLOCK (R781, R782). -/
def execGetBlock (r : Req) (s : State) : Host.Outcome State Fault Refusal := done (s.runRow 0x05 r State.opGetBlock)
/-- SET_BLOCK (R177, R178). -/
def execSetBlock (r : Req) (s : State) : Host.Outcome State Fault Refusal := done (s.runRow 0x06 r State.opSetBlock)

/-- A SET_PARAM that names one of the addresses; another is none of the row's. -/
def State.setRow (s : State) (r : Req) (at' : Nat → Bool) : State :=
  if r.handle = 0 ∧ at' (leAt r.payload 0 2) = true then s.runRow 0x04 r State.opSetParam else s

/-- SET_PARAM of WDG.PERIOD (R296, R297). -/
def execWdgPeriodWrite (r : Req) (s : State) : Host.Outcome State Fault Refusal :=
  done (s.setRow r (fun a => a == 0x0702))
/-- SET_PARAM of EVT.STAT (R258, R259). -/
def execEvtStatClear (r : Req) (s : State) : Host.Outcome State Fault Refusal :=
  done (s.setRow r (fun a => a == 0x0600 || a == 0x0601))
/-- SET_PARAM of HS.STAT (R569). -/
def execHsLatchClear (r : Req) (s : State) : Host.Outcome State Fault Refusal :=
  done (s.setRow r (fun a => 0x2000 ≤ a && a < 0x20F0 && a % 6 == 4))
/-- SET_PARAM of HB.POS (R636). -/
def execHbPosWrite (r : Req) (s : State) : Host.Outcome State Fault Refusal :=
  done (s.setRow r (fun a => 0x2400 ≤ a && a < 0x2440 && a % 8 == 7))
/-- SET_PARAM of NET.CANCFG with AUTOREC (R696). -/
def execCanAutorecWrite (r : Req) (s : State) : Host.Outcome State Fault Refusal :=
  done (s.setRow r (fun a => 0x3010 ≤ a && a < 0x3018 && a % 2 == 0))
/-- SET_PARAM of PART.CTRL with RESET_PARTNER (R519). -/
def execPartResetPartner (r : Req) (s : State) : Host.Outcome State Fault Refusal :=
  done (if bit (leAt r.payload 4 4) 0 then s.setRow r (fun a => a == 0x1907) else s)
/-- SET_PARAM of PART.CTRL with RESYNC (R519, R541). -/
def execPartResync (r : Req) (s : State) : Host.Outcome State Fault Refusal :=
  done (if bit (leAt r.payload 4 4) 1 then s.setRow r (fun a => a == 0x1907) else s)
/-- OPEN (R216 to R251). -/
def execOpenHandle (r : Req) (s : State) : Host.Outcome State Fault Refusal := done (s.runRow 0x10 r State.opOpen)
/-- CLOSE (R208, R218, R224). -/
def execCloseHandle (r : Req) (s : State) : Host.Outcome State Fault Refusal := done (s.runRow 0x11 r State.opClose)
/-- BIND (R237). -/
def execBind (r : Req) (s : State) : Host.Outcome State Fault Refusal := done (s.runRow 0x12 r State.opBind)
/-- QUERY_HANDLE (R176). -/
def execQueryHandle (r : Req) (s : State) : Host.Outcome State Fault Refusal := done (s.runRow 0x13 r State.opQuery)

end Sys2Proof.Machine
end

