-- ==== Sys2Proof/Machine/Queue.lean ====
section
/-! DEFINITION. The waiting requests: which executor an opcode has, the order of execution in Compute, and signature
verification (R56, R167, R168, R176, R202, R209). -/

namespace Sys2Proof.Machine

/-- The executor of an opcode. One that no table lists fails check 5 before its executor is reached. -/
def opExec (op : Nat) : State → Req → Ans :=
  match op with
  | 0x01 => State.opIdent
  | 0x02 => State.opStatus
  | 0x03 => State.opGetParam
  | 0x04 => State.opSetParam
  | 0x05 => State.opGetBlock
  | 0x06 => State.opSetBlock
  | 0x10 => State.opOpen
  | 0x11 => State.opClose
  | 0x12 => State.opBind
  | 0x13 => State.opQuery
  | 0x20 => State.opOutSet
  | 0x21 => State.opOutPwm
  | 0x22 => State.opValveFire
  | 0x23 => State.opLedSet
  | 0x24 => State.opHbMove
  | 0x25 => State.opMotorStart
  | 0x26 => State.opMotorStop
  | 0x30 => State.opSweepRead
  | 0x31 => State.opCellRead
  | 0x32 => State.opBalance
  | 0x33 => State.opImpStart
  | 0x34 => State.opFlareArm
  | 0x35 => State.opFlareRead
  | 0x36 => State.opStationRead
  | 0x40 => State.opLedgerRead
  | 0x41 => State.opTurfRead
  | 0x42 => State.opTurfAck
  | 0x43 => State.opLedgerProvision
  | 0x44 => State.opRelight
  | 0x45 => State.opChallenge
  | 0x46 => State.opSetTime
  | 0x47 => State.opShardPair
  | 0x50 => State.opEventRead
  | 0x51 => State.opEventSubscribe
  | 0x52 => State.opEventClear
  | 0x60 => State.opStokerLoad
  | 0x61 => State.opStokerRun
  | 0x62 => State.opStokerHalt
  | 0x63 => State.opStokerState
  | 0x64 => State.opStokerStep
  | 0x70 => State.opWdgAnswer
  | 0x71 => State.opWdgQuestion
  | 0x78 => State.opSleepRequest
  | 0x79 => State.opWakeReason
  | 0x7C => State.opConfigWrite
  | 0x7D => State.opClearDouse
  | 0x7E => State.opDouse
  | 0x7F => State.opReset
  | _ => State.opNop

/-- The requests that a tick's beginning makes due (R167, R168, R202): those carried over go first, and a request waits
behind an earlier one of its port whose signature is being verified. -/
def dueAll (held : List Nat) : List QItem → List QItem
  | [] => []
  | q :: r =>
    if q.verif = 1 ∨ held.contains q.req.port = true then q :: dueAll (q.req.port :: held) r
    else { q with due := true } :: dueAll held r

/-- The queue at a tick's beginning. -/
def State.queueDue (s : State) : State :=
  s.mapCmd (fun m => { m with queue := m.queue.filter (·.due) ++ dueAll [] (m.queue.filter (fun q => !q.due)) })

/-- Up to `n` due requests execute (R168, R846). -/
def State.runDue (s : State) : Nat → State
  | 0 => s
  | n + 1 =>
    match s.cmd.queue.find? (·.due) with
    | none => s
    | some q =>
      let s1 := s.mapCmd (fun m => { m with queue := dropFirst (·.due) m.queue })
      (((s1.runReq q.op q.req (opExec q.op)).wdgJudged q).settle).runDue n

/-- The first waiting request of a port whose signature is being verified has it verified. -/
def verifyFirst (port : Nat) : List QItem → List QItem
  | [] => []
  | q :: r => if q.req.port = port ∧ q.verif = 1 then { q with verif := 2 } :: r else q :: verifyFirst port r

/-- SIGNATURE_VERIFIED (R202). -/
def execSignatureVerified (port : Nat) (s : State) : Host.Outcome State Fault Refusal :=
  done (s.mapCmd (fun m => { m with queue := verifyFirst port m.queue }))

end Sys2Proof.Machine
end

