-- ==== Sys2Proof/Machine/Boot.lean ====
section
/-! DEFINITION. Release from Kindling, sleep entry and the MRAM scrubber (R18, R66, R68, R105 to R107, R151 to R153, R220,
R240, R299, R454, R473, R551, R621, R657, R689, R690, R738 to R740, R777). -/

namespace Sys2Proof.Machine

/-- A new release's handles (R219, R220). The word of HDL.EPOCH is MRAM word 0x80000 here, a number past the map of R17,
which gives it no place. -/
def State.handlesOpen (s : State) : State :=
  let e := if s.nvm.bad.contains 0x80000 then 0 else s.nvm.epoch
  (s.mapHdl (fun h => { h with base := e, slots := [], leaving := [], acts := [], subs := [], reqs := [] })).mapNvm
    (fun v => { v with epoch := (e + 1) % 1024, bad := v.bad.filter (· != 0x80000) })

/-- A load switch takes its initial state, unbound (R551). -/
def State.hsInit (s : State) (n : Nat) : State :=
  let s1 := ((s.setPf (hsPwmStat n) 16 6 0).setPf (hsPwm n) 0 28 0).setPf (hsPwmSh n) 0 28 0
  (s1.updHs n (fun c => { c with
    cmdOn := s.pb (hsCfg n) 16, movePg := none, follow := none, unfollow := false, econPg := none, rise := 0, ago := 0, carry := 0
    shPrev := none })).hsDrive n

/-- The economisers' claims, in order from HS00 (R233, R240). -/
def State.econClaims (s : State) : State :=
  s.each s.contactors (fun t n =>
    let ns := t.p (0x2701 + 4 * n)
    match t.pgFor ns with
    | some g => (t.pgClaim g ns).updHs n (fun c => { c with econPg := some g })
    | none => t)

/-- Every output at its initial state (R106, R551, R621, R657). -/
def State.outputsInit (s : State) : State :=
  let s1 := s.each (List.range 40) (fun t n => t.hsInit n)
  let s2 := s1.each (List.range 32) (fun t n => t.ledApply ⟨4, n, 8, 0, false, t.pf (0x2301 + 4 * n) 16 16, 0, 0, 0⟩)
  let s3 := (s2.each (List.range 8) (fun t b => t.hbAbort b)).each (List.range 4) (fun t m => t.motCoast m)
  s3.econClaims

/-- The programs that an image loaded on the cold path carries go to the store (R738). -/
def State.storePrograms (s : State) : State :=
  match s.sys.warm, s.sys.image with
  | false, some im => s.each im.programs (fun t e =>
      let t1 := t.mapNvm (fun v => { v with
        imem := e.2.1.foldl (fun m x => Tbl.put 0#32 m (8192 * e.1 + x.1) x.2) v.imem
        dmem := e.2.2.foldl (fun m x => Tbl.put 0#36 m (4096 * e.1 + x.1) x.2) v.dmem
        stored := insNat e.1 v.stored })
      let t2 := t1.each e.2.1 (fun u x => u.mramFresh (0x2D0000 + 0x10000 * e.1 + 4 * x.1) 4)
      t2.each e.2.2 (fun u x => u.mramFresh (0x2D8000 + 0x10000 * e.1 + 8 * x.1) 8))
  | _, _ => s

/-- The part of a store that belongs to core `c` of stride `n`. -/
def storePart {α : Type} (t : Tbl α) (c n : Nat) : Tbl α :=
  (t.filter (fun e => n * c ≤ e.1 && e.1 < n * (c + 1))).map (fun e => (e.1 - n * c, e.2))

/-- A core is loaded from its store (R739, R777): EMPTY where the store has never been loaded or holds an uncorrectable
word, RUNNING with its start flag, else HALTED. -/
def State.coreLoad (s : State) (c : Nat) : State :=
  let bad := s.badIn (0x2D0000 + 0x10000 * c) 0x10000
  let ok := s.nvm.stored.contains c && !bad
  let s1 := if s.nvm.stored.contains c && bad then s.raise 61 [] else s
  let k : Core := { Core.d with
    imem := if ok then storePart s.nvm.imem c 8192 else []
    dmem := if ok then storePart s.nvm.dmem c 4096 else []
    pc := if ok then s.pf (stkCfg c) 0 13 else 0 }
  (s1.updCore c (fun _ => k)).setPf (stkStat c) 0 3 (if !ok then 0 else if s.pb (stkCfg c) 13 then 2 else 1)

/-- A transition to Lit measures the 32.768 kHz oscillator against the crystal and trims it (R34). What it measures is free. -/
def State.oscTrimmed (s : State) : State :=
  (s.mapIsland (fun i => { i with oscTrim := some (Config.freeNat s.free) })).drawn

/-- The reference of the SerDes PLL at release (R28, R29, R37). DESIGN CHOICE: SYS.CLKCFG.REF_OK reads 1 from the release on
under SERDES_REF 1, and EXT_REF_LOCK_TIMEOUT takes it back (R35), since no command reports the lock itself. -/
def State.serdesRef (s : State) : State :=
  (s.setPb 0x0102 1 (s.pb 0x0102 0)).mapSys (fun y => { y with serdes := if s.pb 0x0102 0 then 2 else 1 })

/-- Entry to Lit, or to Doused where a douse is pending or was carried over Banked (R34, R42, R66, R68, R106, R107). -/
def State.release (s : State) : State :=
  let doused := s.sys.dousePend || (s.sys.warm && s.nvm.bankedDoused)
  let s0 := if doused then s else s.oscTrimmed
  let s1 := (s0.mapSys (fun y => { y with
    phase := .lit, lastWarm := y.warm, dousePend := false, releaseDue := false, tph := 0 })).mapNvm
      (fun v => { v with bankedDoused := false })
  let s2 := s1.handlesOpen.outputsInit.netRelease.wdgRelease
  let s3 := s2.each (List.range 4) (fun t r => t.setPb (ringStat r) 22 false)
  let s4 := s3.serdesRef.mapFlue (fun f => { f with softOver := [], softIn := [] })
  let s5 := (s4.mapNet (fun n => { n with litUs := none })).sendTimes.spansOpen.storePrograms
  let s6 := s5.each (List.range 4) (fun t c => t.coreLoad c)
  if doused then s6.enterDoused else s6

/-- Whether the conditions of R105 hold, save the reconstruction that the command brings. -/
def State.mayRelease (s : State) : Bool :=
  s.sys.phase == .kindling && s.sys.image.isSome && !s.pb 0x0106 0 && !s.pb 0x0106 1 && s.sys.enumDone && s.sys.pll &&
    !s.sys.releaseDue && s.sys.sleeping == 0

/-- Every instance has been reconstructed (R105). -/
def State.reconReady (s : State) : Bool := s.instances.all (fun n => s.instState n != 1)

/-- The commanded station values at release: WRK.STNSAFE as it was read back, else as the worker is taken to hold it
(R689). -/
def State.stnRelease (s : State) (safe : List WkStored) : State :=
  s.each s.workers (fun t w =>
    let v := match safe.find? (fun x => wKey x.ring x.addr == w && x.index == 0x49) with
      | some x => x.value
      | none => t.stnSafe w
    t.updView w (fun e => { e with cmd := v, heldVal := v, stn := false }))

/-- RELEASE_TO_LIT (R66, R105 to R107, R495): the instances are reconstructed from what was read back, and the manager
enters Lit or Doused as the next tick begins. A shadow copy has ended by then (table "Start-up budget"). -/
def execReleaseToLit (recon : List ReconIn) (safe : List WkStored) (s : State) : Host.Outcome State Fault Refusal :=
  done (if s.mayRelease then
    let s1 := s.each s.instances (fun t n => t.reconstruct (match recon.find? (fun x => x.inst == n) with
      | some x => x
      | none => t.reconGather n))
    ((s1.stnRelease safe).copyEnd).mapSys (fun y => { y with releaseDue := true })
  else s)

/-- A SYNC from one end of a ring (R44, R318, R322, R356). -/
def State.syncOut (s : State) (r dir : Nat) (prim bank : Bool) (first last : Nat) : State :=
  s.sendRing (wKey r 0) dir 1 (le 6 s.tick ++ le 1 s.periodCode ++
    le 1 (b2n prim + 2 * b2n bank + 4 * b2n (s.pb (ringStat r) 22)) ++ le 1 first ++ le 1 last ++ zeros 6)

/-- The SYNC of a tick leaves the ring ends that this manager has (R44, R318, R356). Manager B that is the tick source
without a partner on the ring sends a primary one (table of twin failures). -/
def State.sendSyncs (s : State) (bank : Bool) : State :=
  s.each ((List.range 4).filter s.ringUsed) (fun t r =>
    let st := t.p (ringStat r)
    let t1 := if s.role = 2 then t else t.syncOut r 0 true bank 1 (if bit st 6 then fld st 8 6 else 63)
    if s.role = 1 then t1
    else if bit st 6 then t1.syncOut r 1 true bank (fld st 14 6) 63
    else t1.syncOut r 1 (s.role == 2 && s.pb 0x0203 0 && !s.pb 0x1905 1) bank 1 63)

/-- Sleep entry's Apply: the last refresh carries every station output off, and a snapshot goes to every holder (R491,
R690). -/
def State.sleepApply (s : State) : State :=
  let s1 := s.each s.workers (fun t w => t.updView w (fun v => { v with cmd := 0 }))
  let s2 := s1.each (s1.instances.filter (fun n => s1.instState n == 2)) (fun t n => t.updInst n (fun i => { i with snapNow := true }))
  s2.mapSys (fun y => { y with sleeping := 2 })

/-- What a sleep entry that began after 0.70 T still sends before the set instant of its tick (R152). -/
def State.sleepSend (s : State) : State := s.sleepApply.stnRefresh.sendSnaps.applySend

/-- Sleep entry's set instant: every output goes off and the cores halt (R152, R454, R636, R703, R708). -/
def State.sleepSet (s : State) : State :=
  let s1 := s.each (List.range 40) (fun t n => (t.updHs n (fun c => { c with unfollow := true })).hsOff n)
  let s2 := (s1.each (List.range 24) (fun t c => t.vlvDrop c t.setNow)).each (List.range 32)
    (fun t n => t.ledApply ⟨4, n, 8, 0, false, 0, 0, 0, 0⟩)
  let s3 := (s2.each (List.range 8) (fun t b => t.hbAbort b)).each (List.range 4) (fun t m => t.motCoast m)
  let s4 := s3.each (List.range 4) (fun t c =>
    let t1 := t.updCore c (fun k => { k with startDue := false, runDue := false, slice := false })
    if 2 ≤ t.stkState c then t1.setPf (stkStat c) 0 3 1 else t1)
  (s4.netSleep.captureSleep).mapSys (fun y => { y with sleeping := 3 })

/-- An event packet of a subscription (R264). DESIGN CHOICE: its number of the event sequence is used up also where a full outbound queue
drops it (R210), so a gap shows the loss (log 179); unsafe where the part numbers only what it queues. -/
def State.eventPacket (s : State) (u : Subs) (e : JEntry) : State :=
  let n := (s.port u.port).evSeq
  let b := withCrc (le 1 0xF3 ++ le 1 e.ev ++ le 2 n ++ le 2 28 ++ le 1 e.sev ++ zeros 1 ++ le 4 s.tick32 ++ (jBytes e).take 28)
  (s.updPort u.port (fun p => { p with evSeq := (n + 1) % 65536 })).pushOut u.port
    ⟨1, u.iface, if u.port = 2 then 1 else u.ip, u.udp, b⟩

/-- A journal entry is written, and goes to the subscriptions that name its event (R263, R265). -/
def State.journalOne (s : State) (o : Occ) : State :=
  let k := s.nvm.jnext
  let e : JEntry := { index := k, tick := s.tick, ev := o.ev, sev := o.sev, rtc := o.rtc, count := o.count, detail := o.detail }
  let s0 := s.mapNvm (fun v => { v with journal := Tbl.set v.journal (k % 8192) e, jnext := (k + 1) % 2 ^ 32 })
  let s1 := s0.mramFresh (jAddr k) 32
  s1.each ((s1.hdl.subs.map (·.2)).filter (fun u => bit u.mask o.ev)) (fun t u => t.eventPacket u e)

/-- The journal engine writes the tick's entries (R44, R266), and the island's records among them are done with (R130, R143,
R845). -/
def State.journalAll (s : State) : State :=
  (((s.each s.evt.occ (fun t o => t.journalOne o)).mapEvt (fun v => { v with occ := [] })).mapIsland
    (fun i => { i with recs := [] })).mapNvm (fun v => { v with mirCut := [] })

/-- Sleep entry's Commit: a turf ends (R482). -/
def State.sleepCommit (s : State) : State :=
  (s.each s.instances (fun t n => t.spanEnd n 0 t.island.rtc false)).mapSys (fun y => { y with sleeping := 4 })

/-- The turfs that wait are written. -/
def State.turfsDue (s : State) : State :=
  s.each s.instances (fun t n =>
    let l := (t.inst n).due
    (t.updInst n (fun i => { i with due := [] })).each l (fun u f => u.writeTurf n f))

/-- The rails have gone off: Banked (R33, R68, R104, R152, R154, R157, R244, R245, R299, R671, R718). -/
def State.bank (s : State) : State :=
  let lev (n : Nat) := (s.sw n).level
  let seen := (List.range 4).map (fun r => (r, (s.ring r).serials))
  let s1 := s.wdgBank.mapNvm (fun v => { v with bankedDoused := s.sys.phase == .doused, seen := seen })
  let s2 := (s1.wakeArm lev s.swForced (fun n => (s.sw n).raw)).mapIsland (fun i => { i with
    rtcRun := true, napS := if s.net.napDue then 60 * s.pf 0x3003 8 8 else i.napS, wakePend := false })
  let s3 := (s2.setPb 0x0102 1 false).mapSys (fun y => { y with
    phase := .banked, crystal := false, serdes := 0, pll := false, rom := false, rails := [], sleeping := 0, tph := 0 })
  if s.island.wakePend then ((s3.islandRec 37 []).restart true).mapSys (fun y => { y with warm := true }) else s3

/-- What the ticks since its beginning have not done of a sleep entry (R152). -/
def State.sleepRest (s : State) : State :=
  let s1 := if s.sys.sleeping ≤ 1 then s.sleepSend else s
  let s2 := if s.sys.sleeping ≤ 2 then s1.sleepSet else s1
  let s3 := if s.sys.sleeping ≤ 3 then s2.mirrorCommit.sleepCommit.journalAll else s2
  if s.sys.sleeping ≤ 4 then s3.count.sendSyncs true else s3

/-- SLEEP_ENTRY (R152, R153). An event of severity DOUSE in its last stages enters Doused before the rails go off (R68). -/
def execSleepEntry (s : State) : Host.Outcome State Fault Refusal :=
  done (if s.full && s.sys.sleeping != 0 then s.sleepRest.turfsDue.settle.bank else s)

/-- A word of a slot pair is uncorrectable: its slot is not valid (R469). -/
def spoil (word at' : Nat) (a : Option AccSlot) : Option AccSlot :=
  if at' ≤ word ∧ word < at' + 8 then a.map (fun x => { x with good := false }) else a

/-- MRAM_SCRUB (R18, R473): finding 1 corrected, 2 uncorrectable, anything else none. Word numbers count 8 bytes. A mirror
slot stands at 0x200 times its instance (R475). DESIGN CHOICE: an uncorrectable word of a worker's MRAM outside the slot pair
raises EV61 and changes no value there, since the spec gives it no other effect. -/
def execMramScrub (w : Option Nat) (word finding : Nat) (s : State) : Host.Outcome State Fault Refusal :=
  done (if !s.awake then s
  else if finding = 1 then s.raise 60 []
  else if finding = 2 then
    let s1 := s.raise 61 []
    match w with
    | some k => s1.updWk k (fun x => { x with meterU := { x.meterU with
        slot0 := spoil word 0 x.meterU.slot0, slot1 := spoil word 8 x.meterU.slot1 } })
    | none =>
      if word < 512 ∧ word % 64 < 16 then
        s1.updInst (word / 64) (fun i => { i with m0 := spoil (word % 64) 0 i.m0, m1 := spoil (word % 64) 8 i.m1 })
      else s1.mapNvm (fun v => { v with bad := insNat word v.bad })
  else s)

end Sys2Proof.Machine
end

