-- ==== Sys2Proof/Machine/Sample.lean ====
section
/-! DEFINITION. The sample instant: what the manager measures of itself, and the workers' samples (R45, R117, R547, R573 to
R575, R607, R616, R640, R643, R666, R757, R824). -/

namespace Sys2Proof.Machine

/-- The listed value of a channel, 0 for one not listed. -/
def valueOf (l : List (Nat × Nat)) (k : Nat) : Nat := ((l.find? (fun e => e.1 == k)).map (·.2)).getD 0

/-- The listed signed value of a channel, 0 for one not listed. -/
def signedOf (l : List (Nat × Int)) (k : Nat) : Int := ((l.find? (fun e => e.1 == k)).map (·.2)).getD 0

/-- The current that the open-load check counts in this tick (R573): the sampled current of an unbound channel; of a pulsed
one with pulses of 2 µs or more what the sample gives for its pulses; none otherwise. -/
def State.olCurrent (s : State) (n i : Nat) (ol : List (Nat × Nat)) : Option Nat :=
  let g := if s.isCon n then (if (s.hs n).cont = 2 then (s.hs n).econPg else none)
    else if s.hsBound n then some (s.pf (hsPwmStat n) 16 4) else none
  match g with
  | none => some i
  | some k =>
    let d := s.pf (hsPwm n) 0 16
    if d = 0 ∨ d = 0xFFFF ∨ d * (s.pg k).period < 2000 * 65536 then none
    else (ol.find? (fun e => e.1 == n)).map (·.2)

/-- One counted measurement of the open-load check (R574, R575). -/
def State.olCount (s : State) (n ma : Nat) : State :=
  let th := s.pf (0x2001 + 6 * n) 0 16
  let filt := s.pf (0x2001 + 6 * n) 16 8
  let c := s.hs n
  let s0 := s.updHs n (fun c => { c with olMa := some ma })
  if th = 0 then s0
  else if ma < th then
    let k := Nat.min (c.below + 1) 255
    let s1 := s0.updHs n (fun c => { c with below := k, above := 0 })
    if filt ≤ k then (s1.setPb (hsStat n) 5 true).begin 22 n (le 1 n ++ zeros 1 ++ le 2 ma) else s1
  else
    let k := Nat.min (c.above + 1) 255
    let s1 := s0.updHs n (fun c => { c with below := 0, above := k })
    if filt ≤ k then (s1.setPb (hsStat n) 5 false).finish 22 n else s1

/-- The least current at which a channel of its class limits, in mA (R545, table "Switch characteristics"). -/
def hsLimMin (n : Nat) : Nat := if n < 8 then 38000 else if n < 24 then 15000 else 3300

/-- A load switch at the sample instant (R547, R564, R573). LIMITING ends where the measured current is below any that its class
limits. -/
def State.hsSample (s : State) (n : Nat) (m : MgrSample) : State :=
  let on := s.pb (hsStat n) 0
  let i := Nat.min (valueOf m.hsI n) 0xFFFF
  let s0 := (s.setPf (hsStat n) 16 16 (if on then i else 0)).when (decide (i < hsLimMin n)) (fun t => t.setPb (hsStat n) 1 false)
  let s1 := s0.updHs n (fun c => { c with olMa := none })
  match on, s.olCurrent n i m.hsOl with
  | true, some ma => s1.olCount n (Nat.min ma 0xFFFF)
  | _, _ => s1

/-- EV63's threshold of a die in 0.1 °C: 0 logic, 1 P0, 2 P1. -/
def dieLimit (d : Nat) : Int := if d = 0 then 1150 else 1450

/-- The die temperatures (R824). -/
def State.dieSample (s : State) (l : List (Nat × Int)) : State :=
  let s1 := s.each (List.range 3) (fun t d =>
    let x := signedOf l d
    let up (k : Nat) : Nat := if dieLimit d ≤ x then Nat.min (k + 1) 10 else 0
    let down (k : Nat) : Nat := if x ≤ dieLimit d - 50 then Nat.min (k + 1) 10 else 0
    t.mapOut (fun o => { o with dieHot := Tbl.upd 0 (Tbl.upd 0 o.dieHot d up) (3 + d) down }))
  let s2 := s1.each ((List.range 3).filter (fun d => Tbl.get 0 s1.out.dieHot d == 10)) (fun t d =>
    t.begin 63 0 (le 1 d ++ zeros 1 ++ le 2 (toTwos 16 (signedOf l d))))
  if (List.range 3).all (fun d => Tbl.get 0 s1.out.dieHot (3 + d) == 10) then s2.finish 63 0 else s2

/-- The manager's own measurements. -/
def State.mgrSample (s : State) (m : MgrSample) : State :=
  let s1 := s.setPf 0x0300 0 16 (Nat.min m.vbat 0xFFFF)
  let s2 := s1.each (List.range 40) (fun t n => t.hsSample n m)
  let s3 := s2.each (List.range 24) (fun t c => t.setPf (vlvStat c) 16 16 (Nat.min (valueOf m.lsI c) 0xFFFF))
  let s4 := s3.each (List.range 8) (fun t b => t.setPf (hbStat b) 16 16 (Nat.min (valueOf m.hbI b) 0xFFFF))
  let s5 := s4.each (List.range 4) (fun t k => t.motSpeed k (signedOf m.motRpm k))
  let s6 := s5.each (List.range 8) (fun t g => t.ledSample g (signedOf m.ledT g))
  let s7 := (s6.swSample m.sw).mapOut (fun o => { o with
    railMv := (List.range 6).foldl (fun t r => Tbl.put 0 t r (valueOf m.rail r)) [] })
  s7.dieSample m.dieT

/-- Whether the tick runs (R44): it stops once the SYNC of a sleep entry has left. -/
def State.ticking (s : State) : Bool := s.awake && s.sys.pll && s.sys.sleeping < 5

/-- The tick's phase moves on. -/
def State.phaseTo (s : State) (n : Nat) : State := s.mapSys (fun y => { y with tph := n })

/-- SAMPLE_INSTANT (R45, R757). -/
def execSampleInstant (m : MgrSample) (ws : List WkSample) (s : State) : Host.Outcome State Fault Refusal :=
  rated m.vbat (if s.ticking then
    let t := (((s.phaseTo 2).each ws (fun t x => t.wkSample x)).mgrSample m)
    { t with sampled := ⟨t.params, t.out, t.net⟩ }
  else s)

end Sys2Proof.Machine
end

