-- ==== Sys2Proof/Machine/Tick.lean ====
section
/-! DEFINITION. The tick: its start, Compute, Apply, the set instant and the Commit (R38 to R66, R167 to R171, R203 to R208,
R224, R232, R250, R263 to R278, R325, R362, R510, R588, R677). -/

namespace Sys2Proof.Machine

/-- Lit again after CLEAR_DOUSE (R34, R277, R278). -/
def State.litAgain (s : State) : State :=
  if s.sys.phase == .doused && s.sys.clearDue then
    (s.oscTrimmed.mapSys (fun y => { y with phase := .lit, clearDue := false, douseEntry := false })).each
      ((List.range 4).filter (fun c => s.pb (stkCfg c) 13 && s.stkState c != 0)) (fun t c => t.skStart c)
  else s

/-- Seconds in Lit and Doused (R510); entry 40 of the wear table keeps the µs. -/
def State.wearLit (s : State) (us : Nat) : State :=
  if s.full then
    let n := Tbl.get 0 s.nvm.wear 40 + us
    (s.mapNvm (fun v => { v with wear := Tbl.put 0 v.wear 40 (n % 1000000) })).when (1000000 ≤ n)
      (fun t => t.wear 22 (n / 1000000))
  else s

/-- Workers whose result of the last tick is missing are asked for it (R325). -/
def State.lateReads (s : State) : State :=
  s.each (s.workers.filter (fun w => !(s.view w).got && (s.view w).miss != 0)) (fun t w => t.sendRead w 0 1 0)

/-- What ends with a tick: arbitration's answers, roles and generators given up, and the marks of the tick. -/
def State.tickEnd (s : State) : State :=
  let s1 := s.mapCmd (fun m => { m with verdicts := [], winners := [], intents := [], closed := false })
  let s2 := (s1.mapHdl (fun h => { h with leaving := [], acts := h.acts.map (fun a => { a with age := a.age + 1 }) })).pgFree
  let s3 := s2.each (s2.out.hs.map (·.1)) (fun t n => t.updHs n (fun c => { c with
    tripped := false, alarmed := false, quiet := Nat.min (c.quiet + 1) 1000 }))
  let s4 := s3.each (s3.out.hb.map (·.1)) (fun t b => t.updHb b (fun h => { h with aborted := false, judged := none }))
  s4.mapSys (fun y => { y with douseTick := false })

/-- The old tick ends, the counters advance, and a return to Lit or a release that is due takes place (R49, R66, R277). -/
def State.tickEnter (s : State) : State :=
  let us := s.tUs
  let s1 := ({ s with sent := Sent.none }.tickEnd.rtcUs us).wearLit us
  let s2 := (s1.tickCount.phaseTo 0).litAgain
  (if s2.sys.releaseDue then (if s2.reconReady then s2.release else s2.mapSys (fun y => { y with releaseDue := false }))
    else s2).phaseTo 1

/-- PACKLIM stands at 100 while no worker is lost (R362). -/
def State.packWhole (s : State) : State :=
  if s.workers.all (fun w => !(s.view w).lost) then (s.setPf 0x1002 0 7 100).setPb 0x1002 7 false else s

/-- What the tick's start sends on the rings and the partner link (R44, R325, R515). -/
def State.tickSends (s : State) (bank : Bool) : State :=
  let s1 := if s.sys.rom then s.sendSyncs bank else s
  (s1.mapPart (fun p => { p with turfLast := p.turfDone, turfDone := [] })).leases.partTick.lateReads

/-- A tick begins (R40 to R49, R66, R167, R277, R362, R773). -/
def State.tickBegin (s : State) : State :=
  let s1 := s.copyEnd.flrLast.tickEnter.queueDue.skResume.packWhole
  let last := s1.sys.sleeping == 4
  let s2 := s1.tickSends last
  let s3 := s2.each s2.workers (fun t w => t.updView w (fun v => { v with got := false, ack := 0 }))
  let s4 := s3.netTick.netDrain
  if last then s4.mapSys (fun y => { y with sleeping := 5 }) else s4

/-- TICK_START (R44). -/
def execTickStart (s : State) : Host.Outcome State Fault Refusal := done (if s.ticking then s.tickBegin else s)

/-- LIT_REENTRY (R277, R278). -/
def execLitReentry (s : State) : Host.Outcome State Fault Refusal := done s.litAgain

/-- GATHER_END (R55, R168, R326, R481, R667, R770): protection, then the slices open and up to `count` requests execute. -/
def execGatherEnd (count : Nat) (s : State) : Host.Outcome State Fault Refusal :=
  done (if s.ticking then
    let s1 := (s.phaseTo 3).protect
    let s2 := s1.each (s1.instances.filter (fun n => s1.full && 2 ≤ s1.instState n && s1.instState n != 5)) (fun t n => t.spanTick n)
    ((s2.swEvent.settle).slicesOpen).runDue count
  else s)

/-- The station outputs of every worker take their safe values (R270). -/
def State.stnDouse (s : State) : State :=
  s.each s.workers (fun t w => t.updView w (fun v => { v with cmd := t.stnSafe w }))

/-- What closing a writer sends in the tick after its CLOSE (R224). -/
def State.closeSends (s : State) : State :=
  s.each (s.hdl.acts.filter (fun a => a.age == 1)) (fun t a =>
    if a.cls = 0x0B then t.closed' a.cls a.res else t.captureClose a.cls a.res a.slot)

/-- Commands that 0.70 T has cut off (R56). -/
def State.carry (s : State) : State :=
  if s.cmd.queue.any (·.due) then (s.raise 0 []).incPf 0x0205 16 16 else s

/-- INTENT_CLOSE (R56, R57, R203, R227, R762). -/
def execIntentClose (s : State) : Host.Outcome State Fault Refusal :=
  done (if s.ticking then
    let s1 := ((s.carry.slicesClose.progWrites.handleReqs).settle).haltsClose.closeSends
    let s2 := (if s1.sys.douseEntry then s1.stnDouse else s1).arbitrate
    let s3 := if s2.sys.sleeping = 1 then s2.sleepApply else s2
    (s3.stnRefresh.sendSnaps.relightSlots.sendSlots.flrApply.applySend).phaseTo 4
  else s)

/-- A load switch at the set instant of the Doused entry (R270). -/
def State.hsDouse (s : State) (n : Nat) : State :=
  let put (on : Nat) : State := (s.updHs n (fun c => { c with unfollow := true })).hsApply ⟨1, n, 8, 0, false, 0, on, 0, 0⟩
  if s.isCon n then put 0
  else match s.pf (hsCfg n) 6 2 with
    | 0 => put 0
    | 1 => put 1
    | 2 => if s.pb (hsStat n) 6 && !(s.hs n).unfollow then
        (s.updHs n (fun c => { c with unfollow := true })).hsDrive n
      else s
    | _ => s

/-- Every output whose Doused setting is not FREE takes its Doused value (R270). -/
def State.douseOutputs (s : State) : State :=
  let s1 := s.each (List.range 40) (fun t n => t.hsDouse n)
  let s2 := s1.each ((List.range 24).filter (fun c => !s.pb (vlvCfg c) 9)) (fun t c => t.vlvDrop c t.setNow)
  let s3 := s2.each ((List.range 32).filter (fun n => !s.pb (ledCfg n) 10))
    (fun t n => t.ledApply ⟨4, n, 8, 0, false, t.pf (0x2301 + 4 * n) 0 16, 0, 0, 0⟩)
  let s4 := (s3.each (List.range 8) (fun t b => t.hbDouse b)).each (List.range 4) (fun t m => t.motDouse m)
  s4.stnDouse.mapSys (fun y => { y with douseEntry := false })

/-- The writers closed in the tick before have their resources taken to the closed state (R224). DESIGN CHOICE: in Doused too, where the
closed state then stands on the output in place of its Doused value (log 182). -/
def State.closeActs (s : State) : State :=
  let l := s.hdl.acts.filter (fun a => a.age != 0)
  (s.each (l.filter (fun a => a.cls != 0x0B)) (fun t a =>
    if a.cls = 0x0E ∨ a.cls = 0x0F then t.captureDrop (2048 + a.slot) a.cls else t.closed' a.cls a.res)).mapHdl
    (fun h => { h with acts := h.acts.filter (fun a => a.age == 0) })

/-- A new set instant: what the shadows took at the last one is no longer of the reload's clock (R559). -/
def State.shadowsSettled (s : State) : State :=
  let s1 := s.each ((s.out.hs.filter (fun e => e.2.shPrev.isSome)).map (·.1)) (fun t n => t.updHs n (fun c => { c with shPrev := none }))
  s1.each ((s1.out.hb.filter (fun e => e.2.shPrev.isSome)).map (·.1)) (fun t b => t.updHb b (fun h => { h with shPrev := none }))

/-- Values that reach the shadows at the set instant, and moves to another generator (R238, R588, R625). -/
def State.shadowLoad (s : State) : State :=
  let s1 := s.each ((List.range 40).filter (fun n => (s.hs n).movePg.isSome || (s.hs n).econPend)) (fun t n =>
    let c := t.hs n
    let t1 := t.updHs n (fun c => { c with movePg := none, econPend := false })
    if c.econPend && t.isCon n then t1.hsShadow n (t1.pf (0x2702 + 4 * n) 0 16) else t1)
  s1.each ((List.range 8).filter (fun b => (s1.hb b).movePg.isSome || (s1.hb b).runPend)) (fun t b =>
    t.updHb b (fun h => { h with
      movePg := none, runPend := false
      dutySh := if h.runPend then t.pf (0x2402 + 8 * b) 0 16 else h.dutySh
      shPrev := if h.runPend then some h.dutySh else h.shPrev }))

/-- The payload of an output reply: that of a refusal stands, and a planned VALVE_FIRE names its start (R605). -/
def State.firePayload (s : State) (r : RSlot) (w : Await) : List Byte :=
  match w.kind with
  | 255 => r.payload
  | 3 => match s.verdict w.lodge with
    | some v => le 4 v.tick ++ le 2 v.us
    | none => []
  | _ => []

/-- The output replies of the tick leave (R169 to R171, R203, R681). -/
def State.replyOutputs (s : State) : State :=
  s.each (List.range 4) (fun t p =>
    t.each ((s.port p).slots.filterMap (fun r => (r.wait.filter (fun w => w.kind != 0)).map (fun w => (r, w)))) (fun u e =>
      u.settleReply p e.2.lodge (if e.2.kind = 255 then e.2.ok else u.outResult e.2.kind e.2.chan e.2.lodge e.2.ok)
        (u.firePayload e.1 e.2)))

/-- The local outputs at the set instant: closed writers, the winners, then the Doused values (R47, R224, R270, R567, R613,
R616). DESIGN CHOICE: an entry to Doused after its tick's set instant has its values at the next tick's (log 183). -/
def State.setOutputs (s : State) : State :=
  let s1 := s.shadowsSettled.ledFades.ledFactors.closeActs
  let s2 := s1.each s1.cmd.winners (fun t i => t.applyWinner i)
  let s3 := if s2.sys.douseEntry then s2.douseOutputs else s2
  (s3.each (List.range 40) (fun t n => t.hsReturn n)).shadowLoad

/-- SET_INSTANT (R47, R54, R169, R315). -/
def execSetInstant (s : State) : Host.Outcome State Fault Refusal :=
  done (if s.ticking then
    let s0 := s.each ((s.wks.filter (fun e => e.2.runs)).map (·.1)) (fun t w => t.updWk w Wk.atSet)
    let s1 := s0.setOutputs
    let s2 := if s1.sys.sleeping = 1 then s1.sleepSend.sleepSet else if s1.sys.sleeping = 2 then s1.sleepSet else s1
    (((s2.ringSet.hwrSettle.replyOutputs).mapCmd (fun m => { m with winners := [] })).phaseTo 5)
  else s)

/-- COMMIT_PHASE (R58, R265, R467, R477, R508). -/
def execCommitPhase (s : State) : Host.Outcome State Fault Refusal :=
  done (if s.ticking then
    let s0 := s.each ((s.wks.filter (fun e => e.2.runs)).map (·.1)) (fun t w => t.updWk w Wk.atCommit)
    let s1 := s0.relightCommit.mirrorCommit
    let s2 := if s1.sys.sleeping = 3 then s1.sleepCommit else s1
    ((s2.flrLate.journalAll).canDone).phaseTo 6
  else s)

end Sys2Proof.Machine
end

