-- ==== Sys2Proof/Machine/Dispatch.lean ====
section
/-! DEFINITION. The meaning of every command, one arm for each row of spec/opcode_table.json. -/

namespace Sys2Proof.Machine

/-- A command's effect on everything but the queue. -/
def exec (i : Instr) (s : State) : Host.Outcome State Fault Refusal :=
  match i with
  | .vbatPowerOn mv => Sys2Proof.Machine.execVbatPowerOn mv s
  | .vbatBrownout => Sys2Proof.Machine.execVbatBrownout s
  | .fuseLoadDone mv us => Sys2Proof.Machine.execFuseLoadDone mv us s
  | .railSenseGood rail us => Sys2Proof.Machine.execRailSenseGood rail us s
  | .railWindowExpired => Sys2Proof.Machine.execRailWindowExpired s
  | .railSenseLost rail mv => Sys2Proof.Machine.execRailSenseLost rail mv s
  | .railRestEnd => Sys2Proof.Machine.execRailRestEnd s
  | .railRetryClear => Sys2Proof.Machine.execRailRetryClear s
  | .retryRails dt => Sys2Proof.Machine.execRetryRails dt s
  | .pllLock us => Sys2Proof.Machine.execPllLock us s
  | .romBootDone => Sys2Proof.Machine.execRomBootDone s
  | .ringEnumeration found => Sys2Proof.Machine.execRingEnumeration found s
  | .enumFromB found => Sys2Proof.Machine.execEnumFromB found s
  | .configLoad stored => Sys2Proof.Machine.execConfigLoad stored s
  | .releaseToLit recon safe => Sys2Proof.Machine.execReleaseToLit recon safe s
  | .extRefLockTimeout => Sys2Proof.Machine.execExtRefLockTimeout s
  | .extRefLost => Sys2Proof.Machine.execExtRefLost s
  | .hsUndervoltage => Sys2Proof.Machine.execHsUndervoltage s
  | .hsUvRestart => Sys2Proof.Machine.execHsUvRestart s
  | .hsRestartStep => Sys2Proof.Machine.execHsRestartStep s
  | .ovCoastEntry mv => Sys2Proof.Machine.execOvCoastEntry mv s
  | .ovCoastExit => Sys2Proof.Machine.execOvCoastExit s
  | .collapse cause joint cut => Sys2Proof.Machine.execCollapse cause joint cut s
  | .crystalStop joint => Sys2Proof.Machine.execCrystalStop joint s
  | .thermalReset => Sys2Proof.Machine.execThermalReset s
  | .pinReset us => Sys2Proof.Machine.execPinReset us s
  | .endOfCommitReset => Sys2Proof.Machine.execEndOfCommitReset s
  | .sleepEntry => Sys2Proof.Machine.execSleepEntry s
  | .wake src dt => Sys2Proof.Machine.execWake src dt s
  | .rtcWakeTimer dt => Sys2Proof.Machine.execRtcWakeTimer dt s
  | .canwakeInput dt => Sys2Proof.Machine.execCanwakeInput dt s
  | .tickStart => Sys2Proof.Machine.execTickStart s
  | .sampleInstant m ws => Sys2Proof.Machine.execSampleInstant m ws s
  | .owHoldExpired w wire => Sys2Proof.Machine.execOwHoldExpired w wire s
  | .owRoutineTest w => Sys2Proof.Machine.execOwRoutineTest w s
  | .flywheelSample x => Sys2Proof.Machine.execFlywheelSample x s
  | .ownTimingStart w => Sys2Proof.Machine.execOwnTimingStart w s
  | .gatherEnd count => Sys2Proof.Machine.execGatherEnd count s
  | .workerLost ring addr => Sys2Proof.Machine.execWorkerLost ring addr s
  | .stokerBudgetReached core => Sys2Proof.Machine.execStokerBudgetReached core s
  | .intentClose => Sys2Proof.Machine.execIntentClose s
  | .setInstant => Sys2Proof.Machine.execSetInstant s
  | .commitPhase => Sys2Proof.Machine.execCommitPhase s
  | .litReentry => Sys2Proof.Machine.execLitReentry s
  | .spiFrame sdi clocked same => Sys2Proof.Machine.execSpiFrame sdi clocked same s
  | .ethDatagram iface ip udp data same => Sys2Proof.Machine.execEthDatagram iface ip udp data same s
  | .canMessage ctrl ident data last same => Sys2Proof.Machine.execCanMessage ctrl ident data last same s
  | .canIsotpTimeout ctrl inbound => Sys2Proof.Machine.execCanIsotpTimeout ctrl inbound s
  | .twCommandWrite x same => Sys2Proof.Machine.execTwCommandWrite x same s
  | .twCommandRead x => Sys2Proof.Machine.execTwCommandRead x s
  | .signatureVerified port => Sys2Proof.Machine.execSignatureVerified port s
  | .nop r => Sys2Proof.Machine.execNop r s
  | .ident r => Sys2Proof.Machine.execIdent r s
  | .status r => Sys2Proof.Machine.execStatus r s
  | .getParam r => Sys2Proof.Machine.execGetParam r s
  | .setParam r => Sys2Proof.Machine.execSetParam r s
  | .workerGetParam r => Sys2Proof.Machine.execWorkerGetParam r s
  | .workerSetParam r => Sys2Proof.Machine.execWorkerSetParam r s
  | .getBlock r => Sys2Proof.Machine.execGetBlock r s
  | .setBlock r => Sys2Proof.Machine.execSetBlock r s
  | .wdgPeriodWrite r => Sys2Proof.Machine.execWdgPeriodWrite r s
  | .evtStatClear r => Sys2Proof.Machine.execEvtStatClear r s
  | .hsLatchClear r => Sys2Proof.Machine.execHsLatchClear r s
  | .hbPosWrite r => Sys2Proof.Machine.execHbPosWrite r s
  | .canAutorecWrite r => Sys2Proof.Machine.execCanAutorecWrite r s
  | .partResetPartner r => Sys2Proof.Machine.execPartResetPartner r s
  | .partResync r => Sys2Proof.Machine.execPartResync r s
  | .openHandle r => Sys2Proof.Machine.execOpenHandle r s
  | .closeHandle r => Sys2Proof.Machine.execCloseHandle r s
  | .bind r => Sys2Proof.Machine.execBind r s
  | .queryHandle r => Sys2Proof.Machine.execQueryHandle r s
  | .outSet r => Sys2Proof.Machine.execOutSet r s
  | .outPwm r => Sys2Proof.Machine.execOutPwm r s
  | .valveFire r => Sys2Proof.Machine.execValveFire r s
  | .ledSet r => Sys2Proof.Machine.execLedSet r s
  | .hbMove r => Sys2Proof.Machine.execHbMove r s
  | .motorStart r => Sys2Proof.Machine.execMotorStart r s
  | .motorStop r => Sys2Proof.Machine.execMotorStop r s
  | .sweepRead r => Sys2Proof.Machine.execSweepRead r s
  | .cellRead r => Sys2Proof.Machine.execCellRead r s
  | .balance r => Sys2Proof.Machine.execBalance r s
  | .impStart r => Sys2Proof.Machine.execImpStart r s
  | .flareArm r => Sys2Proof.Machine.execFlareArm r s
  | .flareRead r => Sys2Proof.Machine.execFlareRead r s
  | .stationRead r => Sys2Proof.Machine.execStationRead r s
  | .ledgerRead r => Sys2Proof.Machine.execLedgerRead r s
  | .turfRead r => Sys2Proof.Machine.execTurfRead r s
  | .turfAck r => Sys2Proof.Machine.execTurfAck r s
  | .ledgerProvision r => Sys2Proof.Machine.execLedgerProvision r s
  | .relight r => Sys2Proof.Machine.execRelight r s
  | .relightComplete burnt => Sys2Proof.Machine.execRelightComplete burnt s
  | .challenge r => Sys2Proof.Machine.execChallenge r s
  | .setTime r => Sys2Proof.Machine.execSetTime r s
  | .shardPair r => Sys2Proof.Machine.execShardPair r s
  | .eventRead r => Sys2Proof.Machine.execEventRead r s
  | .eventSubscribe r => Sys2Proof.Machine.execEventSubscribe r s
  | .eventClear r => Sys2Proof.Machine.execEventClear r s
  | .stokerLoad r => Sys2Proof.Machine.execStokerLoad r s
  | .stokerRun r => Sys2Proof.Machine.execStokerRun r s
  | .stokerHalt r => Sys2Proof.Machine.execStokerHalt r s
  | .stokerState r => Sys2Proof.Machine.execStokerState r s
  | .stokerStep r => Sys2Proof.Machine.execStokerStep r s
  | .wdgAnswer r => Sys2Proof.Machine.execWdgAnswer r s
  | .wdgQuestion r => Sys2Proof.Machine.execWdgQuestion r s
  | .sleepRequest r => Sys2Proof.Machine.execSleepRequest r s
  | .wakeReason r => Sys2Proof.Machine.execWakeReason r s
  | .configWriteErase r => Sys2Proof.Machine.execConfigWriteErase r s
  | .configWriteWrite r => Sys2Proof.Machine.execConfigWriteWrite r s
  | .configWriteCommit r => Sys2Proof.Machine.execConfigWriteCommit r s
  | .eraseComplete => Sys2Proof.Machine.execEraseComplete s
  | .commitComplete stored => Sys2Proof.Machine.execCommitComplete stored s
  | .configWriteParam r => Sys2Proof.Machine.execConfigWriteParam r s
  | .configWriteFuse r => Sys2Proof.Machine.execConfigWriteFuse r s
  | .clearDouse r => Sys2Proof.Machine.execClearDouse r s
  | .douse r => Sys2Proof.Machine.execDouse r s
  | .reset r => Sys2Proof.Machine.execReset r s
  | .wdgEarlyWarning => Sys2Proof.Machine.execWdgEarlyWarning s
  | .wdgPeriodExpired => Sys2Proof.Machine.execWdgPeriodExpired s
  | .wdgResume => Sys2Proof.Machine.execWdgResume s
  | .syncFrame w h f => Sys2Proof.Machine.execSyncFrame w h f s
  | .workerBankEntry w => Sys2Proof.Machine.execWorkerBankEntry w s
  | .enumAssignA w h count => Sys2Proof.Machine.execEnumAssignA w h count s
  | .enumProbeB w h count => Sys2Proof.Machine.execEnumProbeB w h count s
  | .enumAssignB w h count total => Sys2Proof.Machine.execEnumAssignB w h count total s
  | .enumCal w h => Sys2Proof.Machine.execEnumCal w h s
  | .leaseRenew w h f => Sys2Proof.Machine.execLeaseRenew w h f s
  | .leaseClaim w h f => Sys2Proof.Machine.execLeaseClaim w h f s
  | .leaseRelease w h f => Sys2Proof.Machine.execLeaseRelease w h f s
  | .readHeldResult w h back => Sys2Proof.Machine.execReadHeldResult w h back s
  | .readParameter w h index => Sys2Proof.Machine.execReadParameter w h index s
  | .readFaultJournal w h index => Sys2Proof.Machine.execReadFaultJournal w h index s
  | .readCaptureRecord w h index => Sys2Proof.Machine.execReadCaptureRecord w h index s
  | .writeParameter w h index value => Sys2Proof.Machine.execWriteParameter w h index value s
  | .stationRefresh w h value => Sys2Proof.Machine.execStationRefresh w h value s
  | .time w h value => Sys2Proof.Machine.execTime w h value s
  | .balMask w h value => Sys2Proof.Machine.execBalMask w h value s
  | .balRun w h value => Sys2Proof.Machine.execBalRun w h value s
  | .impData w h index value => Sys2Proof.Machine.execImpData w h index value s
  | .impStartCommand w h value => Sys2Proof.Machine.execImpStartCommand w h value s
  | .impStop w h value => Sys2Proof.Machine.execImpStop w h value s
  | .impRestart w h value => Sys2Proof.Machine.execImpRestart w h value s
  | .flrMode w h value => Sys2Proof.Machine.execFlrMode w h value s
  | .flrTrig w h index value => Sys2Proof.Machine.execFlrTrig w h index value s
  | .flrArm w h value => Sys2Proof.Machine.execFlrArm w h value s
  | .flrTick w h value => Sys2Proof.Machine.execFlrTick w h value s
  | .flrFire w h value => Sys2Proof.Machine.execFlrFire w h value s
  | .flrRelease w h value => Sys2Proof.Machine.execFlrRelease w h value s
  | .shardData w h index value => Sys2Proof.Machine.execShardData w h index value s
  | .shardCommit w h value => Sys2Proof.Machine.execShardCommit w h value s
  | .slotData w h index value => Sys2Proof.Machine.execSlotData w h index value s
  | .slotCommit w h value => Sys2Proof.Machine.execSlotCommit w h value s
  | .resultFrame f => Sys2Proof.Machine.execResultFrame f s
  | .ackFrame ring addr crcOk etype eseq status value => Sys2Proof.Machine.execAckFrame ring addr crcOk etype eseq status value s
  | .streamFrame ring addr crcOk body => Sys2Proof.Machine.execStreamFrame ring addr crcOk body s
  | .alarmFrame ring fromEnd addr crcOk cause item raw tick => Sys2Proof.Machine.execAlarmFrame ring fromEnd addr crcOk cause item raw tick s
  | .laneLoss w lane => Sys2Proof.Machine.execLaneLoss w lane s
  | .ringHeal found => Sys2Proof.Machine.execRingHeal found s
  | .bankedCheck x => Sys2Proof.Machine.execBankedCheck x s
  | .emberRepeat w lane => Sys2Proof.Machine.execEmberRepeat w lane s
  | .workerPowerUp w roleHigh serial => Sys2Proof.Machine.execWorkerPowerUp w roleHigh serial s
  | .beatFrame f => Sys2Proof.Machine.execBeatFrame f s
  | .partnerLinkLost cause => Sys2Proof.Machine.execPartnerLinkLost cause s
  | .partnerLinkUp => Sys2Proof.Machine.execPartnerLinkUp s
  | .ledgsyncFrame seq inst body => Sys2Proof.Machine.execLedgsyncFrame seq inst body s
  | .relayFrame f => Sys2Proof.Machine.execRelayFrame f s
  | .requestResetFrame seq => Sys2Proof.Machine.execRequestResetFrame seq s
  | .requestResyncFrame seq turfNew => Sys2Proof.Machine.execRequestResyncFrame seq turfNew s
  | .partnerAckFrame etype eseq status => Sys2Proof.Machine.execPartnerAckFrame etype eseq status s
  | .tickSourceTakeover => Sys2Proof.Machine.execTickSourceTakeover s
  | .tickReunion counter aligned => Sys2Proof.Machine.execTickReunion counter aligned s
  | .handbackRelease => Sys2Proof.Machine.execHandbackRelease s
  | .pgReload g sameClock => Sys2Proof.Machine.execPgReload g sameClock s
  | .hsLimiting n => Sys2Proof.Machine.execHsLimiting n s
  | .hsOvercurrentTrip n ma => Sys2Proof.Machine.execHsOvercurrentTrip n ma s
  | .hsThermalTrip n ma => Sys2Proof.Machine.execHsThermalTrip n ma s
  | .hsCooldownEnd n => Sys2Proof.Machine.execHsCooldownEnd n s
  | .hsRetriesClear n => Sys2Proof.Machine.execHsRetriesClear n s
  | .followInputChange n mv us => Sys2Proof.Machine.execFollowInputChange n mv us s
  | .contactorPullinEnd n => Sys2Proof.Machine.execContactorPullinEnd n s
  | .weldCheckEnd => Sys2Proof.Machine.execWeldCheckEnd s
  | .weldCheckTimeout => Sys2Proof.Machine.execWeldCheckTimeout s
  | .valveStart c => Sys2Proof.Machine.execValveStart c s
  | .valvePeakReached c => Sys2Proof.Machine.execValvePeakReached c s
  | .valvePeakTimeout c ma => Sys2Proof.Machine.execValvePeakTimeout c ma s
  | .valveTurnOff c => Sys2Proof.Machine.execValveTurnOff c s
  | .valveLsOvercurrent c ma => Sys2Proof.Machine.execValveLsOvercurrent c ma s
  | .valveBfOvercurrent b ma => Sys2Proof.Machine.execValveBfOvercurrent b ma s
  | .hbRipple b depth => Sys2Proof.Machine.execHbRipple b depth s
  | .hbMoveEnd b => Sys2Proof.Machine.execHbMoveEnd b s
  | .hbStall b cur => Sys2Proof.Machine.execHbStall b cur s
  | .hbRippleTimeout b cur => Sys2Proof.Machine.execHbRippleTimeout b cur s
  | .hbOvercurrent b cur => Sys2Proof.Machine.execHbOvercurrent b cur s
  | .hbBrakeEnd b => Sys2Proof.Machine.execHbBrakeEnd b s
  | .hbRevdeadEnd b => Sys2Proof.Machine.execHbRevdeadEnd b s
  | .motorCatchEnd m rpm => Sys2Proof.Machine.execMotorCatchEnd m rpm s
  | .motorBackwardRelease m rpm => Sys2Proof.Machine.execMotorBackwardRelease m rpm s
  | .motorBackwardTimeout m rpm => Sys2Proof.Machine.execMotorBackwardTimeout m rpm s
  | .motorBrakeEnd m => Sys2Proof.Machine.execMotorBrakeEnd m s
  | .motorAlignEnd m => Sys2Proof.Machine.execMotorAlignEnd m s
  | .motorHandover m rpm => Sys2Proof.Machine.execMotorHandover m rpm s
  | .motorHandoverTimeout m rpm => Sys2Proof.Machine.execMotorHandoverTimeout m rpm s
  | .motorTargetReached m rpm => Sys2Proof.Machine.execMotorTargetReached m rpm s
  | .motorObserverLoss m cause amount periods rpm recent => Sys2Proof.Machine.execMotorObserverLoss m cause amount periods rpm recent s
  | .motorRecatch m => Sys2Proof.Machine.execMotorRecatch m s
  | .motorGateFault m kind rpm => Sys2Proof.Machine.execMotorGateFault m kind rpm s
  | .balanceEnd w => Sys2Proof.Machine.execBalanceEnd w s
  | .impPointStart w => Sys2Proof.Machine.execImpPointStart w s
  | .impPointEnd w conv => Sys2Proof.Machine.execImpPointEnd w conv s
  | .flareTrigger w tick offset now ago => Sys2Proof.Machine.execFlareTrigger w tick offset now ago s
  | .flareComplete w rows => Sys2Proof.Machine.execFlareComplete w rows s
  | .turfPeriodEnd => Sys2Proof.Machine.execTurfPeriodEnd s
  | .turfWrite inst => Sys2Proof.Machine.execTurfWrite inst s
  | .shardPeriod => Sys2Proof.Machine.execShardPeriod s
  | .meterTimeSend => Sys2Proof.Machine.execMeterTimeSend s
  | .bankedPoll levels dt => Sys2Proof.Machine.execBankedPoll levels dt s
  | .switchWake n mv dt => Sys2Proof.Machine.execSwitchWake n mv dt s
  | .keepaliveSend => Sys2Proof.Machine.execKeepaliveSend s
  | .keepaliveReceived ctrl ident data => Sys2Proof.Machine.execKeepaliveReceived ctrl ident data s
  | .sleepAgreed => Sys2Proof.Machine.execSleepAgreed s
  | .kaPrepareEnd => Sys2Proof.Machine.execKaPrepareEnd s
  | .maxAwakeReached => Sys2Proof.Machine.execMaxAwakeReached s
  | .canBusOff ctrl tec => Sys2Proof.Machine.execCanBusOff ctrl tec s
  | .canBusOffRecovery ctrl => Sys2Proof.Machine.execCanBusOffRecovery ctrl s
  | .tc10SleepRequest => Sys2Proof.Machine.execTc10SleepRequest s
  | .ethLinkChange iface st => Sys2Proof.Machine.execEthLinkChange iface st s
  | .linSlot l => Sys2Proof.Machine.execLinSlot l s
  | .linSlotEnd l resp valid => Sys2Proof.Machine.execLinSlotEnd l resp valid s
  | .twStatusWindow x => Sys2Proof.Machine.execTwStatusWindow x s
  | .twEventWindow x => Sys2Proof.Machine.execTwEventWindow x s
  | .twLedgerWindow x => Sys2Proof.Machine.execTwLedgerWindow x s
  | .twSclTimeout window ms => Sys2Proof.Machine.execTwSclTimeout window ms s
  | .twSdaTimeout window ms => Sys2Proof.Machine.execTwSdaTimeout window ms s
  | .ldk core x => Sys2Proof.Machine.execLdk core x s
  | .mov core x => Sys2Proof.Machine.execMov core x s
  | .tagq core x => Sys2Proof.Machine.execTagq core x s
  | .retag core x => Sys2Proof.Machine.execRetag core x s
  | .add core x => Sys2Proof.Machine.execAdd core x s
  | .sub core x => Sys2Proof.Machine.execSub core x s
  | .mul core x => Sys2Proof.Machine.execMul core x s
  | .div core x => Sys2Proof.Machine.execDiv core x s
  | .scl core x => Sys2Proof.Machine.execScl core x s
  | .cmp core x => Sys2Proof.Machine.execCmp core x s
  | .and core x => Sys2Proof.Machine.execAnd core x s
  | .or core x => Sys2Proof.Machine.execOr core x s
  | .xor core x => Sys2Proof.Machine.execXor core x s
  | .not core x => Sys2Proof.Machine.execNot core x s
  | .shl core x => Sys2Proof.Machine.execShl core x s
  | .shr core x => Sys2Proof.Machine.execShr core x s
  | .min core x => Sys2Proof.Machine.execMin core x s
  | .max core x => Sys2Proof.Machine.execMax core x s
  | .abs core x => Sys2Proof.Machine.execAbs core x s
  | .ld core x => Sys2Proof.Machine.execLd core x s
  | .st core x => Sys2Proof.Machine.execSt core x s
  | .brt core x => Sys2Proof.Machine.execBrt core x s
  | .brf core x => Sys2Proof.Machine.execBrf core x s
  | .jmp core x => Sys2Proof.Machine.execJmp core x s
  | .call core x => Sys2Proof.Machine.execCall core x s
  | .ret core x => Sys2Proof.Machine.execRet core x s
  | .hrd core x => Sys2Proof.Machine.execHrd core x s
  | .hwr core x => Sys2Proof.Machine.execHwr core x s
  | .hopen core x => Sys2Proof.Machine.execHopen core x s
  | .hclose core x => Sys2Proof.Machine.execHclose core x s
  | .evtLatchedRead core x => Sys2Proof.Machine.execEvtLatchedRead core x s
  | .evtClear core x => Sys2Proof.Machine.execEvtClear core x s
  | .evtSeverityRead core x => Sys2Proof.Machine.execEvtSeverityRead core x s
  | .wait core x => Sys2Proof.Machine.execWait core x s
  | .tickrd core x => Sys2Proof.Machine.execTickrd core x s
  | .ledgrd core x => Sys2Proof.Machine.execLedgrd core x s
  | .wdgaAnswer core x => Sys2Proof.Machine.execWdgaAnswer core x s
  | .wdgaQuestion core x => Sys2Proof.Machine.execWdgaQuestion core x s
  | .trap core x => Sys2Proof.Machine.execTrap core x s
  | .cvt core x => Sys2Proof.Machine.execCvt core x s
  | .satadd core x => Sys2Proof.Machine.execSatadd core x s
  | .sel core x => Sys2Proof.Machine.execSel core x s
  | .ldx core x => Sys2Proof.Machine.execLdx core x s
  | .stx core x => Sys2Proof.Machine.execStx core x s
  | .orelse core x => Sys2Proof.Machine.execOrelse core x s
  | .stkNop core x => Sys2Proof.Machine.execStkNop core x s
  | .illegalOpcode core op x => Sys2Proof.Machine.execIllegalOpcode core op x s
  | .stokerRestart core => Sys2Proof.Machine.execStokerRestart core s
  | .partnerRingFrame ring crcOk f => Sys2Proof.Machine.execPartnerRingFrame ring crcOk f s
  | .vbatSequencingThreshold us => Sys2Proof.Machine.execVbatSequencingThreshold us s
  | .thermalHoldEnd mv us => Sys2Proof.Machine.execThermalHoldEnd mv us s
  | .hsThermalRestart n => Sys2Proof.Machine.execHsThermalRestart n s
  | .wdgWindowOpen => Sys2Proof.Machine.execWdgWindowOpen s
  | .valveStop c => Sys2Proof.Machine.execValveStop c s
  | .valveMinoffEnd c => Sys2Proof.Machine.execValveMinoffEnd c s
  | .motorRampDownEnd m => Sys2Proof.Machine.execMotorRampDownEnd m s
  | .stationOutputTrip w lout => Sys2Proof.Machine.execStationOutputTrip w lout s
  | .napLockEnd => Sys2Proof.Machine.execNapLockEnd s
  | .arpFrame iface op mac ip target => Sys2Proof.Machine.execArpFrame iface op mac ip target s
  | .icmpEchoRequest iface ip target data => Sys2Proof.Machine.execIcmpEchoRequest iface ip target data s
  | .workerAlarmReceived w lane addr seq cause item raw tick => Sys2Proof.Machine.execWorkerAlarmReceived w lane addr seq cause item raw tick s
  | .laneLock w lane => Sys2Proof.Machine.execLaneLock w lane s
  | .mramScrub w word finding => Sys2Proof.Machine.execMramScrub w word finding s
  | .workerPowerLoss w => Sys2Proof.Machine.execWorkerPowerLoss w s
  | .debuggerAttach attached => Sys2Proof.Machine.execDebuggerAttach attached s

end Sys2Proof.Machine
end

