-- ==== Sys2Proof/WellFormed.lean ====
section
/-! DEFINITION. Which commands are well formed: every operand within what the manual's layout of it holds. A command
outside these ranges stands for nothing that can reach the block. -/

namespace Sys2Proof

/-- A worker is named by its ring and its place from 1 to 63 on it. -/
def wkOk (w : Nat) : Bool := w < 256 && w % 64 != 0

/-- A request's fields fit their bytes, and its payload 4,096 bytes (R160). -/
def reqOk (r : Req) : Bool :=
  r.port < 4 && r.seq < 65536 && r.flags < 256 && r.rsv < 256 && r.handle < 2 ^ 32 && r.payload.length ≤ 4096 &&
    r.crc < 2 ^ 32 && r.tick < 2 ^ 32

/-- A WRITE's header fields fit (R309, R310). -/
def hdrOk (h : WHdr) : Bool := h.role < 3 && h.epoch < 65536 && h.seq < 256 && h.dest < 64 && h.lane < 2

/-- The manager's sample names channels that exist. -/
def mgrOk (m : MgrSample) : Bool :=
  m.vbat ≤ 58000 && m.hsI.all (fun e => e.1 < 40) && m.hsOl.all (fun e => e.1 < 40) && m.sw.all (fun e => e.1 < 64) &&
    m.lsI.all (fun e => e.1 < 24) && m.hbI.all (fun e => e.1 < 8) && m.motRpm.all (fun e => e.1 < 4) &&
    m.ledT.all (fun e => e.1 < 8) && m.dieT.all (fun e => e.1 < 3) && m.rail.all (fun e => e.1 < 6)

/-- A worker's sample names a worker. -/
def sampleOk (x : WkSample) : Bool := wkOk x.w && x.cells.length ≤ 24 && x.ntc.length ≤ 8

/-- What enumeration found names a ring and at most 63 workers (R331). -/
def foundOk (f : RingFound) : Bool := f.ring < 4 && f.serials.length ≤ 63

/-- What was read back names an instance. -/
def reconOk (x : ReconIn) : Bool := x.inst < 8

/-- A worker parameter read back fits its fields. -/
def storedOk (x : WkStored) : Bool := x.ring < 4 && x.addr < 64 && x.index < 65536 && x.value < 2 ^ 32

/-- Whether an index that a staging command may carry is one of its own, `n` from `base` on, or one that the table "Worker
command indices" does not list (R314). -/
def cmdOk (base n index : Nat) : Bool :=
  (base ≤ index && index < base + n) || (index < 65536 && !(index == 1 || index == 0x10 || index == 0x11 ||
    (0x20 ≤ index && index ≤ 0x2D) || (0x30 ≤ index && index ≤ 0x38) || (0x100 ≤ index && index ≤ 0x118) ||
    (0x120 ≤ index && index ≤ 0x12F)))

/-- A SYNC frame's fields fit their bytes. -/
def syncOk (f : SyncF) : Bool :=
  f.tick < 2 ^ 48 && f.period < 256 && f.flags < 256 && f.first < 256 && f.last < 256 && f.fromEnd < 2

/-- A LEASE frame's fields fit (R340). -/
def leaseOk (f : LeaseF) : Bool := f.role < 3 && f.op < 4 && f.epoch < 65536 && f.first < 64 && f.last < 64

/-- A RESULT frame names a place on a ring. -/
def resultOk (f : ResultF) : Bool := f.ring < 4 && f.fromEnd < 2 && 1 ≤ f.addr && f.addr < 64 && f.body.tick < 2 ^ 48

/-- A BEAT's fields fit (R514). -/
def beatOk (f : BeatF) : Bool := f.tick < 2 ^ 48 && f.period < 256 && f.state < 4 && f.cfgver < 2 ^ 32

/-- A frame of the partner on a ring fits. -/
def partnerOk : PartnerRingF → Bool
  | .sync f => syncOk f
  | .lease f => leaseOk f
  | .enum count => count < 64

/-- A relayed frame names a ring. -/
def relayOk (f : RelayF) : Bool := f.ring < 4

/-- A two-wire address has seven bits. -/
def xferOk (x : TwXfer) : Bool := x.addr < 128

/-- A STREAM frame's header fields fit (R448 to R450). -/
def streamOk : StreamBody → Bool
  | .samples first rows => first < 65536 && rows.length ≤ 10
  | .flare first record flags tick _ _ => first < 65536 && record < 256 && flags < 256 && tick < 2 ^ 48
  | .impPoint slot point status repeats _ tick _ _ =>
    slot < 2048 && point < 16 && status < 256 && repeats < 256 && tick < 2 ^ 48

/-- Whether a command is well formed. -/
def wellFormed (i : Instr) : Bool :=
  match i with
  | .vbatPowerOn _ => true
  | .vbatBrownout => true
  | .fuseLoadDone _ _ => true
  | .railSenseGood rail _ => rail < 6
  | .railWindowExpired => true
  | .railSenseLost rail _ => rail < 6
  | .railRestEnd => true
  | .railRetryClear => true
  | .retryRails _ => true
  | .pllLock _ => true
  | .romBootDone => true
  | .ringEnumeration found => found.all foundOk
  | .enumFromB found => foundOk found
  | .configLoad stored => stored.all storedOk
  | .releaseToLit recon safe => recon.all reconOk && safe.all storedOk
  | .extRefLockTimeout => true
  | .extRefLost => true
  | .hsUndervoltage => true
  | .hsUvRestart => true
  | .hsRestartStep => true
  | .ovCoastEntry _ => true
  | .ovCoastExit => true
  | .collapse cause _ cut => cause < 2 && cut.all (· < 8)
  | .crystalStop _ => true
  | .thermalReset => true
  | .pinReset _ => true
  | .endOfCommitReset => true
  | .sleepEntry => true
  | .wake src _ => src < 6
  | .rtcWakeTimer _ => true
  | .canwakeInput _ => true
  | .tickStart => true
  | .sampleInstant m ws => mgrOk m && ws.all sampleOk
  | .owHoldExpired w wire => wkOk w && wire < 25
  | .owRoutineTest w => wkOk w
  | .flywheelSample x => sampleOk x
  | .ownTimingStart w => wkOk w
  | .gatherEnd _ => true
  | .workerLost ring addr => ring < 4 && 1 ≤ addr && addr < 64
  | .stokerBudgetReached core => core < 4
  | .intentClose => true
  | .setInstant => true
  | .commitPhase => true
  | .litReentry => true
  | .spiFrame _ _ _ => true
  | .ethDatagram iface ip udp _ _ => iface < 2 && ip < 2 ^ 32 && udp < 65536
  | .canMessage ctrl ident _ _ _ => ctrl < 4 && ident % 2 ^ 31 < 2 ^ 29 && ident < 2 ^ 32
  | .canIsotpTimeout ctrl _ => ctrl < 4
  | .twCommandWrite x _ => xferOk x
  | .twCommandRead x => xferOk x
  | .signatureVerified port => port < 4
  | .nop r => reqOk r
  | .ident r => reqOk r
  | .status r => reqOk r
  | .getParam r => reqOk r
  | .setParam r => reqOk r
  | .workerGetParam r => reqOk r
  | .workerSetParam r => reqOk r
  | .getBlock r => reqOk r
  | .setBlock r => reqOk r
  | .wdgPeriodWrite r => reqOk r
  | .evtStatClear r => reqOk r
  | .hsLatchClear r => reqOk r
  | .hbPosWrite r => reqOk r
  | .canAutorecWrite r => reqOk r
  | .partResetPartner r => reqOk r
  | .partResync r => reqOk r
  | .openHandle r => reqOk r
  | .closeHandle r => reqOk r
  | .bind r => reqOk r
  | .queryHandle r => reqOk r
  | .outSet r => reqOk r
  | .outPwm r => reqOk r
  | .valveFire r => reqOk r
  | .ledSet r => reqOk r
  | .hbMove r => reqOk r
  | .motorStart r => reqOk r
  | .motorStop r => reqOk r
  | .sweepRead r => reqOk r
  | .cellRead r => reqOk r
  | .balance r => reqOk r
  | .impStart r => reqOk r
  | .flareArm r => reqOk r
  | .flareRead r => reqOk r
  | .stationRead r => reqOk r
  | .ledgerRead r => reqOk r
  | .turfRead r => reqOk r
  | .turfAck r => reqOk r
  | .ledgerProvision r => reqOk r
  | .relight r => reqOk r
  | .relightComplete _ => true
  | .challenge r => reqOk r
  | .setTime r => reqOk r
  | .shardPair r => reqOk r
  | .eventRead r => reqOk r
  | .eventSubscribe r => reqOk r
  | .eventClear r => reqOk r
  | .stokerLoad r => reqOk r
  | .stokerRun r => reqOk r
  | .stokerHalt r => reqOk r
  | .stokerState r => reqOk r
  | .stokerStep r => reqOk r
  | .wdgAnswer r => reqOk r
  | .wdgQuestion r => reqOk r
  | .sleepRequest r => reqOk r
  | .wakeReason r => reqOk r
  | .configWriteErase r => reqOk r
  | .configWriteWrite r => reqOk r
  | .configWriteCommit r => reqOk r
  | .eraseComplete => true
  | .commitComplete stored => stored.all storedOk
  | .configWriteParam r => reqOk r
  | .configWriteFuse r => reqOk r
  | .clearDouse r => reqOk r
  | .douse r => reqOk r
  | .reset r => reqOk r
  | .wdgEarlyWarning => true
  | .wdgPeriodExpired => true
  | .wdgResume => true
  | .syncFrame w h f => wkOk w && hdrOk h && syncOk f
  | .workerBankEntry w => wkOk w
  | .enumAssignA w h count => wkOk w && hdrOk h && count < 256
  | .enumProbeB w h count => wkOk w && hdrOk h && count < 256
  | .enumAssignB w h count total => wkOk w && hdrOk h && count < 256 && total < 256
  | .enumCal w h => wkOk w && hdrOk h
  | .leaseRenew w h f => wkOk w && hdrOk h && leaseOk f
  | .leaseClaim w h f => wkOk w && hdrOk h && leaseOk f
  | .leaseRelease w h f => wkOk w && hdrOk h && leaseOk f
  | .readHeldResult w h back => wkOk w && hdrOk h && back < 256
  | .readParameter w h index => wkOk w && hdrOk h && index < 65536
  | .readFaultJournal w h index => wkOk w && hdrOk h && index < 65536
  | .readCaptureRecord w h index => wkOk w && hdrOk h && index < 65536
  | .writeParameter w h index _ => wkOk w && hdrOk h && index < 65536
  | .stationRefresh w h _ => wkOk w && hdrOk h
  | .time w h _ => wkOk w && hdrOk h
  | .balMask w h _ => wkOk w && hdrOk h
  | .balRun w h _ => wkOk w && hdrOk h
  | .impData w h index _ => wkOk w && hdrOk h && cmdOk 0x20 11 index
  | .impStartCommand w h _ => wkOk w && hdrOk h
  | .impStop w h _ => wkOk w && hdrOk h
  | .impRestart w h _ => wkOk w && hdrOk h
  | .flrMode w h _ => wkOk w && hdrOk h
  | .flrTrig w h index _ => wkOk w && hdrOk h && cmdOk 0x31 4 index
  | .flrArm w h _ => wkOk w && hdrOk h
  | .flrTick w h _ => wkOk w && hdrOk h
  | .flrFire w h _ => wkOk w && hdrOk h
  | .flrRelease w h _ => wkOk w && hdrOk h
  | .shardData w h index _ => wkOk w && hdrOk h && cmdOk 0x100 24 index
  | .shardCommit w h _ => wkOk w && hdrOk h
  | .slotData w h index _ => wkOk w && hdrOk h && cmdOk 0x120 15 index
  | .slotCommit w h _ => wkOk w && hdrOk h
  | .resultFrame f => resultOk f
  | .ackFrame ring addr _ etype eseq status _ => ring < 4 && 1 ≤ addr && addr < 64 && etype < 256 && eseq < 256 && status < 65536
  | .streamFrame ring addr _ body => ring < 4 && 1 ≤ addr && addr < 64 && streamOk body
  | .alarmFrame ring fromEnd addr _ cause item raw tick => ring < 4 && fromEnd < 2 && 1 ≤ addr && addr < 64 &&
      cause < 256 && item < 256 && raw < 65536 && tick < 2 ^ 48
  | .laneLoss w lane => wkOk w && lane < 2
  | .ringHeal found => foundOk found
  | .bankedCheck x => sampleOk x
  | .emberRepeat w lane => wkOk w && lane < 2
  | .workerPowerUp w _ _ => wkOk w
  | .beatFrame f => beatOk f
  | .partnerLinkLost cause => cause < 2
  | .partnerLinkUp => true
  | .ledgsyncFrame seq inst _ => seq < 256 && inst < 8
  | .relayFrame f => relayOk f
  | .requestResetFrame seq => seq < 256
  | .requestResyncFrame seq _ => seq < 256
  | .partnerAckFrame etype eseq status => etype < 256 && eseq < 256 && status < 65536
  | .tickSourceTakeover => true
  | .tickReunion counter _ => counter < 2 ^ 48
  | .handbackRelease => true
  | .pgReload g _ => g < 16
  | .hsLimiting n => n < 40
  | .hsOvercurrentTrip n _ => n < 40
  | .hsThermalTrip n _ => n < 40
  | .hsCooldownEnd n => n < 40
  | .hsRetriesClear n => n < 40
  | .followInputChange n _ _ => n < 16
  | .contactorPullinEnd n => n < 8
  | .weldCheckEnd => true
  | .weldCheckTimeout => true
  | .valveStart c => c < 24
  | .valvePeakReached c => c < 24
  | .valvePeakTimeout c _ => c < 24
  | .valveTurnOff c => c < 24
  | .valveLsOvercurrent c _ => c < 24
  | .valveBfOvercurrent b _ => b < 6
  | .hbRipple b _ => b < 8
  | .hbMoveEnd b => b < 8
  | .hbStall b _ => b < 8
  | .hbRippleTimeout b _ => b < 8
  | .hbOvercurrent b _ => b < 8
  | .hbBrakeEnd b => b < 8
  | .hbRevdeadEnd b => b < 8
  | .motorCatchEnd m _ => m < 4
  | .motorBackwardRelease m _ => m < 4
  | .motorBackwardTimeout m _ => m < 4
  | .motorBrakeEnd m => m < 4
  | .motorAlignEnd m => m < 4
  | .motorHandover m _ => m < 4
  | .motorHandoverTimeout m _ => m < 4
  | .motorTargetReached m _ => m < 4
  | .motorObserverLoss m cause _ _ _ _ => m < 4 && cause < 2
  | .motorRecatch m => m < 4
  | .motorGateFault m kind _ => m < 4 && (kind == 2 || kind == 3)
  | .balanceEnd w => wkOk w
  | .impPointStart w => wkOk w
  | .impPointEnd w _ => wkOk w
  | .flareTrigger w tick _ _ _ => wkOk w && tick < 2 ^ 48
  | .flareComplete w _ => wkOk w
  | .turfPeriodEnd => true
  | .turfWrite inst => inst < 8
  | .shardPeriod => true
  | .meterTimeSend => true
  | .bankedPoll _ _ => true
  | .switchWake n _ _ => n < 64
  | .keepaliveSend => true
  | .keepaliveReceived ctrl ident _ => ctrl < 4 && ident < 2 ^ 32
  | .sleepAgreed => true
  | .kaPrepareEnd => true
  | .maxAwakeReached => true
  | .canBusOff ctrl _ => ctrl < 4
  | .canBusOffRecovery ctrl => ctrl < 4
  | .tc10SleepRequest => true
  | .ethLinkChange iface st => iface < 2 && st < 3
  | .linSlot l => l < 2
  | .linSlotEnd l _ _ => l < 2
  | .twStatusWindow x => xferOk x
  | .twEventWindow x => xferOk x
  | .twLedgerWindow x => xferOk x
  | .twSclTimeout window _ => window < 4
  | .twSdaTimeout window _ => window < 4 || window == 255
  | .ldk core _ => core < 4
  | .mov core _ => core < 4
  | .tagq core _ => core < 4
  | .retag core _ => core < 4
  | .add core _ => core < 4
  | .sub core _ => core < 4
  | .mul core _ => core < 4
  | .div core _ => core < 4
  | .scl core _ => core < 4
  | .cmp core _ => core < 4
  | .and core _ => core < 4
  | .or core _ => core < 4
  | .xor core _ => core < 4
  | .not core _ => core < 4
  | .shl core _ => core < 4
  | .shr core _ => core < 4
  | .min core _ => core < 4
  | .max core _ => core < 4
  | .abs core _ => core < 4
  | .ld core _ => core < 4
  | .st core _ => core < 4
  | .brt core _ => core < 4
  | .brf core _ => core < 4
  | .jmp core _ => core < 4
  | .call core _ => core < 4
  | .ret core _ => core < 4
  | .hrd core _ => core < 4
  | .hwr core _ => core < 4
  | .hopen core _ => core < 4
  | .hclose core _ => core < 4
  | .evtLatchedRead core _ => core < 4
  | .evtClear core _ => core < 4
  | .evtSeverityRead core _ => core < 4
  | .wait core _ => core < 4
  | .tickrd core _ => core < 4
  | .ledgrd core _ => core < 4
  | .wdgaAnswer core _ => core < 4
  | .wdgaQuestion core _ => core < 4
  | .trap core _ => core < 4
  | .cvt core _ => core < 4
  | .satadd core _ => core < 4
  | .sel core _ => core < 4
  | .ldx core _ => core < 4
  | .stx core _ => core < 4
  | .orelse core _ => core < 4
  | .stkNop core _ => core < 4
  | .illegalOpcode core op _ => core < 4 && 0x2B ≤ op && op < 64
  | .stokerRestart core => core < 4
  | .partnerRingFrame ring _ f => ring < 4 && partnerOk f
  | .vbatSequencingThreshold _ => true
  | .thermalHoldEnd _ _ => true
  | .hsThermalRestart n => n < 40
  | .wdgWindowOpen => true
  | .valveStop c => c < 24
  | .valveMinoffEnd c => c < 24
  | .motorRampDownEnd m => m < 4
  | .stationOutputTrip w lout => wkOk w && lout < 4
  | .napLockEnd => true
  | .arpFrame iface op mac ip target => iface < 2 && (op == 1 || op == 2) && mac < 2 ^ 48 && ip < 2 ^ 32 && target < 2 ^ 32
  | .icmpEchoRequest iface ip target _ => iface < 2 && ip < 2 ^ 32 && target < 2 ^ 32
  | .workerAlarmReceived w lane addr seq cause item raw tick => wkOk w && lane < 2 && addr < 64 && seq < 256 &&
      raw < 65536 && tick < 2 ^ 48 && cause < 256 && item < 256
  | .laneLock w lane => wkOk w && lane < 2
  | .mramScrub w _ finding => (match w with | some k => wkOk k | none => true) && finding < 3
  | .workerPowerLoss w => wkOk w
  | .debuggerAttach _ => true

end Sys2Proof
end

