-- ==== Sys2Proof/Safety.lean ====
section
/-! DEFINITION. The terms that statements use: a step that answers a next state, a command's effect, what a safe state is, and the
conditions under which a request, a worker's frame or a Stoker instruction is carried out. -/

namespace Sys2Proof

/-- A step that answers a next state. -/
def Runs (s : Machine.State) : Prop := ∃ t, Machine.step s = .next t

/-- Whether every contactor-class channel is open: not driven (R269). -/
def contactorsOpen (s : Machine.State) : Bool := s.contactors.all (fun n => !s.pb (Machine.hsStat n) 0)

/-- The command answers a next state at `s`: its effect is `u`, and entry to Doused follows where that effect has made it due
(R268). -/
def Gives (c : Instr) (s u : Machine.State) : Prop := Machine.exec c s = .next u.settle

/-- No entry to Doused is outstanding. -/
def NoDouseDue (s : Machine.State) : Prop := s.evt.douse = false

/-- A request of opcode `op` reaches its executor: its port serves (R77), and checks 5 to 9 pass (R165). -/
def Passes (s : Machine.State) (op : Nat) (r : Req) : Prop :=
  s.portServes r.port = true ∧ r.port < 4 ∧ s.preCheck op r = 0

/-- The state in which a signed request's executor runs: its nonce is consumed (R198, R199). -/
def afterNonce (s : Machine.State) (r : Req) : Machine.State := s.updPort r.port (fun p => { p with nonce := none })

/-- The open handle slot that a request names (R212, R213). -/
def slotAt (s : Machine.State) (r : Req) : Machine.HSlot := s.slot (s.slotOf r)

/-- A frame of a manager to the worker's own address reaches it, and it runs: it takes the frame, which goes no further
(R311). -/
abbrev FrameReaches (s : Machine.State) (w : Nat) (h : WHdr) : Prop :=
  (s.wk w).runs = true ∧ h.dest = (s.wk w).addr ∧ h.dest ≠ 0

/-- A worker that runs and takes a WRITE to its address of this sender (R311, R344, R346). -/
abbrev WorkerTakes (s : Machine.State) (w : Nat) (h : WHdr) : Prop := FrameReaches s w h ∧ (s.wk w).accepts h = true

/-- The payload of a WRITE (R313). -/
def writeBody (h : WHdr) (kind index : Nat) (v : Word) : List Byte :=
  Machine.le 1 kind ++ Machine.zeros 1 ++ Machine.le 2 index ++ Machine.le 4 v.toNat ++ Machine.le 2 h.epoch

/-- Every WRITE command at worker `w`, with the kind and index of its frame (R313, R314). -/
def writesAt (w index : Nat) (v : Word) : List ((WHdr → Instr) × Nat × Nat) :=
  [(fun h => .writeParameter w h index v, 1, index), (fun h => .stationRefresh w h v, 2, 0), (fun h => .time w h v, 3, 1),
   (fun h => .balMask w h v, 3, 0x10), (fun h => .balRun w h v, 3, 0x11), (fun h => .impData w h index v, 3, index),
   (fun h => .impStartCommand w h v, 3, 0x2B), (fun h => .impStop w h v, 3, 0x2C), (fun h => .impRestart w h v, 3, 0x2D),
   (fun h => .flrMode w h v, 3, 0x30), (fun h => .flrTrig w h index v, 3, index), (fun h => .flrArm w h v, 3, 0x35),
   (fun h => .flrTick w h v, 3, 0x36), (fun h => .flrFire w h v, 3, 0x37), (fun h => .flrRelease w h v, 3, 0x38),
   (fun h => .shardData w h index v, 3, index), (fun h => .shardCommit w h v, 3, 0x118),
   (fun h => .slotData w h index v, 3, index), (fun h => .slotCommit w h v, 3, 0x12F)]

/-- A WRITE that reaches worker `w` is answered: the worker becomes `k`, and its ACK carries the status and value (R313). -/
def WriteDone (c : Instr) (s : Machine.State) (w : Nat) (h : WHdr) (status value : Nat) (k : Machine.Wk) : Prop :=
  Gives c s ((s.updWk w (fun _ => k)).wkAck w 5 h.seq status value)

/-- Worker `w` becomes `k`, and nothing else changes. -/
def WorkerBecomes (c : Instr) (s : Machine.State) (w : Nat) (k : Machine.Wk) : Prop :=
  Gives c s (s.updWk w (fun _ => k))

/-- A core whose slice is open with cycles left, its PC inside the instruction memory. -/
def CoreRuns (s : Machine.State) (c : Nat) : Prop := s.skReady c = true ∧ (s.core c).pc ≤ 8191

/-- A core's instruction completes: gd takes `w`, and the core goes on at PC + 1 after `cycles` (R753). -/
def CoreSets (i : Instr) (s : Machine.State) (c : Nat) (x : BitVec 26) (w : Machine.TWord) (cycles : Nat) : Prop :=
  Gives i s ((s.setReg c (Machine.xd x.toNat) w).skAdvance c ((s.core c).pc + 1) cycles false)

/-- A core's instruction completes at another PC, and writes no register. -/
def CoreGoes (i : Instr) (s : Machine.State) (c pc cycles : Nat) : Prop := Gives i s (s.skAdvance c pc cycles false)

/-- A core's instruction of opcode `op` traps with `code` (R765): the trap's draw of a free value, and then its action. -/
def CoreTraps (i : Instr) (s : Machine.State) (c op : Nat) (x : BitVec 26) (code : Nat) : Prop :=
  Gives i s (s.drawn.skTrap c code 0 (s.trapTags c op x.toNat))

/-- ga and gb of an instruction as the core holds them. -/
def wordA (s : Machine.State) (c : Nat) (x : BitVec 26) : Machine.TWord := s.reg c (Machine.xa x.toNat)
def wordB (s : Machine.State) (c : Nat) (x : BitVec 26) : Machine.TWord := s.reg c (Machine.xb x.toNat)

/-- The instruction word's bits outside `used` are 0 (R750). -/
def OnlyBits (x : BitVec 26) (used : Nat) : Prop := Machine.unusedZero x.toNat used = true

/-- The bytes of a request packet with reserved byte 0 (R160, R161). -/
def requestBytes (op seq flags handle : Nat) (payload : List Byte) : List Byte :=
  Machine.withCrc (Machine.le 1 0xF1 ++ Machine.le 1 op ++ Machine.le 2 seq ++ Machine.le 2 payload.length ++
    Machine.le 1 flags ++ Machine.le 1 0 ++ Machine.le 4 handle ++ payload)

/-- The request that a packet of these fields makes on port `p` (R160, R166). -/
def reqOf (s : Machine.State) (p op seq flags handle : Nat) (l : List Byte) (iface ip udp : Nat) : Req :=
  { port := p, seq := seq, flags := flags, rsv := 0, handle := handle, payload := l,
    crc := Machine.leAt (requestBytes op seq flags handle l) (12 + l.length) 4, tick := s.tick32, iface := iface, ip := ip,
    udp := udp, wdg := s.wdgSnap p }

/-- A packet of these fields is a request that port `p` has not executed yet, and the port's queue has room (R160, R164, R166,
R173). WDG_ANSWER, which acts as it arrives, is told apart (R290). -/
abbrev NewRequest (s : Machine.State) (p op seq flags handle : Nat) (l : List Byte) : Prop :=
  op < 256 ∧ op ≠ 0x70 ∧ seq < 65536 ∧ flags < 256 ∧ handle < 2 ^ 32 ∧ l.length ≤ 4096 ∧
  (s.port p).last.find? (fun e => e.1 == seq && e.2.1 == Machine.leAt (requestBytes op seq flags handle l) (12 + l.length) 4) =
    none ∧
  (s.cmd.queue.filter (fun q => q.req.port == p)).length < 64

/-- The command `c` receives that packet on port `p`: the request takes its place in the queue, in the clock cycle of the receipt
before it where `same` says so, and nothing executes yet (R164, R168). -/
def Queues (c : Instr) (s : Machine.State) (p op seq flags handle : Nat) (l : List Byte) (iface ip udp : Nat) (same : Bool) :
    Prop :=
  ∃ u : Machine.State, Gives c s u ∧
    u.cmd.queue = s.place ⟨op, reqOf s p op seq flags handle l iface ip udp, false,
      if Machine.signedOps.contains op && Machine.bit flags 1 then 1 else 0, s.cmd.cycle + (if same then 0 else 1), false, false, none⟩ s.cmd.queue ∧
    u.params = s.params ∧ u.out = s.out ∧ u.hdl = s.hdl ∧ u.evt = s.evt ∧ u.nvm = s.nvm ∧ u.sys = s.sys

/-- The state in which CONFIG_LOAD checks the slots or the halves: it has run (R83). -/
def atLoad (s : Machine.State) : Machine.State := { s with sys := { s.sys with loaded := true } }

/-- Every parameter outside `l` holds what it held. -/
def SameParams (s u : Machine.State) (l : List Nat) : Prop := ∀ a, a ∉ l → u.p a = s.p a

/-- A reset with cause bit `c` (R110, R111, R115, R785): the start of a fuse load, with RST_CAUSE `c` recorded; fuses, flash,
journal, user area, RTC and tick counter keep; outputs are off, no event is latched, no handle open, no ring enumerated; a
parameter that the island keeps and that is not in `l` keeps its word, and any other has its reset word. -/
def Resets (s t : Machine.State) (c : Nat) (l : List Nat) : Prop :=
  t.sys = Machine.Sys.start ∧ t.pb 0x0105 c = true ∧ t.island.count = s.island.count ∧ t.island.rtc = s.island.rtc ∧
  t.island.wdgKept = none ∧
  t.nvm.fuses = s.nvm.fuses ∧ t.nvm.flash = s.nvm.flash ∧ t.nvm.journal = s.nvm.journal ∧ t.nvm.user = s.nvm.user ∧
  t.wks = s.wks ∧ t.pending = s.pending ∧ t.out = Machine.Outs.start ∧ t.evt = Machine.Evt.start ∧
  t.hdl = Machine.Hdl.start ∧ t.cmd = Machine.Cmd.start ∧ t.flue = Machine.Flue.start ∧ t.wdg = Machine.Wdg.start ∧
  t.cores = [] ∧
  (∀ a, Machine.keptParam false a = false → t.p a = (Machine.paramReset a).toNat) ∧
  (∀ a, Machine.keptParam false a = true → a ≠ 0x0105 → a ∉ l → t.p a = s.p a)

end Sys2Proof
end

