-- ==== Sys2Proof/Certificates/Slice0/Obligations.lean ====
section
/-! DEFINITION. The statements for the provers, about every family of commands and every kind of state. -/

open Sys2Proof Sys2Proof.Machine

/-- The queue is first in, first out: the front command runs on the state with the queue's rest, and an empty queue idles
(assumption log 1). -/
def Obligations.StepRunsTheFrontCommand : Prop :=
  (∀ (s : State) (c : Instr) (r : List Instr), s.pending = c :: r → step s = exec c { s with pending := r }) ∧
  (∀ s : State, s.pending = [] → step s = .next s)

/-- No command is ever refused, and only a supply above 58 V stops the model with a fault: VBAT_POWER_ON, FUSE_LOAD_DONE,
THERMAL_HOLD_END, RAIL_SENSE_LOST, OV_COAST_ENTRY and SAMPLE_INSTANT (R818). -/
def Obligations.OnlySupplyAboveRatingStops : Prop :=
  (∀ (s : State) (c : Instr) (e : Refusal), exec c s ≠ .refused e) ∧
  (∀ (s : State) (c : Instr) (e : Fault), exec c s = .fault e ↔ e = .outsideRatings ∧
    ∃ mv, 58000 < mv ∧ (c = .vbatPowerOn mv ∨ (∃ us, c = .fuseLoadDone mv us) ∨ (∃ us, c = .thermalHoldEnd mv us) ∨
      (∃ rail, c = .railSenseLost rail mv) ∨
      c = .ovCoastEntry mv ∨ ∃ m ws, c = .sampleInstant m ws ∧ m.vbat = mv))

/-- No step leaves an entry to Doused outstanding (R268): from a state with none outstanding, every next state has none. -/
def Obligations.EveryStepLeavesNoDouseOutstanding : Prop :=
  ∀ s t : State, NoDouseDue s → step s = .next t → NoDouseDue t

/-- The state after reset has no entry to Doused outstanding. -/
def Obligations.ResetHasNoDouseOutstanding : Prop := NoDouseDue State.reset

/-- The state right after POR (R49, R53, R67, R785): fuse load, the tick counter and the RTC at 0, no island record, and every
parameter at its reset word. The values the spec does not give at reset are the model's (logs 10 to 16). -/
def Obligations.ResetIsFuseLoadAfterPor : Prop :=
  State.reset.sys.phase = .fuseLoad ∧ State.reset.tick = 0 ∧ State.reset.island.rtc = 0 ∧ State.reset.island.recs = [] ∧
  (∀ a, State.reset.p a = (paramReset a).toNat) ∧ State.reset.pending = [] ∧
  (∀ n, State.reset.pb (hsStat n) 0 = bit (paramReset (hsStat n)).toNat 0)

/-- What the end of a command's effect does (R268, R269): an outstanding DOUSE takes the manager into Doused with every
contactor open; without one, and outside a Kindling with a douse pending, nothing happens. -/
def Obligations.DouseEntryOpensContactors : Prop :=
  (∀ s : State, s.evt.douse = true → s.settle.sys.phase = .doused ∧ contactorsOpen s.settle = true) ∧
  (∀ s : State, s.evt.douse = false → (s.sys.phase = .kindling → s.sys.dousePend = false) → s.settle = s)

/-- Power-on and brown-out (R53, R112, R785), and the debugger (R74): POR starts a fuse load with the island lost and the
parameters at their reset words, while fuses, flash, journal and user area keep. -/
def Obligations.PowerOnAndBrownout : Prop :=
  (∀ (s : State) (mv : Nat), s.sys.phase = .cold → mv ≤ 58000 →
    ∃ t : State, exec (.vbatPowerOn mv) s = .next t ∧ t.sys = Sys.start ∧ t.island = Island.por ∧ t.params = [] ∧
      t.nvm.fuses = s.nvm.fuses ∧ t.nvm.flash = s.nvm.flash ∧ t.nvm.journal = s.nvm.journal ∧ t.nvm.user = s.nvm.user ∧
      t.wks = s.wks ∧ t.pending = s.pending) ∧
  (∀ s : State, s.sys.phase ≠ .cold →
    ∃ t : State, exec .vbatBrownout s = .next t ∧ t.sys.phase = .cold ∧ t.island = Island.por ∧ t.params = [] ∧
      t.nvm.fuses = s.nvm.fuses ∧ t.nvm.flash = s.nvm.flash ∧ t.nvm.journal = s.nvm.journal ∧ t.nvm.user = s.nvm.user ∧
      t.wks = s.wks ∧ t.pending = s.pending) ∧
  (∀ (s : State) (b : Bool), ∃ u : State, Gives (.debuggerAttach b) s u ∧ u.debugger = b ∧ u = { s with debugger := b })

/-- Fuse load and rail sequencing (R52, R70, R134 to R137): the fuses are the OR of both copies, sequencing waits for 6.0 V and a
cool die, and each rail that is good brings the next one, the last one Kindling. The RTC counts on through all of it. -/
def Obligations.FuseLoadAndSequencing : Prop :=
  (∀ (s : State) (mv us : Nat), s.sys.phase = .fuseLoad → s.sys.rails = [] → NoDouseDue s → mv ≤ 58000 →
    ∃ t : State, exec (.fuseLoadDone mv us) s = .next t ∧ t.sys.phase = .sequencing ∧ t.sys.fuseRead = s.nvm.fuseOr ∧
      t.sys.rails = (if mv < 6000 ∨ s.island.thermalHold = true then [] else [(t.seqStep 0).1]) ∧
      t.nvm = s.nvm ∧ t.island = (s.rtcUs us).island) ∧
  (∀ (s : State) (us : Nat), s.sys.phase = .sequencing → s.sys.rails = [] → NoDouseDue s →
    ∃ t : State, exec (.vbatSequencingThreshold us) s = .next t ∧ t.sys.phase = .sequencing ∧ t.sys.seqWait = false ∧
      t.sys.rails = (if s.island.thermalHold then [] else [(s.seqStep 0).1]) ∧ t.params = s.params ∧
      t.island = (s.rtcUs us).island) ∧
  (∀ (s : State) (mv us : Nat), s.sys.phase = .sequencing → s.sys.rails = [] → NoDouseDue s → mv ≤ 58000 →
    ∃ t : State, exec (.thermalHoldEnd mv us) s = .next t ∧ t.island = { (s.rtcUs us).island with thermalHold := false } ∧
      t.sys.rails = (if mv < 6000 then [] else [(s.seqStep 0).1]) ∧ t.params = s.params) ∧
  (∀ (s : State) (r us : Nat) (l : List Nat), s.sys.phase = .sequencing → s.sys.rails = r :: l → s.sys.step < 5 →
    NoDouseDue s →
    ∃ t : State, exec (.railSenseGood r us) s = .next t ∧ t.sys.phase = .sequencing ∧ t.sys.step = s.sys.step + 1 ∧
      t.sys.rails = (s.seqStep (s.sys.step + 1)).1 :: r :: l ∧ t.params = s.params ∧ t.island = (s.rtcUs us).island) ∧
  (∀ (s : State) (r us : Nat) (l : List Nat), s.sys.phase = .sequencing → s.sys.rails = r :: l → s.sys.step = 5 →
    Gives (.railSenseGood r us) s (s.rtcUs us).enterKindling) ∧
  (∀ (s : State) (us : Nat), (s.rtcUs us).island.rtc = (s.island.rtc + (s.island.rtcUs + us) / 1000000) % 2 ^ 32 ∧
    (s.rtcUs us).island.rtcUs = (s.island.rtcUs + us) % 1000000)

/-- A rail fault (R132, R138 to R141, R143, R145, R146, R158): a window that expires, or a sense lost in operation, is recorded
with its step, rail and kind; the rails rest, or, with the retries used up, the manager goes into Cold-hold; a rest leads
to fuse load with RAIL_FAIL and one retry more, and Cold-hold ends by RETRY_RAILS with the retries cleared. -/
def Obligations.RailFaultsRestRetryAndHold : Prop :=
  (∀ (s : State) (r : Nat) (l : List Nat), s.sys.phase = .sequencing → s.sys.rails = r :: l →
    ∃ t : State, exec .railWindowExpired s = .next t ∧ t.sys.phase = (if s.pf 0x0302 8 3 = s.railN then .coldHold else .rest) ∧
      t.pf 0x0302 0 3 = s.sys.step % 8 ∧ t.pf 0x0302 3 3 = r % 8 ∧ t.pf 0x0302 6 2 = 1 ∧ t.sys.rails = [] ∧
      t.island.recs.map (·.ev) = s.island.recs.map (·.ev) ++ (if s.pf 0x0302 8 3 = s.railN then [54, 55] else [54])) ∧
  (∀ (s : State) (rail mv : Nat), s.sys.phase = .lit → 1 ≤ rail → rail < 6 → 4800 < mv → mv ≤ 58000 →
    ∃ t : State, exec (.railSenseLost rail mv) s = .next t ∧
      t.sys.phase = (if s.pf 0x0302 8 3 = s.railN then .coldHold else .rest) ∧
      t.pf 0x0302 3 3 = rail ∧ t.pf 0x0302 6 2 = 2 ∧ t.sys.rails = []) ∧
  (∀ s : State, s.sys.phase = .rest →
    ∃ t : State, exec .railRestEnd s = .next t ∧ t.sys.phase = .fuseLoad ∧ t.pb 0x0105 8 = true ∧
      t.pf 0x0302 8 3 = Nat.min (s.pf 0x0302 8 3 + 1) 7) ∧
  (∀ s : State, s.awake = true → s.sys.railClock = true →
    ∃ u : State, Gives .railRetryClear s u ∧ u.pf 0x0302 8 3 = 0 ∧ u.sys.railClock = false ∧
      (∀ a, a ≠ 0x0302 → u.p a = s.p a) ∧ u.out = s.out ∧ u.nvm = s.nvm) ∧
  (∀ (s : State) (dt : Nat), s.sys.phase = .coldHold →
    ∃ t : State, exec (.retryRails dt) s = .next t ∧ t.sys.phase = .fuseLoad ∧ t.pf 0x0302 8 3 = 0 ∧ t.pb 0x0302 12 = true ∧
      t.island.rtc = (s.island.rtc + dt) % 2 ^ 32)

/-- The resets (R110, R111, R113, R115): THERMAL_RESET sets cause bit 5 and holds the rails off, PIN_RESET of 10 µs sets bit 4,
one of 2 µs does nothing and one between may do either, and a reset due at the end of a Commit sets its own bit. -/
def Obligations.ResetsRecordTheirCause : Prop :=
  (∀ s : State, (s.awake = true ∨ s.sys.phase = .sequencing) →
    ∃ t : State, exec .thermalReset s = .next t ∧ Resets s t 5 [] ∧ t.island.thermalHold = true) ∧
  (∀ (s : State) (us : Nat), s.sys.phase ≠ .cold → 10 ≤ us → ∃ t : State, exec (.pinReset us) s = .next t ∧ Resets s t 4 []) ∧
  (∀ (s : State) (us : Nat), us ≤ 2 → Gives (.pinReset us) s s) ∧
  (∀ (s : State) (us : Nat), s.sys.phase ≠ .cold → 2 < us → us < 10 →
    ∃ t : State, exec (.pinReset us) s = .next t ∧ (Resets s t 4 [] ∨ t = s.drawn.settle)) ∧
  (∀ (s : State) (c : Nat), s.sys.resetDue = [c] → c < 32 →
    ∃ t : State, exec .endOfCommitReset s = .next t ∧ Resets s t c []) ∧
  (∀ s : State, s.sys.resetDue = [] → Gives .endOfCommitReset s s)

/-- A collapse (R127 to R130, R142, R158, R825): in every state with a supply, the collapse counter steps and saturates, the
island keeps a record of EV56 with the cause, and the part resets with cause bit 1. A rail fault of the same tick or step counts
as part of the collapse: its record goes, and PWR.SEQSTAT and the cause of the last reset stand as before it (log 20). The
mirror write that a collapse cuts off leaves a slot that is not good (R128, R469). A collapse that follows a crystal stop before
fuse load ends is one with it: it gives the record its cause and counts nothing (R830, read as the model reads "the same tick":
the model's choice, log 19). -/
def Obligations.CollapsesAreCountedAndRecorded : Prop :=
  (∀ (s : State) (cause : Nat) (joint : Bool), s.sys.phase ≠ .cold → s.crystalReset = false →
    (joint = false ∨ s.sys.fault = none) → (cause = 0 ∨ (cause = 1 ∧ s.awake = true)) →
    ∃ t : State, exec (.collapse cause joint none) s = .next t ∧ Resets s t 1 [0x0301] ∧
      t.pf 0x0301 16 16 = Nat.min (s.pf 0x0301 16 16 + 1) 65535 ∧ t.pf 0x0301 0 16 = s.pf 0x0301 0 16 ∧
      t.island.recs = s.island.recs ++ [⟨56, detail (le 1 cause), s.island.rtc⟩]) ∧
  (∀ (s : State) (cause : Nat) (u : RailUndo), s.sys.phase ≠ .cold → s.crystalReset = false → s.sys.fault = some u → cause < 2 →
    ∃ t : State, exec (.collapse cause true none) s = .next t ∧ t.sys = Sys.start ∧ t.pb 0x0105 1 = true ∧
      t.pb 0x0105 8 = bit u.cause 8 ∧ t.p 0x0302 = u.seqstat % 2 ^ 32 ∧
      t.pf 0x0301 16 16 = Nat.min (s.pf 0x0301 16 16 + 1) 65535 ∧
      t.p 0x2843 = u.ref0 % 2 ^ 32 ∧ t.p 0x2844 = u.ref1 % 2 ^ 32 ∧
      t.island.recs = u.island.recs ++ [⟨56, detail (le 1 cause), s.island.rtc⟩]) ∧
  (∀ (s : State) (n : Nat) (a : AccSlot), n < 8 → s.awake = true → s.sys.tph = 6 → (s.inst n).mirTick = some s.tick →
    newerSlot (s.inst n).m0 (s.inst n).m1 = some a →
    ∃ t : State, exec (.collapse 0 false (some n)) s = .next t ∧ Resets s t 1 [0x0301] ∧ n ∈ t.nvm.mirCut ∧
      (∀ b, (if a.seq % 2 = 0 then (t.inst n).m0 else (t.inst n).m1) = some b → b.good = false)) ∧
  (∀ (s : State) (cause : Nat) (joint : Bool) (cut : Option Nat), s.crystalReset = true → cause < 2 → s.evt.douse = false →
    ∃ t : State, exec (.collapse cause joint cut) s = .next t ∧ t = { s with island := t.island } ∧
      t.island = { s.island with recs := s.island.recs.dropLast ++ [⟨56, detail (le 1 cause), s.island.rtc⟩] }) ∧
  (∀ (s : State) (joint : Bool), s.awake = true → (joint = false ∨ s.sys.fault = none) →
    ∃ t : State, exec (.crystalStop joint) s = .next t ∧ Resets s t 1 [0x0301] ∧
      t.pf 0x0301 16 16 = Nat.min (s.pf 0x0301 16 16 + 1) 65535 ∧
      t.island.recs = s.island.recs ++ [⟨56, detail (le 1 2), s.island.rtc⟩]) ∧
  (∀ (s : State) (u : RailUndo), s.sys.phase ≠ .cold → s.sys.fault = some u → u.ticking = true →
    ∃ t : State, exec (.crystalStop true) s = .next t ∧ t.sys = Sys.start ∧ t.pb 0x0105 8 = bit u.cause 8 ∧
      t.p 0x0302 = u.seqstat % 2 ^ 32 ∧ t.island.recs = u.island.recs ++ [⟨56, detail (le 1 2), s.island.rtc⟩]) ∧
  (∀ (s : State) (mv : Nat), s.awake = true → mv ≤ 58000 →
    ∃ t : State, exec (.railSenseLost 0 mv) s = .next t ∧ Resets s t 1 [0x0301] ∧
      t.island.recs = s.island.recs ++ [⟨56, detail (le 1 1), s.island.rtc⟩])

/-- Bring-up in Kindling (R49, R59, R63, R76, R77, R279, R304, R515): the first tick takes the tick counter's next value, 0 after POR,
or the source's for a manager that follows one, sends a twin's BEAT, and starts the hardware-started watchdog; manager B is a follower, any other
manager the source unless it follows a running partner; the ROM boot then ends, and the rings in use train at one-eighth rate.
That B follows before it has heard A is the model's reading (log 128). -/
def Obligations.KindlingBringUp : Prop :=
  (∀ (s : State) (us : Nat), s.sys.phase = .kindling → s.sys.pll = false →
    ∃ u : State, Gives (.pllLock us) s u ∧ u.sys = { s.sys with pll := true, tph := 1 } ∧
      u.island.count = (match s.part.follow with
        | some n => n % 2 ^ 48
        | none => if s.island.fresh then s.island.count else (s.island.count + 1) % 2 ^ 48) ∧
      u.island.fresh = false ∧ u.part.follow = none ∧ u.island.rtc = (s.rtcUs us).island.rtc ∧
      (s.role = 2 ∧ s.pf 0x0206 0 2 = 0 →
        u.pf 0x0206 0 2 = (if s.pb 0x1905 0 then 1 else 2) ∧ u.pb 0x0203 0 = false) ∧
      (¬(s.role = 2 ∧ s.pf 0x0206 0 2 = 0) → u.pb 0x0203 0 = (s.pf 0x0206 0 2 == 0)) ∧
      u.pb 0x0703 20 = (s.pb 0x0703 20 || (s.sys.fuseRead.getLsbD 0x46B && s.island.wdgKept.isNone)) ∧
      (s.role = 0 → u.sent = s.sent) ∧
      (s.role ≠ 0 → ∃ b, u.sent = { s.sent with part := s.sent.part ++ [(0x11, b)] } ∧
        leAt b 1 6 = u.island.count % 2 ^ 48 ∧ fld (leAt b 8 1) 2 1 = u.pf 0x0203 0 1) ∧
      u = { s with sys := u.sys, island := u.island, part := u.part, params := u.params, wdg := u.wdg, sent := u.sent } ∧
      SameParams s u [0x0203, 0x0206, 0x0703]) ∧
  (∀ s : State, s.sys.phase = .kindling → s.sys.rom = false →
    ∃ u : State, Gives .romBootDone s u ∧ u.sys = { s.sys with rom := true } ∧
      (∀ r, r < 4 → s.pb 0x1000 r = true → u.pb (0x1004 + r) 22 = true) ∧
      (∀ r, r < 4 → s.pb 0x1000 r = false → u.p (0x1004 + r) = s.p (0x1004 + r)) ∧
      u = { s with sys := u.sys, params := u.params } ∧ SameParams s u [0x1004, 0x1005, 0x1006, 0x1007])

/-- Enumeration (R330, R331, R351): a closed ring of `n` workers, found by the SOLO manager or manager A, is held with its
workers, their serials and roles in order from address 1; manager B enumerates from its own end without the
partner's link, and with it, hearing no ENUM, counts the far segment of a broken ring (the model's reading, log 193). -/
def Obligations.EnumerationHoldsTheWorkers : Prop :=
  (∀ (s : State) (f : RingFound), s.sys.phase = .kindling → s.sys.rom = true → s.role ≠ 2 →
    s.ringOn f.ring = true → (s.ring f.ring).cal = 0 → f.closed = true → f.overflow = false → f.serials.length ≤ 63 →
    ∃ u : State, Gives (.ringEnumeration [f]) s u ∧ (u.ring f.ring).serials = f.serials ∧
      u.pf (ringStat f.ring) 0 6 = f.serials.length ∧ u.pb (ringStat f.ring) 6 = false ∧
      (∀ k, k < f.serials.length → (u.view (wKey f.ring (k + 1))).here = true ∧
        (u.view (wKey f.ring (k + 1))).serial = nth 0 f.serials k ∧
        (u.view (wKey f.ring (k + 1))).meter = (nth 0 f.roles k == 1)) ∧
      u.nvm = s.nvm ∧ u.out = s.out ∧ u.wks = s.wks) ∧
  (∀ (s : State) (f : RingFound), s.sys.phase = .kindling → s.sys.rom = true → s.role = 2 → s.linkUp = false →
    s.ringOn f.ring = true → (s.ring f.ring).cal = 0 → (s.ring f.ring).far = none → f.overflow = false →
    f.serials.length ≤ 63 →
    ∃ u : State, Gives (.enumFromB f) s u ∧ (u.ring f.ring).serials = f.serials ∧
      u.pf (ringStat f.ring) 0 6 = f.serials.length ∧
      (∀ k, k < f.serials.length → (u.view (wKey f.ring (k + 1))).here = true ∧
        (u.view (wKey f.ring (k + 1))).serial = nth 0 f.serials k) ∧
      u.nvm = s.nvm ∧ u.out = s.out ∧ u.wks = s.wks) ∧
  (∀ (s : State) (f : RingFound), s.sys.phase = .kindling → s.sys.rom = true → s.role = 2 → s.linkUp = true →
    f.ring < 4 → s.ringOn f.ring = true → (s.ring f.ring).cal = 0 → (s.ring f.ring).far = none → (s.ring f.ring).joined = false →
    ∃ u : State, Gives (.enumFromB f) s u ∧ (u.ring f.ring).far = some f.serials.length ∧ u.pb (ringStat f.ring) 6 = true ∧
      u.holds (2 + f.ring) = true)

/-- CONFIG_LOAD (R83 to R85, R93, R101, R102, R114): it runs once enumeration has ended. On the cold path two bad slots leave the
image as it is, with EV62; else the body of a slot that passes every check takes effect, the newer of two, SYS.BOOTSTAT and
SYS.CFGVER name it, and its copy to the other half of the shadow begins, or that half holds it already. The copy ends with the
next tick's start (the model's choice, log 141); a reset that abandons it leaves a half that fails verification. On the
warm path two bad halves reset the part with cause bit 7, and else a good half serves. -/
def Obligations.ConfigurationLoads : Prop :=
  (∀ (s : State) (st : List WkStored), s.sys.phase = .kindling → s.sys.rom = true → s.ringsFound = true → s.sys.loaded = false →
    s.sys.warm = false →
    ∃ u : State, Gives (.configLoad st) s u ∧ u.sys.loaded = true ∧
      (((atLoad s).checkSlot 0).1 ≠ 0 → (((atLoad s).checkSlot 0).2.checkSlot 1).1 ≠ 0 →
        u.sys.image = s.sys.image ∧ u.pb 0x0107 8 = true ∧ u.latched 62 = true ∧ u.nvm = s.nvm) ∧
      (((atLoad s).checkSlot 0).1 = 0 ∨ (((atLoad s).checkSlot 0).2.checkSlot 1).1 = 0 →
        ∃ k half, k = (if (((atLoad s).checkSlot 0).2.checkSlot 1).1 = 0 ∧ (((atLoad s).checkSlot 0).1 ≠ 0 ∨
            (s.slotImage 0).version < (s.slotImage 1).version) then 1 else 0) ∧
          half = (match s.copyEnd.nvm.shadowCur with
            | some h => 1 - h
            | none => 0) ∧
          u.sys.image = some (Config.decodeBody (s.slotImage k).body) ∧ u.p 0x0108 = (s.slotImage k).version ∧
          u.pb 0x0106 2 = (k == 1) ∧ u.nvm.flash = s.nvm.flash ∧
          ((u.sys.copying = some ⟨k, half, Mem.bytes 0xFF#8 s.nvm.flash (0x40000 * k) (s.slotImage k).len⟩ ∧
              u.nvm.shadowCur = s.copyEnd.nvm.shadowCur) ∨
            (u.sys.copying = none ∧ u.nvm.shadowCur = some half)))) ∧
  (∀ (s : State) (c : ShCopy), s.ticking = true → s.sys.copying = some c →
    ∃ u : State, Gives .tickStart s u ∧ u.sys.copying = none ∧ u.nvm.shadowCur = some c.half ∧ c.half ∉ u.nvm.torn ∧
      u.nvm.shadow = Mem.write 0#8 s.nvm.shadow (0x40000 * c.half) c.bytes) ∧
  (∀ (s : State) (c : ShCopy) (us : Nat), s.sys.phase ≠ .cold → 10 ≤ us → s.sys.copying = some c →
    ∃ t : State, exec (.pinReset us) s = .next t ∧ c.half ∈ t.nvm.torn ∧ t.checkHalf c.half ≠ 0 ∧ t.sys.copying = none ∧
      t.nvm.shadowCur = s.nvm.shadowCur) ∧
  (∀ (s : State) (st : List WkStored), s.sys.phase = .kindling → s.sys.rom = true → s.ringsFound = true → s.sys.loaded = false →
    s.sys.warm = true →
    ∃ u : State, Gives (.configLoad st) s u ∧
      ((atLoad s).checkHalf 0 ≠ 0 → (atLoad s).checkHalf 1 ≠ 0 → Resets s u 7 []) ∧
      ((atLoad s).checkHalf 0 = 0 ∨ (atLoad s).checkHalf 1 = 0 → ∃ k, k < 2 ∧ (atLoad s).checkHalf k = 0 ∧
        u.sys.loaded = true ∧ u.sys.image = some (Config.decodeBody (s.halfImage k).body) ∧
        u.p 0x0108 = (s.halfImage k).version ∧ u.nvm.shadow = s.nvm.shadow ∧ u.nvm.shadowCur = some k))

/-- RELEASE_TO_LIT (R34, R66, R68, R105 to R107, R219, R220): where the conditions of R105 hold, the command makes the release
due, and a shadow copy has ended; the station outputs are commanded what each worker's WRK.STNSAFE was read back as (R689). The
next tick's start enters Lit, or Doused where a douse is pending or was carried over Banked, with every handle closed and the
generation counters at the stored epoch, which is stored one higher; entering Lit trims the 32.768 kHz oscillator. -/
def Obligations.ReleaseEntersLitOrDoused : Prop :=
  (∀ (s : State) (recon : List ReconIn) (safe : List WkStored), s.mayRelease = true →
    ∃ u : State, Gives (.releaseToLit recon safe) s u ∧ u.sys.releaseDue = true ∧ u.sys.phase = .kindling ∧
      u.sys.copying = none ∧ u.hdl = s.hdl ∧ u.out = s.out ∧
      (∀ w x, w ∈ s.workers → safe.find? (fun x => wKey x.ring x.addr == w && x.index == 0x49) = some x →
        (u.view w).cmd = x.value)) ∧
  (∀ s : State, s.ticking = true → s.sys.phase = .kindling → s.sys.releaseDue = true → s.reconReady = false →
    ∃ u : State, Gives .tickStart s u ∧ u.sys.phase = .kindling ∧ u.sys.releaseDue = false ∧ u.hdl.slots = s.hdl.slots) ∧
  (∀ s : State, s.ticking = true → s.sys.phase = .kindling → s.sys.releaseDue = true → s.reconReady = true →
    ∃ u : State, Gives .tickStart s u ∧ (u.sys.phase = .lit ∨ u.sys.phase = .doused) ∧
      (s.sys.dousePend = true ∨ (s.sys.warm = true ∧ s.nvm.bankedDoused = true) → u.sys.phase = .doused) ∧
      (u.sys.phase = .lit → u.island.oscTrim.isSome = true) ∧
      u.sys.lastWarm = s.sys.warm ∧ u.sys.dousePend = false ∧ u.sys.releaseDue = false ∧ u.nvm.bankedDoused = false ∧
      u.hdl.slots = [] ∧ u.nvm.epoch = (u.hdl.base + 1) % 1024)

/-- HS undervoltage and its staged restart (R120 to R122, R126): every load switch goes off and is held off, then the channels
return in three groups, HS00 to HS07, HS08 to HS23, HS24 to HS39. -/
def Obligations.UndervoltageAndStagedRestart : Prop :=
  (∀ s : State, s.awake = true → s.uvOn = false →
    ∃ u : State, Gives .hsUndervoltage s u ∧ u.uvOn = true ∧ u.pb 0x0300 17 = false ∧
      u.pf 0x0301 0 16 = Nat.min (s.pf 0x0301 0 16 + 1) 65535 ∧ u.holds 24 = true ∧
      ∀ n, n < 40 → u.pb (hsStat n) 0 = false ∧ (u.hs n).uvOff = true) ∧
  (∀ s : State, s.awake = true → s.uvOn = true →
    ∃ u : State, Gives .hsUvRestart s u ∧ u.uvOn = false ∧ u.pb 0x0300 17 = true ∧ u.sys.uvStep = 2 ∧ u.holds 24 = false ∧
      (∀ n, n < 8 → (u.hs n).uvOff = false) ∧ (∀ n, 8 ≤ n → n < 40 → u.hs n = s.hs n)) ∧
  (∀ s : State, s.awake = true → s.pb 0x0300 17 = true → s.sys.uvStep = 2 →
    ∃ u : State, Gives .hsRestartStep s u ∧ u.sys.uvStep = 3 ∧ (∀ n, 8 ≤ n → n < 24 → (u.hs n).uvOff = false) ∧
      (∀ n, 24 ≤ n → n < 40 → u.hs n = s.hs n)) ∧
  (∀ s : State, s.awake = true → s.pb 0x0300 17 = true → s.sys.uvStep = 3 →
    ∃ u : State, Gives .hsRestartStep s u ∧ u.sys.uvStep = 4 ∧ (∀ n, 24 ≤ n → n < 40 → (u.hs n).uvOff = false) ∧
      (∀ n, n < 24 → u.hs n = s.hs n)) ∧
  (∀ s : State, s.awake = true → s.pb 0x0300 17 = true → s.sys.uvStep = 4 →
    ∃ u : State, Gives .hsRestartStep s u ∧ u.sys.uvStep = 0 ∧ u.pb 0x0300 17 = false ∧ u.out.hs = s.out.hs)

/-- Overvoltage coast (R117, R660), and the external reference (R35, R36): bridges and motors coast and resume, load switches
stay as they are; a lost reference breaks each ring in use. -/
def Obligations.OvervoltageCoastAndExternalReference : Prop :=
  (∀ (s : State) (mv : Nat), s.awake = true → s.ovOn = false → mv ≤ 58000 →
    ∃ t : State, Gives (.ovCoastEntry mv) s t ∧ t.ovOn = true ∧ t.out.hs = s.out.hs ∧ t.out.vlv = s.out.vlv ∧
      (∀ b, b < 8 → (s.hb b).move.isSome = true → (t.hb b).held = (s.hb b).move ∧ (t.hb b).move = none ∧ t.hbState b = 0) ∧
      (∀ m, m < 4 → t.motState m = 7 ∨ t.motState m = 0)) ∧
  (∀ s : State, s.ovOn = true →
    ∃ u : State, Gives .ovCoastExit s u ∧ u.ovOn = false ∧ u.out.hs = s.out.hs ∧
      (s.uvOn = false → ∀ b m, b < 8 → (s.hb b).held = some m → (u.hb b).move = some m ∧ u.hbState b = m.dir % 8) ∧
      (s.uvOn = false → s.pb 0x0300 17 = false → ∀ m, m < 4 → s.motState m ≠ 7 → (s.mot m).held = true →
        u.motState m = 1)) ∧
  (∀ s : State, s.full = true → s.pb 0x0102 0 = true →
    Gives .extRefLockTimeout s ((s.setPb 0x0102 1 false).mapSys (fun y => { y with serdes := 1 }))) ∧
  (∀ s : State, s.full = true → s.pb 0x0102 0 = true →
    ∃ u : State, Gives .extRefLost s u ∧ u.pb 0x0102 1 = false ∧ u.sys.serdes = 1 ∧ u.out = s.out ∧ u.nvm = s.nvm ∧
      ∀ r, s.ringOn r = true → s.pf (ringStat r) 0 6 ≠ 0 → u.pb (ringStat r) 6 = true ∧
        (s.pb (ringStat r) 6 = false → u.pf (0x1008 + r) 16 8 = Nat.min (s.pf (0x1008 + r) 16 8 + 1) 255))

/-- Sleep entry and waking (R33, R68, R104, R152 to R155, R159, R671, R672, R718): Banked keeps whether it was entered from Doused
and the workers seen, and stops the crystal and both PLLs; an enabled wake source starts the warm path with EV37 for the journal
and a cold restart from Cold-hold, and in fuse load, sequencing and the rest is latched alone; a disabled one lets time pass only;
the RTC wake timer runs once in Banked, at a PWR.RTCWAKE that is not 0. What Banked keeps of a douse is the model's choice (logs 23
and 24). -/
def Obligations.BankedAndWaking : Prop :=
  (∀ s : State, s.full = true → s.sys.sleeping ≠ 0 →
    ∃ t : State, exec .sleepEntry s = .next t ∧ t.sys.sleeping = 0 ∧ t.sys.pll = false ∧ t.sys.rails = [] ∧
      t.sys.phase = (if s.sleepRest.turfsDue.settle.island.wakePend then .fuseLoad else .banked) ∧
      (t.sys.phase = .fuseLoad → t.sys = { Sys.start with warm := true }) ∧
      (t.sys.phase = .banked → t.sys.crystal = false ∧ t.sys.serdes = 0 ∧ t.pb 0x0102 1 = false ∧ t.island.rtcRun = true ∧
        t.nvm.bankedDoused = (s.sleepRest.turfsDue.settle.sys.phase == .doused) ∧ t.island.bankedS = 0 ∧
        t.nvm.seen = (List.range 4).map (fun r => (r, (s.sleepRest.turfsDue.settle.ring r).serials)))) ∧
  (∀ (s : State) (src dt : Nat), s.sys.phase = .banked → src < 6 → src ≠ 4 → s.pb 0x0303 src = true →
    ∃ t : State, exec (.wake src dt) s = .next t ∧ t.sys = { Sys.start with warm := true } ∧ t.pb 0x0304 src = true ∧
      t.island.rtc = (s.island.rtc + dt) % 2 ^ 32 ∧
      t.island.recs = s.island.recs ++ [⟨37, detail [], (s.island.rtc + dt) % 2 ^ 32⟩]) ∧
  (∀ (s : State) (src dt : Nat), s.sys.phase = .banked → s.pb 0x0303 src = false → src < 6 → src ≠ 4 →
    Gives (.wake src dt) s (s.idle dt)) ∧
  (∀ (s : State) (src dt : Nat), s.awake = true → s.sys.sleeping ≠ 0 → src < 6 → src ≠ 4 → s.pb 0x0303 src = true →
    ∃ u : State, Gives (.wake src dt) s u ∧ u.island.wakePend = true ∧ u.pb 0x0304 src = true ∧ u.sys = s.sys) ∧
  (∀ (s : State) (src dt : Nat), (s.sys.phase = .fuseLoad ∨ s.sys.phase = .sequencing ∨ s.sys.phase = .rest) → src < 6 →
    src ≠ 4 → s.pb 0x0303 src = true → Gives (.wake src dt) s ((s.idle dt).setPb 0x0304 src true)) ∧
  (∀ (s : State) (dt : Nat), s.sys.phase = .banked → s.pb 0x0303 4 = true → s.island.rtcRun = true → s.p 0x0305 ≠ 0 →
    s.p 0x0305 ≤ s.island.bankedS + dt →
    ∃ t : State, exec (.rtcWakeTimer dt) s = .next t ∧ exec (.wake 4 dt) s = .next t ∧
      t.sys = { Sys.start with warm := true } ∧ t.pb 0x0304 4 = true) ∧
  (∀ (s : State) (dt : Nat), s.awake = false → s.sys.phase ≠ .cold →
    s.island.rtcRun = false ∨ s.p 0x0305 = 0 ∨ s.island.bankedS + dt < s.p 0x0305 →
    Gives (.rtcWakeTimer dt) s (s.idle dt) ∧ Gives (.wake 4 dt) s (s.idle dt)) ∧
  (∀ (s : State) (dt : Nat), s.sys.phase = .banked → s.pb 0x0303 1 = true → s.island.napS ≤ dt →
    ∃ t : State, exec (.canwakeInput dt) s = .next t ∧ t.sys = { Sys.start with warm := true } ∧ t.pb 0x0304 1 = true) ∧
  (∀ (s : State) (dt : Nat), s.sys.phase = .banked ∨ s.sys.phase = .coldHold → dt < s.island.napS →
    ∃ u : State, Gives (.canwakeInput dt) s u ∧ u.sys = s.sys ∧ u.pf 0x300A 16 16 = Nat.min (s.pf 0x300A 16 16 + 1) 65535) ∧
  (∀ (s : State) (dt : Nat), s.sys.phase = .coldHold → s.island.napS ≤ dt →
    ∃ t : State, exec (.canwakeInput dt) s = .next t ∧ t.sys = Sys.start ∧ t.pf 0x0302 8 3 = 0) ∧
  (∀ s : State, Gives .napLockEnd s { s with island := { s.island with napS := 0 } }) ∧
  (∀ (s : State) (n dt : Nat) (mv : Int), s.sys.phase = .banked → s.pb 0x0303 0 = true → n < 64 → n ∈ s.island.wakeMask →
    s.swCont n = true → s.swRead n mv (s.island.raws.contains n) ≠ s.wakeRef n →
    ∃ t : State, exec (.switchWake n mv dt) s = .next t ∧ t.sys = { Sys.start with warm := true } ∧ t.pb 0x0304 0 = true ∧
      t.pb (0x2845 + n / 32) (n % 32) = true) ∧
  (∀ (s : State) (n dt : Nat) (mv : Int), s.sys.phase = .banked → s.pb 0x0303 0 = true → n < 64 → s.island.wakeMask = [n] →
    s.swCont n = false → s.swRead n mv (s.island.raws.contains n) ≠ s.wakeRef n →
    ∃ u : State, Gives (.bankedPoll [(n, mv)] dt) s u ∧
      (s.pf 0x2840 9 3 ≤ Tbl.get 0 s.island.polls n + 1 → u.sys = { Sys.start with warm := true } ∧ u.pb 0x0304 0 = true) ∧
      (Tbl.get 0 s.island.polls n + 1 < s.pf 0x2840 9 3 → u.sys = s.sys ∧ (u.sw n).wet = s.swWet n ∧
        Tbl.get 0 u.island.polls n = Tbl.get 0 s.island.polls n + 1 ∧
        (n ∈ u.island.raws ↔ s.swRead n mv (s.island.raws.contains n) = true)))

/-- The tick (R40, R44 to R47, R54 to R58, R167): TICK_START moves the tick counter and makes every waiting request due that no
signature holds back; each later command does its phase's work and leaves the phase recorded; the set instant leaves no winner
and the Commit no event that waits for the journal, and the island no record (R130, R143). -/
def Obligations.TickPhasesFollow : Prop :=
  (∀ s : State, s.ticking = true → s.part.follow = none → s.sys.releaseDue = false →
    ∃ u : State, Gives .tickStart s u ∧ u.sys.tph = 1 ∧
      u.island.count = (if s.island.fresh then s.island.count else (s.island.count + 1) % 2 ^ 48) ∧
      u.island.fresh = false ∧ u.cmd.intents = [] ∧
      ((∀ q ∈ s.cmd.queue, q.verif ≠ 1) → u.cmd.queue = (s.cmd.queue.filter (·.due)) ++
        ((s.cmd.queue.filter (fun q => !q.due)).map (fun q => { q with due := true })))) ∧
  (∀ (s : State) (m : MgrSample) (ws : List WkSample), s.ticking = true → m.vbat ≤ 58000 →
    ∃ u : State, Gives (.sampleInstant m ws) s u ∧ u.sys.tph = 2 ∧ u.pf 0x0300 0 16 = m.vbat ∧
      u.sampled = ⟨u.params, u.out, u.net⟩ ∧ u.nvm.fuses = s.nvm.fuses ∧ u.nvm.flash = s.nvm.flash) ∧
  (∀ (s : State) (count : Nat), s.ticking = true →
    Gives (.gatherEnd count) s
      ((((let s1 := (s.phaseTo 3).protect
          s1.each (s1.instances.filter (fun n => s1.full && 2 ≤ s1.instState n && s1.instState n != 5)) (fun t n => t.spanTick n)).swEvent.settle).slicesOpen).runDue
        count)) ∧
  (∀ s : State, s.ticking = true → ∃ u : State, Gives .intentClose s u ∧ u.sys.tph = 4) ∧
  (∀ s : State, s.ticking = true → ∃ u : State, Gives .setInstant s u ∧ u.sys.tph = 5 ∧ u.cmd.winners = []) ∧
  (∀ s : State, s.ticking = true → ∃ u : State, Gives .commitPhase s u ∧ u.sys.tph = 6 ∧ u.evt.occ = [] ∧ u.island.recs = [])

/-- Every queued request leaves in the order of receipt (R168): Compute executes the first due request, then those after it. -/
def Obligations.DueRequestsRunInOrder : Prop :=
  (∀ (s : State) (q : QItem) (l r : List QItem) (n : Nat), s.cmd.queue = l ++ q :: r → (∀ x ∈ l, x.due = false) → q.due = true →
    s.runDue (n + 1) =
      ((((s.mapCmd (fun m => { m with queue := l ++ r })).runReq q.op q.req (opExec q.op)).wdgJudged q).settle).runDue n) ∧
  (∀ (s : State) (n : Nat), (∀ x ∈ s.cmd.queue, x.due = false) → s.runDue n = s)

/-- Receipt (R160, R161, R164 to R166, R168, R173, R846): a right packet of a new request waits in the port's queue with its
fields, behind every request received before it, and within one clock cycle behind those of a higher rank; an answer to the
watchdog counts as received. A wrong CRC is answered 0x0100 and counted, a full queue 0x0204 with EV50; what does not begin with
0xF1 is counted alone. -/
def Obligations.ReceiptQueuesARequest : Prop :=
  (∀ (s : State) (p op seq flags handle iface ip udp : Nat) (l : List Byte), op < 256 → seq < 65536 → flags < 256 →
    handle < 2 ^ 32 → l.length ≤ 4096 →
    (s.port p).last.find? (fun e => e.1 == seq && e.2.1 == leAt (requestBytes op seq flags handle l) (12 + l.length) 4) = none →
    (s.cmd.queue.filter (fun q => q.req.port == p)).length < 64 →
    s.receive p (requestBytes op seq flags handle l) false iface ip udp =
      s.enqueue op (reqOf s p op seq flags handle l iface ip udp)) ∧
  (∀ (s : State) (p op seq flags handle iface ip udp : Nat) (l : List Byte), op < 256 → seq < 65536 → flags < 256 →
    handle < 2 ^ 32 → l.length ≤ 4096 →
    (s.port p).last.find? (fun e => e.1 == seq && e.2.1 == leAt (requestBytes op seq flags handle l) (12 + l.length) 4) = none →
    64 ≤ (s.cmd.queue.filter (fun q => q.req.port == p)).length →
    s.receive p (requestBytes op seq flags handle l) false iface ip udp =
      ((s.raise 50 []).incPf (portStat p) 8 8).pushOut p ⟨0, iface, ip, udp,
        replyBytes op seq 0x0204 ((s.raise 50 []).incPf (portStat p) 8 8).tick32 []⟩) ∧
  (∀ (s : State) (p iface ip udp : Nat) (l : List Byte) (more : Bool), l.length < 4 ∨ leAt l 0 1 ≠ 0xF1 →
    s.receive p l more iface ip udp = s.incPf (portStat p) 0 8) ∧
  (∀ (s : State) (p iface ip udp n : Nat) (l : List Byte), leAt l 0 1 = 0xF1 → leAt l 4 2 = n → n ≤ 4096 →
    l.length = 16 + n → crc32c (l.take (12 + n)) ≠ leAt l (12 + n) 4 →
    s.receive p l false iface ip udp = (s.incPf (portStat p) 0 8).pushOut p ⟨0, iface, ip, udp,
      replyBytes (leAt l 1 1) (leAt l 2 2) 0x0100 (s.incPf (portStat p) 0 8).tick32 []⟩) ∧
  (∀ (s : State) (op : Nat) (r : Req), (s.enqueue op r).cmd.queue =
    s.place ⟨op, r, false, if signedOps.contains op && bit r.flags 1 then 1 else 0, s.cmd.cycle, false, false,
      if s.startsPeriod op r then some (s.pf 0x0703 0 16) else none⟩ s.cmd.queue) ∧
  (∀ (s : State) (op : Nat) (r : Req), op ≠ 0x70 → (s.enqueue op r).wdg = s.wdg ∧ (s.enqueue op r).params = s.params) ∧
  (∀ (s : State) (q : QItem) (l : List QItem), (∀ x ∈ l, x.cycle ≠ q.cycle ∨ x.due = true ∨
      s.rankOf x.req.port ≤ s.rankOf q.req.port) → s.place q l = l ++ [q]) ∧
  (∀ (s : State) (q x : QItem) (l r : List QItem), (∀ y ∈ l, y.cycle ≠ q.cycle ∨ y.due = true ∨
      s.rankOf y.req.port ≤ s.rankOf q.req.port) → x.cycle = q.cycle → x.due = false →
    s.rankOf q.req.port < s.rankOf x.req.port → s.place q (l ++ x :: r) = l ++ q :: x :: r)

/-- A reply (R162, R169 to R171, R173, R175, R188, R190, R192, R193, R210): it takes its place after the replies that wait, leaves
at once where none waits, with the request's SEQ, the status and the tick, unless QUIET keeps a success back; the reply to an
output request, a refused one too, waits for the set instant; a full port drops its oldest packet. On Ethernet a packet leaves
from port 50741 or 50742 once its neighbour is known; on CAN one of several frames is under way until the Commit (the model's
choice, log 143). The four ports (R160, R164, R168, R183 to R196): SPI shifts the oldest waiting packet out while it takes
bytes in; a request packet in an SPI frame, a datagram, the last bytes of a CAN message on the port's identifier and a write of
the two-wire command window takes its place in the queue; earlier bytes of a CAN message are kept, and a message of several frames is
answered with flow control; a read of the command window takes the oldest packet out; CAN_ISOTP_TIMEOUT abandons the inbound or the
outbound message under way on the port's controller. -/
def Obligations.PortsReceiveAndReply : Prop :=
  (∀ (s : State) (op : Nat) (r : Req) (status : Nat) (payload : List Byte), (s.port r.port).slots = [] → outputOp op = false →
    (r.port = 0 ∨ r.port = 3) →
    (s.port r.port).out.length < 64 → bit r.flags 0 = false ∨ 0x100 ≤ status → status ≠ 0x0303 →
    ∃ u, u = s.answer op r status payload none ∧ (u.port r.port).slots = [] ∧
      (u.port r.port).out = (s.port r.port).out ++ [⟨0, r.iface, r.ip, r.udp,
        withCrc (le 1 0xF2 ++ le 1 op ++ le 2 r.seq ++ le 2 payload.length ++ le 2 status ++ le 4 s.tick32 ++ payload)⟩] ∧
      u = { s with cmd := { s.cmd with ports := u.cmd.ports } } ∧ (∀ p, p ≠ r.port → u.port p = s.port p)) ∧
  (∀ (s : State) (op : Nat) (r : Req) (status : Nat) (payload : List Byte), (s.port r.port).slots = [] → outputOp op = false →
    bit r.flags 0 = true → status < 0x100 →
    ((s.answer op r status payload none).port r.port).out = (s.port r.port).out ∧
    ((s.answer op r status payload none).port r.port).last =
      lastN 8 ((s.port r.port).last ++ [(r.seq, r.crc, none)])) ∧
  (∀ (s : State) (op : Nat) (r : Req) (status : Nat) (payload : List Byte), (s.port r.port).slots = [] → outputOp op = true →
    ((s.answer op r status payload none).port r.port).out = (s.port r.port).out ∧
    ((s.answer op r status payload none).port r.port).slots =
      [⟨op, r.seq, r.crc, bit r.flags 0, status, s.tick32, payload, r.iface, r.ip, r.udp, some ⟨255, 0, s.cmd.lodge, status⟩⟩]) ∧
  (∀ (s : State) (op : Nat) (r : Req) (status : Nat) (payload : List Byte) (w : Option Await) (x : RSlot) (l : List RSlot),
    (s.port r.port).slots = x :: l → x.wait.isSome = true →
    ((s.answer op r status payload w).port r.port).out = (s.port r.port).out ∧
    ((s.answer op r status payload w).port r.port).slots = x :: l ++
      [⟨op, r.seq, r.crc, bit r.flags 0, status, s.tick32, payload, r.iface, r.ip, r.udp,
        if w.isNone && outputOp op then some ⟨255, 0, s.cmd.lodge, status⟩ else w⟩]) ∧
  (∀ (s : State) (p : Nat) (k : Pkt), 64 ≤ (s.port p).out.length →
    ((s.enqueueOut p k).port p).out.length = (s.port p).out.length ∧
    (k.kind ≠ 2 → k ∈ ((s.enqueueOut p k).port p).out) ∧
    (p ≠ 1 → p ≠ 2 → s.pushOut p k = s.enqueueOut p k)) ∧
  (∀ (s : State) (k : Pkt), (s.port 1).out = [] → s.ethUp k.iface = true → s.pb (0x3018 + 8 * k.iface) 0 = true →
    (Tbl.find s.net.arp (s.nextHop k.iface k.ip)).isSome = true →
    ∃ u, u = s.pushOut 1 k ∧ (u.port 1).out = [] ∧ u.sent.net = s.sent.net ++
      [⟨1, k.iface, if k.kind = 0 then 50741 else 50742, false, fragments (s.pf 0x3028 0 16) (k.bytes.length + 8), k⟩] ∧
      u.sent.raw = s.sent.raw) ∧
  (∀ (s : State) (k : Pkt), (s.port 2).out = [] → s.canRuns = true → s.net.canTx = none →
    ∃ u, u = s.pushOut 2 k ∧ (u.port 2).out = [] ∧
      (k.bytes.length ≤ (if s.pb 0x0402 2 then 62 else 7) → u.net.canTx = none ∧ u.sent.net = s.sent.net ++
        [⟨2, s.pf 0x0402 0 2, canIdent (s.p (if k.kind = 1 then 0x0405 else 0x0404)), s.pb 0x0402 2, [], k⟩]) ∧
      ((if s.pb 0x0402 2 then 62 else 7) < k.bytes.length → u.net.canTx = some k ∧ u.sent.net = s.sent.net)) ∧
  (∀ (s : State) (n : Nat) (k : Pkt) (l : List Pkt) (same : Bool), s.portServes 0 = true → (s.port 0).out = k :: l →
    k.bytes.length ≤ n →
    ∃ u : State, Gives (.spiFrame [] n same) s u ∧ u.sent.sdo = padTo 0#8 n k.bytes ∧ (u.port 0).out = l ∧
      u.cmd.queue = s.cmd.queue) ∧
  (∀ (s : State) (b : Byte) (l : List Byte) (same : Bool), s.portServes 0 = true → (s.port 0).out = [] → b ≠ 0#8 →
    Gives (.spiFrame (b :: l) (l.length + 1) same) s
      (({ s with sent := { s.sent with sdo := zeros (l.length + 1) } }.received same).receive 0 (b :: l) true 0 0 0)) ∧
  (∀ (s : State) (op seq flags handle n : Nat) (l rest : List Byte) (same : Bool), s.portServes 0 = true →
    NewRequest s 0 op seq flags handle l →
    Queues (.spiFrame (requestBytes op seq flags handle l ++ rest) n same) s 0 op seq flags handle l 0 0 0 same) ∧
  (∀ (s : State) (iface ip udp : Nat) (data : List Byte) (same : Bool), iface < 2 → s.portServes 1 = true →
    s.pb (0x3018 + 8 * iface) 0 = true → data.length ≤ 4112 →
    Gives (.ethDatagram iface ip udp data same) s ((s.received same).receive 1 data false iface ip udp)) ∧
  (∀ (s : State) (iface ip udp op seq flags handle : Nat) (l : List Byte) (same : Bool), iface < 2 → s.portServes 1 = true →
    s.pb (0x3018 + 8 * iface) 0 = true → NewRequest s 1 op seq flags handle l →
    Queues (.ethDatagram iface ip udp (requestBytes op seq flags handle l) same) s 1 op seq flags handle l iface ip udp same) ∧
  (∀ (s : State) (ident : Nat) (data : List Byte) (same : Bool), s.portServes 2 = true →
    s.pb (0x3010 + 2 * s.pf 0x0402 0 2) 0 = true → canIdent ident = canIdent (s.p 0x0403) → s.net.canRx = [] →
    Gives (.canMessage (s.pf 0x0402 0 2) ident data true same) s
      (((s.flowSend (s.flowCount data.length true)).received same).receive 2 data false (s.pf 0x0402 0 2) 0 0)) ∧
  (∀ (s : State) (n k : Nat), (n ≤ (if s.pb 0x0402 2 then 62 else 7) → s.flowCount n true = 0) ∧
    ((if s.pb 0x0402 2 then 62 else 7) < n → 1 ≤ s.flowCount n true ∧
      (s.pf 0x0402 8 8 = 0 → s.flowCount n true = 1)) ∧
    (s.flowSend k).sent.raw = s.sent.raw ++ List.replicate k (16 + s.pf 0x0402 0 2,
      le 4 (canIdent (s.p 0x0404) + 2 ^ 30 * s.pf 0x0402 2 1) ++ le 1 0x30 ++ le 1 (s.pf 0x0402 8 8) ++ le 1 (s.pf 0x0402 16 8))) ∧
  (∀ w : Nat, canIdent w = (if bit w 31 then 2 ^ 31 + w % 2 ^ 29 else w % 2048)) ∧
  (∀ (s : State) (op seq flags handle : Nat) (l data : List Byte) (same : Bool), s.portServes 2 = true →
    s.pb (0x3010 + 2 * s.pf 0x0402 0 2) 0 = true → s.net.canRx ++ data = requestBytes op seq flags handle l →
    NewRequest s 2 op seq flags handle l →
    Queues (.canMessage (s.pf 0x0402 0 2) (s.p 0x0403) data true same) s 2 op seq flags handle l (s.pf 0x0402 0 2) 0 0 same) ∧
  (∀ (s : State) (data : List Byte) (same : Bool), s.portServes 2 = true → s.pb (0x3010 + 2 * s.pf 0x0402 0 2) 0 = true →
    ∃ u : State, Gives (.canMessage (s.pf 0x0402 0 2) (s.p 0x0403) data false same) s u ∧ u.net.canRx = s.net.canRx ++ data ∧
      u.sent = (s.flowSend (s.flowCount (s.net.canRx ++ data).length false -
        (if s.net.canRx = [] then 0 else s.flowCount s.net.canRx.length false))).sent ∧
      u.cmd = s.cmd ∧ u.params = s.params ∧ u.out = s.out) ∧
  (∀ (s : State) (c : Nat), c = s.pf 0x0402 0 2 →
    Gives (.canIsotpTimeout c true) s { s with net := { s.net with canRx := [] } } ∧
    ∃ u : State, Gives (.canIsotpTimeout c false) s u ∧ u.net.canRx = s.net.canRx ∧ u.cmd.queue = s.cmd.queue ∧
      u.params = s.params ∧ ((s.port 2).out = [] → u.net.canTx = none ∧ u.sent.net = s.sent.net)) ∧
  (∀ (s : State) (c : Nat) (inbound : Bool), c ≠ s.pf 0x0402 0 2 → Gives (.canIsotpTimeout c inbound) s s) ∧
  (∀ (s : State) (x : TwXfer) (same : Bool), s.sys.phase ≠ .cold → s.twWindow x.addr = some 3 → s.twOpen = true → 10 ≤ x.gap →
    x.wr ≠ [] → x.wr.length ≤ 4112 → s.portServes 3 = true →
    Gives (.twCommandWrite x same) s
      (({ s with net := { s.net with twAck := true, twOut := [] } }.received same).receive 3 x.wr false 0 0 0)) ∧
  (∀ (s : State) (x : TwXfer) (op seq flags handle : Nat) (l : List Byte) (same : Bool), s.sys.phase ≠ .cold →
    s.twWindow x.addr = some 3 → s.twOpen = true → 10 ≤ x.gap → x.wr = requestBytes op seq flags handle l →
    s.portServes 3 = true → NewRequest s 3 op seq flags handle l →
    Queues (.twCommandWrite x same) s 3 op seq flags handle l 0 0 0 same) ∧
  (∀ (s : State) (x : TwXfer) (k : Pkt) (l : List Pkt), s.sys.phase ≠ .cold → s.twWindow x.addr = some 3 → s.twOpen = true →
    (s.port 3).out = k :: l → k.bytes.length ≤ x.rd →
    ∃ u : State, Gives (.twCommandRead x) s u ∧ u.net.twAck = true ∧ u.net.twOut = padTo 0#8 x.rd k.bytes ∧ (u.port 3).out = l) ∧
  (∀ (s : State) (p : Nat) (l r : List QItem) (q : QItem), s.cmd.queue = l ++ q :: r → q.req.port = p → q.verif = 1 →
    (∀ x ∈ l, ¬(x.req.port = p ∧ x.verif = 1)) →
    Gives (.signatureVerified p) s { s with cmd := { s.cmd with queue := l ++ { q with verif := 2 } :: r } })

/-- The checks of a request come before its effect (R165, R176, R177, R605): one that fails a check is answered with that check's status, a
refused SET_BLOCK with no index and a refused VALVE_FIRE with the start that was asked for, and changes nothing else; a signed request whose verification fails is answered 0x0303, and its nonce is consumed (R199, R201). -/
def Obligations.FailedChecksOnlyAnswer : Prop :=
  (∀ (s : State) (op : Nat) (r : Req), op ≠ 0x06 → op ≠ 0x22 → s.preCheck op r ≠ 0 →
    s.runReq op r (opExec op) = s.answer op r (s.preCheck op r) [] none) ∧
  (∀ (s : State) (r : Req), s.preCheck 0x06 r ≠ 0 →
    s.runReq 0x06 r (opExec 0x06) = s.answer 0x06 r (s.preCheck 0x06 r) (le 2 0xFFFF) none) ∧
  (∀ (s : State) (r : Req), r.payload.length = 12 → s.preCheck 0x22 r ≠ 0 →
    s.runReq 0x22 r (opExec 0x22) = s.answer 0x22 r (s.preCheck 0x22 r)
      (le 4 (s.tick + 1 + leAt r.payload 0 2) ++ le 2 (leAt r.payload 2 2)) none) ∧
  (∀ (s : State) (op : Nat) (r : Req), op ∈ signedOps → s.preCheck op r = 0 → s.signedOk op r = false →
    s.runReq op r (opExec op) = (afterNonce s r).answer op r 0x0303 [] none) ∧
  (∀ (s : State) (op : Nat) (r : Req), op ∉ opcodes → s.preCheck op r = 0x0101) ∧
  (∀ (s : State) (op : Nat) (r : Req), op ∈ opcodes → s.opAllowed op = false → s.preCheck op r = 0x0300)

/-- Identity and parameters (R11, R176, R178, R780 to R783, R788, R789): what NOP, IDENT, STATUS, GET_PARAM, GET_BLOCK and the user
area answer; SET_PARAM stores a value that the address takes and answers its word; SET_BLOCK stores all; on a WORKER handle
both go out to the worker and their replies wait for its ACK, but a parameter whose fields are all read only is LOCKED, and one
that only Kindling may change NOT_IN_STATE. -/
def Obligations.IdentityAndParameterRequests : Prop :=
  (∀ (s : State) (r : Req), Passes s 0 r → Gives (.nop r) s (s.answer 0 r 0 [] none)) ∧
  (∀ (s : State) (r : Req), Passes s 1 r → Gives (.ident r) s (s.answer 1 r 0
    (le 2 (s.pf 0x0100 0 16) ++ le 1 (s.pf 0x0100 16 4) ++ le 1 s.role ++ le 8 Config.serial.toNat ++
      le 4 Config.romVersion.toNat ++ le 4 (s.p 0x0108) ++ le 1 (popcount (fld s.nvm.fuseOr.toNat 0x47E 7) 7) ++
      le 1 (popcount s.ledgMap 8) ++ le 1 s.stateCode ++ zeros 9) none)) ∧
  (∀ (s : State) (r : Req), Passes s 2 r → Gives (.status r) s (s.answer 2 r 0
    (le 4 s.stateWord ++ le 8 s.evStat ++ le 4 (s.p 0x0105) ++ le 4 (s.p 0x0300) ++ le 4 (s.p 0x0203)) none)) ∧
  (∀ (s : State) (r : Req), Passes s 3 r → leAt r.payload 2 2 = 0 → r.handle = 0 →
    (paramRow (leAt r.payload 0 2)).isSome = true → ¬(0x2100 ≤ leAt r.payload 0 2 ∧ leAt r.payload 0 2 ≤ 0x211F) →
    Gives (.getParam r) s (s.answer 3 r 0 (le 4 (s.readParam r.port (leAt r.payload 0 2))) none)) ∧
  (∀ (s : State) (r : Req), Passes s 3 r → leAt r.payload 2 2 = 0 → r.handle = 0 →
    (paramRow (leAt r.payload 0 2)).isNone = true → Gives (.getParam r) s (s.answer 3 r 0x0103 [] none)) ∧
  (∀ (s t : State) (r : Req), Passes s 4 r → leAt r.payload 2 2 = 0 → r.handle = 0 →
    s.paramWrite (.host r.wdg) (leAt r.payload 0 2) (leAt r.payload 4 4) = (0, t) →
    Gives (.setParam r) s (t.answer 4 r 0 (le 4 (t.readParam r.port (leAt r.payload 0 2))) none)) ∧
  (∀ (s : State) (r : Req), Passes s 4 r → leAt r.payload 2 2 = 0 → r.handle = 0 → leAt r.payload 0 2 = 0x0305 →
    leAt r.payload 4 4 ≤ 86400 →
    ∃ t : State, Gives (.setParam r) s (t.answer 4 r 0 (le 4 (leAt r.payload 4 4)) none) ∧ t.p 0x0305 = leAt r.payload 4 4 ∧
      t = { s with params := t.params } ∧ SameParams s t [0x0305]) ∧
  (∀ (s t : State) (r : Req) (c : Nat), Passes s 4 r → leAt r.payload 2 2 = 0 → r.handle = 0 →
    s.paramWrite (.host r.wdg) (leAt r.payload 0 2) (leAt r.payload 4 4) = (c, t) → 0x100 ≤ c →
    Gives (.setParam r) s (t.answer 4 r c [] none)) ∧
  (∀ (s : State) (r : Req), Passes s 3 r → leAt r.payload 2 2 = 0 → r.handle ≠ 0 →
    (wkRow (s.view (resW (slotAt s r).res)).meter (leAt r.payload 0 2)).isSome = true →
    ∃ u : State, Gives (.workerGetParam r) s (u.answer 3 r 0 [] (some ⟨0, 0, s.cmd.lodge, 0⟩)) ∧
      u.flue.apply = s.flue.apply ++ [(resW (slotAt s r).res, 17 * 65536 + leAt r.payload 0 2, leAt r.payload 0 2)] ∧
      u.cmd.lodge = s.cmd.lodge + 1 ∧ u.params = s.params) ∧
  (∀ (s : State) (r : Req), Passes s 4 r → leAt r.payload 2 2 = 0 → r.handle ≠ 0 → (slotAt s r).writer = true →
    s.owns (resW (slotAt s r).res) = true →
    (wkRow (s.view (resW (slotAt s r).res)).meter (leAt r.payload 0 2)).isSome = true →
    s.wkLocked (resW (slotAt s r).res) (leAt r.payload 0 2) = false →
    s.wkBars (resW (slotAt s r).res) (leAt r.payload 0 2) (leAt r.payload 4 4) = false →
    ∃ u : State, Gives (.workerSetParam r) s (u.answer 4 r 0 [] (some ⟨0, 0, s.cmd.lodge, 0⟩)) ∧
      u.flue.apply = s.flue.apply ++ [(resW (slotAt s r).res, 65536 + leAt r.payload 0 2, leAt r.payload 4 4)] ∧
      u.cmd.lodge = s.cmd.lodge + 1 ∧ u.params = s.params) ∧
  (∀ (s : State) (r : Req), Passes s 4 r → leAt r.payload 2 2 = 0 → r.handle ≠ 0 → (slotAt s r).writer = true →
    (wkRow (s.view (resW (slotAt s r).res)).meter (leAt r.payload 0 2)).isSome = true →
    s.wkLocked (resW (slotAt s r).res) (leAt r.payload 0 2) = true →
    Gives (.workerSetParam r) s (s.answer 4 r 0x0301 [] none)) ∧
  (∀ (s : State) (r : Req), Passes s 4 r → leAt r.payload 2 2 = 0 → r.handle ≠ 0 → (slotAt s r).writer = true →
    (wkRow (s.view (resW (slotAt s r).res)).meter (leAt r.payload 0 2)).isSome = true →
    s.wkLocked (resW (slotAt s r).res) (leAt r.payload 0 2) = false →
    s.wkBars (resW (slotAt s r).res) (leAt r.payload 0 2) (leAt r.payload 4 4) = true →
    Gives (.workerSetParam r) s (s.answer 4 r 0x0300 [] none)) ∧
  (∀ (s : State) (r : Req), Passes s 5 r → bit r.flags 2 = false → 0 < leAt r.payload 2 2 → leAt r.payload 2 2 ≤ 1024 →
    leAt r.payload 0 2 + leAt r.payload 2 2 ≤ 0x10000 →
    Gives (.getBlock r) s (s.drawn.answer 5 r 0 ((List.range (leAt r.payload 2 2)).flatMap (fun k =>
      le 4 (if (paramRow (leAt r.payload 0 2 + k)).isNone then 0 else s.readParam r.port (leAt r.payload 0 2 + k)))) none)) ∧
  (∀ (s : State) (r : Req), Passes s 5 r → bit r.flags 2 = true → 8 ≤ leAt r.payload 4 2 → leAt r.payload 4 2 ≤ 4096 →
    userFits (leAt r.payload 0 4) (leAt r.payload 4 2) = true → s.nvm.bad = [] →
    Gives (.getBlock r) s (s.drawn.answer 5 r 0 (Mem.bytes 0#8 s.nvm.user (leAt r.payload 0 4) (leAt r.payload 4 2)) none)) ∧
  (∀ (s : State) (r : Req), Passes s 6 r → bit r.flags 2 = true → leAt r.payload 4 4 = 0 →
    userFits (leAt r.payload 0 4) (r.payload.length - 8) = true →
    ∃ u : State, Gives (.setBlock r) s (u.answer 6 r 0 (le 2 0xFFFF) none) ∧
      u.nvm.user = Mem.write 0#8 s.nvm.user (leAt r.payload 0 4) (r.payload.drop 8) ∧
      u = { s with nvm := { s.nvm with user := u.nvm.user, bad := u.nvm.bad } }) ∧
  (∀ (s t : State) (r : Req), Passes s 6 r → bit r.flags 2 = false → 0 < leAt r.payload 2 2 → leAt r.payload 2 2 ≤ 1023 →
    leAt r.payload 0 2 + leAt r.payload 2 2 ≤ 0x10000 →
    s.paramBlock (.host r.wdg) (leAt r.payload 0 2) 0
      ((List.range (leAt r.payload 2 2)).map (fun k => leAt r.payload (4 + 4 * k) 4)) = (0, 0xFFFF, t) →
    Gives (.setBlock r) s (t.answer 6 r 0 (le 2 0xFFFF) none))

/-- The rows of SET_PARAM with an effect of their own: EVT.STAT clears the events whose bits are written (R258), HS.STAT a latch
(R569), HB.POS counts as homed (R636), NET.CANCFG ends bus-off (R696), PART.CTRL sends its requests (R519), and WDG.PERIOD is
taken while the window is open and is the length of the period that a queued write was received before (R296, R297); each answers the word that the address then reads as. -/
def Obligations.ParameterWritesWithEffects : Prop :=
  (∀ (s : State) (r : Req) (k : Nat), Passes s 4 r → r.handle = 0 → k < 2 → leAt r.payload 0 2 = 0x0600 + k →
    leAt r.payload 2 2 = 0 →
    ∃ t : State, Gives (.evtStatClear r) s (t.answer 4 r 0 (le 4 (t.readParam r.port (0x0600 + k))) none) ∧
      (∀ b, b < 32 → bit (leAt r.payload 4 4) b = true →
        ¬(evLevels.contains (32 * k + b) = true ∧ s.holds (32 * k + b) = true) → t.latched (32 * k + b) = false) ∧
      (∀ b, b < 32 → (bit (leAt r.payload 4 4) b = false ∨
        (evLevels.contains (32 * k + b) = true ∧ s.holds (32 * k + b) = true)) →
        t.latched (32 * k + b) = s.latched (32 * k + b)) ∧
      t.out = s.out ∧ t.nvm = s.nvm ∧ t.sys = s.sys) ∧
  (∀ (s : State) (r : Req) (n : Nat), Passes s 4 r → r.handle = 0 → n < 40 → leAt r.payload 0 2 = hsStat n →
    leAt r.payload 2 2 = 0 → leAt r.payload 4 4 = 16 → s.pb (hsStat n) 4 = true →
    ∃ t : State, Gives (.hsLatchClear r) s (t.answer 4 r 0 (le 4 (t.readParam r.port (hsStat n))) none) ∧
      t.pb (hsStat n) 4 = false ∧ t.pf (hsStat n) 8 4 = 0 ∧ (t.hs n).retry = true ∧ SameParams s t [hsStat n]) ∧
  (∀ (s : State) (r : Req) (b : Nat), Passes s 4 r → r.handle = 0 → b < 8 → leAt r.payload 0 2 = hbPosA b →
    leAt r.payload 2 2 = 0 →
    ∃ t : State, Gives (.hbPosWrite r) s (t.answer 4 r 0 (le 4 (t.readParam r.port (hbPosA b))) none) ∧
      t.p (hbPosA b) = leAt r.payload 4 4 ∧ t.pb (hbStat b) 7 = true ∧ SameParams s t [hbPosA b, hbStat b] ∧
      (s.hbMoving b = false → Tbl.get 0#32 t.nvm.hbPos b = BitVec.ofNat 32 (leAt r.payload 4 4) ∧ b ∈ t.nvm.hbValid)) ∧
  (∀ (s t : State) (r : Req) (c : Nat), Passes s 4 r → r.handle = 0 → c < 4 → leAt r.payload 0 2 = 0x3010 + 2 * c →
    leAt r.payload 2 2 = 0 →
    s.paramWrite (.host r.wdg) (0x3010 + 2 * c) (leAt r.payload 4 4) = (0, t) →
    Gives (.canAutorecWrite r) s (t.answer 4 r 0 (le 4 (t.readParam r.port (0x3010 + 2 * c))) none) ∧
      (s.pf (0x3011 + 2 * c) 0 2 = 2 → c ∈ t.net.canFree)) ∧
  (∀ (s : State) (r : Req) (c : Nat) (b : Bool), Passes s 4 r → r.handle = 0 → c < 4 → leAt r.payload 0 2 = 0x3010 + 2 * c →
    leAt r.payload 2 2 = 0 → leAt r.payload 4 4 = setFld (s.p (0x3010 + 2 * c)) 7 1 (b2n b) → s.canFits = true →
    ∃ t : State, Gives (.canAutorecWrite r) s (t.answer 4 r 0 (le 4 (t.readParam r.port (0x3010 + 2 * c))) none) ∧
      t.pb (0x3010 + 2 * c) 7 = b ∧ (∀ k, k < 24 → k ≠ 7 → t.pb (0x3010 + 2 * c) k = s.pb (0x3010 + 2 * c) k) ∧
      SameParams s t [0x3010 + 2 * c] ∧ (s.pf (0x3011 + 2 * c) 0 2 = 2 → c ∈ t.net.canFree) ∧
      t = { s with params := t.params, net := t.net }) ∧
  (∀ (s : State) (r : Req), Passes s 4 r → r.handle = 0 → leAt r.payload 0 2 = 0x1907 → leAt r.payload 2 2 = 0 →
    leAt r.payload 4 4 = 1 →
    ∃ t : State, Gives (.partResetPartner r) s (t.answer 4 r 0 (le 4 (t.readParam r.port 0x1907)) none) ∧
      t.part.unacked = s.part.unacked ++ [(s.part.seq, 0x14, le 1 1 ++ zeros 3)] ∧
      t.part.seq = (s.part.seq + 1) % 256) ∧
  (∀ (s : State) (r : Req), Passes s 4 r → r.handle = 0 → leAt r.payload 0 2 = 0x1907 → leAt r.payload 2 2 = 0 →
    leAt r.payload 4 4 = 2 → s.pb 0x1905 0 = true →
    ∃ t : State, Gives (.partResync r) s (t.answer 4 r 0 (le 4 (t.readParam r.port 0x1907)) none) ∧
      t.part.unacked = s.part.unacked ++ [(s.part.seq, 0x14, le 1 2 ++ zeros 3 ++
        (List.range 8).flatMap (fun n => le 4 (s.inst n).newest))]) ∧
  (∀ (s : State) (r : Req), Passes s 4 r → r.handle = 0 → leAt r.payload 0 2 = 0x0702 → leAt r.payload 2 2 = 0 →
    1 ≤ leAt r.payload 4 4 → leAt r.payload 4 4 ≤ 255 → r.wdg.perOpen = true →
    ∃ t : State, Gives (.wdgPeriodWrite r) s (t.answer 4 r 0 (le 4 (t.readParam r.port 0x0702)) none) ∧
      t.p 0x0702 = leAt r.payload 4 4 ∧ SameParams s t [0x0702] ∧ (s.wdg.loaded ≤ r.wdg.stamp → t.wdg = s.wdg) ∧
      (r.wdg.stamp < s.wdg.loaded → t.wdg = { s.wdg with periodMs := 10 * leAt r.payload 4 4 }))

/-- Handles (R212, R213, R216 to R218, R222, R224, R231, R237): an OPEN that every check lets through takes the lowest free slot and
answers its handle, one that a check refuses opens nothing; CLOSE frees the slot with its generation one higher; BIND joins a
writer to a generator; QUERY_HANDLE answers what the slot holds. -/
def Obligations.HandleRequests : Prop :=
  (∀ (s : State) (r : Req) (i : Nat), Passes s 0x10 r → leAt r.payload 2 2 = 0 →
    s.openCheck r.port (leAt r.payload 0 1) (leAt r.payload 1 1) (leAt r.payload 4 4) (r.payload.drop 8) = 0 →
    s.freeFrom 2048 0 = some i →
    ∃ t : State, Gives (.openHandle r) s (t.answer 0x10 r 0
      (le 4 (leAt r.payload 0 1 * 2 ^ 26 + s.genOf i * 2 ^ 16 + i)) none) ∧
      (t.slot i).isOpen = true ∧ (t.slot i).cls = leAt r.payload 0 1 ∧ (t.slot i).res = leAt r.payload 4 4 ∧
      (t.slot i).opener = r.port ∧ t.current (leAt r.payload 0 1 * 2 ^ 26 + s.genOf i * 2 ^ 16 + i) = some i ∧
      (∀ j, j ≠ i → t.slot j = s.slot j)) ∧
  (∀ (s : State) (r : Req) (c : Nat), Passes s 0x10 r → leAt r.payload 2 2 = 0 →
    s.openCheck r.port (leAt r.payload 0 1) (leAt r.payload 1 1) (leAt r.payload 4 4) (r.payload.drop 8) = c → c ≠ 0 →
    ∃ t : State, Gives (.openHandle r) s (t.answer 0x10 r c [] none) ∧ t.hdl = s.hdl ∧ t.out = s.out ∧
      SameParams s t [0x0503]) ∧
  (∀ (s : State) (r : Req) (i : Nat), Passes s 0x11 r → s.current r.handle = some i →
    ∃ t : State, Gives (.closeHandle r) s (t.answer 0x11 r 0 [] none) ∧ (t.slot i).isOpen = false ∧
      (t.slot i).closes = ((s.slot i).closes + 1) % 1024 ∧ t.current r.handle = none ∧
      (∀ j, j ≠ i → t.slot j = s.slot j) ∧ t.out = s.out ∧
      ((s.slot i).writer = true → (⟨(s.slot i).cls, (s.slot i).res, 0, (s.slot i).pg, i⟩ : CloseAct) ∈ t.hdl.acts)) ∧
  (∀ (s : State) (r : Req), Passes s 0x12 r → s.bindCheck (s.slotOf r) (leAt r.payload 0 4) = 0 →
    ∃ t : State, Gives (.bind r) s (t.answer 0x12 r 0 [] none) ∧ (t.slot (s.slotOf r)).bindH = leAt r.payload 0 4 ∧
      (t.slot (s.slotOf r)).pg = (if leAt r.payload 0 4 = 0 then none
        else (s.current (leAt r.payload 0 4)).bind (fun j => (s.slot j).pg)) ∧
      (∀ j, j ≠ s.slotOf r → t.slot j = s.slot j)) ∧
  (∀ (s : State) (r : Req), Passes s 0x12 r → (slotAt s r).writer = false →
    Gives (.bind r) s (s.answer 0x12 r 0x0205 [] none)) ∧
  (∀ (s : State) (r : Req) (g : Nat), Passes s 0x13 r → (slotAt s r).pg = some g →
    Gives (.queryHandle r) s (s.answer 0x13 r 0 (le 1 (slotAt s r).cls ++ le 1 (b2n (slotAt s r).writer) ++
      le 1 (slotAt s r).opener ++ zeros 1 ++ le 4 (slotAt s r).res ++ le 4 (slotAt s r).bindH ++ le 1 (g + 128) ++ zeros 3)
      none))

/-- Output requests (R169, R203, R223, R548, R550, R592, R598, R613, R626, R643, R649): a writer's request in range lodges one
intent for the set instant and its reply waits for it; a reader's is answered 0x0205 and lodges nothing. -/
def Obligations.OutputRequestsLodgeIntents : Prop :=
  (∀ (s : State) (r : Req), Passes s 0x20 r → (slotAt s r).writer = true → (slotAt s r).cls = 1 → leAt r.payload 0 4 ≤ 1 →
    Gives (.outSet r) s ((s.lodge 1 (slotAt s r).res r.port (slotAt s r).excl 0 (leAt r.payload 0 4) 0 0).answer 0x20 r 0 []
      (some ⟨1, (slotAt s r).res, s.cmd.lodge, 0⟩))) ∧
  (∀ (s : State) (r : Req), Passes s 0x20 r → (slotAt s r).writer = true → (slotAt s r).cls = 0x0B →
    stnFits (resItem (slotAt s r).res) (leAt r.payload 0 4) = true → s.owns (resW (slotAt s r).res) = true →
    Gives (.outSet r) s ((s.lodge 0x0B (4 * resW (slotAt s r).res + resItem (slotAt s r).res) r.port (slotAt s r).excl
      (leAt r.payload 0 4) 0 0 0).answer 0x20 r 0 []
      (some ⟨0x0B, 4 * resW (slotAt s r).res + resItem (slotAt s r).res, s.cmd.lodge, 0⟩))) ∧
  (∀ (s : State) (r : Req), Passes s 0x20 r → (slotAt s r).writer = false →
    Gives (.outSet r) s (s.answer 0x20 r 0x0205 [] none)) ∧
  (∀ (s : State) (r : Req), Passes s 0x21 r → (slotAt s r).writer = true → s.hsBound (slotAt s r).res = true →
    s.isCon (slotAt s r).res = false → leAt r.payload 2 2 ≤ 4095 →
    Gives (.outPwm r) s ((s.lodge 1 (slotAt s r).res r.port (slotAt s r).excl 1 (leAt r.payload 0 2) (leAt r.payload 2 2)
      0).answer 0x21 r 0 [] (some ⟨1, (slotAt s r).res, s.cmd.lodge, 0⟩))) ∧
  (∀ (s : State) (r : Req), Passes s 0x22 r → (slotAt s r).writer = true → leAt r.payload 0 2 ≤ 1023 →
    leAt r.payload 2 2 < s.tUs → leAt r.payload 4 1 ≤ 7 ∨ leAt r.payload 4 1 = 255 → leAt r.payload 5 3 = 0 →
    Gives (.valveFire r) s ((s.lodge 3 (slotAt s r).res r.port (slotAt s r).excl (leAt r.payload 4 1)
      ((s.tick + 1 + leAt r.payload 0 2) * s.tUs + leAt r.payload 2 2) (leAt r.payload 8 4) 0).answer 0x22 r 0 []
      (some ⟨3, (slotAt s r).res, s.cmd.lodge, 0⟩))) ∧
  (∀ (s : State) (r : Req), Passes s 0x23 r → (slotAt s r).writer = true →
    Gives (.ledSet r) s ((s.lodge 4 (slotAt s r).res r.port (slotAt s r).excl (leAt r.payload 0 2) (leAt r.payload 2 2) 0
      0).answer 0x23 r 0 [] (some ⟨4, (slotAt s r).res, s.cmd.lodge, 0⟩))) ∧
  (∀ (s : State) (r : Req), Passes s 0x24 r → (slotAt s r).writer = true → leAt r.payload 2 2 = 0 →
    1 ≤ leAt r.payload 0 1 → leAt r.payload 0 1 ≤ 2 →
    (leAt r.payload 1 1 = 0 ∨ (leAt r.payload 1 1 = 1 ∧ 50 ≤ leAt r.payload 4 4 ∧ leAt r.payload 4 4 ≤ 500) ∨
      (leAt r.payload 1 1 = 2 ∧ 1 ≤ leAt r.payload 4 4 ∧ leAt r.payload 4 4 ≤ 65535)) →
    Gives (.hbMove r) s ((s.lodge 5 (slotAt s r).res r.port (slotAt s r).excl (leAt r.payload 0 1) (leAt r.payload 1 1)
      (leAt r.payload 4 4) 0).answer 0x24 r (if leAt r.payload 1 1 = 0 then 0 else 1) []
      (some ⟨5, (slotAt s r).res, s.cmd.lodge, if leAt r.payload 1 1 = 0 then 0 else 1⟩))) ∧
  (∀ (s : State) (r : Req), Passes s 0x25 r → (slotAt s r).writer = true → ofTwos 32 (leAt r.payload 0 4) ≠ 0 →
    (ofTwos 32 (leAt r.payload 0 4)).natAbs ≤ s.pf (motCfg (slotAt s r).res) 0 16 → 1 ≤ leAt r.payload 4 4 →
    leAt r.payload 4 4 ≤ 100000 → s.motState (slotAt s r).res ≠ 7 →
    Gives (.motorStart r) s ((s.lodge 6 (slotAt s r).res r.port (slotAt s r).excl 0 (leAt r.payload 0 4) (leAt r.payload 4 4)
      0).answer 0x25 r 1 [] (some ⟨6, (slotAt s r).res, s.cmd.lodge, 1⟩))) ∧
  (∀ (s : State) (r : Req), Passes s 0x26 r → (slotAt s r).writer = true → leAt r.payload 0 1 ≤ 2 → leAt r.payload 1 3 = 0 →
    Gives (.motorStop r) s ((s.lodge 6 (slotAt s r).res r.port (slotAt s r).excl 1 (leAt r.payload 0 1) 0 0).answer 0x26 r 0 []
      (some ⟨6, (slotAt s r).res, s.cmd.lodge, 0⟩))) ∧
  (∀ (s : State) (k n src a b c d : Nat) (e : Bool), (s.lodge k n src e a b c d).cmd.intents =
    s.cmd.intents ++ [⟨k, n, src, s.cmd.lodge, e, a, b, c, d⟩] ∧ (s.lodge k n src e a b c d).out = s.out ∧
    (s.lodge k n src e a b c d).params = s.params)

/-- Measurement and capture requests (R223, R248, R328, R360, R375, R376, R377, R389, R422, R438, R446, R453, R531, R687): what SWEEP_READ,
CELL_READ and STATION_READ answer of the results held, and what BALANCE, IMP_START, FLARE_ARM and FLARE_READ have sent to the
worker in the next Apply. -/
def Obligations.MeasurementRequests : Prop :=
  (∀ (s : State) (r : Req), Passes s 0x30 r → leAt r.payload 0 1 ≤ 3 → 1 ≤ leAt r.payload 1 1 → leAt r.payload 1 1 ≤ 63 →
    leAt r.payload 2 2 = 0 →
    ∃ l : List Byte, Gives (.sweepRead r) s (s.answer 0x30 r 0 (
      le 8 (maskOf ((List.range 64).filter (fun a => 1 ≤ a && (s.heldResult (wKey (leAt r.payload 0 1) a)
        (if leAt r.payload 4 4 = 0 then s.tick32 else leAt r.payload 4 4)).isSome))) ++
      le 4 (if leAt r.payload 4 4 = 0 then s.tick32 else leAt r.payload 4 4) ++ l) none)) ∧
  (∀ (s : State) (r : Req) (b : ResultRec) (c : CellRec), Passes s 0x31 r → (s.view (resW (slotAt s r).res)).lost = false →
    (s.view (resW (slotAt s r).res)).res.head?.map (·.1) = some b → b.meas = .cell c →
    Gives (.cellRead r) s (s.drawn.answer 0x31 r (if s.cellsGood (resW (slotAt s r).res) c then 0 else 0x0501)
      (le 6 b.tick ++ zeros 2 ++ cellBytes c) none)) ∧
  (∀ (s : State) (r : Req) (b : ResultRec) (c : CellRec), Passes s 0x31 r → (s.view (resW (slotAt s r).res)).lost = true →
    (s.view (resW (slotAt s r).res)).res.head?.map (·.1) = some b → b.meas = .cell c →
    Gives (.cellRead r) s (s.drawn.answer 0x31 r 0x0501 (le 6 b.tick ++ zeros 2 ++ cellBytes { c with
      cstat := (List.range 24).map (fun k => if k < s.cellCount (resW (slotAt s r).res) then 4 else 6) }) none)) ∧
  (∀ (s : State) (r : Req), Passes s 0x31 r → (s.view (resW (slotAt s r).res)).res = [] →
    ∃ c : CellRec, Gives (.cellRead r) s (s.drawn.answer 0x31 r 0x0501 (le 6 s.tick ++ zeros 2 ++ cellBytes c) none) ∧
      c.cells = List.replicate 24 0 ∧
      c.cstat = (List.range 24).map (fun k => if k < s.cellCount (resW (slotAt s r).res) then 4 else 6)) ∧
  (∀ (s : State) (r : Req), Passes s 0x32 r → (slotAt s r).writer = true →
    leAt r.payload 0 4 < 2 ^ (s.wkParam (resW (slotAt s r).res) 0x08 % 32) →
    popcount (leAt r.payload 0 4) 24 ≤ s.wkParam (resW (slotAt s r).res) 0x0E % 32 →
    s.owns (resW (slotAt s r).res) = true → (s.view (resW (slotAt s r).res)).lost = false →
    ∃ u : State, Gives (.balance r) s (u.answer 0x32 r 0 [] none) ∧
      u = { s with flue := { s.flue with apply := s.flue.apply ++
        [(resW (slotAt s r).res, 3 * 65536 + 0x10, leAt r.payload 0 4),
         (resW (slotAt s r).res, 3 * 65536 + 0x11, leAt r.payload 4 4)] } }) ∧
  (∀ (s : State) (r : Req), Passes s 0x33 r → s.owns (resW (slotAt s r).res) = true →
    (s.view (resW (slotAt s r).res)).lost = false → bit (leAt (slotAt s r).cdata 1 1) 0 = false →
    ∃ (u : State) (l : List (Nat × Nat × Nat)), Gives (.impStart r) s (u.answer 0x33 r 1 [] none) ∧
      u.flue.apply = s.flue.apply ++ l ++ [(resW (slotAt s r).res, 3 * 65536 + 0x2B, s.slotOf r)] ∧
      (∃ m, Tbl.find u.flue.imps (s.slotOf r) = some m ∧ m.w = resW (slotAt s r).res ∧ m.status = 0 ∧ m.done = 0) ∧
      u.params = s.params ∧ u.out = s.out) ∧
  (∀ (s : State) (r : Req) (f : FlrMgr), Passes s 0x34 r → s.trigFits r.payload = true →
    s.owns (resW (slotAt s r).res) = true → (s.view (resW (slotAt s r).res)).lost = false →
    Tbl.find s.flue.flares (s.slotOf r) = some f → (∀ e ∈ s.flue.flares, e.2.w = resW (slotAt s r).res → e.2.st ≠ 2) →
    Gives (.flareArm r) s ((s.flrArm (s.slotOf r) r.payload).answer 0x34 r 0 [] none)) ∧
  (∀ (s : State) (r : Req) (f : FlrMgr), Passes s 0x34 r → s.trigFits r.payload = true → 2 ≤ leAt r.payload 0 1 →
    s.owns (resW (slotAt s r).res) = true → (s.view (resW (slotAt s r).res)).lost = false →
    Tbl.find s.flue.flares (s.slotOf r) = some f → s.flue.imps = [] →
    (∀ e ∈ s.flue.flares, e.2.w = resW (slotAt s r).res → e.2.st ≠ 2) →
    ∃ u : State, Gives (.flareArm r) s (u.answer 0x34 r 0 [] none) ∧ u = { s with flue := u.flue } ∧
      Tbl.find u.flue.flares (s.slotOf r) =
        some { f with trig := wordsOf r.payload, st := 1, read := false, tick := 0, offset := 0, idx := none } ∧
      u.flue.apply = s.flue.apply ++ ((wordsOf r.payload).zipIdx.map (fun e => (f.w, 3 * 65536 + 0x31 + e.2, e.1))) ++
        [(f.w, 3 * 65536 + 0x35, 0)]) ∧
  (∀ (s : State) (r : Req) (e : Nat × FlrMgr), Passes s 0x34 r → s.trigFits r.payload = true →
    s.owns (resW (slotAt s r).res) = true → (s.view (resW (slotAt s r).res)).lost = false →
    e ∈ s.flue.flares → e.2.w = resW (slotAt s r).res → e.2.st = 2 →
    Gives (.flareArm r) s (s.answer 0x34 r 0x0204 [] none)) ∧
  (∀ (s : State) (r : Req), Passes s 0x35 r → leAt r.payload 0 4 < 20480 → (s.view (resW (slotAt s r).res)).lost = false →
    ∃ u : State, Gives (.flareRead r) s (u.answer 0x35 r 0 [] (some ⟨0, 0, s.cmd.lodge, 0⟩)) ∧
      u.flue.apply = s.flue.apply ++ [(resW (slotAt s r).res, 19 * 65536 + leAt r.payload 0 4, leAt r.payload 0 4)] ∧
      u.flue.reads.length = s.flue.reads.length + 1 ∧ u.params = s.params) ∧
  (∀ (s : State) (r : Req) (b : ResultRec), Passes s 0x36 r → (s.view (resW (slotAt s r).res)).stn = true →
    s.nowRec (resW (slotAt s r).res) = some b → resItem (slotAt s r).res < 2 →
    Gives (.stationRead r) s (s.answer 0x36 r 0 (le 4 (b2n (bit b.stn.di (resItem (slotAt s r).res)))) none)) ∧
  (∀ (s : State) (r : Req), Passes s 0x36 r → (s.view (resW (slotAt s r).res)).stn = false →
    Gives (.stationRead r) s (s.answer 0x36 r 0x0500 (zeros 4) none))

/-- Ledger requests (R197 to R201, R478, R479, R485, R488, R489, R504 to R509): what LEDGER_READ and TURF_READ answer; a
CHALLENGE's nonce is valid from the next tick for CMD.NONCELIFE ticks; each signed request, its nonce consumed, has its effect
where its signature verifies and is answered 0x0303 where it does not. That SET_TIME restarts the running second is the model's
choice (log 144). -/
def Obligations.LedgerRequests : Prop :=
  (∀ (s : State) (r : Req) (a : AccSlot), Passes s 0x40 r → leAt r.payload 0 1 < 8 →
    (s.inst (leAt r.payload 0 1)).mirror = some a → s.instLives (leAt r.payload 0 1) = true →
    ∃ b, b ≤ 1 ∧ Gives (.ledgerRead r) s (s.answer 0x40 r 0 (slotBytes a ++ le 1 b ++ zeros 3) none)) ∧
  (∀ (s : State) (r : Req) (t : Turf), Passes s 0x41 r → leAt r.payload 0 1 < 8 → leAt r.payload 1 3 = 0 →
    1 ≤ leAt r.payload 8 2 → leAt r.payload 8 2 ≤ 15 → s.nvm.bad = [] →
    (s.inst (leAt r.payload 0 1)).sorted.filter (fun t => leAt r.payload 4 4 ≤ t.index) = [t] →
    Gives (.turfRead r) s (s.drawn.answer 0x41 r 0 (le 4 (t.index + 1) ++ le 2 1 ++ zeros 2 ++ turfBytes t) none)) ∧
  (∀ (s : State) (r : Req), Passes s 0x45 r →
    ∃ (u : State) (nonce : List Byte), Gives (.challenge r) s (u.answer 0x45 r 0
        (nonce ++ le 8 Config.serial.toNat ++ le 4 (s.tick + s.pf 0x0406 0 20)) none) ∧ nonce.length = 16 ∧
      (u.port r.port).nonce = some (nonce, s.tick + 1, s.tick + s.pf 0x0406 0 20) ∧
      (∀ p, p ≠ r.port → u.port p = s.port p)) ∧
  (∀ (s : State) (r : Req), Passes s 0x42 r → leAt (bodyOf r) 0 1 < 8 → leAt (bodyOf r) 1 3 = 0 →
    s.instOn (leAt (bodyOf r) 0 1) = true → s.ownsInst (leAt (bodyOf r) 0 1) = true →
    (s.inst (leAt (bodyOf r) 0 1)).any = true → leAt (bodyOf r) 4 4 ≤ (s.inst (leAt (bodyOf r) 0 1)).newest →
    (s.inst (leAt (bodyOf r) 0 1)).ackAny = true ∨ (s.inst (leAt (bodyOf r) 0 1)).acked = 0 →
    if s.signedOk 0x42 r then ∃ u : State, Gives (.turfAck r) s (u.answer 0x42 r 0 [] none) ∧
        (u.inst (leAt (bodyOf r) 0 1)).ackAny = true ∧
        (u.inst (leAt (bodyOf r) 0 1)).acked = Nat.max (leAt (bodyOf r) 4 4) (s.inst (leAt (bodyOf r) 0 1)).acked ∧
        (u.port r.port).nonce = none
      else Gives (.turfAck r) s ((afterNonce s r).answer 0x42 r 0x0303 [] none)) ∧
  (∀ (s : State) (r : Req), Passes s 0x43 r → leAt (bodyOf r) 0 1 < 8 → leAt (bodyOf r) 1 3 = 0 → leAt (bodyOf r) 45 3 = 0 →
    s.instOn (leAt (bodyOf r) 0 1) = true → (s.view (s.instW (leAt (bodyOf r) 0 1))).here = true →
    (s.view (s.instW (leAt (bodyOf r) 0 1))).meter = true →
    (s.view (s.instW (leAt (bodyOf r) 0 1))).serial = leAt (bodyOf r) 4 8 →
    s.ownsInst (leAt (bodyOf r) 0 1) = true → s.instLives (leAt (bodyOf r) 0 1) = false →
    if s.signedOk 0x43 r then ∃ (u : State) (l : List Byte), Gives (.ledgerProvision r) s (u.answer 0x43 r 0 l none) ∧
        u = (afterNonce s r).provision (leAt (bodyOf r) 0 1) (leAt (bodyOf r) 4 8) (leAt (bodyOf r) 44 1)
          [leAt (bodyOf r) 12 8, leAt (bodyOf r) 20 8, leAt (bodyOf r) 28 8, leAt (bodyOf r) 36 8]
      else Gives (.ledgerProvision r) s ((afterNonce s r).answer 0x43 r 0x0303 [] none)) ∧
  (∀ (s : State) (r : Req), Passes s 0x44 r → leAt (bodyOf r) 1 1 = 0 → leAt (bodyOf r) 2 2 = 0 →
    (∀ n ∈ bitsOf (leAt (bodyOf r) 0 1) 8, s.instState n = 2 ∧ s.ownsInst n = true) →
    popcount (fld s.nvm.fuseOr.toNat 0x47E 7) 7 ≠ 7 →
    if s.signedOk 0x44 r then ∃ u : State, Gives (.relight r) s (u.answer 0x44 r 1 [] none) ∧
        u.cmd.relights = s.cmd.relights ++ [leAt (bodyOf r) 0 1] ∧ u.nvm = s.nvm ∧ u.params = s.params
      else Gives (.relight r) s ((afterNonce s r).answer 0x44 r 0x0303 [] none)) ∧
  (∀ (s : State) (r : Req), Passes s 0x46 r →
    if s.signedOk 0x46 r then ∃ u : State, Gives (.setTime r) s (u.answer 0x46 r 0 [] none) ∧
        u.island.rtc = leAt (bodyOf r) 0 4 ∧ u.island.rtcUs = 0 ∧ u.pb 0x0203 2 = false ∧ u.out = s.out
      else Gives (.setTime r) s ((afterNonce s r).answer 0x46 r 0x0303 [] none)) ∧
  (∀ (s : State) (r : Req), Passes s 0x47 r → leAt (bodyOf r) 0 1 < 8 → leAt (bodyOf r) 1 1 = 1 → leAt (bodyOf r) 2 2 = 0 →
    s.instOn (leAt (bodyOf r) 0 1) = true → leAt (bodyOf r) 4 1 ≤ 3 → leAt (bodyOf r) 5 1 ≤ 63 →
    (s.view (wKey (leAt (bodyOf r) 4 1) (leAt (bodyOf r) 5 1))).here = true →
    wKey (leAt (bodyOf r) 4 1) (leAt (bodyOf r) 5 1) ≠ s.instW (leAt (bodyOf r) 0 1) →
    s.ownsInst (leAt (bodyOf r) 0 1) = true →
    if s.signedOk 0x47 r then ∃ u : State, Gives (.shardPair r) s (u.answer 0x47 r 0 [] none) ∧
        (u.inst (leAt (bodyOf r) 0 1)).bind.holders = [(leAt (bodyOf r) 4 1, leAt (bodyOf r) 5 1)] ∧
        u.pf (instStat (leAt (bodyOf r) 0 1)) 16 5 = 1
      else Gives (.shardPair r) s ((afterNonce s r).answer 0x47 r 0x0303 [] none)) ∧
  (∀ (s : State) (m : Nat) (l : List Nat), s.cmd.relights = m :: l → popcount (fld s.nvm.fuseOr.toNat 0x47E 7) 7 ≠ 7 →
    ∃ u : State, Gives (.relightComplete true) s u ∧ u.nvm.relit = true ∧ u.nvm.fuses = s.nvm.fuses |||
      (1#4096 <<< (0x47E + popcount (fld s.nvm.fuseOr.toNat 0x47E 7) 7)) |||
      (1#4096 <<< (0xC7E + popcount (fld s.nvm.fuseOr.toNat 0x47E 7) 7)) ∧
      u.nvm = { s.nvm with relit := true, fuses := u.nvm.fuses } ∧
      u = { s with nvm := u.nvm, cmd := { s.cmd with relights := l, burnt := s.cmd.burnt ++ [(m, false)] } }) ∧
  (∀ (s : State) (m : Nat) (l : List Nat), s.cmd.relights = m :: l →
    ∃ u : State, Gives (.relightComplete false) s u ∧ u.nvm = s.nvm ∧ u.latched 62 = true ∧ u.cmd.relights = l ∧
      u.cmd.burnt = s.cmd.burnt ∧ u.out = s.out) ∧
  (∀ s : State, s.cmd.relights = [] → Gives (.relightComplete true) s s ∧ Gives (.relightComplete false) s s)

/-- Event and Stoker requests (R179, R180, R258, R259, R262, R267, R737, R773 to R775): EVENT_READ past the journal answers the next
index; EVENT_SUBSCRIBE opens a handle with its mask; EVENT_CLEAR clears by mask but for levels that hold; the loads, starts,
halts and steps of the cores, and what they answer. The state STOKER_LOAD leaves an EMPTY core in is the model's reading (log 75). -/
def Obligations.EventAndStokerRequests : Prop :=
  (∀ (s : State) (r : Req), Passes s 0x50 r → s.nvm.jnext ≤ leAt r.payload 0 4 →
    Gives (.eventRead r) s (s.answer 0x50 r 0 (le 4 s.nvm.jnext) none)) ∧
  (∀ (s : State) (r : Req) (e : JEntry), Passes s 0x50 r → leAt r.payload 4 2 = 1 → leAt r.payload 0 4 < s.nvm.jnext →
    s.nvm.jnext ≤ leAt r.payload 0 4 + 8192 → s.jFind (leAt r.payload 0 4) = some e →
    Gives (.eventRead r) s (s.answer 0x50 r 0 (le 4 (leAt r.payload 0 4 + 1) ++ jBytes e) none)) ∧
  (∀ (s : State) (r : Req) (i : Nat), Passes s 0x51 r → r.port ≠ 1 →
    (s.hdl.subs.filter (fun e => e.2.port == r.port)).length < 8 → s.freeFrom 2048 0 = some i →
    ∃ u : State, Gives (.eventSubscribe r) s (u.answer 0x51 r 0 (le 4 (0x11 * 2 ^ 26 + s.genOf i * 2 ^ 16 + i)) none) ∧
      Tbl.find u.hdl.subs i = some ⟨r.port, leAt r.payload 0 8, r.iface, 0, 0⟩ ∧ (u.slot i).isOpen = true ∧
      (u.slot i).cls = 0x11) ∧
  (∀ (s : State) (r : Req), Passes s 0x52 r →
    ∃ u : State, Gives (.eventClear r) s (u.answer 0x52 r 0 (le 8 u.evStat) none) ∧
      (∀ e, e < 64 → u.latched e = (s.latched e && (!bit (leAt r.payload 0 8) e || (evLevels.contains e && s.holds e)))) ∧
      u.sys = s.sys ∧ u.out = s.out ∧ u.nvm = s.nvm) ∧
  (∀ (s : State) (r : Req) (k : Nat), Passes s 0x60 r → leAt r.payload 0 1 ≤ 3 → leAt r.payload 1 1 = 0 →
    leAt r.payload 2 2 = 0 → r.payload.length = 12 + 4 * k → leAt r.payload 4 4 + k < 8192 →
    s.stkState (leAt r.payload 0 1) ≠ 2 →
    ∃ u : State, Gives (.stokerLoad r) s (u.answer 0x60 r 0 [] none) ∧
      (∀ j, j ≤ k → Tbl.get 0#32 (u.core (leAt r.payload 0 1)).imem (leAt r.payload 4 4 + j) =
        BitVec.ofNat 32 (leAt r.payload (8 + 4 * j) 4)) ∧
      leAt r.payload 0 1 ∈ u.nvm.stored ∧ u.stkState (leAt r.payload 0 1) ≠ 0) ∧
  (∀ (s : State) (r : Req), Passes s 0x61 r → leAt r.payload 0 1 < 16 →
    (∀ c ∈ bitsOf (leAt r.payload 0 1) 4, s.stkState c ≠ 0) →
    ∃ u : State, Gives (.stokerRun r) s (u.answer 0x61 r 0 [] none) ∧
      (∀ c ∈ bitsOf (leAt r.payload 0 1) 4, (u.core c).runDue = true) ∧ u = { s with cores := u.cores }) ∧
  (∀ (s : State) (r : Req), Passes s 0x62 r → leAt r.payload 0 1 < 16 →
    ∃ u : State, Gives (.stokerHalt r) s (u.answer 0x62 r 0 [] none) ∧ u = { s with cores := u.cores } ∧
      (∀ c ∈ bitsOf (leAt r.payload 0 1) 4, (u.core c).runDue = false ∧ (s.stkState c = 2 → (u.core c).haltDue = true))) ∧
  (∀ (s : State) (r : Req), Passes s 0x63 r → leAt r.payload 0 1 ≤ 3 →
    Gives (.stokerState r) s (s.answer 0x63 r 0 (le 4 (s.core (leAt r.payload 0 1)).pc ++
      le 1 (s.stkState (leAt r.payload 0 1)) ++ le 1 (s.pf (stkStat (leAt r.payload 0 1)) 4 4) ++ zeros 2 ++
      le 4 (s.pf (0x3803 + 8 * leAt r.payload 0 1) 0 19)) none)) ∧
  (∀ (s : State) (r : Req), Passes s 0x64 r → leAt r.payload 0 1 ≤ 3 → leAt r.payload 1 3 = 0 → 1 ≤ leAt r.payload 4 4 →
    leAt r.payload 4 4 ≤ 65536 → s.stkState (leAt r.payload 0 1) = 1 →
    ∃ (u : State) (l : List Byte), Gives (.stokerStep r) s (u.answer 0x64 r 0 l none) ∧
      u.stkState (leAt r.payload 0 1) = 2 ∧ (u.core (leAt r.payload 0 1)).steps = some (leAt r.payload 4 4) ∧
      (u.core (leAt r.payload 0 1)).slice = true ∧ u.out = s.out)

/-- System requests (R151, R181, R268, R274 to R277, R298, R303): what WDG_QUESTION and WAKE_REASON answer; SLEEP_REQUEST begins
the sleep entry; CLEAR_DOUSE is taken where no event still holds Doused; DOUSE enters Doused from Lit with every contactor open;
RESET with its key falls due at the end of the Commit, and with another key is refused. -/
def Obligations.SystemRequests : Prop :=
  (∀ (s : State) (r : Req), Passes s 0x71 r → Gives (.wdgQuestion r) s (s.answer 0x71 r 0
    (le 2 (s.pf 0x0703 0 16) ++ le 1 (s.pf 0x0703 19 1) ++ le 1 (s.pf 0x0703 16 3)) none)) ∧
  (∀ (s : State) (r : Req), Passes s 0x79 r → Gives (.wakeReason r) s (s.answer 0x79 r 0 (le 4 (s.p 0x0304)) none)) ∧
  (∀ (s : State) (r : Req), Passes s 0x78 r → s.sys.sleeping = 0 →
    ∃ u : State, Gives (.sleepRequest r) s (u.answer 0x78 r 1 [] none) ∧ u.sys.sleeping = 1 ∧ u.out = s.out) ∧
  (∀ (s : State) (r : Req), Passes s 0x7D r → s.dhold &&& s.evStat = 0 → s.sys.douseTick = false →
    ∃ u : State, Gives (.clearDouse r) s (u.answer 0x7D r 0 (zeros 8) none) ∧ u.sys.clearDue = true ∧ u.p 0x060E = 0 ∧
      SameParams s u [0x060E]) ∧
  (∀ (s : State) (r : Req), Passes s 0x7D r → s.dhold &&& s.evStat ≠ 0 ∨ s.sys.douseTick = true →
    Gives (.clearDouse r) s (s.answer 0x7D r 0x0301 (le 8 (s.dhold &&& s.evStat)) none)) ∧
  (∀ (s : State) (r : Req), Passes s 0x7E r → s.sys.phase = .lit →
    ∃ t : State, exec (.douse r) s = .next t ∧ t.sys.phase = .doused ∧ contactorsOpen t = true ∧
      t.pf 0x060E 0 16 = leAt r.payload 0 2 ∧ t.pb 0x060E 16 = true) ∧
  (∀ (s : State) (r : Req), Passes s 0x7F r → leAt r.payload 0 4 = 0x5A5AA5A5 →
    ∃ u : State, Gives (.reset r) s (u.answer 0x7F r 0 [] none) ∧ u.sys.resetDue = insNat 3 s.sys.resetDue ∧
      u.params = s.params ∧ u.out = s.out ∧ u.cmd.queue = []) ∧
  (∀ (s : State) (r : Req), Passes s 0x7F r → leAt r.payload 0 4 ≠ 0x5A5AA5A5 →
    Gives (.reset r) s (s.answer 0x7F r 0x0103 [] none))

/-- CONFIG_WRITE (R89, R90, R92 to R98, R838, R839): ERASE clears its slot and WRITE writes into it, both leaving the other;
COMMIT checks and, in Kindling, loads the slot when it completes; PARAM writes one Kindling parameter; FUSE sets the field's
cells in both copies, and a field that is not 0 is refused. The reading of the sub-operations is the model's (log 62). -/
def Obligations.ConfigurationWrites : Prop :=
  (∀ (s : State) (r : Req), Passes s 0x7C r → leAt r.payload 0 1 = 1 → leAt r.payload 1 1 ≤ 1 → s.pb 0x0107 9 = false →
    ∃ u : State, Gives (.configWriteErase r) s (u.answer 0x7C r 1 [] none) ∧ u.pb 0x0107 9 = true ∧
      u.sys.nvmOp = some (0, leAt r.payload 1 1) ∧
      (∀ a, Tbl.get 0xFF#8 u.nvm.flash a = if 0x40000 * leAt r.payload 1 1 ≤ a ∧ a < 0x40000 * leAt r.payload 1 1 + 0x40000
        then 0xFF#8 else Tbl.get 0xFF#8 s.nvm.flash a)) ∧
  (∀ (s : State) (r : Req), Passes s 0x7C r → leAt r.payload 0 1 = 2 → leAt r.payload 1 1 ≤ 1 → leAt r.payload 2 2 = 0 →
    leAt r.payload 4 4 % 256 = 0 → leAt r.payload 4 4 + (r.payload.length - 8) ≤ 0x40000 → s.pb 0x0107 9 = false →
    ∃ u : State, Gives (.configWriteWrite r) s (u.answer 0x7C r 0 [] none) ∧ u = { s with nvm := { s.nvm with flash := u.nvm.flash } } ∧
      (∀ a, Tbl.get 0xFF#8 u.nvm.flash a =
        if 0x40000 * leAt r.payload 1 1 + leAt r.payload 4 4 ≤ a ∧
            a < 0x40000 * leAt r.payload 1 1 + leAt r.payload 4 4 + (r.payload.length - 8)
        then nth 0#8 r.payload (a - (0x40000 * leAt r.payload 1 1 + leAt r.payload 4 4) + 8)
        else Tbl.get 0xFF#8 s.nvm.flash a)) ∧
  (∀ (s : State) (r : Req), Passes s 0x7C r → leAt r.payload 0 1 = 3 → leAt r.payload 1 1 ≤ 1 → s.pb 0x0107 9 = false →
    ∃ u : State, Gives (.configWriteCommit r) s (u.answer 0x7C r 1 [] none) ∧ u.pb 0x0107 9 = true ∧
      u.sys.nvmOp = some (1, leAt r.payload 1 1) ∧ u.nvm = s.nvm) ∧
  (∀ (s : State) (k : Nat), s.sys.nvmOp = some (0, k) →
    ∃ u : State, Gives .eraseComplete s u ∧ u.pb 0x0107 9 = false ∧ u.sys.nvmOp = none ∧ u.nvm = s.nvm ∧
      SameParams s u [0x0107]) ∧
  (∀ (s : State) (k : Nat) (st : List WkStored), s.sys.nvmOp = some (1, k) → k < 2 → s.sys.phase ≠ .kindling →
    ∃ u : State, Gives (.commitComplete st) s u ∧ u.pb 0x0107 9 = false ∧ u.sys.nvmOp = none ∧ u.nvm = s.nvm ∧
      u.pf 0x0107 (4 * k) 4 = s.nvmEnd.imageCheck (s.slotImage k)) ∧
  (∀ (s : State) (k : Nat) (st : List WkStored), s.sys.nvmOp = some (1, k) → k < 2 → s.sys.phase = .kindling →
    ∃ u : State, Gives (.commitComplete st) s u ∧
      if s.nvmEnd.imageCheck (s.slotImage k) = 0 ∧
          ((s.nvmEnd.checkSlot k).2.imageCheck (s.slotImage (1 - k)) ≠ 0 ∨
            (s.slotImage (1 - k)).version ≤ (s.slotImage k).version)
        then u.sys.image = some (Config.decodeBody (s.slotImage k).body) ∧ u.p 0x0108 = (s.slotImage k).version
        else u.pb 0x0107 9 = false ∧ u.sys.nvmOp = none ∧ u.nvm = s.nvm ∧
          u.pf 0x0107 (4 * k) 4 = s.nvmEnd.imageCheck (s.slotImage k)) ∧
  (∀ (s t : State) (r : Req), Passes s 0x7C r → leAt r.payload 0 1 = 4 → leAt r.payload 1 1 = 0 → s.sys.phase = .kindling →
    s.pb 0x0107 9 = false → s.paramConfig (leAt r.payload 2 2) (leAt r.payload 4 4) = (0, t) →
    Gives (.configWriteParam r) s (t.answer 0x7C r 0 [] none)) ∧
  (∀ (s : State) (r : Req), Passes s 0x7C r → leAt r.payload 0 1 = 4 → leAt r.payload 1 1 = 0 → s.sys.phase = .kindling →
    s.pb 0x0107 9 = false → leAt r.payload 2 2 = 0x0200 → leAt r.payload 4 4 ≤ 4 → s.pb 0x3030 0 = false →
    s.pb 0x3031 0 = false →
    ∃ t : State, Gives (.configWriteParam r) s (t.answer 0x7C r 0 [] none) ∧ t.p 0x0200 = leAt r.payload 4 4 ∧
      t.sys = { s.sys with paramHold := insNat 0x0200 s.sys.paramHold } ∧ t = { s with params := t.params, sys := t.sys } ∧
      SameParams s t [0x0200]) ∧
  (∀ (s : State) (r : Req), Passes s 0x7C r → leAt r.payload 0 1 = 5 → leAt r.payload 1 1 = 2 → s.sys.phase = .kindling →
    s.pb 0x0107 9 = false → leAt r.payload 2 2 < 65536 → fld s.nvm.fuseOr.toNat 0x46E 16 = 0 →
    bit s.nvm.fuseOr.toNat 0x485 = false → s.fz 0x485 1 = 0 →
    ∃ u : State, Gives (.configWriteFuse r) s (u.answer 0x7C r 0 [] none) ∧
      fld u.nvm.fuseOr.toNat 0x46E 16 = leAt r.payload 2 2 ∧ u.nvm.fuses &&& s.nvm.fuses = s.nvm.fuses ∧
      u = { s with nvm := { s.nvm with fuses := u.nvm.fuses } }) ∧
  (∀ (s : State) (r : Req), Passes s 0x7C r → leAt r.payload 0 1 = 5 → leAt r.payload 1 1 = 2 → s.sys.phase = .kindling →
    s.pb 0x0107 9 = false → fld s.nvm.fuseOr.toNat 0x46E 16 ≠ 0 →
    Gives (.configWriteFuse r) s (s.answer 0x7C r 0x0301 [] none))

/-- The watchdog's answers (R284, R286, R287, R290 to R293, R846): with `q` the question, an answer from the server is correct when
it is ((q xor SEED) × 0x9E37) mod 65,536. One that is correct and received in the open window of this period answers 0, starts a
new period, steps the question by the LFSR and lowers an error count that is not 0; any other received in this period answers
0x0103, raises EV52 and the error count, which at its maximum makes a reset due, and leaves question and period. What counts is
the watchdog as it stood at receipt; a correct answer starts the next period as it arrives, and is judged when it executes. -/
def Obligations.WatchdogAnswersAreJudged : Prop :=
  (∀ (s : State) (src ans : Nat), s.wdgServer src = true → s.wdgRuns = true → s.wdg.expired = false → s.wdgEndHeld = false →
    s.wdg.period ≠ 0 → ans < 65536 → s.pb 0x0703 19 = true →
    BitVec.ofNat 16 ans = (BitVec.ofNat 16 (s.pf 0x0703 0 16) ^^^ BitVec.ofNat 16 s.wdg.seed) * 0x9E37#16 →
    s.wdg.seed < 65536 →
    ∃ u : State, s.wdgJudge ans (s.wdgSnap src) = (0, u) ∧ u.wdg.period = s.wdg.period + 1 ∧ u.pb 0x0703 19 = false ∧
      BitVec.ofNat 16 (u.pf 0x0703 0 16) = (let q := BitVec.ofNat 16 (s.pf 0x0703 0 16)
        (q >>> 1) ||| (((q ^^^ (q >>> 2) ^^^ (q >>> 3) ^^^ (q >>> 5)) &&& 1#16) <<< 15)) ∧
      u.pf 0x0703 16 3 = s.pf 0x0703 16 3 - 1 ∧ SameParams s u [0x0703] ∧ u.evt = s.evt ∧ u.sys = s.sys) ∧
  (∀ (s : State) (ans : Nat) (k : WdgSnap), k.period ≠ 0 → k.period ≠ s.wdg.period → k.isOpen = true → ans < 65536 →
    BitVec.ofNat 16 ans = (BitVec.ofNat 16 k.question ^^^ BitVec.ofNat 16 k.seed) * 0x9E37#16 → k.question < 65536 →
    k.seed < 65536 → s.wdgJudge ans k = (0, s.setPf 0x0703 16 3 (s.pf 0x0703 16 3 - 1))) ∧
  (∀ (s : State) (src ans : Nat), s.wdgServer src = true → s.wdgRuns = true → s.wdg.expired = false → s.wdgEndHeld = false →
    s.wdg.period ≠ 0 → ans < 65536 → s.wdg.seed < 65536 → s.pf 0x0703 16 3 < 7 →
    (s.pb 0x0703 19 = false ∨
      BitVec.ofNat 16 ans ≠ (BitVec.ofNat 16 (s.pf 0x0703 0 16) ^^^ BitVec.ofNat 16 s.wdg.seed) * 0x9E37#16) →
    ∃ u : State, s.wdgJudge ans (s.wdgSnap src) = (0x0103, u) ∧ u.wdg = s.wdg ∧ u.pf 0x0703 0 16 = s.pf 0x0703 0 16 ∧
      u.pf 0x0703 16 3 = s.pf 0x0703 16 3 + 1 ∧ (s.evOn 52 = true → u.latched 52 = true) ∧
      (s.wdg.errMax ≤ s.pf 0x0703 16 3 + 1 → 2 ∈ u.sys.resetDue)) ∧
  (∀ (s : State) (r : Req), Passes s 0x70 r → Gives (.wdgAnswer r) s
    ((s.wdgJudge (leAt r.payload 0 2) r.wdg).2.answer 0x70 r (s.wdgJudge (leAt r.payload 0 2) r.wdg).1
      (s.wdgJudge (leAt r.payload 0 2) r.wdg).2.wdgBytes none)) ∧
  (∀ (s : State) (r : Req), Passes s 0x70 r → r.wdg.period ≠ 0 → r.wdg.period ≠ s.wdg.period →
    wdgCorrect r.wdg (leAt r.payload 0 2) = true →
    ∃ u : State, Gives (.wdgAnswer r) s (u.answer 0x70 r 0 u.wdgBytes none) ∧
      u.pf 0x0703 16 3 = s.pf 0x0703 16 3 - 1 ∧ u.pf 0x0703 0 16 = s.pf 0x0703 0 16 ∧
      u = { s with params := u.params } ∧
      SameParams s u [0x0703]) ∧
  (∀ (s : State) (src ans : Nat),
    s.wdgServer src = false ∨ s.wdgRuns = false ∨ s.wdg.expired = true ∨ s.wdgEndHeld = true →
    s.wdgJudge ans (s.wdgSnap src) = (0x0301, s)) ∧
  (∀ (s : State) (r : Req), r.payload.length = 2 → r.flags < 2 → r.rsv = 0 → r.handle = 0 →
    wdgCorrect (s.wdgSnap r.port) (leAt r.payload 0 2) = true → r.wdg = s.wdgSnap r.port →
    ∃ u : State, s.enqueue 0x70 r = u ∧ u.wdg.period = s.wdg.period + 1 ∧ u.wdgWaits = true ∧
      u.pb 0x0703 19 = false ∧ u.pf 0x0703 0 16 = lfsr (s.pf 0x0703 0 16) ∧ u.pf 0x0703 16 3 = s.pf 0x0703 16 3 ∧
      u.cmd.queue = s.place ⟨0x70, r, false, 0, s.cmd.cycle, false, false, some (s.pf 0x0703 0 16)⟩ s.cmd.queue ∧
      SameParams s u [0x0703] ∧ u.evt = s.evt) ∧
  (∀ (s : State) (p seq flags handle iface ip udp : Nat) (l : List Byte),
    seq < 65536 → flags < 256 → handle < 2 ^ 32 → l.length ≤ 4096 →
    (s.port p).last.find? (fun e => e.1 == seq && e.2.1 == leAt (requestBytes 0x70 seq flags handle l) (12 + l.length) 4) =
      none → (s.cmd.queue.filter (fun q => q.req.port == p)).length < 64 →
    s.receive p (requestBytes 0x70 seq flags handle l) true iface ip udp =
      s.enqueue 0x70 (reqOf s p 0x70 seq flags handle l iface ip udp))

/-- The watchdog's instants (R290, R294, R295, R300, R301, R846): at 90 % EV53, at the period's end a reset due by cause 2 with
the window closed, each held back by the answers that wait and carried out when the last of them has left the queue; the window opens; a paused
watchdog resumes in Lit, and a kept one in Kindling with the settings kept, with the question stepped, from the one before a
waiting answer's step, and the error count as it was. -/
def Obligations.WatchdogInstants : Prop :=
  (∀ s : State, s.wdgRuns = true → s.wdg.expired = false → s.wdgWaits = false →
    Gives .wdgEarlyWarning s (s.raise 53 [])) ∧
  (∀ s : State, s.wdgRuns = true → s.wdg.expired = false → s.wdgWaits = true →
    ∃ u : State, Gives .wdgEarlyWarning s u ∧ u = { s with cmd := { s.cmd with queue := u.cmd.queue } } ∧
      u.cmd.queue = s.cmd.queue.map (fun q => { q with warn := q.warn || q.op == 0x70 })) ∧
  (∀ s : State, s.wdgRuns = true → s.wdg.expired = false → s.wdgWaits = false →
    ∃ u : State, Gives .wdgPeriodExpired s u ∧ u.wdg.expired = true ∧ u.sys.resetDue = insNat 2 s.sys.resetDue ∧
      u.pb 0x0703 19 = false ∧ u.pf 0x0703 0 19 = s.pf 0x0703 0 19) ∧
  (∀ s : State, s.wdgRuns = true → s.wdg.expired = false → s.wdgWaits = true →
    ∃ u : State, Gives .wdgPeriodExpired s u ∧ u.wdg = s.wdg ∧ u.wdgEndHeld = true ∧
      u.cmd.queue = s.cmd.queue.map (fun q => { q with ended := q.ended || q.op == 0x70 }) ∧
      u.sys.resetDue = s.sys.resetDue ∧ u.pb 0x0703 19 = false ∧ u.pf 0x0703 0 19 = s.pf 0x0703 0 19) ∧
  (∀ (s : State) (q : QItem), q.ended = true → s.wdgEndHeld = false →
    (s.wdgJudged q).wdg.expired = true ∧ 2 ∈ (s.wdgJudged q).sys.resetDue) ∧
  (∀ (s : State) (q : QItem), q.warn = true → q.ended = false → (∀ x ∈ s.cmd.queue, x.warn = false) →
    s.wdgJudged q = s.raise 53 []) ∧
  (∀ (s : State) (q : QItem), (q.ended = true → s.wdgEndHeld = true) → (q.warn = true → ∃ x ∈ s.cmd.queue, x.warn = true) →
    s.wdgJudged q = s) ∧
  (∀ s : State, s.wdgRuns = true → s.wdg.expired = false → s.wdgEndHeld = false →
    Gives .wdgWindowOpen s (s.setPb 0x0703 19 true)) ∧
  (∀ s : State, s.wdg.paused = true → s.sys.phase = .lit → (∀ q ∈ s.cmd.queue, q.was = none) →
    ∃ u : State, Gives .wdgResume s u ∧ u.wdgRuns = true ∧ u.wdg.paused = false ∧
      u.pf 0x0703 0 16 = lfsr (s.pf 0x0703 0 16) ∧ u.pf 0x0703 16 3 = s.pf 0x0703 16 3 ∧ u.pb 0x0703 19 = false ∧
      u.wdg.period = s.wdg.period + 1) ∧
  (∀ (s : State) (a b c d : Nat), s.island.wdgKept = some [a, b, c, d] → s.sys.phase = .kindling → s.sys.pll = true →
    (∀ q ∈ s.cmd.queue, q.was = none) →
    ∃ u : State, Gives .wdgResume s u ∧ u.wdgRuns = true ∧ u.wdg.seed = a ∧ u.wdg.periodMs = b ∧ u.wdg.openAt = c ∧
      u.wdg.errMax = d ∧ u.island.wdgKept = none ∧ u.pf 0x0703 0 16 = lfsr (s.pf 0x0703 0 16) ∧
      u.pf 0x0703 16 3 = s.pf 0x0703 16 3) ∧
  (∀ (s : State) (q : QItem) (l : List QItem) (n : Nat), s.wdg.paused = true → s.sys.phase = .lit → s.cmd.queue = q :: l →
    q.was = some n →
    ∃ u : State, Gives .wdgResume s u ∧ u.pf 0x0703 0 16 = lfsr n ∧ (∀ x ∈ u.cmd.queue, x.was = none))

/-- Load switches by events (R547, R555, R558, R559, R560, R564 to R571, R576, R580, R584 to R586): a reload takes the shadow, and a pulse in progress
keeps its on-time, and of a write in the reload's own clock takes what the shadow held before; a trip turns its channel off with its flag, latched unless AUTO retries; waits of 8 and of 1,000 ticks end, an input that has stood for its filter
time drives its channel in follow mode, a contactor goes into hold, and a weld check ends with its result by a record that came after its
delay. No other channel is touched by a trip. -/
def Obligations.LoadSwitchEvents : Prop :=
  (∀ (s : State) (g : Nat) (same : Bool), g < 16 → s.awake = true → (s.pg g).period ≠ 0 →
    ∃ u : State, Gives (.pgReload g same) s u ∧ u.p (0x2100 + 2 * g) = (s.p (0x2100 + 2 * g) + 1) % 2 ^ 32 ∧
      (u.pg g).counting = true ∧
      (∀ n, n < 24 → s.isCon n = false → s.hsBound n = true → s.pf (hsPwmStat n) 16 4 = g → (s.hs n).movePg = none →
        (s.hs n).uvOff = false → same = false ∨ (s.hs n).shPrev = none →
        u.p (hsPwm n) = s.p (hsPwmSh n) ∧
        (s.hsMay n = true → pulses (s.pf (hsPwm n) 0 16) = true → (s.hs n).rise < pgClocks (s.pg g).period →
          ∀ t, t < (s.hs n).rise + pwmOn (s.pf (hsPwm n) 0 16) (s.pg g).period - pgClocks (s.pg g).period →
            u.hsPulse n t = true)) ∧
      (∀ n w, n < 24 → s.isCon n = false → s.hsBound n = true → s.pf (hsPwmStat n) 16 4 = g → (s.hs n).movePg = none →
        (s.hs n).uvOff = false → same = true → (s.hs n).shPrev = some w →
        u.p (hsPwm n) = w % 2 ^ 32 ∧ u.p (hsPwmSh n) = s.p (hsPwmSh n) ∧ (u.hs n).shPrev = none ∧
        u.pf (hsPwmStat n) 0 16 = Nat.min (s.pf (hsPwmStat n) 0 16 + 1) 65535)) ∧
  (∀ (s : State) (n : Nat), n < 40 → s.pb (hsStat n) 0 = true → Gives (.hsLimiting n) s (s.setPb (hsStat n) 1 true)) ∧
  (∀ (s : State) (n ma : Nat), n < 40 → s.pb (hsStat n) 0 = true → (s.hs n).tripped = false →
    ∃ u : State, Gives (.hsOvercurrentTrip n ma) s u ∧ u.pb (hsStat n) 0 = false ∧ u.pb (hsStat n) 2 = true ∧
      (u.hs n).tripped = true ∧ (s.evOn 21 = true → u.latched 21 = true) ∧
      ((u.hs n).retry = (s.sys.phase != .kindling && s.pb (hsCfg n) 1 && decide (s.pf (hsStat n) 8 4 < s.pf (hsCfg n) 2 4))) ∧
      ((u.hs n).retry = false → u.pb (hsStat n) 4 = true) ∧
      (∀ m, m ≠ n → m < 40 → u.hs m = s.hs m ∧ u.p (hsStat m) = s.p (hsStat m))) ∧
  (∀ (s : State) (n ma : Nat), n < 40 → s.pb (hsStat n) 0 = true → (s.hs n).tripped = false →
    ∃ u : State, Gives (.hsThermalTrip n ma) s u ∧ u.pb (hsStat n) 0 = false ∧ u.pb (hsStat n) 2 = true ∧
      u.pb (hsStat n) 3 = true ∧ (s.evOn 23 = true → u.latched 23 = true) ∧
      (∀ m, m ≠ n → m < 40 → u.hs m = s.hs m ∧ u.p (hsStat m) = s.p (hsStat m))) ∧
  (∀ (s : State) (n : Nat), n < 40 → s.pb (hsStat n) 2 = true → 8 ≤ (s.hs n).quiet →
    ∃ u : State, Gives (.hsCooldownEnd n) s u ∧ u.pb (hsStat n) 2 = false ∧ u.out = s.out ∧ SameParams s u [hsStat n] ∧
      u.pf (hsStat n) 8 4 = (if s.pb (hsStat n) 3 = false ∧ (s.hs n).retry = true ∧ s.pb (hsCfg n) 1 = true ∧
          s.pf (hsStat n) 8 4 < s.pf (hsCfg n) 2 4
        then s.pf (hsStat n) 8 4 + 1 else s.pf (hsStat n) 8 4)) ∧
  (∀ (s : State) (n : Nat), (s.hs n).quiet < 8 → Gives (.hsCooldownEnd n) s s) ∧
  (∀ (s : State) (n : Nat), n < 40 → s.pb (hsStat n) 3 = true →
    ∃ u : State, Gives (.hsThermalRestart n) s u ∧ u.pb (hsStat n) 3 = false ∧ u.out = s.out ∧ SameParams s u [hsStat n]) ∧
  (∀ (s : State) (n : Nat), n < 40 → 1000 ≤ (s.hs n).quiet → ∃ u : State, Gives (.hsRetriesClear n) s u ∧
    u.pf (hsStat n) 8 4 = 0 ∧ SameParams s u [hsStat n] ∧ u.out = s.out) ∧
  (∀ (s : State) (n : Nat), (s.hs n).quiet < 1000 → Gives (.hsRetriesClear n) s s) ∧
  (∀ (s : State) (n us : Nat) (mv : Int), n < 16 → s.full = true → s.pb (hsStat (24 + n)) 6 = true →
    (s.hs (24 + n)).unfollow = false → s.hsMay (24 + n) = true → s.pf (0x2720 + n) 0 10 ≤ us →
    ∃ u : State, Gives (.followInputChange n mv us) s u ∧
      u.pb (hsStat (24 + n)) 0 = (s.swRead (48 + n) mv (s.swRaw (48 + n)) != s.pb (0x2720 + n) 10) ∧
      (∀ m, m ≠ 24 + n → m < 40 → u.hs m = s.hs m ∧ u.p (hsStat m) = s.p (hsStat m))) ∧
  (∀ (s : State) (n us : Nat) (mv : Int), n < 16 → s.full = true → s.pb (hsStat (24 + n)) 6 = true →
    us < s.pf (0x2720 + n) 0 10 →
    ∃ u : State, Gives (.followInputChange n mv us) s u ∧ u.params = s.params ∧ u.out.hs = s.out.hs ∧
      (u.sw (48 + n)).raw = s.swRead (48 + n) mv (s.swRaw (48 + n))) ∧
  (∀ (s : State) (n : Nat), n < 8 → (s.hs n).cont = 1 →
    ∃ u : State, Gives (.contactorPullinEnd n) s u ∧ (u.hs n).cont = 2 ∧ u.p (hsPwmSh n) = s.pf (0x2702 + 4 * n) 0 16 ∧
      u.pb (hsStat n) 7 = false ∧ u.pb (hsStat n) 0 = s.pb (hsStat n) 0) ∧
  (∀ (s : State) (w : Weld) (r : MeterRec), s.out.weld = some w → w.chan < 8 →
    (s.inst (s.pf 0x2730 8 3)).lastRec = some r → bit r.mstat 2 = false → bit r.mstat 3 = false →
    s.weldEnds w (s.inst (s.pf 0x2730 8 3)).recTick = true →
    ∃ u : State, Gives .weldCheckEnd s u ∧ u.out.weld = none ∧ u.pf 0x2731 2 3 = w.chan ∧
      u.pf 0x2731 0 2 = (if (if r.vPack < r.vLink then r.vLink - r.vPack else r.vPack - r.vLink) ≤ 1000 * s.pf 0x2730 24 8
        then 2 else 1)) ∧
  (∀ (s : State) (w : Weld), s.out.weld = some w → s.weldEnds w (s.inst (s.pf 0x2730 8 3)).recTick = false →
    Gives .weldCheckEnd s s) ∧
  (∀ (s : State) (w : Weld), s.out.weld = some w → w.chan < 8 →
    ∃ u : State, Gives .weldCheckTimeout s u ∧ u.out.weld = none ∧ u.pf 0x2731 2 3 = w.chan ∧ u.pf 0x2731 0 2 = 3 ∧
      SameParams s u [0x2731])

/-- Valve events (R590, R591, R593 to R597, R603, R604, R607, R608): a start brings the peak and counts for its bank, the peak
current the hold; a turn-off, a STOP, a failed peak and an overcurrent end the event, the queued one becoming current, and the
minimum off-time then runs. -/
def Obligations.ValveEvents : Prop :=
  (∀ (s : State) (c : Nat), c < 24 → (s.vlv c).cur.isSome = true → s.vlvRuns c = false → s.pb 0x0300 16 = false →
    s.pb 0x0300 17 = false →
    ∃ u : State, Gives (.valveStart c) s u ∧ u.pf (vlvStat c) 0 2 = 1 ∧
      Tbl.get 0 u.nvm.wear (16 + c / 4) = Nat.min (Tbl.get 0 s.nvm.wear (16 + c / 4) + 1) (2 ^ 32 - 1) ∧
      u.out = s.out ∧ SameParams s u [vlvStat c]) ∧
  (∀ (s : State) (c : Nat), c < 24 → s.pf (vlvStat c) 0 2 = 1 → Gives (.valvePeakReached c) s (s.setPf (vlvStat c) 0 2 2)) ∧
  (∀ (s : State) (c ma : Nat), c < 24 → s.pf (vlvStat c) 0 2 = 1 →
    ∃ u : State, Gives (.valvePeakTimeout c ma) s u ∧ u.pf (vlvStat c) 0 2 = 3 ∧ (u.vlv c).cur = (s.vlv c).queued ∧
      (u.vlv c).queued = none ∧ (s.evOn 27 = true → u.latched 27 = true) ∧ (∀ d, d ≠ c → u.vlv d = s.vlv d)) ∧
  (∀ (s : State) (c t : Nat) (e : VEvent), c < 24 → (s.vlv c).cur = some e → e.stop = some t → s.vlvRuns c = true →
    ∃ u : State, Gives (.valveTurnOff c) s u ∧ u.pf (vlvStat c) 0 2 = 3 ∧ u.vlv c = ⟨(s.vlv c).queued, none, t⟩ ∧
      (∀ d, d ≠ c → u.vlv d = s.vlv d) ∧ SameParams s u [vlvStat c]) ∧
  (∀ (s : State) (c ma : Nat), c < 24 → s.vlvRuns c = true →
    ∃ u : State, Gives (.valveLsOvercurrent c ma) s u ∧ u.pf (vlvStat c) 0 2 = 3 ∧ (u.vlv c).cur = (s.vlv c).queued ∧
      (s.evOn 27 = true → u.latched 27 = true) ∧ (∀ d, d ≠ c → u.vlv d = s.vlv d)) ∧
  (∀ (s : State) (b j ma : Nat), b < 6 → j < 4 → s.vlvRuns (4 * b + j) = true →
    ∃ u : State, Gives (.valveBfOvercurrent b ma) s u ∧ u.bankFeed b = false ∧
      (∀ k, k < 4 → s.vlvRuns (4 * b + k) = true → u.pf (vlvStat (4 * b + k)) 0 2 = 3) ∧
      (∀ d, d / 4 ≠ b → u.vlv d = s.vlv d)) ∧
  (∀ (s : State) (c t : Nat) (e : VEvent), c < 24 → (s.vlv c).cur = some e → e.kill = some t →
    ∃ u : State, Gives (.valveStop c) s u ∧ (u.vlv c).cur = (s.vlv c).queued ∧ (u.vlv c).queued = none ∧
      u.vlvRuns c = false ∧ SameParams s u [vlvStat c]) ∧
  (∀ (s : State) (c : Nat), s.now + s.tUs < (s.vlv c).stopped + s.minOff c → Gives (.valveMinoffEnd c) s s) ∧
  (∀ (s : State) (c : Nat), c < 24 → s.pf (vlvStat c) 0 2 = 3 → (s.vlv c).stopped + s.minOff c ≤ s.now + s.tUs →
    ∃ u : State, Gives (.valveMinoffEnd c) s u ∧ u.pf (vlvStat c) 0 2 = 0 ∧ u.out = s.out ∧ SameParams s u [vlvStat c])

/-- Bridge events (R627 to R636, R638, R639, R662): a ripple moves the position by one in the direction driven; a move that ends brakes with
result 1; a stall, a current above
STALL.I, brakes with EV30, or backs off and ends OBSTRUCTED after the brake that follows; missing ripples and an overcurrent end the move as failed, the latter in
TRIPPED; a brake ends in coast, and a dead time in the move that waits. -/
def Obligations.BridgeEvents : Prop :=
  (∀ (s : State) (b depth : Nat), b < 8 → s.hbDrives b = true → s.pf (0x2404 + 8 * b) 0 8 * 10 < depth →
    ∃ u : State, Gives (.hbRipple b depth) s u ∧
      u.p (hbPosA b) = (s.p (hbPosA b) + (if (s.hb b).dir = 1 then 1 else 2 ^ 32 - 1)) % 2 ^ 32 ∧
      SameParams s u [hbPosA b] ∧ (∀ d, d ≠ b → u.hb d = s.hb d)) ∧
  (∀ (s : State) (b : Nat) (m : Move), b < 8 → (s.hb b).move = some m → m.mode = 1 ∨ (m.mode = 2 ∧ m.left = 0) →
    (s.hb b).backing = false →
    ∃ u : State, Gives (.hbMoveEnd b) s u ∧ u.hbState b = 3 ∧ u.pf (hbStat b) 3 4 = 1 ∧ (u.hb b).move = none ∧
      SameParams s u [hbStat b] ∧ (∀ d, d ≠ b → u.hb d = s.hb d)) ∧
  (∀ (s : State) (b : Nat) (m : Move), b < 8 → (s.hb b).move = some m → m.mode = 1 ∨ (m.mode = 2 ∧ m.left = 0) →
    (s.hb b).backing = true →
    ∃ u : State, Gives (.hbMoveEnd b) s u ∧ u.hbState b = 3 ∧ u.pf (hbStat b) 3 4 = s.pf (hbStat b) 3 4 ∧
      (u.hb b).move = none ∧ (u.hb b).backing = true ∧ SameParams s u [hbStat b] ∧ (∀ d, d ≠ b → u.hb d = s.hb d)) ∧
  (∀ (s : State) (b cur : Nat) (m : Move), b < 8 → (s.hb b).move = some m →
    m.mode ≠ 2 ∨ s.pb (0x2405 + 8 * b) 0 = false ∨ (s.hb b).backing = true → 5 * s.pf (0x2403 + 8 * b) 0 8 < cur →
    ∃ u : State, Gives (.hbStall b cur) s u ∧ u.hbState b = 3 ∧ u.pf (hbStat b) 3 4 = (if m.mode = 1 then 2 else 3) ∧
      (u.hb b).move = none ∧ (s.evOn 30 = true → u.latched 30 = true)) ∧
  (∀ (s : State) (b cur : Nat) (m : Move), b < 8 → (s.hb b).move = some m → m.mode = 2 → s.pb (0x2405 + 8 * b) 0 = true →
    (s.hb b).backing = false → 5 * s.pf (0x2403 + 8 * b) 0 8 < cur →
    ∃ u : State, Gives (.hbStall b cur) s u ∧ u.hbState b = 4 ∧ (u.hb b).backing = true ∧
      (u.hb b).next = some ⟨3 - m.dir, 2, s.pf (0x2405 + 8 * b) 8 8⟩) ∧
  (∀ (s : State) (b cur : Nat), cur ≤ 5 * s.pf (0x2403 + 8 * b) 0 8 → Gives (.hbStall b cur) s s) ∧
  (∀ (s : State) (b cur : Nat) (m : Move), b < 8 → (s.hb b).move = some m → m.mode ≠ 1 →
    ∃ u : State, Gives (.hbRippleTimeout b cur) s u ∧ u.hbState b = 3 ∧ u.pf (hbStat b) 3 4 = 5 ∧ u.pb (hbStat b) 7 = false ∧
      b ∉ u.nvm.hbValid ∧ (s.evOn 30 = true → u.latched 30 = true)) ∧
  (∀ (s : State) (b cur : Nat), b < 8 → s.hbDrives b = true →
    ∃ u : State, Gives (.hbOvercurrent b cur) s u ∧ u.hbState b = 5 ∧
      ((s.hb b).move.isSome = true → u.pf (hbStat b) 3 4 = 6 ∧ (u.hb b).move = none) ∧
      (s.evOn 31 = true → u.latched 31 = true)) ∧
  (∀ (s : State) (b : Nat), b < 8 → s.hbState b = 3 → (s.hb b).backing = false →
    ∃ u : State, Gives (.hbBrakeEnd b) s u ∧ u.hbState b = 0 ∧ SameParams s u [hbStat b] ∧ u.out = s.out) ∧
  (∀ (s : State) (b : Nat), b < 8 → s.hbState b = 3 → (s.hb b).backing = true →
    ∃ u : State, Gives (.hbBrakeEnd b) s u ∧ u.hbState b = 0 ∧ u.pf (hbStat b) 3 4 = 4 ∧ (u.hb b).backing = false ∧
      (u.hb b).move = none ∧ (s.evOn 30 = true → u.latched 30 = true)) ∧
  (∀ (s : State) (b : Nat) (m : Move), b < 8 → (s.hb b).next = some m → s.hbState b = 4 → s.uvOn = false → s.ovOn = false →
    ∃ u : State, Gives (.hbRevdeadEnd b) s u ∧ u.hbState b = m.dir % 8 ∧ (u.hb b).move = some m ∧ (u.hb b).next = none ∧
      SameParams s u [hbStat b])

/-- Motor events (R643 to R655): the catch decides between align, closed loop, brake and the backward wait; start-up runs through
align and open loop into closed loop at HANDOVER, and EV32 tells that the target is reached; a backward wait or a handover that lasts too long, a fault of the gates and a fourth
observer loss are FAULT with EV35, and an earlier loss is caught again. -/
def Obligations.MotorEvents : Prop :=
  (∀ (s : State) (m : Nat) (rpm : Int), m < 4 → s.motState m = 1 →
    ∃ u : State, Gives (.motorCatchEnd m rpm) s u ∧
      u.motState m = (let v := s.motAlong m rpm
        let rated : Int := s.pf (motCfg m) 0 16
        if (100 * v < rated ∧ -(100 * v) < rated) ∨ (0 ≤ v ∧ 100 * v < (s.pf (0x2501 + 16 * m) 8 8 : Int) * rated) then 4
        else if 0 ≤ v then 6
        else if -(100 * v) < (s.pf (0x2501 + 16 * m) 16 8 : Int) * rated then 3 else 2) ∧
      u.pf (motStat m) 16 16 = Nat.min rpm.natAbs 0xFFFF ∧ (∀ k, k ≠ m → u.mot k = s.mot k)) ∧
  (∀ (s : State) (m : Nat) (rpm : Int), m < 4 → s.motState m = 2 →
    -(100 * s.motAlong m rpm) < (s.pf (0x2501 + 16 * m) 16 8 : Int) * s.pf (motCfg m) 0 16 →
    ∃ u : State, Gives (.motorBackwardRelease m rpm) s u ∧ u.motState m = 3 ∧ SameParams s u [motStat m]) ∧
  (∀ (s : State) (m : Nat) (rpm : Int), (s.pf (0x2501 + 16 * m) 16 8 : Int) * s.pf (motCfg m) 0 16 ≤ -(100 * s.motAlong m rpm) →
    Gives (.motorBackwardRelease m rpm) s s) ∧
  (∀ (s : State) (m : Nat) (rpm : Int), m < 4 → s.motState m = 2 →
    ∃ u : State, Gives (.motorBackwardTimeout m rpm) s u ∧ u.motState m = 7 ∧ u.pf (motStat m) 3 3 = 0 ∧ u.holds 35 = true) ∧
  (∀ (s : State) (m : Nat), m < 4 → s.motState m = 3 → (s.mot m).braked = false →
    ∃ u : State, Gives (.motorBrakeEnd m) s u ∧ u.motState m = 4 ∧ SameParams s u [motStat m] ∧ u.out = s.out) ∧
  (∀ (s : State) (m : Nat), m < 4 → s.motState m = 4 →
    ∃ u : State, Gives (.motorAlignEnd m) s u ∧ u.motState m = 5 ∧ SameParams s u [motStat m] ∧ u.out = s.out) ∧
  (∀ (s : State) (m : Nat) (rpm : Int), 100 * s.motAlong m rpm < (s.pf (0x2503 + 16 * m) 16 6 : Int) * s.pf (motCfg m) 0 16 →
    Gives (.motorHandover m rpm) s s) ∧
  (∀ (s : State) (m : Nat) (rpm : Int), m < 4 → s.motState m = 5 →
    (s.pf (0x2503 + 16 * m) 16 6 : Int) * s.pf (motCfg m) 0 16 ≤ 100 * s.motAlong m rpm →
    ∃ u : State, Gives (.motorHandover m rpm) s u ∧ u.motState m = 6 ∧ (u.mot m).speed = rpm ∧ SameParams s u [motStat m]) ∧
  (∀ (s : State) (m : Nat) (rpm : Int), m < 4 → s.motState m = 5 →
    ∃ u : State, Gives (.motorHandoverTimeout m rpm) s u ∧ u.motState m = 7 ∧ u.pf (motStat m) 3 3 = 4 ∧ u.holds 35 = true) ∧
  (∀ (s : State) (m : Nat) (rpm : Int), m < 4 → s.motState m = 6 → (s.mot m).starting = true →
    100 * (rpm - (s.mot m).target).natAbs ≤ 3 * (s.mot m).target.natAbs →
    ∃ u : State, Gives (.motorTargetReached m rpm) s u ∧ u.motState m = 6 ∧ (u.mot m).starting = false ∧
      (s.evOn 32 = true → u.latched 32 = true)) ∧
  (∀ (s : State) (m : Nat) (rpm : Int), 3 * (s.mot m).target.natAbs < 100 * (rpm - (s.mot m).target).natAbs →
    Gives (.motorTargetReached m rpm) s s) ∧
  (∀ (s : State) (m cause amount periods recent : Nat) (rpm : Int), (cause = 0 ∧ (amount ≤ s.pf (0x2504 + 16 * m) 0 8 ∨
      periods < s.pf (0x2504 + 16 * m) 8 8)) ∨
      (cause = 1 ∧ 100 * amount ≤ s.pf (0x2504 + 16 * m) 16 8 * s.pf (motCfg m) 0 16) ∨ 2 ≤ cause →
    Gives (.motorObserverLoss m cause amount periods rpm recent) s s) ∧
  (∀ (s : State) (m cause amount periods recent : Nat) (rpm : Int), m < 4 → s.motState m = 6 →
    (cause = 0 ∧ s.pf (0x2504 + 16 * m) 0 8 < amount ∧ s.pf (0x2504 + 16 * m) 8 8 ≤ periods) ∨
      (cause = 1 ∧ s.pf (0x2504 + 16 * m) 16 8 * s.pf (motCfg m) 0 16 < 100 * amount) →
    ∃ u : State, Gives (.motorObserverLoss m cause amount periods rpm recent) s u ∧ (s.evOn 34 = true → u.latched 34 = true) ∧
      ((s.mot m).down = 1 → u.motState m = 0) ∧
      ((s.mot m).down ≠ 1 → recent < 3 → u.motState m = 0 ∧ (u.mot m).recatch = true) ∧
      ((s.mot m).down ≠ 1 → 3 ≤ recent → u.motState m = 7 ∧ u.pf (motStat m) 3 3 = 1)) ∧
  (∀ (s : State) (m : Nat), m < 4 → s.motState m = 0 → (s.mot m).recatch = true →
    ∃ u : State, Gives (.motorRecatch m) s u ∧ u.motState m = 1 ∧ (u.mot m).recatch = false ∧
      u.pf (motStat m) 6 2 = Nat.min (s.pf (motStat m) 6 2 + 1) 3) ∧
  (∀ (s : State) (m kind : Nat) (rpm : Int), m < 4 → kind = 2 ∨ kind = 3 → s.motState m ≠ 7 →
    ∃ u : State, Gives (.motorGateFault m kind rpm) s u ∧ u.motState m = 7 ∧ u.pf (motStat m) 3 3 = kind ∧ u.holds 35 = true) ∧
  (∀ (s : State) (m : Nat), m < 4 → s.motState m = 6 → (s.mot m).down = 1 →
    ∃ u : State, Gives (.motorRampDownEnd m) s u ∧ u.motState m = 0 ∧ SameParams s u [motStat m]) ∧
  (∀ (s : State) (m : Nat), m < 4 → s.motState m = 6 → (s.mot m).down = 2 →
    ∃ u : State, Gives (.motorRampDownEnd m) s u ∧ u.motState m = 3 ∧ (u.mot m).down = 0 ∧ SameParams s u [motStat m])

/-- A WRITE at a worker (R311, R313, R314, R315, R344, R474, R679, R783): one for another address only goes on, and one to ADDR 0
goes on and is taken; NOT_OWNER and BAD_PARAM change nothing; a staged word waits for its commit, a commit with its whole group
waits for the set instant or the Commit, and the other commands act at once. -/
def Obligations.WorkersAnswerWrites : Prop :=
  (∀ (s : State) (w index : Nat) (h : WHdr) (v : Word), ∀ c ∈ writesAt w index v, (s.wk w).runs = true → h.dest ≠ 0 →
    h.dest ≠ (s.wk w).addr → Gives (c.1 h) s (s.wkPass w h 5 (writeBody h c.2.1 c.2.2 v))) ∧
  (∀ (s : State) (w index : Nat) (h : WHdr) (v : Word), ∀ c ∈ writesAt w index v, FrameReaches s w h →
    (s.wk w).accepts h = false → Gives (c.1 h) s (s.wkAck w 5 h.seq 0x0302 0)) ∧
  (∀ (s : State) (w index : Nat) (h : WHdr) (v : Word), ∀ c ∈ writesAt w index v, (s.wk w).runs = true → h.dest = 0 →
    (s.wk w).accepts h = false → Gives (c.1 h) s ((s.wkPass w h 5 (writeBody h c.2.1 c.2.2 v)).wkAck w 5 h.seq 0x0302 0)) ∧
  (∀ (s : State) (w index : Nat) (h : WHdr) (v : Word), ∀ c ∈ writesAt w index v,
    WorkerTakes s w { h with dest := (s.wk w).addr } → h.dest = 0 →
    ∃ (st val : Nat) (k : Wk), WriteDone (c.1 { h with dest := (s.wk w).addr }) s w h st val k ∧
      Gives (c.1 h) s (((s.wkPass w h 5 (writeBody h c.2.1 c.2.2 v)).updWk w (fun _ => k)).wkAck w 5 h.seq st val)) ∧
  (∀ (s : State) (w index : Nat) (h : WHdr) (v : Word), WorkerTakes s w h →
    ∀ c ∈ (if (s.wk w).meter then [Instr.balMask w h v, .balRun w h v, .impData w h index v, .impStartCommand w h v,
        .impStop w h v, .impRestart w h v]
      else [.time w h v, .slotData w h index v, .slotCommit w h v]), WriteDone c s w h 0x0103 0 (s.wk w)) ∧
  (∀ (s : State) (w : Nat) (h : WHdr) (v : Word), WorkerTakes s w h →
    ((s.wk w).meter = false → (s.wk w).hasStaged 0x10 1 = false → WriteDone (.balRun w h v) s w h 0x0103 0 (s.wk w)) ∧
    ((s.wk w).meter = false → (s.wk w).hasStaged 0x20 11 = false →
      WriteDone (.impStartCommand w h v) s w h 0x0103 0 (s.wk w)) ∧
    ((s.wk w).hasStaged 0x31 4 = false → WriteDone (.flrArm w h v) s w h 0x0103 0 (s.wk w)) ∧
    ((s.wk w).hasStaged 0x36 1 = false → WriteDone (.flrFire w h v) s w h 0x0103 0 (s.wk w)) ∧
    ((s.wk w).hasStaged 0x100 24 = false → WriteDone (.shardCommit w h v) s w h 0x0103 0 (s.wk w)) ∧
    ((s.wk w).meter = true → (s.wk w).hasStaged 0x120 15 = false →
      WriteDone (.slotCommit w h v) s w h 0x0103 0 (s.wk w))) ∧
  (∀ (s : State) (w index : Nat) (h : WHdr) (v : Word), WorkerTakes s w h → (s.wk w).meter = false →
    WriteDone (.balMask w h v) s w h 0 0 { s.wk w with staged := Tbl.set (s.wk w).staged 0x10 (v.toNat % 2 ^ 24) } ∧
    ((s.wk w).hasStaged 0x10 1 = true → WriteDone (.balRun w h v) s w h 0 0 ((s.wk w).commit 0x11 v.toNat 0x10 1)) ∧
    (0x20 ≤ index → index < 0x2B → WriteDone (.impData w h index v) s w h 0 0
      { s.wk w with staged := Tbl.set (s.wk w).staged index v.toNat }) ∧
    (index < 0x20 ∨ 0x2B ≤ index → WriteDone (.impData w h index v) s w h 0x0103 0 (s.wk w)) ∧
    ((s.wk w).hasStaged 0x20 11 = true →
      WriteDone (.impStartCommand w h v) s w h 0 0 ((s.wk w).commit 0x2B v.toNat 0x20 11)) ∧
    (∀ m, (s.wk w).imp = some m → 1 ≤ v.toNat → v.toNat ≤ 2 → ∃ k : Wk, WriteDone (.impStop w h v) s w h 0 0 k ∧
      k = { s.wk w with imp := none, raw := [], rawTick := 0, out := k.out } ∧ (m.running = false → k.out = (s.wk w).out)) ∧
    ((s.wk w).imp = none → 1 ≤ v.toNat → v.toNat ≤ 2 →
      WriteDone (.impStop w h v) s w h 0 0 { s.wk w with raw := [], rawTick := 0 }) ∧
    (∀ m, (s.wk w).imp = some m → v.toNat < 16 → m.running = true → m.point = v.toNat →
      WriteDone (.impRestart w h v) s w h 0 0
        { s.wk w with imp := some { m with running := false, repeats := m.repeats + 1 } })) ∧
  (∀ (s : State) (w index : Nat) (h : WHdr) (v : Word), WorkerTakes s w h →
    WriteDone (.flrMode w h v) s w h 0 0
      { s.wk w with flare := { (s.wk w).flare with mode := v.toNat % 2, rate := v.toNat / 2 % 2 } } ∧
    (0x31 ≤ index → index < 0x35 → WriteDone (.flrTrig w h index v) s w h 0 0
      { s.wk w with staged := Tbl.set (s.wk w).staged index v.toNat }) ∧
    (index < 0x31 ∨ 0x35 ≤ index → WriteDone (.flrTrig w h index v) s w h 0x0103 0 (s.wk w)) ∧
    ((s.wk w).hasStaged 0x31 4 = true → WriteDone (.flrArm w h v) s w h 0 0 ((s.wk w).commit 0x35 v.toNat 0x31 4)) ∧
    WriteDone (.flrTick w h v) s w h 0 0 { s.wk w with staged := Tbl.set (s.wk w).staged 0x36 v.toNat } ∧
    ((s.wk w).hasStaged 0x36 1 = true → WriteDone (.flrFire w h v) s w h 0 0 ((s.wk w).commit 0x37 v.toNat 0x36 1)) ∧
    ((s.wk w).flare.st = 3 → ∃ k : Wk, WriteDone (.flrRelease w h v) s w h 0 0 k ∧ k = { s.wk w with flare := k.flare } ∧
      k.flare.st = 0 ∧ k.flare.rows = []) ∧
    (0x100 ≤ index → index < 0x118 → WriteDone (.shardData w h index v) s w h 0 0
      { s.wk w with staged := Tbl.set (s.wk w).staged index v.toNat }) ∧
    (index < 0x100 ∨ 0x118 ≤ index → WriteDone (.shardData w h index v) s w h 0x0103 0 (s.wk w)) ∧
    ((s.wk w).hasStaged 0x100 24 = true → v.toNat < 8 → snapGood ((s.wk w).stagedAt 0x100 24) = true →
      WriteDone (.shardCommit w h v) s w h 0 0 ((s.wk w).commit 0x118 v.toNat 0x100 24))) ∧
  (∀ (s : State) (w index : Nat) (h : WHdr) (v : Word), WorkerTakes s w h → (s.wk w).meter = true →
    WriteDone (.time w h v) s w h 0 0
      { s.wk w with meterU := { (s.wk w).meterU with rtc := v.toNat, rtcUs := 0 } } ∧
    (0x120 ≤ index → index < 0x12F → WriteDone (.slotData w h index v) s w h 0 0
      { s.wk w with staged := Tbl.set (s.wk w).staged index v.toNat }) ∧
    (index < 0x120 ∨ 0x12F ≤ index → WriteDone (.slotData w h index v) s w h 0x0103 0 (s.wk w)) ∧
    ((s.wk w).hasStaged 0x120 15 = true →
      WriteDone (.slotCommit w h v) s w h 0 0 ((s.wk w).commit 0x12F v.toNat 0x120 15))) ∧
  (∀ (s : State) (w index : Nat) (h : WHdr) (v : Word) (r : PRow), WorkerTakes s w h → wkRow (s.wk w).meter index = some r →
    2 < index → r.allRo = false →
    (r.inRange (fun a => a != .ro) v.toNat = false →
      WriteDone (.writeParameter w h index v) s w h 0x0103 ((s.wk w).readP index) (s.wk w)) ∧
    (r.inRange (fun a => a != .ro) v.toNat = true →
      ∃ k : Wk, WriteDone (.writeParameter w h index v) s w h 0 (k.readP index) k ∧
        k.params = ((s.wk w).setP index (r.apply (fun a => a != .ro) ((s.wk w).p index) v.toNat)).params ∧
        k.restarted = false ∧ k.hasCfg = true ∧ k.outs = (s.wk w).outs ∧ k.wires = (s.wk w).wires)) ∧
  (∀ (s : State) (w index : Nat) (h : WHdr) (v : Word), WorkerTakes s w h →
    (wkRow (s.wk w).meter index = none → WriteDone (.writeParameter w h index v) s w h 0x0103 0 (s.wk w)) ∧
    (∀ r, wkRow (s.wk w).meter index = some r → index ≠ 1 → index ≠ 2 → r.allRo = true →
      WriteDone (.writeParameter w h index v) s w h 0x0301 ((s.wk w).readP index) (s.wk w)) ∧
    ((index = 1 ∨ index = 2) → WriteDone (.writeParameter w h index v) s w h 0 (v.toNat % 2 ^ 17)
      ((s.wk w).setP index (v.toNat % 2 ^ 17)))) ∧
  (∀ (s : State) (w : Nat) (h : WHdr) (v : Word), WorkerTakes s w h → (s.wk w).tphase ≠ 1 → (s.wk w).restarted = false →
    (s.wk w).di < 4 →
    ∃ val, WriteDone (.stationRefresh w h v) s w h 0 val { s.wk w with refresh := some v.toNat } ∧
      fld val 0 8 = (s.wk w).di ∧ fld val 8 8 = 0 ∧ fld val 24 8 = 0) ∧
  (∀ (s : State) (w : Nat) (h : WHdr) (v : Word), WorkerTakes s w h → (s.wk w).tphase = 1 →
    WriteDone (.stationRefresh w h v) s w h 0 (s.wk w).stnWord (s.wk w))

/-- An answer leaves as one frame of the worker, and nothing else of the machine changes; a commit holds its group, whose words
are staged no longer; the set instant carries out the commits that wait for it, and the Commit those of shards and slots (R309,
R310, R315, R389, R683, R688). -/
def Obligations.WorkerFramesAndCommits : Prop :=
  (∀ (s : State) (w dir kind : Nat) (b : List Byte), ∃ u : State, u = s.wkSend w dir kind b ∧
    u.sent.worker = s.sent.worker ++
      [(w, ⟨wRing w, dir, (s.wk w).addr, kind, if dir = 0 then 3 else 2, (s.wk w).seq, b⟩)] ∧
    u.wk w = { s.wk w with seq := ((s.wk w).seq + 1) % 256 } ∧ (∀ v, v ≠ w → u.wk v = s.wk v) ∧
    u = { s with wks := u.wks, sent := { s.sent with worker := u.sent.worker } }) ∧
  (∀ (k : Wk) (i v first n : Nat), (k.commit i v first n).pend = k.pend ++ [(i, v, k.stagedAt first n)] ∧
    (∀ j, first ≤ j → j < first + n → Tbl.find (k.commit i v first n).staged j = none) ∧
    (∀ j, j < first ∨ first + n ≤ j → Tbl.find (k.commit i v first n).staged j = Tbl.find k.staged j)) ∧
  (∀ (k : Wk) (m v : Nat), k.pend = [(0x11, v, [m])] → k.atSet.balMask = m ∧ k.atSet.balLeft = v ∧ k.atSet.staged = [] ∧
    k.atSet.pend = []) ∧
  (∀ k : Wk, k.atSet.pend = k.pend.filter (fun e => e.1 == 0x118 || e.1 == 0x12F) ∧
    k.atCommit.pend = k.pend.filter (fun e => !(e.1 == 0x118 || e.1 == 0x12F)) ∧ k.atSet.staged = [] ∧
    k.atCommit.staged = k.staged) ∧
  (∀ (k : Wk), k.pend = [] → k.atSet.balMask = k.balMask ∧ k.atSet.balLeft = k.balLeft - 1 ∧ k.atSet.staged = []) ∧
  (∀ (k : Wk) (v : Nat), k.pend = [] → k.refresh = some v → k.restarted = false →
    k.atSet.stMiss = 0 ∧ k.atSet.stSafe = false ∧ k.atSet.refresh = none ∧
    (∀ i, i < 4 → stnGet v i = 0 → bit k.atSet.trips i = false)) ∧
  (∀ k : Wk, k.pend = [] → k.refresh = none → k.slow = false → k.stSafe = false → k.stMiss < fld (k.p 0x48) 0 8 →
    k.atSet.stMiss = k.stMiss + 1 ∧ k.atSet.stSafe = false ∧ k.atSet.outs = k.outs) ∧
  (∀ k : Wk, k.pend = [] → k.refresh = none → k.slow = false → k.stSafe = false → k.stMiss = fld (k.p 0x48) 0 8 →
    k.atSet.stSafe = true ∧ k.atSet.outs = stnMask (k.p 0x49) k.trips)

/-- Reads of a worker (R311, R316, R317, R324, R436, R446, R493): a parameter's word, a shard word, the fault journal, the held
result of a tick, and the capture record, each in an ACK or in frames of its own; what the worker does not hold or have is
answered with INVALID_DATA or BAD_PARAM. A READ for another worker only goes on. -/
def Obligations.WorkersAnswerReads : Prop :=
  (∀ (s : State) (w index : Nat) (h : WHdr), (s.wk w).runs = true → h.dest ≠ 0 → h.dest ≠ (s.wk w).addr →
    Gives (.readParameter w h index) s (s.wkPass w h 4 (le 1 1 ++ zeros 1 ++ le 2 index ++ zeros 4)) ∧
    Gives (.readFaultJournal w h index) s (s.wkPass w h 4 (le 1 2 ++ zeros 1 ++ le 2 index ++ zeros 4)) ∧
    Gives (.readHeldResult w h index) s (s.wkPass w h 4 (zeros 1 ++ le 1 index ++ zeros 6)) ∧
    Gives (.readCaptureRecord w h index) s (s.wkPass w h 4 (le 1 3 ++ zeros 1 ++ le 2 index ++ zeros 4))) ∧
  (∀ (s : State) (w index : Nat) (h : WHdr), FrameReaches s w h → index < 0x200 →
    Gives (.readParameter w h index) s (if (wkRow (s.wk w).meter index).isSome then s.wkAck w 4 h.seq 0 ((s.wk w).readP index)
      else s.wkAck w 4 h.seq 0x0103 0)) ∧
  (∀ (s : State) (w index : Nat) (h : WHdr), (s.wk w).runs = true → h.dest = 0 → index < 0x200 →
    (wkRow (s.wk w).meter index).isSome = true → Gives (.readParameter w h index) s
      ((s.wkPass w h 4 (le 1 1 ++ zeros 1 ++ le 2 index ++ zeros 4)).wkAck w 4 h.seq 0 ((s.wk w).readP index))) ∧
  (∀ (s : State) (w inst half k : Nat) (h : WHdr), FrameReaches s w h → inst < 8 → half < 2 → k < 32 →
    Gives (.readParameter w h (0x200 + 64 * inst + 32 * half + k)) s
      (s.wkAck w 4 h.seq 0 (nth 0#32 (Tbl.get [] (s.wk w).shards (2 * inst + half)) k).toNat)) ∧
  (∀ (s : State) (w : Nat) (h : WHdr), FrameReaches s w h →
    Gives (.readFaultJournal w h 0xFFFF) s (s.wkAck w 4 h.seq 0 (s.wk w).jnext)) ∧
  (∀ (s : State) (w e k : Nat) (h : WHdr) (x : WkJ), FrameReaches s w h → e < 512 → k < 8 →
    Tbl.find (s.wk w).journal e = some x →
    Gives (.readFaultJournal w h (8 * e + k)) s (s.wkAck w 4 h.seq 0 (nth 0 (wordsOf (wkjBytes x)) k))) ∧
  (∀ (s : State) (w back : Nat) (h : WHdr), FrameReaches s w h → 3 < back →
    Gives (.readHeldResult w h back) s (s.wkAck w 4 h.seq 0x0103 0)) ∧
  (∀ (s : State) (w back : Nat) (h : WHdr), FrameReaches s w h → back ≤ 3 →
    (s.wk w).held.find? (fun r => r.tick + back == (s.wk w).tick) = none →
    Gives (.readHeldResult w h back) s (s.wkAck w 4 h.seq 0x0501 0)) ∧
  (∀ (s : State) (w back : Nat) (h : WHdr) (r : ResultRec), FrameReaches s w h → back ≤ 3 →
    (s.wk w).held.find? (fun r => r.tick + back == (s.wk w).tick) = some r →
    ∃ f, Gives (.readHeldResult w h back) s (s.wkSend w (s.wk w).toEnd 7 (resultBytes { r with flags := f })) ∧
      bit f 1 = (back != 0)) ∧
  (∀ (s : State) (w index : Nat) (h : WHdr), FrameReaches s w h → (s.wk w).flare.st ≠ 3 → (s.wk w).raw = [] →
    Gives (.readCaptureRecord w h index) s (s.wkAck w 4 h.seq 0x0501 0)) ∧
  (∀ (s : State) (w index : Nat) (h : WHdr), FrameReaches s w h →
    ((s.wk w).flare.st = 3 ∧ 20480 ≤ index) ∨
      ((s.wk w).flare.st ≠ 3 ∧ (s.wk w).raw ≠ [] ∧ (s.wk w).raw.length ≤ index) →
    Gives (.readCaptureRecord w h index) s (s.wkAck w 4 h.seq 0x0103 0)) ∧
  (∀ (s : State) (w index : Nat) (h : WHdr), FrameReaches s w h →
    ((s.wk w).flare.st = 3 ∧ index < 20480) ∨ ((s.wk w).flare.st ≠ 3 ∧ index < (s.wk w).raw.length) →
    ∃ u : State, Gives (.readCaptureRecord w h index) s u ∧ u.params = s.params ∧
      s.sent.worker.length < u.sent.worker.length ∧ (u.wk w).flare = (s.wk w).flare ∧ (u.wk w).raw = (s.wk w).raw ∧
      ∀ v, v ≠ w → u.wk v = s.wk v)

/-- A worker's timing (R31, R311, R319 to R322, R345, R346, R347, R348, R454, R690): a SYNC goes on; a PRIMARY SYNC that covers the
worker gives it its tick, after what its last tick still had to do; without one it samples on flywheel timing, and after 64 such
ticks on its own; a primary SYNC with BANK, covered or not, takes it into Banked at the tick's end with balancing, capture and
station outputs off; there it repeats a tone and leaves it by any SYNC. What a worker restarted keeps is the model's choice (log 106). -/
def Obligations.WorkerTiming : Prop :=
  (∀ (s : State) (w : Nat) (h : WHdr) (f : SyncF), (s.wk w).mode ≠ 0 → h.dest = 0 → bit f.flags 0 = true →
    f.first ≤ (s.wk w).addr → (s.wk w).addr ≤ f.last → (s.wk w).addr ≠ 0 →
    ((s.wk w).sync = none ∨ f.tick % 2 ^ 48 ≠ (s.wk w).tick ∨ (f.fromEnd = 0 ∧ (s.wk w).sync ≠ some 0)) →
    ∃ (k old : Wk), Gives (.syncFrame w h f) s ((s.updWk w (fun _ => k)).wkPass w h 1
        (le 6 f.tick ++ le 1 f.period ++ le 1 f.flags ++ le 1 f.first ++ le 1 f.last ++ zeros 6)) ∧
      old = (if f.tick % 2 ^ 48 = (s.wk w).tick then s.wk w else (s.wk w).tickOver) ∧
      k.mode = 1 ∧ k.tick = f.tick % 2 ^ 48 ∧ k.period = f.period ∧
      k.slow = bit f.flags 2 ∧ k.bank = ((s.wk w).bank || bit f.flags 1) ∧ k.sync = some f.fromEnd ∧ k.toEnd = f.fromEnd ∧
      k.fly = 0 ∧ k.own = false ∧ k.ember = false ∧ (bit f.flags 2 = false → k.outs = old.outs) ∧
      (bit f.flags 2 = true → k.wires = [] ∧ k.rt = 0 ∧
        k.outs = if old.hasCfg then stnMask (old.p 0x49) old.trips else 0) ∧ k.params = old.params ∧ k.held = (s.wk w).held ∧ k.pend = old.pend) ∧
  (∀ (s : State) (w : Nat) (h : WHdr) (f : SyncF), (s.wk w).mode ≠ 0 → h.dest = 0 →
    bit f.flags 0 = false ∨ (s.wk w).addr < f.first ∨ f.last < (s.wk w).addr ∨ (s.wk w).addr = 0 →
    ∃ k : Wk, Gives (.syncFrame w h f) s ((s.updWk w (fun _ => k)).wkPass w h 1
        (le 6 f.tick ++ le 1 f.period ++ le 1 f.flags ++ le 1 f.first ++ le 1 f.last ++ zeros 6)) ∧
      k.mode = 1 ∧ k.ember = false ∧ k.bank = ((s.wk w).bank || (bit f.flags 0 && bit f.flags 1)) ∧
      k.tick = (s.wk w).tick ∧ k.period = (s.wk w).period ∧ k.held = (s.wk w).held) ∧
  (∀ k : Wk, k.tphase = 2 → k.tickOver = k) ∧
  (∀ k : Wk, k.tphase = 1 → k.tickOver = k.atCommit) ∧
  (∀ k : Wk, k.tphase = 0 → k.tickOver = k.atSet.atCommit) ∧
  (∀ (s : State) (w : Nat), (s.wk w).runs = true → 64 ≤ (s.wk w).fly → (s.wk w).own = false →
    ∃ k : Wk, WorkerBecomes (.ownTimingStart w) s w k ∧ k = { s.wk w with own := true, journal := k.journal, jnext := k.jnext } ∧
      k.jnext = (s.wk w).jnext + 1 ∧ (Tbl.find k.journal ((s.wk w).jnext % 512)).map (·.code) = some 0x22) ∧
  (∀ (s : State) (x : WkSample), (s.wk x.w).runs = true →
    (∀ r ∈ (s.wk x.w).held, r.tick ≠ ((s.wk x.w).tick + 1) % 2 ^ 48) →
    ∃ u : State, Gives (.flywheelSample x) s u ∧ (u.wk x.w).tick = ((s.wk x.w).tick + 1) % 2 ^ 48 ∧
      (∃ r l, (u.wk x.w).held = r :: l ∧ l = (s.wk x.w).held.take 3 ∧ r.tick = (u.wk x.w).tick ∧ bit r.flags 0 = true) ∧
      (s.sent.worker.length < u.sent.worker.length) ∧ u.params = s.params ∧ u.flue = s.flue ∧ u.out = s.out ∧
      ∀ v, v ≠ x.w → u.wk v = s.wk v) ∧
  (∀ (s : State) (w : Nat), (s.wk w).runs = true → (s.wk w).bank = true →
    ∃ k : Wk, WorkerBecomes (.workerBankEntry w) s w k ∧ k.mode = 2 ∧ k.balMask = 0 ∧ k.balLeft = 0 ∧ k.imp = none ∧
      k.flare.st = 0 ∧ k.outs = 0 ∧ k.params = (s.wk w).params ∧ k.meterU = (s.wk w).meterU ∧ k.shards = (s.wk w).shards ∧
      k.journal = (s.wk w).journal) ∧
  (∀ (s : State) (w lane : Nat), (s.wk w).mode = 2 → lane < 2 →
    Gives (.emberRepeat w lane) s (s.mapSent (fun t =>
      { t with worker := t.worker ++ [(w, ⟨wRing w, 1 - lane, 0, 0xEE, 0, 0, []⟩)] }))) ∧
  (∀ (s : State) (x : WkSample), (s.wk x.w).mode = 2 →
    ∃ u : State, Gives (.bankedCheck x) s u ∧ (u.wk x.w).mode = 2 ∧ ((s.wk x.w).ember = true → (u.wk x.w).ember = true) ∧
      ((u.wk x.w).ember = true → (u.wk x.w).emberTold = true ∨ (s.wk x.w).ember = true) ∧
      u.sent.worker = s.sent.worker ++ (if (u.wk x.w).ember then
        [(x.w, ⟨wRing x.w, 0, 0, 0xEE, 0, 0, []⟩), (x.w, ⟨wRing x.w, 1, 0, 0xEE, 0, 0, []⟩)] else []) ∧
      u.params = s.params ∧ u.out = s.out ∧ ∀ v, v ≠ x.w → u.wk v = s.wk v)

/-- Addresses and leases (R311, R330 to R335, R341 to R343, R521): each worker takes count + 1 from end A, or total less count from
end B, and forwards the frame; a CAL is acknowledged; RENEW, CLAIM and RELEASE wait for the sample instant, where one tick
without a RENEW counts down, a claim is granted only on a free lease and A before B, and a release names no owner. -/
def Obligations.WorkerAddressesAndLeases : Prop :=
  (∀ (s : State) (w count : Nat) (h : WHdr), (s.wk w).mode ≠ 0 → count < 63 →
    ∃ (u : State) (k : Wk), u = s.updWk w (fun _ => k) ∧ k.addr = count + 1 ∧ k.mode = 1 ∧ k.p 1 = 0 ∧ k.p 2 = 0 ∧
      Gives (.enumAssignA w h count) s (u.wkPass w h 2 (zeros 1 ++ le 1 (count + 1) ++ zeros 2))) ∧
  (∀ (s : State) (w : Nat) (h : WHdr), (s.wk w).mode ≠ 0 →
    ∃ k : Wk, k.addr = 0 ∧ k.mode = (s.wk w).mode ∧ k.params = (s.wk w).params ∧
      Gives (.enumAssignA w h 63) s ((s.updWk w (fun _ => k)).wkPass w h 2 (zeros 1 ++ le 1 63 ++ zeros 2))) ∧
  (∀ (s : State) (w count : Nat) (h : WHdr), (s.wk w).mode ≠ 0 →
    ∃ k : Wk, k = { s.wk w with lostA := k.lostA, lostB := k.lostB } ∧
      Gives (.enumProbeB w h count) s ((s.updWk w (fun _ => k)).wkPass w h 2 (le 1 1 ++ le 1 (count + 1) ++ zeros 2))) ∧
  (∀ (s : State) (w count total : Nat) (h : WHdr), (s.wk w).mode ≠ 0 → count < total → total ≤ 63 →
    ∃ (u : State) (k : Wk), u = s.updWk w (fun _ => k) ∧ k.addr = total - count ∧ k.mode = 1 ∧ k.p 1 = 0 ∧ k.p 2 = 0 ∧
      Gives (.enumAssignB w h count total) s (u.wkPass w h 2 (le 1 2 ++ le 1 (count + 1) ++ le 1 total ++ zeros 1))) ∧
  (∀ (s : State) (w lane a kind flags seq : Nat) (b : List Byte), lane < 2 →
    ∃ d, d = (if (if lane = 0 then (s.wk w).lostB else (s.wk w).lostA) then lane else 1 - lane) ∧
      s.wkForward w lane a kind flags seq b = { s with sent := { s.sent with worker := s.sent.worker ++
        [(w, ⟨wRing w, d, a, kind, flags + (if d = 0 then 1 else 0), seq, b⟩)] } }) ∧
  (∀ (s : State) (w : Nat) (h : WHdr) (kind : Nat) (b : List Byte),
    s.wkPass w h kind b = s.wkForward w h.lane h.dest kind (4 * h.role) h.seq b) ∧
  (∀ (s : State) (w : Nat) (h : WHdr), FrameReaches s w h →
    Gives (.enumCal w h) s (s.wkSend w h.lane 6 (le 1 2 ++ le 1 h.seq ++ le 2 0 ++ le 4 0))) ∧
  (∀ (s : State) (w : Nat) (h : WHdr), (s.wk w).runs = true → h.dest ≠ 0 → h.dest ≠ (s.wk w).addr →
    Gives (.enumCal w h) s (s.wkPass w h 2 (le 1 3 ++ zeros 3))) ∧
  (∀ (s : State) (w : Nat) (h : WHdr) (f : LeaseF), (s.wk w).runs = true → h.dest = 0 → (s.wk w).covered f = true →
    f.role = (s.wk w).owner → f.role ≠ 0 →
    (f.epoch = (s.wk w).epoch → Gives (.leaseRenew w h f) s ((s.updWk w (fun k => { k with lsRenew := true })).wkPass w h 3
      (le 1 f.role ++ le 1 1 ++ le 2 f.epoch ++ le 1 f.first ++ le 1 f.last ++ zeros 2))) ∧
    Gives (.leaseRelease w h f) s ((s.updWk w (fun k => { k with lsRel := true })).wkPass w h 3
      (le 1 f.role ++ le 1 3 ++ le 2 f.epoch ++ le 1 f.first ++ le 1 f.last ++ zeros 2))) ∧
  (∀ (s : State) (w : Nat) (h : WHdr) (f : LeaseF), (s.wk w).runs = true → h.dest = 0 → (s.wk w).covered f = true →
    (f.role = 1 → Gives (.leaseClaim w h f) s ((s.updWk w (fun k => { k with lsA := true })).wkPass w h 3
      (le 1 1 ++ le 1 2 ++ le 2 f.epoch ++ le 1 f.first ++ le 1 f.last ++ zeros 2))) ∧
    (f.role = 2 → Gives (.leaseClaim w h f) s ((s.updWk w (fun k => { k with lsB := true })).wkPass w h 3
      (le 1 2 ++ le 1 2 ++ le 2 f.epoch ++ le 1 f.first ++ le 1 f.last ++ zeros 2)))) ∧
  (∀ (s : State) (w : Nat) (h : WHdr) (f : LeaseF), (s.wk w).runs = true → h.dest = 0 → (s.wk w).covered f = false →
    ∀ c ∈ [Instr.leaseRenew w h f, .leaseClaim w h f, .leaseRelease w h f], ∃ u : State, Gives c s u ∧
      (∀ v, u.wk v = s.wk v) ∧ u.sent.worker.length = s.sent.worker.length + 1 ∧ u.params = s.params) ∧
  (∀ k : Wk, (k.owner = 0 ∨ k.remain = 0) → (k.lsA = true ∨ k.lsB = true) →
    k.leaseUpdate.owner = (if k.lsA then 1 else 2) ∧ k.leaseUpdate.remain = 8 ∧
    k.leaseUpdate.epoch = (k.epoch + 1) % 65536) ∧
  (∀ k : Wk, k.owner ≠ 0 → k.remain ≠ 0 → k.leaseUpdate.epoch = k.epoch ∧
    (k.lsRel = true → k.leaseUpdate.owner = 0) ∧
    (k.lsRel = false → k.leaseUpdate.owner = k.owner ∧
      k.leaseUpdate.remain = if k.lsRenew then 8 else k.remain - 1)) ∧
  (∀ k : Wk, k.leaseUpdate.lsRenew = false ∧ k.leaseUpdate.lsA = false ∧ k.leaseUpdate.lsB = false ∧
    k.leaseUpdate.lsRel = false)

/-- Lanes and power of a worker (R16, R32, R306, R311, R333, R353, R354, R471, R472, R682, R688, R692, R809): a lost lane is alarmed away
from the loss and ends by a lock; an ALARM goes on; supply brings back what MRAM holds, restarted, with its safe values, or off
without a configuration; its loss switches the station off; a trip switches off one output and is kept. That a part of the same
serial with another ROLE counts as another part is the model's choice (log 142). -/
def Obligations.WorkerLanesAndPower : Prop :=
  (∀ (s : State) (w lane : Nat), (s.wk w).runs = true → lane < 2 → (if lane = 0 then (s.wk w).lostA else (s.wk w).lostB) = false →
    ∃ u : State, Gives (.laneLoss w lane) s u ∧ (if lane = 0 then (u.wk w).lostA else (u.wk w).lostB) = true ∧
      (u.wk w).jnext = (s.wk w).jnext + 1 ∧ (u.wk w).params = (s.wk w).params ∧ (u.wk w).outs = (s.wk w).outs ∧
      u.sent.worker = s.sent.worker ++ [(w, ⟨wRing w, 1 - lane, (s.wk w).addr, 9, 2 + lane, (s.wk w).seq,
        le 1 0x10 ++ le 1 lane ++ zeros 2 ++ le 6 (s.wk w).tick ++ zeros 2⟩)] ∧ (∀ v, v ≠ w → u.wk v = s.wk v) ∧
      u.params = s.params) ∧
  (∀ (s : State) (w : Nat), WorkerBecomes (.laneLock w 0) s w { s.wk w with lostA := false } ∧
    WorkerBecomes (.laneLock w 1) s w { s.wk w with lostB := false }) ∧
  (∀ (s : State) (w lane addr seq cause item raw tick : Nat), (s.wk w).runs = true → lane < 2 →
    ∃ (u : State) (d : Nat), Gives (.workerAlarmReceived w lane addr seq cause item raw tick) s u ∧
      (u.wk w).toEnd = (if cause = 0x10 ∧ (s.wk w).toEnd = lane then 1 - lane else (s.wk w).toEnd) ∧
      d = (if (if lane = 0 then (s.wk w).lostB else (s.wk w).lostA) then lane else 1 - lane) ∧
      u.sent.worker = s.sent.worker ++ [(w, ⟨wRing w, d, addr, 9, if d = 0 then 3 else 2, seq,
        le 1 cause ++ le 1 item ++ le 2 raw ++ le 6 tick ++ zeros 2⟩)] ∧
      (∀ v, v ≠ w → u.wk v = s.wk v) ∧ u.params = s.params) ∧
  (∀ (s : State) (w : Nat) (m : Bool) (serial : Nat), (s.wk w).mode = 0 → (s.wk w).serial = serial → (s.wk w).meter = m →
    ∃ k : Wk, WorkerBecomes (.workerPowerUp w m serial) s w k ∧ k.mode = 1 ∧ k.restarted = true ∧ k.serial = serial ∧
      k.meter = m ∧ k.owner = 0 ∧ k.balLeft = 0 ∧ k.imp = none ∧ k.onRc = true ∧ k.hasCfg = (s.wk w).hasCfg ∧ k.shards = (s.wk w).shards ∧
      (∀ i, 5 ≤ i → i ≠ 0x10 → k.p i = (s.wk w).p i) ∧
      k.outs = (if (s.wk w).hasCfg then (s.wk w).p 0x49 else 0) ∧ (s.wk w).jnext < k.jnext ∧
      (m = true → k.meterU.slot0 = (s.wk w).meterU.slot0 ∧ k.meterU.slot1 = (s.wk w).meterU.slot1 ∧
        ∀ a, newerSlot k.meterU.slot0 k.meterU.slot1 = some a → k.meterU.eIn = a.eIn ∧ k.meterU.eOut = a.eOut ∧
          k.meterU.qIn = a.qIn ∧ k.meterU.qOut = a.qOut ∧ k.meterU.seq = a.seq)) ∧
  (∀ (s : State) (w : Nat) (m : Bool) (serial : Nat), (s.wk w).mode = 0 → (s.wk w).serial ≠ serial ∨ (s.wk w).meter ≠ m →
    ∃ k : Wk, WorkerBecomes (.workerPowerUp w m serial) s w k ∧ k.mode = 1 ∧ k.restarted = true ∧ k.serial = serial ∧
      k.meter = m ∧ k.outs = 0 ∧ k.shards = [] ∧ k.params = [] ∧ k.meterU.eIn = 0 ∧ k.meterU.eOut = 0 ∧
      (m = true → k.meterU.fresh = true)) ∧
  (∀ (s : State) (w : Nat), (s.wk w).mode ≠ 0 →
    WorkerBecomes (.workerPowerLoss w) s w { s.wk w with mode := 0, outs := 0 }) ∧
  (∀ (s : State) (w i : Nat), (s.wk w).runs = true → i < 4 → stnGet (s.wk w).outs i ≠ 0 →
    ∃ k : Wk, WorkerBecomes (.stationOutputTrip w i) s w k ∧ k = { s.wk w with outs := k.outs, trips := k.trips } ∧
      bit k.trips i = true ∧ stnGet k.outs i = 0 ∧
      ∀ j, j < 4 → j ≠ i → bit k.trips j = bit (s.wk w).trips j ∧ stnGet k.outs j = stnGet (s.wk w).outs j)

/-- Instants of a worker's own (R389, R403, R405, R413, R421, R422, R426, R427, R429, R437, R439, R440, R442, R443, R449, R450): a
wire not decided in time is decided open and journalled; the routine test begins, or waits for a running point; balancing ends;
an impedance point starts, putting off a routine test that has begun
(the model's reading, log 190), and ends with its frame; a flare meets its trigger sample, and then its last sample. -/
def Obligations.WorkerInstants : Prop :=
  (∀ (s : State) (w j : Nat) (x : Wire), Tbl.find (s.wk w).wires j = some x → x.isOpen = false →
    ∃ k : Wk, WorkerBecomes (.owHoldExpired w j) s w k ∧
      k = { s.wk w with wires := k.wires, journal := k.journal, jnext := k.jnext } ∧
      (Tbl.find k.wires j).map (·.isOpen) = some true ∧ (∀ i, i ≠ j → Tbl.find k.wires i = Tbl.find (s.wk w).wires i) ∧
      k.jnext = (s.wk w).jnext + 1 ∧
      (Tbl.find k.journal ((s.wk w).jnext % 512)).map (fun e => (e.code, e.item)) = some (0x24, j)) ∧
  (∀ (s : State) (w : Nat), (s.wk w).runs = true → (s.wk w).meter = false → (s.wk w).slow = false → s.pf 0x1105 0 16 ≠ 0 →
    (s.wk w).rt = 0 →
    ((s.wk w).impCells = 0 →
      WorkerBecomes (.owRoutineTest w) s w { s.wk w with rt := 1, rtSrc := [], rtDue := false }) ∧
    ((s.wk w).impCells ≠ 0 → WorkerBecomes (.owRoutineTest w) s w { s.wk w with rtDue := true })) ∧
  (∀ (s : State) (w : Nat), (s.wk w).runs = true → WorkerBecomes (.balanceEnd w) s w { s.wk w with balLeft := 0 }) ∧
  (∀ (s : State) (w : Nat) (m : WkImp), (s.wk w).runs = true → (s.wk w).imp = some m → m.running = false →
    ∃ k : Wk, WorkerBecomes (.impPointStart w) s w k ∧ k = { s.wk w with imp := k.imp, rawTick := k.rawTick, rt := 0, rtSrc := k.rtSrc, rtDue := k.rtDue } ∧
      k.rtDue = ((s.wk w).rtDue || (s.wk w).rt != 0) ∧ ((s.wk w).rt = 0 → k.rtSrc = (s.wk w).rtSrc) ∧
      ∃ d, k.imp = some { m with running := true, tick := (s.wk w).tick % 2 ^ 32, drive := d } ∧
        ∀ c φ, (c, φ) ∈ d ↔ 1 ≤ c ∧ c ≤ 24 ∧ bit (nth 0 m.words 1) (c - 1) = true ∧ c ∉ m.bad ∧ (s.wk w).beside c = false ∧
          φ = if (c + (s.wk w).addr) % 2 = 0 then 0 else 180) ∧
  (∀ (m : WkImp) (c j : Nat), (∀ φ, (c, φ) ∉ m.drive) → m.draws c j = 0) ∧
  (∀ (s : State) (w : Nat) (conv : List (List (Int × Int))) (m : WkImp), (s.wk w).runs = true →
    (s.wk w).imp = some m → m.running = true →
    ∃ u : State, Gives (.impPointEnd w conv) s u ∧
      (∃ f, (u.wk w).out = (s.wk w).out ++ [(8, f)]) ∧
      (wordByte m.words 0 ≤ m.point + 1 → (u.wk w).imp = none) ∧
      (m.point + 1 < wordByte m.words 0 → ∃ x, (u.wk w).imp = some x ∧ x.point = m.point + 1 ∧ x.running = false ∧
        x.repeats = 0 ∧ x.words = m.words ∧ x.slot = m.slot) ∧
      (∀ x, x ≠ w → u.wk x = s.wk x) ∧ u.params = s.params ∧ u.out = s.out) ∧
  (∀ (s : State) (w tick off : Nat) (now ago : List Int), (s.wk w).runs = true → (s.wk w).flare.st = 1 →
    trigMet (s.wk w).meter (s.wk w).flare.trig (flareSlots s.free (s.wk w).meter now)
      (flareSlots s.free (s.wk w).meter ago) = true →
    ∃ u : State, Gives (.flareTrigger w tick off now ago) s u ∧ (u.wk w).flare.st = 2 ∧ (u.wk w).flare.tick = tick % 2 ^ 48 ∧
      (u.wk w).flare.offset = off % 65536 ∧ u.sent.worker.length = s.sent.worker.length + 1 ∧
      (∀ x, x ≠ w → u.wk x = s.wk x) ∧ u.params = s.params) ∧
  (∀ (s : State) (w tick off : Nat) (now ago : List Int),
    trigMet (s.wk w).meter (s.wk w).flare.trig (flareSlots s.free (s.wk w).meter now)
      (flareSlots s.free (s.wk w).meter ago) = false → Gives (.flareTrigger w tick off now ago) s s) ∧
  (∀ (meter : Bool) (trig now ago : List Nat), wordByte trig 1 < 2 → wordByte trig 1 ≠ 0xFF →
    (wordByte trig 0 = 4 → meter = true → trigMet meter trig now ago =
      decide (ofTwos 16 (nth 0 trig 1) < ofTwos 16 (nth 0 now (wordByte trig 1)))) ∧
    (wordByte trig 0 = 5 → meter = false → trigMet meter trig now ago =
      decide (nth 0 now (wordByte trig 1) % 65536 < nth 0 trig 1 % 65536)) ∧
    (wordByte trig 0 < 4 ∨ 6 < wordByte trig 0 → trigMet meter trig now ago = false)) ∧
  (∀ (n : Nat) (l : List Int) (k : Nat), 4 ≤ k → k < 25 → nth 0 (flareSlots n true l) k = 0) ∧
  (∀ (s : State) (w : Nat) (rows : List (List Int)), (s.wk w).runs = true → (s.wk w).flare.st = 2 →
    (s.wk w).flare.mode = 0 →
    ∃ (u : State) (n : Nat), Gives (.flareComplete w rows) s u ∧ n = (s.wk w).flare.before (s.wk w).period ∧
      (u.wk w).flare = { (s.wk w).flare with st := 3, short := n != 0, rows := (u.wk w).flare.rows } ∧
      (∀ j, j < n → nth [] (u.wk w).flare.rows j = List.replicate 25 0) ∧
      (∀ j, n ≤ j → j < rows.length → nth [] (u.wk w).flare.rows j = flareSlots s.free (s.wk w).meter (nth [] rows j)) ∧
      u.sent.worker.length = s.sent.worker.length + 1 ∧ (∀ x, x ≠ w → u.wk x = s.wk x) ∧ u.params = s.params)

/-- Frames of the workers at the manager (R65, R312, R325, R328, R353, R358, R359, R363, R366, R431, R440, R443, R447, R450, R679,
R789): a frame whose CRC fails is discarded and counted; a result in time is held, one that is late is held with LATE; an ACK ends
what waits for it; a flare that triggers or completes raises EV19 or EV20, and a group follows from the next Apply; a hard-limit
ALARM opens every contactor, and a LANE_LOSS declares the break; a lost worker's loss is counted and EV06 holds until it answers;
a healed ring is whole again. -/
def Obligations.ManagerTakesWorkerFrames : Prop :=
  (∀ (s : State) (f : ResultF), s.awake = true → f.ring < 4 → 1 ≤ f.addr → f.addr ≤ 63 → f.crcOk = false →
    ∃ u : State, Gives (.resultFrame f) s u ∧ u = { s with params := u.params } ∧ SameParams s u [0x1008 + f.ring] ∧
      u.pf (0x1008 + f.ring) 0 16 = Nat.min (s.pf (0x1008 + f.ring) 0 16 + 1) 65535) ∧
  (∀ (s : State) (ring fe addr etype seq st cause item raw tick : Nat) (v : Word) (b : StreamBody), s.awake = true → ring < 4 →
    ∀ c ∈ [Instr.ackFrame ring addr false etype seq st v, .streamFrame ring addr false b,
      .alarmFrame ring fe addr false cause item raw tick],
    ∃ u : State, Gives c s u ∧ u = { s with params := u.params } ∧ SameParams s u [0x1008 + ring] ∧
      u.pf (0x1008 + ring) 0 16 = Nat.min (s.pf (0x1008 + ring) 0 16 + 1) 65535) ∧
  (∀ (s : State) (f : ResultF), s.awake = true → f.ring < 4 → 1 ≤ f.addr → f.addr ≤ 63 → f.crcOk = true →
    (s.view (wKey f.ring f.addr)).here = true → (s.view (wKey f.ring f.addr)).lost = false →
    (∀ e ∈ (s.view (wKey f.ring f.addr)).res, e.1.tick ≠ f.body.tick) → (s.view (wKey f.ring f.addr)).res.length < 8 →
    ∃ u : State, Gives (.resultFrame f) s u ∧
      (f.body.tick = s.tick → s.sys.tph ≤ 2 → (f.body, false) ∈ (u.view (wKey f.ring f.addr)).res ∧
        (u.view (wKey f.ring f.addr)).got = true ∧ (u.view (wKey f.ring f.addr)).miss = 0) ∧
      (f.body.tick ≠ s.tick ∨ 2 < s.sys.tph → (f.body, true) ∈ (u.view (wKey f.ring f.addr)).res ∧
        (u.view (wKey f.ring f.addr)).got = (s.view (wKey f.ring f.addr)).got) ∧
      (∀ v, v ≠ wKey f.ring f.addr → u.view v = s.view v) ∧ u.out = s.out ∧ u.nvm = s.nvm ∧ u.wks = s.wks ∧ u.hdl = s.hdl) ∧
  (∀ (s : State) (ring addr seq st : Nat) (v : Word), s.awake = true → ring < 4 → (s.view (wKey ring addr)).ack = 1 →
    (s.view (wKey ring addr)).refSeq = seq → (s.view (wKey ring addr)).waits = [] → st = 0 ∨ st = 0x0302 →
    ∃ u : State, Gives (.ackFrame ring addr true 5 seq st v) s u ∧
      u.view (wKey ring addr) = { s.view (wKey ring addr) with ack := if st = 0 then 2 else 3 } ∧
      (∀ w, w ≠ wKey ring addr → u.view w = s.view w) ∧ u.params = s.params ∧ u.out = s.out) ∧
  (∀ (s : State) (ring addr seq st : Nat) (v : Word) (x : PWait), s.awake = true → ring < 4 →
    (s.view (wKey ring addr)).waits = [x] → x.rseq = seq →
    ∃ u : State, Gives (.ackFrame ring addr true 5 seq st v) s u ∧ (u.view (wKey ring addr)).waits = [] ∧
      (∀ r ∈ (u.port x.port).slots, ∀ a, r.wait = some a → a.lodge ≠ x.lodge) ∧ u.out = s.out ∧ u.nvm = s.nvm) ∧
  (∀ (s : State) (ring addr k first : Nat) (rows : List (List Nat)) (f : FlrMgr), s.full = true →
    s.flrOf (wKey ring addr) = some (k, f) → Tbl.find s.flue.flares k = some f → f.mode = 1 → f.st = 4 → s.ethUp 0 = true →
    f.rate ≤ 1 →
    ∃ (u : State) (b : List Byte), Gives (.streamFrame ring addr true (.samples first rows)) s u ∧
      u = ((s.updFlr k (fun _ => { f with
        seq := (f.seq + 1) % 65536, gap := false, idx := some (s.tick, first + rows.length) })).pushOut 1 ⟨2, 0, f.ip, f.udp, b⟩) ∧
      leAt b 0 1 = 0xF4 ∧ leAt b 2 2 = f.seq % 65536 ∧ bit (leAt b 7 1) 1 = (f.gap || s.streamGap f first) ∧
      u.nvm = s.nvm) ∧
  (∀ (s : State) (ring addr k first rec flags tick off : Nat) (f : FlrMgr), s.full = true →
    s.flrOf (wKey ring addr) = some (k, f) → Tbl.find s.flue.flares k = some f → f.st = 1 → f.mode = 0 →
    4 ≤ wordByte f.trig 0 → wordByte f.trig 0 ≤ 6 → bit flags 2 = true → bit flags 3 = false →
    ∃ u : State, Gives (.streamFrame ring addr true (.flare first rec flags tick off [])) s u ∧
      Tbl.find u.flue.flares k = some { f with st := 2, tick := tick, offset := off } ∧ (s.evOn 19 = true → u.latched 19 = true) ∧
      u.flue.groups = s.flue.groups ++ (if wordByte f.trig 2 = 0 then [] else [⟨wordByte f.trig 2, tick, off, s.tick + 1⟩]) ∧
      u.out = s.out ∧ u.nvm = s.nvm) ∧
  (∀ (s : State) (ring addr k first rec flags tick off : Nat) (f : FlrMgr), s.full = true → k < 2048 →
    s.flrOf (wKey ring addr) = some (k, f) → Tbl.find s.flue.flares k = some f → f.st = 2 → bit flags 2 = false →
    bit flags 3 = true →
    ∃ u : State, Gives (.streamFrame ring addr true (.flare first rec flags tick off [])) s u ∧
      Tbl.find u.flue.flares k = some { f with st := 3, tick := tick, offset := off } ∧ (s.evOn 20 = true → u.latched 20 = true) ∧
      u.out = s.out ∧ u.nvm = s.nvm) ∧
  (∀ (s : State) (ring addr slot point rep valid tick freq : Nat) (z : List (Int × Int)) (m : ImpMgr), s.full = true →
    Tbl.find s.flue.imps slot = some m → m.w = wKey ring addr → m.status = 0 → m.cur = point → m.repeats < 3 →
    point + 1 < wordByte m.words 0 →
    ∃ u : State, Gives (.streamFrame ring addr true (.impPoint slot point 0 rep valid tick freq z)) s u ∧
      Tbl.find u.flue.imps slot = some { m with points := Tbl.set m.points point ⟨0, Nat.min rep 3, valid, tick, freq, z⟩,
                                                done := m.done + 1, cur := point + 1, repeats := 0 } ∧
      u.out = s.out ∧ u.params = s.params) ∧
  (∀ (s : State) (ring fe addr cause item raw tick : Nat), s.awake = true → ring < 4 → 1 ≤ cause → cause ≤ 15 →
    ∃ u : State, Gives (.alarmFrame ring fe addr true cause item raw tick) s u ∧ contactorsOpen u = true ∧
      ∀ n ∈ s.contactors, (u.hs n).cmdOn = false) ∧
  (∀ (s : State) (ring fe addr raw tick : Nat), s.awake = true → ring < 4 → 1 ≤ addr → addr ≤ 63 →
    s.pb (ringStat ring) 6 = false →
    ∃ u : State, Gives (.alarmFrame ring fe addr true 0x10 0 raw tick) s u ∧ u.pb (ringStat ring) 6 = true ∧
      u.pf (ringStat ring) 8 6 = addr - 1 ∧ u.pf (ringStat ring) 14 6 = addr ∧ u.holds (2 + ring) = true ∧ u.out = s.out) ∧
  (∀ (s : State) (f : RingFound), s.awake = true → s.ringOn f.ring = true → s.pb (ringStat f.ring) 6 = true →
    ∃ u : State, Gives (.ringHeal f) s u ∧ u.pb (ringStat f.ring) 6 = false ∧ u.pb (ringStat f.ring) 7 = false ∧
      u.pf (ringStat f.ring) 0 6 = s.pf (ringStat f.ring) 0 6 ∧ u.pf (ringStat f.ring) 8 6 = s.pf (ringStat f.ring) 0 6 ∧
      u.holdsItem (2 + f.ring) f.ring = false ∧ u.out = s.out ∧ u.nvm = s.nvm) ∧
  (∀ (s : State) (ring addr : Nat), s.awake = true → ring < 4 → 1 ≤ addr → addr ≤ 63 →
    (s.view (wKey ring addr)).here = true → (s.view (wKey ring addr)).lost = false →
    ∃ u : State, Gives (.workerLost ring addr) s u ∧ (u.view (wKey ring addr)).lost = true ∧ u.holds 6 = true ∧
      u.pf (0x1008 + ring) 24 8 = Nat.min (s.pf (0x1008 + ring) 24 8 + 1) 255 ∧ u.out = s.out ∧ u.nvm = s.nvm ∧
      ∀ v, v ≠ wKey ring addr → u.view v = s.view v)

/-- The ledger's instants, and the scrub (R18, R473, R474, R477, R481 to R483, R491): a period ends the span of every instance that
runs here; due turfs are written under the next INDEX; snapshots fall due; the wall time goes to the meter workers owned; a
word corrected raises EV60, and an uncorrectable one EV61 and makes what it holds invalid. -/
def Obligations.LedgerInstants : Prop :=
  (∀ s : State, s.full = true → ∃ u : State, Gives .turfPeriodEnd s u ∧
    (∀ n ∈ s.instances, s.instState n = 2 → s.ownsInst n = true → (s.inst n).due = [] →
      ∃ t, (u.inst n).due = [t] ∧ t.kind = 0 ∧ t.inst = n ∧ t.startTick = (s.inst n).span.startTick ∧ t.endTick = s.tick ∧
        t.startRtc = (s.inst n).span.startRtc ∧ t.endRtc = s.island.rtc ∧ t.totals = (s.inst n).totals ∧
        (u.inst n).span.startTick = s.tick ∧ (u.inst n).base = (s.inst n).totals) ∧
    (∀ n, s.instState n ≠ 2 → u.inst n = s.inst n) ∧ u.nvm = s.nvm ∧ u.out = s.out ∧ u.island = s.island) ∧
  (∀ (s : State) (n : Nat) (t : Turf), (s.inst n).due = [t] →
    ∃ (u : State) (t' : Turf), Gives (.turfWrite n) s u ∧ (u.inst n).due = [] ∧ (u.inst n).any = true ∧
      (u.inst n).newest = (if (s.inst n).any then (s.inst n).newest + 1 else 0) ∧
      Tbl.find (u.inst n).turfs ((u.inst n).newest % 1024) = some t' ∧ t'.signature.length = 64 ∧
      t' = { t with index := (u.inst n).newest, firstIndex := (u.inst n).newest, signature := t'.signature } ∧
      (∃ k, t'.signature = deviceSign (Config.signNonce k) (sha256 (turfBody t' ++ le 8 Config.serial.toNat))) ∧
      (∀ m, m ≠ n → u.inst m = s.inst m) ∧ u.params = s.params) ∧
  (∀ s : State, s.full = true → ∃ u : State, Gives .shardPeriod s u ∧ u = { s with insts := u.insts } ∧
    ∀ n, u.inst n = if n ∈ s.instances ∧ s.instState n = 2 then { s.inst n with snapNow := true } else s.inst n) ∧
  (∀ s : State, s.full = true → Gives .meterTimeSend s (s.mapFlue (fun f => { f with apply := (f.apply ++
    (s.workers.filter (fun w => (s.view w).meter && s.owns w)).map (fun w => (w, 3 * 65536 + 1, s.island.rtc))) }))) ∧
  (∀ (s : State) (w : Option Nat) (word : Nat), s.awake = true → Gives (.mramScrub w word 1) s (s.raise 60 [])) ∧
  (∀ (s : State) (n k : Nat), s.awake = true → n < 8 → k < 16 →
    ∃ u : State, Gives (.mramScrub none (64 * n + k) 2) s u ∧ u.latched 61 = true ∧
      (k < 8 → (u.inst n).m0 = (s.inst n).m0.map (fun a => { a with good := false }) ∧ (u.inst n).m1 = (s.inst n).m1) ∧
      (8 ≤ k → (u.inst n).m1 = (s.inst n).m1.map (fun a => { a with good := false }) ∧ (u.inst n).m0 = (s.inst n).m0) ∧
      u.nvm = s.nvm ∧ u.out = s.out) ∧
  (∀ (s : State) (word : Nat), s.awake = true → 512 ≤ word →
    ∃ u : State, Gives (.mramScrub none word 2) s u ∧ u.latched 61 = true ∧ word ∈ u.nvm.bad ∧ u.out = s.out)

/-- The partner link (R60 to R64, R67, R304, R312, R330, R346, R512, R515 to R519, R525, R527, R528, R534, R535, R541): a SOLO manager takes none of its
frames; BEATs tell the partner's state and bring the link up after sixteen; its loss is counted and EV44 holds; a manager that
loses its source takes the tick over, and yields to a counter that is ahead; in Kindling the partner's PRIMARY SYNC makes it a
follower (the model's choice for manager A, log 175), and a SYNC gives a joined ring its rate, and marks a ring as joined that was running
before the first tick (the model's reading, log 193); REQUESTs and ACKs have their effects. -/
def Obligations.PartnerLink : Prop :=
  (∀ (s : State) (f : BeatF) (seq : Nat) (l : List Nat), s.role = 0 →
    ∀ c ∈ [Instr.beatFrame f, .partnerLinkLost 0, .partnerLinkUp, .requestResetFrame seq, .requestResyncFrame seq l,
      .partnerAckFrame 0x12 seq 0, .tickSourceTakeover, .handbackRelease], Gives c s s) ∧
  (∀ (s : State) (f : BeatF), s.twin = true → s.linkUp = true → f.source = false → f.state < 4 →
    ∃ u : State, Gives (.beatFrame f) s u ∧ u.pf 0x1905 2 2 = f.state ∧ u.pb 0x1905 4 = (f.cfgver != s.p 0x0108) ∧
      u.linkUp = true ∧ (f.sleep = true → s.full = true → u.sys.sleeping ≠ 0) ∧
      (f.sleep = false ∨ s.full = false → u.sys = s.sys) ∧
      SameParams s u [0x1905] ∧ u.out = s.out ∧ u.nvm = s.nvm) ∧
  (∀ (s : State) (f : BeatF), s.twin = true → s.linkUp = false → 15 ≤ s.part.beats →
    ∃ u : State, Gives (.beatFrame f) s u ∧ u.linkUp = true ∧ (s.part.asked = none → u.part.resync = true) ∧ u.holdsItem 44 0 = false) ∧
  (∀ (s : State) (cause : Nat), s.twin = true → s.linkUp = true →
    ∃ u : State, Gives (.partnerLinkLost cause) s u ∧ u.linkUp = false ∧ u.pb 0x1906 0 = false ∧ u.holds 44 = true ∧
      u.pf 0x1908 0 8 = Nat.min (s.pf 0x1908 0 8 + 1) 255 ∧ u.part.unacked = s.part.unacked ∧ u.out = s.out ∧ u.nvm = s.nvm) ∧
  (∀ s : State, s.twin = true → s.linkUp = false → s.part.asked = none →
    ∃ u : State, Gives .partnerLinkUp s u ∧ u.linkUp = true ∧ u.holdsItem 44 0 = false ∧ u.part.resync = true ∧
      (∃ b, u.sent.part = s.sent.part ++ [(0x14, b)]) ∧ SameParams s u [0x1905] ∧ u.out = s.out) ∧
  (∀ (s : State) (l : List Nat), s.twin = true → s.linkUp = false → s.part.asked = some l → s.instances = [] →
    ∃ u : State, Gives .partnerLinkUp s u ∧ u.linkUp = true ∧ u.holdsItem 44 0 = false ∧ u.part.asked = none ∧
      u.part.resync = false ∧ SameParams s u [0x1905, 0x1906] ∧ u.out = s.out) ∧
  (∀ (s : State) (seq : Nat), s.twin = true →
    ∃ u : State, Gives (.requestResetFrame seq) s u ∧ 6 ∈ u.sys.resetDue ∧ u.params = s.params ∧
      u.sent.part = s.sent.part ++ [(0x15, le 1 s.part.seq ++ (le 1 0x14 ++ le 1 seq ++ le 2 0))]) ∧
  (∀ (s : State) (seq : Nat) (l : List Nat), s.twin = true → s.instances = [] →
    ∃ u : State, Gives (.requestResyncFrame seq l) s u ∧ SameParams s u [0x1906] ∧
      (s.linkUp = true → u.part.resync = false) ∧ (s.linkUp = false → u.part.asked = some l) ∧
      u.sent.part = s.sent.part ++ [(0x15, le 1 s.part.seq ++ (le 1 0x14 ++ le 1 seq ++ le 2 0))]) ∧
  (∀ (s : State) (typ seq st : Nat), s.twin = true →
    ∃ u : State, Gives (.partnerAckFrame typ seq st) s u ∧
      (∀ f, f ∈ u.part.unacked ↔ f ∈ s.part.unacked ∧ ¬(f.1 = seq ∧ f.2.1 = typ)) ∧ SameParams s u [0x1906] ∧ u.out = s.out) ∧
  (∀ s : State, s.twin = true → s.pf 0x0206 0 2 ≠ 0 →
    ∃ u : State, Gives .tickSourceTakeover s u ∧ u.p 0x0206 = 0 ∧ u.pb 0x0203 0 = true ∧ u.part.follow = none ∧
      (s.evOn 1 = true → u.latched 1 = true) ∧ u.out = s.out ∧ u.nvm = s.nvm ∧ u.island = s.island) ∧
  (∀ (s : State) (c : Nat), s.twin = true → s.pf 0x0206 0 2 = 0 → s.sys.pll = true → s.tick < c ∨ (s.tick = c ∧ s.role = 2) →
    (∃ u : State, Gives (.tickReunion c true) s u ∧ u.part.follow = some ((c + 1) % 2 ^ 48) ∧ u.pf 0x0206 0 2 ≠ 0 ∧
      u.pb 0x0203 0 = false ∧ SameParams s u [0x0203, 0x0206]) ∧
    Gives (.tickReunion c false) s (s.mapPart (fun p => { p with slew := some c }))) ∧
  (∀ (s : State) (c : Nat) (b : Bool), s.twin = true → c < s.tick → Gives (.tickReunion c b) s s) ∧
  (∀ s : State, s.twin = true → s.handbackDue = true →
    ∃ u : State, Gives .handbackRelease s u ∧ u.part.handback = true ∧ u.params = s.params ∧ u.out = s.out ∧ u.nvm = s.nvm) ∧
  (∀ (s : State) (ring : Nat) (f : LeaseF), s.twin = true → s.ringOn ring = true →
    ∃ u : State, Gives (.partnerRingFrame ring true (.lease f)) s u ∧ u.part.heard = true ∧ SameParams s u [0x1905]) ∧
  (∀ (s : State) (ring : Nat) (f : PartnerRingF), s.twin = true → s.ringOn ring = true →
    Gives (.partnerRingFrame ring false f) s (s.incPf (0x1008 + ring) 0 16)) ∧
  (∀ (s : State) (ring n : Nat), s.twin = true → s.role = 2 → s.ringOn ring = true → s.sys.phase = .kindling →
    (s.ring ring).cal = 0 → n < 64 →
    ∃ u : State, Gives (.partnerRingFrame ring true (.enum n)) s u ∧ u.pf (ringStat ring) 0 6 = n ∧
      (u.ring ring).joined = true ∧ SameParams s u [0x1905, ringStat ring]) ∧
  (∀ (s : State) (ring : Nat) (f : SyncF), s.twin = true → s.ringOn ring = true →
    ∃ u : State, Gives (.partnerRingFrame ring true (.sync f)) s u ∧ u.part.heard = true ∧ (u.ring ring).slow = bit f.flags 2 ∧
      (u.ring ring).joined = ((s.ring ring).joined || !s.sys.pll) ∧ u.part.period = f.period ∧ SameParams s u [0x1905, 0x0203, 0x0206, ringStat ring] ∧
      (s.full = true → SameParams s u [0x1905]) ∧
      (s.full = true → bit f.flags 0 = true → bit f.flags 1 = true → u.sys.sleeping ≠ 0) ∧
      (s.sys.phase = .kindling → u.sys = s.sys) ∧
      (s.sys.phase = .kindling → s.part.aligned = false → s.part.tookOver = false → bit f.flags 0 = true →
        u.part.follow = some (f.tick + 1) ∧ u.pf 0x0206 0 2 ≠ 0 ∧ u.pb 0x0203 0 = false) ∧
      (s.sys.phase = .kindling → (u.ring ring).joined = true → u.pb (ringStat ring) 22 = bit f.flags 2))

/-- What the partner's LEDGSYNC and RELAY frames carry (R485, R506, R518, R532, R533, R538, R539): a turf, an acknowledged level,
a binding or the wall time is taken over and acknowledged; a relayed manager's frame leaves the own ring end as it is, and a
worker's is taken as if it had come from the ring. -/
def Obligations.PartnerCarries : Prop :=
  (∀ (s : State) (seq n : Nat) (b : LedgSyncBody), s.role = 0 → Gives (.ledgsyncFrame seq n b) s s) ∧
  (∀ (s : State) (seq n : Nat) (t : Turf), s.twin = true → n < 8 → Tbl.find (s.inst n).turfs (t.index % 1024) = none →
    ∃ u : State, Gives (.ledgsyncFrame seq n (.turf t)) s u ∧ Tbl.find (u.inst n).turfs (t.index % 1024) = some t ∧
      (u.inst n).newest = Nat.max (s.inst n).newest t.index ∧ (u.inst n).any = true ∧ u.params = s.params ∧
      u.sent.part = s.sent.part ++ [(0x15, le 1 s.part.seq ++ (le 1 0x12 ++ le 1 seq ++ le 2 0))]) ∧
  (∀ (s : State) (seq n : Nat) (t x : Turf), s.twin = true → n < 8 → Tbl.find (s.inst n).turfs (t.index % 1024) = some x →
    x.index = t.index → x ≠ t →
    ∃ u : State, Gives (.ledgsyncFrame seq n (.turf t)) s u ∧ (u.inst n).turfs = (s.inst n).turfs ∧ u.latched 59 = true ∧
      u.pf 0x1906 8 8 = Nat.min (s.pf 0x1906 8 8 + 1) 255) ∧
  (∀ (s : State) (seq n idx : Nat), s.twin = true → n < 8 → (s.inst n).any = true →
    (s.inst n).ackAny = true ∨ (s.inst n).acked = 0 →
    ∃ u : State, Gives (.ledgsyncFrame seq n (.ackLevel idx)) s u ∧ u.params = s.params ∧
      (idx ≤ (s.inst n).newest → (u.inst n).ackAny = true) ∧
      (u.inst n).acked = (if idx ≤ (s.inst n).newest then Nat.max idx (s.inst n).acked else (s.inst n).acked) ∧
      u.sent.part = s.sent.part ++ [(0x15, le 1 s.part.seq ++
        (le 1 0x12 ++ le 1 seq ++ le 2 (if idx ≤ (s.inst n).newest then 0 else 0x0103)))]) ∧
  (∀ (s : State) (seq n : Nat) (b : Binding), s.twin = true → n < 8 →
    ∃ u : State, Gives (.ledgsyncFrame seq n (.binding b)) s u ∧ (u.inst n).bind = b ∧
      u.pf (instStat n) 16 5 = b.holders.length % 32 ∧ n ∉ u.part.awaits ∧
      (b.isSealed = true → s.instState n = 2 → u.instState n = 5) ∧
      (b.isSealed = false → s.instState n = 5 → u.instState n = 2) ∧ u.nvm = s.nvm) ∧
  (∀ (s : State) (seq n rtc : Nat), s.twin = true →
    ∃ u : State, Gives (.ledgsyncFrame seq n (.time rtc)) s u ∧ u.island.rtc = rtc ∧ u.pb 0x0203 2 = false ∧ u.out = s.out ∧
      u.nvm = s.nvm) ∧
  (∀ (s : State) (r : Nat) (l : List Byte), s.twin = true → r < 4 → 12 ≤ l.length → leAt l 0 1 ≤ 5 →
    Gives (.relayFrame ⟨r, l⟩) s (s.mapSent (fun t => { t with ring := t.ring ++
      [⟨r, if s.role = 2 then 1 else 0, leAt l 1 1, leAt l 0 1, leAt l 2 1, leAt l 3 1, (l.drop 8).take (leAt l 4 2)⟩] }))) ∧
  (∀ (s : State) (r : Nat) (l : List Byte), s.twin = true → r < 4 → 12 ≤ l.length → 5 < leAt l 0 1 →
    crc32c (l.take (l.length - 4)) ≠ leAt l (l.length - 4) 4 → Gives (.relayFrame ⟨r, l⟩) s (s.incPf (0x1008 + r) 0 16)) ∧
  (∀ (s : State) (r : Nat) (l : List Byte), s.twin = true → r < 4 → 12 ≤ l.length → leAt l 0 1 = 9 →
    crc32c (l.take (l.length - 4)) = leAt l (l.length - 4) 4 →
    exec (.relayFrame ⟨r, l⟩) s = exec (.alarmFrame r 0 (leAt l 1 1) true (leAt ((l.drop 8).take (leAt l 4 2)) 0 1)
      (leAt ((l.drop 8).take (leAt l 4 2)) 1 1) (leAt ((l.drop 8).take (leAt l 4 2)) 2 2)
      (leAt ((l.drop 8).take (leAt l 4 2)) 4 6)) s)

/-- Keep-alive frames and timers (R710 to R712, R714 to R717, R734): the manager sends its frame when its period is over or its need
has changed; a node's frame is held with its flags, one with NEED restarts the silence timer and ends a preparation, and one with a
wrong node byte is counted; the silence timer's end raises EV38 and begins the preparation, whose end begins sleep entry unless there
is a need; the awake timer's end raises EV39, names the nodes that had a need and begins sleep entry, but where both timers end in one
tick the agreement comes instead. Before its time each command does nothing. The first period counts from the first Lit tick, and the
awake timer anew after such an agreement (the model's choices, log 196). -/
def Obligations.KeepAlive : Prop :=
  (∀ s : State, s.full = true → s.pb 0x3000 0 = true → s.net.stopped = false → s.pb (0x3010 + 2 * s.kaCtrl) 0 = true →
    s.busOff s.kaCtrl = false → s.net.kaDue = true ∨ 1000 * s.pf 0x3002 0 11 < s.net.kaUs + s.tUs →
    ∃ u : State, Gives .keepaliveSend s u ∧ u.net = { s.net with kaUs := 0, kaDue := false } ∧
      u.sent = { s.sent with raw := s.sent.raw ++ [(16 + s.kaCtrl,
        le 4 (if s.pf (0x3010 + 2 * s.kaCtrl) 4 3 = 0 then setFld (s.p 0x3001 + s.pf 0x3000 3 6) 30 1 0
          else s.p 0x3001 + s.pf 0x3000 3 6) ++ le 1 (s.pf 0x3000 3 6) ++
          le 1 (if s.localNeed = true ∧ s.net.ready = false then 1 else 2) ++
          le 4 (s.p 0x3008) ++ le 2 (s.p 0x3009))] } ∧
      u = { s with net := u.net, sent := u.sent }) ∧
  (∀ s : State, s.net.kaDue = false → s.net.kaUs + s.tUs ≤ 1000 * s.pf 0x3002 0 11 → Gives .keepaliveSend s s) ∧
  (∀ (s : State) (node flags need : Nat) (l : List Byte), s.awake = true → s.pb 0x3000 0 = true →
    s.pb (0x3010 + 2 * s.kaCtrl) 0 = true → node < 64 → node ≠ s.pf 0x3000 3 6 → flags < 256 →
    s.pf 0x3001 0 29 + node < 2 ^ 29 →
    ∃ u : State, Gives (.keepaliveReceived s.kaCtrl (2 ^ 31 * s.pf 0x3001 31 1 + (s.pf 0x3001 0 29 + node))
        (le 1 node ++ le 1 flags ++ le 1 need ++ l)) s u ∧
      Tbl.get KaNode.d u.net.ka node = ⟨bit flags 0, bit flags 1, need % 256, 0⟩ ∧
      (∀ k, k ≠ node → Tbl.get KaNode.d u.net.ka k = Tbl.get KaNode.d s.net.ka k) ∧
      (bit flags 0 = true → u.net.prep = none ∧ u.net.silentUs = 0 ∧ SameParams s u [0x300A] ∧
        (s.net.prep.isSome = true → u.pb 0x300A 1 = false) ∧ (s.kaRuns = true → bit u.net.seen node = true)) ∧
      (bit flags 0 = false → u.params = s.params ∧ u.net = { s.net with ka := u.net.ka }) ∧
      u = { s with net := u.net, params := u.params }) ∧
  (∀ (s : State) (node x : Nat) (l : List Byte), s.awake = true → s.pb 0x3000 0 = true →
    s.pb (0x3010 + 2 * s.kaCtrl) 0 = true → node < 64 → x < 256 → x ≠ node ∨ node = s.pf 0x3000 3 6 →
    s.pf 0x3001 0 29 + node < 2 ^ 29 →
    ∃ u : State, Gives (.keepaliveReceived s.kaCtrl (2 ^ 31 * s.pf 0x3001 31 1 + (s.pf 0x3001 0 29 + node)) (le 1 x ++ l)) s u ∧
      u = { s with params := u.params } ∧ SameParams s u [0x300A] ∧
      u.pf 0x300A 8 8 = Nat.min (s.pf 0x300A 8 8 + 1) 255) ∧
  (∀ (s : State) (c ident : Nat) (l : List Byte), c ≠ s.kaCtrl ∨ ident % 2 ^ 29 < s.pf 0x3001 0 29 ∨
      s.pf 0x3001 0 29 + 63 < ident % 2 ^ 29 ∨ bit ident 31 ≠ s.pb 0x3001 31 →
    Gives (.keepaliveReceived c ident l) s s) ∧
  (∀ s : State, s.kaRuns = true → s.net.prep = none → 1000000 * s.pf 0x3002 16 4 < s.net.silentUs + s.tUs →
    ∃ u : State, Gives .sleepAgreed s u ∧ u.net.prep = some s.tick ∧ u.pb 0x300A 1 = true ∧
      (s.evOn 38 = true → u.latched 38 = true) ∧ SameParams s u [0x300A, 0x0601, 0x060D] ∧
      (s.awakeDue = true → u.net.awakeUs = 0) ∧ (s.awakeDue = false → u.net = { s.net with prep := some s.tick }) ∧
      u = { s with params := u.params, evt := u.evt, insts := u.insts, sys := u.sys, net := u.net }) ∧
  (∀ s : State, s.net.silentUs + s.tUs ≤ 1000000 * s.pf 0x3002 16 4 → Gives .sleepAgreed s s) ∧
  (∀ (s : State) (t : Nat), s.net.prep = some t → s.full = true → s.sys.sleeping = 0 →
    1000 * s.pf 0x3002 20 12 < (s.tick - t) * s.tUs + s.tUs →
    ∃ u : State, Gives .kaPrepareEnd s u ∧ u.net.prep = none ∧ u.pb 0x300A 1 = false ∧ SameParams s u [0x300A] ∧
      (s.localNeed = true → u.sys = s.sys ∧ u.part = s.part ∧ u.net = { s.net with prep := none }) ∧
      (s.localNeed = false → u.sys.sleeping = 1 ∧ u.net = { s.net with prep := none, ready := true }) ∧
      u = { s with params := u.params, net := u.net, sys := u.sys, part := u.part }) ∧
  (∀ (s : State) (t : Nat), s.net.prep = some t → (s.tick - t) * s.tUs + s.tUs ≤ 1000 * s.pf 0x3002 20 12 →
    Gives .kaPrepareEnd s s) ∧
  (∀ s : State, s.kaRuns = true → 60000000 * s.pf 0x3003 0 8 < s.net.awakeUs + s.tUs →
    s.net.prep ≠ none ∨ s.net.silentUs + s.tUs ≤ 1000000 * s.pf 0x3002 16 4 → s.net.seen < 2 ^ 64 →
    ∃ u : State, Gives .maxAwakeReached s u ∧ u.p 0x300B + 2 ^ 32 * u.p 0x300C = s.net.seen ∧
      u.net = { s.net with stopped := true, napDue := true } ∧ u.sys.sleeping = 1 ∧
      (s.evOn 39 = true → u.latched 39 = true) ∧ SameParams s u [0x300B, 0x300C, 0x0601, 0x060D] ∧
      u = { s with params := u.params, evt := u.evt, insts := u.insts, sys := u.sys, net := u.net, part := u.part }) ∧
  (∀ s : State, s.kaRuns = true → 60000000 * s.pf 0x3003 0 8 < s.net.awakeUs + s.tUs → s.net.prep = none →
    1000000 * s.pf 0x3002 16 4 < s.net.silentUs + s.tUs → exec .maxAwakeReached s = exec .sleepAgreed s) ∧
  (∀ s : State, s.net.awakeUs + s.tUs ≤ 60000000 * s.pf 0x3003 0 8 → Gives .maxAwakeReached s s)

/-- CAN, Ethernet, LIN and keep-alive (R211, R696, R699 to R708, R710 to R719): a controller's bus-off holds EV40 until it recovers; a link's change is
counted and raises EV41; the sleep request of a partner is granted without a need; ARP and echo requests are answered; a LIN
slot sends its header, with the data it publishes, after the slot before it, and a valid response fills the entry; a keep-alive frame is
sent when due and held when received, and the keep-alive timers, when due, agree on sleep and begin it. -/
def Obligations.Networks : Prop :=
  (∀ (s : State) (c tec : Nat), c < 4 → s.awake = true → s.pb (0x3010 + 2 * c) 0 = true → s.busOff c = false → tec < 256 →
    ∃ u : State, Gives (.canBusOff c tec) s u ∧ u.busOff c = true ∧ u.pf (0x3011 + 2 * c) 8 8 = tec ∧ u.holds 40 = true ∧
      u.out = s.out ∧ u.nvm = s.nvm) ∧
  (∀ (s : State) (c : Nat), c < 4 → s.busOff c = true → s.pb (0x3010 + 2 * c) 7 = true ∨ s.net.canFree.contains c = true →
    ∃ u : State, Gives (.canBusOffRecovery c) s u ∧ u.p (0x3011 + 2 * c) = 0 ∧ u.holdsItem 40 c = false ∧
      SameParams s u [0x3011 + 2 * c] ∧ u.out = s.out) ∧
  (∀ (s : State) (c : Nat), c < 4 → s.pb (0x3010 + 2 * c) 7 = false → s.net.canFree.contains c = false →
    Gives (.canBusOffRecovery c) s s) ∧
  (∀ (s : State) (i st : Nat), i < 2 → st < 2 → s.awake = true → s.pb (0x3018 + 8 * i) 0 = true → s.pb (0x3019 + 8 * i) 1 = false →
    s.pf (0x3019 + 8 * i) 0 1 ≠ st →
    ∃ u : State, Gives (.ethLinkChange i st) s u ∧ u.pf (0x3019 + 8 * i) 0 2 = st ∧
      u.pf (0x3019 + 8 * i) 8 8 = Nat.min (s.pf (0x3019 + 8 * i) 8 8 + 1) 255 ∧ (s.evOn 41 = true → u.latched 41 = true) ∧
      u.out = s.out ∧ u.nvm = s.nvm) ∧
  (∀ s : State, s.awake = true → s.pb 0x3020 0 = true → s.pb 0x3020 2 = true → s.ethUp 1 = true →
    ∃ u : State, Gives .tc10SleepRequest s u ∧ u.out = s.out ∧
      u.sent.raw = s.sent.raw ++ [(49, le 1 (if s.localNeed then 0 else 1))] ∧
      u.pf 0x3021 0 2 = if s.localNeed then 1 else 2) ∧
  (∀ (s : State) (i mac ip : Nat), i < 2 → s.awake = true → s.pb (0x3018 + 8 * i) 0 = true →
    (∃ u : State, Gives (.arpFrame i 1 mac ip (s.p (0x301A + 8 * i))) s u ∧ Tbl.find u.net.arp ip = some mac ∧
      u.sent.raw.length = s.sent.raw.length + 1 ∧ u.params = s.params) ∧
    Gives (.arpFrame i 2 mac ip (s.p (0x301A + 8 * i))) s (s.mapNet (fun n => { n with arp := Tbl.set n.arp ip mac }))) ∧
  (∀ (s : State) (i ip : Nat) (d : List Byte), i < 2 → s.awake = true → s.pb (0x3018 + 8 * i) 0 = true →
    Gives (.icmpEchoRequest i ip (s.p (0x301A + 8 * i)) d) s (s.mapSent (fun t =>
      { t with raw := t.raw ++ [(48 + i, le 1 5 ++ le 4 ip ++ d)] }))) ∧
  (∀ (s : State) (l e : Nat), l < 2 → s.full = true → s.pb (0x3030 + l) 0 = true → s.sys.sleeping = 0 →
    (s.lin l).wait = 0 → (s.lin l).next = e → e < s.pf (0x3030 + l) 4 5 → s.pb (0x3040 + 16 * l + e) 6 = true →
    ∃ u : State, Gives (.linSlot l) s u ∧ (u.lin l).cur = some e ∧ (u.lin l).wait = s.pf (0x3040 + 16 * l + e) 16 8 ∧ (u.lin l).next = (e + 1) % s.pf (0x3030 + l) 4 5 ∧
      u.sent.raw = s.sent.raw ++ [(32 + l, le 1 1 ++ le 1 (linPid (s.pf (0x3040 + 16 * l + e) 0 6)))] ∧
      u.params = s.params ∧ u.out = s.out) ∧
  (∀ (s : State) (l e : Nat), l < 2 → s.full = true → s.pb (0x3030 + l) 0 = true → s.sys.sleeping = 0 →
    (s.lin l).wait = 0 → (s.lin l).next = e → e < s.pf (0x3030 + l) 4 5 → s.pb (0x3040 + 16 * l + e) 6 = false →
    ∃ (u : State) (sum : Nat), Gives (.linSlot l) s u ∧ (u.lin l).cur = some e ∧ (u.lin l).wait = s.pf (0x3040 + 16 * l + e) 16 8 ∧
      u.sent.raw = s.sent.raw ++ [(32 + l, le 1 1 ++ (le 1 (linPid (s.pf (0x3040 + 16 * l + e) 0 6)) ++
        ((le 4 (s.p (0x3060 + 2 * (16 * l + e))) ++ le 4 (s.p (0x3061 + 2 * (16 * l + e)))).take
          (s.pf (0x3040 + 16 * l + e) 7 4)) ++ le 1 sum))] ∧ u.params = s.params ∧ u.out = s.out) ∧
  (∀ (s : State) (l : Nat), (s.lin l).wait ≠ 0 → Gives (.linSlot l) s s) ∧
  (∀ (s : State) (l e : Nat) (resp : List Byte), l < 2 → e < 16 → (s.lin l).cur = some e →
    s.pb (0x3040 + 16 * l + e) 6 = true → resp.length = 8 → s.pf (0x3040 + 16 * l + e) 7 4 = 8 →
    (∃ u : State, Gives (.linSlotEnd l resp true) s u ∧ u.p (0x3060 + 2 * (16 * l + e)) = leAt resp 0 4 ∧
      u.p (0x3061 + 2 * (16 * l + e)) = leAt resp 4 4 ∧ u.pb (0x3040 + 16 * l + e) 12 = false ∧ (u.lin l).cur = none ∧
      e ∈ (u.lin l).good ∧ u.out = s.out) ∧
    (∃ u : State, Gives (.linSlotEnd l resp false) s u ∧ u.pb (0x3040 + 16 * l + e) 12 = true ∧ (u.lin l).cur = none ∧
      e ∉ (u.lin l).good ∧ SameParams s u [0x3040 + 16 * l + e])) ∧
  (∀ s : State, s.full = true → s.pb 0x3000 0 = true → s.net.stopped = false → s.pb (0x3010 + 2 * s.kaCtrl) 0 = true →
    s.busOff s.kaCtrl = false → s.net.kaDue = true →
    ∃ u : State, Gives .keepaliveSend s u ∧ u.sent.raw.length = s.sent.raw.length + 1 ∧ u.net.kaDue = false ∧
      u.params = s.params ∧ u.out = s.out) ∧
  (∀ (s : State) (node : Nat), s.awake = true → s.pb 0x3000 0 = true → s.pb (0x3010 + 2 * s.kaCtrl) 0 = true → node < 64 →
    node ≠ s.pf 0x3000 3 6 → s.pf 0x3001 0 29 + node < 2 ^ 29 → s.pb 0x3001 31 = false →
    ∃ u : State, Gives (.keepaliveReceived s.kaCtrl (s.pf 0x3001 0 29 + node) (le 1 node ++ zeros 7)) s u ∧
      Tbl.get KaNode.d u.net.ka node = ⟨false, false, 0, 0⟩ ∧ u.params = s.params ∧ u.out = s.out) ∧
  (∀ s : State, s.kaRuns = true → s.net.prep = none → s.silentDue = true →
    ∃ u : State, Gives .sleepAgreed s u ∧ u.net.prep = some s.tick ∧ u.pb 0x300A 1 = true ∧ u.out = s.out) ∧
  (∀ (s : State) (t : Nat), s.net.prep = some t → s.prepDue t = true → s.full = true → s.sys.sleeping = 0 → s.localNeed = false →
    ∃ u : State, Gives .kaPrepareEnd s u ∧ u.net.prep = none ∧ u.sys.sleeping = 1 ∧ u.out = s.out) ∧
  (∀ s : State, s.kaRuns = true → s.net.prep.isSome = true → s.awakeDue = true →
    ∃ u : State, Gives .maxAwakeReached s u ∧ u.net.stopped = true ∧ u.sys.sleeping = 1 ∧ u.out = s.out)

/-- The two-wire target (R144, R146, R147, R154, R724 to R732): an address that no open window answers is not acknowledged; the
status window's registers, the write of RETRY_RAILS in Cold-hold and the wake from Banked; the event window's index and entry,
the ledger window's selection and slot; and the timeouts, journalled through the island where the manager sleeps. -/
def Obligations.TwoWireTarget : Prop :=
  (∀ (s : State) (x : TwXfer), s.sys.phase ≠ .cold → s.twWindow x.addr = none →
    ∀ c ∈ [Instr.twStatusWindow x, .twEventWindow x, .twLedgerWindow x],
      Gives c s { s with net := { s.net with twAck := false, twOut := [] } }) ∧
  (∀ (s : State) (a n gap : Nat), s.awake = true → s.sys.sleeping = 0 → s.twWindow a = some 0 → n ≤ 16 →
    ∃ u : State, Gives (.twStatusWindow ⟨a, [0#8], n, gap⟩) s u ∧ u.net.twAck = true ∧ u.net.twOut.length = n ∧
      (0 < n → nth 0#8 u.net.twOut 0 = 0xB9#8) ∧
      (1 < n → nth 0#8 u.net.twOut 1 = if s.sys.phase = .kindling then 2#8 else if s.sys.phase = .lit then 3#8 else 4#8) ∧
      (2 < n → nth 0#8 u.net.twOut 2 = BitVec.ofNat 8 (s.p 0x0105)) ∧ u.params = s.params ∧ u.out = s.out) ∧
  (∀ (s : State) (a rd gap : Nat), s.sys.phase = .coldHold → s.twWindow a = some 0 →
    ∃ t : State, exec (.twStatusWindow ⟨a, [0x0F#8, 0xA5#8, 0x5A#8], rd, gap⟩) s = .next t ∧ t.sys.phase = .fuseLoad ∧
      t.pf 0x0302 8 3 = 0) ∧
  (∀ (s : State) (x : TwXfer), s.sys.phase = .banked → s.twWindow x.addr = some 0 → s.pb 0x0303 5 = true →
    ∃ t : State, exec (.twStatusWindow x) s = .next t ∧ t.sys.phase = .fuseLoad ∧ t.sys.warm = true ∧ t.pb 0x0304 5 = true) ∧
  (∀ (s : State) (a gap : Nat) (i0 i1 i2 i3 : Byte), s.twWindow a = some 1 → s.twOpen = true →
    ∃ u : State, Gives (.twEventWindow ⟨a, [0#8, i0, i1, i2, i3], 0, gap⟩) s u ∧ u.net.twAck = true ∧
      u.net.evIdx = i0.toNat + 2 ^ 8 * i1.toNat + 2 ^ 16 * i2.toNat + 2 ^ 24 * i3.toNat ∧ u = { s with net := u.net }) ∧
  (∀ (s : State) (a gap : Nat), s.twWindow a = some 1 → s.twOpen = true → s.net.evIdx < 2 ^ 32 →
    ∃ u : State, Gives (.twEventWindow ⟨a, [0#8], 32, gap⟩) s u ∧ u = { s with net := u.net } ∧
      (gap < 50 → u.net.twAck = false ∧ u.net.twOut = [] ∧ u.net.evIdx = s.net.evIdx) ∧
      (50 ≤ gap → u.net.twAck = true ∧ u.net.evIdx = (s.net.evIdx + 1) % 2 ^ 32 ∧
        u.net.twOut = match s.jFind s.net.evIdx with
          | some e => (jBytes e).take 32
          | none => zeros 32)) ∧
  (∀ (s : State) (a gap : Nat) (k : Byte), s.twWindow a = some 2 → s.twOpen = true → k.toNat < 8 →
    ∃ u : State, Gives (.twLedgerWindow ⟨a, [0#8, k], 0, gap⟩) s u ∧ u.net.twAck = true ∧ u.net.ldIdx = k.toNat ∧
      u = { s with net := u.net }) ∧
  (∀ (s : State) (a gap : Nat), s.twWindow a = some 2 → s.twOpen = true → 50 ≤ gap →
    ∃ u : State, Gives (.twLedgerWindow ⟨a, [0#8], 64, gap⟩) s u ∧ u.net.twAck = true ∧ u = { s with net := u.net } ∧
      (∀ m, s.instLives s.net.ldIdx = true → (s.inst s.net.ldIdx).mirror = some m → u.net.twOut = slotBytes m) ∧
      (s.instLives s.net.ldIdx = false → u.net.twOut = zeros 64)) ∧
  (∀ (s : State) (w ms : Nat), w < 4 → s.awake = true →
    (fld s.island.twCfg 8 6 ≤ ms → Gives (.twSclTimeout w ms) s (s.raise 42 (le 1 w ++ le 2 (Nat.min ms 65535)))) ∧
    (fld s.island.twCfg 16 6 ≤ ms → Gives (.twSdaTimeout w ms) s (s.raise 43 (le 1 w ++ le 2 (Nat.min ms 65535))))) ∧
  (∀ (s : State) (w ms : Nat), (ms < fld s.island.twCfg 8 6 → Gives (.twSclTimeout w ms) s s) ∧
    (ms < fld s.island.twCfg 16 6 → Gives (.twSdaTimeout w ms) s s)) ∧
  (∀ (s : State) (w ms : Nat), w < 4 → s.sys.phase = .banked ∨ s.sys.phase = .coldHold → fld s.island.twCfg 8 6 ≤ ms →
    fld s.island.twCfg 16 6 ≤ ms →
    ∃ u v : State, Gives (.twSclTimeout w ms) s u ∧ Gives (.twSdaTimeout w ms) s v ∧
      u.island.recs = s.island.recs ++ [⟨42, detail (le 1 w ++ le 2 (Nat.min ms 65535)), s.island.rtc⟩] ∧
      v.island.recs = s.island.recs ++ [⟨43, detail (le 1 w ++ le 2 (Nat.min ms 65535)), s.island.rtc⟩])

/-- Arithmetic and logic of the cores (R741, R742, R744 to R746, R750, R753): the words and tags that ADD, SUB, SATADD, MUL, SCL, MIN,
MAX, ABS, CMP and the bit instructions set on the tags they take, in their cycles; OVERFLOW, TAG_MISMATCH, POISON_USE and
ILLEGAL_OP otherwise. -/
def Obligations.StokerArithmetic : Prop :=
  (∀ (s : State) (c : Nat) (x : BitVec 26), CoreRuns s c → OnlyBits x (useD + useA + useB) → tagOf (wordA s c x) = 1 →
    tagOf (wordB s c x) = 1 →
    CoreSets (.add c x) s c x (tword 1 (payOf (wordA s c x) + payOf (wordB s c x))) 1 ∧
    CoreSets (.sub c x) s c x (tword 1 (payOf (wordA s c x) + 2 ^ 32 - payOf (wordB s c x))) 1 ∧
    CoreSets (.mul c x) s c x (tword 1 (payOf (wordA s c x) * payOf (wordB s c x))) 2 ∧
    CoreSets (.and c x) s c x (tword 1 (payOf (wordA s c x) &&& payOf (wordB s c x))) 1 ∧
    CoreSets (.or c x) s c x (tword 1 (payOf (wordA s c x) ||| payOf (wordB s c x))) 1 ∧
    CoreSets (.xor c x) s c x (tword 1 (payOf (wordA s c x) ^^^ payOf (wordB s c x))) 1) ∧
  (∀ (s : State) (c t : Nat) (x : BitVec 26), CoreRuns s c → OnlyBits x (useD + useA + useB) → tagOf (wordA s c x) = t →
    tagOf (wordB s c x) = t → t = 2 ∨ (8 ≤ t ∧ t ≤ 13) →
    (if fits32 (intOf (wordA s c x) + intOf (wordB s c x)) then
        CoreSets (.add c x) s c x (wNum t (intOf (wordA s c x) + intOf (wordB s c x))) 1
      else CoreTraps (.add c x) s c 5 x 3) ∧
    (if fits32 (intOf (wordA s c x) - intOf (wordB s c x)) then
        CoreSets (.sub c x) s c x (wNum t (intOf (wordA s c x) - intOf (wordB s c x))) 1
      else CoreTraps (.sub c x) s c 6 x 3) ∧
    CoreSets (.satadd c x) s c x (wNum t (clampS 32 (intOf (wordA s c x) + intOf (wordB s c x)))) 1 ∧
    CoreSets (.min c x) s c x (if intOf (wordA s c x) ≤ intOf (wordB s c x) then wordA s c x else wordB s c x) 1 ∧
    CoreSets (.max c x) s c x (if intOf (wordB s c x) ≤ intOf (wordA s c x) then wordA s c x else wordB s c x) 1) ∧
  (∀ (s : State) (c : Nat) (x : BitVec 26), CoreRuns s c → OnlyBits x (useD + useA + useB) → tagOf (wordA s c x) = 4 →
    (tagOf (wordB s c x) = 1 →
      CoreSets (.add c x) s c x (tword 4 (payOf (wordA s c x) + payOf (wordB s c x))) 1 ∧
      CoreSets (.sub c x) s c x (tword 4 (payOf (wordA s c x) + 2 ^ 32 - payOf (wordB s c x))) 1) ∧
    (tagOf (wordB s c x) = 4 → CoreTraps (.add c x) s c 5 x 1 ∧
      CoreSets (.sub c x) s c x (tword 1 (payOf (wordA s c x) + 2 ^ 32 - payOf (wordB s c x))) 1)) ∧
  (∀ (s : State) (c t : Nat) (x : BitVec 26), CoreRuns s c → OnlyBits x (useD + useA + useB) → tagOf (wordA s c x) = t →
    8 ≤ t → t ≤ 13 →
    (tagOf (wordB s c x) = 1 → if fits32 (intOf (wordA s c x) * intOf (wordB s c x)) then
        CoreSets (.mul c x) s c x (wNum t (intOf (wordA s c x) * intOf (wordB s c x))) 2
      else CoreTraps (.mul c x) s c 7 x 3) ∧
    (tagOf (wordB s c x) = 2 → if fits32 (intOf (wordA s c x) * intOf (wordB s c x) / 65536) then
        CoreSets (.mul c x) s c x (wNum t (intOf (wordA s c x) * intOf (wordB s c x) / 65536)) 2
      else CoreTraps (.mul c x) s c 7 x 3)) ∧
  (∀ (s : State) (c t k : Nat) (x : BitVec 26), CoreRuns s c → OnlyBits x (useD + useA + useB + 31) → xf x.toNat = k →
    tagOf (wordA s c x) = t → 8 ≤ t → t ≤ 13 → tagOf (wordB s c x) = 1 →
    if fits32 (intOf (wordA s c x) * intOf (wordB s c x) / 2 ^ k) then
      CoreSets (.scl c x) s c x (wNum t (intOf (wordA s c x) * intOf (wordB s c x) / 2 ^ k)) 2
    else CoreTraps (.scl c x) s c 9 x 3) ∧
  (∀ (s : State) (c t : Nat) (x : BitVec 26), CoreRuns s c → OnlyBits x (useD + useA) → tagOf (wordA s c x) = t →
    t = 2 ∨ (8 ≤ t ∧ t ≤ 13) →
    if intOf (wordA s c x) = -(2 ^ 31) then CoreTraps (.abs c x) s c 0x13 x 3
    else CoreSets (.abs c x) s c x (wNum t (intOf (wordA s c x)).natAbs) 1) ∧
  (∀ (s : State) (c t k : Nat) (x : BitVec 26), CoreRuns s c → OnlyBits x (useD + useA + useB + 7) → xf x.toNat = k →
    tagOf (wordA s c x) = t → tagOf (wordB s c x) = t → t = 1 ∨ t = 2 ∨ (8 ≤ t ∧ t ≤ 13) →
    (k < 6 → CoreSets (.cmp c x) s c x (wBool (match k with
      | 0 => intOf (wordA s c x) == intOf (wordB s c x)
      | 1 => intOf (wordA s c x) != intOf (wordB s c x)
      | 2 => decide (intOf (wordA s c x) < intOf (wordB s c x))
      | 3 => decide (intOf (wordA s c x) ≤ intOf (wordB s c x))
      | 4 => decide (intOf (wordB s c x) < intOf (wordA s c x))
      | _ => decide (intOf (wordB s c x) ≤ intOf (wordA s c x)))) 1) ∧
    (6 ≤ k → CoreTraps (.cmp c x) s c 0xA x 7)) ∧
  (∀ (s : State) (c : Nat) (x : BitVec 26), CoreRuns s c → OnlyBits x (useD + useA + useB) → tagOf (wordA s c x) = 3 →
    tagOf (wordB s c x) = 3 →
    CoreSets (.and c x) s c x (wBool (payOf (wordA s c x) != 0 && payOf (wordB s c x) != 0)) 1 ∧
    CoreSets (.or c x) s c x (wBool (payOf (wordA s c x) != 0 || payOf (wordB s c x) != 0)) 1 ∧
    CoreSets (.xor c x) s c x (wBool ((payOf (wordA s c x) != 0) != (payOf (wordB s c x) != 0))) 1) ∧
  (∀ (s : State) (c : Nat) (x : BitVec 26), CoreRuns s c → OnlyBits x (useD + useA) →
    (tagOf (wordA s c x) = 1 → CoreSets (.not c x) s c x (tword 1 (2 ^ 32 - 1 - payOf (wordA s c x))) 1) ∧
    (tagOf (wordA s c x) = 3 → CoreSets (.not c x) s c x (wBool (payOf (wordA s c x) == 0)) 1)) ∧
  (∀ (s : State) (c k : Nat) (x : BitVec 26), CoreRuns s c → k < 32 → tagOf (wordA s c x) = 1 →
    (OnlyBits x (useD + useA + 31) → xf x.toNat = k →
      CoreSets (.shl c x) s c x (tword 1 (payOf (wordA s c x) * 2 ^ k)) 1 ∧
      CoreSets (.shr c x) s c x (wNum 1 (intOf (wordA s c x) / 2 ^ k)) 1) ∧
    (OnlyBits x (useD + useA + 63) → xf x.toNat = 32 + k →
      CoreSets (.shr c x) s c x (tword 1 (payOf (wordA s c x) / 2 ^ k)) 1)) ∧
  (∀ (s : State) (c : Nat) (x : BitVec 26), CoreRuns s c → tagOf (wordA s c x) = 15 ∨ tagOf (wordB s c x) = 15 →
    CoreTraps (.add c x) s c 5 x 2 ∧ CoreTraps (.sub c x) s c 6 x 2 ∧ CoreTraps (.satadd c x) s c 0x26 x 2 ∧
    CoreTraps (.mul c x) s c 7 x 2 ∧ CoreTraps (.div c x) s c 8 x 2 ∧ CoreTraps (.scl c x) s c 9 x 2 ∧
    CoreTraps (.cmp c x) s c 0xA x 2 ∧ CoreTraps (.and c x) s c 0xB x 2 ∧ CoreTraps (.or c x) s c 0xC x 2 ∧
    CoreTraps (.xor c x) s c 0xD x 2 ∧ CoreTraps (.min c x) s c 0x11 x 2 ∧ CoreTraps (.max c x) s c 0x12 x 2) ∧
  (∀ (s : State) (c : Nat) (x : BitVec 26), CoreRuns s c → tagOf (wordA s c x) ≠ tagOf (wordB s c x) →
    tagOf (wordA s c x) ≠ 4 → tagOf (wordA s c x) ≠ 15 → tagOf (wordB s c x) ≠ 15 →
    CoreTraps (.add c x) s c 5 x 1 ∧ CoreTraps (.sub c x) s c 6 x 1 ∧ CoreTraps (.satadd c x) s c 0x26 x 1 ∧
    CoreTraps (.cmp c x) s c 0xA x 1 ∧ CoreTraps (.and c x) s c 0xB x 1 ∧ CoreTraps (.or c x) s c 0xC x 1 ∧
    CoreTraps (.xor c x) s c 0xD x 1 ∧ CoreTraps (.min c x) s c 0x11 x 1 ∧ CoreTraps (.max c x) s c 0x12 x 1)

/-- R743: a DIV on operand tags it takes sets the quotient truncated towards zero, where it fits, and a divisor of 0 traps
DIV_ZERO. `t` and `k` are the tag and the dividend's scale of the table "Tag rules". -/
def Obligations.DivisionTruncatesTowardsZero : Prop :=
  ∀ (s : State) (c t : Nat) (k : Int) (x : BitVec 26), CoreRuns s c → OnlyBits x (useD + useA + useB) →
    ((8 ≤ tagOf (wordA s c x) ∧ tagOf (wordA s c x) ≤ 13 ∧ tagOf (wordB s c x) = tagOf (wordA s c x) ∧ t = 2 ∧ k = 65536) ∨
      (tagOf (wordA s c x) = 8 ∧ tagOf (wordB s c x) = 9 ∧ t = 12 ∧ k = 1000000) ∨
      ((tagOf (wordA s c x) = 1 ∨ (8 ≤ tagOf (wordA s c x) ∧ tagOf (wordA s c x) ≤ 13)) ∧ tagOf (wordB s c x) = 1 ∧
        t = tagOf (wordA s c x) ∧ k = 1) ∨
      ((tagOf (wordA s c x) = 2 ∨ (8 ≤ tagOf (wordA s c x) ∧ tagOf (wordA s c x) ≤ 13)) ∧ tagOf (wordB s c x) = 2 ∧
        t = tagOf (wordA s c x) ∧ k = 65536)) →
    (intOf (wordB s c x) = 0 → CoreTraps (.div c x) s c 8 x 4) ∧
    (∀ q : Int, intOf (wordB s c x) ≠ 0 → q.natAbs = (intOf (wordA s c x) * k).natAbs / (intOf (wordB s c x)).natAbs →
      (q ≠ 0 → (0 < q ↔ 0 < intOf (wordA s c x) * k * intOf (wordB s c x))) →
      if t = 1 ∨ fits32 q = true then CoreSets (.div c x) s c x (wNum t q) 12 else CoreTraps (.div c x) s c 8 x 3)

/-- Moves, memory and control of the cores (R741, R746, R748, R751, R752, R753, R763, R770): what LDK, MOV, TAGQ, RETAG, CVT, SEL and
ORELSE set; loads and stores within the data memory; branches, jumps, calls and returns; NOP, WAIT and TRAP; and the traps of
an undefined opcode and of addresses out of bounds. -/
def Obligations.StokerMovesAndControl : Prop :=
  (∀ (s : State) (c : Nat) (x : BitVec 26), CoreRuns s c →
    (fld x.toNat 18 4 = 5 → CoreTraps (.ldk c x) s c 1 x 1) ∧
    (fld x.toNat 18 4 = 3 → CoreSets (.ldk c x) s c x (wBool (fld x.toNat 0 18 != 0)) 1) ∧
    (fld x.toNat 18 4 ≠ 5 → fld x.toNat 18 4 ≠ 3 →
      CoreSets (.ldk c x) s c x (wNum (fld x.toNat 18 4) (ofTwos 18 x.toNat)) 1)) ∧
  (∀ (s : State) (c : Nat) (x : BitVec 26), CoreRuns s c →
    (OnlyBits x (useD + useA) → CoreSets (.mov c x) s c x (wordA s c x) 1 ∧
      CoreSets (.tagq c x) s c x (wInt (tagOf (wordA s c x))) 1) ∧
    (OnlyBits x (useD + useA + 31) → bit x.toNat 4 = true →
      CoreSets (.tagq c x) s c x (wBool (tagOf (wordA s c x) == fld x.toNat 0 4)) 1) ∧
    (OnlyBits x (useD + useA + useB) →
      CoreSets (.orelse c x) s c x (if tagOf (wordA s c x) = 15 then wordB s c x else wordA s c x) 1) ∧
    (OnlyBits x 0 → CoreGoes (.stkNop c x) s c ((s.core c).pc + 1) 1 ∧
      Gives (.wait c x) s (s.skAdvance c ((s.core c).pc + 1) 1 true))) ∧
  (∀ (s : State) (c t : Nat) (x : BitVec 26), CoreRuns s c → OnlyBits x (useD + useA + 15) → fld x.toNat 0 4 = t →
    (tagOf (wordA s c x) = 1 → t = 2 ∨ t = 4 ∨ t = 6 ∨ t = 7 ∨ (8 ≤ t ∧ t ≤ 13) →
      CoreSets (.retag c x) s c x (tword t (payOf (wordA s c x))) 1) ∧
    (tagOf (wordA s c x) = 1 → t = 3 → CoreSets (.retag c x) s c x (wBool (payOf (wordA s c x) != 0)) 1) ∧
    (2 ≤ tagOf (wordA s c x) → tagOf (wordA s c x) ≤ 14 → t = 1 →
      CoreSets (.retag c x) s c x (tword 1 (payOf (wordA s c x))) 1) ∧
    (tagOf (wordA s c x) ≠ 15 → ¬(tagOf (wordA s c x) = 1 ∧ (t = 2 ∨ t = 3 ∨ t = 4 ∨ t = 6 ∨ t = 7 ∨ (8 ≤ t ∧ t ≤ 13))) →
      ¬(2 ≤ tagOf (wordA s c x) ∧ t = 1) → CoreTraps (.retag c x) s c 4 x 1)) ∧
  (∀ (s : State) (c : Nat) (x : BitVec 26), CoreRuns s c → OnlyBits x (useD + useA + 3) →
    (xf x.toNat = 0 → tagOf (wordA s c x) = 1 → if fits32 (intOf (wordA s c x) * 65536) then
        CoreSets (.cvt c x) s c x (wNum 2 (intOf (wordA s c x) * 65536)) 1 else CoreTraps (.cvt c x) s c 0x25 x 3) ∧
    (xf x.toNat = 1 → tagOf (wordA s c x) = 2 → CoreSets (.cvt c x) s c x (wNum 1 (Int.tdiv (intOf (wordA s c x)) 65536)) 1) ∧
    (xf x.toNat = 2 → tagOf (wordA s c x) = 13 → CoreSets (.cvt c x) s c x (tword 2 (payOf (wordA s c x))) 1) ∧
    (xf x.toNat = 3 → tagOf (wordA s c x) = 2 → if payOf (wordA s c x) ≤ 65535 then
        CoreSets (.cvt c x) s c x (tword 13 (payOf (wordA s c x))) 1 else CoreTraps (.cvt c x) s c 0x25 x 3)) ∧
  (∀ (s : State) (c : Nat) (x : BitVec 26), CoreRuns s c → OnlyBits x (useD + useA + useB + 15) →
    tagOf (s.reg c (fld x.toNat 0 4)) = 3 → tagOf (wordA s c x) ≠ 15 → tagOf (wordB s c x) ≠ 15 →
    CoreSets (.sel c x) s c x (if payOf (s.reg c (fld x.toNat 0 4)) = 0 then wordB s c x else wordA s c x) 1) ∧
  (∀ (s : State) (c a : Nat) (x : BitVec 26), CoreRuns s c → tagOf (wordA s c x) = 7 →
    a = payOf (wordA s c x) + fld x.toNat 0 18 →
    (a ≤ 4095 → CoreSets (.ld c x) s c x (Tbl.get 0#36 (s.core c).dmem a) 2 ∧
      Gives (.st c x) s ((s.updCore c (fun k => { k with dmem := Tbl.put 0#36 k.dmem a (s.reg c (xd x.toNat)) })).skAdvance c
        ((s.core c).pc + 1) 2 false)) ∧
    (4095 < a → CoreTraps (.ld c x) s c 0x14 x 9 ∧ CoreTraps (.st c x) s c 0x15 x 9)) ∧
  (∀ (s : State) (c a : Nat) (x : BitVec 26), CoreRuns s c → OnlyBits x (useD + useA + useB) → tagOf (wordA s c x) = 7 →
    tagOf (wordB s c x) = 1 → (a : Int) = payOf (wordA s c x) + intOf (wordB s c x) → a ≤ 4095 →
    CoreSets (.ldx c x) s c x (Tbl.get 0#36 (s.core c).dmem a) 2 ∧
    (tagOf (s.reg c (xd x.toNat)) ≠ 15 →
      Gives (.stx c x) s ((s.updCore c (fun k => { k with dmem := Tbl.put 0#36 k.dmem a (s.reg c (xd x.toNat)) })).skAdvance c
        ((s.core c).pc + 1) 2 false))) ∧
  (∀ (s : State) (c p : Nat) (x : BitVec 26), CoreRuns s c → OnlyBits x (useA + 2 ^ 18 - 1) → tagOf (wordA s c x) = 3 →
    (p : Int) = (s.core c).pc + ofTwos 18 x.toNat → p ≤ 8191 →
    (payOf (wordA s c x) ≠ 0 → CoreGoes (.brt c x) s c p 2 ∧ CoreGoes (.brf c x) s c ((s.core c).pc + 1) 1) ∧
    (payOf (wordA s c x) = 0 → CoreGoes (.brf c x) s c p 2 ∧ CoreGoes (.brt c x) s c ((s.core c).pc + 1) 1)) ∧
  (∀ (s : State) (c p : Nat) (x : BitVec 26), CoreRuns s c → OnlyBits x (2 ^ 13 - 1) → fld x.toNat 0 13 = p →
    CoreGoes (.jmp c x) s c p 2 ∧
    ((s.core c).rstack.length < 8 ∨ s.pb (stkCfg c) 16 = true →
      Gives (.call c x) s ((s.updCore c (fun k => { k with rstack := ((k.pc + 1) :: k.rstack).take 8 })).skAdvance c p 2 false)) ∧
    (8 ≤ (s.core c).rstack.length → s.pb (stkCfg c) 16 = false → CoreTraps (.call c x) s c 0x19 x 5)) ∧
  (∀ (s : State) (c : Nat) (x : BitVec 26), CoreRuns s c → OnlyBits x (2 ^ 25 + 15 * 2 ^ 21) → bit x.toNat 25 = true →
    tagOf (s.reg c (fld x.toNat 21 4)) = 6 →
    (payOf (s.reg c (fld x.toNat 21 4)) ≤ 8191 → CoreGoes (.jmp c x) s c (payOf (s.reg c (fld x.toNat 21 4))) 2) ∧
    (8191 < payOf (s.reg c (fld x.toNat 21 4)) → CoreTraps (.jmp c x) s c 0x18 x 8)) ∧
  (∀ (s : State) (c : Nat) (x : BitVec 26), CoreRuns s c → OnlyBits x 0 →
    ((s.core c).rstack = [] → CoreTraps (.ret c x) s c 0x1A x 6) ∧
    (∀ p l, (s.core c).rstack = p :: l → p ≤ 8191 →
      Gives (.ret c x) s ((s.updCore c (fun k => { k with rstack := l })).skAdvance c p 2 false))) ∧
  (∀ (s : State) (c op : Nat) (x : BitVec 26), CoreRuns s c →
    (OnlyBits x (2 ^ 14 - 1) → Gives (.trap c x) s (s.drawn.skTrap c 0xC (xf x.toNat) (s.trapTags c 0x24 x.toNat))) ∧
    (0x2B ≤ op → op < 64 → CoreTraps (.illegalOpcode c op x) s c op x 7))

/-- What the cores reach in the manager (R227, R258, R259, R284, R298, R480, R753, R755 to R761): HRD and HWR through a current handle,
HOPEN and HCLOSE that wait for 0.70 T, the event, tick, ledger and watchdog instructions, and STALE_HANDLE. A row runs at the core's present PC, which is the model's choice (log 81). -/
def Obligations.StokerReachesTheManager : Prop :=
  (∀ (s : State) (c k : Nat) (x : BitVec 26) (w : TWord), CoreRuns s c → OnlyBits x (useD + useA + 2 ^ 14 - 1) →
    tagOf (wordA s c x) = 5 → s.current (payOf (wordA s c x)) = some k → xf x.toNat ≠ 0x3FFF →
    s.hrdWord k (xf x.toNat) = .ok w →
    Gives (.hrd c x) s ((s.drawn.setReg c (xd x.toNat) w).skAdvance c ((s.core c).pc + 1) 4 false)) ∧
  (∀ (s : State) (k : Nat), (s.slot k).cls = 1 →
    s.hrdWord k 0 = .ok (wInt (Tbl.get (paramReset (hsStat (s.slot k).res)) s.sampled.params (hsStat (s.slot k).res)).toNat)) ∧
  (∀ (s : State) (c k : Nat) (x : BitVec 26), CoreRuns s c → OnlyBits x (useD + useA + 2 ^ 14 - 1) →
    tagOf (wordA s c x) = 5 → s.current (payOf (wordA s c x)) = some k → (s.slot k).cls = 1 → xf x.toNat = 0 →
    Gives (.hrd c x) s ((s.drawn.setReg c (xd x.toNat) (wInt (Tbl.get (paramReset (hsStat (s.slot k).res)) s.sampled.params
      (hsStat (s.slot k).res)).toNat)).skAdvance c ((s.core c).pc + 1) 4 false)) ∧
  (∀ (s : State) (c k : Nat) (x : BitVec 26), CoreRuns s c → tagOf (wordA s c x) = 5 →
    s.current (payOf (wordA s c x)) = some k → payOf (wordA s c x) / 2 ^ 26 = 1 → (s.slot k).cls = 1 →
    tagOf (wordB s c x) = 3 → payOf (wordB s c x) ≤ 1 → xf x.toNat = 0 →
    ((s.slot k).writer = false → CoreSets (.hwr c x) s c x (wStatus 0x0205) 4) ∧
    ((s.slot k).writer = true → ∃ u : State,
      Gives (.hwr c x) s ((u.setReg c (xd x.toNat) (wStatus 1)).skAdvance c ((s.core c).pc + 1) 4 false) ∧
      u.cmd.intents = s.cmd.intents.filter (fun i => !(i.kind == 1 && i.chan == (s.slot k).res && i.src == 4 + c)) ++
        [⟨1, (s.slot k).res, 4 + c, s.cmd.lodge, (s.slot k).excl, 0, payOf (wordB s c x), 0, 0⟩] ∧
      u.cmd.lodge = s.cmd.lodge + 1 ∧ u.params = s.params ∧ u.out = s.out ∧ (u.core c).regs = (s.core c).regs)) ∧
  (∀ (s : State) (c : Nat) (x : BitVec 26), CoreRuns s c → OnlyBits x (useD + useA) → tagOf (wordA s c x) = 5 →
    (s.current (payOf (wordA s c x)) = none →
      CoreTraps (.hrd c x) s c 0x1B x 0xA ∧ CoreTraps (.hclose c x) s c 0x1E x 0xA ∧ CoreTraps (.ledgrd c x) s c 0x22 x 0xA) ∧
    (s.current (payOf (wordA s c x)) ≠ none →
      Gives (.hclose c x) s (((s.mapHdl (fun h => { h with reqs := h.reqs ++
        [⟨c, false, xd x.toNat, 0, 0, 0, 0, payOf (wordA s c x)⟩] })).setReg c (xd x.toNat) (wStatus 1)).skAdvance c
          ((s.core c).pc + 1) 4 false))) ∧
  (∀ (s : State) (c : Nat) (x : BitVec 26), CoreRuns s c → OnlyBits x (useD + useA + 511) → tagOf (wordA s c x) = 1 →
    Gives (.hopen c x) s (((s.mapHdl (fun h => { h with reqs := h.reqs ++
      [⟨c, true, xd x.toNat, fld x.toNat 0 6, fld x.toNat 6 3, payOf (wordA s c x), payOf (wordB s c x), 0⟩] })).setReg c
        (xd x.toNat) (wStatus 3)).skAdvance c ((s.core c).pc + 1) 4 false)) ∧
  (∀ (s : State) (c e : Nat) (x : BitVec 26), CoreRuns s c → OnlyBits x (useD + 255) → fld x.toNat 0 6 = e →
    CoreSets (.evtLatchedRead c x) s c x (wBool (s.latched e)) 4 ∧
    CoreSets (.evtSeverityRead c x) s c x (wInt (s.evSev e)) 4 ∧
    Gives (.evtClear c x) s (((s.clearEv e).setReg c (xd x.toNat) (wBool ((s.clearEv e).latched e))).skAdvance c
      ((s.core c).pc + 1) 4 false) ∧
    (s.clearEv e).latched e = (s.latched e && evLevels.contains e && s.holds e)) ∧
  (∀ (s : State) (c : Nat) (x : BitVec 26), CoreRuns s c → OnlyBits x (useD + 3) →
    CoreSets (.tickrd c x) s c x (match xf x.toNat with
      | 0 => tword 4 (s.tick % 2 ^ 32)
      | 1 => tword 1 (s.tick / 2 ^ 32)
      | 2 => tword 1 (s.core c).cycles
      | _ => tword 1 s.island.rtc) 1) ∧
  (∀ (s : State) (c k : Nat) (x : BitVec 26), CoreRuns s c → OnlyBits x (useD + useA + 2 ^ 14 - 1) →
    tagOf (wordA s c x) = 5 → s.current (payOf (wordA s c x)) = some k → (s.slot k).cls = 16 →
    (8 ≤ xf x.toNat → CoreSets (.ledgrd c x) s c x (wStatus 0x0103) 4) ∧
    (xf x.toNat = 0 → s.instLives (s.slot k).res = true → CoreSets (.ledgrd c x) s c x
      (tword 11 (nth 0 (s.inst (s.slot k).res).totals 0 / 1000 % 1000000000)) 4)) ∧
  (∀ (s : State) (c : Nat) (x : BitVec 26), CoreRuns s c → OnlyBits x (useD + useA) → tagOf (wordA s c x) = 1 →
    ∃ u : State, Gives (.wdgaAnswer c x) s ((u.setReg c (xd x.toNat)
        (wStatus (s.wdgJudge (payOf (wordA s c x) % 65536) (s.wdgSnap (4 + c))).1)).skAdvance c ((s.core c).pc + 1) 4 false) ∧
      u = (s.wdgJudge (payOf (wordA s c x) % 65536) (s.wdgSnap (4 + c))).2) ∧
  (∀ (s : State) (c : Nat) (x : BitVec 26), CoreRuns s c → OnlyBits x useD →
    CoreSets (.wdgaQuestion c x) s c x (wInt (s.pf 0x0703 0 16)) 4)

/-- R754: an instruction that traps, and execution past address 8,191, changes no register, no memory word, no return stack
entry and no intent, and the PC stays at that instruction. The core is TRAPPED with its code, unless it restarts. -/
def Obligations.TrapChangesNothingOfTheCore : Prop :=
  ∀ (s : State) (c op x code soft : Nat), c < 4 →
    (8191 < (s.core c).pc ∧ code = 8) ∨ ((s.core c).pc ≤ 8191 ∧ s.skExec c op x = .trap code soft) →
    ((s.skOne c op x).core c).regs = (s.core c).regs ∧ ((s.skOne c op x).core c).dmem = (s.core c).dmem ∧
    ((s.skOne c op x).core c).imem = (s.core c).imem ∧ ((s.skOne c op x).core c).rstack = (s.core c).rstack ∧
    ((s.skOne c op x).core c).pc = (s.core c).pc ∧ (s.skOne c op x).cmd = s.cmd ∧ (s.skOne c op x).hdl = s.hdl ∧
    (∀ d, d ≠ c → (s.skOne c op x).core d = s.core d) ∧
    (s.trapAction c ≠ 1 → code < 16 → (s.skOne c op x).stkState c = 3 ∧ (s.skOne c op x).pf (stkStat c) 4 4 = code) ∧
    (s.evOn 48 = true → (s.skOne c op x).latched 48 = true)

/-- How a core's run ends and begins (R34, R57, R277, R278, R739, R753, R766, R767, R770, R772, R774): an instruction counts its cycles, a WAIT
ends the slice, the budget stops it with EV49, a restart runs from ENTRY with its registers VOID, at the next slices at the
latest; and with a CLEAR_DOUSE accepted the manager returns to Lit and restarts each core whose start flag is set. -/
def Obligations.CoresStartAndStop : Prop :=
  (∀ (s : State) (c pc n : Nat), (s.core c).steps = none →
    s.skAdvance c pc n false = s.updCore c (fun k => { k with pc := pc, cycles := k.cycles + n, steps := none })) ∧
  (∀ (s : State) (c pc n : Nat), c < 4 → (s.core c).steps = none → (s.core c).haltDue = false → (s.core c).cycles + n < 2 ^ 19 →
    ∃ u : State, u = s.skAdvance c pc n true ∧ (u.core c).slice = false ∧ (u.core c).pc = pc ∧
      (u.core c).regs = (s.core c).regs ∧ u.stkState c = s.stkState c ∧ u.pf (stkStat c) 8 3 = 0 ∧
      u.pf (0x3803 + 8 * c) 0 19 = (s.core c).cycles + n ∧
      u.pf (0x3804 + 8 * c) 0 19 = Nat.max ((s.core c).cycles + n) (s.pf (0x3804 + 8 * c) 0 19) ∧
      (∀ d, d ≠ c → u.core d = s.core d)) ∧
  (∀ (s : State) (c : Nat), c < 4 → (s.core c).slice = true → (s.core c).budget ≤ (s.core c).cycles →
    s.pb (stkCfg c) 17 = false → (s.core c).steps = none → (s.core c).haltDue = false →
    ∃ u : State, Gives (.stokerBudgetReached c) s u ∧ (u.core c).slice = false ∧ (u.core c).pc = (s.core c).pc ∧
      (u.core c).regs = (s.core c).regs ∧ u.stkState c = s.stkState c ∧ (s.evOn 49 = true → u.latched 49 = true) ∧
      u.out = s.out ∧ u.cmd = s.cmd) ∧
  (∀ (s : State) (c : Nat), c < 4 → (s.core c).slice = true → (s.core c).cycles < (s.core c).budget →
    Gives (.stokerBudgetReached c) s s) ∧
  (∀ (s : State) (c : Nat), c < 4 → s.full = true → (s.core c).startDue = true →
    ∃ u : State, Gives (.stokerRestart c) s u ∧ u.stkState c = 2 ∧ (u.core c).pc = s.pf (stkCfg c) 0 13 ∧
      (u.core c).regs = [] ∧ (u.core c).rstack = [] ∧ (u.core c).dmem = (s.core c).dmem ∧ (u.core c).startDue = false ∧
      u.pf (stkStat c) 8 3 = Nat.min (s.pf (stkStat c) 8 3 + 1) 7 ∧ u.out = s.out ∧ u.nvm = s.nvm ∧
      (∀ d, d ≠ c → u.core d = s.core d)) ∧
  (∀ s : State, s.sys.phase = .doused → s.sys.clearDue = true →
    ∃ u : State, Gives .litReentry s u ∧ u.sys = { s.sys with phase := .lit, clearDue := false, douseEntry := false } ∧
      (∀ c, c < 4 → s.pb (stkCfg c) 13 = true → s.stkState c ≠ 0 →
        u.stkState c = 2 ∧ (u.core c).pc = s.pf (stkCfg c) 0 13 ∧ (u.core c).regs = [] ∧ (u.core c).rstack = [] ∧
        (u.core c).dmem = (s.core c).dmem) ∧
      (∃ x, u.island = { s.island with oscTrim := some x }) ∧
      u.out = s.out ∧ u.hdl = s.hdl ∧ u.evt = s.evt ∧ u.nvm = s.nvm) ∧
  (∀ s : State, s.sys.phase = .doused → s.sys.clearDue = false → Gives .litReentry s s) ∧
  (∀ (s : State) (c : Nat), c < 4 → s.full = true → (s.core c).startDue = true →
    (s.slicesOpen.core c).slice = true ∧ (s.slicesOpen.core c).pc = s.pf (stkCfg c) 0 13 ∧ (s.slicesOpen.core c).regs = [] ∧
    s.slicesOpen.stkState c = 2 ∧ (s.slicesOpen.core c).startDue = false)

/-- Events (R253, R256 to R259, R844): an enabled source latches, and the latched event holds the highest severity at which it has
occurred; a disabled one does nothing; a DOUSE severity makes entry to Doused due in Lit; a level occurs when it begins and
its latch outlives it; a clear ends a latch whose condition does not hold. -/
def Obligations.EventsOccurAndClear : Prop :=
  (∀ (s : State) (e : Nat) (d : List Byte), s.evOn e = false → s.raise e d = s) ∧
  (∀ (s : State) (e : Nat) (d : List Byte), e < 64 → s.evOn e = true →
    ∃ u : State, u = s.raise e d ∧ u.latched e = true ∧ (∀ f, f < 64 → f ≠ e → u.latched f = s.latched f) ∧
      Tbl.get 0 u.evt.held e = Nat.max (Tbl.get 0 s.evt.held e) (s.evSev e) ∧
      u.evt.conds = s.evt.conds ∧ u.evt.douse = (s.evt.douse || (s.evSev e == 3 && s.sys.phase == .lit)) ∧
      SameParams s u [0x0600 + e / 32, 0x060C + e / 32] ∧ (∀ n, (u.inst n).due = (s.inst n).due) ∧
      u = { s with params := u.params, evt := u.evt, insts := u.insts, sys := u.sys }) ∧
  (∀ (s : State) (e i : Nat) (d : List Byte), s.holdsItem e i = true → s.begin e i d = s) ∧
  (∀ (s : State) (e i : Nat) (d : List Byte), e < 64 → s.holdsItem e i = false →
    (s.begin e i d).holdsItem e i = true ∧ (s.evOn e = true → (s.begin e i d).latched e = true)) ∧
  (∀ (s : State) (e i : Nat), (s.finish e i).holdsItem e i = false ∧ (s.finish e i).params = s.params ∧
    (∀ f j, (f, j) ≠ (e, i) → (s.finish e i).holdsItem f j = s.holdsItem f j)) ∧
  (∀ (s : State) (e : Nat), e < 64 →
    (s.clearEv e).latched e = (s.latched e && evLevels.contains e && s.holds e) ∧
    (∀ f, f < 64 → f ≠ e → (s.clearEv e).latched f = s.latched f) ∧
    (evLevels.contains e = false → Tbl.get 0 (s.clearEv e).evt.held e = 0))

/-- Arbitration at 0.70 T and the set instant (R203 to R205, R548, R569): among the intents for one output the one ranked first
waits for the set instant, each other is answered OK_SUPERSEDED or, on an EXCLUSIVE channel, BUSY_RETRY; a winner sets its
channel's drive there, and no other channel. -/
def Obligations.IntentsAreArbitrated : Prop :=
  (∀ (s : State) (i : Intent), s.arbitrate.cmd.intents = [] ∧
    (i ∈ s.arbitrate.cmd.winners ↔ i ∈ s.cmd.intents ∧ s.protects i = false ∧
      ∀ j ∈ s.cmd.intents, j.kind = i.kind → j.chan = i.chan → j.lodge ≠ i.lodge →
        s.rankOf i.src < s.rankOf j.src ∨ (s.rankOf i.src = s.rankOf j.src ∧ j.lodge < i.lodge))) ∧
  (∀ (s : State) (i j : Intent), i ∈ s.arbitrate.cmd.winners → j ∈ s.arbitrate.cmd.winners → i.kind = j.kind →
    i.chan = j.chan → i.lodge = j.lodge) ∧
  (∀ (s : State) (i : Intent), i.kind = 1 → s.cmd.intents = [i] → s.protects i = true →
    s.arbitrate.verdict i.lodge = some ⟨i.lodge, if i.excl then 0x0204 else 2, i.b / s.tUs, i.b % s.tUs⟩) ∧
  (∀ (s : State) (i : Intent), i.a = 0 → i.b ≤ 1 → i.chan < 40 → s.hsBound i.chan = false →
    s.pb (hsStat i.chan) 6 = false → s.isCon i.chan = false ∨ (s.hs i.chan).cont ≠ 2 ∨ s.pf (hsPwm i.chan) 0 16 ≠ 0 →
    ∃ u : State, u = s.hsApply i ∧ (u.hs i.chan).cmdOn = (i.b == 1) ∧ (i.b = 0 → u.pb (hsStat i.chan) 0 = false) ∧
      (i.b = 1 → u.pb (hsStat i.chan) 0 = s.hsMay i.chan) ∧
      (∀ n, n ≠ i.chan → u.hs n = s.hs n) ∧
      (∀ n, n < 40 → n ≠ i.chan → u.p (hsStat n) = s.p (hsStat n) ∧ u.p (hsPwm n) = s.p (hsPwm n)) ∧
      u.nvm.fuses = s.nvm.fuses ∧ u.hdl = s.hdl ∧ u.pending = s.pending)
end

