-- ==== Sys2Proof/Laws/Tbl.lean ====
section
/-! SUPPORT. Sparse tables: a read after a write, and that every table operation keeps the canonical form. -/

namespace Sys2Proof

variable {α : Type}

@[simp] theorem Tbl.get_nil (d : α) (k : Nat) : Tbl.get d [] k = d := rfl

@[simp] theorem Tbl.find_nil (k : Nat) : Tbl.find ([] : Tbl α) k = none := rfl

/-- Every key of a table is above a bound. -/
def Tbl.above (b : Nat) (t : Tbl α) : Prop := ∀ e ∈ t, b < e.1

theorem Tbl.get_del_same (d : α) (t : Tbl α) (k : Nat) : Tbl.get d (Tbl.del t k) k = d := by
  induction t with
  | nil => rfl
  | cons e r ih =>
    obtain ⟨j, v⟩ := e
    by_cases h : j = k
    · simpa [Tbl.del, h] using ih
    · simpa [Tbl.del, h, Tbl.get] using ih

theorem Tbl.get_del_other (d : α) (t : Tbl α) {k m : Nat} (h : m ≠ k) :
    Tbl.get d (Tbl.del t k) m = Tbl.get d t m := by
  induction t with
  | nil => rfl
  | cons e r ih =>
    obtain ⟨j, v⟩ := e
    by_cases hj : j = k
    · subst hj
      simpa [Tbl.del, Tbl.get, Ne.symm h] using ih
    · by_cases hm : j = m
      · subst hm
        simp [Tbl.del, hj, Tbl.get]
      · simpa [Tbl.del, hj, Tbl.get, hm] using ih

theorem Tbl.get_ins_same (d : α) (t : Tbl α) (k : Nat) (v : α) (h : ∀ e ∈ t, e.1 ≠ k) :
    Tbl.get d (Tbl.ins t k v) k = v := by
  induction t with
  | nil => simp [Tbl.ins, Tbl.get]
  | cons e r ih =>
    obtain ⟨j, w⟩ := e
    have hj : j ≠ k := h (j, w) (by simp)
    by_cases hk : k < j
    · simp [Tbl.ins, hk, Tbl.get]
    · simp [Tbl.ins, hk, Tbl.get, hj, ih (fun e he => h e (by simp [he]))]

theorem Tbl.get_ins_other (d : α) (t : Tbl α) {k m : Nat} (v : α) (h : m ≠ k) :
    Tbl.get d (Tbl.ins t k v) m = Tbl.get d t m := by
  induction t with
  | nil => simp [Tbl.ins, Tbl.get, Ne.symm h]
  | cons e r ih =>
    obtain ⟨j, w⟩ := e
    by_cases hk : k < j
    · simp [Tbl.ins, hk, Tbl.get, Ne.symm h]
    · by_cases hm : j = m
      · subst hm
        simp [Tbl.ins, hk, Tbl.get]
      · simp [Tbl.ins, hk, Tbl.get, hm, ih]

theorem Tbl.del_ne (t : Tbl α) (k : Nat) : ∀ e ∈ Tbl.del t k, e.1 ≠ k := by
  intro e he
  simpa [Tbl.del] using (List.mem_filter.mp he).2

/-- A read after a write to the same key gives the value written. -/
@[simp] theorem Tbl.get_put_same [DecidableEq α] (d : α) (t : Tbl α) (k : Nat) (v : α) :
    Tbl.get d (Tbl.put d t k v) k = v := by
  unfold Tbl.put
  split
  · rw [Tbl.get_del_same]; symm; assumption
  · exact Tbl.get_ins_same d _ k v (Tbl.del_ne t k)

/-- A write leaves every other key alone. -/
theorem Tbl.get_put_other [DecidableEq α] (d : α) (t : Tbl α) {k m : Nat} (v : α) (h : m ≠ k) :
    Tbl.get d (Tbl.put d t k v) m = Tbl.get d t m := by
  unfold Tbl.put
  split
  · exact Tbl.get_del_other d t h
  · rw [Tbl.get_ins_other d _ v h, Tbl.get_del_other d t h]

@[simp] theorem Tbl.get_upd_same [DecidableEq α] (d : α) (t : Tbl α) (k : Nat) (f : α → α) :
    Tbl.get d (Tbl.upd d t k f) k = f (Tbl.get d t k) := by
  simp [Tbl.upd]

theorem Tbl.get_upd_other [DecidableEq α] (d : α) (t : Tbl α) {k m : Nat} (f : α → α) (h : m ≠ k) :
    Tbl.get d (Tbl.upd d t k f) m = Tbl.get d t m := by
  simp [Tbl.upd, Tbl.get_put_other d t _ h]

/-- Reading an optional entry is reading with `none` as the default. -/
theorem Tbl.find_del_same (t : Tbl α) (k : Nat) : Tbl.find (Tbl.del t k) k = none := by
  induction t with
  | nil => rfl
  | cons e r ih =>
    obtain ⟨j, v⟩ := e
    by_cases h : j = k
    · simpa [Tbl.del, h] using ih
    · simpa [Tbl.del, h, Tbl.find] using ih

theorem Tbl.find_del_other (t : Tbl α) {k m : Nat} (h : m ≠ k) : Tbl.find (Tbl.del t k) m = Tbl.find t m := by
  induction t with
  | nil => rfl
  | cons e r ih =>
    obtain ⟨j, v⟩ := e
    by_cases hj : j = k
    · subst hj
      simpa [Tbl.del, Tbl.find, Ne.symm h] using ih
    · by_cases hm : j = m
      · subst hm
        simp [Tbl.del, hj, Tbl.find]
      · simpa [Tbl.del, hj, Tbl.find, hm] using ih

theorem Tbl.find_ins_same (t : Tbl α) (k : Nat) (v : α) (h : ∀ e ∈ t, e.1 ≠ k) :
    Tbl.find (Tbl.ins t k v) k = some v := by
  induction t with
  | nil => simp [Tbl.ins, Tbl.find]
  | cons e r ih =>
    obtain ⟨j, w⟩ := e
    have hj : j ≠ k := h (j, w) (by simp)
    by_cases hk : k < j
    · simp [Tbl.ins, hk, Tbl.find]
    · simp [Tbl.ins, hk, Tbl.find, hj, ih (fun e he => h e (by simp [he]))]

theorem Tbl.find_ins_other (t : Tbl α) {k m : Nat} (v : α) (h : m ≠ k) :
    Tbl.find (Tbl.ins t k v) m = Tbl.find t m := by
  induction t with
  | nil => simp [Tbl.ins, Tbl.find, Ne.symm h]
  | cons e r ih =>
    obtain ⟨j, w⟩ := e
    by_cases hk : k < j
    · simp [Tbl.ins, hk, Tbl.find, Ne.symm h]
    · by_cases hm : j = m
      · subst hm
        simp [Tbl.ins, hk, Tbl.find]
      · simp [Tbl.ins, hk, Tbl.find, hm, ih]

@[simp] theorem Tbl.find_set_same (t : Tbl α) (k : Nat) (v : α) : Tbl.find (Tbl.set t k v) k = some v :=
  Tbl.find_ins_same _ k v (Tbl.del_ne t k)

theorem Tbl.find_set_other (t : Tbl α) {k m : Nat} (v : α) (h : m ≠ k) :
    Tbl.find (Tbl.set t k v) m = Tbl.find t m := by
  rw [Tbl.set, Tbl.find_ins_other _ v h, Tbl.find_del_other t h]

/-- The canonical form, said by its parts: the head is not the default, every later key is above it, and the rest is
canonical. -/
theorem Tbl.wf_cons [DecidableEq α] (d : α) (j : Nat) (v : α) (r : Tbl α) :
    Tbl.wf d ((j, v) :: r) = true ↔ v ≠ d ∧ Tbl.above j r ∧ Tbl.wf d r = true := by
  induction r generalizing j v with
  | nil => simp [Tbl.wf, Tbl.above]
  | cons e r ih =>
    obtain ⟨k, w⟩ := e
    have h := ih k w
    simp only [Tbl.wf, Bool.and_eq_true, bne_iff_ne, ne_eq, decide_eq_true_eq]
    constructor
    · rintro ⟨⟨hv, hk⟩, hr⟩
      refine ⟨hv, ?_, hr⟩
      intro e he
      rcases List.mem_cons.mp he with rfl | he
      · exact hk
      · exact lt_trans hk ((h.mp hr).2.1 e he)
    · rintro ⟨hv, ha, hr⟩
      exact ⟨⟨hv, ha (k, w) (by simp)⟩, hr⟩

/-- Removing entries by a test keeps the canonical form. -/
theorem Tbl.wf_filter [DecidableEq α] (d : α) (p : Nat × α → Bool) :
    ∀ t : Tbl α, Tbl.wf d t = true → Tbl.wf d (t.filter p) = true
  | [], _ => rfl
  | (j, v) :: r, h => by
    obtain ⟨hv, ha, hr⟩ := (Tbl.wf_cons d j v r).mp h
    have ih := Tbl.wf_filter d p r hr
    by_cases hp : p (j, v) = true
    · rw [List.filter_cons_of_pos hp]
      exact (Tbl.wf_cons d j v _).mpr ⟨hv, fun e he => ha e (List.mem_filter.mp he).1, ih⟩
    · rw [List.filter_cons_of_neg hp]
      exact ih

theorem Tbl.above_ins (t : Tbl α) (b k : Nat) (v : α) (hb : b < k) (h : Tbl.above b t) : Tbl.above b (Tbl.ins t k v) := by
  induction t with
  | nil => simpa [Tbl.ins, Tbl.above] using hb
  | cons e r ih =>
    obtain ⟨j, w⟩ := e
    have hr : Tbl.above b r := fun e he => h e (by simp [he])
    have hj : b < j := h (j, w) (by simp)
    unfold Tbl.ins
    split
    · intro e he
      rcases List.mem_cons.mp he with rfl | he
      · exact hb
      · exact h e he
    · intro e he
      rcases List.mem_cons.mp he with rfl | he
      · exact hj
      · exact ih hr e he

theorem Tbl.wf_ins [DecidableEq α] (d : α) (k : Nat) (v : α) (hv : v ≠ d) :
    ∀ t : Tbl α, Tbl.wf d t = true → (∀ e ∈ t, e.1 ≠ k) → Tbl.wf d (Tbl.ins t k v) = true
  | [], _, _ => by simp [Tbl.ins, Tbl.wf, hv]
  | (j, w) :: r, h, hk => by
    obtain ⟨hw, ha, hr⟩ := (Tbl.wf_cons d j w r).mp h
    have hj : j ≠ k := hk (j, w) (by simp)
    unfold Tbl.ins
    split
    · rename_i hlt
      refine (Tbl.wf_cons d k v _).mpr ⟨hv, ?_, h⟩
      intro e he
      rcases List.mem_cons.mp he with rfl | he
      · exact hlt
      · exact lt_trans hlt (ha e he)
    · rename_i hlt
      refine (Tbl.wf_cons d j w _).mpr ⟨hw, Tbl.above_ins r j k v (by omega) ha, ?_⟩
      exact Tbl.wf_ins d k v hv r hr (fun e he => hk e (by simp [he]))

/-- A write keeps the canonical form. -/
theorem Tbl.wf_put [DecidableEq α] (d : α) (t : Tbl α) (k : Nat) (v : α) (h : Tbl.wf d t = true) :
    Tbl.wf d (Tbl.put d t k v) = true := by
  unfold Tbl.put
  have hd : Tbl.wf d (Tbl.del t k) = true := Tbl.wf_filter d _ t h
  split
  · exact hd
  · exact Tbl.wf_ins d k v ‹_› _ hd (Tbl.del_ne t k)

theorem Tbl.wf_upd [DecidableEq α] (d : α) (t : Tbl α) (k : Nat) (f : α → α) (h : Tbl.wf d t = true) :
    Tbl.wf d (Tbl.upd d t k f) = true := Tbl.wf_put d t k _ h

/-- Clearing a range of a memory keeps the canonical form. -/
theorem Mem.wf_clear (d : Byte) (m : Mem) (a n : Nat) (h : Tbl.wf d m = true) : Tbl.wf d (Mem.clear m a n) = true :=
  Tbl.wf_filter d _ m h

/-- Writing bytes to a memory keeps the canonical form. -/
theorem Mem.wf_write (d : Byte) (l : List Byte) : ∀ (m : Mem) (a : Nat),
    Tbl.wf d m = true → Tbl.wf d (Mem.write d m a l) = true := by
  induction l with
  | nil => exact fun m a h => h
  | cons b bs ih => exact fun m a h => ih _ _ (Tbl.wf_put d m a b h)

/-- Bytes below a write are left alone. -/
theorem Mem.get_write_below (d : Byte) (l : List Byte) :
    ∀ (m : Mem) (a k : Nat), k < a → Tbl.get d (Mem.write d m a l) k = Tbl.get d m k := by
  induction l with
  | nil => exact fun m a k h => rfl
  | cons b bs ih =>
    intro m a k h
    rw [Mem.write, ih _ _ _ (by omega), Tbl.get_put_other d m b (by omega)]

/-- Bytes above a write are left alone. -/
theorem Mem.get_write_above (d : Byte) (l : List Byte) :
    ∀ (m : Mem) (a k : Nat), a + l.length ≤ k → Tbl.get d (Mem.write d m a l) k = Tbl.get d m k := by
  induction l with
  | nil => exact fun m a k h => rfl
  | cons b bs ih =>
    intro m a k h
    simp only [List.length_cons] at h
    rw [Mem.write, ih _ _ _ (by omega), Tbl.get_put_other d m b (by omega)]

/-- The bytes written are read back. -/
theorem Mem.bytes_write (d : Byte) (l : List Byte) :
    ∀ (m : Mem) (a : Nat), Mem.bytes d (Mem.write d m a l) a l.length = l := by
  induction l with
  | nil => exact fun m a => rfl
  | cons b bs ih =>
    intro m a
    simp only [List.length_cons, Mem.bytes, Mem.write]
    rw [Mem.get_write_below d bs _ _ _ (by omega), Tbl.get_put_same, ih]

end Sys2Proof
end

