-- ==== Sys2Proof/Laws/State.lean ====
section
/-! SUPPORT. What the updates of the state leave alone, one lemma for each field and update, and reading an entry of a table after
its change. -/

namespace Sys2Proof.Machine

-- storing a parameter word and drawing a free value
@[simp] theorem State.setP_pending (s : State) (a v : Nat) : (s.setP a v).pending = s.pending := rfl
@[simp] theorem State.setPf_pending (s : State) (a lo wid v : Nat) : (s.setPf a lo wid v).pending = s.pending := rfl
@[simp] theorem State.setPb_pending (s : State) (a lo : Nat) (b : Bool) : (s.setPb a lo b).pending = s.pending := rfl
@[simp] theorem State.incPf_pending (s : State) (a lo wid : Nat) : (s.incPf a lo wid).pending = s.pending := rfl
@[simp] theorem State.drawn_pending (s : State)  : (s.drawn).pending = s.pending := rfl
@[simp] theorem State.setP_free (s : State) (a v : Nat) : (s.setP a v).free = s.free := rfl
@[simp] theorem State.setPf_free (s : State) (a lo wid v : Nat) : (s.setPf a lo wid v).free = s.free := rfl
@[simp] theorem State.setPb_free (s : State) (a lo : Nat) (b : Bool) : (s.setPb a lo b).free = s.free := rfl
@[simp] theorem State.incPf_free (s : State) (a lo wid : Nat) : (s.incPf a lo wid).free = s.free := rfl
@[simp] theorem State.drawn_free (s : State)  : (s.drawn).free = s.free + 1 := rfl
@[simp] theorem State.setP_sys (s : State) (a v : Nat) : (s.setP a v).sys = s.sys := rfl
@[simp] theorem State.setPf_sys (s : State) (a lo wid v : Nat) : (s.setPf a lo wid v).sys = s.sys := rfl
@[simp] theorem State.setPb_sys (s : State) (a lo : Nat) (b : Bool) : (s.setPb a lo b).sys = s.sys := rfl
@[simp] theorem State.incPf_sys (s : State) (a lo wid : Nat) : (s.incPf a lo wid).sys = s.sys := rfl
@[simp] theorem State.drawn_sys (s : State)  : (s.drawn).sys = s.sys := rfl
@[simp] theorem State.setP_island (s : State) (a v : Nat) : (s.setP a v).island = s.island := rfl
@[simp] theorem State.setPf_island (s : State) (a lo wid v : Nat) : (s.setPf a lo wid v).island = s.island := rfl
@[simp] theorem State.setPb_island (s : State) (a lo : Nat) (b : Bool) : (s.setPb a lo b).island = s.island := rfl
@[simp] theorem State.incPf_island (s : State) (a lo wid : Nat) : (s.incPf a lo wid).island = s.island := rfl
@[simp] theorem State.drawn_island (s : State)  : (s.drawn).island = s.island := rfl
@[simp] theorem State.setP_nvm (s : State) (a v : Nat) : (s.setP a v).nvm = s.nvm := rfl
@[simp] theorem State.setPf_nvm (s : State) (a lo wid v : Nat) : (s.setPf a lo wid v).nvm = s.nvm := rfl
@[simp] theorem State.setPb_nvm (s : State) (a lo : Nat) (b : Bool) : (s.setPb a lo b).nvm = s.nvm := rfl
@[simp] theorem State.incPf_nvm (s : State) (a lo wid : Nat) : (s.incPf a lo wid).nvm = s.nvm := rfl
@[simp] theorem State.drawn_nvm (s : State)  : (s.drawn).nvm = s.nvm := rfl
@[simp] theorem State.drawn_params (s : State)  : (s.drawn).params = s.params := rfl
@[simp] theorem State.setP_cmd (s : State) (a v : Nat) : (s.setP a v).cmd = s.cmd := rfl
@[simp] theorem State.setPf_cmd (s : State) (a lo wid v : Nat) : (s.setPf a lo wid v).cmd = s.cmd := rfl
@[simp] theorem State.setPb_cmd (s : State) (a lo : Nat) (b : Bool) : (s.setPb a lo b).cmd = s.cmd := rfl
@[simp] theorem State.incPf_cmd (s : State) (a lo wid : Nat) : (s.incPf a lo wid).cmd = s.cmd := rfl
@[simp] theorem State.drawn_cmd (s : State)  : (s.drawn).cmd = s.cmd := rfl
@[simp] theorem State.setP_hdl (s : State) (a v : Nat) : (s.setP a v).hdl = s.hdl := rfl
@[simp] theorem State.setPf_hdl (s : State) (a lo wid v : Nat) : (s.setPf a lo wid v).hdl = s.hdl := rfl
@[simp] theorem State.setPb_hdl (s : State) (a lo : Nat) (b : Bool) : (s.setPb a lo b).hdl = s.hdl := rfl
@[simp] theorem State.incPf_hdl (s : State) (a lo wid : Nat) : (s.incPf a lo wid).hdl = s.hdl := rfl
@[simp] theorem State.drawn_hdl (s : State)  : (s.drawn).hdl = s.hdl := rfl
@[simp] theorem State.setP_evt (s : State) (a v : Nat) : (s.setP a v).evt = s.evt := rfl
@[simp] theorem State.setPf_evt (s : State) (a lo wid v : Nat) : (s.setPf a lo wid v).evt = s.evt := rfl
@[simp] theorem State.setPb_evt (s : State) (a lo : Nat) (b : Bool) : (s.setPb a lo b).evt = s.evt := rfl
@[simp] theorem State.incPf_evt (s : State) (a lo wid : Nat) : (s.incPf a lo wid).evt = s.evt := rfl
@[simp] theorem State.drawn_evt (s : State)  : (s.drawn).evt = s.evt := rfl
@[simp] theorem State.setP_wdg (s : State) (a v : Nat) : (s.setP a v).wdg = s.wdg := rfl
@[simp] theorem State.setPf_wdg (s : State) (a lo wid v : Nat) : (s.setPf a lo wid v).wdg = s.wdg := rfl
@[simp] theorem State.setPb_wdg (s : State) (a lo : Nat) (b : Bool) : (s.setPb a lo b).wdg = s.wdg := rfl
@[simp] theorem State.incPf_wdg (s : State) (a lo wid : Nat) : (s.incPf a lo wid).wdg = s.wdg := rfl
@[simp] theorem State.drawn_wdg (s : State)  : (s.drawn).wdg = s.wdg := rfl
@[simp] theorem State.setP_out (s : State) (a v : Nat) : (s.setP a v).out = s.out := rfl
@[simp] theorem State.setPf_out (s : State) (a lo wid v : Nat) : (s.setPf a lo wid v).out = s.out := rfl
@[simp] theorem State.setPb_out (s : State) (a lo : Nat) (b : Bool) : (s.setPb a lo b).out = s.out := rfl
@[simp] theorem State.incPf_out (s : State) (a lo wid : Nat) : (s.incPf a lo wid).out = s.out := rfl
@[simp] theorem State.drawn_out (s : State)  : (s.drawn).out = s.out := rfl
@[simp] theorem State.setP_flue (s : State) (a v : Nat) : (s.setP a v).flue = s.flue := rfl
@[simp] theorem State.setPf_flue (s : State) (a lo wid v : Nat) : (s.setPf a lo wid v).flue = s.flue := rfl
@[simp] theorem State.setPb_flue (s : State) (a lo : Nat) (b : Bool) : (s.setPb a lo b).flue = s.flue := rfl
@[simp] theorem State.incPf_flue (s : State) (a lo wid : Nat) : (s.incPf a lo wid).flue = s.flue := rfl
@[simp] theorem State.drawn_flue (s : State)  : (s.drawn).flue = s.flue := rfl
@[simp] theorem State.setP_insts (s : State) (a v : Nat) : (s.setP a v).insts = s.insts := rfl
@[simp] theorem State.setPf_insts (s : State) (a lo wid v : Nat) : (s.setPf a lo wid v).insts = s.insts := rfl
@[simp] theorem State.setPb_insts (s : State) (a lo : Nat) (b : Bool) : (s.setPb a lo b).insts = s.insts := rfl
@[simp] theorem State.incPf_insts (s : State) (a lo wid : Nat) : (s.incPf a lo wid).insts = s.insts := rfl
@[simp] theorem State.drawn_insts (s : State)  : (s.drawn).insts = s.insts := rfl
@[simp] theorem State.setP_part (s : State) (a v : Nat) : (s.setP a v).part = s.part := rfl
@[simp] theorem State.setPf_part (s : State) (a lo wid v : Nat) : (s.setPf a lo wid v).part = s.part := rfl
@[simp] theorem State.setPb_part (s : State) (a lo : Nat) (b : Bool) : (s.setPb a lo b).part = s.part := rfl
@[simp] theorem State.incPf_part (s : State) (a lo wid : Nat) : (s.incPf a lo wid).part = s.part := rfl
@[simp] theorem State.drawn_part (s : State)  : (s.drawn).part = s.part := rfl
@[simp] theorem State.setP_net (s : State) (a v : Nat) : (s.setP a v).net = s.net := rfl
@[simp] theorem State.setPf_net (s : State) (a lo wid v : Nat) : (s.setPf a lo wid v).net = s.net := rfl
@[simp] theorem State.setPb_net (s : State) (a lo : Nat) (b : Bool) : (s.setPb a lo b).net = s.net := rfl
@[simp] theorem State.incPf_net (s : State) (a lo wid : Nat) : (s.incPf a lo wid).net = s.net := rfl
@[simp] theorem State.drawn_net (s : State)  : (s.drawn).net = s.net := rfl
@[simp] theorem State.setP_cores (s : State) (a v : Nat) : (s.setP a v).cores = s.cores := rfl
@[simp] theorem State.setPf_cores (s : State) (a lo wid v : Nat) : (s.setPf a lo wid v).cores = s.cores := rfl
@[simp] theorem State.setPb_cores (s : State) (a lo : Nat) (b : Bool) : (s.setPb a lo b).cores = s.cores := rfl
@[simp] theorem State.incPf_cores (s : State) (a lo wid : Nat) : (s.incPf a lo wid).cores = s.cores := rfl
@[simp] theorem State.drawn_cores (s : State)  : (s.drawn).cores = s.cores := rfl
@[simp] theorem State.setP_sampled (s : State) (a v : Nat) : (s.setP a v).sampled = s.sampled := rfl
@[simp] theorem State.setPf_sampled (s : State) (a lo wid v : Nat) : (s.setPf a lo wid v).sampled = s.sampled := rfl
@[simp] theorem State.setPb_sampled (s : State) (a lo : Nat) (b : Bool) : (s.setPb a lo b).sampled = s.sampled := rfl
@[simp] theorem State.incPf_sampled (s : State) (a lo wid : Nat) : (s.incPf a lo wid).sampled = s.sampled := rfl
@[simp] theorem State.drawn_sampled (s : State)  : (s.drawn).sampled = s.sampled := rfl
@[simp] theorem State.setP_wks (s : State) (a v : Nat) : (s.setP a v).wks = s.wks := rfl
@[simp] theorem State.setPf_wks (s : State) (a lo wid v : Nat) : (s.setPf a lo wid v).wks = s.wks := rfl
@[simp] theorem State.setPb_wks (s : State) (a lo : Nat) (b : Bool) : (s.setPb a lo b).wks = s.wks := rfl
@[simp] theorem State.incPf_wks (s : State) (a lo wid : Nat) : (s.incPf a lo wid).wks = s.wks := rfl
@[simp] theorem State.drawn_wks (s : State)  : (s.drawn).wks = s.wks := rfl
@[simp] theorem State.setP_sent (s : State) (a v : Nat) : (s.setP a v).sent = s.sent := rfl
@[simp] theorem State.setPf_sent (s : State) (a lo wid v : Nat) : (s.setPf a lo wid v).sent = s.sent := rfl
@[simp] theorem State.setPb_sent (s : State) (a lo : Nat) (b : Bool) : (s.setPb a lo b).sent = s.sent := rfl
@[simp] theorem State.incPf_sent (s : State) (a lo wid : Nat) : (s.incPf a lo wid).sent = s.sent := rfl
@[simp] theorem State.drawn_sent (s : State)  : (s.drawn).sent = s.sent := rfl
@[simp] theorem State.setP_debugger (s : State) (a v : Nat) : (s.setP a v).debugger = s.debugger := rfl
@[simp] theorem State.setPf_debugger (s : State) (a lo wid v : Nat) : (s.setPf a lo wid v).debugger = s.debugger := rfl
@[simp] theorem State.setPb_debugger (s : State) (a lo : Nat) (b : Bool) : (s.setPb a lo b).debugger = s.debugger := rfl
@[simp] theorem State.incPf_debugger (s : State) (a lo wid : Nat) : (s.incPf a lo wid).debugger = s.debugger := rfl
@[simp] theorem State.drawn_debugger (s : State)  : (s.drawn).debugger = s.debugger := rfl

-- mapSys
@[simp] theorem State.mapSys_pending (s : State) (f : Sys → Sys) : (s.mapSys f).pending = s.pending := rfl
@[simp] theorem State.mapSys_free (s : State) (f : Sys → Sys) : (s.mapSys f).free = s.free := rfl
@[simp] theorem State.mapSys_sys (s : State) (f : Sys → Sys) : (s.mapSys f).sys = f s.sys := rfl
@[simp] theorem State.mapSys_island (s : State) (f : Sys → Sys) : (s.mapSys f).island = s.island := rfl
@[simp] theorem State.mapSys_nvm (s : State) (f : Sys → Sys) : (s.mapSys f).nvm = s.nvm := rfl
@[simp] theorem State.mapSys_params (s : State) (f : Sys → Sys) : (s.mapSys f).params = s.params := rfl
@[simp] theorem State.mapSys_cmd (s : State) (f : Sys → Sys) : (s.mapSys f).cmd = s.cmd := rfl
@[simp] theorem State.mapSys_hdl (s : State) (f : Sys → Sys) : (s.mapSys f).hdl = s.hdl := rfl
@[simp] theorem State.mapSys_evt (s : State) (f : Sys → Sys) : (s.mapSys f).evt = s.evt := rfl
@[simp] theorem State.mapSys_wdg (s : State) (f : Sys → Sys) : (s.mapSys f).wdg = s.wdg := rfl
@[simp] theorem State.mapSys_out (s : State) (f : Sys → Sys) : (s.mapSys f).out = s.out := rfl
@[simp] theorem State.mapSys_flue (s : State) (f : Sys → Sys) : (s.mapSys f).flue = s.flue := rfl
@[simp] theorem State.mapSys_insts (s : State) (f : Sys → Sys) : (s.mapSys f).insts = s.insts := rfl
@[simp] theorem State.mapSys_part (s : State) (f : Sys → Sys) : (s.mapSys f).part = s.part := rfl
@[simp] theorem State.mapSys_net (s : State) (f : Sys → Sys) : (s.mapSys f).net = s.net := rfl
@[simp] theorem State.mapSys_cores (s : State) (f : Sys → Sys) : (s.mapSys f).cores = s.cores := rfl
@[simp] theorem State.mapSys_sampled (s : State) (f : Sys → Sys) : (s.mapSys f).sampled = s.sampled := rfl
@[simp] theorem State.mapSys_wks (s : State) (f : Sys → Sys) : (s.mapSys f).wks = s.wks := rfl
@[simp] theorem State.mapSys_sent (s : State) (f : Sys → Sys) : (s.mapSys f).sent = s.sent := rfl
@[simp] theorem State.mapSys_debugger (s : State) (f : Sys → Sys) : (s.mapSys f).debugger = s.debugger := rfl

-- mapIsland
@[simp] theorem State.mapIsland_pending (s : State) (f : Island → Island) : (s.mapIsland f).pending = s.pending := rfl
@[simp] theorem State.mapIsland_free (s : State) (f : Island → Island) : (s.mapIsland f).free = s.free := rfl
@[simp] theorem State.mapIsland_sys (s : State) (f : Island → Island) : (s.mapIsland f).sys = s.sys := rfl
@[simp] theorem State.mapIsland_island (s : State) (f : Island → Island) : (s.mapIsland f).island = f s.island := rfl
@[simp] theorem State.mapIsland_nvm (s : State) (f : Island → Island) : (s.mapIsland f).nvm = s.nvm := rfl
@[simp] theorem State.mapIsland_params (s : State) (f : Island → Island) : (s.mapIsland f).params = s.params := rfl
@[simp] theorem State.mapIsland_cmd (s : State) (f : Island → Island) : (s.mapIsland f).cmd = s.cmd := rfl
@[simp] theorem State.mapIsland_hdl (s : State) (f : Island → Island) : (s.mapIsland f).hdl = s.hdl := rfl
@[simp] theorem State.mapIsland_evt (s : State) (f : Island → Island) : (s.mapIsland f).evt = s.evt := rfl
@[simp] theorem State.mapIsland_wdg (s : State) (f : Island → Island) : (s.mapIsland f).wdg = s.wdg := rfl
@[simp] theorem State.mapIsland_out (s : State) (f : Island → Island) : (s.mapIsland f).out = s.out := rfl
@[simp] theorem State.mapIsland_flue (s : State) (f : Island → Island) : (s.mapIsland f).flue = s.flue := rfl
@[simp] theorem State.mapIsland_insts (s : State) (f : Island → Island) : (s.mapIsland f).insts = s.insts := rfl
@[simp] theorem State.mapIsland_part (s : State) (f : Island → Island) : (s.mapIsland f).part = s.part := rfl
@[simp] theorem State.mapIsland_net (s : State) (f : Island → Island) : (s.mapIsland f).net = s.net := rfl
@[simp] theorem State.mapIsland_cores (s : State) (f : Island → Island) : (s.mapIsland f).cores = s.cores := rfl
@[simp] theorem State.mapIsland_sampled (s : State) (f : Island → Island) : (s.mapIsland f).sampled = s.sampled := rfl
@[simp] theorem State.mapIsland_wks (s : State) (f : Island → Island) : (s.mapIsland f).wks = s.wks := rfl
@[simp] theorem State.mapIsland_sent (s : State) (f : Island → Island) : (s.mapIsland f).sent = s.sent := rfl
@[simp] theorem State.mapIsland_debugger (s : State) (f : Island → Island) : (s.mapIsland f).debugger = s.debugger := rfl

-- mapNvm
@[simp] theorem State.mapNvm_pending (s : State) (f : Nvm → Nvm) : (s.mapNvm f).pending = s.pending := rfl
@[simp] theorem State.mapNvm_free (s : State) (f : Nvm → Nvm) : (s.mapNvm f).free = s.free := rfl
@[simp] theorem State.mapNvm_sys (s : State) (f : Nvm → Nvm) : (s.mapNvm f).sys = s.sys := rfl
@[simp] theorem State.mapNvm_island (s : State) (f : Nvm → Nvm) : (s.mapNvm f).island = s.island := rfl
@[simp] theorem State.mapNvm_nvm (s : State) (f : Nvm → Nvm) : (s.mapNvm f).nvm = f s.nvm := rfl
@[simp] theorem State.mapNvm_params (s : State) (f : Nvm → Nvm) : (s.mapNvm f).params = s.params := rfl
@[simp] theorem State.mapNvm_cmd (s : State) (f : Nvm → Nvm) : (s.mapNvm f).cmd = s.cmd := rfl
@[simp] theorem State.mapNvm_hdl (s : State) (f : Nvm → Nvm) : (s.mapNvm f).hdl = s.hdl := rfl
@[simp] theorem State.mapNvm_evt (s : State) (f : Nvm → Nvm) : (s.mapNvm f).evt = s.evt := rfl
@[simp] theorem State.mapNvm_wdg (s : State) (f : Nvm → Nvm) : (s.mapNvm f).wdg = s.wdg := rfl
@[simp] theorem State.mapNvm_out (s : State) (f : Nvm → Nvm) : (s.mapNvm f).out = s.out := rfl
@[simp] theorem State.mapNvm_flue (s : State) (f : Nvm → Nvm) : (s.mapNvm f).flue = s.flue := rfl
@[simp] theorem State.mapNvm_insts (s : State) (f : Nvm → Nvm) : (s.mapNvm f).insts = s.insts := rfl
@[simp] theorem State.mapNvm_part (s : State) (f : Nvm → Nvm) : (s.mapNvm f).part = s.part := rfl
@[simp] theorem State.mapNvm_net (s : State) (f : Nvm → Nvm) : (s.mapNvm f).net = s.net := rfl
@[simp] theorem State.mapNvm_cores (s : State) (f : Nvm → Nvm) : (s.mapNvm f).cores = s.cores := rfl
@[simp] theorem State.mapNvm_sampled (s : State) (f : Nvm → Nvm) : (s.mapNvm f).sampled = s.sampled := rfl
@[simp] theorem State.mapNvm_wks (s : State) (f : Nvm → Nvm) : (s.mapNvm f).wks = s.wks := rfl
@[simp] theorem State.mapNvm_sent (s : State) (f : Nvm → Nvm) : (s.mapNvm f).sent = s.sent := rfl
@[simp] theorem State.mapNvm_debugger (s : State) (f : Nvm → Nvm) : (s.mapNvm f).debugger = s.debugger := rfl

-- mapCmd
@[simp] theorem State.mapCmd_pending (s : State) (f : Cmd → Cmd) : (s.mapCmd f).pending = s.pending := rfl
@[simp] theorem State.mapCmd_free (s : State) (f : Cmd → Cmd) : (s.mapCmd f).free = s.free := rfl
@[simp] theorem State.mapCmd_sys (s : State) (f : Cmd → Cmd) : (s.mapCmd f).sys = s.sys := rfl
@[simp] theorem State.mapCmd_island (s : State) (f : Cmd → Cmd) : (s.mapCmd f).island = s.island := rfl
@[simp] theorem State.mapCmd_nvm (s : State) (f : Cmd → Cmd) : (s.mapCmd f).nvm = s.nvm := rfl
@[simp] theorem State.mapCmd_params (s : State) (f : Cmd → Cmd) : (s.mapCmd f).params = s.params := rfl
@[simp] theorem State.mapCmd_cmd (s : State) (f : Cmd → Cmd) : (s.mapCmd f).cmd = f s.cmd := rfl
@[simp] theorem State.mapCmd_hdl (s : State) (f : Cmd → Cmd) : (s.mapCmd f).hdl = s.hdl := rfl
@[simp] theorem State.mapCmd_evt (s : State) (f : Cmd → Cmd) : (s.mapCmd f).evt = s.evt := rfl
@[simp] theorem State.mapCmd_wdg (s : State) (f : Cmd → Cmd) : (s.mapCmd f).wdg = s.wdg := rfl
@[simp] theorem State.mapCmd_out (s : State) (f : Cmd → Cmd) : (s.mapCmd f).out = s.out := rfl
@[simp] theorem State.mapCmd_flue (s : State) (f : Cmd → Cmd) : (s.mapCmd f).flue = s.flue := rfl
@[simp] theorem State.mapCmd_insts (s : State) (f : Cmd → Cmd) : (s.mapCmd f).insts = s.insts := rfl
@[simp] theorem State.mapCmd_part (s : State) (f : Cmd → Cmd) : (s.mapCmd f).part = s.part := rfl
@[simp] theorem State.mapCmd_net (s : State) (f : Cmd → Cmd) : (s.mapCmd f).net = s.net := rfl
@[simp] theorem State.mapCmd_cores (s : State) (f : Cmd → Cmd) : (s.mapCmd f).cores = s.cores := rfl
@[simp] theorem State.mapCmd_sampled (s : State) (f : Cmd → Cmd) : (s.mapCmd f).sampled = s.sampled := rfl
@[simp] theorem State.mapCmd_wks (s : State) (f : Cmd → Cmd) : (s.mapCmd f).wks = s.wks := rfl
@[simp] theorem State.mapCmd_sent (s : State) (f : Cmd → Cmd) : (s.mapCmd f).sent = s.sent := rfl
@[simp] theorem State.mapCmd_debugger (s : State) (f : Cmd → Cmd) : (s.mapCmd f).debugger = s.debugger := rfl

-- mapHdl
@[simp] theorem State.mapHdl_pending (s : State) (f : Hdl → Hdl) : (s.mapHdl f).pending = s.pending := rfl
@[simp] theorem State.mapHdl_free (s : State) (f : Hdl → Hdl) : (s.mapHdl f).free = s.free := rfl
@[simp] theorem State.mapHdl_sys (s : State) (f : Hdl → Hdl) : (s.mapHdl f).sys = s.sys := rfl
@[simp] theorem State.mapHdl_island (s : State) (f : Hdl → Hdl) : (s.mapHdl f).island = s.island := rfl
@[simp] theorem State.mapHdl_nvm (s : State) (f : Hdl → Hdl) : (s.mapHdl f).nvm = s.nvm := rfl
@[simp] theorem State.mapHdl_params (s : State) (f : Hdl → Hdl) : (s.mapHdl f).params = s.params := rfl
@[simp] theorem State.mapHdl_cmd (s : State) (f : Hdl → Hdl) : (s.mapHdl f).cmd = s.cmd := rfl
@[simp] theorem State.mapHdl_hdl (s : State) (f : Hdl → Hdl) : (s.mapHdl f).hdl = f s.hdl := rfl
@[simp] theorem State.mapHdl_evt (s : State) (f : Hdl → Hdl) : (s.mapHdl f).evt = s.evt := rfl
@[simp] theorem State.mapHdl_wdg (s : State) (f : Hdl → Hdl) : (s.mapHdl f).wdg = s.wdg := rfl
@[simp] theorem State.mapHdl_out (s : State) (f : Hdl → Hdl) : (s.mapHdl f).out = s.out := rfl
@[simp] theorem State.mapHdl_flue (s : State) (f : Hdl → Hdl) : (s.mapHdl f).flue = s.flue := rfl
@[simp] theorem State.mapHdl_insts (s : State) (f : Hdl → Hdl) : (s.mapHdl f).insts = s.insts := rfl
@[simp] theorem State.mapHdl_part (s : State) (f : Hdl → Hdl) : (s.mapHdl f).part = s.part := rfl
@[simp] theorem State.mapHdl_net (s : State) (f : Hdl → Hdl) : (s.mapHdl f).net = s.net := rfl
@[simp] theorem State.mapHdl_cores (s : State) (f : Hdl → Hdl) : (s.mapHdl f).cores = s.cores := rfl
@[simp] theorem State.mapHdl_sampled (s : State) (f : Hdl → Hdl) : (s.mapHdl f).sampled = s.sampled := rfl
@[simp] theorem State.mapHdl_wks (s : State) (f : Hdl → Hdl) : (s.mapHdl f).wks = s.wks := rfl
@[simp] theorem State.mapHdl_sent (s : State) (f : Hdl → Hdl) : (s.mapHdl f).sent = s.sent := rfl
@[simp] theorem State.mapHdl_debugger (s : State) (f : Hdl → Hdl) : (s.mapHdl f).debugger = s.debugger := rfl

-- mapEvt
@[simp] theorem State.mapEvt_pending (s : State) (f : Evt → Evt) : (s.mapEvt f).pending = s.pending := rfl
@[simp] theorem State.mapEvt_free (s : State) (f : Evt → Evt) : (s.mapEvt f).free = s.free := rfl
@[simp] theorem State.mapEvt_sys (s : State) (f : Evt → Evt) : (s.mapEvt f).sys = s.sys := rfl
@[simp] theorem State.mapEvt_island (s : State) (f : Evt → Evt) : (s.mapEvt f).island = s.island := rfl
@[simp] theorem State.mapEvt_nvm (s : State) (f : Evt → Evt) : (s.mapEvt f).nvm = s.nvm := rfl
@[simp] theorem State.mapEvt_params (s : State) (f : Evt → Evt) : (s.mapEvt f).params = s.params := rfl
@[simp] theorem State.mapEvt_cmd (s : State) (f : Evt → Evt) : (s.mapEvt f).cmd = s.cmd := rfl
@[simp] theorem State.mapEvt_hdl (s : State) (f : Evt → Evt) : (s.mapEvt f).hdl = s.hdl := rfl
@[simp] theorem State.mapEvt_evt (s : State) (f : Evt → Evt) : (s.mapEvt f).evt = f s.evt := rfl
@[simp] theorem State.mapEvt_wdg (s : State) (f : Evt → Evt) : (s.mapEvt f).wdg = s.wdg := rfl
@[simp] theorem State.mapEvt_out (s : State) (f : Evt → Evt) : (s.mapEvt f).out = s.out := rfl
@[simp] theorem State.mapEvt_flue (s : State) (f : Evt → Evt) : (s.mapEvt f).flue = s.flue := rfl
@[simp] theorem State.mapEvt_insts (s : State) (f : Evt → Evt) : (s.mapEvt f).insts = s.insts := rfl
@[simp] theorem State.mapEvt_part (s : State) (f : Evt → Evt) : (s.mapEvt f).part = s.part := rfl
@[simp] theorem State.mapEvt_net (s : State) (f : Evt → Evt) : (s.mapEvt f).net = s.net := rfl
@[simp] theorem State.mapEvt_cores (s : State) (f : Evt → Evt) : (s.mapEvt f).cores = s.cores := rfl
@[simp] theorem State.mapEvt_sampled (s : State) (f : Evt → Evt) : (s.mapEvt f).sampled = s.sampled := rfl
@[simp] theorem State.mapEvt_wks (s : State) (f : Evt → Evt) : (s.mapEvt f).wks = s.wks := rfl
@[simp] theorem State.mapEvt_sent (s : State) (f : Evt → Evt) : (s.mapEvt f).sent = s.sent := rfl
@[simp] theorem State.mapEvt_debugger (s : State) (f : Evt → Evt) : (s.mapEvt f).debugger = s.debugger := rfl

-- mapWdg
@[simp] theorem State.mapWdg_pending (s : State) (f : Wdg → Wdg) : (s.mapWdg f).pending = s.pending := rfl
@[simp] theorem State.mapWdg_free (s : State) (f : Wdg → Wdg) : (s.mapWdg f).free = s.free := rfl
@[simp] theorem State.mapWdg_sys (s : State) (f : Wdg → Wdg) : (s.mapWdg f).sys = s.sys := rfl
@[simp] theorem State.mapWdg_island (s : State) (f : Wdg → Wdg) : (s.mapWdg f).island = s.island := rfl
@[simp] theorem State.mapWdg_nvm (s : State) (f : Wdg → Wdg) : (s.mapWdg f).nvm = s.nvm := rfl
@[simp] theorem State.mapWdg_params (s : State) (f : Wdg → Wdg) : (s.mapWdg f).params = s.params := rfl
@[simp] theorem State.mapWdg_cmd (s : State) (f : Wdg → Wdg) : (s.mapWdg f).cmd = s.cmd := rfl
@[simp] theorem State.mapWdg_hdl (s : State) (f : Wdg → Wdg) : (s.mapWdg f).hdl = s.hdl := rfl
@[simp] theorem State.mapWdg_evt (s : State) (f : Wdg → Wdg) : (s.mapWdg f).evt = s.evt := rfl
@[simp] theorem State.mapWdg_wdg (s : State) (f : Wdg → Wdg) : (s.mapWdg f).wdg = f s.wdg := rfl
@[simp] theorem State.mapWdg_out (s : State) (f : Wdg → Wdg) : (s.mapWdg f).out = s.out := rfl
@[simp] theorem State.mapWdg_flue (s : State) (f : Wdg → Wdg) : (s.mapWdg f).flue = s.flue := rfl
@[simp] theorem State.mapWdg_insts (s : State) (f : Wdg → Wdg) : (s.mapWdg f).insts = s.insts := rfl
@[simp] theorem State.mapWdg_part (s : State) (f : Wdg → Wdg) : (s.mapWdg f).part = s.part := rfl
@[simp] theorem State.mapWdg_net (s : State) (f : Wdg → Wdg) : (s.mapWdg f).net = s.net := rfl
@[simp] theorem State.mapWdg_cores (s : State) (f : Wdg → Wdg) : (s.mapWdg f).cores = s.cores := rfl
@[simp] theorem State.mapWdg_sampled (s : State) (f : Wdg → Wdg) : (s.mapWdg f).sampled = s.sampled := rfl
@[simp] theorem State.mapWdg_wks (s : State) (f : Wdg → Wdg) : (s.mapWdg f).wks = s.wks := rfl
@[simp] theorem State.mapWdg_sent (s : State) (f : Wdg → Wdg) : (s.mapWdg f).sent = s.sent := rfl
@[simp] theorem State.mapWdg_debugger (s : State) (f : Wdg → Wdg) : (s.mapWdg f).debugger = s.debugger := rfl

-- mapOut
@[simp] theorem State.mapOut_pending (s : State) (f : Outs → Outs) : (s.mapOut f).pending = s.pending := rfl
@[simp] theorem State.mapOut_free (s : State) (f : Outs → Outs) : (s.mapOut f).free = s.free := rfl
@[simp] theorem State.mapOut_sys (s : State) (f : Outs → Outs) : (s.mapOut f).sys = s.sys := rfl
@[simp] theorem State.mapOut_island (s : State) (f : Outs → Outs) : (s.mapOut f).island = s.island := rfl
@[simp] theorem State.mapOut_nvm (s : State) (f : Outs → Outs) : (s.mapOut f).nvm = s.nvm := rfl
@[simp] theorem State.mapOut_params (s : State) (f : Outs → Outs) : (s.mapOut f).params = s.params := rfl
@[simp] theorem State.mapOut_cmd (s : State) (f : Outs → Outs) : (s.mapOut f).cmd = s.cmd := rfl
@[simp] theorem State.mapOut_hdl (s : State) (f : Outs → Outs) : (s.mapOut f).hdl = s.hdl := rfl
@[simp] theorem State.mapOut_evt (s : State) (f : Outs → Outs) : (s.mapOut f).evt = s.evt := rfl
@[simp] theorem State.mapOut_wdg (s : State) (f : Outs → Outs) : (s.mapOut f).wdg = s.wdg := rfl
@[simp] theorem State.mapOut_out (s : State) (f : Outs → Outs) : (s.mapOut f).out = f s.out := rfl
@[simp] theorem State.mapOut_flue (s : State) (f : Outs → Outs) : (s.mapOut f).flue = s.flue := rfl
@[simp] theorem State.mapOut_insts (s : State) (f : Outs → Outs) : (s.mapOut f).insts = s.insts := rfl
@[simp] theorem State.mapOut_part (s : State) (f : Outs → Outs) : (s.mapOut f).part = s.part := rfl
@[simp] theorem State.mapOut_net (s : State) (f : Outs → Outs) : (s.mapOut f).net = s.net := rfl
@[simp] theorem State.mapOut_cores (s : State) (f : Outs → Outs) : (s.mapOut f).cores = s.cores := rfl
@[simp] theorem State.mapOut_sampled (s : State) (f : Outs → Outs) : (s.mapOut f).sampled = s.sampled := rfl
@[simp] theorem State.mapOut_wks (s : State) (f : Outs → Outs) : (s.mapOut f).wks = s.wks := rfl
@[simp] theorem State.mapOut_sent (s : State) (f : Outs → Outs) : (s.mapOut f).sent = s.sent := rfl
@[simp] theorem State.mapOut_debugger (s : State) (f : Outs → Outs) : (s.mapOut f).debugger = s.debugger := rfl

-- mapFlue
@[simp] theorem State.mapFlue_pending (s : State) (f : Flue → Flue) : (s.mapFlue f).pending = s.pending := rfl
@[simp] theorem State.mapFlue_free (s : State) (f : Flue → Flue) : (s.mapFlue f).free = s.free := rfl
@[simp] theorem State.mapFlue_sys (s : State) (f : Flue → Flue) : (s.mapFlue f).sys = s.sys := rfl
@[simp] theorem State.mapFlue_island (s : State) (f : Flue → Flue) : (s.mapFlue f).island = s.island := rfl
@[simp] theorem State.mapFlue_nvm (s : State) (f : Flue → Flue) : (s.mapFlue f).nvm = s.nvm := rfl
@[simp] theorem State.mapFlue_params (s : State) (f : Flue → Flue) : (s.mapFlue f).params = s.params := rfl
@[simp] theorem State.mapFlue_cmd (s : State) (f : Flue → Flue) : (s.mapFlue f).cmd = s.cmd := rfl
@[simp] theorem State.mapFlue_hdl (s : State) (f : Flue → Flue) : (s.mapFlue f).hdl = s.hdl := rfl
@[simp] theorem State.mapFlue_evt (s : State) (f : Flue → Flue) : (s.mapFlue f).evt = s.evt := rfl
@[simp] theorem State.mapFlue_wdg (s : State) (f : Flue → Flue) : (s.mapFlue f).wdg = s.wdg := rfl
@[simp] theorem State.mapFlue_out (s : State) (f : Flue → Flue) : (s.mapFlue f).out = s.out := rfl
@[simp] theorem State.mapFlue_flue (s : State) (f : Flue → Flue) : (s.mapFlue f).flue = f s.flue := rfl
@[simp] theorem State.mapFlue_insts (s : State) (f : Flue → Flue) : (s.mapFlue f).insts = s.insts := rfl
@[simp] theorem State.mapFlue_part (s : State) (f : Flue → Flue) : (s.mapFlue f).part = s.part := rfl
@[simp] theorem State.mapFlue_net (s : State) (f : Flue → Flue) : (s.mapFlue f).net = s.net := rfl
@[simp] theorem State.mapFlue_cores (s : State) (f : Flue → Flue) : (s.mapFlue f).cores = s.cores := rfl
@[simp] theorem State.mapFlue_sampled (s : State) (f : Flue → Flue) : (s.mapFlue f).sampled = s.sampled := rfl
@[simp] theorem State.mapFlue_wks (s : State) (f : Flue → Flue) : (s.mapFlue f).wks = s.wks := rfl
@[simp] theorem State.mapFlue_sent (s : State) (f : Flue → Flue) : (s.mapFlue f).sent = s.sent := rfl
@[simp] theorem State.mapFlue_debugger (s : State) (f : Flue → Flue) : (s.mapFlue f).debugger = s.debugger := rfl

-- mapPart
@[simp] theorem State.mapPart_pending (s : State) (f : Part → Part) : (s.mapPart f).pending = s.pending := rfl
@[simp] theorem State.mapPart_free (s : State) (f : Part → Part) : (s.mapPart f).free = s.free := rfl
@[simp] theorem State.mapPart_sys (s : State) (f : Part → Part) : (s.mapPart f).sys = s.sys := rfl
@[simp] theorem State.mapPart_island (s : State) (f : Part → Part) : (s.mapPart f).island = s.island := rfl
@[simp] theorem State.mapPart_nvm (s : State) (f : Part → Part) : (s.mapPart f).nvm = s.nvm := rfl
@[simp] theorem State.mapPart_params (s : State) (f : Part → Part) : (s.mapPart f).params = s.params := rfl
@[simp] theorem State.mapPart_cmd (s : State) (f : Part → Part) : (s.mapPart f).cmd = s.cmd := rfl
@[simp] theorem State.mapPart_hdl (s : State) (f : Part → Part) : (s.mapPart f).hdl = s.hdl := rfl
@[simp] theorem State.mapPart_evt (s : State) (f : Part → Part) : (s.mapPart f).evt = s.evt := rfl
@[simp] theorem State.mapPart_wdg (s : State) (f : Part → Part) : (s.mapPart f).wdg = s.wdg := rfl
@[simp] theorem State.mapPart_out (s : State) (f : Part → Part) : (s.mapPart f).out = s.out := rfl
@[simp] theorem State.mapPart_flue (s : State) (f : Part → Part) : (s.mapPart f).flue = s.flue := rfl
@[simp] theorem State.mapPart_insts (s : State) (f : Part → Part) : (s.mapPart f).insts = s.insts := rfl
@[simp] theorem State.mapPart_part (s : State) (f : Part → Part) : (s.mapPart f).part = f s.part := rfl
@[simp] theorem State.mapPart_net (s : State) (f : Part → Part) : (s.mapPart f).net = s.net := rfl
@[simp] theorem State.mapPart_cores (s : State) (f : Part → Part) : (s.mapPart f).cores = s.cores := rfl
@[simp] theorem State.mapPart_sampled (s : State) (f : Part → Part) : (s.mapPart f).sampled = s.sampled := rfl
@[simp] theorem State.mapPart_wks (s : State) (f : Part → Part) : (s.mapPart f).wks = s.wks := rfl
@[simp] theorem State.mapPart_sent (s : State) (f : Part → Part) : (s.mapPart f).sent = s.sent := rfl
@[simp] theorem State.mapPart_debugger (s : State) (f : Part → Part) : (s.mapPart f).debugger = s.debugger := rfl

-- mapNet
@[simp] theorem State.mapNet_pending (s : State) (f : Net → Net) : (s.mapNet f).pending = s.pending := rfl
@[simp] theorem State.mapNet_free (s : State) (f : Net → Net) : (s.mapNet f).free = s.free := rfl
@[simp] theorem State.mapNet_sys (s : State) (f : Net → Net) : (s.mapNet f).sys = s.sys := rfl
@[simp] theorem State.mapNet_island (s : State) (f : Net → Net) : (s.mapNet f).island = s.island := rfl
@[simp] theorem State.mapNet_nvm (s : State) (f : Net → Net) : (s.mapNet f).nvm = s.nvm := rfl
@[simp] theorem State.mapNet_params (s : State) (f : Net → Net) : (s.mapNet f).params = s.params := rfl
@[simp] theorem State.mapNet_cmd (s : State) (f : Net → Net) : (s.mapNet f).cmd = s.cmd := rfl
@[simp] theorem State.mapNet_hdl (s : State) (f : Net → Net) : (s.mapNet f).hdl = s.hdl := rfl
@[simp] theorem State.mapNet_evt (s : State) (f : Net → Net) : (s.mapNet f).evt = s.evt := rfl
@[simp] theorem State.mapNet_wdg (s : State) (f : Net → Net) : (s.mapNet f).wdg = s.wdg := rfl
@[simp] theorem State.mapNet_out (s : State) (f : Net → Net) : (s.mapNet f).out = s.out := rfl
@[simp] theorem State.mapNet_flue (s : State) (f : Net → Net) : (s.mapNet f).flue = s.flue := rfl
@[simp] theorem State.mapNet_insts (s : State) (f : Net → Net) : (s.mapNet f).insts = s.insts := rfl
@[simp] theorem State.mapNet_part (s : State) (f : Net → Net) : (s.mapNet f).part = s.part := rfl
@[simp] theorem State.mapNet_net (s : State) (f : Net → Net) : (s.mapNet f).net = f s.net := rfl
@[simp] theorem State.mapNet_cores (s : State) (f : Net → Net) : (s.mapNet f).cores = s.cores := rfl
@[simp] theorem State.mapNet_sampled (s : State) (f : Net → Net) : (s.mapNet f).sampled = s.sampled := rfl
@[simp] theorem State.mapNet_wks (s : State) (f : Net → Net) : (s.mapNet f).wks = s.wks := rfl
@[simp] theorem State.mapNet_sent (s : State) (f : Net → Net) : (s.mapNet f).sent = s.sent := rfl
@[simp] theorem State.mapNet_debugger (s : State) (f : Net → Net) : (s.mapNet f).debugger = s.debugger := rfl

-- mapSent
@[simp] theorem State.mapSent_pending (s : State) (f : Sent → Sent) : (s.mapSent f).pending = s.pending := rfl
@[simp] theorem State.mapSent_free (s : State) (f : Sent → Sent) : (s.mapSent f).free = s.free := rfl
@[simp] theorem State.mapSent_sys (s : State) (f : Sent → Sent) : (s.mapSent f).sys = s.sys := rfl
@[simp] theorem State.mapSent_island (s : State) (f : Sent → Sent) : (s.mapSent f).island = s.island := rfl
@[simp] theorem State.mapSent_nvm (s : State) (f : Sent → Sent) : (s.mapSent f).nvm = s.nvm := rfl
@[simp] theorem State.mapSent_params (s : State) (f : Sent → Sent) : (s.mapSent f).params = s.params := rfl
@[simp] theorem State.mapSent_cmd (s : State) (f : Sent → Sent) : (s.mapSent f).cmd = s.cmd := rfl
@[simp] theorem State.mapSent_hdl (s : State) (f : Sent → Sent) : (s.mapSent f).hdl = s.hdl := rfl
@[simp] theorem State.mapSent_evt (s : State) (f : Sent → Sent) : (s.mapSent f).evt = s.evt := rfl
@[simp] theorem State.mapSent_wdg (s : State) (f : Sent → Sent) : (s.mapSent f).wdg = s.wdg := rfl
@[simp] theorem State.mapSent_out (s : State) (f : Sent → Sent) : (s.mapSent f).out = s.out := rfl
@[simp] theorem State.mapSent_flue (s : State) (f : Sent → Sent) : (s.mapSent f).flue = s.flue := rfl
@[simp] theorem State.mapSent_insts (s : State) (f : Sent → Sent) : (s.mapSent f).insts = s.insts := rfl
@[simp] theorem State.mapSent_part (s : State) (f : Sent → Sent) : (s.mapSent f).part = s.part := rfl
@[simp] theorem State.mapSent_net (s : State) (f : Sent → Sent) : (s.mapSent f).net = s.net := rfl
@[simp] theorem State.mapSent_cores (s : State) (f : Sent → Sent) : (s.mapSent f).cores = s.cores := rfl
@[simp] theorem State.mapSent_sampled (s : State) (f : Sent → Sent) : (s.mapSent f).sampled = s.sampled := rfl
@[simp] theorem State.mapSent_wks (s : State) (f : Sent → Sent) : (s.mapSent f).wks = s.wks := rfl
@[simp] theorem State.mapSent_sent (s : State) (f : Sent → Sent) : (s.mapSent f).sent = f s.sent := rfl
@[simp] theorem State.mapSent_debugger (s : State) (f : Sent → Sent) : (s.mapSent f).debugger = s.debugger := rfl

-- updHs
@[simp] theorem State.updHs_pending (s : State) (n : Nat) (f : HsCh → HsCh) : (s.updHs n f).pending = s.pending := rfl
@[simp] theorem State.updHs_free (s : State) (n : Nat) (f : HsCh → HsCh) : (s.updHs n f).free = s.free := rfl
@[simp] theorem State.updHs_sys (s : State) (n : Nat) (f : HsCh → HsCh) : (s.updHs n f).sys = s.sys := rfl
@[simp] theorem State.updHs_island (s : State) (n : Nat) (f : HsCh → HsCh) : (s.updHs n f).island = s.island := rfl
@[simp] theorem State.updHs_nvm (s : State) (n : Nat) (f : HsCh → HsCh) : (s.updHs n f).nvm = s.nvm := rfl
@[simp] theorem State.updHs_params (s : State) (n : Nat) (f : HsCh → HsCh) : (s.updHs n f).params = s.params := rfl
@[simp] theorem State.updHs_cmd (s : State) (n : Nat) (f : HsCh → HsCh) : (s.updHs n f).cmd = s.cmd := rfl
@[simp] theorem State.updHs_hdl (s : State) (n : Nat) (f : HsCh → HsCh) : (s.updHs n f).hdl = s.hdl := rfl
@[simp] theorem State.updHs_evt (s : State) (n : Nat) (f : HsCh → HsCh) : (s.updHs n f).evt = s.evt := rfl
@[simp] theorem State.updHs_wdg (s : State) (n : Nat) (f : HsCh → HsCh) : (s.updHs n f).wdg = s.wdg := rfl
@[simp] theorem State.updHs_flue (s : State) (n : Nat) (f : HsCh → HsCh) : (s.updHs n f).flue = s.flue := rfl
@[simp] theorem State.updHs_insts (s : State) (n : Nat) (f : HsCh → HsCh) : (s.updHs n f).insts = s.insts := rfl
@[simp] theorem State.updHs_part (s : State) (n : Nat) (f : HsCh → HsCh) : (s.updHs n f).part = s.part := rfl
@[simp] theorem State.updHs_net (s : State) (n : Nat) (f : HsCh → HsCh) : (s.updHs n f).net = s.net := rfl
@[simp] theorem State.updHs_cores (s : State) (n : Nat) (f : HsCh → HsCh) : (s.updHs n f).cores = s.cores := rfl
@[simp] theorem State.updHs_sampled (s : State) (n : Nat) (f : HsCh → HsCh) : (s.updHs n f).sampled = s.sampled := rfl
@[simp] theorem State.updHs_wks (s : State) (n : Nat) (f : HsCh → HsCh) : (s.updHs n f).wks = s.wks := rfl
@[simp] theorem State.updHs_sent (s : State) (n : Nat) (f : HsCh → HsCh) : (s.updHs n f).sent = s.sent := rfl
@[simp] theorem State.updHs_debugger (s : State) (n : Nat) (f : HsCh → HsCh) : (s.updHs n f).debugger = s.debugger := rfl
@[simp] theorem State.updHs_same (s : State) (n : Nat) (f : HsCh → HsCh) : (s.updHs n f).hs n = f (s.hs n) :=
  Tbl.get_upd_same _ _ n f
theorem State.updHs_other (s : State) {n k : Nat} (f : HsCh → HsCh) (h : k ≠ n) : (s.updHs n f).hs k = s.hs k :=
  Tbl.get_upd_other _ _ f h

-- updPg
@[simp] theorem State.updPg_pending (s : State) (n : Nat) (f : PgCh → PgCh) : (s.updPg n f).pending = s.pending := rfl
@[simp] theorem State.updPg_free (s : State) (n : Nat) (f : PgCh → PgCh) : (s.updPg n f).free = s.free := rfl
@[simp] theorem State.updPg_sys (s : State) (n : Nat) (f : PgCh → PgCh) : (s.updPg n f).sys = s.sys := rfl
@[simp] theorem State.updPg_island (s : State) (n : Nat) (f : PgCh → PgCh) : (s.updPg n f).island = s.island := rfl
@[simp] theorem State.updPg_nvm (s : State) (n : Nat) (f : PgCh → PgCh) : (s.updPg n f).nvm = s.nvm := rfl
@[simp] theorem State.updPg_params (s : State) (n : Nat) (f : PgCh → PgCh) : (s.updPg n f).params = s.params := rfl
@[simp] theorem State.updPg_cmd (s : State) (n : Nat) (f : PgCh → PgCh) : (s.updPg n f).cmd = s.cmd := rfl
@[simp] theorem State.updPg_hdl (s : State) (n : Nat) (f : PgCh → PgCh) : (s.updPg n f).hdl = s.hdl := rfl
@[simp] theorem State.updPg_evt (s : State) (n : Nat) (f : PgCh → PgCh) : (s.updPg n f).evt = s.evt := rfl
@[simp] theorem State.updPg_wdg (s : State) (n : Nat) (f : PgCh → PgCh) : (s.updPg n f).wdg = s.wdg := rfl
@[simp] theorem State.updPg_flue (s : State) (n : Nat) (f : PgCh → PgCh) : (s.updPg n f).flue = s.flue := rfl
@[simp] theorem State.updPg_insts (s : State) (n : Nat) (f : PgCh → PgCh) : (s.updPg n f).insts = s.insts := rfl
@[simp] theorem State.updPg_part (s : State) (n : Nat) (f : PgCh → PgCh) : (s.updPg n f).part = s.part := rfl
@[simp] theorem State.updPg_net (s : State) (n : Nat) (f : PgCh → PgCh) : (s.updPg n f).net = s.net := rfl
@[simp] theorem State.updPg_cores (s : State) (n : Nat) (f : PgCh → PgCh) : (s.updPg n f).cores = s.cores := rfl
@[simp] theorem State.updPg_sampled (s : State) (n : Nat) (f : PgCh → PgCh) : (s.updPg n f).sampled = s.sampled := rfl
@[simp] theorem State.updPg_wks (s : State) (n : Nat) (f : PgCh → PgCh) : (s.updPg n f).wks = s.wks := rfl
@[simp] theorem State.updPg_sent (s : State) (n : Nat) (f : PgCh → PgCh) : (s.updPg n f).sent = s.sent := rfl
@[simp] theorem State.updPg_debugger (s : State) (n : Nat) (f : PgCh → PgCh) : (s.updPg n f).debugger = s.debugger := rfl
@[simp] theorem State.updPg_same (s : State) (n : Nat) (f : PgCh → PgCh) : (s.updPg n f).pg n = f (s.pg n) :=
  Tbl.get_upd_same _ _ n f
theorem State.updPg_other (s : State) {n k : Nat} (f : PgCh → PgCh) (h : k ≠ n) : (s.updPg n f).pg k = s.pg k :=
  Tbl.get_upd_other _ _ f h

-- updVlv
@[simp] theorem State.updVlv_pending (s : State) (n : Nat) (f : VlvCh → VlvCh) : (s.updVlv n f).pending = s.pending := rfl
@[simp] theorem State.updVlv_free (s : State) (n : Nat) (f : VlvCh → VlvCh) : (s.updVlv n f).free = s.free := rfl
@[simp] theorem State.updVlv_sys (s : State) (n : Nat) (f : VlvCh → VlvCh) : (s.updVlv n f).sys = s.sys := rfl
@[simp] theorem State.updVlv_island (s : State) (n : Nat) (f : VlvCh → VlvCh) : (s.updVlv n f).island = s.island := rfl
@[simp] theorem State.updVlv_nvm (s : State) (n : Nat) (f : VlvCh → VlvCh) : (s.updVlv n f).nvm = s.nvm := rfl
@[simp] theorem State.updVlv_params (s : State) (n : Nat) (f : VlvCh → VlvCh) : (s.updVlv n f).params = s.params := rfl
@[simp] theorem State.updVlv_cmd (s : State) (n : Nat) (f : VlvCh → VlvCh) : (s.updVlv n f).cmd = s.cmd := rfl
@[simp] theorem State.updVlv_hdl (s : State) (n : Nat) (f : VlvCh → VlvCh) : (s.updVlv n f).hdl = s.hdl := rfl
@[simp] theorem State.updVlv_evt (s : State) (n : Nat) (f : VlvCh → VlvCh) : (s.updVlv n f).evt = s.evt := rfl
@[simp] theorem State.updVlv_wdg (s : State) (n : Nat) (f : VlvCh → VlvCh) : (s.updVlv n f).wdg = s.wdg := rfl
@[simp] theorem State.updVlv_flue (s : State) (n : Nat) (f : VlvCh → VlvCh) : (s.updVlv n f).flue = s.flue := rfl
@[simp] theorem State.updVlv_insts (s : State) (n : Nat) (f : VlvCh → VlvCh) : (s.updVlv n f).insts = s.insts := rfl
@[simp] theorem State.updVlv_part (s : State) (n : Nat) (f : VlvCh → VlvCh) : (s.updVlv n f).part = s.part := rfl
@[simp] theorem State.updVlv_net (s : State) (n : Nat) (f : VlvCh → VlvCh) : (s.updVlv n f).net = s.net := rfl
@[simp] theorem State.updVlv_cores (s : State) (n : Nat) (f : VlvCh → VlvCh) : (s.updVlv n f).cores = s.cores := rfl
@[simp] theorem State.updVlv_sampled (s : State) (n : Nat) (f : VlvCh → VlvCh) : (s.updVlv n f).sampled = s.sampled := rfl
@[simp] theorem State.updVlv_wks (s : State) (n : Nat) (f : VlvCh → VlvCh) : (s.updVlv n f).wks = s.wks := rfl
@[simp] theorem State.updVlv_sent (s : State) (n : Nat) (f : VlvCh → VlvCh) : (s.updVlv n f).sent = s.sent := rfl
@[simp] theorem State.updVlv_debugger (s : State) (n : Nat) (f : VlvCh → VlvCh) : (s.updVlv n f).debugger = s.debugger := rfl
@[simp] theorem State.updVlv_same (s : State) (n : Nat) (f : VlvCh → VlvCh) : (s.updVlv n f).vlv n = f (s.vlv n) :=
  Tbl.get_upd_same _ _ n f
theorem State.updVlv_other (s : State) {n k : Nat} (f : VlvCh → VlvCh) (h : k ≠ n) : (s.updVlv n f).vlv k = s.vlv k :=
  Tbl.get_upd_other _ _ f h

-- updHb
@[simp] theorem State.updHb_pending (s : State) (n : Nat) (f : HbCh → HbCh) : (s.updHb n f).pending = s.pending := rfl
@[simp] theorem State.updHb_free (s : State) (n : Nat) (f : HbCh → HbCh) : (s.updHb n f).free = s.free := rfl
@[simp] theorem State.updHb_sys (s : State) (n : Nat) (f : HbCh → HbCh) : (s.updHb n f).sys = s.sys := rfl
@[simp] theorem State.updHb_island (s : State) (n : Nat) (f : HbCh → HbCh) : (s.updHb n f).island = s.island := rfl
@[simp] theorem State.updHb_nvm (s : State) (n : Nat) (f : HbCh → HbCh) : (s.updHb n f).nvm = s.nvm := rfl
@[simp] theorem State.updHb_params (s : State) (n : Nat) (f : HbCh → HbCh) : (s.updHb n f).params = s.params := rfl
@[simp] theorem State.updHb_cmd (s : State) (n : Nat) (f : HbCh → HbCh) : (s.updHb n f).cmd = s.cmd := rfl
@[simp] theorem State.updHb_hdl (s : State) (n : Nat) (f : HbCh → HbCh) : (s.updHb n f).hdl = s.hdl := rfl
@[simp] theorem State.updHb_evt (s : State) (n : Nat) (f : HbCh → HbCh) : (s.updHb n f).evt = s.evt := rfl
@[simp] theorem State.updHb_wdg (s : State) (n : Nat) (f : HbCh → HbCh) : (s.updHb n f).wdg = s.wdg := rfl
@[simp] theorem State.updHb_flue (s : State) (n : Nat) (f : HbCh → HbCh) : (s.updHb n f).flue = s.flue := rfl
@[simp] theorem State.updHb_insts (s : State) (n : Nat) (f : HbCh → HbCh) : (s.updHb n f).insts = s.insts := rfl
@[simp] theorem State.updHb_part (s : State) (n : Nat) (f : HbCh → HbCh) : (s.updHb n f).part = s.part := rfl
@[simp] theorem State.updHb_net (s : State) (n : Nat) (f : HbCh → HbCh) : (s.updHb n f).net = s.net := rfl
@[simp] theorem State.updHb_cores (s : State) (n : Nat) (f : HbCh → HbCh) : (s.updHb n f).cores = s.cores := rfl
@[simp] theorem State.updHb_sampled (s : State) (n : Nat) (f : HbCh → HbCh) : (s.updHb n f).sampled = s.sampled := rfl
@[simp] theorem State.updHb_wks (s : State) (n : Nat) (f : HbCh → HbCh) : (s.updHb n f).wks = s.wks := rfl
@[simp] theorem State.updHb_sent (s : State) (n : Nat) (f : HbCh → HbCh) : (s.updHb n f).sent = s.sent := rfl
@[simp] theorem State.updHb_debugger (s : State) (n : Nat) (f : HbCh → HbCh) : (s.updHb n f).debugger = s.debugger := rfl
@[simp] theorem State.updHb_same (s : State) (n : Nat) (f : HbCh → HbCh) : (s.updHb n f).hb n = f (s.hb n) :=
  Tbl.get_upd_same _ _ n f
theorem State.updHb_other (s : State) {n k : Nat} (f : HbCh → HbCh) (h : k ≠ n) : (s.updHb n f).hb k = s.hb k :=
  Tbl.get_upd_other _ _ f h

-- updMot
@[simp] theorem State.updMot_pending (s : State) (n : Nat) (f : MotCh → MotCh) : (s.updMot n f).pending = s.pending := rfl
@[simp] theorem State.updMot_free (s : State) (n : Nat) (f : MotCh → MotCh) : (s.updMot n f).free = s.free := rfl
@[simp] theorem State.updMot_sys (s : State) (n : Nat) (f : MotCh → MotCh) : (s.updMot n f).sys = s.sys := rfl
@[simp] theorem State.updMot_island (s : State) (n : Nat) (f : MotCh → MotCh) : (s.updMot n f).island = s.island := rfl
@[simp] theorem State.updMot_nvm (s : State) (n : Nat) (f : MotCh → MotCh) : (s.updMot n f).nvm = s.nvm := rfl
@[simp] theorem State.updMot_params (s : State) (n : Nat) (f : MotCh → MotCh) : (s.updMot n f).params = s.params := rfl
@[simp] theorem State.updMot_cmd (s : State) (n : Nat) (f : MotCh → MotCh) : (s.updMot n f).cmd = s.cmd := rfl
@[simp] theorem State.updMot_hdl (s : State) (n : Nat) (f : MotCh → MotCh) : (s.updMot n f).hdl = s.hdl := rfl
@[simp] theorem State.updMot_evt (s : State) (n : Nat) (f : MotCh → MotCh) : (s.updMot n f).evt = s.evt := rfl
@[simp] theorem State.updMot_wdg (s : State) (n : Nat) (f : MotCh → MotCh) : (s.updMot n f).wdg = s.wdg := rfl
@[simp] theorem State.updMot_flue (s : State) (n : Nat) (f : MotCh → MotCh) : (s.updMot n f).flue = s.flue := rfl
@[simp] theorem State.updMot_insts (s : State) (n : Nat) (f : MotCh → MotCh) : (s.updMot n f).insts = s.insts := rfl
@[simp] theorem State.updMot_part (s : State) (n : Nat) (f : MotCh → MotCh) : (s.updMot n f).part = s.part := rfl
@[simp] theorem State.updMot_net (s : State) (n : Nat) (f : MotCh → MotCh) : (s.updMot n f).net = s.net := rfl
@[simp] theorem State.updMot_cores (s : State) (n : Nat) (f : MotCh → MotCh) : (s.updMot n f).cores = s.cores := rfl
@[simp] theorem State.updMot_sampled (s : State) (n : Nat) (f : MotCh → MotCh) : (s.updMot n f).sampled = s.sampled := rfl
@[simp] theorem State.updMot_wks (s : State) (n : Nat) (f : MotCh → MotCh) : (s.updMot n f).wks = s.wks := rfl
@[simp] theorem State.updMot_sent (s : State) (n : Nat) (f : MotCh → MotCh) : (s.updMot n f).sent = s.sent := rfl
@[simp] theorem State.updMot_debugger (s : State) (n : Nat) (f : MotCh → MotCh) : (s.updMot n f).debugger = s.debugger := rfl
@[simp] theorem State.updMot_same (s : State) (n : Nat) (f : MotCh → MotCh) : (s.updMot n f).mot n = f (s.mot n) :=
  Tbl.get_upd_same _ _ n f
theorem State.updMot_other (s : State) {n k : Nat} (f : MotCh → MotCh) (h : k ≠ n) : (s.updMot n f).mot k = s.mot k :=
  Tbl.get_upd_other _ _ f h

-- updSw
@[simp] theorem State.updSw_pending (s : State) (n : Nat) (f : SwCh → SwCh) : (s.updSw n f).pending = s.pending := rfl
@[simp] theorem State.updSw_free (s : State) (n : Nat) (f : SwCh → SwCh) : (s.updSw n f).free = s.free := rfl
@[simp] theorem State.updSw_sys (s : State) (n : Nat) (f : SwCh → SwCh) : (s.updSw n f).sys = s.sys := rfl
@[simp] theorem State.updSw_island (s : State) (n : Nat) (f : SwCh → SwCh) : (s.updSw n f).island = s.island := rfl
@[simp] theorem State.updSw_nvm (s : State) (n : Nat) (f : SwCh → SwCh) : (s.updSw n f).nvm = s.nvm := rfl
@[simp] theorem State.updSw_params (s : State) (n : Nat) (f : SwCh → SwCh) : (s.updSw n f).params = s.params := rfl
@[simp] theorem State.updSw_cmd (s : State) (n : Nat) (f : SwCh → SwCh) : (s.updSw n f).cmd = s.cmd := rfl
@[simp] theorem State.updSw_hdl (s : State) (n : Nat) (f : SwCh → SwCh) : (s.updSw n f).hdl = s.hdl := rfl
@[simp] theorem State.updSw_evt (s : State) (n : Nat) (f : SwCh → SwCh) : (s.updSw n f).evt = s.evt := rfl
@[simp] theorem State.updSw_wdg (s : State) (n : Nat) (f : SwCh → SwCh) : (s.updSw n f).wdg = s.wdg := rfl
@[simp] theorem State.updSw_flue (s : State) (n : Nat) (f : SwCh → SwCh) : (s.updSw n f).flue = s.flue := rfl
@[simp] theorem State.updSw_insts (s : State) (n : Nat) (f : SwCh → SwCh) : (s.updSw n f).insts = s.insts := rfl
@[simp] theorem State.updSw_part (s : State) (n : Nat) (f : SwCh → SwCh) : (s.updSw n f).part = s.part := rfl
@[simp] theorem State.updSw_net (s : State) (n : Nat) (f : SwCh → SwCh) : (s.updSw n f).net = s.net := rfl
@[simp] theorem State.updSw_cores (s : State) (n : Nat) (f : SwCh → SwCh) : (s.updSw n f).cores = s.cores := rfl
@[simp] theorem State.updSw_sampled (s : State) (n : Nat) (f : SwCh → SwCh) : (s.updSw n f).sampled = s.sampled := rfl
@[simp] theorem State.updSw_wks (s : State) (n : Nat) (f : SwCh → SwCh) : (s.updSw n f).wks = s.wks := rfl
@[simp] theorem State.updSw_sent (s : State) (n : Nat) (f : SwCh → SwCh) : (s.updSw n f).sent = s.sent := rfl
@[simp] theorem State.updSw_debugger (s : State) (n : Nat) (f : SwCh → SwCh) : (s.updSw n f).debugger = s.debugger := rfl
@[simp] theorem State.updSw_same (s : State) (n : Nat) (f : SwCh → SwCh) : (s.updSw n f).sw n = f (s.sw n) :=
  Tbl.get_upd_same _ _ n f
theorem State.updSw_other (s : State) {n k : Nat} (f : SwCh → SwCh) (h : k ≠ n) : (s.updSw n f).sw k = s.sw k :=
  Tbl.get_upd_other _ _ f h

-- updPort
@[simp] theorem State.updPort_pending (s : State) (n : Nat) (f : Port → Port) : (s.updPort n f).pending = s.pending := rfl
@[simp] theorem State.updPort_free (s : State) (n : Nat) (f : Port → Port) : (s.updPort n f).free = s.free := rfl
@[simp] theorem State.updPort_sys (s : State) (n : Nat) (f : Port → Port) : (s.updPort n f).sys = s.sys := rfl
@[simp] theorem State.updPort_island (s : State) (n : Nat) (f : Port → Port) : (s.updPort n f).island = s.island := rfl
@[simp] theorem State.updPort_nvm (s : State) (n : Nat) (f : Port → Port) : (s.updPort n f).nvm = s.nvm := rfl
@[simp] theorem State.updPort_params (s : State) (n : Nat) (f : Port → Port) : (s.updPort n f).params = s.params := rfl
@[simp] theorem State.updPort_hdl (s : State) (n : Nat) (f : Port → Port) : (s.updPort n f).hdl = s.hdl := rfl
@[simp] theorem State.updPort_evt (s : State) (n : Nat) (f : Port → Port) : (s.updPort n f).evt = s.evt := rfl
@[simp] theorem State.updPort_wdg (s : State) (n : Nat) (f : Port → Port) : (s.updPort n f).wdg = s.wdg := rfl
@[simp] theorem State.updPort_out (s : State) (n : Nat) (f : Port → Port) : (s.updPort n f).out = s.out := rfl
@[simp] theorem State.updPort_flue (s : State) (n : Nat) (f : Port → Port) : (s.updPort n f).flue = s.flue := rfl
@[simp] theorem State.updPort_insts (s : State) (n : Nat) (f : Port → Port) : (s.updPort n f).insts = s.insts := rfl
@[simp] theorem State.updPort_part (s : State) (n : Nat) (f : Port → Port) : (s.updPort n f).part = s.part := rfl
@[simp] theorem State.updPort_net (s : State) (n : Nat) (f : Port → Port) : (s.updPort n f).net = s.net := rfl
@[simp] theorem State.updPort_cores (s : State) (n : Nat) (f : Port → Port) : (s.updPort n f).cores = s.cores := rfl
@[simp] theorem State.updPort_sampled (s : State) (n : Nat) (f : Port → Port) : (s.updPort n f).sampled = s.sampled := rfl
@[simp] theorem State.updPort_wks (s : State) (n : Nat) (f : Port → Port) : (s.updPort n f).wks = s.wks := rfl
@[simp] theorem State.updPort_sent (s : State) (n : Nat) (f : Port → Port) : (s.updPort n f).sent = s.sent := rfl
@[simp] theorem State.updPort_debugger (s : State) (n : Nat) (f : Port → Port) : (s.updPort n f).debugger = s.debugger := rfl
@[simp] theorem State.updPort_same (s : State) (n : Nat) (f : Port → Port) : (s.updPort n f).port n = f (s.port n) :=
  Tbl.get_upd_same _ _ n f
theorem State.updPort_other (s : State) {n k : Nat} (f : Port → Port) (h : k ≠ n) : (s.updPort n f).port k = s.port k :=
  Tbl.get_upd_other _ _ f h

-- updSlot
@[simp] theorem State.updSlot_pending (s : State) (n : Nat) (f : HSlot → HSlot) : (s.updSlot n f).pending = s.pending := rfl
@[simp] theorem State.updSlot_free (s : State) (n : Nat) (f : HSlot → HSlot) : (s.updSlot n f).free = s.free := rfl
@[simp] theorem State.updSlot_sys (s : State) (n : Nat) (f : HSlot → HSlot) : (s.updSlot n f).sys = s.sys := rfl
@[simp] theorem State.updSlot_island (s : State) (n : Nat) (f : HSlot → HSlot) : (s.updSlot n f).island = s.island := rfl
@[simp] theorem State.updSlot_nvm (s : State) (n : Nat) (f : HSlot → HSlot) : (s.updSlot n f).nvm = s.nvm := rfl
@[simp] theorem State.updSlot_params (s : State) (n : Nat) (f : HSlot → HSlot) : (s.updSlot n f).params = s.params := rfl
@[simp] theorem State.updSlot_cmd (s : State) (n : Nat) (f : HSlot → HSlot) : (s.updSlot n f).cmd = s.cmd := rfl
@[simp] theorem State.updSlot_evt (s : State) (n : Nat) (f : HSlot → HSlot) : (s.updSlot n f).evt = s.evt := rfl
@[simp] theorem State.updSlot_wdg (s : State) (n : Nat) (f : HSlot → HSlot) : (s.updSlot n f).wdg = s.wdg := rfl
@[simp] theorem State.updSlot_out (s : State) (n : Nat) (f : HSlot → HSlot) : (s.updSlot n f).out = s.out := rfl
@[simp] theorem State.updSlot_flue (s : State) (n : Nat) (f : HSlot → HSlot) : (s.updSlot n f).flue = s.flue := rfl
@[simp] theorem State.updSlot_insts (s : State) (n : Nat) (f : HSlot → HSlot) : (s.updSlot n f).insts = s.insts := rfl
@[simp] theorem State.updSlot_part (s : State) (n : Nat) (f : HSlot → HSlot) : (s.updSlot n f).part = s.part := rfl
@[simp] theorem State.updSlot_net (s : State) (n : Nat) (f : HSlot → HSlot) : (s.updSlot n f).net = s.net := rfl
@[simp] theorem State.updSlot_cores (s : State) (n : Nat) (f : HSlot → HSlot) : (s.updSlot n f).cores = s.cores := rfl
@[simp] theorem State.updSlot_sampled (s : State) (n : Nat) (f : HSlot → HSlot) : (s.updSlot n f).sampled = s.sampled := rfl
@[simp] theorem State.updSlot_wks (s : State) (n : Nat) (f : HSlot → HSlot) : (s.updSlot n f).wks = s.wks := rfl
@[simp] theorem State.updSlot_sent (s : State) (n : Nat) (f : HSlot → HSlot) : (s.updSlot n f).sent = s.sent := rfl
@[simp] theorem State.updSlot_debugger (s : State) (n : Nat) (f : HSlot → HSlot) : (s.updSlot n f).debugger = s.debugger := rfl
@[simp] theorem State.updSlot_same (s : State) (n : Nat) (f : HSlot → HSlot) : (s.updSlot n f).slot n = f (s.slot n) :=
  Tbl.get_upd_same _ _ n f
theorem State.updSlot_other (s : State) {n k : Nat} (f : HSlot → HSlot) (h : k ≠ n) : (s.updSlot n f).slot k = s.slot k :=
  Tbl.get_upd_other _ _ f h

-- updCore
@[simp] theorem State.updCore_pending (s : State) (n : Nat) (f : Core → Core) : (s.updCore n f).pending = s.pending := rfl
@[simp] theorem State.updCore_free (s : State) (n : Nat) (f : Core → Core) : (s.updCore n f).free = s.free := rfl
@[simp] theorem State.updCore_sys (s : State) (n : Nat) (f : Core → Core) : (s.updCore n f).sys = s.sys := rfl
@[simp] theorem State.updCore_island (s : State) (n : Nat) (f : Core → Core) : (s.updCore n f).island = s.island := rfl
@[simp] theorem State.updCore_nvm (s : State) (n : Nat) (f : Core → Core) : (s.updCore n f).nvm = s.nvm := rfl
@[simp] theorem State.updCore_params (s : State) (n : Nat) (f : Core → Core) : (s.updCore n f).params = s.params := rfl
@[simp] theorem State.updCore_cmd (s : State) (n : Nat) (f : Core → Core) : (s.updCore n f).cmd = s.cmd := rfl
@[simp] theorem State.updCore_hdl (s : State) (n : Nat) (f : Core → Core) : (s.updCore n f).hdl = s.hdl := rfl
@[simp] theorem State.updCore_evt (s : State) (n : Nat) (f : Core → Core) : (s.updCore n f).evt = s.evt := rfl
@[simp] theorem State.updCore_wdg (s : State) (n : Nat) (f : Core → Core) : (s.updCore n f).wdg = s.wdg := rfl
@[simp] theorem State.updCore_out (s : State) (n : Nat) (f : Core → Core) : (s.updCore n f).out = s.out := rfl
@[simp] theorem State.updCore_flue (s : State) (n : Nat) (f : Core → Core) : (s.updCore n f).flue = s.flue := rfl
@[simp] theorem State.updCore_insts (s : State) (n : Nat) (f : Core → Core) : (s.updCore n f).insts = s.insts := rfl
@[simp] theorem State.updCore_part (s : State) (n : Nat) (f : Core → Core) : (s.updCore n f).part = s.part := rfl
@[simp] theorem State.updCore_net (s : State) (n : Nat) (f : Core → Core) : (s.updCore n f).net = s.net := rfl
@[simp] theorem State.updCore_sampled (s : State) (n : Nat) (f : Core → Core) : (s.updCore n f).sampled = s.sampled := rfl
@[simp] theorem State.updCore_wks (s : State) (n : Nat) (f : Core → Core) : (s.updCore n f).wks = s.wks := rfl
@[simp] theorem State.updCore_sent (s : State) (n : Nat) (f : Core → Core) : (s.updCore n f).sent = s.sent := rfl
@[simp] theorem State.updCore_debugger (s : State) (n : Nat) (f : Core → Core) : (s.updCore n f).debugger = s.debugger := rfl
@[simp] theorem State.updCore_same (s : State) (n : Nat) (f : Core → Core) : (s.updCore n f).core n = f (s.core n) :=
  Tbl.get_upd_same _ _ n f
theorem State.updCore_other (s : State) {n k : Nat} (f : Core → Core) (h : k ≠ n) : (s.updCore n f).core k = s.core k :=
  Tbl.get_upd_other _ _ f h

-- updWk
@[simp] theorem State.updWk_pending (s : State) (n : Nat) (f : Wk → Wk) : (s.updWk n f).pending = s.pending := rfl
@[simp] theorem State.updWk_free (s : State) (n : Nat) (f : Wk → Wk) : (s.updWk n f).free = s.free := rfl
@[simp] theorem State.updWk_sys (s : State) (n : Nat) (f : Wk → Wk) : (s.updWk n f).sys = s.sys := rfl
@[simp] theorem State.updWk_island (s : State) (n : Nat) (f : Wk → Wk) : (s.updWk n f).island = s.island := rfl
@[simp] theorem State.updWk_nvm (s : State) (n : Nat) (f : Wk → Wk) : (s.updWk n f).nvm = s.nvm := rfl
@[simp] theorem State.updWk_params (s : State) (n : Nat) (f : Wk → Wk) : (s.updWk n f).params = s.params := rfl
@[simp] theorem State.updWk_cmd (s : State) (n : Nat) (f : Wk → Wk) : (s.updWk n f).cmd = s.cmd := rfl
@[simp] theorem State.updWk_hdl (s : State) (n : Nat) (f : Wk → Wk) : (s.updWk n f).hdl = s.hdl := rfl
@[simp] theorem State.updWk_evt (s : State) (n : Nat) (f : Wk → Wk) : (s.updWk n f).evt = s.evt := rfl
@[simp] theorem State.updWk_wdg (s : State) (n : Nat) (f : Wk → Wk) : (s.updWk n f).wdg = s.wdg := rfl
@[simp] theorem State.updWk_out (s : State) (n : Nat) (f : Wk → Wk) : (s.updWk n f).out = s.out := rfl
@[simp] theorem State.updWk_flue (s : State) (n : Nat) (f : Wk → Wk) : (s.updWk n f).flue = s.flue := rfl
@[simp] theorem State.updWk_insts (s : State) (n : Nat) (f : Wk → Wk) : (s.updWk n f).insts = s.insts := rfl
@[simp] theorem State.updWk_part (s : State) (n : Nat) (f : Wk → Wk) : (s.updWk n f).part = s.part := rfl
@[simp] theorem State.updWk_net (s : State) (n : Nat) (f : Wk → Wk) : (s.updWk n f).net = s.net := rfl
@[simp] theorem State.updWk_cores (s : State) (n : Nat) (f : Wk → Wk) : (s.updWk n f).cores = s.cores := rfl
@[simp] theorem State.updWk_sampled (s : State) (n : Nat) (f : Wk → Wk) : (s.updWk n f).sampled = s.sampled := rfl
@[simp] theorem State.updWk_sent (s : State) (n : Nat) (f : Wk → Wk) : (s.updWk n f).sent = s.sent := rfl
@[simp] theorem State.updWk_debugger (s : State) (n : Nat) (f : Wk → Wk) : (s.updWk n f).debugger = s.debugger := rfl
@[simp] theorem State.updWk_same (s : State) (n : Nat) (f : Wk → Wk) : (s.updWk n f).wk n = f (s.wk n) :=
  Tbl.get_upd_same _ _ n f
theorem State.updWk_other (s : State) {n k : Nat} (f : Wk → Wk) (h : k ≠ n) : (s.updWk n f).wk k = s.wk k :=
  Tbl.get_upd_other _ _ f h

-- updView
@[simp] theorem State.updView_pending (s : State) (n : Nat) (f : View → View) : (s.updView n f).pending = s.pending := rfl
@[simp] theorem State.updView_free (s : State) (n : Nat) (f : View → View) : (s.updView n f).free = s.free := rfl
@[simp] theorem State.updView_sys (s : State) (n : Nat) (f : View → View) : (s.updView n f).sys = s.sys := rfl
@[simp] theorem State.updView_island (s : State) (n : Nat) (f : View → View) : (s.updView n f).island = s.island := rfl
@[simp] theorem State.updView_nvm (s : State) (n : Nat) (f : View → View) : (s.updView n f).nvm = s.nvm := rfl
@[simp] theorem State.updView_params (s : State) (n : Nat) (f : View → View) : (s.updView n f).params = s.params := rfl
@[simp] theorem State.updView_cmd (s : State) (n : Nat) (f : View → View) : (s.updView n f).cmd = s.cmd := rfl
@[simp] theorem State.updView_hdl (s : State) (n : Nat) (f : View → View) : (s.updView n f).hdl = s.hdl := rfl
@[simp] theorem State.updView_evt (s : State) (n : Nat) (f : View → View) : (s.updView n f).evt = s.evt := rfl
@[simp] theorem State.updView_wdg (s : State) (n : Nat) (f : View → View) : (s.updView n f).wdg = s.wdg := rfl
@[simp] theorem State.updView_out (s : State) (n : Nat) (f : View → View) : (s.updView n f).out = s.out := rfl
@[simp] theorem State.updView_insts (s : State) (n : Nat) (f : View → View) : (s.updView n f).insts = s.insts := rfl
@[simp] theorem State.updView_part (s : State) (n : Nat) (f : View → View) : (s.updView n f).part = s.part := rfl
@[simp] theorem State.updView_net (s : State) (n : Nat) (f : View → View) : (s.updView n f).net = s.net := rfl
@[simp] theorem State.updView_cores (s : State) (n : Nat) (f : View → View) : (s.updView n f).cores = s.cores := rfl
@[simp] theorem State.updView_sampled (s : State) (n : Nat) (f : View → View) : (s.updView n f).sampled = s.sampled := rfl
@[simp] theorem State.updView_wks (s : State) (n : Nat) (f : View → View) : (s.updView n f).wks = s.wks := rfl
@[simp] theorem State.updView_sent (s : State) (n : Nat) (f : View → View) : (s.updView n f).sent = s.sent := rfl
@[simp] theorem State.updView_debugger (s : State) (n : Nat) (f : View → View) : (s.updView n f).debugger = s.debugger := rfl
@[simp] theorem State.updView_same (s : State) (n : Nat) (f : View → View) : (s.updView n f).view n = f (s.view n) :=
  Tbl.get_upd_same _ _ n f
theorem State.updView_other (s : State) {n k : Nat} (f : View → View) (h : k ≠ n) : (s.updView n f).view k = s.view k :=
  Tbl.get_upd_other _ _ f h

-- updRing
@[simp] theorem State.updRing_pending (s : State) (n : Nat) (f : Ring → Ring) : (s.updRing n f).pending = s.pending := rfl
@[simp] theorem State.updRing_free (s : State) (n : Nat) (f : Ring → Ring) : (s.updRing n f).free = s.free := rfl
@[simp] theorem State.updRing_sys (s : State) (n : Nat) (f : Ring → Ring) : (s.updRing n f).sys = s.sys := rfl
@[simp] theorem State.updRing_island (s : State) (n : Nat) (f : Ring → Ring) : (s.updRing n f).island = s.island := rfl
@[simp] theorem State.updRing_nvm (s : State) (n : Nat) (f : Ring → Ring) : (s.updRing n f).nvm = s.nvm := rfl
@[simp] theorem State.updRing_params (s : State) (n : Nat) (f : Ring → Ring) : (s.updRing n f).params = s.params := rfl
@[simp] theorem State.updRing_cmd (s : State) (n : Nat) (f : Ring → Ring) : (s.updRing n f).cmd = s.cmd := rfl
@[simp] theorem State.updRing_hdl (s : State) (n : Nat) (f : Ring → Ring) : (s.updRing n f).hdl = s.hdl := rfl
@[simp] theorem State.updRing_evt (s : State) (n : Nat) (f : Ring → Ring) : (s.updRing n f).evt = s.evt := rfl
@[simp] theorem State.updRing_wdg (s : State) (n : Nat) (f : Ring → Ring) : (s.updRing n f).wdg = s.wdg := rfl
@[simp] theorem State.updRing_out (s : State) (n : Nat) (f : Ring → Ring) : (s.updRing n f).out = s.out := rfl
@[simp] theorem State.updRing_insts (s : State) (n : Nat) (f : Ring → Ring) : (s.updRing n f).insts = s.insts := rfl
@[simp] theorem State.updRing_part (s : State) (n : Nat) (f : Ring → Ring) : (s.updRing n f).part = s.part := rfl
@[simp] theorem State.updRing_net (s : State) (n : Nat) (f : Ring → Ring) : (s.updRing n f).net = s.net := rfl
@[simp] theorem State.updRing_cores (s : State) (n : Nat) (f : Ring → Ring) : (s.updRing n f).cores = s.cores := rfl
@[simp] theorem State.updRing_sampled (s : State) (n : Nat) (f : Ring → Ring) : (s.updRing n f).sampled = s.sampled := rfl
@[simp] theorem State.updRing_wks (s : State) (n : Nat) (f : Ring → Ring) : (s.updRing n f).wks = s.wks := rfl
@[simp] theorem State.updRing_sent (s : State) (n : Nat) (f : Ring → Ring) : (s.updRing n f).sent = s.sent := rfl
@[simp] theorem State.updRing_debugger (s : State) (n : Nat) (f : Ring → Ring) : (s.updRing n f).debugger = s.debugger := rfl
@[simp] theorem State.updRing_same (s : State) (n : Nat) (f : Ring → Ring) : (s.updRing n f).ring n = f (s.ring n) :=
  Tbl.get_upd_same _ _ n f
theorem State.updRing_other (s : State) {n k : Nat} (f : Ring → Ring) (h : k ≠ n) : (s.updRing n f).ring k = s.ring k :=
  Tbl.get_upd_other _ _ f h

-- updInst
@[simp] theorem State.updInst_pending (s : State) (n : Nat) (f : Inst → Inst) : (s.updInst n f).pending = s.pending := rfl
@[simp] theorem State.updInst_free (s : State) (n : Nat) (f : Inst → Inst) : (s.updInst n f).free = s.free := rfl
@[simp] theorem State.updInst_sys (s : State) (n : Nat) (f : Inst → Inst) : (s.updInst n f).sys = s.sys := rfl
@[simp] theorem State.updInst_island (s : State) (n : Nat) (f : Inst → Inst) : (s.updInst n f).island = s.island := rfl
@[simp] theorem State.updInst_nvm (s : State) (n : Nat) (f : Inst → Inst) : (s.updInst n f).nvm = s.nvm := rfl
@[simp] theorem State.updInst_params (s : State) (n : Nat) (f : Inst → Inst) : (s.updInst n f).params = s.params := rfl
@[simp] theorem State.updInst_cmd (s : State) (n : Nat) (f : Inst → Inst) : (s.updInst n f).cmd = s.cmd := rfl
@[simp] theorem State.updInst_hdl (s : State) (n : Nat) (f : Inst → Inst) : (s.updInst n f).hdl = s.hdl := rfl
@[simp] theorem State.updInst_evt (s : State) (n : Nat) (f : Inst → Inst) : (s.updInst n f).evt = s.evt := rfl
@[simp] theorem State.updInst_wdg (s : State) (n : Nat) (f : Inst → Inst) : (s.updInst n f).wdg = s.wdg := rfl
@[simp] theorem State.updInst_out (s : State) (n : Nat) (f : Inst → Inst) : (s.updInst n f).out = s.out := rfl
@[simp] theorem State.updInst_flue (s : State) (n : Nat) (f : Inst → Inst) : (s.updInst n f).flue = s.flue := rfl
@[simp] theorem State.updInst_part (s : State) (n : Nat) (f : Inst → Inst) : (s.updInst n f).part = s.part := rfl
@[simp] theorem State.updInst_net (s : State) (n : Nat) (f : Inst → Inst) : (s.updInst n f).net = s.net := rfl
@[simp] theorem State.updInst_cores (s : State) (n : Nat) (f : Inst → Inst) : (s.updInst n f).cores = s.cores := rfl
@[simp] theorem State.updInst_sampled (s : State) (n : Nat) (f : Inst → Inst) : (s.updInst n f).sampled = s.sampled := rfl
@[simp] theorem State.updInst_wks (s : State) (n : Nat) (f : Inst → Inst) : (s.updInst n f).wks = s.wks := rfl
@[simp] theorem State.updInst_sent (s : State) (n : Nat) (f : Inst → Inst) : (s.updInst n f).sent = s.sent := rfl
@[simp] theorem State.updInst_debugger (s : State) (n : Nat) (f : Inst → Inst) : (s.updInst n f).debugger = s.debugger := rfl
@[simp] theorem State.updInst_same (s : State) (n : Nat) (f : Inst → Inst) : (s.updInst n f).inst n = f (s.inst n) :=
  Tbl.get_upd_same _ _ n f
theorem State.updInst_other (s : State) {n k : Nat} (f : Inst → Inst) (h : k ≠ n) : (s.updInst n f).inst k = s.inst k :=
  Tbl.get_upd_other _ _ f h

-- updLin
@[simp] theorem State.updLin_pending (s : State) (n : Nat) (f : LinPort → LinPort) : (s.updLin n f).pending = s.pending := rfl
@[simp] theorem State.updLin_free (s : State) (n : Nat) (f : LinPort → LinPort) : (s.updLin n f).free = s.free := rfl
@[simp] theorem State.updLin_sys (s : State) (n : Nat) (f : LinPort → LinPort) : (s.updLin n f).sys = s.sys := rfl
@[simp] theorem State.updLin_island (s : State) (n : Nat) (f : LinPort → LinPort) : (s.updLin n f).island = s.island := rfl
@[simp] theorem State.updLin_nvm (s : State) (n : Nat) (f : LinPort → LinPort) : (s.updLin n f).nvm = s.nvm := rfl
@[simp] theorem State.updLin_params (s : State) (n : Nat) (f : LinPort → LinPort) : (s.updLin n f).params = s.params := rfl
@[simp] theorem State.updLin_cmd (s : State) (n : Nat) (f : LinPort → LinPort) : (s.updLin n f).cmd = s.cmd := rfl
@[simp] theorem State.updLin_hdl (s : State) (n : Nat) (f : LinPort → LinPort) : (s.updLin n f).hdl = s.hdl := rfl
@[simp] theorem State.updLin_evt (s : State) (n : Nat) (f : LinPort → LinPort) : (s.updLin n f).evt = s.evt := rfl
@[simp] theorem State.updLin_wdg (s : State) (n : Nat) (f : LinPort → LinPort) : (s.updLin n f).wdg = s.wdg := rfl
@[simp] theorem State.updLin_out (s : State) (n : Nat) (f : LinPort → LinPort) : (s.updLin n f).out = s.out := rfl
@[simp] theorem State.updLin_flue (s : State) (n : Nat) (f : LinPort → LinPort) : (s.updLin n f).flue = s.flue := rfl
@[simp] theorem State.updLin_insts (s : State) (n : Nat) (f : LinPort → LinPort) : (s.updLin n f).insts = s.insts := rfl
@[simp] theorem State.updLin_part (s : State) (n : Nat) (f : LinPort → LinPort) : (s.updLin n f).part = s.part := rfl
@[simp] theorem State.updLin_cores (s : State) (n : Nat) (f : LinPort → LinPort) : (s.updLin n f).cores = s.cores := rfl
@[simp] theorem State.updLin_sampled (s : State) (n : Nat) (f : LinPort → LinPort) : (s.updLin n f).sampled = s.sampled := rfl
@[simp] theorem State.updLin_wks (s : State) (n : Nat) (f : LinPort → LinPort) : (s.updLin n f).wks = s.wks := rfl
@[simp] theorem State.updLin_sent (s : State) (n : Nat) (f : LinPort → LinPort) : (s.updLin n f).sent = s.sent := rfl
@[simp] theorem State.updLin_debugger (s : State) (n : Nat) (f : LinPort → LinPort) : (s.updLin n f).debugger = s.debugger := rfl
@[simp] theorem State.updLin_same (s : State) (n : Nat) (f : LinPort → LinPort) : (s.updLin n f).lin n = f (s.lin n) :=
  Tbl.get_upd_same _ _ n f
theorem State.updLin_other (s : State) {n k : Nat} (f : LinPort → LinPort) (h : k ≠ n) : (s.updLin n f).lin k = s.lin k :=
  Tbl.get_upd_other _ _ f h

-- parameter words behind every update that does not store one
theorem State.p_of_params {s t : State} (h : t.params = s.params) (a : Nat) : t.p a = s.p a := by
  unfold State.p; rw [h]

@[simp] theorem State.mapSys_p (s : State) (f : Sys → Sys) (a : Nat) : (s.mapSys f).p a = s.p a := rfl
@[simp] theorem State.mapSys_pf (s : State) (f : Sys → Sys) (a l w : Nat) : (s.mapSys f).pf a l w = s.pf a l w := rfl
@[simp] theorem State.mapSys_pb (s : State) (f : Sys → Sys) (a l : Nat) : (s.mapSys f).pb a l = s.pb a l := rfl
@[simp] theorem State.mapIsland_p (s : State) (f : Island → Island) (a : Nat) : (s.mapIsland f).p a = s.p a := rfl
@[simp] theorem State.mapIsland_pf (s : State) (f : Island → Island) (a l w : Nat) : (s.mapIsland f).pf a l w = s.pf a l w := rfl
@[simp] theorem State.mapIsland_pb (s : State) (f : Island → Island) (a l : Nat) : (s.mapIsland f).pb a l = s.pb a l := rfl
@[simp] theorem State.mapNvm_p (s : State) (f : Nvm → Nvm) (a : Nat) : (s.mapNvm f).p a = s.p a := rfl
@[simp] theorem State.mapNvm_pf (s : State) (f : Nvm → Nvm) (a l w : Nat) : (s.mapNvm f).pf a l w = s.pf a l w := rfl
@[simp] theorem State.mapNvm_pb (s : State) (f : Nvm → Nvm) (a l : Nat) : (s.mapNvm f).pb a l = s.pb a l := rfl
@[simp] theorem State.mapCmd_p (s : State) (f : Cmd → Cmd) (a : Nat) : (s.mapCmd f).p a = s.p a := rfl
@[simp] theorem State.mapCmd_pf (s : State) (f : Cmd → Cmd) (a l w : Nat) : (s.mapCmd f).pf a l w = s.pf a l w := rfl
@[simp] theorem State.mapCmd_pb (s : State) (f : Cmd → Cmd) (a l : Nat) : (s.mapCmd f).pb a l = s.pb a l := rfl
@[simp] theorem State.mapHdl_p (s : State) (f : Hdl → Hdl) (a : Nat) : (s.mapHdl f).p a = s.p a := rfl
@[simp] theorem State.mapHdl_pf (s : State) (f : Hdl → Hdl) (a l w : Nat) : (s.mapHdl f).pf a l w = s.pf a l w := rfl
@[simp] theorem State.mapHdl_pb (s : State) (f : Hdl → Hdl) (a l : Nat) : (s.mapHdl f).pb a l = s.pb a l := rfl
@[simp] theorem State.mapEvt_p (s : State) (f : Evt → Evt) (a : Nat) : (s.mapEvt f).p a = s.p a := rfl
@[simp] theorem State.mapEvt_pf (s : State) (f : Evt → Evt) (a l w : Nat) : (s.mapEvt f).pf a l w = s.pf a l w := rfl
@[simp] theorem State.mapEvt_pb (s : State) (f : Evt → Evt) (a l : Nat) : (s.mapEvt f).pb a l = s.pb a l := rfl
@[simp] theorem State.mapWdg_p (s : State) (f : Wdg → Wdg) (a : Nat) : (s.mapWdg f).p a = s.p a := rfl
@[simp] theorem State.mapWdg_pf (s : State) (f : Wdg → Wdg) (a l w : Nat) : (s.mapWdg f).pf a l w = s.pf a l w := rfl
@[simp] theorem State.mapWdg_pb (s : State) (f : Wdg → Wdg) (a l : Nat) : (s.mapWdg f).pb a l = s.pb a l := rfl
@[simp] theorem State.mapOut_p (s : State) (f : Outs → Outs) (a : Nat) : (s.mapOut f).p a = s.p a := rfl
@[simp] theorem State.mapOut_pf (s : State) (f : Outs → Outs) (a l w : Nat) : (s.mapOut f).pf a l w = s.pf a l w := rfl
@[simp] theorem State.mapOut_pb (s : State) (f : Outs → Outs) (a l : Nat) : (s.mapOut f).pb a l = s.pb a l := rfl
@[simp] theorem State.mapFlue_p (s : State) (f : Flue → Flue) (a : Nat) : (s.mapFlue f).p a = s.p a := rfl
@[simp] theorem State.mapFlue_pf (s : State) (f : Flue → Flue) (a l w : Nat) : (s.mapFlue f).pf a l w = s.pf a l w := rfl
@[simp] theorem State.mapFlue_pb (s : State) (f : Flue → Flue) (a l : Nat) : (s.mapFlue f).pb a l = s.pb a l := rfl
@[simp] theorem State.mapPart_p (s : State) (f : Part → Part) (a : Nat) : (s.mapPart f).p a = s.p a := rfl
@[simp] theorem State.mapPart_pf (s : State) (f : Part → Part) (a l w : Nat) : (s.mapPart f).pf a l w = s.pf a l w := rfl
@[simp] theorem State.mapPart_pb (s : State) (f : Part → Part) (a l : Nat) : (s.mapPart f).pb a l = s.pb a l := rfl
@[simp] theorem State.mapNet_p (s : State) (f : Net → Net) (a : Nat) : (s.mapNet f).p a = s.p a := rfl
@[simp] theorem State.mapNet_pf (s : State) (f : Net → Net) (a l w : Nat) : (s.mapNet f).pf a l w = s.pf a l w := rfl
@[simp] theorem State.mapNet_pb (s : State) (f : Net → Net) (a l : Nat) : (s.mapNet f).pb a l = s.pb a l := rfl
@[simp] theorem State.mapSent_p (s : State) (f : Sent → Sent) (a : Nat) : (s.mapSent f).p a = s.p a := rfl
@[simp] theorem State.mapSent_pf (s : State) (f : Sent → Sent) (a l w : Nat) : (s.mapSent f).pf a l w = s.pf a l w := rfl
@[simp] theorem State.mapSent_pb (s : State) (f : Sent → Sent) (a l : Nat) : (s.mapSent f).pb a l = s.pb a l := rfl
@[simp] theorem State.updHs_p (s : State) (n : Nat) (f : HsCh → HsCh) (a : Nat) : (s.updHs n f).p a = s.p a := rfl
@[simp] theorem State.updHs_pf (s : State) (n : Nat) (f : HsCh → HsCh) (a l w : Nat) : (s.updHs n f).pf a l w = s.pf a l w := rfl
@[simp] theorem State.updHs_pb (s : State) (n : Nat) (f : HsCh → HsCh) (a l : Nat) : (s.updHs n f).pb a l = s.pb a l := rfl
@[simp] theorem State.updPg_p (s : State) (n : Nat) (f : PgCh → PgCh) (a : Nat) : (s.updPg n f).p a = s.p a := rfl
@[simp] theorem State.updPg_pf (s : State) (n : Nat) (f : PgCh → PgCh) (a l w : Nat) : (s.updPg n f).pf a l w = s.pf a l w := rfl
@[simp] theorem State.updPg_pb (s : State) (n : Nat) (f : PgCh → PgCh) (a l : Nat) : (s.updPg n f).pb a l = s.pb a l := rfl
@[simp] theorem State.updVlv_p (s : State) (n : Nat) (f : VlvCh → VlvCh) (a : Nat) : (s.updVlv n f).p a = s.p a := rfl
@[simp] theorem State.updVlv_pf (s : State) (n : Nat) (f : VlvCh → VlvCh) (a l w : Nat) : (s.updVlv n f).pf a l w = s.pf a l w := rfl
@[simp] theorem State.updVlv_pb (s : State) (n : Nat) (f : VlvCh → VlvCh) (a l : Nat) : (s.updVlv n f).pb a l = s.pb a l := rfl
@[simp] theorem State.updHb_p (s : State) (n : Nat) (f : HbCh → HbCh) (a : Nat) : (s.updHb n f).p a = s.p a := rfl
@[simp] theorem State.updHb_pf (s : State) (n : Nat) (f : HbCh → HbCh) (a l w : Nat) : (s.updHb n f).pf a l w = s.pf a l w := rfl
@[simp] theorem State.updHb_pb (s : State) (n : Nat) (f : HbCh → HbCh) (a l : Nat) : (s.updHb n f).pb a l = s.pb a l := rfl
@[simp] theorem State.updMot_p (s : State) (n : Nat) (f : MotCh → MotCh) (a : Nat) : (s.updMot n f).p a = s.p a := rfl
@[simp] theorem State.updMot_pf (s : State) (n : Nat) (f : MotCh → MotCh) (a l w : Nat) : (s.updMot n f).pf a l w = s.pf a l w := rfl
@[simp] theorem State.updMot_pb (s : State) (n : Nat) (f : MotCh → MotCh) (a l : Nat) : (s.updMot n f).pb a l = s.pb a l := rfl
@[simp] theorem State.updSw_p (s : State) (n : Nat) (f : SwCh → SwCh) (a : Nat) : (s.updSw n f).p a = s.p a := rfl
@[simp] theorem State.updSw_pf (s : State) (n : Nat) (f : SwCh → SwCh) (a l w : Nat) : (s.updSw n f).pf a l w = s.pf a l w := rfl
@[simp] theorem State.updSw_pb (s : State) (n : Nat) (f : SwCh → SwCh) (a l : Nat) : (s.updSw n f).pb a l = s.pb a l := rfl
@[simp] theorem State.updPort_p (s : State) (n : Nat) (f : Port → Port) (a : Nat) : (s.updPort n f).p a = s.p a := rfl
@[simp] theorem State.updPort_pf (s : State) (n : Nat) (f : Port → Port) (a l w : Nat) : (s.updPort n f).pf a l w = s.pf a l w := rfl
@[simp] theorem State.updPort_pb (s : State) (n : Nat) (f : Port → Port) (a l : Nat) : (s.updPort n f).pb a l = s.pb a l := rfl
@[simp] theorem State.updSlot_p (s : State) (n : Nat) (f : HSlot → HSlot) (a : Nat) : (s.updSlot n f).p a = s.p a := rfl
@[simp] theorem State.updSlot_pf (s : State) (n : Nat) (f : HSlot → HSlot) (a l w : Nat) : (s.updSlot n f).pf a l w = s.pf a l w := rfl
@[simp] theorem State.updSlot_pb (s : State) (n : Nat) (f : HSlot → HSlot) (a l : Nat) : (s.updSlot n f).pb a l = s.pb a l := rfl
@[simp] theorem State.updCore_p (s : State) (n : Nat) (f : Core → Core) (a : Nat) : (s.updCore n f).p a = s.p a := rfl
@[simp] theorem State.updCore_pf (s : State) (n : Nat) (f : Core → Core) (a l w : Nat) : (s.updCore n f).pf a l w = s.pf a l w := rfl
@[simp] theorem State.updCore_pb (s : State) (n : Nat) (f : Core → Core) (a l : Nat) : (s.updCore n f).pb a l = s.pb a l := rfl
@[simp] theorem State.updWk_p (s : State) (n : Nat) (f : Wk → Wk) (a : Nat) : (s.updWk n f).p a = s.p a := rfl
@[simp] theorem State.updWk_pf (s : State) (n : Nat) (f : Wk → Wk) (a l w : Nat) : (s.updWk n f).pf a l w = s.pf a l w := rfl
@[simp] theorem State.updWk_pb (s : State) (n : Nat) (f : Wk → Wk) (a l : Nat) : (s.updWk n f).pb a l = s.pb a l := rfl
@[simp] theorem State.updView_p (s : State) (n : Nat) (f : View → View) (a : Nat) : (s.updView n f).p a = s.p a := rfl
@[simp] theorem State.updView_pf (s : State) (n : Nat) (f : View → View) (a l w : Nat) : (s.updView n f).pf a l w = s.pf a l w := rfl
@[simp] theorem State.updView_pb (s : State) (n : Nat) (f : View → View) (a l : Nat) : (s.updView n f).pb a l = s.pb a l := rfl
@[simp] theorem State.updRing_p (s : State) (n : Nat) (f : Ring → Ring) (a : Nat) : (s.updRing n f).p a = s.p a := rfl
@[simp] theorem State.updRing_pf (s : State) (n : Nat) (f : Ring → Ring) (a l w : Nat) : (s.updRing n f).pf a l w = s.pf a l w := rfl
@[simp] theorem State.updRing_pb (s : State) (n : Nat) (f : Ring → Ring) (a l : Nat) : (s.updRing n f).pb a l = s.pb a l := rfl
@[simp] theorem State.updInst_p (s : State) (n : Nat) (f : Inst → Inst) (a : Nat) : (s.updInst n f).p a = s.p a := rfl
@[simp] theorem State.updInst_pf (s : State) (n : Nat) (f : Inst → Inst) (a l w : Nat) : (s.updInst n f).pf a l w = s.pf a l w := rfl
@[simp] theorem State.updInst_pb (s : State) (n : Nat) (f : Inst → Inst) (a l : Nat) : (s.updInst n f).pb a l = s.pb a l := rfl
@[simp] theorem State.updLin_p (s : State) (n : Nat) (f : LinPort → LinPort) (a : Nat) : (s.updLin n f).p a = s.p a := rfl
@[simp] theorem State.updLin_pf (s : State) (n : Nat) (f : LinPort → LinPort) (a l w : Nat) : (s.updLin n f).pf a l w = s.pf a l w := rfl
@[simp] theorem State.updLin_pb (s : State) (n : Nat) (f : LinPort → LinPort) (a l : Nat) : (s.updLin n f).pb a l = s.pb a l := rfl
@[simp] theorem State.drawn_p (s : State) (a : Nat) : s.drawn.p a = s.p a := rfl

end Sys2Proof.Machine
end

