-- ==== Sys2Proof/Laws/Params.lean ====
section
/-! SUPPORT. Bit fields and parameter words: what is read after a word or a field is stored, and what is left alone. -/

namespace Sys2Proof.Machine

/-- A field of a word less than `2 ^ n` whose field is replaced is still less, when the field lies below bit `n`. -/
theorem setFld_lt {x lo wid v n : Nat} (hx : x < 2 ^ n) (h : lo + wid ≤ n) : setFld x lo wid v < 2 ^ n := by
  unfold setFld
  have h1 : x % 2 ^ lo < 2 ^ lo := Nat.mod_lt _ (by positivity)
  have h2 : v % 2 ^ wid < 2 ^ wid := Nat.mod_lt _ (by positivity)
  have h3 : x / 2 ^ (lo + wid) < 2 ^ (n - (lo + wid)) := by
    rw [Nat.div_lt_iff_lt_mul (by positivity), ← Nat.pow_add, Nat.sub_add_cancel h]; exact hx
  have e : (2 : Nat) ^ n = 2 ^ (n - (lo + wid)) * 2 ^ (lo + wid) := by rw [← Nat.pow_add, Nat.sub_add_cancel h]
  have e2 : (2 : Nat) ^ (lo + wid) = 2 ^ wid * 2 ^ lo := by rw [Nat.pow_add, Nat.mul_comm]
  have h4 : (v % 2 ^ wid) * 2 ^ lo + 2 ^ lo ≤ 2 ^ (lo + wid) := by
    rw [e2]; nlinarith [Nat.succ_le_of_lt h2, Nat.pos_of_ne_zero (n := 2 ^ lo) (by positivity)]
  have h5 : (x / 2 ^ (lo + wid)) * 2 ^ (lo + wid) + 2 ^ (lo + wid) ≤ 2 ^ n := by
    rw [e]; nlinarith [Nat.succ_le_of_lt h3, Nat.pos_of_ne_zero (n := 2 ^ (lo + wid)) (by positivity)]
  omega

/-- The low part of a replaced field, as one number. -/
theorem setFld_div (x lo wid v : Nat) : setFld x lo wid v / 2 ^ lo = v % 2 ^ wid + 2 ^ wid * (x / 2 ^ (lo + wid)) := by
  unfold setFld
  have h1 : x % 2 ^ lo < 2 ^ lo := Nat.mod_lt _ (by positivity)
  have e : x % 2 ^ lo + v % 2 ^ wid * 2 ^ lo + x / 2 ^ (lo + wid) * 2 ^ (lo + wid) =
      x % 2 ^ lo + (v % 2 ^ wid + 2 ^ wid * (x / 2 ^ (lo + wid))) * 2 ^ lo := by
    rw [Nat.pow_add]; ring
  rw [e, Nat.add_mul_div_right _ _ (by positivity), Nat.div_eq_of_lt h1, Nat.zero_add]

/-- The field that was replaced reads as the low bits of the value. -/
@[simp] theorem fld_setFld_same (x lo wid v : Nat) : fld (setFld x lo wid v) lo wid = v % 2 ^ wid := by
  unfold fld
  rw [setFld_div, Nat.add_mul_mod_self_left, Nat.mod_mod]

/-- A field below the replaced one is left alone. -/
theorem fld_setFld_below (x lo wid v l w : Nat) (h : l + w ≤ lo) : fld (setFld x lo wid v) l w = fld x l w := by
  unfold fld setFld
  obtain ⟨k, rfl⟩ := Nat.exists_eq_add_of_le h
  have e : x % 2 ^ (l + w + k) + v % 2 ^ wid * 2 ^ (l + w + k) + x / 2 ^ (l + w + k + wid) * 2 ^ (l + w + k + wid) =
      x % 2 ^ (l + w + k) + 2 ^ (l + w) * (v % 2 ^ wid * 2 ^ k + x / 2 ^ (l + w + k + wid) * 2 ^ (k + wid)) := by
    simp only [Nat.pow_add]; ring
  have key : ∀ y : Nat, y / 2 ^ l % 2 ^ w = y % 2 ^ (l + w) / 2 ^ l := by
    intro y; rw [Nat.pow_add, Nat.mod_mul_right_div_self]
  rw [key, key, e, Nat.add_mul_mod_self_left, Nat.mod_mod_of_dvd _ (Nat.pow_dvd_pow 2 (by omega))]

/-- A field above the replaced one is left alone. -/
theorem fld_setFld_above (x lo wid v l w : Nat) (h : lo + wid ≤ l) : fld (setFld x lo wid v) l w = fld x l w := by
  unfold fld
  obtain ⟨k, rfl⟩ := Nat.exists_eq_add_of_le h
  have e : setFld x lo wid v / 2 ^ (lo + wid) = x / 2 ^ (lo + wid) := by
    rw [Nat.pow_add, ← Nat.div_div_eq_div_mul, setFld_div, Nat.add_mul_div_left _ _ (by positivity),
      Nat.div_eq_of_lt (Nat.mod_lt _ (by positivity)), Nat.zero_add, Nat.pow_add]
  rw [Nat.pow_add, ← Nat.div_div_eq_div_mul, ← Nat.div_div_eq_div_mul, e]

/-- A bit is a field of one bit. -/
theorem bit_eq_fld (x n : Nat) : bit x n = (fld x n 1 == 1) := by simp [bit, fld]

/-- The word read after a word is stored. -/
@[simp] theorem State.p_setP_same (s : State) (a v : Nat) : (s.setP a v).p a = v % 2 ^ 32 := by
  unfold State.p State.setP paramPut
  dsimp only
  by_cases h : BitVec.ofNat 32 v = paramReset a
  · rw [if_pos h, Tbl.find_del_same]
    simp [← h]
  · rw [if_neg h, Tbl.find_set_same]
    simp

/-- Every other word is left alone. -/
theorem State.p_setP_other (s : State) {a b : Nat} (v : Nat) (h : b ≠ a) : (s.setP a v).p b = s.p b := by
  unfold State.p State.setP paramPut
  dsimp only
  split_ifs
  · rw [Tbl.find_del_other _ h]
  · rw [Tbl.find_set_other _ _ h]

/-- A parameter is a word of 32 bits. -/
theorem State.p_lt (s : State) (a : Nat) : s.p a < 2 ^ 32 := by
  unfold State.p
  split <;> exact BitVec.isLt _

theorem State.p_setPf_same (s : State) (a lo wid v : Nat) (h : lo + wid ≤ 32) :
    (s.setPf a lo wid v).p a = setFld (s.p a) lo wid v := by
  rw [State.setPf, State.p_setP_same, Nat.mod_eq_of_lt (setFld_lt (s.p_lt a) h)]

theorem State.p_setPf_other (s : State) {a b : Nat} (lo wid v : Nat) (h : b ≠ a) : (s.setPf a lo wid v).p b = s.p b :=
  s.p_setP_other _ h

/-- The field read after it is stored. -/
theorem State.pf_setPf_same (s : State) (a lo wid v : Nat) (h : lo + wid ≤ 32) :
    (s.setPf a lo wid v).pf a lo wid = v % 2 ^ wid := by
  rw [State.pf, s.p_setPf_same a lo wid v h, fld_setFld_same]

theorem State.pf_setPf_below (s : State) (a lo wid v l w : Nat) (h : lo + wid ≤ 32) (h' : l + w ≤ lo) :
    (s.setPf a lo wid v).pf a l w = s.pf a l w := by
  rw [State.pf, s.p_setPf_same a lo wid v h, fld_setFld_below _ _ _ _ _ _ h', State.pf]

theorem State.pf_setPf_above (s : State) (a lo wid v l w : Nat) (h : lo + wid ≤ 32) (h' : lo + wid ≤ l) :
    (s.setPf a lo wid v).pf a l w = s.pf a l w := by
  rw [State.pf, s.p_setPf_same a lo wid v h, fld_setFld_above _ _ _ _ _ _ h', State.pf]

theorem State.pf_setPf_other (s : State) {a b : Nat} (lo wid v l w : Nat) (h : b ≠ a) :
    (s.setPf a lo wid v).pf b l w = s.pf b l w := by
  rw [State.pf, s.p_setPf_other lo wid v h, State.pf]

/-- The bit read after it is stored. -/
theorem State.pb_setPb_same (s : State) (a lo : Nat) (b : Bool) (h : lo < 32) : (s.setPb a lo b).pb a lo = b := by
  have e := s.pf_setPf_same a lo 1 (b2n b) (by omega)
  rw [State.pb, bit_eq_fld]
  rw [State.pf] at e
  rw [State.setPb, e]
  cases b <;> rfl

/-- Every other bit of the word is left alone. -/
theorem State.pb_setPb_bit (s : State) (a : Nat) {lo l : Nat} (b : Bool) (h : lo < 32) (h' : l ≠ lo) :
    (s.setPb a lo b).pb a l = s.pb a l := by
  rw [State.pb, State.pb, bit_eq_fld, bit_eq_fld, State.setPb, s.p_setPf_same a lo 1 _ (by omega)]
  rcases Nat.lt_or_gt_of_ne h' with hl | hl
  · rw [fld_setFld_below _ _ _ _ _ _ (by omega)]
  · rw [fld_setFld_above _ _ _ _ _ _ (by omega)]

theorem State.pb_setPb_other (s : State) {a c : Nat} (lo l : Nat) (b : Bool) (h : c ≠ a) :
    (s.setPb a lo b).pb c l = s.pb c l := by
  rw [State.pb, State.setPb, s.p_setPf_other _ _ _ h, State.pb]

theorem State.p_setPb_other (s : State) {a c : Nat} (lo : Nat) (b : Bool) (h : c ≠ a) : (s.setPb a lo b).p c = s.p c :=
  s.p_setPf_other _ _ _ h

end Sys2Proof.Machine
end

