-- ==== Sys2Proof/Laws/Settle.lean ====
section
/-! SUPPORT. What a command can answer, and what the end of its effect does: entry to Doused, or nothing. -/

namespace Sys2Proof.Machine

/-- A fold over a list of changes keeps what each change keeps. -/
theorem State.each_keeps {α β : Type} (π : State → β) (l : List α) (f : State → α → State)
    (h : ∀ t x, π (f t x) = π t) (s : State) : π (s.each l f) = π s := by
  unfold State.each
  induction l generalizing s with
  | nil => rfl
  | cons x r ih => rw [List.foldl_cons, ih, h]

/-- A fold over a list of changes keeps a property that each change keeps. -/
theorem State.each_holds {α : Type} (P : State → Prop) (l : List α) (f : State → α → State)
    (h : ∀ t x, P t → P (f t x)) (s : State) (hs : P s) : P (s.each l f) := by
  unfold State.each
  induction l generalizing s with
  | nil => exact hs
  | cons x r ih => exact ih _ (h s x hs)

/-- A conditional change keeps what the change keeps. -/
theorem State.when_keeps {β : Type} (π : State → β) (b : Bool) (f : State → State) (h : ∀ t, π (f t) = π t) (s : State) :
    π (s.when b f) = π s := by
  unfold State.when
  split
  · exact h s
  · rfl

/-- Every command answers a next state whose effect has settled, or a supply above 58 V stops it. -/
theorem exec_done_or_rated (c : Instr) (s : State) :
    (∃ u : State, exec c s = .next u.settle) ∨ (∃ mv u, exec c s = rated mv u) := by
  cases c <;> first
    | exact .inl ⟨_, rfl⟩
    | exact .inr ⟨_, _, rfl⟩

/-- The front command of the queue runs with the queue's rest. -/
theorem step_cons (s : State) (c : Instr) (r : List Instr) (h : s.pending = c :: r) :
    step s = exec c { s with pending := r } := by
  simp [step, h]

theorem step_nil (s : State) (h : s.pending = []) : step s = .next s := by
  simp [step, h]

/-- The next state of a command has settled. -/
theorem exec_settled (c : Instr) (s t : State) (h : exec c s = .next t) : ∃ u : State, t = u.settle := by
  rcases exec_done_or_rated c s with ⟨u, hu⟩ | ⟨mv, u, hu⟩
  · exact ⟨u, by rw [hu] at h; injection h with h; exact h.symm⟩
  · refine ⟨u, ?_⟩
    rw [hu, rated] at h
    split at h
    · cases h
    · rw [done] at h; injection h with h; exact h.symm

theorem State.openContactors_keeps {β : Type} (π : State → β) (b : Bool) (s : State)
    (h1 : ∀ t n f, π (t.updHs n f) = π t) (h2 : ∀ t n, π (t.hsDrive n) = π t) : π (s.openContactors b) = π s := by
  unfold State.openContactors
  exact State.each_keeps π _ _ (fun t n => by rw [h2, h1]) s

theorem State.wear_evt (s : State) (k n : Nat) : (s.wear k n).evt = s.evt := rfl

theorem State.upSpan_evt (s : State) (n : Nat) (f : Span → Span) : (s.upSpan n f).evt = s.evt := rfl
theorem State.upSpan_island (s : State) (n : Nat) (f : Span → Span) : (s.upSpan n f).island = s.island := rfl

theorem State.countOpening_evt (s : State) (n : Nat) : (s.countOpening n).evt = s.evt := by
  unfold State.countOpening
  simp only [State.mapNvm_evt, State.wear_evt]
  exact State.each_keeps (fun t => t.evt) _ _ (fun t k => t.upSpan_evt k _) s

theorem State.opened_evt (s : State) (n : Nat) : (s.opened n).evt = s.evt := by
  unfold State.opened
  dsimp only
  split <;> simp [State.countOpening_evt]

theorem State.closed_evt (s : State) (n : Nat) : (s.closed n).evt = s.evt := by
  unfold State.closed State.pullIn
  dsimp only
  split <;> simp

/-- The drive of a channel settles without an entry to Doused. -/
theorem State.hsDrive_douse (s : State) (n : Nat) : (s.hsDrive n).evt.douse = s.evt.douse := by
  unfold State.hsDrive
  dsimp only
  split_ifs <;> simp [State.opened_evt, State.closed_evt, State.olEnd, State.finish]

theorem State.haltCores_evt (s : State) : s.haltCores.evt = s.evt := by
  unfold State.haltCores
  refine State.each_keeps (fun t => t.evt) _ _ (fun t c => ?_) s
  dsimp only
  split <;> simp

/-- A choice between two states keeps what both keep. -/
theorem State.ite_keeps {β : Type} (π : State → β) (c : Prop) [Decidable c] (a b : State) (x : β) (ha : π a = x)
    (hb : π b = x) : π (if c then a else b) = x := by
  split
  · exact ha
  · exact hb

theorem State.wdgPause_evt (s : State) : s.wdgPause.evt = s.evt :=
  State.ite_keeps (fun t => t.evt) _ _ _ _
    (by rw [State.mapWdg_evt, State.setPb_evt, State.setPb_evt]) rfl

theorem State.followKept_evt (s : State) : s.followKept.evt = s.evt := by
  unfold State.followKept
  exact State.each_keeps (fun t => t.evt) _ _ (fun t n => by simp) s

theorem State.drivesKept_evt (s : State) : s.drivesKept.evt = s.evt := by
  unfold State.drivesKept
  exact State.each_keeps (fun t => t.evt) _ _ (fun t n => by simp) s

/-- Entry to Doused is not outstanding once it has been made. -/
@[simp] theorem State.enterDoused_douse (s : State) : s.enterDoused.evt.douse = false := by
  unfold State.enterDoused
  dsimp only
  rw [State.wdgPause_evt, State.haltCores_evt]
  rw [State.openContactors_keeps (fun t => t.evt.douse) false _ (fun t n f => by simp) (fun t n => t.hsDrive_douse n)]
  rw [State.drivesKept_evt, State.followKept_evt]
  simp

theorem State.hsOff_douse (s : State) (n : Nat) : (s.hsOff n).evt.douse = s.evt.douse := by
  unfold State.hsOff State.hsCmdOff
  rw [State.hsDrive_douse]
  simp

/-- Nothing is outstanding after a command's effect has settled. -/
theorem State.settle_douse (s : State) : s.settle.evt.douse = false := by
  unfold State.settle
  split
  · simp
  · rename_i h
    have h' : s.evt.douse = false := by simpa using h
    split
    · unfold State.kindleOff
      rw [State.each_keeps (fun t => t.evt.douse) _ _ (fun t n => t.hsOff_douse _) s]
      exact h'
    · exact h'

/-- An effect that leaves no entry to Doused outstanding, outside a Kindling with a douse pending, is the whole effect. -/
theorem State.settle_of_calm (s : State) (h : s.evt.douse = false) (h' : s.sys.phase = .kindling → s.sys.dousePend = false) :
    s.settle = s := by
  unfold State.settle
  rw [if_neg (by simp [h])]
  by_cases hp : s.sys.phase = .kindling
  · simp [hp, h' hp]
  · simp [hp]

end Sys2Proof.Machine
end

