-- ==== Sys2Proof/Laws/Switches.lean ====
section
/-! SUPPORT. Load switches: what settling a channel's drive writes, and when the channel is on. -/

namespace Sys2Proof.Machine

theorem State.wear_params (s : State) (k n : Nat) : (s.wear k n).params = s.params := rfl

/-- An opening is counted without touching a parameter. -/
theorem State.countOpening_params (s : State) (n : Nat) : (s.countOpening n).params = s.params := by
  unfold State.countOpening
  dsimp only
  rw [State.mapNvm_params, State.wear_params]
  exact State.each_keeps (fun t => t.params) _ _ (fun t k => State.updInst_params t k _) s

/-- What a contactor that opens writes: its own status, shadow and PWM words. -/
theorem State.opened_p (s : State) (n a : Nat) (h1 : a ≠ hsStat n) (h2 : a ≠ hsPwmSh n) (h3 : a ≠ hsPwm n) : (s.opened n).p a = s.p a := by
  unfold State.opened
  dsimp only
  have e : (((((s.updHs n (fun c => { c with cont := 0, carry := 0 })).setPb (hsStat n) 7 false).countOpening n).setPf (hsPwmSh n) 0 28 0).setPf (hsPwm n) 0 28 0).p a = s.p a := by
    rw [State.p_setPf_other _ _ _ _ h3, State.p_setPf_other _ _ _ _ h2, State.p_of_params (State.countOpening_params _ _),
        State.p_setPb_other _ _ _ h1, State.updHs_p]
  split
  · rw [State.mapOut_p, e]
  · exact e

/-- What a pull-in writes: the contactor's status and PWM words. -/
theorem State.pullIn_p (s : State) (n a : Nat) (h1 : a ≠ hsStat n) (h3 : a ≠ hsPwm n) : (s.pullIn n).p a = s.p a := by
  unfold State.pullIn
  rw [State.p_setPb_other _ _ _ h1, State.p_setP_other _ _ h3, State.updHs_p]

theorem State.pullIn_on (s : State) (n : Nat) : (s.pullIn n).pb (hsStat n) 0 = s.pb (hsStat n) 0 := by
  have q1 : hsStat n ≠ hsPwm n := by simp [hsStat, hsPwm]
  unfold State.pullIn
  rw [State.pb_setPb_bit _ _ _ (by norm_num) (by norm_num), State.pb, State.p_setP_other _ _ q1, ← State.pb, State.updHs_pb]

/-- What a contactor that closes writes: its own status, and the weld check. -/
theorem State.closed_p (s : State) (n a : Nat) (h1 : a ≠ hsStat n) (h3 : a ≠ hsPwm n) (h2 : a ≠ 0x2731) :
    (s.closed n).p a = s.p a := by
  unfold State.closed
  dsimp only
  split
  · rw [State.p_setPf_other _ _ _ _ h2, State.mapOut_p, State.pullIn_p _ _ _ h1 h3]
  · exact State.pullIn_p _ _ _ h1 h3

theorem State.finish_p (s : State) (e i a : Nat) : (s.finish e i).p a = s.p a := rfl

theorem State.olEnd_p (s : State) (n a : Nat) (h1 : a ≠ hsStat n) : (s.olEnd n).p a = s.p a := by
  unfold State.olEnd
  rw [State.updHs_p, State.p_setPb_other _ _ _ h1, State.finish_p]

/-- Settling the drive of a channel writes its own words and the weld check alone. -/
theorem State.hsDrive_p (s : State) (n a : Nat) (h1 : a ≠ hsStat n) (h2 : a ≠ hsPwmSh n) (h3 : a ≠ hsPwm n) (h4 : a ≠ 0x2731) :
    (s.hsDrive n).p a = s.p a := by
  unfold State.hsDrive
  dsimp only
  have e0 : ∀ (t : State) (b : Bool), (t.setPb (hsStat n) 0 b).p a = t.p a := fun t b => State.p_setPb_other _ _ _ h1
  have e1 : ∀ (t : State) (b : Bool), (t.setPb (hsStat n) 1 b).p a = t.p a := fun t b => State.p_setPb_other _ _ _ h1
  split_ifs <;> simp only [State.opened_p _ _ _ h1 h2 h3, State.closed_p _ _ _ h1 h3 h4, State.olEnd_p _ _ _ h1, e0, e1]

theorem State.opened_on (s : State) (n : Nat) : (s.opened n).pb (hsStat n) 0 = s.pb (hsStat n) 0 := by
  have e : (((((s.updHs n (fun c => { c with cont := 0, carry := 0 })).setPb (hsStat n) 7 false).countOpening n).setPf (hsPwmSh n) 0 28 0).setPf (hsPwm n) 0 28 0).pb (hsStat n) 0 = s.pb (hsStat n) 0 := by
    have q1 : hsStat n ≠ hsPwm n := by simp [hsStat, hsPwm]
    have q2 : hsStat n ≠ hsPwmSh n := by simp [hsStat, hsPwmSh]
    rw [State.pb, State.p_setPf_other _ _ _ _ q1, State.p_setPf_other _ _ _ _ q2, State.p_of_params (State.countOpening_params _ _)]
    rw [← State.pb, State.pb_setPb_bit _ _ _ (by norm_num) (by norm_num), State.updHs_pb]
  unfold State.opened
  dsimp only
  split
  · rw [State.mapOut_pb, e]
  · exact e

theorem State.closed_on (s : State) (n : Nat) : (s.closed n).pb (hsStat n) 0 = s.pb (hsStat n) 0 := by
  have q1 : hsStat n ≠ 0x2731 := by simp only [hsStat]; omega
  unfold State.closed
  dsimp only
  split
  · rw [State.pb, State.p_setPf_other _ _ _ _ q1, State.mapOut_p, ← State.pb, State.pullIn_on]
  · exact State.pullIn_on _ _

theorem State.olEnd_on (s : State) (n : Nat) : (s.olEnd n).pb (hsStat n) 0 = s.pb (hsStat n) 0 := by
  unfold State.olEnd
  rw [State.updHs_pb, State.pb_setPb_bit _ _ _ (by norm_num) (by norm_num)]; rfl

/-- A channel is on exactly when it is commanded on and allowed to drive (R552, R566). -/
theorem State.hsDrive_on (s : State) (n : Nat)  :
    (s.hsDrive n).pb (hsStat n) 0 = (s.hsWant n && s.hsMay n) := by
  unfold State.hsDrive
  dsimp only
  have e1 : ∀ (t : State) (b : Bool),
      (t.setPb (hsStat n) 1 b).pb (hsStat n) 0 = t.pb (hsStat n) 0 := fun t b => State.pb_setPb_bit _ _ _ (by norm_num) (by norm_num)
  have e0 : ∀ (t : State) (b : Bool),
      (t.setPb (hsStat n) 0 b).pb (hsStat n) 0 = b := fun t b => State.pb_setPb_same _ _ _ _ (by norm_num)
  split_ifs <;> simp only [State.opened_on, State.closed_on _ _, State.olEnd_on, e0, e1]

end Sys2Proof.Machine
end

