-- ==== Sys2Proof/Laws/Supply.lean ====
section
/-! SUPPORT. What the supply operations do: restarts, the rail sequence, reading the fuses and a rail fault. -/

namespace Sys2Proof.Machine

/-- A restart leaves no douse outstanding. -/
theorem State.restart_settle (s : State) (w : Bool) : (s.restart w).settle = s.restart w := by
  apply State.settle_of_calm
  · rfl
  · intro h; cases h

/-- With no douse outstanding and outside Kindling, the end of an effect changes nothing. -/
theorem State.settle_calm (s : State) (h : s.evt.douse = false) (h' : s.sys.phase ≠ .kindling) : s.settle = s :=
  s.settle_of_calm h (fun e => absurd e h')

/-- The same, of the outcome. -/
theorem done_calm (s : State) (h : s.evt.douse = false) (h' : s.sys.phase ≠ .kindling) : done s = .next s := by
  rw [done, State.settle_calm s h h']

/-- What starting the sequence keeps. -/
theorem State.seqStart_evt (s : State) : s.seqStart.evt = s.evt := by
  unfold State.seqStart; split <;> rfl
theorem State.seqStart_phase (s : State) : s.seqStart.sys.phase = s.sys.phase := by
  unfold State.seqStart; split <;> rfl
theorem State.seqStart_wait (s : State) : s.seqStart.sys.seqWait = s.sys.seqWait := by
  unfold State.seqStart; split <;> rfl
theorem State.seqStart_fr (s : State) : s.seqStart.sys.fuseRead = s.sys.fuseRead := by
  unfold State.seqStart; split <;> rfl
theorem State.seqStart_params (s : State) : s.seqStart.params = s.params := by
  unfold State.seqStart; split <;> rfl
theorem State.seqStart_island (s : State) : s.seqStart.island = s.island := by
  unfold State.seqStart; split <;> rfl
theorem State.seqStart_nvm (s : State) : s.seqStart.nvm = s.nvm := by
  unfold State.seqStart; split <;> rfl
/-- Which rail starting the sequence turns on. -/
theorem State.seqStart_rails (s : State) (h1 : s.sys.phase = .sequencing) (h2 : s.sys.rails = []) : s.seqStart.sys.rails =
      if s.sys.seqWait ∨ s.island.thermalHold then [] else [(s.seqStep 0).1] := by
  unfold State.seqStart; rw [h1, h2]
  cases s.sys.seqWait <;> cases s.island.thermalHold <;> simp [h2]

/-- What reading the fuses keeps. -/
theorem State.fusesRead_nvm (s : State) : s.fusesRead.nvm = s.nvm := by
  unfold State.fusesRead; dsimp only
  rw [State.mapSys_nvm, State.each_keeps (fun t => t.nvm) _ _ (by intros; rfl)]; rfl
theorem State.fusesRead_island (s : State) : s.fusesRead.island = s.island := by
  unfold State.fusesRead; dsimp only
  rw [State.mapSys_island, State.each_keeps (fun t => t.island) _ _ (by intros; rfl)]; rfl
theorem State.fusesRead_evt (s : State) : s.fusesRead.evt = s.evt := by
  unfold State.fusesRead; dsimp only
  rw [State.mapSys_evt, State.each_keeps (fun t => t.evt) _ _ (by intros; rfl)]; rfl
theorem State.fusesRead_rails (s : State) : s.fusesRead.sys.rails = s.sys.rails := by
  unfold State.fusesRead; dsimp only
  rw [State.mapSys_sys]; dsimp only
  rw [State.each_keeps (fun t => t.sys.rails) _ _ (by intros; rfl)]; rfl
/-- What reading the fuses reads. -/
theorem State.fusesRead_fuseRead (s : State) : s.fusesRead.sys.fuseRead = s.nvm.fuseOr := by
  unfold State.fusesRead; dsimp only
  rw [State.mapSys_sys]; dsimp only
  rw [State.each_keeps (fun t => t.sys.fuseRead) _ _ (by intros; rfl)]; rfl

/-- A step of the sequence follows from the fuses alone. -/
theorem State.seqStep_of (s t : State) (h : s.sys.fuseRead = t.sys.fuseRead) (n : Nat) : s.seqStep n = t.seqStep n := by
  unfold State.seqStep State.seqBad State.seqRaw State.fz; rw [h]

/-- Looking up a word of a table that has lost some keys. -/
theorem Tbl.find_filter (t : Tbl Word) (k : Nat → Bool) (a : Nat) : Tbl.find (t.filter (fun e => k e.1)) a =
      if k a then Tbl.find t a else none := by
  induction t with
  | nil => simp
  | cons e r ih =>
    obtain ⟨j, v⟩ := e
    by_cases hj : k j = true
    · rw [List.filter_cons_of_pos (by simpa using hj)]
      by_cases h : j = a
      · subst h; simp [Tbl.find, hj]
      · simp [Tbl.find, h, ih]
    · rw [List.filter_cons_of_neg (by simpa using hj)]
      by_cases h : j = a
      · subst h; simp [ih, hj]
      · simp [Tbl.find, h, ih]

/-- Dropping the contactors touches the ledger spans, the wear counters and the contactors' own state alone. -/
theorem State.contactorsDrop_keeps {β : Type} (π : State → β) (s : State) (h1 : ∀ t n, π (t.countOpening n) = π t)
    (h2 : ∀ t n f, π (t.updHs n f) = π t) : π s.contactorsDrop = π s := by
  unfold State.contactorsDrop
  exact State.each_keeps π _ _ (fun t n => by rw [h2, h1]) s

theorem State.contactorsDrop_params (s : State) : s.contactorsDrop.params = s.params :=
  s.contactorsDrop_keeps (fun t => t.params) State.countOpening_params (fun t n f => by simp)

theorem State.countOpening_island (s : State) (n : Nat) : (s.countOpening n).island = s.island := by
  unfold State.countOpening
  dsimp only
  rw [State.mapNvm_island]
  exact State.each_keeps (fun t => t.island) _ _ (fun t k => t.upSpan_island k _) s

theorem State.contactorsDrop_island (s : State) : s.contactorsDrop.island = s.island :=
  s.contactorsDrop_keeps (fun t => t.island) State.countOpening_island (fun t n f => by simp)

/-- A restart keeps the parameters that it keeps (R785). -/
theorem State.restart_p (s : State) (w : Bool) (a : Nat) (h : keptParam w a = true) : (s.restart w).p a = s.p a := by
  have e : (s.restart w).params = s.params.filter (fun x => keptParam w x.1) := by
    rw [← s.contactorsDrop_params]; rfl
  unfold State.p
  rw [e, Tbl.find_filter, if_pos h]

/-- SUP.RAIL and RST_CAUSE outlast every restart. -/
theorem keptParam_supRail : keptParam false 0x0302 = true := by decide
theorem keptParam_rstCause : keptParam false 0x0105 = true := by decide

/-- What a rail fault does (R142): the next phase, its record in SUP.RAIL, the rails and the journal records. -/
theorem State.railFault_facts (s : State) (step rail kind : Nat) :
    (s.railFault step rail kind).settle = s.railFault step rail kind ∧
    (s.railFault step rail kind).sys.phase = (if s.pf 0x0302 8 3 = s.railN then .coldHold else .rest) ∧
    (s.railFault step rail kind).pf 0x0302 0 3 = step % 8 ∧
    (s.railFault step rail kind).pf 0x0302 3 3 = rail % 8 ∧
    (s.railFault step rail kind).pf 0x0302 6 2 = kind % 4 ∧
    (s.railFault step rail kind).sys.rails = [] ∧
    (s.railFault step rail kind).island.recs.map (·.ev) =
      s.island.recs.map (·.ev) ++ (if s.pf 0x0302 8 3 = s.railN then [54, 55] else [54]) := by
  have hp : (s.railFault step rail kind).sys.phase = (if s.pf 0x0302 8 3 = s.railN then .coldHold else .rest) := by
    unfold State.railFault; rfl
  have h302 : (s.railFault step rail kind).p 0x0302 = setFld (setFld (setFld (s.p 0x0302) 0 3 step) 3 3 rail) 6 2 kind := by
    have base : ∀ t : State, t.p 0x0302 = (((s.setPf 0x0302 0 3 step).setPf 0x0302 3 3 rail).setPf 0x0302 6 2 kind).p 0x0302 →
        t.p 0x0302 = setFld (setFld (setFld (s.p 0x0302) 0 3 step) 3 3 rail) 6 2 kind := by
      intro t ht
      rw [ht, State.p_setPf_same _ _ _ _ _ (by norm_num),
        State.p_setPf_same _ _ _ _ _ (by norm_num), State.p_setPf_same _ _ _ _ _ (by norm_num)]
    apply base
    have hw : ∀ (t : State) (f g h : Nat → Bool), (t.wakeArm f g h).p 0x0302 = t.p 0x0302 := by
      intro t f g h
      unfold State.wakeArm; dsimp only
      rw [State.mapIsland_p, State.p_setP_other _ _ (by norm_num), State.p_setP_other _ _ (by norm_num)]
    by_cases hl : s.pf 0x0302 8 3 = s.railN
    · unfold State.railFault; simp only [hl, if_pos]
      rw [State.mapSys_p]
      refine (hw _ s.levelNow s.swForced s.rawNow).trans ?_
      rw [State.p_setPb_other _ _ _ (by norm_num), State.restart_p _ _ _ keptParam_supRail, State.mapIsland_p]
      rfl
    · unfold State.railFault; simp only [hl, if_false]
      rw [State.mapSys_p, State.restart_p _ _ _ keptParam_supRail, State.mapIsland_p]
      rfl
  refine ⟨?_, hp, ?_, ?_, ?_, ?_, ?_⟩
  · apply State.settle_calm
    · unfold State.railFault; dsimp only; split_ifs <;> rfl
    · rw [hp]; split <;> simp
  · rw [State.pf, h302, fld_setFld_below _ _ _ _ _ _ (by norm_num),
      fld_setFld_below _ _ _ _ _ _ (by norm_num), fld_setFld_same]; norm_num
  · rw [State.pf, h302, fld_setFld_below _ _ _ _ _ _ (by norm_num), fld_setFld_same]; norm_num
  · rw [State.pf, h302, fld_setFld_same]; norm_num
  · unfold State.railFault; dsimp only; split_ifs <;> rfl
  · by_cases hl : s.pf 0x0302 8 3 = s.railN
    · unfold State.railFault; simp only [hl, if_pos]
      simp [State.wakeArm, State.restart, State.restarted, State.rawsKept, State.islandRec, State.contactorsDrop_island]
    · unfold State.railFault; simp only [hl, if_false]
      simp [State.restart, State.restarted, State.rawsKept, State.islandRec, State.contactorsDrop_island]

/-- A reset leaves no douse outstanding. -/
theorem State.reboot_settle (s : State) (c : Nat) : (s.reboot c).settle = s.reboot c := by
  apply State.settle_of_calm
  · rfl
  · intro h; cases h

end Sys2Proof.Machine
end

