-- ==== Sys2Proof/Tests/Slice0.lean ====
section
/-! SUPPORT. The model's own tests: an ill-formed term for each check of WellFormed.lean, worked examples of the manual,
and for every statement with hypotheses a theorem that shows a state and operands which meet them, clause by clause. -/

namespace Sys2Proof.Tests

open Sys2Proof Sys2Proof.Machine

set_option Elab.async false

/-- A state in a phase, its clocks running. -/
def ph (p : Phase) : State := { State.reset with sys := { Sys.start with phase := p, pll := true, rom := true } }
/-- The states that most tests start from. -/
def lit : State := ph .lit
def dous : State := ph .doused
def kin : State := ph .kindling
/-- Parameters set one after the other. -/
def put (s : State) (l : List (Nat × Nat)) : State := l.foldl (fun t e => t.setP e.1 e.2) s
/-- A request on the SPI port. -/
def rq (l : List Byte) : Req := ⟨0, 1, 0, 0, 0, l, 0, 0, 0, 0, 0, ⟨0, 0, false, 0, false, 0⟩⟩
/-- A request on a handle. -/
def rqh (h : Nat) (l : List Byte) : Req := { rq l with handle := h }
/-- A signed request, its signature fields zero. -/
def rqs (l : List Byte) : Req := { rq (l ++ zeros 128) with flags := 2 }
/-- A state in Lit with an open writer handle in slot 0. -/
def litH (c res : Nat) : State :=
  { lit with hdl := { Hdl.start with slots := [(0, { HSlot.d with isOpen := true, cls := c, res := res, writer := true })] } }
/-- The same with a reader. -/
def litR (c res : Nat) : State := (litH c res).updSlot 0 (fun e => { e with writer := false })
/-- The handle of slot 0 in class `c`. -/
def hnd (c : Nat) : Nat := c * 2 ^ 26
/-- A running cell worker at address 1. -/
def run : Wk := { Wk.d with mode := 1, addr := 1, lostA := false, lostB := false }
/-- A state with one worker, at ring 0 address 1. -/
def wks (k : Wk) : State := { lit with wks := [(1, k)] }
/-- A WRITE header of a SOLO manager. -/
def hd : WHdr := ⟨0, 0, 7, 1, 0⟩
/-- A worker as the manager knows it. -/
def seen : View := { View.d with here := true }
/-- The manager's view of the worker at ring 0 address 1. -/
def seeing (v : View) (s : State) : State := { s with flue := { s.flue with views := [(1, v)] } }
/-- A result of a cell worker and of a meter worker. -/
def cellRes (t : Nat) : ResultRec := ⟨t, 0, 0, 0, .cell ⟨[], 0, [], [], [], 0, 0⟩, ⟨0, 0, 0, 0, [], []⟩⟩
def meterR : MeterRec := ⟨0, 0, 0, 0, 0, 0, 0, 0, 0, 0, 0, 0, 0, 0, 0⟩
/-- Core 0 in its slice, with these registers. -/
def sk (l : Tbl TWord) : State := { put lit [(0x3802, 2)] with cores := [(0, { Core.d with slice := true, budget := 100, regs := l })] }
/-- An instruction's operand fields: gd, ga, gb and the rest. -/
def dab (d a b f : Nat) : BitVec 26 := BitVec.ofNat 26 (d * 2 ^ 22 + a * 2 ^ 18 + b * 2 ^ 14 + f)
/-- A tagged word. -/
def tw (t v : Nat) : TWord := BitVec.ofNat 36 (t * 2 ^ 32 + v)
/-- A turf and a slot of zeros. -/
def slot0 : AccSlot := ⟨0, 0, 0, 0, 0, 0, 0, 0, 0, true⟩
def turf0 : Turf := ⟨0, 0, 0, 0, 0, 0, 0, 0, 0, [], [], 0, 0, 0, 0, 0, 0, [], 0, 0, 0, 0, [], [], [], [], 0, []⟩
/-- A packet, a sample, a SYNC, a BEAT, a LEASE, what enumeration found. -/
def pkt : Pkt := ⟨0, 0, 0, 0, [1#8]⟩
def samp : WkSample := ⟨1, [], 0, 0, [], [], 0, [], [], false, false, false, false, []⟩
def msamp (mv : Nat) : MgrSample := ⟨mv, [], [], [], [], [], [], [], [], []⟩
def sync : SyncF := ⟨5, 2, 1, 1, 1, 0, 0⟩
def beat : BeatF := ⟨0, 2, 2, false, false, false, 0⟩
def lease (role op ep : Nat) : LeaseF := ⟨role, op, ep, 1, 63⟩
def found : RingFound := ⟨0, [7], true, 0, [], false, [none], [none], [0]⟩
/-- A manager of role A or B. -/
def twin (r : Nat) (p : Phase) : State := { ph p with sys := { (ph p).sys with fuseRead := BitVec.ofNat 2048 (r * 2 ^ 0x46C) } }
/-- An instance on ring 0 address 1. -/
def instS (i : Inst) : State := { put lit [(0x1800, 2 ^ 31 + 1), (0x1818, 2)] with insts := [(0, i)] }
/-- An instance whose mirror holds 5 J taken in. -/
def metered : Inst := { Inst.d with m0 := some { slot0 with eIn := 5000000 } }
/-- The CRC-32C of 92 zero bytes, in four parts. -/
theorem crc_zeros92 : crc32c (zeros 92) = 3962546664 := by
  have h1 : (zeros 23).foldl crcByte 0xFFFFFFFF#32 = 0xb8fc461a#32 := by decide +kernel
  have h2 : (zeros 23).foldl crcByte 0xb8fc461a#32 = 0x92197085#32 := by decide +kernel
  have h3 : (zeros 23).foldl crcByte 0x92197085#32 = 0xc4b3513d#32 := by decide +kernel
  have h4 : (zeros 23).foldl crcByte 0xc4b3513d#32 = 0x13d05617#32 := by decide +kernel
  have e : zeros 92 = zeros 23 ++ (zeros 23 ++ (zeros 23 ++ zeros 23)) := by decide
  rw [crc32c, e, List.foldl_append, List.foldl_append, List.foldl_append, h1, h2, h3, h4]; decide

/-- A whole group of SHARD_DATA words, its CRC right. -/
def shardWords : Tbl Nat := (List.range 24).map (fun i => (0x100 + i, if i < 23 then 0 else 3962546664))

theorem shardWords_good : snapGood (({ run with staged := shardWords } : Wk).stagedAt 0x100 24) = true := by
  have e : bytesOf ((({ run with staged := shardWords } : Wk).stagedAt 0x100 24).take 23) = zeros 92 := by decide +kernel
  rw [snapGood, e, crc_zeros92]; decide +kernel

/-- Records of which one field is out of range. -/
def badReq : Req := { rq [] with port := 4 }
def badHdr : WHdr := { hd with role := 3 }
def badSample : WkSample := { samp with w := 0 }
def badFound : RingFound := { found with ring := 4 }
def badSync : SyncF := { sync with tick := 2 ^ 48 }
def resF : ResultF := ⟨0, 0, 1, true, cellRes 5, 0⟩
def badResult : ResultF := { resF with addr := 0 }
def badBeat : BeatF := { beat with state := 4 }
def badRecon : ReconIn := ⟨8, false, 0, [], 0, []⟩
/-! An ill-formed term for each check of each command, and a well-formed term of every command. -/
theorem test_illFormed_0 : List.all [.railSenseGood 6 0, .railSenseLost 6 0, .ringEnumeration [badFound], .enumFromB badFound,
    .configLoad [⟨4, 1, 0, 0⟩], .releaseToLit [badRecon] [], .releaseToLit [] [⟨4, 1, 0, 0⟩], .collapse 2 false none, .collapse 0 false (some 8),
    .wake 6 0, .sampleInstant (msamp 58001) [], .sampleInstant (msamp 0) [badSample], .owHoldExpired 64 0,
    .owHoldExpired 1 25, .owRoutineTest 64, .flywheelSample badSample,
    .ownTimingStart 64, .workerLost 4 1, .workerLost 0 0, .workerLost 0 64, .stokerBudgetReached 4,
    .ethDatagram 2 0 0 [] false, .ethDatagram 0 (2 ^ 32) 0 [] false, .ethDatagram 0 0 65536 [] false, .canMessage 4 0 [] false false,
    .canMessage 0 (2 ^ 29) [] false false, .canMessage 0 (2 ^ 32) [] false false, .canIsotpTimeout 4 false, .twCommandWrite ⟨128, [], 0, 0⟩ false,
    .twCommandRead ⟨128, [], 0, 0⟩, .signatureVerified 4, .nop badReq, .ident badReq, .status badReq,
    .getParam badReq, .setParam badReq, .workerGetParam badReq, .workerSetParam badReq, .getBlock badReq,
    .setBlock badReq, .wdgPeriodWrite badReq, .evtStatClear badReq, .hsLatchClear badReq, .hbPosWrite badReq,
    .canAutorecWrite badReq, .partResetPartner badReq, .partResync badReq, .openHandle badReq,
    .closeHandle badReq, .bind badReq, .queryHandle badReq, .outSet badReq, .outPwm badReq, .valveFire badReq,
    .ledSet badReq, .hbMove badReq, .motorStart badReq, .motorStop badReq, .sweepRead badReq, .cellRead badReq,
    .balance badReq, .impStart badReq, .flareArm badReq, .flareRead badReq, .stationRead badReq,
    .ledgerRead badReq, .turfRead badReq, .turfAck badReq, .ledgerProvision badReq, .relight badReq,
    .challenge badReq]
    (fun i => !wellFormed i) = true := by decide +kernel
theorem test_illFormed_1 : List.all [.setTime badReq, .shardPair badReq, .eventRead badReq, .eventSubscribe badReq, .eventClear badReq,
    .stokerLoad badReq, .stokerRun badReq, .stokerHalt badReq, .stokerState badReq, .stokerStep badReq,
    .wdgAnswer badReq, .wdgQuestion badReq, .sleepRequest badReq, .wakeReason badReq, .configWriteErase badReq,
    .configWriteWrite badReq, .configWriteCommit badReq, .commitComplete [⟨4, 1, 0, 0⟩],
    .configWriteParam badReq, .configWriteFuse badReq, .clearDouse badReq, .douse badReq, .reset badReq,
    .syncFrame 64 hd sync, .syncFrame 1 hd badSync, .workerBankEntry 64, .enumAssignA 64 hd 0, .enumProbeB 1 badHdr 0, .enumAssignA 1 badHdr 0, .enumAssignB 1 badHdr 0 0,
    .syncFrame 1 badHdr sync, .leaseRenew 1 badHdr (lease 1 1 1), .leaseClaim 1 badHdr (lease 1 1 1),
    .leaseRelease 1 badHdr (lease 1 1 1), .enumAssignA 1 hd 256,
    .enumProbeB 64 hd 0, .enumProbeB 1 hd 256, .enumAssignB 64 hd 0 0, .enumAssignB 1 hd 256 0, .enumAssignB 1 hd 0 256,
    .enumCal 64 hd, .enumCal 1 badHdr, .leaseRenew 64 hd (lease 1 1 1), .leaseRenew 1 hd (lease 3 1 1),
    .leaseClaim 64 hd (lease 1 1 1), .leaseClaim 1 hd (lease 3 1 1), .leaseRelease 64 hd (lease 1 1 1),
    .leaseRelease 1 hd (lease 3 1 1), .readHeldResult 64 hd 0, .readHeldResult 1 badHdr 0, .readHeldResult 1 hd 256,
    .readParameter 64 hd 0, .readParameter 1 badHdr 0, .readParameter 1 hd 65536, .readFaultJournal 64 hd 0,
    .readFaultJournal 1 badHdr 0, .readFaultJournal 1 hd 65536, .readCaptureRecord 64 hd 0,
    .readCaptureRecord 1 badHdr 0, .readCaptureRecord 1 hd 65536, .writeParameter 64 hd 0 0,
    .writeParameter 1 badHdr 0 0, .writeParameter 1 hd 65536 0, .stationRefresh 64 hd 0,
    .stationRefresh 1 badHdr 0, .time 64 hd 0, .time 1 badHdr 0, .balMask 64 hd 0, .balMask 1 badHdr 0,
    .balRun 64 hd 0, .balRun 1 badHdr 0, .impData 64 hd 0 0, .impData 1 badHdr 0 0, .impData 1 hd 65536 0,
    .impStartCommand 64 hd 0, .impStartCommand 1 badHdr 0, .impStop 64 hd 0]
    (fun i => !wellFormed i) = true := by decide +kernel
theorem test_illFormed_2 : List.all [.impStop 1 badHdr 0, .impRestart 64 hd 0, .impRestart 1 badHdr 0, .flrMode 64 hd 0, .flrMode 1 badHdr 0,
    .flrTrig 64 hd 0 0, .flrTrig 1 badHdr 0 0, .flrTrig 1 hd 65536 0, .flrArm 64 hd 0, .flrArm 1 badHdr 0,
    .flrTick 64 hd 0, .flrTick 1 badHdr 0, .flrFire 64 hd 0, .flrFire 1 badHdr 0, .flrRelease 64 hd 0,
    .flrRelease 1 badHdr 0, .shardData 64 hd 0 0, .shardData 1 badHdr 0 0, .shardData 1 hd 65536 0,
    .shardCommit 64 hd 0, .shardCommit 1 badHdr 0, .slotData 64 hd 0 0, .slotData 1 badHdr 0 0,
    .slotData 1 hd 65536 0, .slotCommit 64 hd 0, .slotCommit 1 badHdr 0, .resultFrame badResult,
    .ackFrame 4 1 true 0 0 0 0, .ackFrame 0 0 true 0 0 0 0, .ackFrame 0 64 true 0 0 0 0, .ackFrame 0 1 true 256 0 0 0,
    .ackFrame 0 1 true 0 256 0 0, .ackFrame 0 1 true 0 0 65536 0, .streamFrame 4 1 true (.samples 0 []),
    .streamFrame 0 0 true (.samples 0 []), .streamFrame 0 64 true (.samples 0 []), .streamFrame 0 1 true (.samples 65536 []),
    .alarmFrame 4 0 1 true 0 0 0 0, .alarmFrame 0 2 1 true 0 0 0 0, .alarmFrame 0 0 0 true 0 0 0 0, .alarmFrame 0 0 64 true 0 0 0 0,
    .alarmFrame 0 0 1 true 256 0 0 0, .alarmFrame 0 0 1 true 0 256 0 0, .alarmFrame 0 0 1 true 0 0 65536 0,
    .alarmFrame 0 0 1 true 0 0 0 (2 ^ 48), .laneLoss 64 0, .laneLoss 1 2, .ringHeal badFound, .bankedCheck badSample,
    .emberRepeat 64 0, .emberRepeat 1 2, .workerPowerUp 64 false 0, .beatFrame badBeat, .partnerLinkLost 2,
    .ledgsyncFrame 256 0 (.time 0), .ledgsyncFrame 0 8 (.time 0), .relayFrame ⟨4, []⟩, .requestResetFrame 256,
    .requestResyncFrame 256 [], .partnerAckFrame 256 0 0, .partnerAckFrame 0 256 0, .partnerAckFrame 0 0 65536,
    .tickReunion (2 ^ 48) false, .pgReload 16 false, .hsLimiting 40, .hsOvercurrentTrip 40 0,
    .hsThermalTrip 40 0, .hsCooldownEnd 40, .hsRetriesClear 40, .followInputChange 16 0 0]
    (fun i => !wellFormed i) = true := by decide +kernel
theorem test_illFormed_3 : List.all [.contactorPullinEnd 8, .valveStart 24, .valvePeakReached 24, .valvePeakTimeout 24 0, .valveTurnOff 24,
    .valveLsOvercurrent 24 0, .valveBfOvercurrent 6 0, .hbRipple 8 0, .hbMoveEnd 8, .hbStall 8 0,
    .hbRippleTimeout 8 0, .hbOvercurrent 8 0, .hbBrakeEnd 8, .hbRevdeadEnd 8, .motorCatchEnd 4 0,
    .motorBackwardRelease 4 0, .motorBackwardTimeout 4 0, .motorBrakeEnd 4, .motorAlignEnd 4, .motorHandover 4 0,
    .motorHandoverTimeout 4 0, .motorTargetReached 4 0, .motorObserverLoss 4 0 0 0 0 0, .motorObserverLoss 0 2 0 0 0 0,
    .motorRecatch 4, .motorGateFault 4 2 0, .motorGateFault 0 1 0, .balanceEnd 64, .impPointStart 64,
    .impPointEnd 64 [], .flareTrigger 64 0 0 [] [], .flareTrigger 1 (2 ^ 48) 0 [] [], .flareComplete 64 [],
    .turfWrite 8, .switchWake 64 0 0, .keepaliveReceived 4 0 [], .keepaliveReceived 0 (2 ^ 32) [],
    .canBusOff 4 0, .canBusOffRecovery 4, .ethLinkChange 2 0, .ethLinkChange 0 3, .linSlot 2,
    .linSlotEnd 2 [] false, .twStatusWindow ⟨128, [], 0, 0⟩, .twEventWindow ⟨128, [], 0, 0⟩,
    .twLedgerWindow ⟨128, [], 0, 0⟩, .twSclTimeout 4 0, .twSdaTimeout 4 0, .ldk 4 0, .mov 4 0, .tagq 4 0,
    .retag 4 0, .add 4 0, .sub 4 0, .mul 4 0, .div 4 0, .scl 4 0, .cmp 4 0, .and 4 0, .or 4 0, .xor 4 0,
    .not 4 0, .shl 4 0, .shr 4 0, .min 4 0, .max 4 0, .abs 4 0, .ld 4 0, .st 4 0, .brt 4 0]
    (fun i => !wellFormed i) = true := by decide +kernel
theorem test_illFormed_4 : List.all [.brf 4 0, .jmp 4 0, .call 4 0, .ret 4 0, .hrd 4 0, .hwr 4 0, .hopen 4 0, .hclose 4 0, .evtLatchedRead 4 0,
    .evtClear 4 0, .evtSeverityRead 4 0, .wait 4 0, .tickrd 4 0, .ledgrd 4 0, .wdgaAnswer 4 0, .wdgaQuestion 4 0,
    .trap 4 0, .cvt 4 0, .satadd 4 0, .sel 4 0, .ldx 4 0, .stx 4 0, .orelse 4 0, .stkNop 4 0,
    .illegalOpcode 4 0x2B 0, .illegalOpcode 0 0x2A 0, .illegalOpcode 0 64 0, .stokerRestart 4,
    .partnerRingFrame 4 true (.sync sync), .partnerRingFrame 0 true (.sync badSync), .hsThermalRestart 40, .valveStop 24,
    .valveMinoffEnd 24, .motorRampDownEnd 4, .stationOutputTrip 64 0, .stationOutputTrip 1 4,
    .arpFrame 2 1 0 0 0, .arpFrame 0 3 0 0 0, .arpFrame 0 1 (2 ^ 48) 0 0, .arpFrame 0 1 0 (2 ^ 32) 0,
    .arpFrame 0 1 0 0 (2 ^ 32), .icmpEchoRequest 2 0 0 [], .icmpEchoRequest 0 (2 ^ 32) 0 [],
    .icmpEchoRequest 0 0 (2 ^ 32) [], .workerAlarmReceived 64 0 0 0 0 0 0 0, .workerAlarmReceived 1 2 0 0 0 0 0 0,
    .workerAlarmReceived 1 0 64 0 0 0 0 0, .workerAlarmReceived 1 0 0 256 0 0 0 0, .workerAlarmReceived 1 0 0 0 256 0 0 0,
    .workerAlarmReceived 1 0 0 0 0 256 0 0, .workerAlarmReceived 1 0 0 0 0 0 65536 0,
    .workerAlarmReceived 1 0 0 0 0 0 0 (2 ^ 48), .laneLock 64 0, .laneLock 1 2,
    .mramScrub ((some 64)) 0 0, .mramScrub none 0 3, .workerPowerLoss 64]
    (fun i => !wellFormed i) = true := by decide +kernel
theorem test_wellFormed_0 : List.all [.vbatPowerOn 0, .vbatBrownout, .fuseLoadDone 0 0, .railSenseGood 0 0, .railWindowExpired, .railSenseLost 0 0,
    .railRestEnd, .railRetryClear, .retryRails 0, .pllLock 0, .romBootDone, .ringEnumeration [], .enumFromB found,
    .configLoad [], .releaseToLit [] [], .extRefLockTimeout, .extRefLost, .hsUndervoltage, .hsUvRestart,
    .hsRestartStep, .ovCoastEntry 0, .ovCoastExit, .collapse 0 false none, .crystalStop false, .thermalReset, .pinReset 0,
    .endOfCommitReset, .sleepEntry, .wake 0 0, .rtcWakeTimer 0, .canwakeInput 0, .tickStart,
    .sampleInstant (msamp 0) [], .owHoldExpired 1 0, .owRoutineTest 1, .flywheelSample samp,
    .ownTimingStart 1, .gatherEnd 0, .workerLost 0 1, .stokerBudgetReached 0, .intentClose, .setInstant,
    .commitPhase, .litReentry, .spiFrame [] 0 false, .ethDatagram 0 0 0 [] false, .canMessage 0 0 [] false false, .canIsotpTimeout 0 false,
    .twCommandWrite ⟨0, [], 0, 0⟩ false, .twCommandRead ⟨0, [], 0, 0⟩, .signatureVerified 0, .nop (rq []),
    .ident (rq []), .status (rq []), .getParam (rq []), .setParam (rq []), .workerGetParam (rq []),
    .workerSetParam (rq []), .getBlock (rq []), .setBlock (rq []), .wdgPeriodWrite (rq []),
    .evtStatClear (rq []), .hsLatchClear (rq []), .hbPosWrite (rq []), .canAutorecWrite (rq []),
    .partResetPartner (rq []), .partResync (rq []), .openHandle (rq []), .closeHandle (rq []), .bind (rq [])]
    wellFormed = true := by decide +kernel
theorem test_wellFormed_1 : List.all [.queryHandle (rq []), .outSet (rq []), .outPwm (rq []), .valveFire (rq []), .ledSet (rq []), .hbMove (rq []),
    .motorStart (rq []), .motorStop (rq []), .sweepRead (rq []), .cellRead (rq []), .balance (rq []),
    .impStart (rq []), .flareArm (rq []), .flareRead (rq []), .stationRead (rq []), .ledgerRead (rq []),
    .turfRead (rq []), .turfAck (rq []), .ledgerProvision (rq []), .relight (rq []), .relightComplete false,
    .challenge (rq []), .setTime (rq []), .shardPair (rq []), .eventRead (rq []), .eventSubscribe (rq []),
    .eventClear (rq []), .stokerLoad (rq []), .stokerRun (rq []), .stokerHalt (rq []), .stokerState (rq []),
    .stokerStep (rq []), .wdgAnswer (rq []), .wdgQuestion (rq []), .sleepRequest (rq []), .wakeReason (rq []),
    .configWriteErase (rq []), .configWriteWrite (rq []), .configWriteCommit (rq []), .eraseComplete,
    .commitComplete [], .configWriteParam (rq []), .configWriteFuse (rq []), .clearDouse (rq []), .douse (rq []),
    .reset (rq []), .wdgEarlyWarning, .wdgPeriodExpired, .wdgResume, .syncFrame 1 hd sync, .workerBankEntry 1,
    .enumAssignA 1 hd 0, .enumProbeB 1 hd 0, .enumAssignB 1 hd 0 0, .enumCal 1 hd, .leaseRenew 1 hd (lease 1 1 1),
    .leaseClaim 1 hd (lease 1 1 1), .leaseRelease 1 hd (lease 1 1 1), .readHeldResult 1 hd 0, .readParameter 1 hd 0,
    .readFaultJournal 1 hd 0, .readCaptureRecord 1 hd 0, .writeParameter 1 hd 0 0, .stationRefresh 1 hd 0,
    .time 1 hd 0, .balMask 1 hd 0, .balRun 1 hd 0, .impData 1 hd 0 0, .impStartCommand 1 hd 0, .impStop 1 hd 0]
    wellFormed = true := by decide +kernel
theorem test_wellFormed_2 : List.all [.impRestart 1 hd 0, .flrMode 1 hd 0, .flrTrig 1 hd 0 0, .flrArm 1 hd 0, .flrTick 1 hd 0, .flrFire 1 hd 0,
    .flrRelease 1 hd 0, .shardData 1 hd 0 0, .shardCommit 1 hd 0, .slotData 1 hd 0 0, .slotCommit 1 hd 0,
    .resultFrame resF, .ackFrame 0 1 true 0 0 0 0, .streamFrame 0 1 true (.samples 0 []), .alarmFrame 0 0 1 true 0 0 0 0,
    .laneLoss 1 0, .ringHeal found, .bankedCheck samp, .emberRepeat 1 0, .workerPowerUp 1 false 0,
    .beatFrame beat, .partnerLinkLost 0, .partnerLinkUp, .ledgsyncFrame 0 0 (.time 0), .relayFrame ⟨0, []⟩,
    .requestResetFrame 0, .requestResyncFrame 0 [], .partnerAckFrame 0 0 0, .tickSourceTakeover,
    .tickReunion 0 false, .handbackRelease, .pgReload 0 false, .hsLimiting 0, .hsOvercurrentTrip 0 0,
    .hsThermalTrip 0 0, .hsCooldownEnd 0, .hsRetriesClear 0, .followInputChange 0 0 0, .contactorPullinEnd 0,
    .weldCheckEnd, .weldCheckTimeout, .valveStart 0, .valvePeakReached 0, .valvePeakTimeout 0 0, .valveTurnOff 0,
    .valveLsOvercurrent 0 0, .valveBfOvercurrent 0 0, .hbRipple 0 0, .hbMoveEnd 0, .hbStall 0 0,
    .hbRippleTimeout 0 0, .hbOvercurrent 0 0, .hbBrakeEnd 0, .hbRevdeadEnd 0, .motorCatchEnd 0 0,
    .motorBackwardRelease 0 0, .motorBackwardTimeout 0 0, .motorBrakeEnd 0, .motorAlignEnd 0, .motorHandover 0 0,
    .motorHandoverTimeout 0 0, .motorTargetReached 0 0, .motorObserverLoss 0 0 0 0 0 0, .motorRecatch 0,
    .motorGateFault 0 2 0, .balanceEnd 1, .impPointStart 1, .impPointEnd 1 [], .flareTrigger 1 0 0 [] [],
    .flareComplete 1 []]
    wellFormed = true := by decide +kernel
theorem test_wellFormed_3 : List.all [.turfPeriodEnd, .turfWrite 0, .shardPeriod, .meterTimeSend, .bankedPoll [] 0, .switchWake 0 0 0,
    .keepaliveSend, .keepaliveReceived 0 0 [], .sleepAgreed, .kaPrepareEnd, .maxAwakeReached, .canBusOff 0 0,
    .canBusOffRecovery 0, .tc10SleepRequest, .ethLinkChange 0 0, .linSlot 0, .linSlotEnd 0 [] false,
    .twStatusWindow ⟨0, [], 0, 0⟩, .twEventWindow ⟨0, [], 0, 0⟩, .twLedgerWindow ⟨0, [], 0, 0⟩,
    .twSclTimeout 0 0, .twSdaTimeout 0 0, .ldk 0 0, .mov 0 0, .tagq 0 0, .retag 0 0, .add 0 0, .sub 0 0,
    .mul 0 0, .div 0 0, .scl 0 0, .cmp 0 0, .and 0 0, .or 0 0, .xor 0 0, .not 0 0, .shl 0 0, .shr 0 0, .min 0 0,
    .max 0 0, .abs 0 0, .ld 0 0, .st 0 0, .brt 0 0, .brf 0 0, .jmp 0 0, .call 0 0, .ret 0 0, .hrd 0 0, .hwr 0 0,
    .hopen 0 0, .hclose 0 0, .evtLatchedRead 0 0, .evtClear 0 0, .evtSeverityRead 0 0, .wait 0 0, .tickrd 0 0,
    .ledgrd 0 0, .wdgaAnswer 0 0, .wdgaQuestion 0 0, .trap 0 0, .cvt 0 0, .satadd 0 0, .sel 0 0, .ldx 0 0,
    .stx 0 0, .orelse 0 0, .stkNop 0 0, .illegalOpcode 0 0x2B 0, .stokerRestart 0]
    wellFormed = true := by decide +kernel
theorem test_wellFormed_4 : List.all [.partnerRingFrame 0 true (.sync sync), .vbatSequencingThreshold 0, .thermalHoldEnd 0 0, .hsThermalRestart 0,
    .wdgWindowOpen, .valveStop 0, .valveMinoffEnd 0, .motorRampDownEnd 0, .stationOutputTrip 1 0, .napLockEnd,
    .arpFrame 0 1 0 0 0, .icmpEchoRequest 0 0 0 [], .workerAlarmReceived 1 0 0 0 0 0 0 0, .laneLock 1 0,
    .mramScrub none 0 0, .workerPowerLoss 1, .debuggerAttach false]
    wellFormed = true := by decide +kernel
/-- Each check of a shared record refuses. -/
theorem test_reqOk : [badReq, { rq [] with seq := 65536 }, { rq [] with flags := 256 }, { rq [] with rsv := 256 },
    { rq [] with handle := 2 ^ 32 }, rq (zeros 4097), { rq [] with crc := 2 ^ 32 }, { rq [] with tick := 2 ^ 32 }].all
    (fun r => !reqOk r) = true := by decide +kernel
theorem test_hdrOk : [badHdr, { hd with epoch := 65536 }, { hd with seq := 256 }, { hd with dest := 64 }, { hd with lane := 2 }].all (fun h => !hdrOk h) = true := by decide +kernel
theorem test_mgrOk : [msamp 58001, { msamp 0 with hsI := [(40, 0)] }, { msamp 0 with hsOl := [(40, 0)] },
    { msamp 0 with sw := [(64, 0)] }, { msamp 0 with lsI := [(24, 0)] }, { msamp 0 with hbI := [(8, 0)] },
    { msamp 0 with motRpm := [(4, 0)] }, { msamp 0 with ledT := [(8, 0)] }, { msamp 0 with dieT := [(3, 0)] },
    { msamp 0 with rail := [(6, 0)] }].all (fun m => !mgrOk m) = true := by decide +kernel
theorem test_sampleOk : [badSample, { samp with cells := List.replicate 25 0 }, { samp with ntc := List.replicate 9 0 }].all
    (fun x => !sampleOk x) = true := by decide +kernel
theorem test_foundOk : [badFound, { found with serials := List.replicate 64 0 }].all (fun f => !foundOk f) = true := by decide +kernel
theorem test_storedOk : [⟨4, 1, 0, 0⟩, ⟨0, 64, 0, 0⟩, ⟨0, 1, 65536, 0⟩, ⟨0, 1, 0, 2 ^ 32⟩].all (fun x => !storedOk x) = true := by
  decide +kernel
theorem test_syncOk : [badSync, { sync with period := 256 }, { sync with flags := 256 }, { sync with first := 256 },
    { sync with last := 256 }, { sync with fromEnd := 2 }].all (fun f => !syncOk f) = true := by decide +kernel
theorem test_leaseOk : [lease 3 1 1, lease 1 4 1, lease 1 1 65536, { lease 1 1 1 with first := 64 },
    { lease 1 1 1 with last := 64 }].all (fun f => !leaseOk f) = true := by decide +kernel
theorem test_resultOk : [badResult, { resF with ring := 4 }, { resF with fromEnd := 2 }, { resF with addr := 64 },
    { resF with body := cellRes (2 ^ 48) }].all (fun f => !resultOk f) = true := by decide +kernel
theorem test_beatOk : [badBeat, { beat with tick := 2 ^ 48 }, { beat with period := 256 }, { beat with cfgver := 2 ^ 32 }].all
    (fun f => !beatOk f) = true := by decide +kernel
theorem test_streamOk : [.samples 65536 [], .flare 65536 0 0 0 0 [], .flare 0 256 0 0 0 [], .flare 0 0 256 0 0 [],
    .flare 0 0 0 (2 ^ 48) 0 [], .impPoint 2048 0 0 0 0 0 0 [], .impPoint 0 16 0 0 0 0 0 [], .impPoint 0 0 256 0 0 0 0 [],
    .impPoint 0 0 0 256 0 0 0 [], .impPoint 0 0 0 0 0 (2 ^ 48) 0 []].all (fun b => !streamOk b) = true := by decide +kernel
theorem test_partnerOk : [.sync badSync, .lease (lease 3 1 1), .enum 64].all (fun f => !partnerOk f) = true := by decide +kernel

/-! ### Worked examples of the manual: one step each, the expected values taken from the manual's text. -/

/-- Whether a command answers a next state of which `p` holds. -/
def after (i : Instr) (s : State) (p : State → Bool) : Bool := match exec i s with | .next t => p t | _ => false

/-- A step on an empty queue idles. -/
theorem test_emptyQueue : step State.reset = .next State.reset := rfl
/-- A command above 58 V stops by name, in its turn of the queue. -/
theorem test_aboveRating : step { State.reset with pending := [.fuseLoadDone 58001 0] } = .fault .outsideRatings := rfl

/-- The check value of CRC-32C: the digits 1 to 9 (R161). -/
theorem test_crc32c : crc32c [0x31#8, 0x32#8, 0x33#8, 0x34#8, 0x35#8, 0x36#8, 0x37#8, 0x38#8, 0x39#8] = 0xE3069283 := by
  decide +kernel
/-- Chapter 5's handle: class HS, generation 3, slot 2. -/
theorem test_handleValue :
    ({ lit with hdl := { Hdl.start with base := 3, slots := [(2, { HSlot.d with isOpen := true, cls := 1 })] } }).handleOf 2 =
      0x04030002 := by decide +kernel
/-- Chapter 5's reply header, status OK in tick 7,200,000. -/
theorem test_replyHeader : (replyBytes 0x20 0x0132 0 7200000 []).take 12 =
    [0xF2#8, 0x20#8, 0x32#8, 0x01#8, 0#8, 0#8, 0#8, 0#8, 0x00#8, 0xDD#8, 0x6D#8, 0x00#8] := by decide +kernel
/-- Chapter 5's request for HS02, as SPI receives it: OUT_SET waits with its fields. -/
def outSetBytes : List Byte :=
  withCrc [0xF1#8, 0x20#8, 0x32#8, 0x01#8, 4#8, 0#8, 0#8, 0#8, 2#8, 0#8, 3#8, 4#8, 1#8, 0#8, 0#8, 0#8]
theorem test_requestHeader : after (.spiFrame outSetBytes 20 false) lit (fun t => match t.cmd.queue with
    | [e] => e.op == 0x20 && e.req.seq == 0x0132 && e.req.handle == 0x04030002 && e.req.payload == [1#8, 0#8, 0#8, 0#8]
    | _ => false) = true := by decide +kernel

/-- Chapter 7's questions and answers. -/
theorem test_watchdogQuestions : lfsr 0xACE1 = 0x5670 ∧ lfsr 0x5670 = 0xAB38 ∧ lfsr 0xAB38 = 0x559C := by decide
theorem test_watchdogAnswers : wdgAnswerTo 0x5670 0x3C5A = 0xBB06 ∧ wdgAnswerTo 0xAB38 0x3C5A = 0x020E := by decide
/-- EVT.SEV word 0 at reset: EV09 is DOUSE (chapter 19). -/
theorem test_severityOfEv09 : lit.pf 0x0604 18 2 = 3 := by decide +kernel

/-- Chapter 8's calibration: sixteen round trips of 244 ns make 90 ns, in units of 0.5 ns. -/
theorem test_hopDelay : hopDelay 0 (16 * 488) = 180 := by decide +kernel

/-- Chapter 9's open wire: 3.3100 and 3.2100 V at 1,000 Ω shift by 100.0 mV, which is OPEN. -/
theorem test_openWire : testShift 1000 3310000 3210000 = 100000 ∧ shiftVerdict 100000 = 3 ∧ testShift 1000 3308000 3212000 = 104000 := by
  decide
/-- Chapter 9's balance correction: 12 mΩ and 250 mA at cell 5 give +6.0 mV, and −3.0 mV beside it. -/
theorem test_balanceCorrection :
    (({ run with params := [(0x24, 12), (0x25, 12)] } : Wk).corrected 24 ((List.range 24).map (fun _ => 3294000))
      ((List.range 24).map (fun j => if j = 4 then 250 else 0))).take 7 =
        [3294000, 3294000, 3294000, 3291000, 3300000, 3291000, 3294000] := by decide +kernel

/-- Chapter 10's excitation rests on a sine: a quarter turn is 1, half a turn 0 and three quarters -1, scaled by 2^40. -/
theorem test_sine : (sinTurn 1 4 - 2 ^ 40).natAbs < 2 ^ 10 ∧ (sinTurn 1 2).natAbs < 2 ^ 10 ∧ (sinTurn 3 4 + 2 ^ 40).natAbs < 2 ^ 10 ∧
    (sinTurn 0 1).natAbs < 2 ^ 10 := by
  decide +kernel
/-- Chapter 14's brightness: half brightness under GAMMA22 is level 14,263. -/
theorem test_gamma22 : gamma22 32768 = 14263 := by decide +kernel
/-- Chapter 14's derating: 118.0 °C over a knee of 110 °C is 76 %. -/
theorem test_derate : pctOf (derate 1180 110) 0 = 76 := by decide +kernel
/-- Chapter 14's bank after its first request: LS00's window, then LS01's and LS02's planning in µs. -/
def bank : State :=
  { put lit [(0x2250, 2000), (0x2240, 8 * 2 ^ 8), (0x2242, 6 * 2 ^ 8)] with
    out := { lit.out with wins := [⟨0, 3000001100, 3000005100⟩] } }
theorem test_valveOverlap : (bank.vlvPlan 1 2 3000002100 0).status = 0x0400 := by decide +kernel
theorem test_valveMoved : bank.vlvPlan 2 2 3000003500 2000 = ⟨0, 3000005100, 0, 1600⟩ := by decide +kernel

/-- Chapter 18's words: LDK G4, INT, 0x10001; SHL G4, G4, 1; CMP G8, G4, G9, GT; JMP 0x02C. -/
theorem test_ldk : after (.ldk 0 (BitVec.ofNat 26 0x05050001)) (sk []) (fun t => t.reg 0 4 == tw 1 0x10001 && (t.core 0).pc == 1) = true := by
  decide +kernel
theorem test_shl : after (.shl 0 (BitVec.ofNat 26 0x3D100001)) (sk [(4, tw 1 0x10001)]) (fun t => t.reg 0 4 == tw 1 0x20002) = true := by
  decide +kernel
theorem test_cmp : after (.cmp 0 (BitVec.ofNat 26 0x2A124004)) (sk [(4, tw 0xA 30400), (9, tw 0xA 30000)])
    (fun t => t.reg 0 8 == tw 3 1) = true := by decide +kernel
theorem test_jmp : after (.jmp 0 (BitVec.ofNat 26 0x6000002C)) (sk []) (fun t => (t.core 0).pc == 0x2C && (t.core 0).cycles == 2) = true := by
  decide +kernel
/-- A POISON operand traps the comparison (chapter 18). -/
theorem test_poisonTraps : after (.cmp 0 (BitVec.ofNat 26 0x2A124004)) (sk [(4, wPoison), (9, tw 0xA 30000)])
    (fun t => t.stkState 0 != 2) = true := by decide +kernel

/-- Chapter 17's status read: address 0x48, pointer 0, four registers in Lit after a watchdog reset. -/
theorem test_statusWindow : after (.twStatusWindow ⟨0x48, [0#8], 4, 0⟩) (put lit [(0x0105, 4)])
    (fun t => t.net.twOut == [0xB9#8, 3#8, 4#8, 0#8]) = true := by decide +kernel

/-- Chapter 19's SWI.CFG[12] write in Lit: DEB changes, and THR, RWK, is refused with the word unchanged. -/
theorem test_paramRw : after (.setParam (rq [0x0C#8, 0x28#8, 0#8, 0#8, 0x89#8, 0#8, 5#8, 0x28#8])) (put lit [(0x280C, 0x28030089)])
    (fun t => t.p 0x280C == 0x28050089) = true := by decide +kernel
theorem test_paramRwk : after (.setParam (rq [0x0C#8, 0x28#8, 0#8, 0#8, 0x89#8, 0#8, 5#8, 0x3C#8])) (put lit [(0x280C, 0x28030089)])
    (fun t => t.p 0x280C == 0x28030089) = true := by decide +kernel

/-- The tick counter counts one a tick, the first after power-on being 0 (R49). -/
theorem test_tickCounts : ({ lit with island := { lit.island with count := 7199999, fresh := false } }).tickCount.tick = 7200000 ∧
    ({ lit with island := { lit.island with count := 0, fresh := true } }).tickCount.tick = 0 := by decide +kernel

/-! ### Witnesses: what meets the hypotheses of each statement, one conjunct per clause. -/

/-- What a rail fault in a tick leaves for a collapse that joins it. -/
def undo : RailUndo := ⟨0, 0, 1, 2, { Island.por with recs := [⟨56, detail [1#8], 0⟩] }, true, []⟩
/-- A manager with keep-alive and no local need. -/
def agreeing (n : Net) : State :=
  { put lit [(0x3000, 1), (0x3002, 0x1F420000), (0x3003, 1)] with net := { n with litUs := some (2 ^ 40) } }

theorem witness_StepRunsTheFrontCommand :
    (∃ (s : State) (c : Instr) (r : List Instr), s.pending = c :: r) ∧
    (∃ (s : State), s.pending = []) :=
  ⟨⟨{ lit with pending := [.tickStart] }, .tickStart, [], (by decide +kernel)⟩,
   ⟨lit, (by decide +kernel)⟩⟩

theorem witness_EveryStepLeavesNoDouseOutstanding :
    (∃ (s : State) (t : State), NoDouseDue s ∧ step s = .next t) :=
  ⟨lit, lit, (by unfold NoDouseDue; decide +kernel), rfl⟩

theorem witness_DouseEntryOpensContactors :
    (∃ (s : State), s.evt.douse = true) ∧
    (∃ (s : State), s.evt.douse = false ∧ (s.sys.phase = .kindling → s.sys.dousePend = false)) :=
  ⟨⟨{ lit with evt := { Evt.start with douse := true } }, (by decide +kernel)⟩,
   ⟨kin, (by decide +kernel)⟩⟩

theorem witness_PowerOnAndBrownout :
    (∃ (s : State) (mv : Nat), s.sys.phase = .cold ∧ mv ≤ 58000) ∧
    (∃ (s : State), s.sys.phase ≠ .cold) :=
  ⟨⟨ph .cold, 58000, (by decide +kernel)⟩,
   ⟨lit, (by decide +kernel)⟩⟩

theorem witness_FuseLoadAndSequencing :
    (∃ (s : State) (mv : Nat), s.sys.phase = .fuseLoad ∧ s.sys.rails = [] ∧ NoDouseDue s ∧ mv ≤ 58000) ∧
    (∃ (s : State), s.sys.phase = .sequencing ∧ s.sys.rails = [] ∧ NoDouseDue s) ∧
    (∃ (s : State) (mv : Nat), s.sys.phase = .sequencing ∧ s.sys.rails = [] ∧ NoDouseDue s ∧ mv ≤ 58000) ∧
    (∃ (s : State) (r : Nat) (l : List Nat), s.sys.phase = .sequencing ∧ s.sys.rails = r :: l ∧ s.sys.step < 5 ∧
      NoDouseDue s) ∧
    (∃ (s : State) (r : Nat) (l : List Nat), s.sys.phase = .sequencing ∧ s.sys.rails = r :: l ∧ s.sys.step = 5) :=
  ⟨⟨State.reset, 58000, (by unfold NoDouseDue; decide +kernel)⟩,
   ⟨{ State.reset with sys := { Sys.start with phase := .sequencing, rails := [], step := 0 } },
     (by unfold NoDouseDue; decide +kernel)⟩,
   ⟨{ State.reset with sys := { Sys.start with phase := .sequencing, rails := [], step := 0 } }, 5999,
     (by unfold NoDouseDue; decide +kernel)⟩,
   ⟨{ State.reset with sys := { Sys.start with phase := .sequencing, rails := [1], step := 4 } }, 1, [],
     (by unfold NoDouseDue; decide +kernel)⟩,
   ⟨{ State.reset with sys := { Sys.start with phase := .sequencing, rails := [5], step := 5 } }, 5, [],
     (by decide +kernel)⟩⟩

theorem witness_RailFaultsRestRetryAndHold :
    (∃ (s : State) (r : Nat) (l : List Nat), s.sys.phase = .sequencing ∧ s.sys.rails = r :: l) ∧
    (∃ (s : State) (rail : Nat) (mv : Nat), s.sys.phase = .lit ∧ 1 ≤ rail ∧ rail < 6 ∧ 4800 < mv ∧ mv ≤ 58000) ∧
    (∃ (s : State), s.sys.phase = .rest) ∧
    (∃ (s : State), s.awake = true ∧ s.sys.railClock = true) ∧
    (∃ (s : State), s.sys.phase = .coldHold) :=
  ⟨⟨{ State.reset with sys := { Sys.start with phase := .sequencing, rails := [1], step := 1 } }, 1, [],
     (by decide +kernel)⟩,
   ⟨lit, 1, 4801, (by decide +kernel)⟩,
   ⟨ph .rest, (by decide +kernel)⟩,
   ⟨{ lit with sys := { lit.sys with railClock := true } }, (by decide +kernel)⟩,
   ⟨ph .coldHold, (by decide +kernel)⟩⟩

theorem witness_ResetsRecordTheirCause :
    (∃ (s : State), (s.awake = true ∨ s.sys.phase = .sequencing)) ∧
    (∃ (s : State) (us : Nat), s.sys.phase ≠ .cold ∧ 10 ≤ us) ∧
    (∃ (us : Nat), us ≤ 2) ∧
    (∃ (s : State) (us : Nat), s.sys.phase ≠ .cold ∧ 2 < us ∧ us < 10) ∧
    (∃ (s : State) (c : Nat), s.sys.resetDue = [c] ∧ c < 32) ∧
    (∃ (s : State), s.sys.resetDue = []) :=
  ⟨⟨lit, (by decide +kernel)⟩,
   ⟨lit, 10, (by decide +kernel)⟩,
   ⟨2, (by decide +kernel)⟩,
   ⟨lit, 3, (by decide +kernel)⟩,
   ⟨{ lit with sys := { lit.sys with resetDue := [6] } }, 6, (by decide +kernel)⟩,
   ⟨lit, (by decide +kernel)⟩⟩

theorem witness_CollapsesAreCountedAndRecorded :
    (∃ (s : State) (cause : Nat) (joint : Bool), s.sys.phase ≠ .cold ∧ s.crystalReset = false ∧ (joint = false ∨
      s.sys.fault = none) ∧ (cause = 0 ∨ (cause = 1 ∧ s.awake = true))) ∧
    (∃ (s : State) (cause : Nat) (u : RailUndo), s.sys.phase ≠ .cold ∧ s.crystalReset = false ∧ s.sys.fault = some
      u ∧ cause < 2) ∧
    (∃ (s : State) (n : Nat) (a : AccSlot), n < 8 ∧ s.awake = true ∧ s.sys.tph = 6 ∧ (s.inst n).mirTick = some
      s.tick ∧ newerSlot (s.inst n).m0 (s.inst n).m1 = some a) ∧
    (∃ (s : State) (cause : Nat), s.crystalReset = true ∧ cause < 2 ∧ s.evt.douse = false) ∧
    (∃ (s : State) (joint : Bool), s.awake = true ∧ (joint = false ∨ s.sys.fault = none)) ∧
    (∃ (s : State) (u : RailUndo), s.sys.phase ≠ .cold ∧ s.sys.fault = some u ∧ u.ticking = true) ∧
    (∃ (s : State) (mv : Nat), s.awake = true ∧ mv ≤ 58000) :=
  ⟨⟨ph .coldHold, 0, true, (by decide +kernel)⟩,
   ⟨{ ph .rest with sys := { (ph .rest).sys with fault := some undo } }, 1, undo, (by decide +kernel)⟩,
   ⟨{ instS { Inst.d with m0 := some slot0, mirTick := some 0 } with sys := { lit.sys with tph := 6 } }, 0, slot0,
     (by decide +kernel)⟩,
   ⟨{ State.reset with island := { Island.por with recs := [⟨56, detail [2#8], 0⟩] } }, 1, (by decide +kernel)⟩,
   ⟨lit, true, (by decide +kernel)⟩,
   ⟨{ ph .rest with sys := { (ph .rest).sys with fault := some undo } }, undo, (by decide +kernel)⟩,
   ⟨lit, 58000, (by decide +kernel)⟩⟩

theorem witness_KindlingBringUp :
    (∃ (s : State), s.sys.phase = .kindling ∧ s.sys.pll = false ∧ (s.role = 2 ∧ s.pf 0x0206 0 2 = 0)) ∧
    (∃ (s : State), s.sys.phase = .kindling ∧ s.sys.pll = false ∧ ¬(s.role = 2 ∧ s.pf 0x0206 0 2 = 0)) ∧
    (∃ (s : State), s.sys.phase = .kindling ∧ s.sys.rom = false) :=
  ⟨⟨{ twin 2 .kindling with sys := { (twin 2 .kindling).sys with pll := false } }, (by decide +kernel)⟩,
   ⟨{ kin with sys := { kin.sys with pll := false } }, (by decide +kernel)⟩,
   ⟨{ kin with sys := { kin.sys with rom := false } }, (by decide +kernel)⟩⟩

theorem witness_EnumerationHoldsTheWorkers :
    (∃ (s : State) (f : RingFound), s.sys.phase = .kindling ∧ s.sys.rom = true ∧ s.role ≠ 2 ∧ s.pb 0x1905 1 = false
      ∧ s.ringOn f.ring = true ∧ (s.ring f.ring).cal = 0 ∧ f.closed = true ∧ f.overflow = false ∧ f.serials.length
      ≤ 63) ∧
    (∃ (s : State) (f : RingFound), s.sys.phase = .kindling ∧ s.sys.rom = true ∧ s.role = 2 ∧ s.linkUp = false ∧
      s.ringOn f.ring = true ∧ (s.ring f.ring).cal = 0 ∧ (s.ring f.ring).far = none ∧ f.overflow = false ∧
      f.serials.length ≤ 63) ∧
    (∃ (s : State) (f : RingFound), s.sys.phase = .kindling ∧ s.sys.rom = true ∧ s.role = 2 ∧ s.linkUp = true ∧
      f.ring < 4 ∧ s.ringOn f.ring = true ∧ (s.ring f.ring).cal = 0 ∧ (s.ring f.ring).far = none ∧ (s.ring
      f.ring).joined = false) :=
  ⟨⟨kin, found, (by decide +kernel)⟩,
   ⟨twin 2 .kindling, found, (by decide +kernel)⟩,
   ⟨put (twin 2 .kindling) [(0x1905, 1)], { found with ring := 3 }, (by decide +kernel)⟩⟩

theorem witness_ConfigurationLoads :
    (∃ (s : State), s.sys.phase = .kindling ∧ s.sys.rom = true ∧ s.ringsFound = true ∧ s.sys.loaded = false ∧
      s.sys.warm = false ∧ ((atLoad s).checkSlot 0).1 ≠ 0 ∧ (((atLoad s).checkSlot 0).2.checkSlot 1).1 ≠ 0) ∧
    (∃ (s : State) (c : ShCopy), s.ticking = true ∧ s.sys.copying = some c) ∧
    (∃ (s : State) (c : ShCopy) (us : Nat), s.sys.phase ≠ .cold ∧ 10 ≤ us ∧ s.sys.copying = some c) ∧
    (∃ (s : State), s.sys.phase = .kindling ∧ s.sys.rom = true ∧ s.ringsFound = true ∧ s.sys.loaded = false ∧
      s.sys.warm = true ∧ (atLoad s).checkHalf 0 ≠ 0 ∧ (atLoad s).checkHalf 1 ≠ 0) :=
  ⟨⟨put kin [(0x1000, 0)], (by decide +kernel)⟩,
   ⟨{ lit with sys := { lit.sys with copying := some ⟨1, 0, [7#8]⟩ } }, ⟨1, 0, [7#8]⟩, (by decide +kernel)⟩,
   ⟨{ lit with sys := { lit.sys with copying := some ⟨0, 1, [7#8]⟩ } }, ⟨0, 1, [7#8]⟩, 10, (by decide +kernel)⟩,
   ⟨{ put kin [(0x1000, 0)] with sys := { kin.sys with warm := true } }, (by decide +kernel)⟩⟩

theorem witness_ReleaseEntersLitOrDoused :
    (∃ (s : State), s.mayRelease = true) ∧
    (∃ (s : State), s.ticking = true ∧ s.sys.phase = .kindling ∧ s.sys.releaseDue = true ∧ s.reconReady = false) ∧
    (∃ (s : State), s.ticking = true ∧ s.sys.phase = .kindling ∧ s.sys.releaseDue = true ∧ s.reconReady = true ∧
      (s.sys.dousePend = true ∨ (s.sys.warm = true ∧ s.nvm.bankedDoused = true))) :=
  ⟨⟨{ put kin [(0x0106, 0)] with sys := { kin.sys with image := some default, enumDone := true } },
     (by decide +kernel)⟩,
   ⟨{ put kin [(0x1800, 2 ^ 31), (0x1818, 1)] with sys := { kin.sys with releaseDue := true } },
     (by decide +kernel)⟩,
   ⟨{ put kin [(0x1800, 2 ^ 31), (0x1818, 2)] with sys := { kin.sys with releaseDue := true, dousePend := true } },
     (by decide +kernel)⟩⟩

theorem witness_UndervoltageAndStagedRestart :
    (∃ (s : State), s.awake = true ∧ s.uvOn = false) ∧
    (∃ (s : State), s.awake = true ∧ s.uvOn = true) ∧
    (∃ (s : State), s.awake = true ∧ s.pb 0x0300 17 = true ∧ s.sys.uvStep = 2) ∧
    (∃ (s : State), s.awake = true ∧ s.pb 0x0300 17 = true ∧ s.sys.uvStep = 3) ∧
    (∃ (s : State), s.awake = true ∧ s.pb 0x0300 17 = true ∧ s.sys.uvStep = 4) :=
  ⟨⟨lit, (by decide +kernel)⟩,
   ⟨put lit [(0x0300, 2 ^ 16)], (by decide +kernel)⟩,
   ⟨{ put lit [(0x0300, 2 ^ 17)] with sys := { lit.sys with uvStep := 2 } }, (by decide +kernel)⟩,
   ⟨{ put lit [(0x0300, 2 ^ 17)] with sys := { lit.sys with uvStep := 3 } }, (by decide +kernel)⟩,
   ⟨{ put lit [(0x0300, 2 ^ 17)] with sys := { lit.sys with uvStep := 4 } }, (by decide +kernel)⟩⟩

theorem witness_OvervoltageCoastAndExternalReference :
    (∃ (s : State) (mv : Nat), s.awake = true ∧ s.ovOn = false ∧ mv ≤ 58000) ∧
    (∃ (s : State), s.ovOn = true) ∧
    (∃ (s : State), s.full = true ∧ s.pb 0x0102 0 = true) ∧
    (∃ (s : State), s.full = true ∧ s.pb 0x0102 0 = true) :=
  ⟨⟨lit, 58000, (by decide +kernel)⟩,
   ⟨put lit [(0x0300, 2 ^ 18)], (by decide +kernel)⟩,
   ⟨put lit [(0x0102, 1)], (by decide +kernel)⟩,
   ⟨put lit [(0x0102, 1)], (by decide +kernel)⟩⟩

theorem witness_BankedAndWaking :
    (∃ (s : State), s.full = true ∧ s.sys.sleeping ≠ 0) ∧
    (∃ (s : State) (src : Nat), s.sys.phase = .banked ∧ src < 6 ∧ src ≠ 4 ∧ s.pb 0x0303 src = true) ∧
    (∃ (s : State) (src : Nat), s.sys.phase = .banked ∧ s.pb 0x0303 src = false ∧ src < 6 ∧ src ≠ 4) ∧
    (∃ (s : State) (src : Nat), s.awake = true ∧ s.sys.sleeping ≠ 0 ∧ src < 6 ∧ src ≠ 4 ∧ s.pb 0x0303 src = true) ∧
    (∃ (s : State) (src : Nat), (s.sys.phase = .fuseLoad ∨ s.sys.phase = .sequencing ∨ s.sys.phase = .rest) ∧ src <
      6 ∧ src ≠ 4 ∧ s.pb 0x0303 src = true) ∧
    (∃ (s : State) (dt : Nat), s.sys.phase = .banked ∧ s.pb 0x0303 4 = true ∧ s.island.rtcRun = true ∧ s.p 0x0305 ≠
      0 ∧ s.p 0x0305 ≤ s.island.bankedS + dt) ∧
    (∃ (s : State) (dt : Nat), s.awake = false ∧ s.sys.phase ≠ .cold ∧ (s.island.rtcRun = false ∨ s.p 0x0305 = 0 ∨
      s.island.bankedS + dt < s.p 0x0305)) ∧
    (∃ (s : State) (dt : Nat), s.sys.phase = .banked ∧ s.pb 0x0303 1 = true ∧ s.island.napS ≤ dt) ∧
    (∃ (s : State) (dt : Nat), (s.sys.phase = .banked ∨ s.sys.phase = .coldHold) ∧ dt < s.island.napS ∧ s.sys.phase
      = .banked) ∧
    (∃ (s : State) (dt : Nat), (s.sys.phase = .banked ∨ s.sys.phase = .coldHold) ∧ dt < s.island.napS ∧ s.sys.phase
      = .coldHold) ∧
    (∃ (s : State) (dt : Nat), s.sys.phase = .coldHold ∧ s.island.napS ≤ dt) ∧
    (∃ (s : State) (n : Nat) (mv : Int), s.sys.phase = .banked ∧ s.pb 0x0303 0 = true ∧ n < 64 ∧ n ∈
      s.island.wakeMask ∧ s.swCont n = true ∧ s.swRead n mv (s.island.raws.contains n) ≠ s.wakeRef n) ∧
    (∃ (s : State) (n : Nat) (mv : Int), s.sys.phase = .banked ∧ s.pb 0x0303 0 = true ∧ n < 64 ∧ s.island.wakeMask
      = [n] ∧ s.swCont n = false ∧ s.swRead n mv (s.island.raws.contains n) ≠ s.wakeRef n ∧ Tbl.get 0
      s.island.polls n + 1 < s.pf 0x2840 9 3) ∧
    (∃ (s : State) (n : Nat) (mv : Int), s.sys.phase = .banked ∧ s.pb 0x0303 0 = true ∧ n < 64 ∧ s.island.wakeMask
      = [n] ∧ s.swCont n = false ∧ s.swRead n mv (s.island.raws.contains n) ≠ s.wakeRef n ∧ s.pf 0x2840 9 3 ≤
      Tbl.get 0 s.island.polls n + 1) :=
  ⟨⟨{ lit with sys := { lit.sys with sleeping := 1 } }, (by decide +kernel)⟩,
   ⟨put (ph .banked) [(0x0303, 32)], 5, (by decide +kernel)⟩,
   ⟨put (ph .banked) [(0x0303, 0)], 5, (by decide +kernel)⟩,
   ⟨put { lit with sys := { lit.sys with sleeping := 1 } } [(0x0303, 32)], 5, (by decide +kernel)⟩,
   ⟨put (ph .rest) [(0x0303, 32)], 5, (by decide +kernel)⟩,
   ⟨put { ph .banked with island := { Island.por with rtcRun := true } } [(0x0303, 16), (0x0305, 86400)], 86400,
     (by decide +kernel)⟩,
   ⟨put { ph .banked with island := { Island.por with rtcRun := true } } [(0x0303, 16), (0x0305, 86400)], 86399,
     (by decide +kernel)⟩,
   ⟨put ({ ph .banked with island := { Island.por with napS := 5 } }) [(0x0303, 2)], 5, (by decide +kernel)⟩,
   ⟨{ ph .banked with island := { Island.por with napS := 5 } }, 4, (by decide +kernel)⟩,
   ⟨{ ph .coldHold with island := { Island.por with napS := 5 } }, 4, (by decide +kernel)⟩,
   ⟨{ ph .coldHold with island := { Island.por with napS := 5 } }, 5, (by decide +kernel)⟩,
   ⟨{ put (ph .banked) [(0x0303, 1), (0x2800, 0x2803000A)] with island := { Island.por with wakeMask := [0] } }, 0,
     4001, (by decide +kernel)⟩,
   ⟨{ put (ph .banked) [(0x0303, 1), (0x2800, 0x28030009)] with island := { Island.por with wakeMask := [0] } }, 0,
     4001, (by decide +kernel)⟩,
   ⟨{ put (ph .banked) [(0x0303, 1), (0x2800, 0x28030009)] with island := { Island.por with wakeMask := [0], polls
     := [(0, 1)] } }, 0, 4001, (by decide +kernel)⟩⟩

theorem witness_TickPhasesFollow :
    (∃ (s : State), s.ticking = true ∧ s.part.follow = none ∧ s.sys.releaseDue = false ∧ (∀ q ∈ s.cmd.queue,
      q.verif ≠ 1)) ∧
    (∃ (s : State) (m : MgrSample), s.ticking = true ∧ m.vbat ≤ 58000) ∧
    (∃ (s : State), s.ticking = true) ∧
    (∃ (s : State), s.ticking = true) ∧
    (∃ (s : State), s.ticking = true) ∧
    (∃ (s : State), s.ticking = true) :=
  ⟨⟨lit, (by decide +kernel)⟩,
   ⟨lit, msamp 58000, (by decide +kernel)⟩,
   ⟨lit, (by decide +kernel)⟩,
   ⟨lit, (by decide +kernel)⟩,
   ⟨lit, (by decide +kernel)⟩,
   ⟨lit, (by decide +kernel)⟩⟩

theorem witness_DueRequestsRunInOrder :
    (∃ (s : State) (q : QItem) (l : List QItem) (r : List QItem), s.cmd.queue = l ++ q :: r ∧ (∀ x ∈ l, x.due =
      false) ∧ q.due = true ∧ q.op ≠ 0x7F) ∧
    (∃ (s : State), (∀ x ∈ s.cmd.queue, x.due = false)) :=
  ⟨⟨{ lit with cmd := { Cmd.start with queue := [⟨0, rq [], false, 0, 0, false, false, none⟩, ⟨0, rq [], true, 0,
     0, false, false, none⟩] } }, ⟨0, rq [], true, 0, 0, false, false, none⟩, [⟨0, rq [], false, 0, 0, false,
     false, none⟩], [], (by decide +kernel)⟩,
   ⟨lit, (by decide +kernel)⟩⟩

theorem witness_ReceiptQueuesARequest :
    (∃ (s : State) (p : Nat) (op : Nat) (seq : Nat) (flags : Nat) (handle : Nat) (l : List Byte), op < 256 ∧ seq <
      65536 ∧ flags < 256 ∧ handle < 2 ^ 32 ∧ l.length ≤ 4096 ∧ (s.port p).last.find? (fun e => e.1 == seq && e.2.1
      == leAt (requestBytes op seq flags handle l) (12 + l.length) 4) = none ∧ (s.cmd.queue.filter (fun q =>
      q.req.port == p)).length < 64) ∧
    (∃ (s : State) (p : Nat) (op : Nat) (seq : Nat) (flags : Nat) (handle : Nat) (l : List Byte), op < 256 ∧ seq <
      65536 ∧ flags < 256 ∧ handle < 2 ^ 32 ∧ l.length ≤ 4096 ∧ (s.port p).last.find? (fun e => e.1 == seq && e.2.1
      == leAt (requestBytes op seq flags handle l) (12 + l.length) 4) = none ∧ 64 ≤ (s.cmd.queue.filter (fun q =>
      q.req.port == p)).length) ∧
    (∃ (l : List Byte), (l.length < 4 ∨ leAt l 0 1 ≠ 0xF1)) ∧
    (∃ (n : Nat) (l : List Byte), leAt l 0 1 = 0xF1 ∧ leAt l 4 2 = n ∧ n ≤ 4096 ∧ l.length = 16 + n ∧ crc32c
      (l.take (12 + n)) ≠ leAt l (12 + n) 4) ∧
    (∃ (op : Nat), op ≠ 0x70) ∧
    (∃ (s : State) (q : QItem) (l : List QItem), (∀ x ∈ l, x.cycle ≠ q.cycle ∨ x.due = true ∨ s.rankOf x.req.port ≤
      s.rankOf q.req.port)) ∧
    (∃ (s : State) (q : QItem) (x : QItem) (l : List QItem), (∀ y ∈ l, y.cycle ≠ q.cycle ∨ y.due = true ∨ s.rankOf
      y.req.port ≤ s.rankOf q.req.port) ∧ x.cycle = q.cycle ∧ x.due = false ∧ s.rankOf q.req.port < s.rankOf
      x.req.port) :=
  ⟨⟨lit, 3, 255, 65535, 255, 2 ^ 32 - 1, [1#8], (by decide +kernel)⟩,
   ⟨{ lit with cmd := { Cmd.start with queue := List.replicate 64 ⟨0, rq [], false, 0, 0, false, false, none⟩ } },
     0, 0, 0, 0, 0, [], (by decide +kernel)⟩,
   ⟨[0xF1#8, 0#8, 0#8], (by decide +kernel)⟩,
   ⟨0, [0xF1#8] ++ zeros 15, (by decide +kernel)⟩,
   ⟨0, (by decide +kernel)⟩,
   ⟨lit, ⟨0, rq [], false, 0, 1, false, false, none⟩, [⟨0, rq [], false, 0, 1, false, false, none⟩],
     (by decide +kernel)⟩,
   ⟨lit, ⟨0, rq [], false, 0, 1, false, false, none⟩, ⟨0, { rq [] with port := 3 }, false, 0, 1, false, false,
     none⟩, [], (by decide +kernel)⟩⟩

theorem witness_PortsReceiveAndReply :
    (∃ (s : State) (op : Nat) (r : Req) (status : Nat), (s.port r.port).slots = [] ∧ outputOp op = false ∧ (r.port
      = 0 ∨ r.port = 3) ∧ (s.port r.port).out.length < 64 ∧ (bit r.flags 0 = false ∨ 0x100 ≤ status) ∧ status ≠
      0x0303) ∧
    (∃ (s : State) (op : Nat) (r : Req) (status : Nat), (s.port r.port).slots = [] ∧ outputOp op = false ∧ bit
      r.flags 0 = true ∧ status < 0x100) ∧
    (∃ (s : State) (op : Nat) (r : Req), (s.port r.port).slots = [] ∧ outputOp op = true) ∧
    (∃ (s : State) (r : Req) (x : RSlot) (l : List RSlot), (s.port r.port).slots = x :: l ∧ x.wait.isSome = true) ∧
    (∃ (s : State) (p : Nat), 64 ≤ (s.port p).out.length) ∧
    (∃ (s : State) (k : Pkt), (s.port 1).out = [] ∧ s.ethUp k.iface = true ∧ s.pb (0x3018 + 8 * k.iface) 0 = true ∧
      (Tbl.find s.net.arp (s.nextHop k.iface k.ip)).isSome = true) ∧
    (∃ (s : State), (s.port 2).out = [] ∧ s.canRuns = true ∧ s.net.canTx = none) ∧
    (∃ (s : State) (n : Nat) (k : Pkt) (l : List Pkt), s.portServes 0 = true ∧ (s.port 0).out = k :: l ∧
      k.bytes.length ≤ n) ∧
    (∃ (s : State) (b : Byte), s.portServes 0 = true ∧ (s.port 0).out = [] ∧ b ≠ 0#8) ∧
    (∃ (s : State) (op : Nat) (seq : Nat) (flags : Nat) (handle : Nat) (l : List Byte), s.portServes 0 = true ∧
      NewRequest s 0 op seq flags handle l) ∧
    (∃ (s : State) (iface : Nat) (data : List Byte), iface < 2 ∧ s.portServes 1 = true ∧ s.pb (0x3018 + 8 * iface)
      0 = true ∧ data.length ≤ 4112) ∧
    (∃ (s : State) (iface : Nat) (op : Nat) (seq : Nat) (flags : Nat) (handle : Nat) (l : List Byte), iface < 2 ∧
      s.portServes 1 = true ∧ s.pb (0x3018 + 8 * iface) 0 = true ∧ NewRequest s 1 op seq flags handle l) ∧
    (∃ (s : State) (ident : Nat), s.portServes 2 = true ∧ s.pb (0x3010 + 2 * s.pf 0x0402 0 2) 0 = true ∧ canIdent
      ident = canIdent (s.p 0x0403) ∧ s.net.canRx = []) ∧
    (∃ (s : State) (op : Nat) (seq : Nat) (flags : Nat) (handle : Nat) (l : List Byte) (data : List Byte),
      s.portServes 2 = true ∧ s.pb (0x3010 + 2 * s.pf 0x0402 0 2) 0 = true ∧ s.net.canRx ++ data = requestBytes op
      seq flags handle l ∧ NewRequest s 2 op seq flags handle l) ∧
    (∃ (s : State), s.portServes 2 = true ∧ s.pb (0x3010 + 2 * s.pf 0x0402 0 2) 0 = true) ∧
    (∃ (s : State) (c : Nat), c = s.pf 0x0402 0 2) ∧
    (∃ (s : State) (c : Nat), c ≠ s.pf 0x0402 0 2) ∧
    (∃ (s : State) (x : TwXfer), s.sys.phase ≠ .cold ∧ s.twWindow x.addr = some 3 ∧ s.twOpen = true ∧ 10 ≤ x.gap ∧
      x.wr ≠ [] ∧ x.wr.length ≤ 4112 ∧ s.portServes 3 = true) ∧
    (∃ (s : State) (x : TwXfer) (op : Nat) (seq : Nat) (flags : Nat) (handle : Nat) (l : List Byte), s.sys.phase ≠
      .cold ∧ s.twWindow x.addr = some 3 ∧ s.twOpen = true ∧ 10 ≤ x.gap ∧ x.wr = requestBytes op seq flags handle l
      ∧ s.portServes 3 = true ∧ NewRequest s 3 op seq flags handle l) ∧
    (∃ (s : State) (x : TwXfer) (k : Pkt) (l : List Pkt), s.sys.phase ≠ .cold ∧ s.twWindow x.addr = some 3 ∧
      s.twOpen = true ∧ (s.port 3).out = k :: l ∧ k.bytes.length ≤ x.rd) ∧
    (∃ (s : State) (p : Nat) (l : List QItem) (r : List QItem) (q : QItem), s.cmd.queue = l ++ q :: r ∧ q.req.port
      = p ∧ q.verif = 1 ∧ (∀ x ∈ l, ¬(x.req.port = p ∧ x.verif = 1))) :=
  ⟨⟨lit, 0, rq [], 0, (by decide +kernel)⟩,
   ⟨lit, 0, { rq [] with flags := 1 }, 0xFF, (by decide +kernel)⟩,
   ⟨lit, 0x26, rq [], (by decide +kernel)⟩,
   ⟨lit.updPort 0 (fun p => { p with slots := [⟨0, 0, 0, false, 0, 0, [], 0, 0, 0, some ⟨0, 0, 0, 0⟩⟩] }), rq [],
     ⟨0, 0, 0, false, 0, 0, [], 0, 0, 0, some ⟨0, 0, 0, 0⟩⟩, [], (by decide +kernel)⟩,
   ⟨lit.updPort 0 (fun p => { p with out := List.replicate 64 pkt }), 0, (by decide +kernel)⟩,
   ⟨{ put lit [(0x3018, 1), (0x3019, 1)] with net := { Net.start with arp := [(0, 5)] } }, pkt,
     (by decide +kernel)⟩,
   ⟨put lit [(0x3010, 1)], (by decide +kernel)⟩,
   ⟨lit.updPort 0 (fun p => { p with out := [pkt] }), 1, pkt, [], (by decide +kernel)⟩,
   ⟨lit, 1#8, (by decide +kernel)⟩,
   ⟨lit, 255, 65535, 255, 2 ^ 32 - 1, [1#8], (by decide +kernel)⟩,
   ⟨put lit [(0x0400, 2), (0x3020, 1)], 1, [], (by decide +kernel)⟩,
   ⟨put lit [(0x0400, 2), (0x3020, 1)], 1, 255, 65535, 255, 2 ^ 32 - 1, [1#8], (by decide +kernel)⟩,
   ⟨put lit [(0x0400, 4), (0x3010, 1), (0x0403, 2048)], 0, (by decide +kernel)⟩,
   ⟨put lit [(0x0400, 4), (0x3010, 1)], 0, 1, 0, 0, [], requestBytes 0 1 0 0 [], (by decide +kernel)⟩,
   ⟨put lit [(0x0400, 4), (0x3010, 1)], (by decide +kernel)⟩,
   ⟨lit, 0, (by decide +kernel)⟩,
   ⟨lit, 3, (by decide +kernel)⟩,
   ⟨put lit [(0x0400, 15)], ⟨0x4B, [1#8], 0, 10⟩, (by decide +kernel)⟩,
   ⟨put lit [(0x0400, 15)], ⟨0x4B, requestBytes 0 1 0 0 [], 0, 10⟩, 0, 1, 0, 0, [], (by decide +kernel)⟩,
   ⟨(put lit [(0x0400, 15)]).updPort 3 (fun p => { p with out := [pkt] }), ⟨0x4B, [], 1, 10⟩, pkt, [],
     (by decide +kernel)⟩,
   ⟨{ lit with cmd := { Cmd.start with queue := [⟨0x46, rqs [], true, 1, 0, false, false, none⟩] } }, 0, [], [],
     ⟨0x46, rqs [], true, 1, 0, false, false, none⟩, (by decide +kernel)⟩⟩

theorem witness_FailedChecksOnlyAnswer :
    (∃ (s : State) (op : Nat) (r : Req), op ≠ 0x06 ∧ op ≠ 0x22 ∧ s.preCheck op r ≠ 0) ∧
    (∃ (s : State) (r : Req), s.preCheck 0x06 r ≠ 0) ∧
    (∃ (s : State) (r : Req), r.payload.length = 12 ∧ s.preCheck 0x22 r ≠ 0) ∧
    (∃ (s : State) (op : Nat) (r : Req), op ∈ signedOps ∧ s.preCheck op r = 0 ∧ s.signedOk op r = false) ∧
    (∃ (op : Nat), op ∉ opcodes) ∧
    (∃ (s : State) (op : Nat), op ∈ opcodes ∧ s.opAllowed op = false) :=
  ⟨⟨lit, 0, rq [1#8], (by decide +kernel)⟩,
   ⟨kin, rq [], (by decide +kernel)⟩,
   ⟨kin, rq (zeros 12), (by decide +kernel)⟩,
   ⟨lit, 0x46, rqs (zeros 4), (by decide +kernel)⟩,
   ⟨0x14, (by decide +kernel)⟩,
   ⟨dous, 0x61, (by decide +kernel)⟩⟩

theorem witness_IdentityAndParameterRequests :
    (∃ (s : State) (r : Req), Passes s 0 r) ∧
    (∃ (s : State) (r : Req), Passes s 1 r) ∧
    (∃ (s : State) (r : Req), Passes s 2 r) ∧
    (∃ (s : State) (r : Req), Passes s 3 r ∧ leAt r.payload 2 2 = 0 ∧ r.handle = 0 ∧ (paramRow (leAt r.payload 0
      2)).isSome = true ∧ ¬(0x2100 ≤ leAt r.payload 0 2 ∧ leAt r.payload 0 2 ≤ 0x211F)) ∧
    (∃ (s : State) (r : Req), Passes s 3 r ∧ leAt r.payload 2 2 = 0 ∧ r.handle = 0 ∧ (paramRow (leAt r.payload 0
      2)).isNone = true) ∧
    (∃ (s : State) (t : State) (r : Req), Passes s 4 r ∧ leAt r.payload 2 2 = 0 ∧ r.handle = 0 ∧ s.paramWrite
      (.host r.wdg) (leAt r.payload 0 2) (leAt r.payload 4 4) = (0, t)) ∧
    (∃ (s : State) (r : Req), Passes s 4 r ∧ leAt r.payload 2 2 = 0 ∧ r.handle = 0 ∧ leAt r.payload 0 2 = 0x0305 ∧
      leAt r.payload 4 4 ≤ 86400) ∧
    (∃ (s : State) (t : State) (r : Req) (c : Nat), Passes s 4 r ∧ leAt r.payload 2 2 = 0 ∧ r.handle = 0 ∧
      s.paramWrite (.host r.wdg) (leAt r.payload 0 2) (leAt r.payload 4 4) = (c, t) ∧ 0x100 ≤ c) ∧
    (∃ (s : State) (r : Req), Passes s 3 r ∧ leAt r.payload 2 2 = 0 ∧ r.handle ≠ 0 ∧ (wkRow (s.view (resW (slotAt s
      r).res)).meter (leAt r.payload 0 2)).isSome = true) ∧
    (∃ (s : State) (r : Req), Passes s 4 r ∧ leAt r.payload 2 2 = 0 ∧ r.handle ≠ 0 ∧ (slotAt s r).writer = true ∧
      s.owns (resW (slotAt s r).res) = true ∧ (wkRow (s.view (resW (slotAt s r).res)).meter (leAt r.payload 0
      2)).isSome = true ∧ s.wkLocked (resW (slotAt s r).res) (leAt r.payload 0 2) = false ∧ s.wkBars (resW (slotAt
      s r).res) (leAt r.payload 0 2) (leAt r.payload 4 4) = false) ∧
    (∃ (s : State) (r : Req), Passes s 4 r ∧ leAt r.payload 2 2 = 0 ∧ r.handle ≠ 0 ∧ (slotAt s r).writer = true ∧
      (wkRow (s.view (resW (slotAt s r).res)).meter (leAt r.payload 0 2)).isSome = true ∧ s.wkLocked (resW (slotAt
      s r).res) (leAt r.payload 0 2) = true) ∧
    (∃ (s : State) (r : Req), Passes s 4 r ∧ leAt r.payload 2 2 = 0 ∧ r.handle ≠ 0 ∧ (slotAt s r).writer = true ∧
      (wkRow (s.view (resW (slotAt s r).res)).meter (leAt r.payload 0 2)).isSome = true ∧ s.wkLocked (resW (slotAt
      s r).res) (leAt r.payload 0 2) = false ∧ s.wkBars (resW (slotAt s r).res) (leAt r.payload 0 2) (leAt
      r.payload 4 4) = true) ∧
    (∃ (s : State) (r : Req), Passes s 5 r ∧ bit r.flags 2 = false ∧ 0 < leAt r.payload 2 2 ∧ leAt r.payload 2 2 ≤
      1024 ∧ leAt r.payload 0 2 + leAt r.payload 2 2 ≤ 0x10000) ∧
    (∃ (s : State) (r : Req), Passes s 5 r ∧ bit r.flags 2 = true ∧ 8 ≤ leAt r.payload 4 2 ∧ leAt r.payload 4 2 ≤
      4096 ∧ userFits (leAt r.payload 0 4) (leAt r.payload 4 2) = true ∧ s.nvm.bad = []) ∧
    (∃ (s : State) (r : Req), Passes s 6 r ∧ bit r.flags 2 = true ∧ leAt r.payload 4 4 = 0 ∧ userFits (leAt
      r.payload 0 4) (r.payload.length - 8) = true) ∧
    (∃ (s : State) (t : State) (r : Req), Passes s 6 r ∧ bit r.flags 2 = false ∧ 0 < leAt r.payload 2 2 ∧ leAt
      r.payload 2 2 ≤ 1023 ∧ leAt r.payload 0 2 + leAt r.payload 2 2 ≤ 0x10000 ∧ s.paramBlock (.host r.wdg) (leAt
      r.payload 0 2) 0 ((List.range (leAt r.payload 2 2)).map (fun k => leAt r.payload (4 + 4 * k) 4)) = (0,
      0xFFFF, t)) :=
  ⟨⟨lit, rq [], (by unfold Passes; decide +kernel)⟩,
   ⟨kin, rq [], (by unfold Passes; decide +kernel)⟩,
   ⟨kin, rq [], (by unfold Passes; decide +kernel)⟩,
   ⟨lit, rq (le 4 0x0100), (by unfold Passes; decide +kernel)⟩,
   ⟨lit, rq (le 4 0xFFFF), (by unfold Passes; decide +kernel)⟩,
   ⟨lit, ((lit.paramWrite (.host (rq []).wdg) 0x0305 86400).2), rq (le 4 0x0305 ++ le 4 86400),
     (by unfold Passes; decide +kernel), (by decide +kernel), (by decide +kernel), rfl⟩,
   ⟨lit, rq (le 4 0x0305 ++ le 4 86400), (by unfold Passes; decide +kernel)⟩,
   ⟨lit, lit, rq (le 4 0x0305 ++ le 4 86401), 0x0103, (by unfold Passes; decide +kernel), (by decide +kernel),
     (by decide +kernel), rfl, (by decide +kernel)⟩,
   ⟨seeing seen (litH 0x0A (2 ^ 16)), rqh (hnd 0x0A) (le 4 8), (by unfold Passes; decide +kernel)⟩,
   ⟨seeing seen (litH 0x0A (2 ^ 16)), rqh (hnd 0x0A) (le 4 8 ++ le 4 24), (by unfold Passes; decide +kernel)⟩,
   ⟨seeing seen (litH 0x0A (2 ^ 16)), rqh (hnd 0x0A) (le 4 2 ++ le 4 0), (by unfold Passes; decide +kernel)⟩,
   ⟨seeing { seen with meter := true } (litH 0x0A (2 ^ 16)), rqh (hnd 0x0A) (le 4 0x40 ++ le 4 0x1901389),
     (by unfold Passes; decide +kernel)⟩,
   ⟨lit, rq (le 2 0xFFFF ++ le 2 1), (by unfold Passes; decide +kernel)⟩,
   ⟨lit, { rq (le 4 0 ++ le 2 8) with flags := 4 }, (by unfold Passes; decide +kernel)⟩,
   ⟨lit, { rq (zeros 16) with flags := 4 }, (by unfold Passes; decide +kernel)⟩,
   ⟨lit, ((lit.paramBlock (.host (rq []).wdg) 0x0305 0 [86400]).2.2), rq (le 2 0x0305 ++ le 2 1 ++ le 4 86400),
     (by unfold Passes; decide +kernel), (by decide +kernel), (by decide +kernel), (by decide +kernel),
     (by decide +kernel), rfl⟩⟩

theorem witness_ParameterWritesWithEffects :
    (∃ (s : State) (r : Req) (k : Nat), Passes s 4 r ∧ r.handle = 0 ∧ k < 2 ∧ leAt r.payload 0 2 = 0x0600 + k ∧
      leAt r.payload 2 2 = 0) ∧
    (∃ (s : State) (r : Req) (n : Nat), Passes s 4 r ∧ r.handle = 0 ∧ n < 40 ∧ leAt r.payload 0 2 = hsStat n ∧ leAt
      r.payload 2 2 = 0 ∧ leAt r.payload 4 4 = 16 ∧ s.pb (hsStat n) 4 = true) ∧
    (∃ (s : State) (r : Req) (b : Nat), Passes s 4 r ∧ r.handle = 0 ∧ b < 8 ∧ leAt r.payload 0 2 = hbPosA b ∧ leAt
      r.payload 2 2 = 0 ∧ s.hbMoving b = false) ∧
    (∃ (s : State) (t : State) (r : Req) (c : Nat), Passes s 4 r ∧ r.handle = 0 ∧ c < 4 ∧ leAt r.payload 0 2 =
      0x3010 + 2 * c ∧ leAt r.payload 2 2 = 0 ∧ s.paramWrite (.host r.wdg) (0x3010 + 2 * c) (leAt r.payload 4 4) =
      (0, t) ∧ s.pf (0x3011 + 2 * c) 0 2 = 2) ∧
    (∃ (s : State) (r : Req) (c : Nat) (b : Bool), Passes s 4 r ∧ r.handle = 0 ∧ c < 4 ∧ leAt r.payload 0 2 =
      0x3010 + 2 * c ∧ leAt r.payload 2 2 = 0 ∧ leAt r.payload 4 4 = setFld (s.p (0x3010 + 2 * c)) 7 1 (b2n b) ∧
      s.canFits = true ∧ s.pf (0x3011 + 2 * c) 0 2 = 2) ∧
    (∃ (s : State) (r : Req), Passes s 4 r ∧ r.handle = 0 ∧ leAt r.payload 0 2 = 0x1907 ∧ leAt r.payload 2 2 = 0 ∧
      leAt r.payload 4 4 = 1) ∧
    (∃ (s : State) (r : Req), Passes s 4 r ∧ r.handle = 0 ∧ leAt r.payload 0 2 = 0x1907 ∧ leAt r.payload 2 2 = 0 ∧
      leAt r.payload 4 4 = 2 ∧ s.pb 0x1905 0 = true) ∧
    (∃ (s : State) (r : Req), Passes s 4 r ∧ r.handle = 0 ∧ leAt r.payload 0 2 = 0x0702 ∧ leAt r.payload 2 2 = 0 ∧
      1 ≤ leAt r.payload 4 4 ∧ leAt r.payload 4 4 ≤ 255 ∧ r.wdg.perOpen = true) :=
  ⟨⟨put lit [(0x0600, 4)], rq (le 4 0x0600 ++ le 4 4), 0, (by unfold Passes; decide +kernel)⟩,
   ⟨put lit [(hsStat 39, 16)], rq (le 4 (hsStat 39) ++ le 4 16), 39, (by unfold Passes; decide +kernel)⟩,
   ⟨lit, rq (le 4 (hbPosA 7) ++ le 4 5), 7, (by unfold Passes; decide +kernel)⟩,
   ⟨put lit [(0x3017, 2)], (((put lit [(0x3017, 2)]).paramWrite (.host (rq []).wdg) 0x3016 0x4B5024).2), rq (le 4
     0x3016 ++ le 4 0x4B5024), 3, (by unfold Passes; decide +kernel), (by decide +kernel), (by decide +kernel),
     (by decide +kernel), (by decide +kernel), rfl, (by decide +kernel)⟩,
   ⟨put lit [(0x3017, 2)], rq (le 4 0x3016 ++ le 4 0x4B5024), 3, false, (by unfold Passes; decide +kernel)⟩,
   ⟨lit, rq (le 4 0x1907 ++ le 4 1), (by unfold Passes; decide +kernel)⟩,
   ⟨put lit [(0x1905, 1)], rq (le 4 0x1907 ++ le 4 2), (by unfold Passes; decide +kernel)⟩,
   ⟨lit, { rq (le 4 0x0702 ++ le 4 255) with wdg := ⟨0, 0, true, 1, true, 0⟩ }, (by unfold Passes; decide +kernel)⟩⟩

theorem witness_HandleRequests :
    (∃ (s : State) (r : Req) (i : Nat), Passes s 0x10 r ∧ leAt r.payload 2 2 = 0 ∧ s.openCheck r.port (leAt
      r.payload 0 1) (leAt r.payload 1 1) (leAt r.payload 4 4) (r.payload.drop 8) = 0 ∧ s.freeFrom 2048 0 = some i) ∧
    (∃ (s : State) (r : Req) (c : Nat), Passes s 0x10 r ∧ leAt r.payload 2 2 = 0 ∧ s.openCheck r.port (leAt
      r.payload 0 1) (leAt r.payload 1 1) (leAt r.payload 4 4) (r.payload.drop 8) = c ∧ c ≠ 0) ∧
    (∃ (s : State) (r : Req) (i : Nat), Passes s 0x11 r ∧ s.current r.handle = some i ∧ (s.slot i).writer = true) ∧
    (∃ (s : State) (r : Req), Passes s 0x12 r ∧ s.bindCheck (s.slotOf r) (leAt r.payload 0 4) = 0) ∧
    (∃ (s : State) (r : Req), Passes s 0x12 r ∧ (slotAt s r).writer = false) ∧
    (∃ (s : State) (r : Req) (g : Nat), Passes s 0x13 r ∧ (slotAt s r).pg = some g) :=
  ⟨⟨lit, rq ([1#8, 1#8, 0#8, 0#8] ++ le 4 39), 0, (by unfold Passes; decide +kernel)⟩,
   ⟨lit, rq ([1#8, 1#8, 0#8, 0#8] ++ le 4 40), 0x0103, (by unfold Passes; decide +kernel)⟩,
   ⟨litH 1 0, rqh (hnd 1) [], 0, (by unfold Passes; decide +kernel)⟩,
   ⟨litH 1 8, rqh (hnd 1) (zeros 4), (by unfold Passes; decide +kernel)⟩,
   ⟨litR 1 8, rqh (hnd 1) (zeros 4), (by unfold Passes; decide +kernel)⟩,
   ⟨(litH 2 0).updSlot 0 (fun e => { e with pg := some 15 }), rqh (hnd 2) [], 15,
     (by unfold Passes; decide +kernel)⟩⟩

theorem witness_OutputRequestsLodgeIntents :
    (∃ (s : State) (r : Req), Passes s 0x20 r ∧ (slotAt s r).writer = true ∧ (slotAt s r).cls = 1 ∧ leAt r.payload
      0 4 ≤ 1) ∧
    (∃ (s : State) (r : Req), Passes s 0x20 r ∧ (slotAt s r).writer = true ∧ (slotAt s r).cls = 0x0B ∧ stnFits
      (resItem (slotAt s r).res) (leAt r.payload 0 4) = true ∧ s.owns (resW (slotAt s r).res) = true) ∧
    (∃ (s : State) (r : Req), Passes s 0x20 r ∧ (slotAt s r).writer = false) ∧
    (∃ (s : State) (r : Req), Passes s 0x21 r ∧ (slotAt s r).writer = true ∧ s.hsBound (slotAt s r).res = true ∧
      s.isCon (slotAt s r).res = false ∧ leAt r.payload 2 2 ≤ 4095) ∧
    (∃ (s : State) (r : Req), Passes s 0x22 r ∧ (slotAt s r).writer = true ∧ leAt r.payload 0 2 ≤ 1023 ∧ leAt
      r.payload 2 2 < s.tUs ∧ (leAt r.payload 4 1 ≤ 7 ∨ leAt r.payload 4 1 = 255) ∧ leAt r.payload 5 3 = 0) ∧
    (∃ (s : State) (r : Req), Passes s 0x23 r ∧ (slotAt s r).writer = true) ∧
    (∃ (s : State) (r : Req), Passes s 0x24 r ∧ (slotAt s r).writer = true ∧ leAt r.payload 2 2 = 0 ∧ 1 ≤ leAt
      r.payload 0 1 ∧ leAt r.payload 0 1 ≤ 2 ∧ (leAt r.payload 1 1 = 0 ∨ (leAt r.payload 1 1 = 1 ∧ 50 ≤ leAt
      r.payload 4 4 ∧ leAt r.payload 4 4 ≤ 500) ∨ (leAt r.payload 1 1 = 2 ∧ 1 ≤ leAt r.payload 4 4 ∧ leAt r.payload
      4 4 ≤ 65535))) ∧
    (∃ (s : State) (r : Req), Passes s 0x25 r ∧ (slotAt s r).writer = true ∧ ofTwos 32 (leAt r.payload 0 4) ≠ 0 ∧
      (ofTwos 32 (leAt r.payload 0 4)).natAbs ≤ s.pf (motCfg (slotAt s r).res) 0 16 ∧ 1 ≤ leAt r.payload 4 4 ∧ leAt
      r.payload 4 4 ≤ 100000 ∧ s.motState (slotAt s r).res ≠ 7) ∧
    (∃ (s : State) (r : Req), Passes s 0x26 r ∧ (slotAt s r).writer = true ∧ leAt r.payload 0 1 ≤ 2 ∧ leAt
      r.payload 1 3 = 0) :=
  ⟨⟨litH 1 0, rqh (hnd 1) (le 4 0), (by unfold Passes; decide +kernel)⟩,
   ⟨seeing seen (litH 0x0B (2 ^ 16 + 3)), rqh (hnd 0x0B) (le 4 0), (by unfold Passes; decide +kernel)⟩,
   ⟨litR 1 0, rqh (hnd 1) (le 4 0), (by unfold Passes; decide +kernel)⟩,
   ⟨put (litH 1 8) [(hsPwmStat 8, 2 ^ 20)], rqh (hnd 1) (le 4 (4095 * 2 ^ 16)), (by unfold Passes; decide +kernel)⟩,
   ⟨litH 3 23, rqh (hnd 3) (le 2 1023 ++ le 2 999 ++ [7#8] ++ zeros 3 ++ le 4 0),
     (by unfold Passes; decide +kernel)⟩,
   ⟨litH 4 31, rqh (hnd 4) (le 4 5), (by unfold Passes; decide +kernel)⟩,
   ⟨litH 5 7, rqh (hnd 5) ([1#8, 0#8, 0#8, 0#8] ++ le 4 0), (by unfold Passes; decide +kernel)⟩,
   ⟨litH 6 3, rqh (hnd 6) (le 4 3000 ++ le 4 100000), (by unfold Passes; decide +kernel)⟩,
   ⟨litH 6 3, rqh (hnd 6) (le 4 2), (by unfold Passes; decide +kernel)⟩⟩

theorem witness_MeasurementRequests :
    (∃ (s : State) (r : Req), Passes s 0x30 r ∧ leAt r.payload 0 1 ≤ 3 ∧ 1 ≤ leAt r.payload 1 1 ∧ leAt r.payload 1
      1 ≤ 63 ∧ leAt r.payload 2 2 = 0) ∧
    (∃ (s : State) (r : Req) (b : ResultRec) (c : CellRec), Passes s 0x31 r ∧ (s.view (resW (slotAt s r).res)).lost
      = false ∧ (s.view (resW (slotAt s r).res)).res.head?.map (·.1) = some b ∧ b.meas = .cell c) ∧
    (∃ (s : State) (r : Req) (b : ResultRec) (c : CellRec), Passes s 0x31 r ∧ (s.view (resW (slotAt s r).res)).lost
      = true ∧ (s.view (resW (slotAt s r).res)).res.head?.map (·.1) = some b ∧ b.meas = .cell c) ∧
    (∃ (s : State) (r : Req), Passes s 0x31 r ∧ (s.view (resW (slotAt s r).res)).res = []) ∧
    (∃ (s : State) (r : Req), Passes s 0x32 r ∧ (slotAt s r).writer = true ∧ leAt r.payload 0 4 < 2 ^ (s.wkParam
      (resW (slotAt s r).res) 0x08 % 32) ∧ popcount (leAt r.payload 0 4) 24 ≤ s.wkParam (resW (slotAt s r).res)
      0x0E % 32 ∧ s.owns (resW (slotAt s r).res) = true ∧ (s.view (resW (slotAt s r).res)).lost = false) ∧
    (∃ (s : State) (r : Req), Passes s 0x33 r ∧ s.owns (resW (slotAt s r).res) = true ∧ (s.view (resW (slotAt s
      r).res)).lost = false ∧ bit (leAt (slotAt s r).cdata 1 1) 0 = false) ∧
    (∃ (s : State) (r : Req) (f : FlrMgr), Passes s 0x34 r ∧ s.trigFits r.payload = true ∧ s.owns (resW (slotAt s
      r).res) = true ∧ (s.view (resW (slotAt s r).res)).lost = false ∧ Tbl.find s.flue.flares (s.slotOf r) = some f
      ∧ (∀ e ∈ s.flue.flares, e.2.w = resW (slotAt s r).res → e.2.st ≠ 2)) ∧
    (∃ (s : State) (r : Req) (f : FlrMgr), Passes s 0x34 r ∧ s.trigFits r.payload = true ∧ 2 ≤ leAt r.payload 0 1 ∧
      s.owns (resW (slotAt s r).res) = true ∧ (s.view (resW (slotAt s r).res)).lost = false ∧ Tbl.find
      s.flue.flares (s.slotOf r) = some f ∧ s.flue.imps = [] ∧ (∀ e ∈ s.flue.flares, e.2.w = resW (slotAt s r).res
      → e.2.st ≠ 2)) ∧
    (∃ (s : State) (r : Req) (e : Nat × FlrMgr), Passes s 0x34 r ∧ s.trigFits r.payload = true ∧ s.owns (resW
      (slotAt s r).res) = true ∧ (s.view (resW (slotAt s r).res)).lost = false ∧ e ∈ s.flue.flares ∧ e.2.w = resW
      (slotAt s r).res ∧ e.2.st = 2) ∧
    (∃ (s : State) (r : Req), Passes s 0x35 r ∧ leAt r.payload 0 4 < 20480 ∧ (s.view (resW (slotAt s r).res)).lost
      = false) ∧
    (∃ (s : State) (r : Req) (b : ResultRec), Passes s 0x36 r ∧ (s.view (resW (slotAt s r).res)).stn = true ∧
      s.nowRec (resW (slotAt s r).res) = some b ∧ resItem (slotAt s r).res < 2) ∧
    (∃ (s : State) (r : Req), Passes s 0x36 r ∧ (s.view (resW (slotAt s r).res)).stn = false) :=
  ⟨⟨lit, rq ([3#8, 63#8, 0#8, 0#8] ++ le 4 0), (by unfold Passes; decide +kernel)⟩,
   ⟨seeing { seen with res := [(cellRes 0, false)] } (litH 9 (2 ^ 16)), rqh (hnd 9) [], cellRes 0, ⟨[], 0, [], [],
     [], 0, 0⟩, (by unfold Passes; decide +kernel)⟩,
   ⟨seeing { seen with lost := true, res := [(cellRes 0, false)] } (litH 9 (2 ^ 16)), rqh (hnd 9) [], cellRes 0,
     ⟨[], 0, [], [], [], 0, 0⟩, (by unfold Passes; decide +kernel)⟩,
   ⟨seeing seen (litH 9 (2 ^ 16)), rqh (hnd 9) [], (by unfold Passes; decide +kernel)⟩,
   ⟨seeing seen (litH 9 (2 ^ 16)), rqh (hnd 9) (le 4 (0xFFF * 2 ^ 12) ++ le 4 60),
     (by unfold Passes; decide +kernel)⟩,
   ⟨seeing seen ((litH 0x0E (2 ^ 16)).updSlot 0 (fun e => { e with cdata := [1#8, 0#8] ++ zeros 42 })), rqh (hnd
     0x0E) [], (by unfold Passes; decide +kernel)⟩,
   ⟨(fun (s : State) => { s with flue := { s.flue with views := [(1, seen)] } }) { litH 0x0F (2 ^ 16) with flue :=
     { Flue.start with flares := [(0, ⟨1, 0, 0, 0, 0, 0, [], 0, 0, false, 0, false, none⟩)] } }, rqh (hnd 0x0F)
     (zeros 16), ⟨1, 0, 0, 0, 0, 0, [], 0, 0, false, 0, false, none⟩, (by unfold Passes; decide +kernel)⟩,
   ⟨(fun (s : State) => { s with flue := { s.flue with views := [(1, seen)] } }) { litH 0x0F (2 ^ 16) with flue :=
     { Flue.start with flares := [(0, ⟨1, 0, 0, 0, 0, 0, [], 0, 0, false, 0, false, none⟩)] } }, rqh (hnd 0x0F)
     ([2#8, 63#8] ++ zeros 14), ⟨1, 0, 0, 0, 0, 0, [], 0, 0, false, 0, false, none⟩,
     (by unfold Passes; decide +kernel)⟩,
   ⟨(fun (s : State) => { s with flue := { s.flue with views := [(1, seen)] } }) { litH 0x0F (2 ^ 16) with flue :=
     { Flue.start with flares := [(0, ⟨1, 0, 0, 0, 0, 2, [], 0, 0, false, 0, false, none⟩)] } }, rqh (hnd 0x0F)
     (zeros 16), (0, ⟨1, 0, 0, 0, 0, 2, [], 0, 0, false, 0, false, none⟩), (by unfold Passes; decide +kernel)⟩,
   ⟨seeing seen (litH 0x0F (2 ^ 16)), rqh (hnd 0x0F) (le 4 20479), (by unfold Passes; decide +kernel)⟩,
   ⟨seeing { seen with stn := true, got := true, res := [(cellRes 0, false)] } (litH 0x0C (2 ^ 16 + 1)), rqh (hnd
     0x0C) [], cellRes 0, (by unfold Passes; decide +kernel)⟩,
   ⟨seeing seen (litH 0x0C (2 ^ 16)), rqh (hnd 0x0C) [], (by unfold Passes; decide +kernel)⟩⟩

theorem witness_LedgerRequests :
    (∃ (s : State) (r : Req) (a : AccSlot), Passes s 0x40 r ∧ leAt r.payload 0 1 < 8 ∧ (s.inst (leAt r.payload 0
      1)).mirror = some a ∧ s.instLives (leAt r.payload 0 1) = true) ∧
    (∃ (s : State) (r : Req) (t : Turf), Passes s 0x41 r ∧ leAt r.payload 0 1 < 8 ∧ leAt r.payload 1 3 = 0 ∧ 1 ≤
      leAt r.payload 8 2 ∧ leAt r.payload 8 2 ≤ 15 ∧ s.nvm.bad = [] ∧ (s.inst (leAt r.payload 0 1)).sorted.filter
      (fun t => leAt r.payload 4 4 ≤ t.index) = [t]) ∧
    (∃ (s : State) (r : Req), Passes s 0x45 r) ∧
    (∃ (s : State) (r : Req), Passes s 0x42 r ∧ leAt (bodyOf r) 0 1 < 8 ∧ leAt (bodyOf r) 1 3 = 0 ∧ s.instOn (leAt
      (bodyOf r) 0 1) = true ∧ s.ownsInst (leAt (bodyOf r) 0 1) = true ∧ (s.inst (leAt (bodyOf r) 0 1)).any = true
      ∧ leAt (bodyOf r) 4 4 ≤ (s.inst (leAt (bodyOf r) 0 1)).newest ∧ ((s.inst (leAt (bodyOf r) 0 1)).ackAny = true
      ∨ (s.inst (leAt (bodyOf r) 0 1)).acked = 0)) ∧
    (∃ (s : State) (r : Req), Passes s 0x43 r ∧ leAt (bodyOf r) 0 1 < 8 ∧ leAt (bodyOf r) 1 3 = 0 ∧ leAt (bodyOf r)
      45 3 = 0 ∧ s.instOn (leAt (bodyOf r) 0 1) = true ∧ (s.view (s.instW (leAt (bodyOf r) 0 1))).here = true ∧
      (s.view (s.instW (leAt (bodyOf r) 0 1))).meter = true ∧ (s.view (s.instW (leAt (bodyOf r) 0 1))).serial =
      leAt (bodyOf r) 4 8 ∧ s.ownsInst (leAt (bodyOf r) 0 1) = true ∧ s.instLives (leAt (bodyOf r) 0 1) = false) ∧
    (∃ (s : State) (r : Req), Passes s 0x44 r ∧ leAt (bodyOf r) 1 1 = 0 ∧ leAt (bodyOf r) 2 2 = 0 ∧ (∀ n ∈ bitsOf
      (leAt (bodyOf r) 0 1) 8, s.instState n = 2 ∧ s.ownsInst n = true) ∧ popcount (fld s.nvm.fuseOr.toNat 0x47E 7)
      7 ≠ 7) ∧
    (∃ (s : State) (r : Req), Passes s 0x46 r) ∧
    (∃ (s : State) (r : Req), Passes s 0x47 r ∧ leAt (bodyOf r) 0 1 < 8 ∧ leAt (bodyOf r) 1 1 = 1 ∧ leAt (bodyOf r)
      2 2 = 0 ∧ s.instOn (leAt (bodyOf r) 0 1) = true ∧ leAt (bodyOf r) 4 1 ≤ 3 ∧ leAt (bodyOf r) 5 1 ≤ 63 ∧
      (s.view (wKey (leAt (bodyOf r) 4 1) (leAt (bodyOf r) 5 1))).here = true ∧ wKey (leAt (bodyOf r) 4 1) (leAt
      (bodyOf r) 5 1) ≠ s.instW (leAt (bodyOf r) 0 1) ∧ s.ownsInst (leAt (bodyOf r) 0 1) = true) ∧
    (∃ (s : State) (m : Nat) (l : List Nat), s.cmd.relights = m :: l ∧ popcount (fld s.nvm.fuseOr.toNat 0x47E 7) 7
      ≠ 7) ∧
    (∃ (s : State) (m : Nat) (l : List Nat), s.cmd.relights = m :: l) ∧
    (∃ (s : State), s.cmd.relights = []) :=
  ⟨⟨instS { Inst.d with m0 := some slot0 }, rq [0#8], slot0, (by unfold Passes; decide +kernel)⟩,
   ⟨instS { Inst.d with turfs := [(0, turf0)] }, rq (zeros 8 ++ le 2 15), turf0,
     (by unfold Passes; decide +kernel)⟩,
   ⟨lit, rq [], (by unfold Passes; decide +kernel)⟩,
   ⟨instS { Inst.d with any := true }, rqs (zeros 8), (by unfold Passes; decide +kernel)⟩,
   ⟨put (seeing { seen with meter := true } (instS Inst.d)) [(0x1818, 0)], rqs (zeros 48),
     (by unfold Passes; decide +kernel)⟩,
   ⟨{ instS Inst.d with nvm := { Nvm.new with fuses := 0#4096 } }, rqs [1#8, 0#8, 0#8, 0#8],
     (by unfold Passes; decide +kernel), (by decide +kernel), (by decide +kernel), (by decide +kernel),
     (by decide +kernel)⟩,
   ⟨lit, rqs (zeros 4), (by unfold Passes; decide +kernel)⟩,
   ⟨{ instS Inst.d with flue := { Flue.start with views := [(2, seen)] } }, rqs ([0#8, 1#8, 0#8, 0#8, 0#8, 2#8]),
     (by unfold Passes; decide +kernel)⟩,
   ⟨{ lit with nvm := { Nvm.new with fuses := 0#4096 }, cmd := { Cmd.start with relights := [1, 2] } }, 1, [2],
     (by decide +kernel)⟩,
   ⟨{ lit with cmd := { Cmd.start with relights := [0] } }, 0, [], (by decide +kernel)⟩,
   ⟨lit, (by decide +kernel)⟩⟩

theorem witness_EventAndStokerRequests :
    (∃ (s : State) (r : Req), Passes s 0x50 r ∧ s.nvm.jnext ≤ leAt r.payload 0 4) ∧
    (∃ (s : State) (r : Req) (e : JEntry), Passes s 0x50 r ∧ leAt r.payload 4 2 = 1 ∧ leAt r.payload 0 4 <
      s.nvm.jnext ∧ s.nvm.jnext ≤ leAt r.payload 0 4 + 8192 ∧ s.jFind (leAt r.payload 0 4) = some e) ∧
    (∃ (s : State) (r : Req) (i : Nat), Passes s 0x51 r ∧ r.port ≠ 1 ∧ (s.hdl.subs.filter (fun e => e.2.port ==
      r.port)).length < 8 ∧ s.freeFrom 2048 0 = some i) ∧
    (∃ (s : State) (r : Req), Passes s 0x52 r) ∧
    (∃ (s : State) (r : Req) (k : Nat), Passes s 0x60 r ∧ leAt r.payload 0 1 ≤ 3 ∧ leAt r.payload 1 1 = 0 ∧ leAt
      r.payload 2 2 = 0 ∧ r.payload.length = 12 + 4 * k ∧ leAt r.payload 4 4 + k < 8192 ∧ s.stkState (leAt
      r.payload 0 1) ≠ 2) ∧
    (∃ (s : State) (r : Req), Passes s 0x61 r ∧ leAt r.payload 0 1 < 16 ∧ (∀ c ∈ bitsOf (leAt r.payload 0 1) 4,
      s.stkState c ≠ 0)) ∧
    (∃ (s : State) (r : Req), Passes s 0x62 r ∧ leAt r.payload 0 1 < 16) ∧
    (∃ (s : State) (r : Req), Passes s 0x63 r ∧ leAt r.payload 0 1 ≤ 3) ∧
    (∃ (s : State) (r : Req), Passes s 0x64 r ∧ leAt r.payload 0 1 ≤ 3 ∧ leAt r.payload 1 3 = 0 ∧ 1 ≤ leAt
      r.payload 4 4 ∧ leAt r.payload 4 4 ≤ 65536 ∧ s.stkState (leAt r.payload 0 1) = 1) :=
  ⟨⟨lit, rq (zeros 6), (by unfold Passes; decide +kernel)⟩,
   ⟨{ lit with nvm := { lit.nvm with journal := [(0, ⟨0, 0, 1, 1, 0, 1, []⟩)], jnext := 1 } }, rq (zeros 4 ++ le 2
     1), ⟨0, 0, 1, 1, 0, 1, []⟩, (by unfold Passes; decide +kernel)⟩,
   ⟨lit, rq (zeros 8), 0, (by unfold Passes; decide +kernel)⟩,
   ⟨put lit [(0x0600, 4)], rq (le 8 4), (by unfold Passes; decide +kernel)⟩,
   ⟨lit, rq ([3#8, 0#8, 0#8, 0#8] ++ le 4 8190 ++ zeros 8), 1, (by unfold Passes; decide +kernel)⟩,
   ⟨put lit [(stkStat 3, 1), (stkStat 0, 1)], rq [9#8], (by unfold Passes; decide +kernel)⟩,
   ⟨put lit [(stkStat 3, 2)], rq [15#8], (by unfold Passes; decide +kernel)⟩,
   ⟨lit, rq [3#8], (by unfold Passes; decide +kernel)⟩,
   ⟨put lit [(stkStat 3, 1)], rq ([3#8, 0#8, 0#8, 0#8] ++ le 4 1), (by unfold Passes; decide +kernel)⟩⟩

theorem witness_SystemRequests :
    (∃ (s : State) (r : Req), Passes s 0x71 r) ∧
    (∃ (s : State) (r : Req), Passes s 0x79 r) ∧
    (∃ (s : State) (r : Req), Passes s 0x78 r ∧ s.sys.sleeping = 0) ∧
    (∃ (s : State) (r : Req), Passes s 0x7D r ∧ s.dhold &&& s.evStat = 0 ∧ s.sys.douseTick = false) ∧
    (∃ (s : State) (r : Req), Passes s 0x7D r ∧ (s.dhold &&& s.evStat ≠ 0 ∨ s.sys.douseTick = true)) ∧
    (∃ (s : State) (r : Req), Passes s 0x7E r ∧ s.sys.phase = .lit) ∧
    (∃ (s : State) (r : Req), Passes s 0x7F r ∧ leAt r.payload 0 4 = 0x5A5AA5A5) ∧
    (∃ (s : State) (r : Req), Passes s 0x7F r ∧ leAt r.payload 0 4 ≠ 0x5A5AA5A5) :=
  ⟨⟨lit, rq [], (by unfold Passes; decide +kernel)⟩,
   ⟨lit, rq [], (by unfold Passes; decide +kernel)⟩,
   ⟨lit, rq [], (by unfold Passes; decide +kernel)⟩,
   ⟨dous, rq [], (by unfold Passes; decide +kernel)⟩,
   ⟨put dous [(0x0600, 4), (0x060C, 4)], rq [], (by unfold Passes; decide +kernel)⟩,
   ⟨lit, rq [0#8, 0#8], (by unfold Passes; decide +kernel)⟩,
   ⟨lit, rq (le 4 0x5A5AA5A5), (by unfold Passes; decide +kernel)⟩,
   ⟨lit, rq (le 4 0), (by unfold Passes; decide +kernel)⟩⟩

theorem witness_ConfigurationWrites :
    (∃ (s : State) (r : Req), Passes s 0x7C r ∧ leAt r.payload 0 1 = 1 ∧ leAt r.payload 1 1 ≤ 1 ∧ s.pb 0x0107 9 =
      false) ∧
    (∃ (s : State) (r : Req), Passes s 0x7C r ∧ leAt r.payload 0 1 = 2 ∧ leAt r.payload 1 1 ≤ 1 ∧ leAt r.payload 2
      2 = 0 ∧ leAt r.payload 4 4 % 256 = 0 ∧ leAt r.payload 4 4 + (r.payload.length - 8) ≤ 0x40000 ∧ s.pb 0x0107 9
      = false) ∧
    (∃ (s : State) (r : Req), Passes s 0x7C r ∧ leAt r.payload 0 1 = 3 ∧ leAt r.payload 1 1 ≤ 1 ∧ s.pb 0x0107 9 =
      false) ∧
    (∃ (s : State) (k : Nat), s.sys.nvmOp = some (0, k)) ∧
    (∃ (s : State) (k : Nat), s.sys.nvmOp = some (1, k) ∧ k < 2 ∧ s.sys.phase ≠ .kindling) ∧
    (∃ (s : State) (k : Nat), s.sys.nvmOp = some (1, k) ∧ k < 2 ∧ s.sys.phase = .kindling) ∧
    (∃ (s : State) (t : State) (r : Req), Passes s 0x7C r ∧ leAt r.payload 0 1 = 4 ∧ leAt r.payload 1 1 = 0 ∧
      s.sys.phase = .kindling ∧ s.pb 0x0107 9 = false ∧ s.paramConfig (leAt r.payload 2 2) (leAt r.payload 4 4) =
      (0, t)) ∧
    (∃ (s : State) (r : Req), Passes s 0x7C r ∧ leAt r.payload 0 1 = 4 ∧ leAt r.payload 1 1 = 0 ∧ s.sys.phase =
      .kindling ∧ s.pb 0x0107 9 = false ∧ leAt r.payload 2 2 = 0x0200 ∧ leAt r.payload 4 4 ≤ 4 ∧ s.pb 0x3030 0 =
      false ∧ s.pb 0x3031 0 = false) ∧
    (∃ (s : State) (r : Req), Passes s 0x7C r ∧ leAt r.payload 0 1 = 5 ∧ leAt r.payload 1 1 = 2 ∧ s.sys.phase =
      .kindling ∧ s.pb 0x0107 9 = false ∧ leAt r.payload 2 2 < 65536 ∧ fld s.nvm.fuseOr.toNat 0x46E 16 = 0 ∧ bit
      s.nvm.fuseOr.toNat 0x485 = false ∧ s.fz 0x485 1 = 0) ∧
    (∃ (s : State) (r : Req), Passes s 0x7C r ∧ leAt r.payload 0 1 = 5 ∧ leAt r.payload 1 1 = 2 ∧ s.sys.phase =
      .kindling ∧ s.pb 0x0107 9 = false ∧ fld s.nvm.fuseOr.toNat 0x46E 16 ≠ 0) :=
  ⟨⟨lit, rq [1#8, 1#8], (by unfold Passes; decide +kernel)⟩,
   ⟨lit, rq ([2#8, 1#8, 0#8, 0#8] ++ le 4 0x3FF00 ++ zeros 256), (by unfold Passes; decide +kernel)⟩,
   ⟨kin, rq [3#8, 1#8], (by unfold Passes; decide +kernel)⟩,
   ⟨{ lit with sys := { lit.sys with nvmOp := some (0, 1) } }, 1, (by decide +kernel)⟩,
   ⟨{ lit with sys := { lit.sys with nvmOp := some (1, 1) } }, 1, (by decide +kernel)⟩,
   ⟨{ kin with sys := { kin.sys with nvmOp := some (1, 1) } }, 1, (by decide +kernel)⟩,
   ⟨kin, ((kin.paramConfig 0x0200 4).2), rq ([4#8, 0#8] ++ le 2 0x0200 ++ le 4 4),
     (by unfold Passes; decide +kernel), (by decide +kernel), (by decide +kernel), (by decide +kernel),
     (by decide +kernel), rfl⟩,
   ⟨kin, rq ([4#8, 0#8] ++ le 2 0x0200 ++ le 4 4), (by unfold Passes; decide +kernel)⟩,
   ⟨{ kin with nvm := { Nvm.new with fuses := 0#4096 } }, rq ([5#8, 2#8] ++ le 2 65535),
     (by unfold Passes; decide +kernel), (by decide +kernel), (by decide +kernel), (by decide +kernel),
     (by decide +kernel), (by decide +kernel), (by decide +kernel), (by decide +kernel), (by decide +kernel)⟩,
   ⟨{ kin with nvm := { Nvm.new with fuses := BitVec.ofNat 4096 (2 ^ 0x46E) } }, rq ([5#8, 2#8] ++ le 2 1),
     (by unfold Passes; decide +kernel), (by decide +kernel), (by decide +kernel), (by decide +kernel),
     (by decide +kernel), (by decide +kernel)⟩⟩

theorem witness_WatchdogAnswersAreJudged :
    (∃ (s : State) (src : Nat) (ans : Nat), s.wdgServer src = true ∧ s.wdgRuns = true ∧ s.wdg.expired = false ∧
      s.wdgEndHeld = false ∧ s.wdg.period ≠ 0 ∧ ans < 65536 ∧ s.pb 0x0703 19 = true ∧ BitVec.ofNat 16 ans =
      (BitVec.ofNat 16 (s.pf 0x0703 0 16) ^^^ BitVec.ofNat 16 s.wdg.seed) * 0x9E37#16 ∧ s.wdg.seed < 65536) ∧
    (∃ (s : State) (ans : Nat) (k : WdgSnap), k.period ≠ 0 ∧ k.period ≠ s.wdg.period ∧ k.isOpen = true ∧ ans <
      65536 ∧ BitVec.ofNat 16 ans = (BitVec.ofNat 16 k.question ^^^ BitVec.ofNat 16 k.seed) * 0x9E37#16 ∧
      k.question < 65536 ∧ k.seed < 65536) ∧
    (∃ (s : State) (src : Nat) (ans : Nat), s.wdgServer src = true ∧ s.wdgRuns = true ∧ s.wdg.expired = false ∧
      s.wdgEndHeld = false ∧ s.wdg.period ≠ 0 ∧ ans < 65536 ∧ s.wdg.seed < 65536 ∧ s.pf 0x0703 16 3 < 7 ∧ (s.pb
      0x0703 19 = false ∨ BitVec.ofNat 16 ans ≠ (BitVec.ofNat 16 (s.pf 0x0703 0 16) ^^^ BitVec.ofNat 16 s.wdg.seed)
      * 0x9E37#16) ∧ s.evOn 52 = true) ∧
    (∃ (s : State) (src : Nat) (ans : Nat), s.wdgServer src = true ∧ s.wdgRuns = true ∧ s.wdg.expired = false ∧
      s.wdgEndHeld = false ∧ s.wdg.period ≠ 0 ∧ ans < 65536 ∧ s.wdg.seed < 65536 ∧ s.pf 0x0703 16 3 < 7 ∧ (s.pb
      0x0703 19 = false ∨ BitVec.ofNat 16 ans ≠ (BitVec.ofNat 16 (s.pf 0x0703 0 16) ^^^ BitVec.ofNat 16 s.wdg.seed)
      * 0x9E37#16) ∧ s.wdg.errMax ≤ s.pf 0x0703 16 3 + 1) ∧
    (∃ (s : State) (r : Req), Passes s 0x70 r) ∧
    (∃ (s : State) (r : Req), Passes s 0x70 r ∧ r.wdg.period ≠ 0 ∧ r.wdg.period ≠ s.wdg.period ∧ wdgCorrect r.wdg
      (leAt r.payload 0 2) = true) ∧
    (∃ (s : State) (src : Nat), (s.wdgServer src = false ∨ s.wdgRuns = false ∨ s.wdg.expired = true ∨ s.wdgEndHeld
      = true) ∧ s.wdgServer src = false) ∧
    (∃ (s : State) (src : Nat), (s.wdgServer src = false ∨ s.wdgRuns = false ∨ s.wdg.expired = true ∨ s.wdgEndHeld
      = true) ∧ s.wdgEndHeld = true) ∧
    (∃ (s : State) (r : Req), r.payload.length = 2 ∧ r.flags < 2 ∧ r.rsv = 0 ∧ r.handle = 0 ∧ wdgCorrect (s.wdgSnap
      r.port) (leAt r.payload 0 2) = true ∧ r.wdg = s.wdgSnap r.port) ∧
    (∃ (s : State) (p : Nat) (seq : Nat) (flags : Nat) (handle : Nat) (l : List Byte), seq < 65536 ∧ flags < 256 ∧
      handle < 2 ^ 32 ∧ l.length ≤ 4096 ∧ (s.port p).last.find? (fun e => e.1 == seq && e.2.1 == leAt (requestBytes
      0x70 seq flags handle l) (12 + l.length) 4) = none ∧ (s.cmd.queue.filter (fun q => q.req.port == p)).length <
      64) :=
  ⟨⟨{ put lit [(0x0703, 0x185670)] with wdg := { Wdg.start with seed := 0x3C5A, period := 1 } }, 0, 0xBB06,
     (by decide +kernel)⟩,
   ⟨lit, 0xBB06, ⟨0x5670, 0x3C5A, true, 5, false, 0⟩, (by decide +kernel)⟩,
   ⟨{ put lit [(0x0703, 0x165670)] with wdg := { Wdg.start with seed := 0x3C5A, period := 1 } }, 0, 0xBB06,
     (by decide +kernel)⟩,
   ⟨{ put lit [(0x0703, 0x1A5670)] with wdg := { Wdg.start with seed := 0x3C5A, period := 1, errMax := 3 } }, 0,
     0xBB07, (by decide +kernel)⟩,
   ⟨lit, rq (le 2 0xBB06), (by unfold Passes; decide +kernel)⟩,
   ⟨lit, { rq (le 2 0xBB06) with wdg := ⟨0x5670, 0x3C5A, true, 5, false, 0⟩ }, (by unfold Passes; decide +kernel)⟩,
   ⟨lit, 1, (by decide +kernel)⟩,
   ⟨{ lit with cmd := { Cmd.start with queue := [⟨0x70, rq [], false, 0, 0, false, true, none⟩] } }, 0,
     (by decide +kernel)⟩,
   ⟨{ put lit [(0x0703, 0x185670)] with wdg := { Wdg.start with seed := 0x3C5A, period := 1 } }, { rq (le 2 0xBB06)
     with wdg := ⟨0x5670, 0x3C5A, true, 1, true, 1⟩ }, (by decide +kernel)⟩,
   ⟨lit, 3, 65535, 255, 2 ^ 32 - 1, [1#8], (by decide +kernel)⟩⟩

theorem witness_WatchdogInstants :
    (∃ (s : State), s.wdgRuns = true ∧ s.wdg.expired = false ∧ s.wdgWaits = false) ∧
    (∃ (s : State), s.wdgRuns = true ∧ s.wdg.expired = false ∧ s.wdgWaits = true) ∧
    (∃ (s : State), s.wdgRuns = true ∧ s.wdg.expired = false ∧ s.wdgWaits = false) ∧
    (∃ (s : State), s.wdgRuns = true ∧ s.wdg.expired = false ∧ s.wdgWaits = true) ∧
    (∃ (s : State) (q : QItem), q.ended = true ∧ s.wdgEndHeld = false) ∧
    (∃ (s : State) (q : QItem), q.warn = true ∧ q.ended = false ∧ (∀ x ∈ s.cmd.queue, x.warn = false) ∧ s.evOn 53 =
      true) ∧
    (∃ (s : State) (q : QItem), (q.ended = true → s.wdgEndHeld = true) ∧ (q.warn = true → ∃ x ∈ s.cmd.queue, x.warn
      = true) ∧ q.warn = false) ∧
    (∃ (s : State) (q : QItem), (q.ended = true → s.wdgEndHeld = true) ∧ (q.warn = true → ∃ x ∈ s.cmd.queue, x.warn
      = true) ∧ q.ended = true) ∧
    (∃ (s : State), s.wdgRuns = true ∧ s.wdg.expired = false ∧ s.wdgEndHeld = false) ∧
    (∃ (s : State), s.wdg.paused = true ∧ s.sys.phase = .lit ∧ (∀ q ∈ s.cmd.queue, q.was = none)) ∧
    (∃ (s : State) (a : Nat) (b : Nat) (c : Nat) (d : Nat), s.island.wdgKept = some [a, b, c, d] ∧ s.sys.phase =
      .kindling ∧ s.sys.pll = true ∧ (∀ q ∈ s.cmd.queue, q.was = none)) ∧
    (∃ (s : State) (q : QItem) (l : List QItem) (n : Nat), s.wdg.paused = true ∧ s.sys.phase = .lit ∧ s.cmd.queue =
      q :: l ∧ q.was = some n) :=
  ⟨⟨put lit [(0x0703, 2 ^ 20)], (by decide +kernel)⟩,
   ⟨{ put lit [(0x0703, 2 ^ 20)] with cmd := { Cmd.start with queue := [⟨0x70, rq [], false, 0, 0, false, false,
     none⟩] } }, (by decide +kernel)⟩,
   ⟨put lit [(0x0703, 2 ^ 20)], (by decide +kernel)⟩,
   ⟨{ put lit [(0x0703, 2 ^ 20)] with cmd := { Cmd.start with queue := [⟨0x70, rq [], false, 0, 0, false, false,
     none⟩] } }, (by decide +kernel)⟩,
   ⟨lit, ⟨0x70, rq [], false, 0, 0, true, true, none⟩, (by decide +kernel)⟩,
   ⟨lit, ⟨0x70, rq [], false, 0, 0, true, false, none⟩, (by decide +kernel)⟩,
   ⟨lit, ⟨0x70, rq [], false, 0, 0, false, false, none⟩, (by decide +kernel)⟩,
   ⟨{ lit with cmd := { Cmd.start with queue := [⟨0x70, rq [], false, 0, 0, true, true, none⟩] } }, ⟨0x70, rq [],
     false, 0, 0, true, true, none⟩, (by decide +kernel)⟩,
   ⟨put lit [(0x0703, 2 ^ 20)], (by decide +kernel)⟩,
   ⟨{ lit with wdg := { Wdg.start with paused := true } }, (by decide +kernel)⟩,
   ⟨{ kin with island := { Island.por with wdgKept := some [1, 20, 2, 3] } }, 1, 20, 2, 3, (by decide +kernel)⟩,
   ⟨{ lit with wdg := { Wdg.start with paused := true }, cmd := { Cmd.start with queue := [⟨0x70, rq [], false, 0,
     0, false, false, some 3⟩] } }, ⟨0x70, rq [], false, 0, 0, false, false, some 3⟩, [], 3, (by decide +kernel)⟩⟩

theorem witness_LoadSwitchEvents :
    (∃ (s : State) (g : Nat), g < 16 ∧ s.awake = true ∧ (s.pg g).period ≠ 0) ∧
    (∃ (s : State) (n : Nat), n < 40 ∧ s.pb (hsStat n) 0 = true) ∧
    (∃ (s : State) (n : Nat), n < 40 ∧ s.pb (hsStat n) 0 = true ∧ (s.hs n).tripped = false) ∧
    (∃ (s : State) (n : Nat), n < 40 ∧ s.pb (hsStat n) 0 = true ∧ (s.hs n).tripped = false ∧ s.evOn 21 = true) ∧
    (∃ (s : State) (n : Nat), n < 40 ∧ s.pb (hsStat n) 0 = true ∧ (s.hs n).tripped = false ∧ s.evOn 23 = true) ∧
    (∃ (s : State) (n : Nat), n < 40 ∧ s.pb (hsStat n) 0 = true ∧ (s.hs n).tripped = false) ∧
    (∃ (s : State) (n : Nat), n < 40 ∧ s.pb (hsStat n) 2 = true ∧ 8 ≤ (s.hs n).quiet ∧ (s.hs n).retry = true ∧ s.pb
      (hsStat n) 3 = false ∧ s.pb (hsCfg n) 1 = true) ∧
    (∃ (s : State) (n : Nat), n < 40 ∧ s.pb (hsStat n) 2 = true ∧ 8 ≤ (s.hs n).quiet ∧ (s.hs n).retry = false) ∧
    (∃ (s : State) (n : Nat), (s.hs n).quiet < 8) ∧
    (∃ (s : State) (n : Nat), n < 40 ∧ s.pb (hsStat n) 3 = true) ∧
    (∃ (s : State) (n : Nat), n < 40 ∧ 1000 ≤ (s.hs n).quiet) ∧
    (∃ (s : State) (n : Nat), (s.hs n).quiet < 1000) ∧
    (∃ (s : State) (n : Nat) (us : Nat), n < 16 ∧ s.full = true ∧ s.pb (hsStat (24 + n)) 6 = true ∧ (s.hs (24 +
      n)).unfollow = false ∧ s.hsMay (24 + n) = true ∧ s.pf (0x2720 + n) 0 10 ≤ us) ∧
    (∃ (s : State) (n : Nat) (us : Nat), n < 16 ∧ s.full = true ∧ s.pb (hsStat (24 + n)) 6 = true ∧ us < s.pf
      (0x2720 + n) 0 10) ∧
    (∃ (s : State) (n : Nat), n < 8 ∧ (s.hs n).cont = 1) ∧
    (∃ (s : State) (w : Weld) (r : MeterRec), s.out.weld = some w ∧ w.chan < 8 ∧ (s.inst (s.pf 0x2730 8 3)).lastRec
      = some r ∧ bit r.mstat 2 = false ∧ bit r.mstat 3 = false ∧ s.weldEnds w (s.inst (s.pf 0x2730 8 3)).recTick =
      true) ∧
    (∃ (s : State) (w : Weld), s.out.weld = some w ∧ s.weldEnds w (s.inst (s.pf 0x2730 8 3)).recTick = false) ∧
    (∃ (s : State) (w : Weld), s.out.weld = some w ∧ w.chan < 8) ∧
    (∃ (s : State) (w : Weld) (r : MeterRec), s.out.weld = some w ∧ w.chan < 8 ∧ (s.inst (s.pf 0x2730 8 3)).lastRec
      = some r ∧ bit r.mstat 2 = false ∧ bit r.mstat 3 = false) :=
  ⟨⟨lit.updPg 15 (fun g => { g with period := 40000 }), 15, (by decide +kernel)⟩,
   ⟨put lit [(hsStat 39, 1)], 39, (by decide +kernel)⟩,
   ⟨put lit [(hsStat 0, 1)], 0, (by decide +kernel)⟩,
   ⟨put lit [(hsStat 39, 1)], 39, (by decide +kernel)⟩,
   ⟨put lit [(hsStat 0, 1)], 0, (by decide +kernel)⟩,
   ⟨put lit [(hsStat 0, 1)], 0, (by decide +kernel)⟩,
   ⟨(put lit [(hsStat 39, 4), (hsCfg 39, 0x140E)]).updHs 39 (fun c => { c with retry := true, quiet := 8 }), 39,
     (by decide +kernel)⟩,
   ⟨(put lit [(hsStat 0, 4)]).updHs 0 (fun c => { c with quiet := 9 }), 0, (by decide +kernel)⟩,
   ⟨lit.updHs 39 (fun c => { c with quiet := 7 }), 39, (by decide +kernel)⟩,
   ⟨put lit [(hsStat 39, 8)], 39, (by decide +kernel)⟩,
   ⟨lit.updHs 39 (fun c => { c with quiet := 1000 }), 39, (by decide +kernel)⟩,
   ⟨lit.updHs 39 (fun c => { c with quiet := 999 }), 39, (by decide +kernel)⟩,
   ⟨put lit [(hsStat 39, 64), (0x272F, 1000)], 15, 1000, (by decide +kernel)⟩,
   ⟨put lit [(hsStat 39, 64), (0x272F, 1000)], 15, 999, (by decide +kernel)⟩,
   ⟨lit.updHs 7 (fun c => { c with cont := 1 }), 7, (by decide +kernel)⟩,
   ⟨{ put (instS { Inst.d with lastRec := some meterR, recTick := 3 }) [(0x2730, 2 ^ 16)] with out := { Outs.start
     with weld := some ⟨7, 0, false⟩ } }, ⟨7, 0, false⟩, meterR, (by decide +kernel)⟩,
   ⟨{ lit with out := { Outs.start with weld := some ⟨7, 0, false⟩ } }, ⟨7, 0, false⟩, (by decide +kernel)⟩,
   ⟨{ lit with out := { Outs.start with weld := some ⟨7, 0, false⟩ } }, ⟨7, 0, false⟩, (by decide +kernel)⟩,
   ⟨{ instS { Inst.d with lastRec := some meterR } with out := { Outs.start with weld := some ⟨7, 0, false⟩ } },
     ⟨7, 0, false⟩, meterR, (by decide +kernel)⟩⟩

theorem witness_ValveEvents :
    (∃ (s : State) (c : Nat), c < 24 ∧ (s.vlv c).cur.isSome = true ∧ s.vlvRuns c = false ∧ s.pb 0x0300 16 = false ∧
      s.pb 0x0300 17 = false) ∧
    (∃ (s : State) (c : Nat), c < 24 ∧ s.pf (vlvStat c) 0 2 = 1) ∧
    (∃ (s : State) (c : Nat), c < 24 ∧ s.pf (vlvStat c) 0 2 = 1 ∧ s.evOn 27 = true) ∧
    (∃ (s : State) (c : Nat), c < 24 ∧ s.pf (vlvStat c) 0 2 = 1) ∧
    (∃ (s : State) (c : Nat) (t : Nat) (e : VEvent), c < 24 ∧ (s.vlv c).cur = some e ∧ e.stop = some t ∧ s.vlvRuns
      c = true) ∧
    (∃ (s : State) (c : Nat), c < 24 ∧ s.vlvRuns c = true ∧ s.evOn 27 = true) ∧
    (∃ (s : State) (b : Nat) (j : Nat), b < 6 ∧ j < 4 ∧ s.vlvRuns (4 * b + j) = true) ∧
    (∃ (s : State) (c : Nat) (t : Nat) (e : VEvent), c < 24 ∧ (s.vlv c).cur = some e ∧ e.kill = some t) ∧
    (∃ (s : State) (c : Nat), s.now + s.tUs < (s.vlv c).stopped + s.minOff c) ∧
    (∃ (s : State) (c : Nat), c < 24 ∧ s.pf (vlvStat c) 0 2 = 3 ∧ (s.vlv c).stopped + s.minOff c ≤ s.now + s.tUs) :=
  ⟨⟨put (lit.updVlv 23 (fun v => { v with cur := some ⟨1000, 7, some 2000, some 1500⟩ })) [(vlvStat 23, 0)], 23,
     (by decide +kernel)⟩,
   ⟨put (lit.updVlv 23 (fun v => { v with cur := some ⟨1000, 7, some 2000, some 1500⟩ })) [(vlvStat 23, 1)], 23,
     (by decide +kernel)⟩,
   ⟨put (lit.updVlv 0 (fun v => { v with cur := some ⟨1000, 7, some 2000, some 1500⟩ })) [(vlvStat 0, 1)], 0,
     (by decide +kernel)⟩,
   ⟨put (lit.updVlv 23 (fun v => { v with cur := some ⟨1000, 7, some 2000, some 1500⟩ })) [(vlvStat 23, 1)], 23,
     (by decide +kernel)⟩,
   ⟨put (lit.updVlv 23 (fun v => { v with cur := some ⟨1000, 7, some 2000, some 1500⟩ })) [(vlvStat 23, 2)], 23,
     2000, ⟨1000, 7, some 2000, some 1500⟩, (by decide +kernel)⟩,
   ⟨put (lit.updVlv 23 (fun v => { v with cur := some ⟨1000, 7, some 2000, some 1500⟩ })) [(vlvStat 23, 2)], 23,
     (by decide +kernel)⟩,
   ⟨put (lit.updVlv 23 (fun v => { v with cur := some ⟨1000, 7, some 2000, some 1500⟩ })) [(vlvStat 23, 1)], 5, 3,
     (by decide +kernel)⟩,
   ⟨put (lit.updVlv 23 (fun v => { v with cur := some ⟨1000, 7, some 2000, some 1500⟩ })) [(vlvStat 23, 2)], 23,
     1500, ⟨1000, 7, some 2000, some 1500⟩, (by decide +kernel)⟩,
   ⟨put (lit.updVlv 23 (fun v => { v with stopped := 2000 })) [(vlvCfg 23, 5)], 23, (by decide +kernel)⟩,
   ⟨put (lit.updVlv 23 (fun v => { v with cur := some ⟨1000, 7, some 2000, some 1500⟩ })) [(vlvStat 23, 3)], 23,
     (by decide +kernel)⟩⟩

theorem witness_BridgeEvents :
    (∃ (s : State) (b : Nat) (depth : Nat), b < 8 ∧ s.hbDrives b = true ∧ s.pf (0x2404 + 8 * b) 0 8 * 10 < depth) ∧
    (∃ (s : State) (b : Nat) (m : Move), b < 8 ∧ (s.hb b).move = some m ∧ (m.mode = 1 ∨ (m.mode = 2 ∧ m.left = 0))
      ∧ (s.hb b).backing = false) ∧
    (∃ (s : State) (b : Nat) (m : Move), b < 8 ∧ (s.hb b).move = some m ∧ (m.mode = 1 ∨ (m.mode = 2 ∧ m.left = 0))
      ∧ (s.hb b).backing = true) ∧
    (∃ (s : State) (b : Nat) (cur : Nat) (m : Move), b < 8 ∧ (s.hb b).move = some m ∧ (m.mode ≠ 2 ∨ s.pb (0x2405 +
      8 * b) 0 = false ∨ (s.hb b).backing = true) ∧ 5 * s.pf (0x2403 + 8 * b) 0 8 < cur ∧ m.mode ≠ 2) ∧
    (∃ (s : State) (b : Nat) (cur : Nat) (m : Move), b < 8 ∧ (s.hb b).move = some m ∧ (m.mode ≠ 2 ∨ s.pb (0x2405 +
      8 * b) 0 = false ∨ (s.hb b).backing = true) ∧ 5 * s.pf (0x2403 + 8 * b) 0 8 < cur ∧ (s.hb b).backing = true) ∧
    (∃ (s : State) (b : Nat) (cur : Nat) (m : Move), b < 8 ∧ (s.hb b).move = some m ∧ m.mode = 2 ∧ s.pb (0x2405 + 8
      * b) 0 = true ∧ (s.hb b).backing = false ∧ 5 * s.pf (0x2403 + 8 * b) 0 8 < cur) ∧
    (∃ (s : State) (b : Nat) (cur : Nat), cur ≤ 5 * s.pf (0x2403 + 8 * b) 0 8) ∧
    (∃ (s : State) (b : Nat) (m : Move), b < 8 ∧ (s.hb b).move = some m ∧ m.mode ≠ 1 ∧ s.evOn 30 = true) ∧
    (∃ (s : State) (b : Nat), b < 8 ∧ s.hbDrives b = true ∧ (s.hb b).move.isSome = true ∧ s.evOn 31 = true) ∧
    (∃ (s : State) (b : Nat), b < 8 ∧ s.hbState b = 3 ∧ (s.hb b).backing = false) ∧
    (∃ (s : State) (b : Nat), b < 8 ∧ s.hbState b = 3 ∧ (s.hb b).backing = true) ∧
    (∃ (s : State) (b : Nat) (m : Move), b < 8 ∧ (s.hb b).next = some m ∧ s.hbState b = 4 ∧ s.uvOn = false ∧ s.ovOn
      = false) :=
  ⟨⟨put lit [(hbStat 7, 2)], 7, 201, (by decide +kernel)⟩,
   ⟨put (lit.updHb 7 (fun h => { h with move := some ⟨1, 1, 5⟩ })) [(hbStat 7, 1)], 7, ⟨1, 1, 5⟩,
     (by decide +kernel)⟩,
   ⟨put (lit.updHb 7 (fun h => { h with move := some ⟨1, 1, 0⟩, backing := true })) [(hbStat 7, 1)], 7, ⟨1, 1, 0⟩,
     (by decide +kernel)⟩,
   ⟨put (lit.updHb 7 (fun h => { h with move := some ⟨1, 1, 5⟩ })) [(hbStat 7, 1), (0x243B, 3)], 7, 16, ⟨1, 1, 5⟩,
     (by decide +kernel)⟩,
   ⟨put (lit.updHb 7 (fun h => { h with move := some ⟨1, 2, 5⟩, backing := true })) [(hbStat 7, 1), (0x243D, 1),
     (0x243B, 3)], 7, 16, ⟨1, 2, 5⟩, (by decide +kernel)⟩,
   ⟨put (lit.updHb 7 (fun h => { h with move := some ⟨1, 2, 9⟩ })) [(hbStat 7, 1), (0x243D, 0x2801), (0x243B, 3)],
     7, 16, ⟨1, 2, 9⟩, (by decide +kernel)⟩,
   ⟨put (lit.updHb 7 (fun h => { h with move := some ⟨1, 2, 9⟩ })) [(hbStat 7, 1), (0x243B, 3)], 7, 15,
     (by decide +kernel)⟩,
   ⟨put (lit.updHb 7 (fun h => { h with move := some ⟨1, 0, 0⟩ })) [(hbStat 7, 1)], 7, ⟨1, 0, 0⟩,
     (by decide +kernel)⟩,
   ⟨put (lit.updHb 7 (fun h => { h with move := some ⟨1, 0, 0⟩ })) [(hbStat 7, 1)], 7, (by decide +kernel)⟩,
   ⟨put lit [(hbStat 7, 3)], 7, (by decide +kernel)⟩,
   ⟨put (lit.updHb 7 (fun h => { h with backing := true })) [(hbStat 7, 3)], 7, (by decide +kernel)⟩,
   ⟨put (lit.updHb 7 (fun h => { h with next := some ⟨2, 0, 0⟩ })) [(hbStat 7, 4)], 7, ⟨2, 0, 0⟩,
     (by decide +kernel)⟩⟩

theorem witness_MotorEvents :
    (∃ (s : State) (m : Nat), m < 4 ∧ s.motState m = 1) ∧
    (∃ (s : State) (m : Nat) (rpm : Int), m < 4 ∧ s.motState m = 2 ∧ -(100 * s.motAlong m rpm) < (s.pf (0x2501 + 16
      * m) 16 8 : Int) * s.pf (motCfg m) 0 16) ∧
    (∃ (s : State) (m : Nat) (rpm : Int), (s.pf (0x2501 + 16 * m) 16 8 : Int) * s.pf (motCfg m) 0 16 ≤ -(100 *
      s.motAlong m rpm)) ∧
    (∃ (s : State) (m : Nat), m < 4 ∧ s.motState m = 2) ∧
    (∃ (s : State) (m : Nat), m < 4 ∧ s.motState m = 3 ∧ (s.mot m).braked = false) ∧
    (∃ (s : State) (m : Nat), m < 4 ∧ s.motState m = 4) ∧
    (∃ (s : State) (m : Nat) (rpm : Int), 100 * s.motAlong m rpm < (s.pf (0x2503 + 16 * m) 16 6 : Int) * s.pf
      (motCfg m) 0 16) ∧
    (∃ (s : State) (m : Nat) (rpm : Int), m < 4 ∧ s.motState m = 5 ∧ (s.pf (0x2503 + 16 * m) 16 6 : Int) * s.pf
      (motCfg m) 0 16 ≤ 100 * s.motAlong m rpm ∧ (s.mot m).target ≥ 0) ∧
    (∃ (s : State) (m : Nat) (rpm : Int), m < 4 ∧ s.motState m = 5 ∧ (s.pf (0x2503 + 16 * m) 16 6 : Int) * s.pf
      (motCfg m) 0 16 ≤ 100 * s.motAlong m rpm ∧ (s.mot m).target < 0) ∧
    (∃ (s : State) (m : Nat), m < 4 ∧ s.motState m = 5) ∧
    (∃ (s : State) (m : Nat) (rpm : Int), m < 4 ∧ s.motState m = 6 ∧ (s.mot m).starting = true ∧ 100 * (rpm -
      (s.mot m).target).natAbs ≤ 3 * (s.mot m).target.natAbs ∧ s.evOn 32 = true) ∧
    (∃ (s : State) (m : Nat) (rpm : Int), 3 * (s.mot m).target.natAbs < 100 * (rpm - (s.mot m).target).natAbs) ∧
    (∃ (s : State) (m : Nat) (cause : Nat) (amount : Nat) (periods : Nat), ((cause = 0 ∧ (amount ≤ s.pf (0x2504 +
      16 * m) 0 8 ∨ periods < s.pf (0x2504 + 16 * m) 8 8)) ∨ (cause = 1 ∧ 100 * amount ≤ s.pf (0x2504 + 16 * m) 16
      8 * s.pf (motCfg m) 0 16) ∨ 2 ≤ cause)) ∧
    (∃ (s : State) (m : Nat) (cause : Nat) (amount : Nat) (periods : Nat), m < 4 ∧ s.motState m = 6 ∧ ((cause = 0 ∧
      s.pf (0x2504 + 16 * m) 0 8 < amount ∧ s.pf (0x2504 + 16 * m) 8 8 ≤ periods) ∨ (cause = 1 ∧ s.pf (0x2504 + 16
      * m) 16 8 * s.pf (motCfg m) 0 16 < 100 * amount)) ∧ s.evOn 34 = true ∧ (s.mot m).down ≠ 1) ∧
    (∃ (s : State) (m : Nat) (cause : Nat) (amount : Nat) (periods : Nat), m < 4 ∧ s.motState m = 6 ∧ ((cause = 0 ∧
      s.pf (0x2504 + 16 * m) 0 8 < amount ∧ s.pf (0x2504 + 16 * m) 8 8 ≤ periods) ∨ (cause = 1 ∧ s.pf (0x2504 + 16
      * m) 16 8 * s.pf (motCfg m) 0 16 < 100 * amount)) ∧ cause = 1 ∧ (s.mot m).down = 1) ∧
    (∃ (s : State) (m : Nat), m < 4 ∧ s.motState m = 0 ∧ (s.mot m).recatch = true) ∧
    (∃ (s : State) (m : Nat) (kind : Nat), m < 4 ∧ (kind = 2 ∨ kind = 3) ∧ s.motState m ≠ 7) ∧
    (∃ (s : State) (m : Nat), m < 4 ∧ s.motState m = 6 ∧ (s.mot m).down = 1) ∧
    (∃ (s : State) (m : Nat), m < 4 ∧ s.motState m = 6 ∧ (s.mot m).down = 2) :=
  ⟨⟨put lit [(0x2538, 1)], 3, (by decide +kernel)⟩,
   ⟨put lit [(motStat 3, 2), (motCfg 3, 3000), (0x2531, 10 * 2 ^ 16)], 3, -299, (by decide +kernel)⟩,
   ⟨put lit [(motStat 3, 2), (motCfg 3, 3000), (0x2531, 10 * 2 ^ 16)], 3, -300, (by decide +kernel)⟩,
   ⟨put lit [(0x2538, 2)], 3, (by decide +kernel)⟩,
   ⟨put lit [(0x2538, 3)], 3, (by decide +kernel)⟩,
   ⟨put lit [(0x2538, 4)], 3, (by decide +kernel)⟩,
   ⟨put lit [(motStat 3, 5), (motCfg 3, 3000), (0x2533, 10 * 2 ^ 16)], 3, 299, (by decide +kernel)⟩,
   ⟨put lit [(motStat 3, 5), (motCfg 3, 3000), (0x2533, 10 * 2 ^ 16)], 3, 300, (by decide +kernel)⟩,
   ⟨put (lit.updMot 3 (fun m => { m with target := -1000 })) [(motStat 3, 5), (motCfg 3, 3000), (0x2533, 10 * 2 ^
     16)], 3, -300, (by decide +kernel)⟩,
   ⟨put lit [(0x2538, 5)], 3, (by decide +kernel)⟩,
   ⟨put (lit.updMot 3 (fun m => { m with starting := true, target := -1000 })) [(motStat 3, 6)], 3, -1030,
     (by decide +kernel)⟩,
   ⟨lit.updMot 3 (fun m => { m with target := -1000 }), 3, -1031, (by decide +kernel)⟩,
   ⟨put lit [(0x2534, 0x050A14)], 3, 0, 20, 255, (by decide +kernel)⟩,
   ⟨put lit [(motStat 3, 6), (0x2534, 0x050A14)], 3, 0, 21, 10, (by decide +kernel)⟩,
   ⟨put (lit.updMot 3 (fun m => { m with down := 1 })) [(motStat 3, 6), (motCfg 3, 3000), (0x2534, 0x050A14)], 3,
     1, 151, 0, (by decide +kernel)⟩,
   ⟨put (lit.updMot 3 (fun m => { m with recatch := true })) [(0x2538, 0)], 3, (by decide +kernel)⟩,
   ⟨put lit [(0x2538, 6)], 3, 2, (by decide +kernel)⟩,
   ⟨put (lit.updMot 3 (fun m => { m with down := 1 })) [(0x2538, 6)], 3, (by decide +kernel)⟩,
   ⟨put (lit.updMot 3 (fun m => { m with down := 2, starting := true, target := 100 })) [(0x2538, 6)], 3,
     (by decide +kernel)⟩⟩

theorem witness_WorkersAnswerWrites :
    (∃ (s : State) (w : Nat) (h : WHdr), (s.wk w).runs = true ∧ h.dest ≠ 0 ∧ h.dest ≠ (s.wk w).addr) ∧
    (∃ (s : State) (w : Nat) (h : WHdr), FrameReaches s w h ∧ (s.wk w).accepts h = false) ∧
    (∃ (s : State) (w : Nat) (h : WHdr), (s.wk w).runs = true ∧ h.dest = 0 ∧ (s.wk w).accepts h = false) ∧
    (∃ (s : State) (w : Nat) (h : WHdr), WorkerTakes s w { h with dest := (s.wk w).addr } ∧ h.dest = 0) ∧
    (∃ (s : State) (w : Nat) (h : WHdr), WorkerTakes s w h) ∧
    (∃ (s : State) (w : Nat) (index : Nat) (h : WHdr), WorkerTakes s w h ∧ index < 24) ∧
    (∃ (s : State) (w : Nat) (index : Nat) (h : WHdr), WorkerTakes s w h ∧ index < 4 ∧ (s.wk w).hasStaged 0x31 4 =
      true) ∧
    (∃ (s : State) (w : Nat) (h : WHdr), WorkerTakes s w h ∧ (s.wk w).hasStaged 0x36 1 = true) ∧
    (∃ (s : State) (w : Nat) (h : WHdr), WorkerTakes s w h ∧ (s.wk w).flare.st = 3) ∧
    (∃ (s : State) (w : Nat) (h : WHdr) (v : Word), WorkerTakes s w h ∧ (s.wk w).hasStaged 0x100 24 = true ∧
      v.toNat < 8 ∧ snapGood ((s.wk w).stagedAt 0x100 24) = true) ∧
    (∃ (s : State) (w : Nat) (h : WHdr), WorkerTakes s w h ∧ (s.wk w).restarted = false ∧ (s.wk w).di < 4) ∧
    (∃ (s : State) (w : Nat) (h : WHdr), WorkerTakes s w h) ∧
    (∃ (s : State) (w : Nat) (h : WHdr), WorkerTakes s w h ∧ (s.wk w).meter = false ∧ (s.wk w).hasStaged 0x10 1 =
      false ∧ (s.wk w).hasStaged 0x20 11 = false ∧ (s.wk w).hasStaged 0x31 4 = false ∧ (s.wk w).hasStaged 0x36 1 =
      false ∧ (s.wk w).hasStaged 0x100 24 = false) ∧
    (∃ (s : State) (w : Nat) (index : Nat) (h : WHdr), WorkerTakes s w h ∧ (s.wk w).meter = false ∧ index < 11) ∧
    (∃ (s : State) (w : Nat) (h : WHdr), WorkerTakes s w h ∧ (s.wk w).meter = false ∧ (s.wk w).hasStaged 0x10 1 =
      true) ∧
    (∃ (s : State) (w : Nat) (h : WHdr), WorkerTakes s w h ∧ (s.wk w).meter = false ∧ (s.wk w).hasStaged 0x20 11 =
      true) ∧
    (∃ (s : State) (w : Nat) (h : WHdr), WorkerTakes s w h) ∧
    (∃ (s : State) (w : Nat) (h : WHdr), WorkerTakes s w h ∧ (s.wk w).meter = true ∧ (s.wk w).hasStaged 0x120 15 =
      false) ∧
    (∃ (s : State) (w : Nat) (index : Nat) (h : WHdr), WorkerTakes s w h ∧ (s.wk w).meter = true ∧ index < 15) ∧
    (∃ (s : State) (w : Nat) (h : WHdr), WorkerTakes s w h ∧ (s.wk w).meter = true ∧ (s.wk w).hasStaged 0x120 15 =
      true) ∧
    (∃ (s : State) (w : Nat) (index : Nat) (h : WHdr) (v : Word) (r : PRow), WorkerTakes s w h ∧ wkRow (s.wk
      w).meter index = some r ∧ 2 < index ∧ r.allRo = false ∧ r.inRange (fun a => a != .ro) v.toNat = true) ∧
    (∃ (s : State) (w : Nat) (index : Nat) (h : WHdr) (v : Word) (r : PRow), WorkerTakes s w h ∧ wkRow (s.wk
      w).meter index = some r ∧ 2 < index ∧ r.allRo = false ∧ r.inRange (fun a => a != .ro) v.toNat = false) ∧
    (∃ (s : State) (w : Nat) (h : WHdr), WorkerTakes s w h) ∧
    (∃ (s : State) (w : Nat) (h : WHdr), WorkerTakes s w h ∧ (s.wk w).tphase ≠ 1 ∧ (s.wk w).restarted = false ∧
      (s.wk w).di < 4) ∧
    (∃ (s : State) (w : Nat) (h : WHdr), WorkerTakes s w h ∧ (s.wk w).tphase = 1) :=
  ⟨⟨wks run, 1, { hd with dest := 2 }, (by decide +kernel)⟩,
   ⟨wks run, 1, { hd with role := 1 }, (by decide +kernel)⟩,
   ⟨wks run, 1, { hd with role := 1, dest := 0 }, (by decide +kernel)⟩,
   ⟨wks run, 1, { hd with dest := 0 }, (by decide +kernel)⟩,
   ⟨wks run, 1, hd, (by unfold WorkerTakes; decide +kernel)⟩,
   ⟨wks run, 1, 4, hd, (by unfold WorkerTakes; decide +kernel)⟩,
   ⟨wks { run with staged := (List.range 4).map (fun i => (0x31 + i, i)) }, 1, 3, hd,
     (by unfold WorkerTakes; decide +kernel)⟩,
   ⟨wks { run with staged := (List.range 1).map (fun i => (0x36 + i, i)) }, 1, hd,
     (by unfold WorkerTakes; decide +kernel)⟩,
   ⟨wks { run with flare := { WkFlare.d with st := 3 } }, 1, hd, (by unfold WorkerTakes; decide +kernel)⟩,
   ⟨wks { run with staged := shardWords }, 1, hd, 7, (by unfold WorkerTakes; decide +kernel), (by decide +kernel),
     (by decide +kernel), shardWords_good⟩,
   ⟨wks run, 1, hd, (by unfold WorkerTakes; decide +kernel)⟩,
   ⟨wks run, 1, hd, (by unfold WorkerTakes; decide +kernel)⟩,
   ⟨wks run, 1, hd, (by unfold WorkerTakes; decide +kernel)⟩,
   ⟨wks run, 1, 10, hd, (by unfold WorkerTakes; decide +kernel)⟩,
   ⟨wks { run with staged := (List.range 1).map (fun i => (0x10 + i, i)) }, 1, hd,
     (by unfold WorkerTakes; decide +kernel)⟩,
   ⟨wks { run with staged := (List.range 11).map (fun i => (0x20 + i, i)) }, 1, hd,
     (by unfold WorkerTakes; decide +kernel)⟩,
   ⟨wks run, 1, hd, (by unfold WorkerTakes; decide +kernel)⟩,
   ⟨wks { run with meter := true }, 1, hd, (by unfold WorkerTakes; decide +kernel)⟩,
   ⟨wks { run with meter := true }, 1, 0, hd, (by unfold WorkerTakes; decide +kernel)⟩,
   ⟨wks { run with staged := (List.range 15).map (fun i => (0x120 + i, i)), meter := true }, 1, hd,
     (by unfold WorkerTakes; decide +kernel)⟩,
   ⟨wks run, 1, 8, hd, 24, ⟨0x08, 1, 1, .const, 24, [frr 0 5 1 24]⟩, (by unfold WorkerTakes; decide +kernel)⟩,
   ⟨wks run, 1, 8, hd, 25, ⟨0x08, 1, 1, .const, 24, [frr 0 5 1 24]⟩, (by unfold WorkerTakes; decide +kernel)⟩,
   ⟨wks run, 1, hd, (by unfold WorkerTakes; decide +kernel)⟩,
   ⟨{ wks { run with di := 3 } with sys := lit.sys }, 1, hd, (by unfold WorkerTakes; decide +kernel)⟩,
   ⟨wks { run with tphase := 1 }, 1, hd, (by unfold WorkerTakes; decide +kernel)⟩⟩

theorem witness_WorkerFramesAndCommits :
    (∃ (k : Wk) (m : Nat) (v : Nat), k.pend = [(0x11, v, [m])]) ∧
    (∃ (k : Wk), k.pend = []) ∧
    (∃ (k : Wk) (v : Nat), k.pend = [] ∧ k.refresh = some v ∧ k.restarted = false) ∧
    (∃ (k : Wk), k.pend = [] ∧ k.refresh = none ∧ k.slow = false ∧ k.stSafe = false ∧ k.stMiss < fld (k.p 0x48) 0
      8) ∧
    (∃ (k : Wk), k.pend = [] ∧ k.refresh = none ∧ k.slow = false ∧ k.stSafe = false ∧ k.stMiss = fld (k.p 0x48) 0
      8) :=
  ⟨⟨{ run with pend := [(0x11, 60, [5])], staged := [(0x10, 5)] }, 5, 60, (by decide +kernel)⟩,
   ⟨{ run with balMask := 5, balLeft := 2 }, (by decide +kernel)⟩,
   ⟨{ run with refresh := some 3 }, 3, (by decide +kernel)⟩,
   ⟨{ run with slow := false, stSafe := false, stMiss := 7 }, (by decide +kernel)⟩,
   ⟨{ run with slow := false, stSafe := false, stMiss := 8 }, (by decide +kernel)⟩⟩

theorem witness_WorkersAnswerReads :
    (∃ (s : State) (w : Nat) (h : WHdr), (s.wk w).runs = true ∧ h.dest ≠ 0 ∧ h.dest ≠ (s.wk w).addr) ∧
    (∃ (s : State) (w : Nat) (index : Nat) (h : WHdr), FrameReaches s w h ∧ index < 0x200) ∧
    (∃ (s : State) (w : Nat) (index : Nat) (h : WHdr), (s.wk w).runs = true ∧ h.dest = 0 ∧ index < 0x200 ∧ (wkRow
      (s.wk w).meter index).isSome = true) ∧
    (∃ (s : State) (w : Nat) (inst : Nat) (half : Nat) (k : Nat) (h : WHdr), FrameReaches s w h ∧ inst < 8 ∧ half <
      2 ∧ k < 32) ∧
    (∃ (s : State) (w : Nat) (h : WHdr), FrameReaches s w h) ∧
    (∃ (s : State) (w : Nat) (e : Nat) (k : Nat) (h : WHdr) (x : WkJ), FrameReaches s w h ∧ e < 512 ∧ k < 8 ∧
      Tbl.find (s.wk w).journal e = some x) ∧
    (∃ (s : State) (w : Nat) (back : Nat) (h : WHdr), FrameReaches s w h ∧ 3 < back) ∧
    (∃ (s : State) (w : Nat) (back : Nat) (h : WHdr), FrameReaches s w h ∧ back ≤ 3 ∧ (s.wk w).held.find? (fun r =>
      r.tick + back == (s.wk w).tick) = none) ∧
    (∃ (s : State) (w : Nat) (back : Nat) (h : WHdr) (r : ResultRec), FrameReaches s w h ∧ back ≤ 3 ∧ (s.wk
      w).held.find? (fun r => r.tick + back == (s.wk w).tick) = some r) ∧
    (∃ (s : State) (w : Nat) (h : WHdr), FrameReaches s w h ∧ (s.wk w).flare.st ≠ 3 ∧ (s.wk w).raw = []) ∧
    (∃ (s : State) (w : Nat) (index : Nat) (h : WHdr), FrameReaches s w h ∧ (((s.wk w).flare.st = 3 ∧ 20480 ≤
      index) ∨ ((s.wk w).flare.st ≠ 3 ∧ (s.wk w).raw ≠ [] ∧ (s.wk w).raw.length ≤ index)) ∧ (s.wk w).flare.st = 3) ∧
    (∃ (s : State) (w : Nat) (index : Nat) (h : WHdr), FrameReaches s w h ∧ (((s.wk w).flare.st = 3 ∧ 20480 ≤
      index) ∨ ((s.wk w).flare.st ≠ 3 ∧ (s.wk w).raw ≠ [] ∧ (s.wk w).raw.length ≤ index)) ∧ (s.wk w).flare.st ≠ 3) ∧
    (∃ (s : State) (w : Nat) (index : Nat) (h : WHdr), FrameReaches s w h ∧ (((s.wk w).flare.st = 3 ∧ index <
      20480) ∨ ((s.wk w).flare.st ≠ 3 ∧ index < (s.wk w).raw.length)) ∧ (s.wk w).flare.st = 3) ∧
    (∃ (s : State) (w : Nat) (index : Nat) (h : WHdr), FrameReaches s w h ∧ (((s.wk w).flare.st = 3 ∧ index <
      20480) ∨ ((s.wk w).flare.st ≠ 3 ∧ index < (s.wk w).raw.length)) ∧ (s.wk w).flare.st ≠ 3) :=
  ⟨⟨wks run, 1, { hd with dest := 63 }, (by decide +kernel)⟩,
   ⟨wks run, 1, 0x1FF, hd, (by decide +kernel)⟩,
   ⟨wks run, 1, 8, { hd with dest := 0 }, (by decide +kernel)⟩,
   ⟨wks run, 1, 7, 1, 31, hd, (by decide +kernel)⟩,
   ⟨wks run, 1, hd, (by decide +kernel)⟩,
   ⟨wks { run with journal := [(511, ⟨511, 0, 0, 0, 0, 0, 0⟩)] }, 1, 511, 7, hd, ⟨511, 0, 0, 0, 0, 0, 0⟩,
     (by decide +kernel)⟩,
   ⟨wks run, 1, 4, hd, (by decide +kernel)⟩,
   ⟨wks { run with tick := 5, held := [cellRes 1] }, 1, 3, hd, (by decide +kernel)⟩,
   ⟨wks { run with tick := 5, held := [cellRes 2] }, 1, 3, hd, cellRes 2, (by decide +kernel)⟩,
   ⟨wks run, 1, hd, (by decide +kernel)⟩,
   ⟨wks { run with flare := { WkFlare.d with st := 3, rows := [[1], [2]] } }, 1, 20480, hd, (by decide +kernel)⟩,
   ⟨wks { run with raw := [[1], [2]] }, 1, 2, hd, (by decide +kernel)⟩,
   ⟨wks { run with flare := { WkFlare.d with st := 3, rows := [[1], [2]] } }, 1, 20479, hd, (by decide +kernel)⟩,
   ⟨wks { run with raw := [[1], [2]] }, 1, 1, hd, (by decide +kernel)⟩⟩

theorem witness_WorkerTiming :
    (∃ (s : State) (w : Nat) (h : WHdr) (f : SyncF), (s.wk w).mode ≠ 0 ∧ h.dest = 0 ∧ bit f.flags 0 = true ∧
      f.first ≤ (s.wk w).addr ∧ (s.wk w).addr ≤ f.last ∧ (s.wk w).addr ≠ 0 ∧ ((s.wk w).sync = none ∨ f.tick % 2 ^
      48 ≠ (s.wk w).tick ∨ (f.fromEnd = 0 ∧ (s.wk w).sync ≠ some 0)) ∧ f.tick % 2 ^ 48 ≠ (s.wk w).tick) ∧
    (∃ (s : State) (w : Nat) (h : WHdr) (f : SyncF), (s.wk w).mode ≠ 0 ∧ h.dest = 0 ∧ bit f.flags 0 = true ∧
      f.first ≤ (s.wk w).addr ∧ (s.wk w).addr ≤ f.last ∧ (s.wk w).addr ≠ 0 ∧ ((s.wk w).sync = none ∨ f.tick % 2 ^
      48 ≠ (s.wk w).tick ∨ (f.fromEnd = 0 ∧ (s.wk w).sync ≠ some 0)) ∧ f.tick % 2 ^ 48 = (s.wk w).tick) ∧
    (∃ (s : State) (w : Nat) (h : WHdr) (f : SyncF), (s.wk w).mode ≠ 0 ∧ h.dest = 0 ∧ (bit f.flags 0 = false ∨
      (s.wk w).addr < f.first ∨ f.last < (s.wk w).addr ∨ (s.wk w).addr = 0) ∧ bit f.flags 0 = false) ∧
    (∃ (s : State) (w : Nat) (h : WHdr) (f : SyncF), (s.wk w).mode ≠ 0 ∧ h.dest = 0 ∧ (bit f.flags 0 = false ∨
      (s.wk w).addr < f.first ∨ f.last < (s.wk w).addr ∨ (s.wk w).addr = 0) ∧ (s.wk w).addr = 0) ∧
    (∃ (k : Wk), k.tphase = 2) ∧
    (∃ (k : Wk), k.tphase = 1) ∧
    (∃ (k : Wk), k.tphase = 0) ∧
    (∃ (s : State) (w : Nat), (s.wk w).runs = true ∧ 64 ≤ (s.wk w).fly ∧ (s.wk w).own = false) ∧
    (∃ (s : State) (x : WkSample), (s.wk x.w).runs = true ∧ (s.wk x.w).sync = none ∧ (∀ r ∈ (s.wk x.w).held, r.tick
      ≠ ((s.wk x.w).tick + 1) % 2 ^ 48)) ∧
    (∃ (s : State) (w : Nat), (s.wk w).runs = true ∧ (s.wk w).bank = true) ∧
    (∃ (s : State) (w : Nat) (lane : Nat), (s.wk w).mode = 2 ∧ lane < 2) ∧
    (∃ (s : State) (x : WkSample), (s.wk x.w).mode = 2) :=
  ⟨⟨wks { run with tick := 4 }, 1, { hd with dest := 0 }, sync, (by decide +kernel)⟩,
   ⟨wks { run with tick := 5 }, 1, { hd with dest := 0 }, { sync with flags := 5 }, (by decide +kernel)⟩,
   ⟨wks run, 1, { hd with dest := 0 }, { sync with flags := 0 }, (by decide +kernel)⟩,
   ⟨wks { run with addr := 0 }, 1, { hd with dest := 0 }, sync, (by decide +kernel)⟩,
   ⟨{ run with tphase := 2 }, (by decide +kernel)⟩,
   ⟨{ run with tphase := 1 }, (by decide +kernel)⟩,
   ⟨{ run with tphase := 0 }, (by decide +kernel)⟩,
   ⟨wks { run with fly := 64 }, 1, (by decide +kernel)⟩,
   ⟨wks run, samp, (by decide +kernel)⟩,
   ⟨wks { run with bank := true }, 1, (by decide +kernel)⟩,
   ⟨wks { run with mode := 2 }, 1, 1, (by decide +kernel)⟩,
   ⟨wks { run with mode := 2 }, samp, (by decide +kernel)⟩⟩

theorem witness_WorkerAddressesAndLeases :
    (∃ (s : State) (w : Nat) (count : Nat), (s.wk w).mode ≠ 0 ∧ count < 63) ∧
    (∃ (s : State) (w : Nat), (s.wk w).mode ≠ 0) ∧
    (∃ (s : State) (w : Nat), (s.wk w).mode ≠ 0) ∧
    (∃ (s : State) (w : Nat) (count : Nat) (total : Nat), (s.wk w).mode ≠ 0 ∧ count < total ∧ total ≤ 63) ∧
    (∃ (lane : Nat), lane < 2) ∧
    (∃ (s : State) (w : Nat) (h : WHdr), FrameReaches s w h) ∧
    (∃ (s : State) (w : Nat) (h : WHdr), (s.wk w).runs = true ∧ h.dest ≠ 0 ∧ h.dest ≠ (s.wk w).addr) ∧
    (∃ (s : State) (w : Nat) (h : WHdr) (f : LeaseF), (s.wk w).runs = true ∧ h.dest = 0 ∧ (s.wk w).covered f = true
      ∧ f.role = (s.wk w).owner ∧ f.role ≠ 0 ∧ f.epoch = (s.wk w).epoch) ∧
    (∃ (s : State) (w : Nat) (h : WHdr) (f : LeaseF), (s.wk w).runs = true ∧ h.dest = 0 ∧ (s.wk w).covered f = true
      ∧ f.role = 1) ∧
    (∃ (s : State) (w : Nat) (h : WHdr) (f : LeaseF), (s.wk w).runs = true ∧ h.dest = 0 ∧ (s.wk w).covered f = true
      ∧ f.role = 2) ∧
    (∃ (s : State) (w : Nat) (h : WHdr) (f : LeaseF), (s.wk w).runs = true ∧ h.dest = 0 ∧ (s.wk w).covered f =
      false) ∧
    (∃ (k : Wk), (k.owner = 0 ∨ k.remain = 0) ∧ (k.lsA = true ∨ k.lsB = true)) ∧
    (∃ (k : Wk), k.owner ≠ 0 ∧ k.remain ≠ 0 ∧ k.lsRel = false) ∧
    (∃ (k : Wk), k.owner ≠ 0 ∧ k.remain ≠ 0 ∧ k.lsRel = true) :=
  ⟨⟨wks run, 1, 62, (by decide +kernel)⟩,
   ⟨wks run, 1, (by decide +kernel)⟩,
   ⟨wks run, 1, (by decide +kernel)⟩,
   ⟨wks run, 1, 62, 63, (by decide +kernel)⟩,
   ⟨1, (by decide +kernel)⟩,
   ⟨wks run, 1, hd, (by decide +kernel)⟩,
   ⟨wks run, 1, { hd with dest := 2 }, (by decide +kernel)⟩,
   ⟨wks { run with params := [(3, BitVec.ofNat 32 (1 + 8 * 4 + 65536))] }, 1, { hd with dest := 0 }, lease 1 0 1,
     (by decide +kernel)⟩,
   ⟨wks run, 1, { hd with dest := 0 }, lease 1 1 0, (by decide +kernel)⟩,
   ⟨wks run, 1, { hd with dest := 0 }, lease 2 1 0, (by decide +kernel)⟩,
   ⟨wks run, 1, { hd with dest := 0 }, { lease 1 1 0 with first := 2 }, (by decide +kernel)⟩,
   ⟨{ run with lsA := true, lsB := true }, (by decide +kernel)⟩,
   ⟨{ run with params := [(3, BitVec.ofNat 32 (1 + 8 * 4 + 65536))] }, (by decide +kernel)⟩,
   ⟨{ run with lsRel := true, params := [(3, BitVec.ofNat 32 (1 + 1 * 4 + 65536))] }, (by decide +kernel)⟩⟩

theorem witness_WorkerLanesAndPower :
    (∃ (s : State) (w : Nat) (lane : Nat), (s.wk w).runs = true ∧ lane < 2 ∧ (if lane = 0 then (s.wk w).lostA else
      (s.wk w).lostB) = false) ∧
    (∃ (s : State) (w : Nat) (lane : Nat), (s.wk w).runs = true ∧ lane < 2) ∧
    (∃ (s : State) (w : Nat) (m : Bool) (serial : Nat), (s.wk w).mode = 0 ∧ (s.wk w).serial = serial ∧ (s.wk
      w).meter = m) ∧
    (∃ (s : State) (w : Nat) (m : Bool) (serial : Nat), (s.wk w).mode = 0 ∧ ((s.wk w).serial ≠ serial ∨ (s.wk
      w).meter ≠ m) ∧ (s.wk w).serial ≠ serial) ∧
    (∃ (s : State) (w : Nat) (m : Bool) (serial : Nat), (s.wk w).mode = 0 ∧ ((s.wk w).serial ≠ serial ∨ (s.wk
      w).meter ≠ m) ∧ (s.wk w).serial = serial) ∧
    (∃ (s : State) (w : Nat), (s.wk w).mode ≠ 0) ∧
    (∃ (s : State) (w : Nat) (i : Nat), (s.wk w).runs = true ∧ i < 4 ∧ stnGet (s.wk w).outs i ≠ 0) :=
  ⟨⟨wks run, 1, 0, (by decide +kernel)⟩,
   ⟨wks run, 1, 1, (by decide +kernel)⟩,
   ⟨wks { Wk.d with serial := 5 }, 1, false, 5, (by decide +kernel)⟩,
   ⟨wks Wk.d, 1, true, 5, (by decide +kernel)⟩,
   ⟨wks Wk.d, 1, true, 0, (by decide +kernel)⟩,
   ⟨wks { run with outs := 5 }, 1, (by decide +kernel)⟩,
   ⟨wks { run with outs := 1 }, 1, 0, (by decide +kernel)⟩⟩

theorem witness_WorkerInstants :
    (∃ (s : State) (w : Nat) (j : Nat) (x : Wire), Tbl.find (s.wk w).wires j = some x ∧ x.isOpen = false) ∧
    (∃ (s : State) (w : Nat), (s.wk w).runs = true ∧ (s.wk w).meter = false ∧ (s.wk w).slow = false ∧ s.pf 0x1105 0
      16 ≠ 0 ∧ (s.wk w).rt = 0 ∧ (s.wk w).impCells = 0) ∧
    (∃ (s : State) (w : Nat), (s.wk w).runs = true ∧ (s.wk w).meter = false ∧ (s.wk w).slow = false ∧ s.pf 0x1105 0
      16 ≠ 0 ∧ (s.wk w).rt = 0 ∧ (s.wk w).impCells ≠ 0) ∧
    (∃ (s : State) (w : Nat), (s.wk w).runs = true) ∧
    (∃ (s : State) (w : Nat), (s.wk w).runs = true ∧ (s.wk w).flare.st = 1 ∧ 4 ≤ wordByte (s.wk w).flare.trig 0 ∧
      wordByte (s.wk w).flare.trig 0 ≤ 6) ∧
    (∃ (s : State) (w : Nat) (m : WkImp), (s.wk w).runs = true ∧ (s.wk w).imp = some m ∧ m.running = false) ∧
    (∃ (m : WkImp) (c : Nat), (∀ φ, (c, φ) ∉ m.drive)) ∧
    (∃ (s : State) (w : Nat) (m : WkImp), (s.wk w).runs = true ∧ (s.wk w).imp = some m ∧ m.running = true ∧
      wordByte m.words 0 ≤ m.point + 1) ∧
    (∃ (s : State) (w : Nat) (m : WkImp), (s.wk w).runs = true ∧ (s.wk w).imp = some m ∧ m.running = true ∧ m.point
      + 1 < wordByte m.words 0) ∧
    (∃ (s : State) (w : Nat) (now : List Int) (ago : List Int), (s.wk w).runs = true ∧ (s.wk w).flare.st = 1 ∧
      trigMet (s.wk w).meter (s.wk w).flare.trig (flareSlots s.free (s.wk w).meter now) (flareSlots s.free (s.wk
      w).meter ago) = true) ∧
    (∃ (s : State) (w : Nat) (now : List Int) (ago : List Int), trigMet (s.wk w).meter (s.wk w).flare.trig
      (flareSlots s.free (s.wk w).meter now) (flareSlots s.free (s.wk w).meter ago) = false) ∧
    (∃ (trig : List Nat), wordByte trig 1 < 2 ∧ wordByte trig 1 ≠ 0xFF ∧ wordByte trig 0 = 4) ∧
    (∃ (trig : List Nat), wordByte trig 1 < 2 ∧ wordByte trig 1 ≠ 0xFF ∧ wordByte trig 0 = 5) ∧
    (∃ (trig : List Nat), wordByte trig 1 < 2 ∧ wordByte trig 1 ≠ 0xFF ∧ (wordByte trig 0 < 4 ∨ 6 < wordByte trig
      0)) ∧
    (∃ (k : Nat), 4 ≤ k ∧ k < 25) ∧
    (∃ (s : State) (w : Nat), (s.wk w).runs = true ∧ (s.wk w).flare.st = 2 ∧ (s.wk w).flare.mode = 0) :=
  ⟨⟨wks { run with wires := [(24, ⟨false, 1, 0, none, 0⟩)] }, 1, 24, ⟨false, 1, 0, none, 0⟩, (by decide +kernel)⟩,
   ⟨wks { run with slow := false }, 1, (by decide +kernel)⟩,
   ⟨wks { run with slow := false, imp := some ⟨[2, 1, 0, 0, 0, 0, 0, 0, 0, 0, 0], 0, 0, 0, true, 0, [], []⟩ }, 1,
     (by decide +kernel)⟩,
   ⟨wks { run with balMask := 1, balLeft := 5 }, 1, (by decide +kernel)⟩,
   ⟨wks { run with flare := { WkFlare.d with st := 1, trig := [4] } }, 1, (by decide +kernel)⟩,
   ⟨wks { run with imp := some ⟨[1, 0, 2 ^ 24 + 1, 0, 0, 0, 0, 0, 0, 0, 0], 0, 0, 0, false, 0, [], []⟩ }, 1, ⟨[1,
     0, 2 ^ 24 + 1, 0, 0, 0, 0, 0, 0, 0, 0], 0, 0, 0, false, 0, [], []⟩, (by decide +kernel)⟩,
   ⟨⟨[], 0, 0, 0, false, 0, [], []⟩, 24, by simp⟩,
   ⟨wks { run with imp := some ⟨[1, 0, 2 ^ 24 + 1, 0, 0, 0, 0, 0, 0, 0, 0], 0, 0, 0, true, 0, [], []⟩ }, 1, ⟨[1, 0,
     2 ^ 24 + 1, 0, 0, 0, 0, 0, 0, 0, 0], 0, 0, 0, true, 0, [], []⟩, (by decide +kernel)⟩,
   ⟨wks { run with imp := some ⟨[2, 1, 0, 0, 0, 0, 0, 0, 0, 0, 0], 0, 0, 0, true, 0, [], []⟩ }, 1, ⟨[2, 1, 0, 0, 0,
     0, 0, 0, 0, 0, 0], 0, 0, 0, true, 0, [], []⟩, (by decide +kernel)⟩,
   ⟨wks { run with meter := true, flare := { WkFlare.d with st := 1, trig := [4, 5] } }, 1, [600], [],
     (by decide +kernel)⟩,
   ⟨wks run, 1, [], [], (by decide +kernel)⟩,
   ⟨[4 + 256, 5], (by decide +kernel)⟩,
   ⟨[5 + 256, 5], (by decide +kernel)⟩,
   ⟨[7 + 256], (by decide +kernel)⟩,
   ⟨24, (by decide +kernel)⟩,
   ⟨wks { run with flare := { WkFlare.d with st := 2 } }, 1, (by decide +kernel)⟩⟩

theorem witness_ManagerTakesWorkerFrames :
    (∃ (s : State) (f : ResultF), s.awake = true ∧ f.ring < 4 ∧ 1 ≤ f.addr ∧ f.addr ≤ 63 ∧ f.crcOk = false) ∧
    (∃ (s : State) (ring : Nat), s.awake = true ∧ ring < 4) ∧
    (∃ (s : State) (f : ResultF), s.awake = true ∧ f.ring < 4 ∧ 1 ≤ f.addr ∧ f.addr ≤ 63 ∧ f.crcOk = true ∧ (s.view
      (wKey f.ring f.addr)).here = true ∧ (s.view (wKey f.ring f.addr)).lost = false ∧ (∀ e ∈ (s.view (wKey f.ring
      f.addr)).res, e.1.tick ≠ f.body.tick) ∧ (s.view (wKey f.ring f.addr)).res.length < 8 ∧ f.body.tick = s.tick ∧
      s.sys.tph ≤ 2) ∧
    (∃ (s : State) (f : ResultF), s.awake = true ∧ f.ring < 4 ∧ 1 ≤ f.addr ∧ f.addr ≤ 63 ∧ f.crcOk = true ∧ (s.view
      (wKey f.ring f.addr)).here = true ∧ (s.view (wKey f.ring f.addr)).lost = false ∧ (∀ e ∈ (s.view (wKey f.ring
      f.addr)).res, e.1.tick ≠ f.body.tick) ∧ (s.view (wKey f.ring f.addr)).res.length < 8 ∧ (f.body.tick ≠ s.tick
      ∨ 2 < s.sys.tph)) ∧
    (∃ (s : State) (ring : Nat) (addr : Nat) (seq : Nat) (st : Nat), s.awake = true ∧ ring < 4 ∧ (s.view (wKey ring
      addr)).ack = 1 ∧ (s.view (wKey ring addr)).refSeq = seq ∧ (s.view (wKey ring addr)).waits = [] ∧ (st = 0 ∨ st
      = 0x0302)) ∧
    (∃ (s : State) (ring : Nat) (addr : Nat) (seq : Nat) (x : PWait), s.awake = true ∧ ring < 4 ∧ (s.view (wKey
      ring addr)).waits = [x] ∧ x.rseq = seq) ∧
    (∃ (s : State) (ring : Nat) (addr : Nat) (k : Nat) (f : FlrMgr), s.full = true ∧ s.flrOf (wKey ring addr) =
      some (k, f) ∧ Tbl.find s.flue.flares k = some f ∧ f.mode = 1 ∧ f.st = 4 ∧ s.ethUp 0 = true ∧ f.rate ≤ 1) ∧
    (∃ (s : State) (ring : Nat) (addr : Nat) (k : Nat) (flags : Nat) (f : FlrMgr), s.full = true ∧ s.flrOf (wKey
      ring addr) = some (k, f) ∧ Tbl.find s.flue.flares k = some f ∧ f.st = 1 ∧ f.mode = 0 ∧ 4 ≤ wordByte f.trig 0
      ∧ wordByte f.trig 0 ≤ 6 ∧ bit flags 2 = true ∧ bit flags 3 = false ∧ wordByte f.trig 2 = 0) ∧
    (∃ (s : State) (ring : Nat) (addr : Nat) (k : Nat) (flags : Nat) (f : FlrMgr), s.full = true ∧ s.flrOf (wKey
      ring addr) = some (k, f) ∧ Tbl.find s.flue.flares k = some f ∧ f.st = 1 ∧ f.mode = 0 ∧ 4 ≤ wordByte f.trig 0
      ∧ wordByte f.trig 0 ≤ 6 ∧ bit flags 2 = true ∧ bit flags 3 = false ∧ wordByte f.trig 2 ≠ 0 ∧ s.evOn 19 =
      true) ∧
    (∃ (s : State) (ring : Nat) (addr : Nat) (k : Nat) (flags : Nat) (f : FlrMgr), s.full = true ∧ k < 2048 ∧
      s.flrOf (wKey ring addr) = some (k, f) ∧ Tbl.find s.flue.flares k = some f ∧ f.st = 2 ∧ bit flags 2 = false ∧
      bit flags 3 = true ∧ s.evOn 20 = true) ∧
    (∃ (s : State) (ring : Nat) (addr : Nat) (slot : Nat) (point : Nat) (m : ImpMgr), s.full = true ∧ Tbl.find
      s.flue.imps slot = some m ∧ m.w = wKey ring addr ∧ m.status = 0 ∧ m.cur = point ∧ m.repeats < 3 ∧ point + 1 <
      wordByte m.words 0) ∧
    (∃ (s : State) (ring : Nat) (cause : Nat), s.awake = true ∧ ring < 4 ∧ 1 ≤ cause ∧ cause ≤ 15) ∧
    (∃ (s : State) (ring : Nat) (addr : Nat), s.awake = true ∧ ring < 4 ∧ 1 ≤ addr ∧ addr ≤ 63 ∧ s.pb (ringStat
      ring) 6 = false) ∧
    (∃ (s : State) (f : RingFound), s.awake = true ∧ s.ringOn f.ring = true ∧ s.pb (ringStat f.ring) 6 = true) ∧
    (∃ (s : State) (ring : Nat) (addr : Nat), s.awake = true ∧ ring < 4 ∧ 1 ≤ addr ∧ addr ≤ 63 ∧ (s.view (wKey ring
      addr)).here = true ∧ (s.view (wKey ring addr)).lost = false) :=
  ⟨⟨lit, ⟨3, 0, 63, false, cellRes 0, 0⟩, (by decide +kernel)⟩,
   ⟨lit, 3, (by decide +kernel)⟩,
   ⟨{ lit with flue := { Flue.start with views := [(255, seen)] } }, ⟨3, 0, 63, true, cellRes 0, 0⟩,
     (by decide +kernel)⟩,
   ⟨{ lit with flue := { Flue.start with views := [(255, seen)] } }, ⟨3, 0, 63, true, { cellRes 5 with flags := 0
     }, 0⟩, (by decide +kernel)⟩,
   ⟨seeing { seen with ack := 1, refSeq := 9 } lit, 0, 1, 9, 0, (by decide +kernel)⟩,
   ⟨seeing { seen with waits := [⟨0, 1, 0, 9, true⟩] } lit, 0, 1, 9, ⟨0, 1, 0, 9, true⟩, (by decide +kernel)⟩,
   ⟨{ put lit [(0x3019, 1)] with flue := { Flue.start with flares := [(4, ⟨1, 1, 0, 0, 0, 4, [], 0, 0, false, 0,
     false, none⟩)] } }, 0, 1, 4, ⟨1, 1, 0, 0, 0, 4, [], 0, 0, false, 0, false, none⟩, (by decide +kernel)⟩,
   ⟨{ lit with flue := { Flue.start with flares := [(4, ⟨1, 0, 0, 0, 0, 1, [4], 0, 0, false, 0, false, none⟩)] } },
     0, 1, 4, 4, ⟨1, 0, 0, 0, 0, 1, [4], 0, 0, false, 0, false, none⟩, (by decide +kernel)⟩,
   ⟨{ lit with flue := { Flue.start with flares := [(4, ⟨1, 0, 0, 0, 0, 1, [0xF0006], 0, 0, false, 0, false,
     none⟩)] } }, 0, 1, 4, 4, ⟨1, 0, 0, 0, 0, 1, [0xF0006], 0, 0, false, 0, false, none⟩, (by decide +kernel)⟩,
   ⟨{ lit with flue := { Flue.start with flares := [(4, ⟨1, 0, 0, 0, 0, 2, [], 0, 0, false, 0, false, none⟩)] } },
     0, 1, 4, 8, ⟨1, 0, 0, 0, 0, 2, [], 0, 0, false, 0, false, none⟩, (by decide +kernel)⟩,
   ⟨{ lit with flue := { Flue.start with imps := [(4, ⟨1, [2, 0], 0, 0, 0, 0, none, []⟩)] } }, 0, 1, 4, 0, ⟨1, [2,
     0], 0, 0, 0, 0, none, []⟩, (by decide +kernel)⟩,
   ⟨lit, 3, 1, (by decide +kernel)⟩,
   ⟨lit, 0, 1, (by decide +kernel)⟩,
   ⟨put lit [(0x1004, 64)], found, (by decide +kernel)⟩,
   ⟨seeing seen lit, 0, 1, (by decide +kernel)⟩⟩

theorem witness_LedgerInstants :
    (∃ (s : State), s.full = true) ∧
    (∃ (s : State) (n : Nat) (t : Turf), (s.inst n).due = [t]) ∧
    (∃ (s : State), s.full = true) ∧
    (∃ (s : State), s.full = true) ∧
    (∃ (s : State), s.awake = true) ∧
    (∃ (s : State) (n : Nat) (k : Nat), s.awake = true ∧ n < 8 ∧ k < 16 ∧ 8 ≤ k) ∧
    (∃ (s : State) (n : Nat) (k : Nat), s.awake = true ∧ n < 8 ∧ k < 16 ∧ k < 8) ∧
    (∃ (s : State) (word : Nat), s.awake = true ∧ 512 ≤ word) :=
  ⟨⟨lit, (by decide +kernel)⟩,
   ⟨instS { Inst.d with due := [turf0] }, 0, turf0, (by decide +kernel)⟩,
   ⟨lit, (by decide +kernel)⟩,
   ⟨lit, (by decide +kernel)⟩,
   ⟨lit, (by decide +kernel)⟩,
   ⟨lit, 7, 15, (by decide +kernel)⟩,
   ⟨instS { Inst.d with m0 := some slot0 }, 0, 0, (by decide +kernel)⟩,
   ⟨lit, 512, (by decide +kernel)⟩⟩

theorem witness_PartnerLink :
    (∃ (s : State), s.role = 0) ∧
    (∃ (s : State) (f : BeatF), s.twin = true ∧ s.linkUp = true ∧ f.source = false ∧ f.state < 4 ∧ f.sleep = false) ∧
    (∃ (s : State) (f : BeatF), s.twin = true ∧ s.linkUp = true ∧ f.source = false ∧ f.state < 4 ∧ f.sleep = true) ∧
    (∃ (s : State), s.twin = true ∧ s.linkUp = false ∧ 15 ≤ s.part.beats) ∧
    (∃ (s : State), s.twin = true ∧ s.linkUp = true) ∧
    (∃ (s : State), s.twin = true ∧ s.linkUp = false ∧ s.part.asked = none) ∧
    (∃ (s : State) (l : List Nat), s.twin = true ∧ s.linkUp = false ∧ s.part.asked = some l ∧ s.instances = []) ∧
    (∃ (s : State), s.twin = true) ∧
    (∃ (s : State), s.twin = true ∧ s.linkUp = false) ∧
    (∃ (s : State), s.twin = true ∧ s.instances = []) ∧
    (∃ (s : State), s.twin = true) ∧
    (∃ (s : State), s.twin = true ∧ s.pf 0x0206 0 2 ≠ 0 ∧ s.evOn 1 = true) ∧
    (∃ (s : State) (ring : Nat) (f : SyncF), s.twin = true ∧ s.ringOn ring = true ∧ s.pf 0x0206 0 2 ≠ 0 ∧ bit
      f.flags 0 = true ∧ bit f.flags 1 = true) ∧
    (∃ (s : State) (c : Nat), s.twin = true ∧ s.pf 0x0206 0 2 = 0 ∧ s.sys.pll = true ∧ (s.tick < c ∨ (s.tick = c ∧
      s.role = 2))) ∧
    (∃ (s : State) (c : Nat), s.twin = true ∧ c < s.tick) ∧
    (∃ (s : State), s.twin = true ∧ s.handbackDue = true) ∧
    (∃ (s : State) (ring : Nat), s.twin = true ∧ s.ringOn ring = true) ∧
    (∃ (s : State) (ring : Nat), s.twin = true ∧ s.ringOn ring = true) ∧
    (∃ (s : State) (ring : Nat) (n : Nat), s.twin = true ∧ s.role = 2 ∧ s.ringOn ring = true ∧ s.sys.phase =
      .kindling ∧ (s.ring ring).cal = 0 ∧ n < 64) ∧
    (∃ (s : State) (ring : Nat), s.twin = true ∧ s.ringOn ring = true) :=
  ⟨⟨lit, (by decide +kernel)⟩,
   ⟨put (twin 1 .lit) [(0x1905, 1)], beat, (by decide +kernel)⟩,
   ⟨put (twin 1 .lit) [(0x1905, 1)], { beat with sleep := true }, (by decide +kernel)⟩,
   ⟨{ twin 1 .lit with part := { Part.start with beats := 15 } }, (by decide +kernel)⟩,
   ⟨put (twin 1 .lit) [(0x1905, 1)], (by decide +kernel)⟩,
   ⟨twin 1 .lit, (by decide +kernel)⟩,
   ⟨{ twin 1 .lit with part := { Part.start with asked := some [1, 2] } }, [1, 2], (by decide +kernel)⟩,
   ⟨twin 1 .lit, (by decide +kernel)⟩,
   ⟨twin 1 .lit, (by decide +kernel)⟩,
   ⟨twin 1 .lit, (by decide +kernel)⟩,
   ⟨twin 1 .lit, (by decide +kernel)⟩,
   ⟨put (twin 2 .lit) [(0x0206, 1)], (by decide +kernel)⟩,
   ⟨put (twin 2 .lit) [(0x0206, 1)], 3, { sync with flags := 3 }, (by decide +kernel)⟩,
   ⟨twin 1 .lit, 5, (by decide +kernel)⟩,
   ⟨{ twin 1 .lit with island := { Island.por with count := 9 } }, 8, (by decide +kernel)⟩,
   ⟨put (twin 1 .lit) [(0x1900, 1), (0x1905, 9)], (by decide +kernel)⟩,
   ⟨twin 1 .lit, 3, (by decide +kernel)⟩,
   ⟨twin 1 .lit, 3, (by decide +kernel)⟩,
   ⟨twin 2 .kindling, 3, 63, (by decide +kernel)⟩,
   ⟨twin 1 .lit, 3, (by decide +kernel)⟩⟩

theorem witness_PartnerCarries :
    (∃ (s : State), s.role = 0) ∧
    (∃ (s : State) (n : Nat) (t : Turf), s.twin = true ∧ n < 8 ∧ Tbl.find (s.inst n).turfs (t.index % 1024) = none) ∧
    (∃ (s : State) (n : Nat) (t : Turf) (x : Turf), s.twin = true ∧ n < 8 ∧ Tbl.find (s.inst n).turfs (t.index %
      1024) = some x ∧ x.index = t.index ∧ x ≠ t) ∧
    (∃ (s : State) (n : Nat), s.twin = true ∧ n < 8 ∧ (s.inst n).any = true ∧ ((s.inst n).ackAny = true ∨ (s.inst
      n).acked = 0)) ∧
    (∃ (s : State) (n : Nat), s.twin = true ∧ n < 8 ∧ (s.inst n).any = true) ∧
    (∃ (s : State) (n : Nat) (b : Binding), s.twin = true ∧ n < 8 ∧ b.isSealed = true ∧ s.instState n = 2) ∧
    (∃ (s : State), s.twin = true) ∧
    (∃ (s : State) (r : Nat) (l : List Byte), s.twin = true ∧ r < 4 ∧ 12 ≤ l.length ∧ leAt l 0 1 ≤ 5) ∧
    (∃ (s : State) (r : Nat) (l : List Byte), s.twin = true ∧ r < 4 ∧ 12 ≤ l.length ∧ 5 < leAt l 0 1 ∧ crc32c
      (l.take (l.length - 4)) ≠ leAt l (l.length - 4) 4) ∧
    (∃ (s : State) (r : Nat) (l : List Byte), s.twin = true ∧ r < 4 ∧ 12 ≤ l.length ∧ leAt l 0 1 = 9 ∧ crc32c
      (l.take (l.length - 4)) = leAt l (l.length - 4) 4) :=
  ⟨⟨lit, (by decide +kernel)⟩,
   ⟨twin 1 .lit, 7, turf0, (by decide +kernel)⟩,
   ⟨{ twin 1 .lit with insts := [(7, { Inst.d with turfs := [(0, turf0)] })] }, 7, { turf0 with kind := 1 }, turf0,
     (by decide +kernel)⟩,
   ⟨{ twin 1 .lit with insts := [(7, { Inst.d with any := true })] }, 7, (by decide +kernel)⟩,
   ⟨{ twin 1 .lit with insts := [(7, { Inst.d with any := true, newest := 4 })] }, 7, (by decide +kernel)⟩,
   ⟨put (twin 1 .lit) [(0x181F, 2)], 7, { Binding.d with isSealed := true }, (by decide +kernel)⟩,
   ⟨twin 1 .lit, (by decide +kernel)⟩,
   ⟨twin 1 .lit, 3, [5#8] ++ zeros 11, (by decide +kernel)⟩,
   ⟨twin 1 .lit, 3, [6#8] ++ zeros 11, (by decide +kernel)⟩,
   ⟨twin 1 .lit, 3, withCrc ([9#8, 5#8] ++ zeros 18), (by decide +kernel)⟩⟩

theorem witness_KeepAlive :
    (∃ (s : State), s.full = true ∧ s.pb 0x3000 0 = true ∧ s.net.stopped = false ∧ s.pb (0x3010 + 2 * s.kaCtrl) 0 =
      true ∧ s.busOff s.kaCtrl = false ∧ (s.net.kaDue = true ∨ 1000 * s.pf 0x3002 0 11 < s.net.kaUs + s.tUs) ∧
      s.net.kaDue = true) ∧
    (∃ (s : State), s.full = true ∧ s.pb 0x3000 0 = true ∧ s.net.stopped = false ∧ s.pb (0x3010 + 2 * s.kaCtrl) 0 =
      true ∧ s.busOff s.kaCtrl = false ∧ (s.net.kaDue = true ∨ 1000 * s.pf 0x3002 0 11 < s.net.kaUs + s.tUs) ∧ 1000
      * s.pf 0x3002 0 11 ≤ s.net.kaUs + s.tUs) ∧
    (∃ (s : State), s.net.kaDue = false ∧ s.net.kaUs + s.tUs ≤ 1000 * s.pf 0x3002 0 11) ∧
    (∃ (s : State) (node : Nat) (flags : Nat), s.awake = true ∧ s.pb 0x3000 0 = true ∧ s.pb (0x3010 + 2 * s.kaCtrl)
      0 = true ∧ node < 64 ∧ node ≠ s.pf 0x3000 3 6 ∧ flags < 256 ∧ s.pf 0x3001 0 29 + node < 2 ^ 29 ∧ bit flags 0
      = true) ∧
    (∃ (s : State) (node : Nat) (flags : Nat), s.awake = true ∧ s.pb 0x3000 0 = true ∧ s.pb (0x3010 + 2 * s.kaCtrl)
      0 = true ∧ node < 64 ∧ node ≠ s.pf 0x3000 3 6 ∧ flags < 256 ∧ s.pf 0x3001 0 29 + node < 2 ^ 29 ∧ bit flags 0
      = false) ∧
    (∃ (s : State) (node : Nat) (x : Nat), s.awake = true ∧ s.pb 0x3000 0 = true ∧ s.pb (0x3010 + 2 * s.kaCtrl) 0 =
      true ∧ node < 64 ∧ x < 256 ∧ (x ≠ node ∨ node = s.pf 0x3000 3 6) ∧ s.pf 0x3001 0 29 + node < 2 ^ 29 ∧ x ≠
      node) ∧
    (∃ (s : State) (node : Nat) (x : Nat), s.awake = true ∧ s.pb 0x3000 0 = true ∧ s.pb (0x3010 + 2 * s.kaCtrl) 0 =
      true ∧ node < 64 ∧ x < 256 ∧ (x ≠ node ∨ node = s.pf 0x3000 3 6) ∧ s.pf 0x3001 0 29 + node < 2 ^ 29 ∧ node =
      s.pf 0x3000 3 6) ∧
    (∃ (s : State) (c : Nat) (ident : Nat), (c ≠ s.kaCtrl ∨ ident % 2 ^ 29 < s.pf 0x3001 0 29 ∨ s.pf 0x3001 0 29 +
      63 < ident % 2 ^ 29 ∨ bit ident 31 ≠ s.pb 0x3001 31) ∧ c ≠ s.kaCtrl) ∧
    (∃ (s : State) (c : Nat) (ident : Nat), (c ≠ s.kaCtrl ∨ ident % 2 ^ 29 < s.pf 0x3001 0 29 ∨ s.pf 0x3001 0 29 +
      63 < ident % 2 ^ 29 ∨ bit ident 31 ≠ s.pb 0x3001 31) ∧ c = s.kaCtrl) ∧
    (∃ (s : State), s.kaRuns = true ∧ s.net.prep = none ∧ 1000000 * s.pf 0x3002 16 4 < s.net.silentUs + s.tUs ∧
      s.evOn 38 = true) ∧
    (∃ (s : State), s.net.silentUs + s.tUs ≤ 1000000 * s.pf 0x3002 16 4) ∧
    (∃ (s : State) (t : Nat), s.net.prep = some t ∧ s.full = true ∧ s.sys.sleeping = 0 ∧ 1000 * s.pf 0x3002 20 12 <
      (s.tick - t) * s.tUs + s.tUs ∧ s.localNeed = false) ∧
    (∃ (s : State) (t : Nat), s.net.prep = some t ∧ s.full = true ∧ s.sys.sleeping = 0 ∧ 1000 * s.pf 0x3002 20 12 <
      (s.tick - t) * s.tUs + s.tUs ∧ s.localNeed = true) ∧
    (∃ (s : State) (t : Nat), s.net.prep = some t ∧ (s.tick - t) * s.tUs + s.tUs ≤ 1000 * s.pf 0x3002 20 12) ∧
    (∃ (s : State), s.kaRuns = true ∧ 60000000 * s.pf 0x3003 0 8 < s.net.awakeUs + s.tUs ∧ (s.net.prep ≠ none ∨
      s.net.silentUs + s.tUs ≤ 1000000 * s.pf 0x3002 16 4) ∧ s.net.seen < 2 ^ 64 ∧ s.evOn 39 = true) ∧
    (∃ (s : State), s.kaRuns = true ∧ 60000000 * s.pf 0x3003 0 8 < s.net.awakeUs + s.tUs ∧ s.net.prep = none ∧
      1000000 * s.pf 0x3002 16 4 < s.net.silentUs + s.tUs) ∧
    (∃ (s : State), s.net.awakeUs + s.tUs ≤ 60000000 * s.pf 0x3003 0 8) :=
  ⟨⟨{ put lit [(0x3000, 1), (0x3002, 20), (0x3010, 1)] with net := { Net.start with kaDue := true } },
     (by decide +kernel)⟩,
   ⟨{ put lit [(0x3000, 1), (0x3002, 20), (0x3010, 1)] with net := { Net.start with kaUs := 20000 } },
     (by decide +kernel)⟩,
   ⟨put lit [(0x3000, 1), (0x3002, 2000), (0x3010, 1)], (by decide +kernel)⟩,
   ⟨put lit [(0x3000, 1), (0x3010, 1)], 63, 255, (by decide +kernel)⟩,
   ⟨put lit [(0x3000, 1), (0x3010, 1)], 63, 0, (by decide +kernel)⟩,
   ⟨put lit [(0x3000, 1), (0x3010, 1)], 63, 62, (by decide +kernel)⟩,
   ⟨put lit [(0x3000, 1), (0x3010, 1)], 0, 0, (by decide +kernel)⟩,
   ⟨put lit [(0x3000, 1), (0x3010, 1)], 3, 0, (by decide +kernel)⟩,
   ⟨put lit [(0x3000, 1), (0x3010, 1)], 0, 64, (by decide +kernel)⟩,
   ⟨agreeing { Net.start with silentUs := 2000000 }, (by decide +kernel)⟩,
   ⟨agreeing { Net.start with silentUs := 1000000 }, (by decide +kernel)⟩,
   ⟨{ put lit [(0x3000, 1), (0x3002, 0x06420000)] with island := { Island.por with count := 1000 }, net := {
     Net.start with litUs := some (2 ^ 40), prep := some 3 } }, 3, (by decide +kernel)⟩,
   ⟨{ put lit [(0x3000, 1), (0x3002, 0x06420000)] with island := { Island.por with count := 1000 }, net := {
     Net.start with prep := some 3 } }, 3, (by decide +kernel)⟩,
   ⟨{ put lit [(0x3002, 0xFF420000)] with net := { Net.start with prep := some 0 } }, 0, (by decide +kernel)⟩,
   ⟨agreeing { Net.start with awakeUs := 60000000 }, (by decide +kernel)⟩,
   ⟨agreeing { Net.start with silentUs := 2000000, awakeUs := 60000000 }, (by decide +kernel)⟩,
   ⟨agreeing { Net.start with awakeUs := 1000000 }, (by decide +kernel)⟩⟩

theorem witness_Networks :
    (∃ (s : State) (c : Nat) (tec : Nat), c < 4 ∧ s.awake = true ∧ s.pb (0x3010 + 2 * c) 0 = true ∧ s.busOff c =
      false ∧ tec < 256) ∧
    (∃ (s : State) (c : Nat), c < 4 ∧ s.busOff c = true ∧ (s.pb (0x3010 + 2 * c) 7 = true ∨ s.net.canFree.contains
      c = true)) ∧
    (∃ (s : State) (c : Nat), c < 4 ∧ s.pb (0x3010 + 2 * c) 7 = false ∧ s.net.canFree.contains c = false) ∧
    (∃ (s : State) (i : Nat) (st : Nat), i < 2 ∧ st < 2 ∧ s.awake = true ∧ s.pb (0x3018 + 8 * i) 0 = true ∧ s.pb
      (0x3019 + 8 * i) 1 = false ∧ s.pf (0x3019 + 8 * i) 0 1 ≠ st ∧ s.evOn 41 = true) ∧
    (∃ (s : State), s.awake = true ∧ s.pb 0x3020 0 = true ∧ s.pb 0x3020 2 = true ∧ s.ethUp 1 = true) ∧
    (∃ (s : State) (i : Nat), i < 2 ∧ s.awake = true ∧ s.pb (0x3018 + 8 * i) 0 = true) ∧
    (∃ (s : State) (i : Nat), i < 2 ∧ s.awake = true ∧ s.pb (0x3018 + 8 * i) 0 = true) ∧
    (∃ (s : State) (l : Nat) (e : Nat), l < 2 ∧ s.full = true ∧ s.pb (0x3030 + l) 0 = true ∧ s.sys.sleeping = 0 ∧
      (s.lin l).wait = 0 ∧ (s.lin l).next = e ∧ e < s.pf (0x3030 + l) 4 5 ∧ s.pb (0x3040 + 16 * l + e) 6 = true) ∧
    (∃ (s : State) (l : Nat) (e : Nat), l < 2 ∧ s.full = true ∧ s.pb (0x3030 + l) 0 = true ∧ s.sys.sleeping = 0 ∧
      (s.lin l).wait = 0 ∧ (s.lin l).next = e ∧ e < s.pf (0x3030 + l) 4 5 ∧ s.pb (0x3040 + 16 * l + e) 6 = false) ∧
    (∃ (s : State) (l : Nat), (s.lin l).wait ≠ 0) ∧
    (∃ (s : State) (l : Nat) (e : Nat) (resp : List Byte), l < 2 ∧ e < 16 ∧ (s.lin l).cur = some e ∧ s.pb (0x3040 +
      16 * l + e) 6 = true ∧ resp.length = 8 ∧ s.pf (0x3040 + 16 * l + e) 7 4 = 8) ∧
    (∃ (s : State), s.full = true ∧ s.pb 0x3000 0 = true ∧ s.net.stopped = false ∧ s.pb (0x3010 + 2 * s.kaCtrl) 0 =
      true ∧ s.busOff s.kaCtrl = false ∧ s.net.kaDue = true) ∧
    (∃ (s : State) (node : Nat), s.awake = true ∧ s.pb 0x3000 0 = true ∧ s.pb (0x3010 + 2 * s.kaCtrl) 0 = true ∧
      node < 64 ∧ node ≠ s.pf 0x3000 3 6 ∧ s.pf 0x3001 0 29 + node < 2 ^ 29 ∧ s.pb 0x3001 31 = false) ∧
    (∃ (s : State), s.kaRuns = true ∧ s.net.prep = none ∧ s.silentDue = true) ∧
    (∃ (s : State) (t : Nat), s.net.prep = some t ∧ s.prepDue t = true ∧ s.full = true ∧ s.sys.sleeping = 0 ∧
      s.localNeed = false) ∧
    (∃ (s : State), s.kaRuns = true ∧ s.net.prep.isSome = true ∧ s.awakeDue = true) :=
  ⟨⟨put lit [(0x3016, 1)], 3, 255, (by decide +kernel)⟩,
   ⟨put lit [(0x3016, 0x81), (0x3017, 2)], 3, (by decide +kernel)⟩,
   ⟨put lit [(0x3016, 1), (0x3017, 2)], 3, (by decide +kernel)⟩,
   ⟨put lit [(0x3020, 1)], 1, 1, (by decide +kernel)⟩,
   ⟨put lit [(0x3020, 5), (0x3021, 1)], (by decide +kernel)⟩,
   ⟨put lit [(0x3020, 1)], 1, (by decide +kernel)⟩,
   ⟨put lit [(0x3020, 1)], 1, (by decide +kernel)⟩,
   ⟨put lit [(0x3031, 0x17), (0x3050, 0xA0C40)], 1, 0, (by decide +kernel)⟩,
   ⟨put lit [(0x3031, 0x17), (0x3050, 0xA0C00)], 1, 0, (by decide +kernel)⟩,
   ⟨{ lit with net := { Net.start with lin := [(1, ⟨0, 3, none, []⟩)] } }, 1, (by decide +kernel)⟩,
   ⟨(put lit [(0x3050, 0xA0C40)]).updLin 1 (fun x => { x with cur := some 0 }), 1, 0, [1#8, 2#8, 3#8, 4#8, 5#8,
     6#8, 7#8, 8#8], (by decide +kernel)⟩,
   ⟨{ put lit [(0x3000, 1), (0x3010, 1)] with net := { Net.start with kaDue := true } }, (by decide +kernel)⟩,
   ⟨put lit [(0x3000, 1), (0x3010, 1)], 63, (by decide +kernel)⟩,
   ⟨agreeing { Net.start with silentUs := 2000000 }, (by decide +kernel)⟩,
   ⟨{ put lit [(0x3000, 1), (0x3002, 0x06420000)] with island := { Island.por with count := 1000 }, net := {
     Net.start with litUs := some (2 ^ 40), prep := some 3 } }, 3, (by decide +kernel)⟩,
   ⟨agreeing { Net.start with awakeUs := 60000000, prep := some 0 }, (by decide +kernel)⟩⟩

theorem witness_TwoWireTarget :
    (∃ (s : State) (x : TwXfer), s.sys.phase ≠ .cold ∧ s.twWindow x.addr = none) ∧
    (∃ (s : State) (a : Nat) (n : Nat), s.awake = true ∧ s.sys.sleeping = 0 ∧ s.twWindow a = some 0 ∧ n ≤ 16 ∧ 0 <
      n ∧ 1 < n ∧ 2 < n) ∧
    (∃ (s : State) (a : Nat), s.sys.phase = .coldHold ∧ s.twWindow a = some 0) ∧
    (∃ (s : State) (x : TwXfer), s.sys.phase = .banked ∧ s.twWindow x.addr = some 0 ∧ s.pb 0x0303 5 = true) ∧
    (∃ (s : State) (a : Nat), s.twWindow a = some 1 ∧ s.twOpen = true) ∧
    (∃ (s : State) (a : Nat) (gap : Nat), s.twWindow a = some 1 ∧ s.twOpen = true ∧ s.net.evIdx < 2 ^ 32 ∧ gap <
      50) ∧
    (∃ (s : State) (a : Nat) (gap : Nat), s.twWindow a = some 1 ∧ s.twOpen = true ∧ s.net.evIdx < 2 ^ 32 ∧ 50 ≤
      gap) ∧
    (∃ (s : State) (a : Nat) (k : Byte), s.twWindow a = some 2 ∧ s.twOpen = true ∧ k.toNat < 8) ∧
    (∃ (s : State) (a : Nat) (gap : Nat), s.twWindow a = some 2 ∧ s.twOpen = true ∧ 50 ≤ gap ∧ s.instLives
      s.net.ldIdx = false) ∧
    (∃ (s : State) (w : Nat), w < 4 ∧ s.awake = true) ∧
    (∃ (s : State) (w : Nat) (ms : Nat), w < 4 ∧ (s.sys.phase = .banked ∨ s.sys.phase = .coldHold) ∧ fld
      s.island.twCfg 8 6 ≤ ms ∧ fld s.island.twCfg 16 6 ≤ ms) :=
  ⟨⟨lit, ⟨0x20, [0#8], 4, 10⟩, (by decide +kernel)⟩,
   ⟨lit, 0x48, 16, (by decide +kernel)⟩,
   ⟨ph .coldHold, 0x48, (by decide +kernel)⟩,
   ⟨put (ph .banked) [(0x0303, 32)], ⟨0x48, [0#8], 0, 0⟩, (by decide +kernel)⟩,
   ⟨lit, 0x49, (by decide +kernel)⟩,
   ⟨lit, 0x49, 0, (by decide +kernel)⟩,
   ⟨lit, 0x49, 50, (by decide +kernel)⟩,
   ⟨lit, 0x4A, 7#8, (by decide +kernel)⟩,
   ⟨lit, 0x4A, 50, (by decide +kernel)⟩,
   ⟨lit, 3, (by decide +kernel)⟩,
   ⟨ph .banked, 3, 63, (by decide +kernel)⟩⟩

theorem witness_StokerArithmetic :
    (∃ (s : State) (c : Nat) (x : BitVec 26), CoreRuns s c ∧ OnlyBits x (useD + useA + useB) ∧ tagOf (wordA s c x)
      = 1 ∧ tagOf (wordB s c x) = 1) ∧
    (∃ (s : State) (c : Nat) (t : Nat) (x : BitVec 26), CoreRuns s c ∧ OnlyBits x (useD + useA + useB) ∧ tagOf
      (wordA s c x) = t ∧ tagOf (wordB s c x) = t ∧ (t = 2 ∨ (8 ≤ t ∧ t ≤ 13)) ∧ fits32 (intOf (wordA s c x) -
      intOf (wordB s c x))) ∧
    (∃ (s : State) (c : Nat) (t : Nat) (x : BitVec 26), CoreRuns s c ∧ OnlyBits x (useD + useA + useB) ∧ tagOf
      (wordA s c x) = t ∧ tagOf (wordB s c x) = t ∧ (t = 2 ∨ (8 ≤ t ∧ t ≤ 13)) ∧ fits32 (intOf (wordA s c x) +
      intOf (wordB s c x))) ∧
    (∃ (s : State) (c : Nat) (x : BitVec 26), CoreRuns s c ∧ OnlyBits x (useD + useA + useB) ∧ tagOf (wordA s c x)
      = 4 ∧ tagOf (wordB s c x) = 1) ∧
    (∃ (s : State) (c : Nat) (x : BitVec 26), CoreRuns s c ∧ OnlyBits x (useD + useA + useB) ∧ tagOf (wordA s c x)
      = 4 ∧ tagOf (wordB s c x) = 4) ∧
    (∃ (s : State) (c : Nat) (t : Nat) (x : BitVec 26), CoreRuns s c ∧ OnlyBits x (useD + useA + useB) ∧ tagOf
      (wordA s c x) = t ∧ 8 ≤ t ∧ t ≤ 13 ∧ tagOf (wordB s c x) = 1 ∧ fits32 (intOf (wordA s c x) * intOf (wordB s c
      x))) ∧
    (∃ (s : State) (c : Nat) (t : Nat) (x : BitVec 26), CoreRuns s c ∧ OnlyBits x (useD + useA + useB) ∧ tagOf
      (wordA s c x) = t ∧ 8 ≤ t ∧ t ≤ 13 ∧ tagOf (wordB s c x) = 2) ∧
    (∃ (s : State) (c : Nat) (t : Nat) (x : BitVec 26), CoreRuns s c ∧ OnlyBits x (useD + useA + useB) ∧ tagOf
      (wordA s c x) = t ∧ 8 ≤ t ∧ t ≤ 13 ∧ tagOf (wordB s c x) = 2 ∧ fits32 (intOf (wordA s c x) * intOf (wordB s c
      x) / 65536)) ∧
    (∃ (s : State) (c : Nat) (t : Nat) (k : Nat) (x : BitVec 26), CoreRuns s c ∧ OnlyBits x (useD + useA + useB +
      31) ∧ xf x.toNat = k ∧ tagOf (wordA s c x) = t ∧ 8 ≤ t ∧ t ≤ 13 ∧ tagOf (wordB s c x) = 1 ∧ fits32 (intOf
      (wordA s c x) * intOf (wordB s c x) / 2 ^ k)) ∧
    (∃ (s : State) (c : Nat) (t : Nat) (x : BitVec 26), CoreRuns s c ∧ OnlyBits x (useD + useA) ∧ tagOf (wordA s c
      x) = t ∧ (t = 2 ∨ (8 ≤ t ∧ t ≤ 13)) ∧ intOf (wordA s c x) = -(2 ^ 31)) ∧
    (∃ (s : State) (c : Nat) (t : Nat) (k : Nat) (x : BitVec 26), CoreRuns s c ∧ OnlyBits x (useD + useA + useB +
      7) ∧ xf x.toNat = k ∧ tagOf (wordA s c x) = t ∧ tagOf (wordB s c x) = t ∧ (t = 1 ∨ t = 2 ∨ (8 ≤ t ∧ t ≤ 13))
      ∧ k < 6) ∧
    (∃ (s : State) (c : Nat) (t : Nat) (k : Nat) (x : BitVec 26), CoreRuns s c ∧ OnlyBits x (useD + useA + useB +
      7) ∧ xf x.toNat = k ∧ tagOf (wordA s c x) = t ∧ tagOf (wordB s c x) = t ∧ (t = 1 ∨ t = 2 ∨ (8 ≤ t ∧ t ≤ 13))
      ∧ 6 ≤ k) ∧
    (∃ (s : State) (c : Nat) (x : BitVec 26), CoreRuns s c ∧ OnlyBits x (useD + useA + useB) ∧ tagOf (wordA s c x)
      = 3 ∧ tagOf (wordB s c x) = 3) ∧
    (∃ (s : State) (c : Nat) (x : BitVec 26), CoreRuns s c ∧ OnlyBits x (useD + useA) ∧ tagOf (wordA s c x) = 1) ∧
    (∃ (s : State) (c : Nat) (x : BitVec 26), CoreRuns s c ∧ OnlyBits x (useD + useA) ∧ tagOf (wordA s c x) = 3) ∧
    (∃ (s : State) (c : Nat) (k : Nat) (x : BitVec 26), CoreRuns s c ∧ k < 32 ∧ tagOf (wordA s c x) = 1 ∧ OnlyBits
      x (useD + useA + 31) ∧ xf x.toNat = k) ∧
    (∃ (s : State) (c : Nat) (k : Nat) (x : BitVec 26), CoreRuns s c ∧ k < 32 ∧ tagOf (wordA s c x) = 1 ∧ OnlyBits
      x (useD + useA + 63) ∧ xf x.toNat = 32 + k) ∧
    (∃ (s : State) (c : Nat) (x : BitVec 26), CoreRuns s c ∧ (tagOf (wordA s c x) = 15 ∨ tagOf (wordB s c x) = 15)) ∧
    (∃ (s : State) (c : Nat) (x : BitVec 26), CoreRuns s c ∧ tagOf (wordA s c x) ≠ tagOf (wordB s c x) ∧ tagOf
      (wordA s c x) ≠ 4 ∧ tagOf (wordA s c x) ≠ 15 ∧ tagOf (wordB s c x) ≠ 15) :=
  ⟨⟨sk [(1, tw 1 5), (2, tw 1 0xFFFFFFFF)], 0, dab 3 1 2 0, (by unfold CoreRuns OnlyBits; decide +kernel)⟩,
   ⟨sk [(1, tw 2 0x7FFFFFFF), (2, tw 2 1)], 0, 2, dab 3 1 2 0, (by unfold CoreRuns OnlyBits; decide +kernel)⟩,
   ⟨sk [(1, tw 13 0xFFFFFFFF), (2, tw 13 1)], 0, 13, dab 3 1 2 0, (by unfold CoreRuns OnlyBits; decide +kernel)⟩,
   ⟨sk [(1, tw 4 5), (2, tw 1 9)], 0, dab 3 1 2 0, (by unfold CoreRuns OnlyBits; decide +kernel)⟩,
   ⟨sk [(1, tw 4 5), (2, tw 4 9)], 0, dab 3 1 2 0, (by unfold CoreRuns OnlyBits; decide +kernel)⟩,
   ⟨sk [(1, tw 8 5), (2, tw 1 9)], 0, 8, dab 3 1 2 0, (by unfold CoreRuns OnlyBits; decide +kernel)⟩,
   ⟨sk [(1, tw 13 0x7FFFFFFF), (2, tw 2 0x20000)], 0, 13, dab 3 1 2 0,
     (by unfold CoreRuns OnlyBits; decide +kernel)⟩,
   ⟨sk [(1, tw 13 0xFFFFFFFD), (2, tw 2 0x8000)], 0, 13, dab 3 1 2 0,
     (by unfold CoreRuns OnlyBits; decide +kernel)⟩,
   ⟨sk [(1, tw 8 0xFFFFFFFD), (2, tw 1 9)], 0, 8, 31, dab 3 1 2 31, (by unfold CoreRuns OnlyBits; decide +kernel)⟩,
   ⟨sk [(1, tw 2 0x80000000)], 0, 2, dab 3 1 0 0, (by unfold CoreRuns OnlyBits; decide +kernel)⟩,
   ⟨sk [(1, tw 1 5), (2, tw 1 0xFFFFFFFF)], 0, 1, 0, dab 3 1 2 0, (by unfold CoreRuns OnlyBits; decide +kernel)⟩,
   ⟨sk [(1, tw 1 5), (2, tw 1 0xFFFFFFFF)], 0, 1, 6, dab 3 1 2 6, (by unfold CoreRuns OnlyBits; decide +kernel)⟩,
   ⟨sk [(1, tw 3 1), (2, tw 3 0)], 0, dab 3 1 2 0, (by unfold CoreRuns OnlyBits; decide +kernel)⟩,
   ⟨sk [(1, tw 1 5)], 0, dab 3 1 0 0, (by unfold CoreRuns OnlyBits; decide +kernel)⟩,
   ⟨sk [(1, tw 3 1)], 0, dab 3 1 0 0, (by unfold CoreRuns OnlyBits; decide +kernel)⟩,
   ⟨sk [(1, tw 1 0x80000005)], 0, 31, dab 3 1 0 31, (by unfold CoreRuns OnlyBits; decide +kernel)⟩,
   ⟨sk [(1, tw 1 0x80000005)], 0, 31, dab 3 1 0 63, (by unfold CoreRuns OnlyBits; decide +kernel)⟩,
   ⟨sk [(1, tw 15 0), (2, tw 1 0)], 0, dab 3 1 2 0, (by unfold CoreRuns; decide +kernel)⟩,
   ⟨sk [(1, tw 2 5), (2, tw 1 0)], 0, dab 3 1 2 0, (by unfold CoreRuns; decide +kernel)⟩⟩

theorem witness_DivisionTruncatesTowardsZero :
    (∃ (s : State) (c : Nat) (t : Nat) (k : Int) (x : BitVec 26), CoreRuns s c ∧ OnlyBits x (useD + useA + useB) ∧
      ((8 ≤ tagOf (wordA s c x) ∧ tagOf (wordA s c x) ≤ 13 ∧ tagOf (wordB s c x) = tagOf (wordA s c x) ∧ t = 2 ∧ k
      = 65536) ∨ (tagOf (wordA s c x) = 8 ∧ tagOf (wordB s c x) = 9 ∧ t = 12 ∧ k = 1000000) ∨ ((tagOf (wordA s c x)
      = 1 ∨ (8 ≤ tagOf (wordA s c x) ∧ tagOf (wordA s c x) ≤ 13)) ∧ tagOf (wordB s c x) = 1 ∧ t = tagOf (wordA s c
      x) ∧ k = 1) ∨ ((tagOf (wordA s c x) = 2 ∨ (8 ≤ tagOf (wordA s c x) ∧ tagOf (wordA s c x) ≤ 13)) ∧ tagOf
      (wordB s c x) = 2 ∧ t = tagOf (wordA s c x) ∧ k = 65536)) ∧ intOf (wordB s c x) = 0) :=
  ⟨sk [(1, tw 13 7), (2, tw 1 0)], 0, 13, 1, dab 3 1 2 0, (by unfold CoreRuns OnlyBits; decide +kernel)⟩

theorem witness_StokerMovesAndControl :
    (∃ (s : State) (c : Nat) (x : BitVec 26), CoreRuns s c ∧ fld x.toNat 18 4 = 5) ∧
    (∃ (s : State) (c : Nat) (op : Nat) (x : BitVec 26), CoreRuns s c ∧ OnlyBits x (2 ^ 14 - 1) ∧ 0x2B ≤ op ∧ op <
      64) ∧
    (∃ (s : State) (c : Nat) (x : BitVec 26), CoreRuns s c ∧ fld x.toNat 18 4 = 3) ∧
    (∃ (s : State) (c : Nat) (x : BitVec 26), CoreRuns s c ∧ fld x.toNat 18 4 ≠ 5 ∧ fld x.toNat 18 4 ≠ 3) ∧
    (∃ (s : State) (c : Nat) (x : BitVec 26), CoreRuns s c ∧ OnlyBits x (useD + useA) ∧ OnlyBits x (useD + useA +
      useB)) ∧
    (∃ (s : State) (c : Nat) (t : Nat) (x : BitVec 26), CoreRuns s c ∧ OnlyBits x (useD + useA + 15) ∧ fld x.toNat
      0 4 = t ∧ tagOf (wordA s c x) = 1 ∧ (t = 2 ∨ t = 4 ∨ t = 6 ∨ t = 7 ∨ (8 ≤ t ∧ t ≤ 13))) ∧
    (∃ (s : State) (c : Nat) (t : Nat) (x : BitVec 26), CoreRuns s c ∧ OnlyBits x (useD + useA + 15) ∧ fld x.toNat
      0 4 = t ∧ tagOf (wordA s c x) = 1 ∧ t = 3) ∧
    (∃ (s : State) (c : Nat) (t : Nat) (x : BitVec 26), CoreRuns s c ∧ OnlyBits x (useD + useA + 15) ∧ fld x.toNat
      0 4 = t ∧ 2 ≤ tagOf (wordA s c x) ∧ tagOf (wordA s c x) ≤ 14 ∧ t = 1) ∧
    (∃ (s : State) (c : Nat) (t : Nat) (x : BitVec 26), CoreRuns s c ∧ OnlyBits x (useD + useA + 15) ∧ fld x.toNat
      0 4 = t ∧ tagOf (wordA s c x) ≠ 15 ∧ (¬(tagOf (wordA s c x) = 1 ∧ (t = 2 ∨ t = 3 ∨ t = 4 ∨ t = 6 ∨ t = 7 ∨ (8
      ≤ t ∧ t ≤ 13)))) ∧ ¬(2 ≤ tagOf (wordA s c x) ∧ t = 1)) ∧
    (∃ (s : State) (c : Nat) (x : BitVec 26), CoreRuns s c ∧ OnlyBits x (useD + useA + 3) ∧ xf x.toNat = 0 ∧ tagOf
      (wordA s c x) = 1 ∧ fits32 (intOf (wordA s c x) * 65536)) ∧
    (∃ (s : State) (c : Nat) (x : BitVec 26), CoreRuns s c ∧ OnlyBits x (useD + useA + 3) ∧ xf x.toNat = 1 ∧ tagOf
      (wordA s c x) = 2) ∧
    (∃ (s : State) (c : Nat) (x : BitVec 26), CoreRuns s c ∧ OnlyBits x (useD + useA + 3) ∧ xf x.toNat = 2 ∧ tagOf
      (wordA s c x) = 13) ∧
    (∃ (s : State) (c : Nat) (x : BitVec 26), CoreRuns s c ∧ OnlyBits x (useD + useA + 3) ∧ xf x.toNat = 3 ∧ tagOf
      (wordA s c x) = 2 ∧ payOf (wordA s c x) ≤ 65535) ∧
    (∃ (s : State) (c : Nat) (x : BitVec 26), CoreRuns s c ∧ OnlyBits x (useD + useA + useB + 15) ∧ tagOf (s.reg c
      (fld x.toNat 0 4)) = 3 ∧ tagOf (wordA s c x) ≠ 15 ∧ tagOf (wordB s c x) ≠ 15) ∧
    (∃ (s : State) (c : Nat) (a : Nat) (x : BitVec 26), CoreRuns s c ∧ tagOf (wordA s c x) = 7 ∧ a = payOf (wordA s
      c x) + fld x.toNat 0 18 ∧ a ≤ 4095) ∧
    (∃ (s : State) (c : Nat) (a : Nat) (x : BitVec 26), CoreRuns s c ∧ tagOf (wordA s c x) = 7 ∧ a = payOf (wordA s
      c x) + fld x.toNat 0 18 ∧ 4095 < a) ∧
    (∃ (s : State) (c : Nat) (a : Nat) (x : BitVec 26), CoreRuns s c ∧ OnlyBits x (useD + useA + useB) ∧ tagOf
      (wordA s c x) = 7 ∧ tagOf (wordB s c x) = 1 ∧ (a : Int) = payOf (wordA s c x) + intOf (wordB s c x) ∧ a ≤
      4095 ∧ tagOf (s.reg c (xd x.toNat)) ≠ 15) ∧
    (∃ (s : State) (c : Nat) (p : Nat) (x : BitVec 26), CoreRuns s c ∧ OnlyBits x (useA + 2 ^ 18 - 1) ∧ tagOf
      (wordA s c x) = 3 ∧ (p : Int) = (s.core c).pc + ofTwos 18 x.toNat ∧ p ≤ 8191 ∧ payOf (wordA s c x) ≠ 0) ∧
    (∃ (s : State) (c : Nat) (p : Nat) (x : BitVec 26), CoreRuns s c ∧ OnlyBits x (useA + 2 ^ 18 - 1) ∧ tagOf
      (wordA s c x) = 3 ∧ (p : Int) = (s.core c).pc + ofTwos 18 x.toNat ∧ p ≤ 8191 ∧ payOf (wordA s c x) = 0) ∧
    (∃ (s : State) (c : Nat) (p : Nat) (x : BitVec 26), CoreRuns s c ∧ OnlyBits x (2 ^ 13 - 1) ∧ fld x.toNat 0 13 =
      p ∧ ((s.core c).rstack.length < 8 ∨ s.pb (stkCfg c) 16 = true)) ∧
    (∃ (s : State) (c : Nat) (p : Nat) (x : BitVec 26), CoreRuns s c ∧ OnlyBits x (2 ^ 13 - 1) ∧ fld x.toNat 0 13 =
      p ∧ 8 ≤ (s.core c).rstack.length ∧ s.pb (stkCfg c) 16 = false) ∧
    (∃ (s : State) (c : Nat) (x : BitVec 26), CoreRuns s c ∧ OnlyBits x (2 ^ 25 + 15 * 2 ^ 21) ∧ bit x.toNat 25 =
      true ∧ tagOf (s.reg c (fld x.toNat 21 4)) = 6 ∧ payOf (s.reg c (fld x.toNat 21 4)) ≤ 8191) ∧
    (∃ (s : State) (c : Nat) (x : BitVec 26), CoreRuns s c ∧ OnlyBits x (2 ^ 25 + 15 * 2 ^ 21) ∧ bit x.toNat 25 =
      true ∧ tagOf (s.reg c (fld x.toNat 21 4)) = 6 ∧ 8191 < payOf (s.reg c (fld x.toNat 21 4))) ∧
    (∃ (s : State) (c : Nat) (x : BitVec 26), CoreRuns s c ∧ OnlyBits x 0) ∧
    (∃ (s : State) (c : Nat) (x : BitVec 26), CoreRuns s c ∧ OnlyBits x 0 ∧ (s.core c).rstack = []) ∧
    (∃ (s : State) (c : Nat) (x : BitVec 26), CoreRuns s c ∧ OnlyBits x (useD + useA + 31) ∧ bit x.toNat 4 = true) :=
  ⟨⟨sk [], 0, dab 3 5 0 7, (by unfold CoreRuns; decide +kernel)⟩,
   ⟨sk [], 0, 0x2B, 9#26, (by unfold CoreRuns OnlyBits; decide +kernel)⟩,
   ⟨sk [], 0, dab 3 3 0 7, (by unfold CoreRuns; decide +kernel)⟩,
   ⟨sk [], 0, dab 3 2 15 16383, (by unfold CoreRuns; decide +kernel)⟩,
   ⟨sk [(1, tw 15 3)], 0, dab 3 1 0 0, (by unfold CoreRuns OnlyBits; decide +kernel)⟩,
   ⟨sk [(1, tw 1 3)], 0, 13, dab 3 1 0 13, (by unfold CoreRuns OnlyBits; decide +kernel)⟩,
   ⟨sk [(1, tw 1 3)], 0, 3, dab 3 1 0 3, (by unfold CoreRuns OnlyBits; decide +kernel)⟩,
   ⟨sk [(1, tw 14 3)], 0, 1, dab 3 1 0 1, (by unfold CoreRuns OnlyBits; decide +kernel)⟩,
   ⟨sk [(1, tw 2 3)], 0, 8, dab 3 1 0 8, (by unfold CoreRuns OnlyBits; decide +kernel)⟩,
   ⟨sk [(1, tw 1 3)], 0, dab 3 1 0 0, (by unfold CoreRuns OnlyBits; decide +kernel)⟩,
   ⟨sk [(1, tw 2 0xFFFEFFFF)], 0, dab 3 1 0 1, (by unfold CoreRuns OnlyBits; decide +kernel)⟩,
   ⟨sk [(1, tw 13 3)], 0, dab 3 1 0 2, (by unfold CoreRuns OnlyBits; decide +kernel)⟩,
   ⟨sk [(1, tw 2 65535)], 0, dab 3 1 0 3, (by unfold CoreRuns OnlyBits; decide +kernel)⟩,
   ⟨sk [(1, tw 1 5), (2, tw 2 6), (4, tw 3 0)], 0, dab 3 1 2 4, (by unfold CoreRuns OnlyBits; decide +kernel)⟩,
   ⟨sk [(1, tw 7 4000), (3, tw 2 9)], 0, 4095, dab 3 1 0 95, (by unfold CoreRuns; decide +kernel)⟩,
   ⟨sk [(1, tw 7 4000), (3, tw 2 9)], 0, 4096, dab 3 1 0 96, (by unfold CoreRuns; decide +kernel)⟩,
   ⟨sk [(1, tw 7 5), (2, tw 1 0xFFFFFFFB)], 0, 0, dab 0 1 2 0, (by unfold CoreRuns OnlyBits; decide +kernel)⟩,
   ⟨sk [(1, tw 3 1)], 0, 8191, dab 0 1 0 8191, (by unfold CoreRuns OnlyBits; decide +kernel)⟩,
   ⟨sk [(1, tw 3 0)], 0, 0, dab 0 1 0 0, (by unfold CoreRuns OnlyBits; decide +kernel)⟩,
   ⟨sk [], 0, 8191, 8191#26, (by unfold CoreRuns OnlyBits; decide +kernel)⟩,
   ⟨(sk []).updCore 0 (fun k => { k with rstack := [1, 2, 3, 4, 5, 6, 7, 8] }), 0, 3, 3#26,
     (by unfold CoreRuns OnlyBits; decide +kernel)⟩,
   ⟨sk [(1, tw 6 8191)], 0, BitVec.ofNat 26 (2 ^ 25 + 2 ^ 21), (by unfold CoreRuns OnlyBits; decide +kernel)⟩,
   ⟨sk [(1, tw 6 8192)], 0, BitVec.ofNat 26 (2 ^ 25 + 2 ^ 21), (by unfold CoreRuns OnlyBits; decide +kernel)⟩,
   ⟨sk [(1, tw 15 3)], 0, dab 0 0 0 0, (by unfold CoreRuns OnlyBits; decide +kernel)⟩,
   ⟨sk [], 0, 0#26, (by unfold CoreRuns OnlyBits; decide +kernel)⟩,
   ⟨sk [(1, tw 15 3)], 0, dab 3 1 0 31, (by unfold CoreRuns OnlyBits; decide +kernel)⟩⟩

theorem witness_StokerReachesTheManager :
    (∃ (s : State) (c : Nat) (k : Nat) (x : BitVec 26) (w : TWord), CoreRuns s c ∧ OnlyBits x (useD + useA + 2 ^ 14
      - 1) ∧ tagOf (wordA s c x) = 5 ∧ s.current (payOf (wordA s c x)) = some k ∧ xf x.toNat ≠ 0x3FFF ∧ s.hrdWord k
      (xf x.toNat) = .ok w) ∧
    (∃ (s : State) (k : Nat), (s.slot k).cls = 1) ∧
    (∃ (s : State) (c : Nat) (k : Nat) (x : BitVec 26), CoreRuns s c ∧ OnlyBits x (useD + useA + 2 ^ 14 - 1) ∧
      tagOf (wordA s c x) = 5 ∧ s.current (payOf (wordA s c x)) = some k ∧ (s.slot k).cls = 1 ∧ xf x.toNat = 0) ∧
    (∃ (s : State) (c : Nat) (k : Nat) (x : BitVec 26), CoreRuns s c ∧ tagOf (wordA s c x) = 5 ∧ s.current (payOf
      (wordA s c x)) = some k ∧ payOf (wordA s c x) / 2 ^ 26 = 1 ∧ (s.slot k).cls = 1 ∧ tagOf (wordB s c x) = 3 ∧
      payOf (wordB s c x) ≤ 1 ∧ xf x.toNat = 0 ∧ (s.slot k).writer = false) ∧
    (∃ (s : State) (c : Nat) (k : Nat) (x : BitVec 26), CoreRuns s c ∧ tagOf (wordA s c x) = 5 ∧ s.current (payOf
      (wordA s c x)) = some k ∧ payOf (wordA s c x) / 2 ^ 26 = 1 ∧ (s.slot k).cls = 1 ∧ tagOf (wordB s c x) = 3 ∧
      payOf (wordB s c x) ≤ 1 ∧ xf x.toNat = 0 ∧ (s.slot k).writer = true) ∧
    (∃ (s : State) (c : Nat) (x : BitVec 26), CoreRuns s c ∧ OnlyBits x (useD + useA) ∧ tagOf (wordA s c x) = 5 ∧
      s.current (payOf (wordA s c x)) ≠ none) ∧
    (∃ (s : State) (c : Nat) (x : BitVec 26), CoreRuns s c ∧ OnlyBits x (useD + useA) ∧ tagOf (wordA s c x) = 5 ∧
      s.current (payOf (wordA s c x)) = none) ∧
    (∃ (s : State) (c : Nat) (x : BitVec 26), CoreRuns s c ∧ OnlyBits x (useD + useA + 511) ∧ tagOf (wordA s c x) =
      1) ∧
    (∃ (s : State) (c : Nat) (e : Nat) (x : BitVec 26), CoreRuns s c ∧ OnlyBits x (useD + 255) ∧ fld x.toNat 0 6 =
      e) ∧
    (∃ (s : State) (c : Nat) (x : BitVec 26), CoreRuns s c ∧ OnlyBits x (useD + 3)) ∧
    (∃ (s : State) (c : Nat) (k : Nat) (x : BitVec 26), CoreRuns s c ∧ OnlyBits x (useD + useA + 2 ^ 14 - 1) ∧
      tagOf (wordA s c x) = 5 ∧ s.current (payOf (wordA s c x)) = some k ∧ (s.slot k).cls = 16 ∧ 8 ≤ xf x.toNat) ∧
    (∃ (s : State) (c : Nat) (k : Nat) (x : BitVec 26), CoreRuns s c ∧ OnlyBits x (useD + useA + 2 ^ 14 - 1) ∧
      tagOf (wordA s c x) = 5 ∧ s.current (payOf (wordA s c x)) = some k ∧ (s.slot k).cls = 16 ∧ xf x.toNat = 0 ∧
      s.instLives (s.slot k).res = true) ∧
    (∃ (s : State) (c : Nat) (x : BitVec 26), CoreRuns s c ∧ OnlyBits x (useD + useA) ∧ tagOf (wordA s c x) = 1) ∧
    (∃ (s : State) (c : Nat) (x : BitVec 26), CoreRuns s c ∧ OnlyBits x useD) :=
  ⟨⟨{ sk [(1, tw 5 (hnd 1)), (2, tw 3 1)] with hdl := (litH 1 0).hdl }, 0, 0, dab 3 1 0 0, wInt (paramReset (hsStat
     0)).toNat, (by unfold CoreRuns; decide +kernel), (by unfold OnlyBits; decide +kernel), (by decide +kernel),
     (by decide +kernel), (by decide +kernel), rfl⟩,
   ⟨litH 1 39, 0, (by decide +kernel)⟩,
   ⟨{ sk [(1, tw 5 (hnd 1))] with hdl := (litH 1 39).hdl }, 0, 0, dab 3 1 0 0,
     (by unfold CoreRuns OnlyBits; decide +kernel)⟩,
   ⟨{ sk [(1, tw 5 (hnd 1)), (2, tw 3 1)] with hdl := (litR 1 0).hdl }, 0, 0, dab 3 1 2 0,
     (by unfold CoreRuns; decide +kernel)⟩,
   ⟨{ sk [(1, tw 5 (hnd 1)), (2, tw 3 1)] with hdl := (litH 1 39).hdl }, 0, 0, dab 3 1 2 0,
     (by unfold CoreRuns; decide +kernel)⟩,
   ⟨{ sk [(1, tw 5 (hnd 1)), (2, tw 3 1)] with hdl := (litH 1 0).hdl }, 0, dab 3 1 0 0,
     (by unfold CoreRuns OnlyBits; decide +kernel)⟩,
   ⟨{ sk [(1, tw 5 (hnd 2)), (2, tw 3 1)] with hdl := (litH 1 0).hdl }, 0, dab 3 1 0 0,
     (by unfold CoreRuns OnlyBits; decide +kernel)⟩,
   ⟨sk [(1, tw 1 3)], 0, dab 3 1 0 511, (by unfold CoreRuns OnlyBits; decide +kernel)⟩,
   ⟨sk [], 0, 63, dab 3 0 0 63, (by unfold CoreRuns OnlyBits; decide +kernel)⟩,
   ⟨sk [], 0, dab 3 0 0 0, (by unfold CoreRuns OnlyBits; decide +kernel)⟩,
   ⟨{ sk [(1, tw 5 (hnd 16)), (2, tw 3 1)] with hdl := (litH 16 0).hdl, insts := [(0, Inst.d)] }, 0, 0, dab 3 1 0
     8, (by unfold CoreRuns OnlyBits; decide +kernel)⟩,
   ⟨put ({ sk [(1, tw 5 (hnd 16)), (2, tw 3 1)] with hdl := (litH 16 0).hdl, insts := [(0, metered)] }) [(0x1818,
     2)], 0, 0, dab 3 1 0 0, (by unfold CoreRuns OnlyBits; decide +kernel)⟩,
   ⟨sk [(1, tw 1 3)], 0, dab 3 1 0 0, (by unfold CoreRuns OnlyBits; decide +kernel)⟩,
   ⟨sk [], 0, dab 3 0 0 0, (by unfold CoreRuns OnlyBits; decide +kernel)⟩⟩

theorem witness_TrapChangesNothingOfTheCore :
    (∃ (s : State) (c : Nat) (op : Nat) (x : Nat) (code : Nat) (soft : Nat), c < 4 ∧ ((8191 < (s.core c).pc ∧ code
      = 8) ∨ ((s.core c).pc ≤ 8191 ∧ s.skExec c op x = .trap code soft)) ∧ s.trapAction c ≠ 1 ∧ code < 16 ∧ s.evOn
      48 = true) :=
  ⟨(sk []).updCore 0 (fun k => { k with pc := 8192 }), 0, 1, 0, 8, 0, (by decide +kernel), (.inl
    (by decide +kernel)), (by decide +kernel), (by decide +kernel), (by decide +kernel)⟩

theorem witness_CoresStartAndStop :
    (∃ (s : State) (c : Nat), (s.core c).steps = none) ∧
    (∃ (s : State) (c : Nat) (n : Nat), c < 4 ∧ (s.core c).steps = none ∧ (s.core c).haltDue = false ∧ (s.core
      c).cycles + n < 2 ^ 19) ∧
    (∃ (s : State) (c : Nat), c < 4 ∧ (s.core c).slice = true ∧ (s.core c).budget ≤ (s.core c).cycles ∧ s.pb
      (stkCfg c) 17 = false ∧ (s.core c).steps = none ∧ (s.core c).haltDue = false ∧ s.evOn 49 = true) ∧
    (∃ (s : State) (c : Nat), c < 4 ∧ (s.core c).slice = true ∧ (s.core c).cycles < (s.core c).budget) ∧
    (∃ (s : State) (c : Nat), c < 4 ∧ s.full = true ∧ (s.core c).startDue = true) ∧
    (∃ (s : State), s.sys.phase = .doused ∧ s.sys.clearDue = true) ∧
    (∃ (s : State), s.sys.phase = .doused ∧ s.sys.clearDue = false) ∧
    (∃ (s : State) (c : Nat), c < 4 ∧ s.full = true ∧ (s.core c).startDue = true) :=
  ⟨⟨sk [], 0, (by decide +kernel)⟩,
   ⟨sk [], 0, 2 ^ 19 - 1, (by decide +kernel)⟩,
   ⟨(sk []).updCore 0 (fun k => { k with cycles := 100 }), 0, (by decide +kernel)⟩,
   ⟨sk [], 0, (by decide +kernel)⟩,
   ⟨(sk []).updCore 3 (fun k => { k with startDue := true }), 3, (by decide +kernel)⟩,
   ⟨{ dous with sys := { dous.sys with clearDue := true } }, (by decide +kernel)⟩,
   ⟨dous, (by decide +kernel)⟩,
   ⟨(sk []).updCore 3 (fun k => { k with startDue := true }), 3, (by decide +kernel)⟩⟩

theorem witness_EventsOccurAndClear :
    (∃ (s : State) (e : Nat), s.evOn e = false) ∧
    (∃ (s : State) (e : Nat), e < 64 ∧ s.evOn e = true) ∧
    (∃ (s : State) (e : Nat) (i : Nat), s.holdsItem e i = true) ∧
    (∃ (s : State) (e : Nat) (i : Nat), e < 64 ∧ s.holdsItem e i = false ∧ s.evOn e = true) ∧
    (∃ (e : Nat), e < 64 ∧ evLevels.contains e = false) :=
  ⟨⟨put lit [(0x0602, 0)], 0, (by decide +kernel)⟩,
   ⟨lit, 63, (by decide +kernel)⟩,
   ⟨lit.begin 24 0 [], 24, 0, (by decide +kernel)⟩,
   ⟨lit, 63, 5, (by decide +kernel)⟩,
   ⟨0, (by decide +kernel)⟩⟩

theorem witness_IntentsAreArbitrated :
    (∃ (s : State) (i : Intent) (j : Intent), i ∈ s.arbitrate.cmd.winners ∧ j ∈ s.arbitrate.cmd.winners ∧ i.kind =
      j.kind ∧ i.chan = j.chan) ∧
    (∃ (s : State) (i : Intent), i.kind = 1 ∧ s.cmd.intents = [i] ∧ s.protects i = true) ∧
    (∃ (s : State) (i : Intent), i.a = 0 ∧ i.b ≤ 1 ∧ i.chan < 40 ∧ s.hsBound i.chan = false ∧ s.pb (hsStat i.chan)
      6 = false ∧ (s.isCon i.chan = false ∨ (s.hs i.chan).cont ≠ 2 ∨ s.pf (hsPwm i.chan) 0 16 ≠ 0) ∧ i.b = 1) ∧
    (∃ (s : State) (i : Intent), i.a = 0 ∧ i.b ≤ 1 ∧ i.chan < 40 ∧ s.hsBound i.chan = false ∧ s.pb (hsStat i.chan)
      6 = false ∧ (s.isCon i.chan = false ∨ (s.hs i.chan).cont ≠ 2 ∨ s.pf (hsPwm i.chan) 0 16 ≠ 0) ∧ i.b = 0) :=
  ⟨⟨{ lit with cmd := { Cmd.start with intents := [⟨1, 0, 0, 0, false, 0, 1, 0, 0⟩] } }, ⟨1, 0, 0, 0, false, 0, 1,
     0, 0⟩, ⟨1, 0, 0, 0, false, 0, 1, 0, 0⟩, (by decide +kernel)⟩,
   ⟨{ dous with cmd := { Cmd.start with intents := [⟨1, 0, 0, 0, false, 0, 1, 0, 0⟩] } }, ⟨1, 0, 0, 0, false, 0, 1,
     0, 0⟩, (by decide +kernel)⟩,
   ⟨lit, ⟨1, 39, 0, 0, false, 0, 1, 0, 0⟩, (by decide +kernel)⟩,
   ⟨put lit [(hsStat 0, 1)], ⟨1, 0, 0, 0, false, 0, 0, 0, 0⟩, (by decide +kernel)⟩⟩

end Sys2Proof.Tests
end

/-! Little-endian fields of a packet (R6), and what a port reads from the packet of a request (R160, R161). -/
namespace Sys2Proof.Machine

@[simp] theorem le_length (n v : Nat) : (le n v).length = n := by
  induction n generalizing v with
  | zero => rfl
  | succ n ih => simp [le, ih]

/-- The bytes of a number that fits in them read back as the number. -/
theorem leNat_le {n v : Nat} (h : v < 256 ^ n) : leNat (le n v) = v := by
  induction n generalizing v with
  | zero => simp only [pow_zero] at h; simp only [le, leNat]; omega
  | succ n ih =>
    have hv : v / 256 < 256 ^ n := by rw [Nat.pow_succ] at h; omega
    simp only [le, leNat, ih hv, BitVec.toNat_ofNat]
    omega

/-- A field at the front of the bytes. -/
theorem leAt_le_here {n v : Nat} (l : List Byte) (h : v < 256 ^ n) : leAt (le n v ++ l) 0 n = v := by
  rw [leAt, List.drop_zero, List.take_left' (le_length n v), leNat_le h]

/-- A field behind others. -/
theorem leAt_skip {a l : List Byte} {o k n : Nat} (h : o = a.length + k) : leAt (a ++ l) o n = leAt l k n := by
  rw [leAt, leAt, h, List.drop_length_add_append]

theorem crc32c_lt (l : List Byte) : crc32c l < 256 ^ 4 := BitVec.isLt _

end Sys2Proof.Machine

namespace Sys2Proof
open Machine

/-- The bytes of a request before its CRC (R160). -/
def requestBody (op seq flags handle : Nat) (l : List Byte) : List Byte :=
  le 1 0xF1 ++ (le 1 op ++ (le 2 seq ++ (le 2 l.length ++ (le 1 flags ++ (le 1 0 ++ (le 4 handle ++ l))))))

variable {op seq flags handle : Nat} {l : List Byte}

theorem requestBytes_eq : requestBytes op seq flags handle l =
    requestBody op seq flags handle l ++ le 4 (crc32c (requestBody op seq flags handle l)) := by
  simp [requestBytes, requestBody, withCrc]

theorem requestBody_length : (requestBody op seq flags handle l).length = 12 + l.length := by
  simp only [requestBody, List.length_append, le_length]; omega

theorem requestBytes_length : (requestBytes op seq flags handle l).length = 16 + l.length := by
  rw [requestBytes_eq, List.length_append, requestBody_length, le_length]; omega

theorem requestBytes_take : (requestBytes op seq flags handle l).take (12 + l.length) = requestBody op seq flags handle l := by
  rw [requestBytes_eq, List.take_left' requestBody_length]

theorem requestBytes_payload : ((requestBytes op seq flags handle l).drop 12).take l.length = l := by
  have e : requestBytes op seq flags handle l =
      (le 1 0xF1 ++ le 1 op ++ le 2 seq ++ le 2 l.length ++ le 1 flags ++ le 1 0 ++ le 4 handle) ++
        (l ++ le 4 (crc32c (requestBody op seq flags handle l))) := by
    simp [requestBytes_eq, requestBody]
  rw [e, List.drop_left' (by simp), List.take_left]

theorem requestBytes_crc : leAt (requestBytes op seq flags handle l) (12 + l.length) 4 =
    crc32c (requestBody op seq flags handle l) := by
  rw [requestBytes_eq, leAt_skip (k := 0) (by rw [requestBody_length]; rfl)]
  simpa using leAt_le_here [] (crc32c_lt _)

/-- The header of a request's packet, field by field (R160). -/
theorem requestBytes_header (hop : op < 256) (hseq : seq < 65536) (hflags : flags < 256) (hhandle : handle < 2 ^ 32)
    (hl : l.length ≤ 4096) :
    let b := requestBytes op seq flags handle l
    leAt b 0 1 = 0xF1 ∧ leAt b 1 1 = op ∧ leAt b 2 2 = seq ∧ leAt b 4 2 = l.length ∧ leAt b 6 1 = flags ∧
      leAt b 7 1 = 0 ∧ leAt b 8 4 = handle := by
  have skip (w v o k n : Nat) (r : List Byte) (h : o = w + k) : leAt (le w v ++ r) o n = leAt r k n :=
    leAt_skip (by rw [le_length, h])
  simp only [requestBytes_eq, requestBody, List.append_assoc]
  refine ⟨leAt_le_here _ (by omega), ?_, ?_, ?_, ?_, ?_, ?_⟩
  · rw [skip 1 _ 1 0 _ _ rfl, leAt_le_here _ (by omega)]
  · rw [skip 1 _ 2 1 _ _ rfl, skip 1 _ 1 0 _ _ rfl, leAt_le_here _ (by omega)]
  · rw [skip 1 _ 4 3 _ _ rfl, skip 1 _ 3 2 _ _ rfl, skip 2 _ 2 0 _ _ rfl, leAt_le_here _ (by omega)]
  · rw [skip 1 _ 6 5 _ _ rfl, skip 1 _ 5 4 _ _ rfl, skip 2 _ 4 2 _ _ rfl, skip 2 _ 2 0 _ _ rfl,
      leAt_le_here _ (by omega)]
  · rw [skip 1 _ 7 6 _ _ rfl, skip 1 _ 6 5 _ _ rfl, skip 2 _ 5 3 _ _ rfl, skip 2 _ 3 1 _ _ rfl,
      skip 1 _ 1 0 _ _ rfl, leAt_le_here _ (by omega)]
  · rw [skip 1 _ 8 7 _ _ rfl, skip 1 _ 7 6 _ _ rfl, skip 2 _ 6 4 _ _ rfl, skip 2 _ 4 2 _ _ rfl,
      skip 1 _ 2 1 _ _ rfl, skip 1 _ 1 0 _ _ rfl, leAt_le_here _ (by omega)]

/-- A request that the port has not executed yet, and has room for, is queued (R160, R161, R164 to R166). -/
theorem receive_requestBytes (s : State) (p iface ip udp : Nat) (more : Bool) (hop : op < 256) (hseq : seq < 65536)
    (hflags : flags < 256) (hhandle : handle < 2 ^ 32) (hl : l.length ≤ 4096)
    (hnew : (s.port p).last.find? (fun e => e.1 == seq &&
      e.2.1 == leAt (requestBytes op seq flags handle l) (12 + l.length) 4) = none)
    (hroom : (s.cmd.queue.filter (fun q => q.req.port == p)).length < 64) :
    s.receive p (requestBytes op seq flags handle l) more iface ip udp =
      s.enqueue op (reqOf s p op seq flags handle l iface ip udp) := by
  obtain ⟨hmagic, hop', hseq', hlen, hflags', hrsv, hhandle'⟩ := requestBytes_header hop hseq hflags hhandle hl
  have hlong : ¬ ((requestBytes op seq flags handle l).length < 6 ∨ 4096 < l.length ∨
      (requestBytes op seq flags handle l).length < 16 + l.length ∨
      (more = false ∧ (requestBytes op seq flags handle l).length ≠ 16 + l.length)) := by
    rw [requestBytes_length]; omega
  have hcrc : crc32c ((requestBytes op seq flags handle l).take (12 + l.length)) =
      leAt (requestBytes op seq flags handle l) (12 + l.length) 4 := by
    rw [requestBytes_take, requestBytes_crc]
  rw [State.receive, if_neg (by rw [requestBytes_length, hmagic]; omega)]
  simp only [hop', hseq', hlen, hflags', hrsv, hhandle', hnew, requestBytes_payload]
  rw [if_neg hlong, if_neg (by simp [hcrc]), if_neg (by omega)]
  rfl

end Sys2Proof

/-! An occurrence of an event (R256, R257): what it latches, and what it leaves alone. -/
namespace Sys2Proof.Machine

theorem State.countSpans_keeps {β : Type} (π : State → β) (h : ∀ t n f, π (t.updInst n f) = π t) (s : State) (e sev : Nat) :
    π (s.countSpans e sev) = π s :=
  State.each_keeps π _ _ (fun t n => h t n _) s

/-- The action of severity DOUSE writes the record of the events that hold Doused, and no other parameter. -/
theorem State.douseBy_keeps {β : Type} (π : State → β) (e : Nat)
    (hrec : ∀ t : State, π (t.setPb (0x060C + e / 32) (e % 32) true) = π t)
    (hevt : ∀ t f, π (State.mapEvt t f) = π t) (hsys : ∀ t f, π (State.mapSys t f) = π t) (s : State) :
    π (s.douseBy e) = π s := by
  unfold State.douseBy
  split
  · rw [hevt, hrec]
  · rw [hsys, hrec]
  · split
    · rw [hsys, hrec]
    · rfl
  · rfl

/-- An occurrence sets the latch, and all else that it does keeps what `π` reads. -/
theorem State.occurs_keeps {β : Type} (π : State → β) (e : Nat)
    (hrec : ∀ t : State, π (t.setPb (0x060C + e / 32) (e % 32) true) = π t)
    (hevt : ∀ t f, π (State.mapEvt t f) = π t) (hsys : ∀ t f, π (State.mapSys t f) = π t)
    (hinst : ∀ t n f, π (State.updInst t n f) = π t) (s : State) (d : List Byte) :
    π (s.occurs e d) = π (s.setPb (0x0600 + e / 32) (e % 32) true) := by
  unfold State.occurs
  dsimp only
  split
  · rw [State.douseBy_keeps π e hrec hevt hsys, State.countSpans_keeps π hinst, hevt]
  · rw [State.countSpans_keeps π hinst, hevt]

theorem State.raise_wdg (s : State) (e : Nat) (d : List Byte) : (s.raise e d).wdg = s.wdg := by
  unfold State.raise
  split
  · exact State.occurs_keeps State.wdg e (by simp) (by simp) (by simp) (by simp) s d
  · rfl

/-- An event writes no parameter but its latch and its record of holding Doused. -/
theorem State.raise_p (s : State) (e : Nat) (d : List Byte) {a : Nat} (h : a ≠ 0x0600 + e / 32) (h' : a ≠ 0x060C + e / 32) :
    (s.raise e d).p a = s.p a := by
  unfold State.raise
  split
  · rw [State.occurs_keeps (fun t => t.p a) e (fun t => t.p_setPb_other _ _ h') (by simp) (by simp) (by simp),
      s.p_setPb_other _ _ h]
  · rfl

/-- An enabled event is latched once it has occurred (R257). -/
theorem State.raise_latched (s : State) {e : Nat} (d : List Byte) (h : s.evOn e = true) : (s.raise e d).latched e = true := by
  rw [State.raise, if_pos h]
  have hrec (t : State) : (t.setPb (0x060C + e / 32) (e % 32) true).latched e = t.latched e :=
    t.pb_setPb_other _ _ _ (by omega)
  rw [State.occurs_keeps (fun t => t.latched e) e hrec (fun _ _ => rfl) (fun _ _ => rfl) (fun _ _ _ => rfl)]
  exact s.pb_setPb_same _ _ _ (Nat.mod_lt _ (by omega))

theorem mem_insNat (n : Nat) (l : List Nat) : n ∈ insNat n l := by
  induction l with
  | nil => simp [insNat]
  | cons m r ih =>
    unfold insNat
    split_ifs with hlt heq
    · simp
    · simp [heq]
    · simp [ih]

/-- A counter below its largest value goes up by 1. -/
theorem State.pf_incPf_same (s : State) (a lo wid : Nat) (h : lo + wid ≤ 32) (h' : s.pf a lo wid + 1 < 2 ^ wid) :
    (s.incPf a lo wid).pf a lo wid = s.pf a lo wid + 1 := by
  have hsat : satAdd wid (s.pf a lo wid) 1 = s.pf a lo wid + 1 := Nat.min_eq_left (by omega)
  rw [State.incPf, s.pf_setPf_same a lo wid _ h, hsat, Nat.mod_eq_of_lt h']

theorem State.pf_lt (s : State) (a lo wid : Nat) : s.pf a lo wid < 2 ^ wid := Nat.mod_lt _ (by positivity)

end Sys2Proof.Machine

/-! The watchdog's arithmetic (R286, R287), said of words of 16 bits. -/
namespace Sys2Proof.Machine

theorem lfsr_lt (q : Nat) : lfsr q < 2 ^ 16 := by
  unfold lfsr
  dsimp only
  omega

/-- The correct answer is ((q xor SEED) × 0x9E37) mod 65,536 (R287). -/
theorem wdgAnswerTo_iff {ans : Nat} (q seed : Nat) (h : ans < 65536) :
    ans = wdgAnswerTo q seed ↔
      BitVec.ofNat 16 ans = (BitVec.ofNat 16 q ^^^ BitVec.ofNat 16 seed) * 0x9E37#16 := by
  have e : (BitVec.ofNat 16 q ^^^ BitVec.ofNat 16 seed) * 0x9E37#16 = BitVec.ofNat 16 (wdgAnswerTo q seed) := by
    apply BitVec.eq_of_toNat_eq
    simp [wdgAnswerTo, ← Nat.xor_mod_two_pow (n := 16), Nat.mod_mul_mod]
  have hw : wdgAnswerTo q seed < 65536 := Nat.mod_lt _ (by omega)
  rw [e, ← BitVec.toNat_inj, BitVec.toNat_ofNat, BitVec.toNat_ofNat, Nat.mod_eq_of_lt h, Nat.mod_eq_of_lt hw]

/-- The sum of four bits has the parity of their exclusive or. -/
theorem lfsr_feedback (q : Nat) :
    (b2n (bit q 0) + b2n (bit q 2) + b2n (bit q 3) + b2n (bit q 5)) % 2 = (q ^^^ q / 4 ^^^ q / 8 ^^^ q / 32) % 2 := by
  have hbit (n : Nat) : b2n (bit q n) = q / 2 ^ n % 2 := by
    rcases Nat.mod_two_eq_zero_or_one (q / 2 ^ n) with h | h <;> simp [b2n, bit, h]
  have h2 : (q ^^^ q / 4) % 2 = (q + q / 4) % 2 := Nat.xor_mod_two_eq
  have h3 : (q ^^^ q / 4 ^^^ q / 8) % 2 = ((q ^^^ q / 4) + q / 8) % 2 := Nat.xor_mod_two_eq
  have h5 : (q ^^^ q / 4 ^^^ q / 8 ^^^ q / 32) % 2 = ((q ^^^ q / 4 ^^^ q / 8) + q / 32) % 2 := Nat.xor_mod_two_eq
  simp only [hbit, h5]
  omega

/-- The next question is one step of the LFSR (R286). -/
theorem lfsr_bitVec {n : Nat} (h : n < 65536) : BitVec.ofNat 16 (lfsr n) = (let q := BitVec.ofNat 16 n
    (q >>> 1) ||| (((q ^^^ (q >>> 2) ^^^ (q >>> 3) ^^^ (q >>> 5)) &&& 1#16) <<< 15)) := by
  have hfb : (n ^^^ n / 4 ^^^ n / 8 ^^^ n / 32) % 2 < 2 := Nat.mod_lt _ (by omega)
  have hlfsr : lfsr n = 2 ^ 15 * ((n ^^^ n / 4 ^^^ n / 8 ^^^ n / 32) % 2) + n / 2 := by
    unfold lfsr
    rw [lfsr_feedback]
    dsimp only
    omega
  rw [hlfsr, Nat.two_pow_add_eq_or_of_lt (by omega)]
  apply BitVec.eq_of_toNat_eq
  simp [-Nat.xor_mod_two_eq, Nat.mod_eq_of_lt h, Nat.shiftRight_eq_div_pow, Nat.shiftLeft_eq, Nat.and_one_is_mod]
  rw [Nat.mod_eq_of_lt (a := n / 2) (by omega), Nat.or_comm, Nat.mul_comm]

end Sys2Proof.Machine

/-! The watchdog as an answer meets it: the snapshot of its receipt, the next period, and the error count. -/
namespace Sys2Proof.Machine

variable {s : State} {ans src : Nat} {k : WdgSnap}

/-- An answer from the server of a watchdog that runs is for the period in progress (R282, R284). -/
theorem State.wdgSnap_period_of_server (hserver : s.wdgServer src = true) (hruns : s.wdgRuns = true)
    (hexp : s.wdg.expired = false) (hheld : s.wdgEndHeld = false) : (s.wdgSnap src).period = s.wdg.period := by
  simp [State.wdgSnap, hserver, hruns, hexp, hheld]

/-- Any other answer is for no period (R284, R846). -/
theorem State.wdgSnap_period_of_refused
    (h : s.wdgServer src = false ∨ s.wdgRuns = false ∨ s.wdg.expired = true ∨ s.wdgEndHeld = true) :
    (s.wdgSnap src).period = 0 := by
  rcases h with h | h | h | h <;> simp [State.wdgSnap, h]

/-- The period of a snapshot is the one in progress, or none. -/
theorem State.wdgSnap_period_of_ne (h : (s.wdgSnap src).period ≠ 0) : (s.wdgSnap src).period = s.wdg.period := by
  unfold State.wdgSnap at h ⊢
  dsimp only at h ⊢
  split at h
  · rw [if_pos ‹_›]
  · exact absurd rfl h

/-- When an answer counts as correct (R287, R292). -/
theorem wdgCorrect_iff (h : ans < 65536) : wdgCorrect k ans = true ↔ k.period ≠ 0 ∧ k.isOpen = true ∧
    BitVec.ofNat 16 ans = (BitVec.ofNat 16 k.question ^^^ BitVec.ofNat 16 k.seed) * 0x9E37#16 := by
  simp [wdgCorrect, Nat.mod_eq_of_lt h, ← wdgAnswerTo_iff _ _ h, and_assoc]

theorem period_ne_zero_of_wdgCorrect (h : wdgCorrect k ans = true) : k.period ≠ 0 := by
  simp only [wdgCorrect, Bool.and_eq_true, bne_iff_ne] at h
  exact h.1.1

/-- A correct answer lowers the error count, if it is not 0 (R292). -/
def State.wdgEased (s : State) : State := s.setPf 0x0703 16 3 (s.pf 0x0703 16 3 - 1)

/-- A wrong answer raises EV52 and the error count (R293). -/
def State.wdgErred (s : State) : State := (s.raise 52 []).incPf 0x0703 16 3

/-- An answer of no period is refused with LOCKED, and changes nothing (R284). -/
theorem State.wdgJudge_locked (h : k.period = 0) : s.wdgJudge ans k = (0x0301, s) := by
  rw [State.wdgJudge, if_pos h]

/-- A correct answer of the period in progress starts the next period, with the next question (R290, R292). -/
theorem State.wdgJudge_of_correct (h : wdgCorrect k ans = true) (hnow : k.period = s.wdg.period) :
    s.wdgJudge ans k = (0, s.wdgEased.wdgStep.wdgPeriod) := by
  have hstarts : s.wdgEased.wdgStarts ans k = true := by simp [State.wdgStarts, State.wdgEased, h, hnow]
  rw [State.wdgJudge, if_neg (period_ne_zero_of_wdgCorrect h), if_pos h, ← State.wdgEased, State.wdgHear, if_pos hstarts]

/-- A correct answer of an earlier period changes the error count alone (R291). -/
theorem State.wdgJudge_of_correct_late (h : wdgCorrect k ans = true) (hlate : k.period ≠ s.wdg.period) :
    s.wdgJudge ans k = (0, s.wdgEased) := by
  have hstarts : ¬ s.wdgEased.wdgStarts ans k = true := by simp [State.wdgStarts, State.wdgEased, hlate]
  rw [State.wdgJudge, if_neg (period_ne_zero_of_wdgCorrect h), if_pos h, ← State.wdgEased, State.wdgHear, if_neg hstarts]

/-- Any other answer of a period is wrong: the reset falls due when the error count reaches its maximum (R293, R295). -/
theorem State.wdgJudge_of_wrong (h : k.period ≠ 0) (hwrong : wdgCorrect k ans = false) : s.wdgJudge ans k =
    (0x0103, if s.wdg.errMax ≤ s.wdgErred.pf 0x0703 16 3 then s.wdgErred.dueReset 2 else s.wdgErred) := by
  rw [State.wdgJudge, if_neg h, if_neg (by simp [hwrong])]
  rfl

theorem State.wdgEased_errors (s : State) : s.wdgEased.pf 0x0703 16 3 = s.pf 0x0703 16 3 - 1 := by
  have hlt := s.pf_lt 0x0703 16 3
  rw [State.wdgEased, s.pf_setPf_same _ _ _ _ (by omega), Nat.mod_eq_of_lt (by omega)]

theorem State.wdgEased_question (s : State) : s.wdgEased.pf 0x0703 0 16 = s.pf 0x0703 0 16 :=
  s.pf_setPf_below _ _ _ _ _ _ (by omega) (by omega)

theorem State.wdgEased_sameParams (s : State) : SameParams s s.wdgEased [0x0703] :=
  fun _ ha => s.p_setPf_other _ _ _ (by simpa using ha)

theorem State.wdgErred_wdg (s : State) : s.wdgErred.wdg = s.wdg := s.raise_wdg 52 []

theorem State.wdgErred_question (s : State) : s.wdgErred.pf 0x0703 0 16 = s.pf 0x0703 0 16 := by
  rw [State.wdgErred, State.incPf, State.pf_setPf_below _ _ _ _ _ _ _ (by omega) (by omega), State.pf,
    s.raise_p 52 [] (by omega) (by omega), State.pf]

theorem State.wdgErred_errors (s : State) (h : s.pf 0x0703 16 3 < 7) :
    s.wdgErred.pf 0x0703 16 3 = s.pf 0x0703 16 3 + 1 := by
  have hraise : (s.raise 52 []).pf 0x0703 16 3 = s.pf 0x0703 16 3 := by
    rw [State.pf, s.raise_p 52 [] (by omega) (by omega), State.pf]
  rw [State.wdgErred, State.pf_incPf_same _ _ _ _ (by omega) (by omega), hraise]

theorem State.wdgErred_latched (s : State) (h : s.evOn 52 = true) : s.wdgErred.latched 52 = true := by
  rw [← s.raise_latched [] h]
  exact congrArg (bit · _) ((s.raise 52 []).p_setPf_other _ _ _ (by omega))

/-- A new period closes the window, and keeps the other fields of WDG.STAT below it (R290). -/
theorem State.wdgPeriod_pf (s : State) {lo wid : Nat} (h : lo + wid ≤ 19) :
    s.wdgPeriod.pf 0x0703 lo wid = s.pf 0x0703 lo wid := by
  rw [State.wdgPeriod, State.mapWdg_pf, State.setPb, s.pf_setPf_below _ _ _ _ _ _ (by omega) h]

theorem State.wdgPeriod_closed (s : State) : s.wdgPeriod.pb 0x0703 19 = false := by
  rw [State.wdgPeriod, State.mapWdg_pb, s.pb_setPb_same _ _ _ (by omega)]

/-- The next period: the question steps, and the window is closed (R286, R290). -/
theorem State.wdgNext_question (s : State) : s.wdgStep.wdgPeriod.pf 0x0703 0 16 = lfsr (s.pf 0x0703 0 16) := by
  rw [State.wdgPeriod_pf _ (by omega), State.wdgStep, s.pf_setPf_same _ _ _ _ (by omega), Nat.mod_eq_of_lt (lfsr_lt _)]

theorem State.wdgNext_errors (s : State) : s.wdgStep.wdgPeriod.pf 0x0703 16 3 = s.pf 0x0703 16 3 := by
  rw [State.wdgPeriod_pf _ (by omega), State.wdgStep, s.pf_setPf_above _ _ _ _ _ _ (by omega) (by omega)]

theorem State.wdgNext_sameParams (s : State) : SameParams s s.wdgStep.wdgPeriod [0x0703] := by
  intro a ha
  have ha' : a ≠ 0x0703 := by simpa using ha
  rw [State.wdgPeriod, State.mapWdg_p, State.p_setPb_other _ _ _ ha', State.wdgStep, s.p_setPf_other _ _ _ ha']

theorem State.wdgNext_period (s : State) : s.wdgStep.wdgPeriod.wdg.period = s.wdg.period + 1 := by
  rw [State.wdgPeriod, State.mapWdg_wdg, State.setPb_wdg, State.wdgStep, State.setPf_wdg]

theorem State.wdgNext_evt (s : State) : s.wdgStep.wdgPeriod.evt = s.evt := by
  rw [State.wdgPeriod, State.mapWdg_evt, State.setPb_evt, State.wdgStep, State.setPf_evt]

theorem State.wdgNext_sys (s : State) : s.wdgStep.wdgPeriod.sys = s.sys := by
  rw [State.wdgPeriod, State.mapWdg_sys, State.setPb_sys, State.wdgStep, State.setPf_sys]

theorem State.wdgNext_cmd (s : State) : s.wdgStep.wdgPeriod.cmd = s.cmd := by
  rw [State.wdgPeriod, State.mapWdg_cmd, State.setPb_cmd, State.wdgStep, State.setPf_cmd]

/-- A request is in the queue once it has taken its place (R168). -/
theorem State.mem_place (s : State) (q : QItem) (l : List QItem) : q ∈ s.place q l := by
  induction l with
  | nil => simp [State.place]
  | cons x l ih =>
    unfold State.place
    split
    · simp
    · simp [ih]

/-- A request that passes checks 5 to 9, needs no signature and has no refusal bytes of its own answers what its executor
answers. -/
theorem State.runRow_of_passes {op : Nat} {r : Req} (f : State → Req → Ans) (h : Passes s op r)
    (hsigned : signedOps.contains op = false) (hblock : op ≠ 0x06) (hvalve : op ≠ 0x22) :
    s.runRow op r f = (f s r).st.answer op r (f s r).status (f s r).payload (f s r).wait := by
  obtain ⟨hserves, hport, hcheck⟩ := h
  have hrefusal (l : List Byte) : s.refusalBytes op r l = l := by simp [State.refusalBytes, hblock, hvalve]
  rw [State.runRow, if_pos (by simp [hserves, hport]), State.runReq, if_neg (by simp [hcheck])]
  simp only [hsigned, hrefusal, ite_self, Bool.not_false, Bool.true_or, Bool.not_true, Bool.false_eq_true, if_false]

/-- Receipt of a well-formed answer that is correct: it waits, and the next period has begun (R290 to R292, R846). -/
theorem State.enqueue_of_startsPeriod {r : Req} (h : s.startsPeriod 0x70 r = true) : s.enqueue 0x70 r =
    (s.mapCmd (fun m => { m with
      queue := s.place ⟨0x70, r, false, 0, s.cmd.cycle, false, false, some (s.pf 0x0703 0 16)⟩ m.queue
    })).wdgStep.wdgPeriod := by
  have hunsigned : signedOps.contains 0x70 = false := by decide
  simp only [State.enqueue, h, hunsigned, if_true, Bool.false_and, Bool.false_eq_true, if_false]

end Sys2Proof.Machine

/-! The answers of the watchdog, judged: one theorem for each clause of the statement. -/
namespace Sys2Proof.Machine

variable {s : State} {ans src : Nat} {k : WdgSnap} {r : Req}

/-- A correct answer in the open window of the period in progress (R286, R290, R292). -/
theorem State.wdgJudge_correct_now (h : wdgCorrect k ans = true) (hnow : k.period = s.wdg.period) :
    ∃ u : State, s.wdgJudge ans k = (0, u) ∧ u.wdg.period = s.wdg.period + 1 ∧ u.pb 0x0703 19 = false ∧
      u.pf 0x0703 0 16 = lfsr (s.pf 0x0703 0 16) ∧ u.pf 0x0703 16 3 = s.pf 0x0703 16 3 - 1 ∧
      SameParams s u [0x0703] ∧ u.evt = s.evt ∧ u.sys = s.sys := by
  refine ⟨_, State.wdgJudge_of_correct h hnow, ?_, State.wdgPeriod_closed _, ?_, ?_, ?_, ?_, ?_⟩
  · rw [State.wdgNext_period, State.wdgEased, State.setPf_wdg]
  · rw [State.wdgNext_question, s.wdgEased_question]
  · rw [State.wdgNext_errors, s.wdgEased_errors]
  · exact fun a ha => (s.wdgEased.wdgNext_sameParams a ha).trans (s.wdgEased_sameParams a ha)
  · rw [State.wdgNext_evt, State.wdgEased, State.setPf_evt]
  · rw [State.wdgNext_sys, State.wdgEased, State.setPf_sys]

/-- A wrong answer, or one before the window opens (R293, R295). -/
theorem State.wdgJudge_wrong (h : k.period ≠ 0) (hwrong : wdgCorrect k ans = false) (hcount : s.pf 0x0703 16 3 < 7) :
    ∃ u : State, s.wdgJudge ans k = (0x0103, u) ∧ u.wdg = s.wdg ∧ u.pf 0x0703 0 16 = s.pf 0x0703 0 16 ∧
      u.pf 0x0703 16 3 = s.pf 0x0703 16 3 + 1 ∧ (s.evOn 52 = true → u.latched 52 = true) ∧
      (s.wdg.errMax ≤ s.pf 0x0703 16 3 + 1 → 2 ∈ u.sys.resetDue) := by
  rw [State.wdgJudge_of_wrong h hwrong, s.wdgErred_errors hcount]
  have hlatched (hon : s.evOn 52 = true) := s.wdgErred_latched hon
  by_cases hmax : s.wdg.errMax ≤ s.pf 0x0703 16 3 + 1
  · rw [if_pos hmax]
    exact ⟨_, rfl, s.wdgErred_wdg, s.wdgErred_question, s.wdgErred_errors hcount, hlatched, fun _ => mem_insNat _ _⟩
  · rw [if_neg hmax]
    exact ⟨_, rfl, s.wdgErred_wdg, s.wdgErred_question, s.wdgErred_errors hcount, hlatched, fun h => absurd h hmax⟩

/-- WDG_ANSWER replies with the status of its judgement, the question then in force and the error count (R291). -/
theorem wdgAnswer_gives (h : Passes s 0x70 r) : Gives (.wdgAnswer r) s
    ((s.wdgJudge (leAt r.payload 0 2) r.wdg).2.answer 0x70 r (s.wdgJudge (leAt r.payload 0 2) r.wdg).1
      (s.wdgJudge (leAt r.payload 0 2) r.wdg).2.wdgBytes none) := by
  have hrun := State.runRow_of_passes State.opWdgAnswer h (by decide) (by decide) (by decide)
  exact congrArg done hrun

/-- A correct answer that executes after its period changes the error count alone (R291). -/
theorem wdgAnswer_gives_late (h : Passes s 0x70 r) (hlate : r.wdg.period ≠ s.wdg.period)
    (hcorrect : wdgCorrect r.wdg (leAt r.payload 0 2) = true) :
    Gives (.wdgAnswer r) s (s.wdgEased.answer 0x70 r 0 s.wdgEased.wdgBytes none) := by
  have hgives := wdgAnswer_gives h
  rwa [State.wdgJudge_of_correct_late hcorrect hlate] at hgives

/-- A well-formed answer that is correct starts the next period as it is received (R290 to R292). -/
theorem State.startsPeriod_of_correct (hlen : r.payload.length = 2) (hflags : r.flags < 2) (hrsv : r.rsv = 0)
    (hhandle : r.handle = 0) (hcorrect : wdgCorrect (s.wdgSnap r.port) (leAt r.payload 0 2) = true)
    (hsnap : r.wdg = s.wdgSnap r.port) : s.startsPeriod 0x70 r = true := by
  have hnow := State.wdgSnap_period_of_ne (period_ne_zero_of_wdgCorrect hcorrect)
  simp [State.startsPeriod, State.wdgStarts, hlen, hflags, hrsv, hhandle, hsnap, hcorrect, hnow]

/-- The receipt of an answer that starts the next period: the question has stepped, the error count has not changed, and the answer
waits to be judged with the question of its receipt (R290, R292, R846). -/
theorem State.enqueue_starts (h : s.startsPeriod 0x70 r = true) :
    ∃ u : State, s.enqueue 0x70 r = u ∧ u.wdg.period = s.wdg.period + 1 ∧ u.wdgWaits = true ∧
      u.pb 0x0703 19 = false ∧ u.pf 0x0703 0 16 = lfsr (s.pf 0x0703 0 16) ∧ u.pf 0x0703 16 3 = s.pf 0x0703 16 3 ∧
      u.cmd.queue = s.place ⟨0x70, r, false, 0, s.cmd.cycle, false, false, some (s.pf 0x0703 0 16)⟩ s.cmd.queue ∧
      SameParams s u [0x0703] ∧ u.evt = s.evt := by
  refine ⟨_, State.enqueue_of_startsPeriod h, ?_, ?_, State.wdgPeriod_closed _, ?_, ?_, ?_, ?_, ?_⟩
  · rw [State.wdgNext_period, State.mapCmd_wdg]
  · rw [State.wdgWaits, State.wdgNext_cmd, State.mapCmd_cmd, List.any_eq_true]
    exact ⟨_, s.mem_place _ _, rfl⟩
  · rw [State.wdgNext_question, State.mapCmd_pf]
  · rw [State.wdgNext_errors, State.mapCmd_pf]
  · rw [State.wdgNext_cmd, State.mapCmd_cmd]
  · exact State.wdgNext_sameParams _
  · rw [State.wdgNext_evt, State.mapCmd_evt]

end Sys2Proof.Machine

namespace Sys2Proof
open Machine

/-- Settles O33: an answer is correct, late, wrong or refused by the snapshot of its receipt (`State.wdgJudge_correct_now`,
`State.wdgJudge_of_correct_late`, `State.wdgJudge_wrong`, `State.wdgJudge_locked`), and a correct one starts the next period where
it is queued (`State.enqueue_starts`). -/
theorem watchdogAnswersAreJudged : Obligations.WatchdogAnswersAreJudged := by
  unfold Obligations.WatchdogAnswersAreJudged
  refine ⟨?_, ?_, ?_, fun s r h => wdgAnswer_gives h, ?_, ?_, ?_, ?_⟩
  · intro s src ans hserver hruns hexp hheld hper hans hopen hword _
    have hnow := State.wdgSnap_period_of_server hserver hruns hexp hheld
    have hcorrect : wdgCorrect (s.wdgSnap src) ans = true :=
      (wdgCorrect_iff hans).mpr ⟨hnow ▸ hper, hopen, hword⟩
    obtain ⟨u, hjudge, hperiod, hclosed, hquestion, hrest⟩ := State.wdgJudge_correct_now hcorrect hnow
    refine ⟨u, hjudge, hperiod, hclosed, ?_, hrest⟩
    rw [hquestion, lfsr_bitVec (s.pf_lt 0x0703 0 16)]
  · intro s ans k hper hlate hopen hans hword _ _
    exact State.wdgJudge_of_correct_late ((wdgCorrect_iff hans).mpr ⟨hper, hopen, hword⟩) hlate
  · intro s src ans hserver hruns hexp hheld hper hans _ hcount hbad
    have hnow := State.wdgSnap_period_of_server hserver hruns hexp hheld
    have hwrong : wdgCorrect (s.wdgSnap src) ans = false := by
      rw [← Bool.not_eq_true, wdgCorrect_iff hans]
      rintro ⟨_, hopen, hword⟩
      rcases hbad with hclosed | hother
      · exact absurd (hopen.symm.trans hclosed) (by decide)
      · exact hother hword
    exact State.wdgJudge_wrong (hnow ▸ hper) hwrong hcount
  · intro s r hpass _ hlate hcorrect
    exact ⟨s.wdgEased, wdgAnswer_gives_late hpass hlate hcorrect, s.wdgEased_errors, s.wdgEased_question, rfl,
      s.wdgEased_sameParams⟩
  · intro s src ans h
    exact State.wdgJudge_locked (State.wdgSnap_period_of_refused h)
  · intro s r hlen hflags hrsv hhandle hcorrect hsnap
    exact State.enqueue_starts (State.startsPeriod_of_correct hlen hflags hrsv hhandle hcorrect hsnap)
  · intro s p seq flags handle iface ip udp l hseq hflags hhandle hl hnew hroom
    exact receive_requestBytes s p iface ip udp true (by decide) hseq hflags hhandle hl hnew hroom

end Sys2Proof

/-! A worker's parameter words (R341, R788), read after one is stored. -/
namespace Sys2Proof.Machine

theorem Wk.p_setP_same (k : Wk) (i v : Nat) : (k.setP i v).p i = v % 2 ^ 32 := by
  unfold Wk.p Wk.setP
  dsimp only
  by_cases h : BitVec.ofNat 32 v = wkReset k.meter i
  · rw [if_pos h, Tbl.find_del_same]
    simp [← h]
  · rw [if_neg h, Tbl.find_set_same]
    simp

theorem Wk.p_setP_other (k : Wk) {i j : Nat} (v : Nat) (h : j ≠ i) : (k.setP i v).p j = k.p j := by
  unfold Wk.p Wk.setP
  dsimp only
  split_ifs
  · rw [Tbl.find_del_other _ h]
  · rw [Tbl.find_set_other _ _ h]

end Sys2Proof.Machine

/-! A manager's frame at a worker (R311, R333): whether the worker takes it, and the way it goes on. -/
namespace Sys2Proof.Machine

variable {s : State} {w : Nat} {h : WHdr} {kind : Nat} {body : List Byte}

/-- Two changes that make the same of the worker as it is are the same change. -/
theorem State.updWk_congr {f g : Wk → Wk} (hfg : f (s.wk w) = g (s.wk w)) : s.updWk w f = s.updWk w g := by
  unfold State.updWk Tbl.upd
  exact congrArg (fun k => { s with wks := Tbl.put Wk.d s.wks w k }) hfg

/-- A frame goes on away from where it came, or back where its onward lane has no signal (R311, R333). -/
theorem State.wkForward_eq {lane : Nat} (hlane : lane < 2) (addr flags seq : Nat) :
    ∃ d, d = (if (if lane = 0 then (s.wk w).lostB else (s.wk w).lostA) then lane else 1 - lane) ∧
      s.wkForward w lane addr kind flags seq body = { s with sent := { s.sent with worker := s.sent.worker ++
        [(w, ⟨wRing w, d, addr, kind, flags + (if d = 0 then 1 else 0), seq, body⟩)] } } := by
  have hdir : (if lane = 0 then (if (s.wk w).lostB then 0 else 1) else if (s.wk w).lostA then 1 else 0) =
      if (if lane = 0 then (s.wk w).lostB else (s.wk w).lostA) then lane else 1 - lane := by
    rcases (show lane = 0 ∨ lane = 1 by omega) with rfl | rfl <;> rfl
  refine ⟨_, rfl, ?_⟩
  rw [State.wkForward, hdir]
  simp [State.mapSent, b2n]

@[simp] theorem State.wkPass_wk (v : Nat) : (s.wkPass w h kind body).wk v = s.wk v := rfl

/-- Passing a frame on looks at the worker's lanes alone, so it may come before or after a change that leaves these. -/
theorem State.updWk_wkPass {f : Wk → Wk} (hA : (f (s.wk w)).lostA = (s.wk w).lostA)
    (hB : (f (s.wk w)).lostB = (s.wk w).lostB) :
    (s.wkPass w h kind body).updWk w f = (s.updWk w f).wkPass w h kind body := by
  unfold State.wkPass State.wkForward
  dsimp only
  rw [State.updWk_same, hA, hB]
  rfl

/-- A frame to the worker's own address goes no further. -/
theorem State.wkFrame_of_own (f : State → State) (haddr : h.dest = (s.wk w).addr) (hne : h.dest ≠ 0) :
    s.wkFrame w h kind body f = f s := by
  have htakes : (s.wk w).takes h = true := by simp [Wk.takes, haddr]
  simp only [State.wkFrame, if_pos (And.intro haddr hne), if_pos htakes]

/-- A frame to every worker is taken and goes on. -/
theorem State.wkFrame_of_all (f : State → State) (hdest : h.dest = 0) :
    s.wkFrame w h kind body f = f (s.wkPass w h kind body) := by
  have htakes : (s.wk w).takes h = true := by simp [Wk.takes, hdest]
  have hon : ¬ (h.dest = (s.wk w).addr ∧ h.dest ≠ 0) := fun hown => hown.2 hdest
  simp only [State.wkFrame, if_neg hon, if_pos htakes]

/-- A frame to another address goes on and does nothing else. -/
theorem State.wkFrame_of_other (f : State → State) (haddr : h.dest ≠ (s.wk w).addr) (hne : h.dest ≠ 0) :
    s.wkFrame w h kind body f = s.wkPass w h kind body := by
  have htakes : ¬ (s.wk w).takes h = true := by simp [Wk.takes, haddr, hne]
  have hon : ¬ (h.dest = (s.wk w).addr ∧ h.dest ≠ 0) := fun hown => haddr hown.1
  simp only [State.wkFrame, if_neg hon, if_neg htakes]

end Sys2Proof.Machine

/-! Enumeration at a worker (R330 to R335). -/
namespace Sys2Proof.Machine

variable {s : State} {w : Nat} {h : WHdr}

@[simp] theorem Wk.takeAddr_addr (k : Wk) (a : Nat) : (k.takeAddr a).addr = a := rfl
@[simp] theorem Wk.takeAddr_mode (k : Wk) (a : Nat) : (k.takeAddr a).mode = 1 := rfl

/-- The delays of the worker's old place end (R330, R332). -/
theorem Wk.takeAddr_delays (k : Wk) (a : Nat) : (k.takeAddr a).p 1 = 0 ∧ (k.takeAddr a).p 2 = 0 := by
  unfold Wk.takeAddr
  exact ⟨by rw [Wk.p_setP_other _ _ (by decide), Wk.p_setP_same, Nat.zero_mod], by rw [Wk.p_setP_same, Nat.zero_mod]⟩

/-- Every powered worker takes an ENUM frame and sends it on (R311, R333). -/
theorem State.wkEnum_of_powered (mode count total : Nat) (f : Wk → Wk) (hmode : (s.wk w).mode ≠ 0) :
    s.wkEnum w h mode count total f = (s.updWk w (fun _ => f ((s.wk w).hears h.lane))).wkPass w h 2
      (le 1 mode ++ le 1 count ++ le 1 total ++ zeros 1) := by
  rw [State.wkEnum, if_neg hmode]
  rfl

theorem enumAssignA_gives {count : Nat} (hmode : (s.wk w).mode ≠ 0) (hcount : count < 63) :
    Gives (.enumAssignA w h count) s
      ((s.updWk w (fun _ => ((s.wk w).hears h.lane).takeAddr (count + 1))).wkPass w h 2
        (zeros 1 ++ le 1 (count + 1) ++ zeros 2)) := by
  have hrun := State.wkEnum_of_powered (h := h) 0 (count + 1) 0 (fun k => k.takeAddr (count + 1)) hmode
  exact congrArg done ((if_neg (by omega)).trans hrun)

/-- The 64th worker from end A finds no address left, and passes the count on as it came (R331). -/
theorem enumAssignA_gives_full (hmode : (s.wk w).mode ≠ 0) :
    Gives (.enumAssignA w h 63) s
      ((s.updWk w (fun _ => { (s.wk w).hears h.lane with addr := 0 })).wkPass w h 2
        (zeros 1 ++ le 1 63 ++ zeros 2)) := by
  have hrun := State.wkEnum_of_powered (h := h) 0 63 0 (fun k => { k with addr := 0 }) hmode
  exact congrArg done hrun

theorem enumProbeB_gives (count : Nat) (hmode : (s.wk w).mode ≠ 0) :
    Gives (.enumProbeB w h count) s
      ((s.updWk w (fun _ => (s.wk w).hears h.lane)).wkPass w h 2
        (le 1 1 ++ le 1 (count + 1) ++ zeros 2)) := by
  have hrun := State.wkEnum_of_powered (h := h) 1 (count + 1) 0 id hmode
  exact congrArg done hrun

theorem enumAssignB_gives {count total : Nat} (hmode : (s.wk w).mode ≠ 0) (htotal : total ≤ 63) :
    Gives (.enumAssignB w h count total) s
      ((s.updWk w (fun _ => ((s.wk w).hears h.lane).takeAddr (total - count))).wkPass w h 2
        (le 1 2 ++ le 1 (count + 1) ++ le 1 total ++ zeros 1)) := by
  have hrun := State.wkEnum_of_powered (h := h) 2 (count + 1) total (fun k => k.takeAddr ((total - count) % 64)) hmode
  have haddr : (total - count) % 64 = total - count := Nat.mod_eq_of_lt (by omega)
  exact congrArg done (hrun.trans (by rw [haddr]))

theorem enumCal_gives_ack (hreach : FrameReaches s w h) :
    Gives (.enumCal w h) s (s.wkSend w h.lane 6 (le 1 2 ++ le 1 h.seq ++ le 2 0 ++ le 4 0)) := by
  obtain ⟨hruns, haddr, hne⟩ := hreach
  exact congrArg done ((if_pos hruns).trans (State.wkFrame_of_own _ haddr hne))

theorem enumCal_gives_pass (hruns : (s.wk w).runs = true) (hne : h.dest ≠ 0) (haddr : h.dest ≠ (s.wk w).addr) :
    Gives (.enumCal w h) s (s.wkPass w h 2 (le 1 3 ++ zeros 3)) :=
  congrArg done ((if_pos hruns).trans (State.wkFrame_of_other _ haddr hne))

end Sys2Proof.Machine

/-! A LEASE frame at a running worker (R340 to R343, R521): it goes on, and marks the worker that it covers. -/
namespace Sys2Proof.Machine

variable {s : State} {w : Nat} {h : WHdr} {f : LeaseF} {g : Wk → Wk} {k : Wk}

/-- The payload of a LEASE frame of operation `op` (R340). -/
def leaseBody (op : Nat) (f : LeaseF) : List Byte :=
  le 1 f.role ++ le 1 op ++ le 2 f.epoch ++ le 1 f.first ++ le 1 f.last ++ zeros 2

/-- A LEASE to every worker leaves its mark where it covers the worker, and goes on. -/
theorem State.wkLease_of_all (op : Nat) (hruns : (s.wk w).runs = true) (hdest : h.dest = 0) :
    s.wkLease w h op f g =
      (s.wkPass w h 3 (leaseBody op f)).updWk w (fun k => if k.covered f then g k else k) := by
  simp only [State.wkLease, if_pos hruns, leaseBody]
  exact State.wkFrame_of_all _ hdest

/-- Where it covers the worker, which keeps its lanes, the worker becomes what the mark makes of it. -/
theorem State.wkLease_of_covered (op : Nat) {g' : Wk → Wk} (hruns : (s.wk w).runs = true) (hdest : h.dest = 0)
    (hcov : (s.wk w).covered f = true) (hmark : g (s.wk w) = g' (s.wk w))
    (hA : (g' (s.wk w)).lostA = (s.wk w).lostA) (hB : (g' (s.wk w)).lostB = (s.wk w).lostB) :
    s.wkLease w h op f g = (s.updWk w g').wkPass w h 3 (leaseBody op f) := by
  rw [State.wkLease_of_all op hruns hdest, ← State.updWk_wkPass hA hB]
  refine State.updWk_congr ?_
  rw [State.wkPass_wk, if_pos hcov, hmark]

/-- Where it does not cover the worker, no worker changes, and one frame goes on. -/
theorem State.wkLease_of_uncovered (op : Nat) (hruns : (s.wk w).runs = true) (hdest : h.dest = 0)
    (hcov : (s.wk w).covered f = false) :
    ∃ u : State, s.wkLease w h op f g = u ∧ (∀ v, u.wk v = s.wk v) ∧
      u.sent.worker.length = s.sent.worker.length + 1 ∧ u.params = s.params := by
  refine ⟨_, State.wkLease_of_all op hruns hdest, fun v => ?_, ?_, rfl⟩
  · by_cases hv : v = w
    · subst hv
      rw [State.updWk_same, State.wkPass_wk, if_neg (by simp [hcov])]
    · rw [State.updWk_other _ _ hv, State.wkPass_wk]
  · simp [State.wkPass, State.wkForward, State.mapSent]

theorem leaseRenew_gives (hruns : (s.wk w).runs = true) (hdest : h.dest = 0) (hcov : (s.wk w).covered f = true)
    (howner : f.role = (s.wk w).owner) (hrole : f.role ≠ 0) (hepoch : f.epoch = (s.wk w).epoch) :
    Gives (.leaseRenew w h f) s
      ((s.updWk w (fun k => { k with lsRenew := true })).wkPass w h 3 (leaseBody 1 f)) := by
  have hne : (s.wk w).owner ≠ 0 := howner ▸ hrole
  exact congrArg done (State.wkLease_of_covered 1 hruns hdest hcov (by simp [howner, hne, hepoch]) rfl rfl)

theorem leaseRelease_gives (hruns : (s.wk w).runs = true) (hdest : h.dest = 0) (hcov : (s.wk w).covered f = true)
    (howner : f.role = (s.wk w).owner) (hrole : f.role ≠ 0) :
    Gives (.leaseRelease w h f) s
      ((s.updWk w (fun k => { k with lsRel := true })).wkPass w h 3 (leaseBody 3 f)) := by
  have hne : (s.wk w).owner ≠ 0 := howner ▸ hrole
  exact congrArg done (State.wkLease_of_covered 3 hruns hdest hcov (by simp [howner, hne]) rfl rfl)

theorem leaseClaim_gives_A (hruns : (s.wk w).runs = true) (hdest : h.dest = 0) (hcov : (s.wk w).covered f = true)
    (hrole : f.role = 1) :
    Gives (.leaseClaim w h f) s
      ((s.updWk w (fun k => { k with lsA := true })).wkPass w h 3 (leaseBody 2 f)) :=
  congrArg done (State.wkLease_of_covered 2 hruns hdest hcov (by simp [hrole]) rfl rfl)

theorem leaseClaim_gives_B (hruns : (s.wk w).runs = true) (hdest : h.dest = 0) (hcov : (s.wk w).covered f = true)
    (hrole : f.role = 2) :
    Gives (.leaseClaim w h f) s
      ((s.updWk w (fun k => { k with lsB := true })).wkPass w h 3 (leaseBody 2 f)) :=
  congrArg done (State.wkLease_of_covered 2 hruns hdest hcov (by simp [hrole]) rfl rfl)

theorem lease_gives_uncovered (hruns : (s.wk w).runs = true) (hdest : h.dest = 0) (hcov : (s.wk w).covered f = false)
    {c : Instr} (hc : c ∈ [Instr.leaseRenew w h f, .leaseClaim w h f, .leaseRelease w h f]) :
    ∃ u : State, Gives c s u ∧ (∀ v, u.wk v = s.wk v) ∧ u.sent.worker.length = s.sent.worker.length + 1 ∧
      u.params = s.params := by
  have huncovered (op : Nat) (g : Wk → Wk) := State.wkLease_of_uncovered (g := g) op hruns hdest hcov
  simp only [List.mem_cons, List.not_mem_nil, or_false] at hc
  rcases hc with rfl | rfl | rfl
  · obtain ⟨u, hu, hrest⟩ := huncovered 1 _
    exact ⟨u, congrArg done hu, hrest⟩
  · obtain ⟨u, hu, hrest⟩ := huncovered 2 _
    exact ⟨u, congrArg done hu, hrest⟩
  · obtain ⟨u, hu, hrest⟩ := huncovered 3 _
    exact ⟨u, congrArg done hu, hrest⟩

/-- The lease record after the sample instant, as owner, remaining ticks and epoch (R341 to R343, R521). -/
def Wk.leaseNext (k : Wk) : Nat × Nat × Nat :=
  if (k.owner = 0 ∨ k.remain = 0) ∧ (k.lsA = true ∨ k.lsB = true) then (if k.lsA then 1 else 2, 8, (k.epoch + 1) % 65536)
  else if k.lsRel then (0, 0, k.epoch)
  else (k.owner, if k.lsRenew then 8 else k.remain - 1, k.epoch)

/-- The word of a lease record (R341). -/
def leaseWord (r : Nat × Nat × Nat) : Nat := r.1 + 4 * r.2.1 + 2 ^ 16 * r.2.2

theorem Wk.lease_of_p {r : Nat × Nat × Nat} (howner : r.1 < 4) (hremain : r.2.1 < 16) (hepoch : r.2.2 < 65536)
    (hp : k.p 3 = leaseWord r % 2 ^ 32) : (k.owner, k.remain, k.epoch) = r := by
  obtain ⟨o, n, e⟩ := r
  dsimp only at howner hremain hepoch
  simp only [Wk.owner, Wk.remain, Wk.epoch, fld, hp, leaseWord, Prod.mk.injEq]
  omega

theorem Wk.leaseNext_lt (k : Wk) : k.leaseNext.1 < 4 ∧ k.leaseNext.2.1 < 16 ∧ k.leaseNext.2.2 < 65536 := by
  have howner : k.owner < 4 := Nat.mod_lt _ (by decide)
  have hremain : k.remain < 16 := Nat.mod_lt _ (by decide)
  have hepoch : k.epoch < 65536 := Nat.mod_lt _ (by decide)
  unfold Wk.leaseNext
  split_ifs <;> dsimp only <;> omega

theorem Wk.leaseUpdate_p (k : Wk) : k.leaseUpdate.p 3 = leaseWord k.leaseNext % 2 ^ 32 := by
  rw [← k.p_setP_same 3]
  simp only [Wk.leaseUpdate, Wk.leaseNext]
  split_ifs <;> rfl

theorem Wk.leaseUpdate_eq_leaseNext (k : Wk) :
    (k.leaseUpdate.owner, k.leaseUpdate.remain, k.leaseUpdate.epoch) = k.leaseNext := by
  obtain ⟨howner, hremain, hepoch⟩ := k.leaseNext_lt
  exact Wk.lease_of_p howner hremain hepoch k.leaseUpdate_p

/-- A claim on a free lease is granted, that of manager A before that of B (R342). -/
theorem Wk.leaseUpdate_granted (hfree : k.owner = 0 ∨ k.remain = 0) (hclaim : k.lsA = true ∨ k.lsB = true) :
    k.leaseUpdate.owner = (if k.lsA then 1 else 2) ∧ k.leaseUpdate.remain = 8 ∧
      k.leaseUpdate.epoch = (k.epoch + 1) % 65536 := by
  have hnext := k.leaseUpdate_eq_leaseNext
  rwa [Wk.leaseNext, if_pos ⟨hfree, hclaim⟩, Prod.mk.injEq, Prod.mk.injEq] at hnext

/-- A lease in force keeps its epoch; a release leaves it without owner, and no other frame changes the owner (R341 to R343). -/
theorem Wk.leaseUpdate_held (howner : k.owner ≠ 0) (hremain : k.remain ≠ 0) :
    k.leaseUpdate.epoch = k.epoch ∧ (k.lsRel = true → k.leaseUpdate.owner = 0) ∧
      (k.lsRel = false → k.leaseUpdate.owner = k.owner ∧
        k.leaseUpdate.remain = if k.lsRenew then 8 else k.remain - 1) := by
  have hheld : ¬ ((k.owner = 0 ∨ k.remain = 0) ∧ (k.lsA = true ∨ k.lsB = true)) := by
    rintro ⟨hzero | hzero, _⟩
    · exact howner hzero
    · exact hremain hzero
  have hnext := k.leaseUpdate_eq_leaseNext
  rw [Wk.leaseNext, if_neg hheld] at hnext
  by_cases hrel : k.lsRel = true
  · rw [if_pos hrel, Prod.mk.injEq, Prod.mk.injEq] at hnext
    obtain ⟨hnone, _, hepoch⟩ := hnext
    exact ⟨hepoch, fun _ => hnone, fun hkept => absurd hrel (by simp [hkept])⟩
  · rw [if_neg hrel, Prod.mk.injEq, Prod.mk.injEq] at hnext
    obtain ⟨hsame, hticks, hepoch⟩ := hnext
    exact ⟨hepoch, fun hreleased => absurd hreleased hrel, fun _ => ⟨hsame, hticks⟩⟩

end Sys2Proof.Machine

namespace Sys2Proof
open Machine

/-- Settles O43: every powered worker takes its address from an ENUM and sends the frame on (`State.wkEnum_of_powered`), a LEASE
frame leaves its mark on the worker that it covers (`State.wkLease_of_covered`), and the sample instant makes the next lease record
of the marks (`Wk.leaseUpdate_eq_leaseNext`). -/
theorem workerAddressesAndLeases : Obligations.WorkerAddressesAndLeases := by
  unfold Obligations.WorkerAddressesAndLeases
  refine ⟨?_, ?_, ?_, ?_, ?_, fun s w h kind b => rfl, fun s w h hreach => enumCal_gives_ack hreach,
    fun s w h hruns hne haddr => enumCal_gives_pass hruns hne haddr, ?_, ?_, ?_,
    fun k hfree hclaim => Wk.leaseUpdate_granted hfree hclaim, fun k howner hremain => Wk.leaseUpdate_held howner hremain,
    fun k => ⟨rfl, rfl, rfl, rfl⟩⟩
  · intro s w count h hmode hcount
    obtain ⟨hA, hB⟩ := ((s.wk w).hears h.lane).takeAddr_delays (count + 1)
    exact ⟨_, _, rfl, Wk.takeAddr_addr _ _, Wk.takeAddr_mode _ _, hA, hB, enumAssignA_gives hmode hcount⟩
  · intro s w h hmode
    exact ⟨{ (s.wk w).hears h.lane with addr := 0 }, rfl, rfl, rfl, enumAssignA_gives_full hmode⟩
  · intro s w count h hmode
    exact ⟨(s.wk w).hears h.lane, rfl, enumProbeB_gives count hmode⟩
  · intro s w count total h hmode _ htotal
    obtain ⟨hA, hB⟩ := ((s.wk w).hears h.lane).takeAddr_delays (total - count)
    exact ⟨_, _, rfl, Wk.takeAddr_addr _ _, Wk.takeAddr_mode _ _, hA, hB, enumAssignB_gives hmode htotal⟩
  · intro s w lane a kind flags seq b hlane
    exact State.wkForward_eq hlane a flags seq
  · intro s w h f hruns hdest hcov howner hrole
    exact ⟨fun hepoch => leaseRenew_gives hruns hdest hcov howner hrole hepoch,
      leaseRelease_gives hruns hdest hcov howner hrole⟩
  · intro s w h f hruns hdest hcov
    refine ⟨fun hrole => ?_, fun hrole => ?_⟩
    · have hgives := leaseClaim_gives_A hruns hdest hcov hrole
      rwa [leaseBody, hrole] at hgives
    · have hgives := leaseClaim_gives_B hruns hdest hcov hrole
      rwa [leaseBody, hrole] at hgives
  · intro s w h f hruns hdest hcov c hc
    exact lease_gives_uncovered hruns hdest hcov hc

end Sys2Proof

/-! A trap of a core (R754, R765 to R769): what it leaves of the core, and what it reports. -/
namespace Sys2Proof.Machine

/-- An event keeps what its latch, its record and the spans' counts do not touch. -/
theorem State.raise_keeps {β : Type} (π : State → β) (hparam : ∀ t a v, π (State.setP t a v) = π t)
    (hevt : ∀ t f, π (State.mapEvt t f) = π t) (hsys : ∀ t f, π (State.mapSys t f) = π t)
    (hinst : ∀ t n f, π (State.updInst t n f) = π t) (s : State) (e : Nat) (d : List Byte) : π (s.raise e d) = π s := by
  unfold State.raise
  split
  · rw [State.occurs_keeps π e (fun t => hparam t _ _) hevt hsys hinst]
    exact hparam s _ _
  · rfl

/-- A DOUSE command writes its reason, and besides it the event and supply blocks alone. -/
theorem State.douseCmd_keeps {β : Type} (π : State → β) (hreason : ∀ t v, π (State.setP t 0x060E v) = π t)
    (hevt : ∀ t f, π (State.mapEvt t f) = π t) (hsys : ∀ t f, π (State.mapSys t f) = π t) (s : State) (reason : Nat) :
    π (s.douseCmd reason) = π s := by
  unfold State.douseCmd
  split
  · rw [hevt, hsys, hreason]
  · rw [hsys, hsys, hreason]
  · rw [hsys, hsys, hreason]
  · rfl

/-- What a core's program sees of its core: the two memories, the registers, the return stack and the PC (R735). -/
def Core.program (k : Core) : Tbl Word × Tbl TWord × Tbl TWord × List Nat × Nat := (k.imem, k.dmem, k.regs, k.rstack, k.pc)

/-- The changes of a core by a trap keep what the program sees of it, so a trap keeps all that such changes keep. -/
theorem State.skTrap_keeps {β : Type} (π : State → β) (c : Nat) (hparam : ∀ t a v, π (State.setP t a v) = π t)
    (hevt : ∀ t f, π (State.mapEvt t f) = π t) (hsys : ∀ t f, π (State.mapSys t f) = π t)
    (hinst : ∀ t n f, π (State.updInst t n f) = π t)
    (hcore : ∀ t f, (∀ k, Core.program (f k) = k.program) → π (State.updCore t c f) = π t)
    (s : State) (code soft tags : Nat) : π (s.skTrap c code soft tags) = π s := by
  have hend (t : State) : π (t.skEnd c) = π t := by
    rw [State.skEnd, hcore]
    · exact (hparam _ _ _).trans (hparam _ _ _)
    · exact fun _ => rfl
  have hstored (t : State) (st : Nat) {f : Core → Core} (hf : ∀ k, (f k).program = k.program) :
      π ((((t.skEnd c).setPf (stkStat c) 0 3 st).setPf (stkStat c) 4 4 code).updCore c f) = π t := by
    rw [hcore _ _ hf, State.setPf, hparam, State.setPf, hparam, hend]
  unfold State.skTrap
  refine State.ite_keeps π _ _ _ _ ?_ ?_
  · rw [State.douseCmd_keeps π (fun t => hparam t _) hevt hsys]
    refine (hstored _ _ ?_).trans (State.raise_keeps π hparam hevt hsys hinst s _ _)
    exact fun _ => rfl
  · refine (hstored _ _ ?_).trans (State.raise_keeps π hparam hevt hsys hinst s _ _)
    exact fun _ => rfl

variable (s : State) (c code soft tags : Nat)

theorem State.skTrap_cmd : (s.skTrap c code soft tags).cmd = s.cmd :=
  State.skTrap_keeps State.cmd c (by simp) (by simp) (by simp) (by simp) (by simp) s code soft tags

theorem State.skTrap_hdl : (s.skTrap c code soft tags).hdl = s.hdl :=
  State.skTrap_keeps State.hdl c (by simp) (by simp) (by simp) (by simp) (by simp) s code soft tags

/-- The core that traps keeps its memories, its registers, its return stack and its PC (R754). -/
theorem State.skTrap_program : ((s.skTrap c code soft tags).core c).program = (s.core c).program :=
  State.skTrap_keeps (fun t => (t.core c).program) c (fun _ _ _ => rfl) (fun _ _ => rfl) (fun _ _ => rfl)
    (fun _ _ _ => rfl) (fun t f hf => by rw [t.updCore_same, hf]) s code soft tags

theorem State.skTrap_core_other {d : Nat} (hd : d ≠ c) : (s.skTrap c code soft tags).core d = s.core d :=
  State.skTrap_keeps (fun t => t.core d) c (fun _ _ _ => rfl) (fun _ _ => rfl) (fun _ _ => rfl)
    (fun _ _ _ => rfl) (fun t f _ => t.updCore_other f hd) s code soft tags

theorem State.skEnd_p_other {a : Nat} (hcyc : a ≠ 0x3803 + 8 * c) (hmax : a ≠ 0x3804 + 8 * c) : (s.skEnd c).p a = s.p a := by
  rw [State.skEnd, State.updCore_p, State.p_setPf_other _ _ _ _ hmax, State.p_setPf_other _ _ _ _ hcyc]

theorem State.douseCmd_p_other {a : Nat} (ha : a ≠ 0x060E) (reason : Nat) : (s.douseCmd reason).p a = s.p a :=
  State.douseCmd_keeps (fun t => t.p a) (fun t _ => t.p_setP_other _ ha) (by simp) (by simp) s reason

/-- The DETAIL of a trap's EV48 (R769). -/
def State.trapDetail : List Byte :=
  le 1 c ++ le 1 code ++ le 2 (s.core c).pc ++ le 1 (s.trapAction c) ++ le 1 tags ++ le 2 soft

/-- STK.STAT.STATE after a trap: a restart that falls into Doused lapses (R766). -/
def State.trapState : Nat := if s.trapAction c = 1 && s.sys.phase == .doused then 1 else 3

/-- Besides its event and STK.STAT, a trap stores the slice's cycles and the reason of a DOUSE alone (R765 to R769). -/
theorem State.skTrap_p {a : Nat} (hcyc : a ≠ 0x3803 + 8 * c) (hmax : a ≠ 0x3804 + 8 * c) (hreason : a ≠ 0x060E) :
    (s.skTrap c code soft tags).p a = (((s.raise 48 (s.trapDetail c code soft tags)).setPf (stkStat c) 0 3
      (s.trapState c)).setPf (stkStat c) 4 4 code).p a := by
  have hstored (t : State) (v : Nat) (f : Core → Core) :
      ((((t.skEnd c).setPf (stkStat c) 0 3 v).setPf (stkStat c) 4 4 code).updCore c f).p a =
        ((t.setPf (stkStat c) 0 3 v).setPf (stkStat c) 4 4 code).p a := by
    rw [State.updCore_p]
    by_cases ha : a = stkStat c
    · subst ha
      simp only [State.p_setPf_same _ _ _ _ _ (show 4 + 4 ≤ 32 by decide),
        State.p_setPf_same _ _ _ _ _ (show 0 + 3 ≤ 32 by decide), State.skEnd_p_other _ _ hcyc hmax]
    · simp only [State.p_setPf_other _ _ _ _ ha, State.skEnd_p_other _ _ hcyc hmax]
  unfold State.skTrap
  refine State.ite_keeps (fun t => t.p a) _ _ _ _ ?_ (hstored _ _ _)
  exact (State.douseCmd_p_other _ hreason _).trans (hstored _ _ _)

/-- A core that traps without a restart is TRAPPED with its code (R766). -/
theorem State.skTrap_trapped (hact : s.trapAction c ≠ 1) (hcode : code < 16) :
    (s.skTrap c code soft tags).stkState c = 3 ∧ (s.skTrap c code soft tags).pf (stkStat c) 4 4 = code := by
  have hstate : s.trapState c = 3 := by simp [State.trapState, hact]
  have hword := s.skTrap_p c code soft tags (a := stkStat c) (by unfold stkStat; omega) (by unfold stkStat; omega)
    (by unfold stkStat; omega)
  constructor
  · rw [State.stkState, State.pf, hword, ← State.pf, State.pf_setPf_below _ _ _ _ _ _ _ (by decide) (by decide),
      State.pf_setPf_same _ _ _ _ _ (by decide), hstate]
    rfl
  · rw [State.pf, hword, ← State.pf, State.pf_setPf_same _ _ _ _ _ (by decide)]
    exact Nat.mod_eq_of_lt hcode

/-- EV48 reports the trap (R769). -/
theorem State.skTrap_latched (hon : s.evOn 48 = true) : (s.skTrap c code soft tags).latched 48 = true := by
  have hword : (s.skTrap c code soft tags).p 0x0601 = (s.raise 48 (s.trapDetail c code soft tags)).p 0x0601 := by
    rw [s.skTrap_p c code soft tags (by omega) (by omega) (by omega), State.p_setPf_other _ _ _ _ (by unfold stkStat; omega),
      State.p_setPf_other _ _ _ _ (by unfold stkStat; omega)]
  have hraised := s.raise_latched (s.trapDetail c code soft tags) hon
  rw [State.latched, State.pb] at hraised ⊢
  rwa [hword]

/-- An instruction that traps, and a PC past the instruction memory, leave the core to its trap, after at most a draw of a
free value (R752, R754). -/
theorem State.skOne_of_trap {op x : Nat}
    (h : (8191 < (s.core c).pc ∧ code = 8) ∨ ((s.core c).pc ≤ 8191 ∧ s.skExec c op x = .trap code soft)) :
    ∃ n soft' tags, s.skOne c op x = State.skTrap { s with free := n } c code soft' tags := by
  unfold State.skOne
  rcases h with ⟨hpc, rfl⟩ | ⟨hpc, htrap⟩
  · exact ⟨s.free, 0, 0, if_pos hpc⟩
  · refine ⟨s.free + 1, soft, s.trapTags c op x, ?_⟩
    rw [if_neg (by omega), htrap]
    rfl

end Sys2Proof.Machine

namespace Sys2Proof
open Machine

/-- Settles O57: such an instruction leaves the core to its trap (`State.skOne_of_trap`), and a trap keeps all that the
program sees of the core, the other cores, the intents and the handles (`State.skTrap_keeps`). -/
theorem trapChangesNothingOfTheCore : Obligations.TrapChangesNothingOfTheCore := by
  unfold Obligations.TrapChangesNothingOfTheCore
  intro s c op x code soft _ h
  obtain ⟨n, soft', tags, hone⟩ := s.skOne_of_trap c code soft h
  have hprogram := State.skTrap_program { s with free := n } c code soft' tags
  obtain ⟨himem, hdmem, hregs, hrstack, hpc⟩ : _ ∧ _ ∧ _ ∧ _ ∧ _ := by
    simpa only [Core.program, Prod.mk.injEq] using hprogram
  rw [hone]
  exact ⟨hregs, hdmem, himem, hrstack, hpc, State.skTrap_cmd _ c code soft' tags, State.skTrap_hdl _ c code soft' tags,
    fun d hd => State.skTrap_core_other _ c code soft' tags hd, State.skTrap_trapped { s with free := n } c code soft' tags,
    State.skTrap_latched { s with free := n } c code soft' tags⟩

end Sys2Proof

/-! What an instruction of a core comes to (R741 to R752): its tags, its unused bits, its trap, and its quotient. -/
namespace Sys2Proof.Machine

/-- With POISON and the tags in order, and no other cause, nothing traps (R747). -/
theorem trapOf_none {l : List (Bool × Nat)} (n : Nat) (h : l.filter (·.1) = []) : trapOf n false false l = none := by
  simp [trapOf, h]

/-- A trap with one cause has that cause's code (R747). -/
theorem trapOf_one {l : List (Bool × Nat)} {k : Nat} (n : Nat) (h : l.filter (·.1) = [(true, k)]) :
    trapOf n false false l = some k := by
  simp [trapOf, h, nth, Nat.mod_one]

theorem tagOf_lt (w : TWord) : tagOf w < 16 := Nat.div_lt_of_lt_mul w.isLt

theorem isPoison_false {w : TWord} (h : tagOf w ≠ 15) : isPoison w = false := by
  simp [isPoison, h]

theorem isQty_iff {t : Nat} : isQty t = true ↔ 8 ≤ t ∧ t ≤ 13 := by
  simp [isQty]

/-- A bit that a row does not use is 0 (R750). -/
theorem bit_of_unusedZero {x used n : Nat} (h : unusedZero x used = true) (hused : used < 2 ^ 26) (hn : n < 26)
    (hbit : used.testBit n = false) : bit x n = false := by
  have hzero : x % 2 ^ 26 &&& (2 ^ 26 - (used + 1)) = 0 := by
    rw [Nat.add_comm, ← Nat.sub_sub]
    exact eq_of_beq h
  have hclear := congrArg (·.testBit n) hzero
  rw [Nat.testBit_and, Nat.testBit_mod_two_pow, Nat.testBit_two_pow_sub_succ hused, hbit, Nat.zero_testBit] at hclear
  simpa [hn, Nat.testBit_eq_decide_div_mod_eq, bit] using hclear

@[simp] theorem dataOut_natCast (n : Nat) : dataOut n = decide (4095 < n) := by
  simp [dataOut, show ¬ (n : Int) < 0 by omega, show ((4095 : Int) < n ↔ 4095 < n) by omega]

@[simp] theorem codeOut_natCast (n : Nat) : codeOut n = decide (8191 < n) := by
  simp [codeOut, show ¬ (n : Int) < 0 by omega, show ((8191 : Int) < n ↔ 8191 < n) by omega]

/-- A signed value is 0 exactly where its bits are. -/
theorem ofTwos_eq_zero_iff {w v : Nat} : ofTwos w v = 0 ↔ v % 2 ^ w = 0 := by
  have hlt : v % 2 ^ w < 2 ^ w := Nat.mod_lt _ (by positivity)
  have hcast : ((2 ^ w : Nat) : Int) ≠ (v % 2 ^ w : Nat) := by omega
  unfold ofTwos
  dsimp only
  split
  · exact Int.natCast_eq_zero
  · next hhigh =>
    have hpos : 0 < 2 ^ (w - 1) := by positivity
    omega

/-- The quotient truncated towards zero, told by its size and its sign (R743). -/
theorem tdiv_eq_of_natAbs {a b q : Int} (hsize : q.natAbs = a.natAbs / b.natAbs) (hsign : q ≠ 0 → (0 < q ↔ 0 < a * b)) :
    Int.tdiv a b = q := by
  have habs : (Int.tdiv a b).natAbs = q.natAbs := (Int.natAbs_tdiv a b).trans hsize.symm
  rcases Int.natAbs_eq_natAbs_iff.mp habs with heq | hneg
  · exact heq
  · rcases eq_or_ne q 0 with rfl | hq
    · simpa using hneg
    · have hsigns := Int.sign_tdiv a b
      split at hsigns
      · exact absurd (Int.sign_eq_zero_iff_zero.mp hsigns) (by omega)
      · have hpos : 0 < Int.tdiv a b ↔ 0 < a * b := by
          rw [← Int.sign_eq_one_iff_pos, ← Int.sign_eq_one_iff_pos, hsigns, Int.sign_mul]
        have := hsign hq
        omega

end Sys2Proof.Machine

/-! Instructions of a core, case by case: `State.skPut` with no trap writes gd, and with a trap it writes nothing (R741 to R763). -/
namespace Sys2Proof.Machine

variable {s : State} {c x : Nat}

/-- LDK loads no handle (R741). -/
theorem State.skLdk_handle (htag : fld x 18 4 = 5) : s.skLdk c x = .trap 1 0 := by
  simp only [State.skLdk, htag]
  rfl

theorem State.skLdk_bool (htag : fld x 18 4 = 3) : s.skLdk c x = s.skPut c x 1 none (wBool (fld x 0 18 != 0)) := by
  have hzero : (ofTwos 18 x != 0) = (fld x 0 18 != 0) := by
    rw [Bool.eq_iff_iff, bne_iff_ne, bne_iff_ne, Ne, ofTwos_eq_zero_iff, fld, pow_zero, Nat.div_one]
  simp only [State.skLdk, htag, hzero]
  rfl

theorem State.skLdk_num (hhandle : fld x 18 4 ≠ 5) (hbool : fld x 18 4 ≠ 3) :
    s.skLdk c x = s.skPut c x 1 none (wNum (fld x 18 4) (ofTwos 18 x)) := by
  simp only [State.skLdk, beq_false_of_ne hhandle, if_neg hbool]
  rfl

theorem State.skMov_eq (hu : unusedZero x (useD + useA) = true) : s.skMov c x = s.skPut c x 1 none (s.reg c (xa x)) := by
  simp only [State.skMov, hu]
  rfl

/-- TAGQ with fn[4] at 0 reads the tag. -/
theorem State.skTagq_read (hu : unusedZero x (useD + useA) = true) :
    s.skTagq c x = s.skPut c x 1 none (wInt (tagOf (s.reg c (xa x)))) := by
  have hbit : bit x 4 = false := bit_of_unusedZero hu (by decide) (by decide) (by decide)
  simp [State.skTagq, hbit, hu, trapOf_none]

/-- TAGQ with fn[4] at 1 compares it. -/
theorem State.skTagq_test (hu : unusedZero x (useD + useA + 31) = true) (hbit : bit x 4 = true) :
    s.skTagq c x = s.skPut c x 1 none (wBool (tagOf (s.reg c (xa x)) == fld x 0 4)) := by
  simp [State.skTagq, hbit, hu, trapOf_none]

theorem State.skOrelse_eq (hu : unusedZero x (useD + useA + useB) = true) : s.skOrelse c x =
    s.skPut c x 1 none (if tagOf (s.reg c (xa x)) = 15 then s.reg c (xb x) else s.reg c (xa x)) := by
  simp [State.skOrelse, hu, trapOf_none, isPoison]

/-- SEL takes ga or gb by the BOOL that fn names (R746). -/
theorem State.skSel_eq (hu : unusedZero x (useD + useA + useB + 15) = true) (hk : tagOf (s.reg c (fld x 0 4)) = 3)
    (ha : tagOf (s.reg c (xa x)) ≠ 15) (hb : tagOf (s.reg c (xb x)) ≠ 15) : s.skSel c x =
      s.skPut c x 1 none (if payOf (s.reg c (fld x 0 4)) = 0 then s.reg c (xb x) else s.reg c (xa x)) := by
  have hkp : isPoison (s.reg c (fld x 0 4)) = false := isPoison_false (by omega)
  simp [State.skSel, hu, hk, hkp, isPoison_false ha, isPoison_false hb, trapOf_none]

/-! RETAG and CVT. -/

/-- The conversions of RETAG from INT (R748). -/
theorem retags_of_int {t : Nat} : retags 1 t = true ↔ t = 2 ∨ t = 3 ∨ t = 4 ∨ t = 6 ∨ t = 7 ∨ (8 ≤ t ∧ t ≤ 13) := by
  simp only [retags, if_true, Bool.or_eq_true, beq_iff_eq, isQty_iff]
  omega

/-- The conversions of RETAG from any other tag: to INT alone (R748). -/
theorem retags_of_other {ta t : Nat} (hne : ta ≠ 1) : retags ta t = true ↔ t = 1 ∧ 2 ≤ ta ∧ ta ≤ 14 := by
  simp only [retags, if_neg hne, Bool.or_eq_true, Bool.and_eq_true, beq_iff_eq, isQty_iff]
  omega

theorem State.skRetag_word {t : Nat} (ht : fld x 0 4 = t) (hu : unusedZero x (useD + useA + 15) = true)
    (ha : tagOf (s.reg c (xa x)) ≠ 15) (hconv : retags (tagOf (s.reg c (xa x))) t = true) (hne : t ≠ 3) :
    s.skRetag c x = s.skPut c x 1 none (tword t (payOf (s.reg c (xa x)))) := by
  simp [State.skRetag, ht, hu, isPoison_false ha, hconv, hne, trapOf_none]

theorem State.skRetag_bool (ht : fld x 0 4 = 3) (hu : unusedZero x (useD + useA + 15) = true)
    (ha : tagOf (s.reg c (xa x)) = 1) : s.skRetag c x = s.skPut c x 1 none (wBool (payOf (s.reg c (xa x)) != 0)) := by
  have hconv : retags 1 3 = true := rfl
  simp [State.skRetag, ht, hu, isPoison, ha, hconv, trapOf_none]

theorem State.skRetag_mismatch {t : Nat} (ht : fld x 0 4 = t) (ha : tagOf (s.reg c (xa x)) ≠ 15)
    (hconv : retags (tagOf (s.reg c (xa x))) t ≠ true) : s.skRetag c x = .trap 1 0 := by
  simp only [State.skRetag, ht, isPoison_false ha, Bool.eq_false_iff.mpr hconv]
  rfl

/-- A word's payload as a signed number. -/
theorem intOf_eq (w : TWord) : intOf w = if payOf w < 2 ^ 31 then (payOf w : Int) else (payOf w : Int) - 2 ^ 32 := rfl

section
variable (hu : unusedZero x (useD + useA + 3) = true)
include hu

/-- CVT from INT to FIX, where it fits. -/
theorem State.skCvt_intToFix (hf : xf x = 0) (ha : tagOf (s.reg c (xa x)) = 1) : s.skCvt c x =
    s.skPut c x 1 (if fits32 (intOf (s.reg c (xa x)) * 65536) = true then none else some 3)
      (wNum 2 (intOf (s.reg c (xa x)) * 65536)) := by
  by_cases hfit : fits32 (intOf (s.reg c (xa x)) * 65536) = true
  · simp [State.skCvt, hu, hf, ha, isPoison, hfit, trapOf_none]
  · simp [State.skCvt, hu, hf, ha, isPoison, hfit, trapOf_one (k := 3)]

/-- CVT from FIX to INT, truncated towards zero. -/
theorem State.skCvt_fixToInt (hf : xf x = 1) (ha : tagOf (s.reg c (xa x)) = 2) :
    s.skCvt c x = s.skPut c x 1 none (wNum 1 (Int.tdiv (intOf (s.reg c (xa x))) 65536)) := by
  simp [State.skCvt, hu, hf, ha, isPoison, trapOf_none]

/-- CVT from a ratio to FIX. -/
theorem State.skCvt_ratioToFix (hf : xf x = 2) (ha : tagOf (s.reg c (xa x)) = 13) :
    s.skCvt c x = s.skPut c x 1 none (tword 2 (payOf (s.reg c (xa x)))) := by
  simp [State.skCvt, hu, hf, ha, isPoison, trapOf_none]

/-- CVT from FIX to a ratio, from 0 to 65,535. -/
theorem State.skCvt_fixToRatio (hf : xf x = 3) (ha : tagOf (s.reg c (xa x)) = 2) : s.skCvt c x =
    s.skPut c x 1 (if payOf (s.reg c (xa x)) ≤ 65535 then none else some 3) (tword 13 (payOf (s.reg c (xa x)))) := by
  have hbig : (decide (intOf (s.reg c (xa x)) < 0) || decide (65535 < intOf (s.reg c (xa x)))) =
      decide (65535 < payOf (s.reg c (xa x))) := by
    have hlt : payOf (s.reg c (xa x)) < 2 ^ 32 := Nat.mod_lt _ (by decide)
    rw [Bool.eq_iff_iff, Bool.or_eq_true, decide_eq_true_eq, decide_eq_true_eq, decide_eq_true_eq, intOf_eq]
    split <;> omega
  rcases Nat.lt_or_ge 65535 (payOf (s.reg c (xa x))) with hover | hfit
  · simp [State.skCvt, hu, hf, ha, isPoison, hbig, hover, Nat.not_le.mpr hover, trapOf_one (k := 3)]
  · simp [State.skCvt, hu, hf, ha, isPoison, hbig, hfit, trapOf_none]

end

/-! The data memory (R751, R752). -/

theorem State.skLoad_within {a : Nat} (h : a ≤ 4095) :
    s.skLoad c x false false false a = s.skPut c x 2 none (Tbl.get 0#36 (s.core c).dmem a) := by
  simp [State.skLoad, h, trapOf_none]

theorem State.skLoad_beyond {a : Nat} (h : 4095 < a) : s.skLoad c x false false false a = .trap 9 0 := by
  simp [State.skLoad, h, trapOf_one (k := 9), State.skPut]

/-- Core `c` with a word stored in its data memory. -/
def State.putData (s : State) (c a : Nat) (w : TWord) : State :=
  s.updCore c (fun k => { k with dmem := Tbl.put 0#36 k.dmem a w })

theorem State.skStore_within {a : Nat} (h : a ≤ 4095) : s.skStore c x false false false a =
    .next (s.putData c a (s.reg c (xd x))) ((s.core c).pc + 1) 2 false := by
  simp [State.skStore, h, trapOf_none, State.putData]

theorem State.skStore_beyond {a : Nat} (h : 4095 < a) : s.skStore c x false false false a = .trap 9 0 := by
  simp [State.skStore, h, trapOf_one (k := 9)]

section
variable (ha : tagOf (s.reg c (xa x)) = 7)
include ha

theorem State.skLd_of_dptr :
    s.skLd c x = s.skLoad c x false false false (payOf (s.reg c (xa x)) + fld x 0 18 : Nat) := by
  simp [State.skLd, isPoison, ha]

theorem State.skSt_of_dptr :
    s.skSt c x = s.skStore c x false false false (payOf (s.reg c (xa x)) + fld x 0 18 : Nat) := by
  simp [State.skSt, isPoison, ha]

variable (hu : unusedZero x (useD + useA + useB) = true) (hb : tagOf (s.reg c (xb x)) = 1)
include hu hb

theorem State.skLdx_of_dptr :
    s.skLdx c x = s.skLoad c x false false false (payOf (s.reg c (xa x)) + intOf (s.reg c (xb x))) := by
  simp [State.skLdx, isPoison, ha, hb, hu]

theorem State.skStx_of_dptr (hd : tagOf (s.reg c (xd x)) ≠ 15) :
    s.skStx c x = s.skStore c x false false false (payOf (s.reg c (xa x)) + intOf (s.reg c (xb x))) := by
  simp only [State.skStx, isPoison_false hd]
  simp [isPoison, ha, hb, hu]

end

/-- Two changes that make the same of the core as it is are the same change. -/
theorem State.updCore_congr {f g : Core → Core} (hfg : f (s.core c) = g (s.core c)) : s.updCore c f = s.updCore c g := by
  unfold State.updCore Tbl.upd
  exact congrArg (fun k => { s with cores := Tbl.put Core.d s.cores c k }) hfg

/-! Branches, jumps, calls and returns (R751, R752, R763). -/

section
variable {want : Bool} (hu : unusedZero x (useA + 2 ^ 18 - 1) = true) (ha : tagOf (s.reg c (xa x)) = 3)
include hu ha

theorem State.skBranch_taken {p : Nat} (hwant : (payOf (s.reg c (xa x)) != 0) = want)
    (htarget : (p : Int) = (s.core c).pc + ofTwos 18 x) (hp : p ≤ 8191) : s.skBranch c x want = .next s p 2 false := by
  simp only [State.skBranch, hwant, hu, ← htarget]
  simp [isPoison, ha, hp, trapOf_none]

theorem State.skBranch_passed (hwant : (payOf (s.reg c (xa x)) != 0) = !want) :
    s.skBranch c x want = .next s ((s.core c).pc + 1) 1 false := by
  simp only [State.skBranch, hwant, hu]
  simp [isPoison, ha, trapOf_none]

end

theorem State.jTarget_near (hu : unusedZero x (2 ^ 13 - 1) = true) : s.jTarget c x = (false, false, true, fld x 0 13) := by
  have hbit : bit x 25 = false := bit_of_unusedZero hu (by decide) (by decide) (by decide)
  simp only [State.jTarget, hbit, hu]
  rfl

theorem State.jTarget_register (hu : unusedZero x (2 ^ 25 + 15 * 2 ^ 21) = true) (hbit : bit x 25 = true)
    (hr : tagOf (s.reg c (fld x 21 4)) = 6) :
    s.jTarget c x = (false, false, true, payOf (s.reg c (fld x 21 4))) := by
  simp only [State.jTarget, hbit, hu, isPoison, hr]
  rfl

section
variable {p : Nat} (hj : s.jTarget c x = (false, false, true, p))
include hj

theorem State.skJmp_within (hp : p ≤ 8191) : s.skJmp c x = .next s p 2 false := by
  simp [State.skJmp, hj, hp, trapOf_none]

theorem State.skJmp_beyond (hp : 8191 < p) : s.skJmp c x = .trap 8 0 := by
  simp [State.skJmp, hj, hp, trapOf_one (k := 8)]

theorem State.skCall_pushes (hp : p ≤ 8191) (hroom : (s.core c).rstack.length < 8 ∨ s.pb (stkCfg c) 16 = true) :
    s.skCall c x = .next (s.updCore c (fun k => { k with rstack := ((k.pc + 1) :: k.rstack).take 8 })) p 2 false := by
  have hfits : (decide (8 ≤ (s.core c).rstack.length) && !s.pb (stkCfg c) 16) = false := by
    rcases hroom with hlen | hmode
    · simp [hlen]
    · simp [hmode]
  simp only [State.skCall, hj, hfits]
  simp [hp, trapOf_none]

theorem State.skCall_overflows (hp : p ≤ 8191) (hfull : 8 ≤ (s.core c).rstack.length) (hmode : s.pb (stkCfg c) 16 = false) :
    s.skCall c x = .trap 5 0 := by
  simp [State.skCall, hj, hp, hfull, hmode, trapOf_one (k := 5)]

end

theorem State.skRet_empty (hu : unusedZero x 0 = true) (hstack : (s.core c).rstack = []) : s.skRet c x = .trap 6 0 := by
  simp [State.skRet, hu, hstack, nth, codeOut, trapOf_one (k := 6)]

theorem State.skRet_pops {p : Nat} {l : List Nat} (hu : unusedZero x 0 = true) (hstack : (s.core c).rstack = p :: l)
    (hp : p ≤ 8191) : s.skRet c x = .next (s.updCore c (fun k => { k with rstack := l })) p 2 false := by
  have hdrop : s.updCore c (fun k => { k with rstack := k.rstack.drop 1 }) = s.updCore c (fun k => { k with rstack := l }) :=
    State.updCore_congr (by rw [hstack]; rfl)
  simp only [State.skRet, hdrop]
  simp [hu, hstack, nth, hp, trapOf_none]

theorem State.skNop_eq (hu : unusedZero x 0 = true) : s.skNop c x = .next s ((s.core c).pc + 1) 1 false := if_pos hu

theorem State.skWait_eq (hu : unusedZero x 0 = true) : s.skWait c x = .next s ((s.core c).pc + 1) 1 true := if_pos hu

theorem State.skTrapInstr_eq (hu : unusedZero x (2 ^ 14 - 1) = true) : s.skTrapInstr c x = .trap 0xC (xf x) := by
  simp only [State.skTrapInstr, hu]
  rw [trapOf_one (k := 0xC) _ rfl]
  rfl

/-- The opcodes from 0x2B upwards are undefined (R753). -/
theorem State.skExec_undefined {op : Nat} (hop : 0x2B ≤ op) : s.skExec c op x = .trap 7 0 := by
  obtain ⟨n, rfl⟩ := Nat.exists_eq_add_of_le' hop
  rfl

/-! DIV (R743, R744). -/

/-- DIV on operand tags it takes: DIV_ZERO, an overflow, or the quotient. -/
theorem State.skDiv_of_tags {t : Nat} {k : Int} (hu : unusedZero x (useD + useA + useB) = true)
    (ha : tagOf (s.reg c (xa x)) ≠ 15) (hb : tagOf (s.reg c (xb x)) ≠ 15)
    (htags : divOf (tagOf (s.reg c (xa x))) (tagOf (s.reg c (xb x))) = some (t, k)) :
    s.skDiv c x = s.skPut c x 12
      (if intOf (s.reg c (xb x)) = 0 then some 4
        else if overflows t (Int.tdiv (intOf (s.reg c (xa x)) * k) (intOf (s.reg c (xb x)))) = true then some 3 else none)
      (wNum t (Int.tdiv (intOf (s.reg c (xa x)) * k) (intOf (s.reg c (xb x))))) := by
  simp only [State.skDiv, isPoison_false ha, isPoison_false hb, htags, hu, Option.getD_some]
  by_cases hzero : intOf (s.reg c (xb x)) = 0
  · simp [hzero, trapOf_one (k := 4)]
  · by_cases hover : overflows t (Int.tdiv (intOf (s.reg c (xa x)) * k) (intOf (s.reg c (xb x)))) = true
    · simp [hzero, hover, trapOf_one (k := 3)]
    · simp [hzero, hover, trapOf_none]

end Sys2Proof.Machine

/-! The rows of the instruction set: an open slice carries out its instruction (R753, R754). -/
namespace Sys2Proof
open Machine

/-- Command `i` is the row of opcode `op` at core `c`, with the instruction's bits `x`. -/
def IsRow (i : Instr) (c op : Nat) (x : BitVec 26) : Prop := ∀ s, exec i s = done (s.skRow c op x.toNat)

theorem isRow_illegalOpcode {op : Nat} (c : Nat) (x : BitVec 26) (hlow : 0x2B ≤ op) (hhigh : op < 64) :
    IsRow (.illegalOpcode c op x) c op x := by
  intro s
  have hop : op % 64 = op := Nat.mod_eq_of_lt hhigh
  change done (if 0x2B ≤ op % 64 then s.skRow c (op % 64) x.toNat else s) = _
  rw [hop, if_pos hlow]

section
variable {i : Instr} {c op n k : Nat} {x : BitVec 26} {s : Machine.State} (hruns : CoreRuns s c) (hrow : IsRow i c op x)
include hruns hrow

theorem gives_skOne : Gives i s (s.skOne c op x.toNat) := by
  obtain ⟨hready, _⟩ := hruns
  rw [Gives, hrow, done, State.skRow, if_pos hready, Nat.mod_eq_of_lt x.isLt]

/-- An instruction that completes: the core goes on. -/
theorem gives_of_next {t : Machine.State} {pc : Nat} {ends : Bool} (hx : s.skExec c op x.toNat = .next t pc n ends) :
    Gives i s (t.skAdvance c pc n ends) := by
  have hgives := gives_skOne hruns hrow
  obtain ⟨_, hpc⟩ := hruns
  rwa [State.skOne, if_neg (by omega), hx] at hgives

/-- An instruction that traps. -/
theorem gives_of_trap {soft : Nat} (hx : s.skExec c op x.toNat = .trap k soft) :
    Gives i s (s.drawn.skTrap c k soft (s.trapTags c op x.toNat)) := by
  have hgives := gives_skOne hruns hrow
  obtain ⟨_, hpc⟩ := hruns
  rwa [State.skOne, if_neg (by omega), hx] at hgives

theorem coreSets_of_put {w : TWord} (hx : s.skExec c op x.toNat = s.skPut c x.toNat n none w) : CoreSets i s c x w n :=
  gives_of_next hruns hrow hx

theorem coreTraps_of_put {w : TWord} (hx : s.skExec c op x.toNat = s.skPut c x.toNat n (some k) w) :
    CoreTraps i s c op x k :=
  gives_of_trap hruns hrow hx

/-- An instruction that sets gd where its result fits, and traps otherwise. -/
theorem coreSets_or_traps {w : TWord} {p : Prop} [Decidable p]
    (hx : s.skExec c op x.toNat = s.skPut c x.toNat n (if p then none else some k) w) :
    if p then CoreSets i s c x w n else CoreTraps i s c op x k := by
  split
  · next hp => exact coreSets_of_put hruns hrow (by rw [hx, if_pos hp])
  · next hp => exact coreTraps_of_put hruns hrow (by rw [hx, if_neg hp])

end

/-- The operand tags that DIV takes, as the model looks them up (table "Tag rules"). -/
theorem divOf_of_rules {ta tb t : Nat} {k : Int}
    (h : (8 ≤ ta ∧ ta ≤ 13 ∧ tb = ta ∧ t = 2 ∧ k = 65536) ∨ (ta = 8 ∧ tb = 9 ∧ t = 12 ∧ k = 1000000) ∨
      ((ta = 1 ∨ (8 ≤ ta ∧ ta ≤ 13)) ∧ tb = 1 ∧ t = ta ∧ k = 1) ∨
      ((ta = 2 ∨ (8 ≤ ta ∧ ta ≤ 13)) ∧ tb = 2 ∧ t = ta ∧ k = 65536)) :
    divOf ta tb = some (t, k) ∧ ta ≠ 15 ∧ tb ≠ 15 ∧ t ≠ 4 := by
  refine ⟨?_, by omega, by omega, by omega⟩
  unfold divOf
  simp only [isQty_iff]
  rcases h with ⟨hlow, hhigh, rfl, rfl, rfl⟩ | ⟨rfl, rfl, rfl, rfl⟩ | ⟨hta, rfl, rfl, rfl⟩ | ⟨hta, rfl, rfl, rfl⟩
  · rw [if_pos ⟨⟨hlow, hhigh⟩, rfl⟩]
  · rfl
  · rw [if_neg (by omega), if_neg (by omega), if_pos (by omega)]
  · rw [if_neg (by omega), if_neg (by omega), if_neg (by omega), if_pos (by omega)]

/-- Only a result other than an INT or a TICK overflows (R744). -/
theorem overflows_eq_true_iff {t : Nat} {v : Int} (ht : t ≠ 4) : overflows t v = true ↔ ¬ (t = 1 ∨ fits32 v = true) := by
  simp [overflows, ht]

/-- Settles O54: DIV is the truncated quotient, and traps on a divisor of 0 and on an overflow (`State.skDiv_of_tags`); its size
and its sign name the truncated quotient (`tdiv_eq_of_natAbs`). -/
theorem divisionTruncatesTowardsZero : Obligations.DivisionTruncatesTowardsZero := by
  unfold Obligations.DivisionTruncatesTowardsZero wordA wordB
  intro s c t k x hruns hu hrules
  obtain ⟨htags, ha, hb, ht⟩ := divOf_of_rules hrules
  have hrow : IsRow (.div c x) c 8 x := fun _ => rfl
  have hdiv := State.skDiv_of_tags hu ha hb htags
  refine ⟨fun hzero => ?_, fun q hne hsize hsign => ?_⟩
  · rw [if_pos hzero] at hdiv
    exact coreTraps_of_put hruns hrow hdiv
  · rw [if_neg hne, tdiv_eq_of_natAbs hsize hsign] at hdiv
    simp only [overflows_eq_true_iff ht, ite_not] at hdiv
    exact coreSets_or_traps hruns hrow hdiv

end Sys2Proof

/-! Moves, memory and control (R741 to R763), as the commands give them. -/
namespace Sys2Proof
open Machine

/-- Settles O55: each clause is the case of its instruction (the lemmas `State.sk…` above) in an open slice (`gives_of_next`,
`gives_of_trap`). -/
theorem stokerMovesAndControl : Obligations.StokerMovesAndControl := by
  unfold Obligations.StokerMovesAndControl
  refine ⟨?ldk, ?moves, ?retag, ?cvt, ?sel, ?offset, ?indexed, ?branch, ?call, ?jump, ?ret, ?trap⟩
  case ldk =>
    intro s c x hruns
    have hrow : IsRow (.ldk c x) c 1 x := fun _ => rfl
    exact ⟨fun h => gives_of_trap hruns hrow (State.skLdk_handle h),
      fun h => coreSets_of_put hruns hrow (State.skLdk_bool h),
      fun h h' => coreSets_of_put hruns hrow (State.skLdk_num h h')⟩
  case moves =>
    intro s c x hruns
    have htagq : IsRow (.tagq c x) c 3 x := fun _ => rfl
    refine ⟨fun hu => ⟨?_, ?_⟩, fun hu hbit => ?_, fun hu => ?_, fun hu => ⟨?_, ?_⟩⟩
    · exact coreSets_of_put hruns (op := 2) (fun _ => rfl) (State.skMov_eq hu)
    · exact coreSets_of_put hruns htagq (State.skTagq_read hu)
    · exact coreSets_of_put hruns htagq (State.skTagq_test hu hbit)
    · exact coreSets_of_put hruns (op := 0x2A) (fun _ => rfl) (State.skOrelse_eq hu)
    · exact gives_of_next hruns (op := 0) (fun _ => rfl) (State.skNop_eq hu)
    · exact gives_of_next hruns (op := 0x20) (fun _ => rfl) (State.skWait_eq hu)
  case retag =>
    intro s c t x hruns hu hfn
    have hrow : IsRow (.retag c x) c 4 x := fun _ => rfl
    have hword (ha : tagOf (wordA s c x) ≠ 15) (hconv : retags (tagOf (wordA s c x)) t = true) (ht : t ≠ 3) :
        CoreSets (.retag c x) s c x (tword t (payOf (wordA s c x))) 1 :=
      coreSets_of_put hruns hrow (State.skRetag_word hfn hu ha hconv ht)
    refine ⟨fun ha ht => ?_, fun ha ht => ?_, fun hlow hhigh ht => ?_, fun ha hint hother => ?_⟩
    · exact hword (by omega) (by rw [ha, retags_of_int]; omega) (by omega)
    · exact coreSets_of_put hruns hrow (State.skRetag_bool (hfn.trans ht) hu ha)
    · subst ht
      exact hword (by omega) ((retags_of_other (by omega)).mpr ⟨rfl, hlow, hhigh⟩) (by omega)
    · refine gives_of_trap hruns hrow (State.skRetag_mismatch hfn ha fun hconv => ?_)
      by_cases hone : tagOf (s.reg c (xa x.toNat)) = 1
      · exact hint ⟨hone, retags_of_int.mp (hone ▸ hconv)⟩
      · obtain ⟨ht, hlow, _⟩ := (retags_of_other hone).mp hconv
        exact hother ⟨hlow, ht⟩
  case cvt =>
    intro s c x hruns hu
    have hrow : IsRow (.cvt c x) c 0x25 x := fun _ => rfl
    exact ⟨fun hf ha => coreSets_or_traps hruns hrow (State.skCvt_intToFix hu hf ha),
      fun hf ha => coreSets_of_put hruns hrow (State.skCvt_fixToInt hu hf ha),
      fun hf ha => coreSets_of_put hruns hrow (State.skCvt_ratioToFix hu hf ha),
      fun hf ha => coreSets_or_traps hruns hrow (State.skCvt_fixToRatio hu hf ha)⟩
  case sel =>
    intro s c x hruns hu hk ha hb
    exact coreSets_of_put hruns (op := 0x27) (fun _ => rfl) (State.skSel_eq hu hk ha hb)
  case offset =>
    rintro s c a x hruns ha rfl
    have hld : IsRow (.ld c x) c 0x14 x := fun _ => rfl
    have hst : IsRow (.st c x) c 0x15 x := fun _ => rfl
    have hload := State.skLd_of_dptr ha
    have hstore := State.skSt_of_dptr ha
    exact ⟨fun h => ⟨coreSets_of_put hruns hld (hload.trans (State.skLoad_within h)),
        gives_of_next hruns hst (hstore.trans (State.skStore_within h))⟩,
      fun h => ⟨gives_of_trap hruns hld (hload.trans (State.skLoad_beyond h)),
        gives_of_trap hruns hst (hstore.trans (State.skStore_beyond h))⟩⟩
  case indexed =>
    intro s c a x hruns hu ha hb haddr h
    have hload : s.skLdx c x.toNat = s.skLoad c x.toNat false false false a := haddr ▸ State.skLdx_of_dptr ha hu hb
    refine ⟨coreSets_of_put hruns (op := 0x28) (fun _ => rfl) (hload.trans (State.skLoad_within h)), fun hd => ?_⟩
    have hstore : s.skStx c x.toNat = s.skStore c x.toNat false false false a := haddr ▸ State.skStx_of_dptr ha hu hb hd
    exact gives_of_next hruns (op := 0x29) (fun _ => rfl) (hstore.trans (State.skStore_within h))
  case branch =>
    intro s c p x hruns hu ha htarget hp
    have hbrt : IsRow (.brt c x) c 0x16 x := fun _ => rfl
    have hbrf : IsRow (.brf c x) c 0x17 x := fun _ => rfl
    refine ⟨fun hbool => ?_, fun hbool => ?_⟩
    · have hone : (payOf (s.reg c (xa x.toNat)) != 0) = true := bne_iff_ne.mpr hbool
      exact ⟨gives_of_next hruns hbrt (State.skBranch_taken hu ha hone htarget hp),
        gives_of_next hruns hbrf (State.skBranch_passed hu ha hone)⟩
    · have hzero : (payOf (s.reg c (xa x.toNat)) != 0) = false := bne_eq_false_iff_eq.mpr hbool
      exact ⟨gives_of_next hruns hbrf (State.skBranch_taken hu ha hzero htarget hp),
        gives_of_next hruns hbrt (State.skBranch_passed hu ha hzero)⟩
  case call =>
    rintro s c p x hruns hu rfl
    have hcall : IsRow (.call c x) c 0x19 x := fun _ => rfl
    have hp : fld x.toNat 0 13 ≤ 8191 := Nat.le_of_lt_succ (Nat.mod_lt _ (by decide))
    have hj := State.jTarget_near (s := s) (c := c) hu
    exact ⟨gives_of_next hruns (op := 0x18) (fun _ => rfl) (State.skJmp_within hj hp),
      fun hroom => gives_of_next hruns hcall (State.skCall_pushes hj hp hroom),
      fun hfull hmode => gives_of_trap hruns hcall (State.skCall_overflows hj hp hfull hmode)⟩
  case jump =>
    intro s c x hruns hu hbit hr
    have hjmp : IsRow (.jmp c x) c 0x18 x := fun _ => rfl
    have hj := State.jTarget_register hu hbit hr
    exact ⟨fun hp => gives_of_next hruns hjmp (State.skJmp_within hj hp),
      fun hp => gives_of_trap hruns hjmp (State.skJmp_beyond hj hp)⟩
  case ret =>
    intro s c x hruns hu
    have hret : IsRow (.ret c x) c 0x1A x := fun _ => rfl
    exact ⟨fun hstack => gives_of_trap hruns hret (State.skRet_empty hu hstack),
      fun p l hstack hp => gives_of_next hruns hret (State.skRet_pops hu hstack hp)⟩
  case trap =>
    intro s c op x hruns
    exact ⟨fun hu => gives_of_trap hruns (op := 0x24) (fun _ => rfl) (State.skTrapInstr_eq (c := c) hu),
      fun hlow hhigh => gives_of_trap hruns (isRow_illegalOpcode c x hlow hhigh) (State.skExec_undefined hlow)⟩

end Sys2Proof

/-! What each shared operation leaves alone: the fields that its definition does not write. -/
namespace Sys2Proof.Machine
open Sys2Proof Sys2Proof.Machine

@[simp] theorem State.each_pending {α : Type} (s : State) (l : List α) (f : State → α → State)
    (h : ∀ t x, (f t x).pending = t.pending) : (s.each l f).pending = s.pending := State.each_keeps State.pending l f h s

@[simp] theorem State.when_pending (s : State) (b : Bool) (f : State → State) (h : ∀ t, (f t).pending = t.pending) :
    (s.when b f).pending = s.pending := State.when_keeps State.pending b f h s

@[simp] theorem State.ite_pending (c : Prop) [Decidable c] (a b : State) :
    (if c then a else b).pending = if c then a.pending else b.pending := apply_ite State.pending c a b

@[simp] theorem State.each_free {α : Type} (s : State) (l : List α) (f : State → α → State)
    (h : ∀ t x, (f t x).free = t.free) : (s.each l f).free = s.free := State.each_keeps State.free l f h s

@[simp] theorem State.when_free (s : State) (b : Bool) (f : State → State) (h : ∀ t, (f t).free = t.free) :
    (s.when b f).free = s.free := State.when_keeps State.free b f h s

@[simp] theorem State.ite_free (c : Prop) [Decidable c] (a b : State) :
    (if c then a else b).free = if c then a.free else b.free := apply_ite State.free c a b

@[simp] theorem State.each_sys {α : Type} (s : State) (l : List α) (f : State → α → State)
    (h : ∀ t x, (f t x).sys = t.sys) : (s.each l f).sys = s.sys := State.each_keeps State.sys l f h s

@[simp] theorem State.when_sys (s : State) (b : Bool) (f : State → State) (h : ∀ t, (f t).sys = t.sys) :
    (s.when b f).sys = s.sys := State.when_keeps State.sys b f h s

@[simp] theorem State.ite_sys (c : Prop) [Decidable c] (a b : State) :
    (if c then a else b).sys = if c then a.sys else b.sys := apply_ite State.sys c a b

@[simp] theorem State.each_island {α : Type} (s : State) (l : List α) (f : State → α → State)
    (h : ∀ t x, (f t x).island = t.island) : (s.each l f).island = s.island := State.each_keeps State.island l f h s

@[simp] theorem State.when_island (s : State) (b : Bool) (f : State → State) (h : ∀ t, (f t).island = t.island) :
    (s.when b f).island = s.island := State.when_keeps State.island b f h s

@[simp] theorem State.ite_island (c : Prop) [Decidable c] (a b : State) :
    (if c then a else b).island = if c then a.island else b.island := apply_ite State.island c a b

@[simp] theorem State.each_nvm {α : Type} (s : State) (l : List α) (f : State → α → State)
    (h : ∀ t x, (f t x).nvm = t.nvm) : (s.each l f).nvm = s.nvm := State.each_keeps State.nvm l f h s

@[simp] theorem State.ite_nvm (c : Prop) [Decidable c] (a b : State) :
    (if c then a else b).nvm = if c then a.nvm else b.nvm := apply_ite State.nvm c a b

@[simp] theorem State.each_params {α : Type} (s : State) (l : List α) (f : State → α → State)
    (h : ∀ t x, (f t x).params = t.params) : (s.each l f).params = s.params := State.each_keeps State.params l f h s

@[simp] theorem State.when_params (s : State) (b : Bool) (f : State → State) (h : ∀ t, (f t).params = t.params) :
    (s.when b f).params = s.params := State.when_keeps State.params b f h s

@[simp] theorem State.ite_params (c : Prop) [Decidable c] (a b : State) :
    (if c then a else b).params = if c then a.params else b.params := apply_ite State.params c a b

@[simp] theorem State.each_cmd {α : Type} (s : State) (l : List α) (f : State → α → State)
    (h : ∀ t x, (f t x).cmd = t.cmd) : (s.each l f).cmd = s.cmd := State.each_keeps State.cmd l f h s

@[simp] theorem State.when_cmd (s : State) (b : Bool) (f : State → State) (h : ∀ t, (f t).cmd = t.cmd) :
    (s.when b f).cmd = s.cmd := State.when_keeps State.cmd b f h s

@[simp] theorem State.ite_cmd (c : Prop) [Decidable c] (a b : State) :
    (if c then a else b).cmd = if c then a.cmd else b.cmd := apply_ite State.cmd c a b

@[simp] theorem State.each_hdl {α : Type} (s : State) (l : List α) (f : State → α → State)
    (h : ∀ t x, (f t x).hdl = t.hdl) : (s.each l f).hdl = s.hdl := State.each_keeps State.hdl l f h s

@[simp] theorem State.when_hdl (s : State) (b : Bool) (f : State → State) (h : ∀ t, (f t).hdl = t.hdl) :
    (s.when b f).hdl = s.hdl := State.when_keeps State.hdl b f h s

@[simp] theorem State.ite_hdl (c : Prop) [Decidable c] (a b : State) :
    (if c then a else b).hdl = if c then a.hdl else b.hdl := apply_ite State.hdl c a b

@[simp] theorem State.each_evt {α : Type} (s : State) (l : List α) (f : State → α → State)
    (h : ∀ t x, (f t x).evt = t.evt) : (s.each l f).evt = s.evt := State.each_keeps State.evt l f h s

@[simp] theorem State.when_evt (s : State) (b : Bool) (f : State → State) (h : ∀ t, (f t).evt = t.evt) :
    (s.when b f).evt = s.evt := State.when_keeps State.evt b f h s

@[simp] theorem State.ite_evt (c : Prop) [Decidable c] (a b : State) :
    (if c then a else b).evt = if c then a.evt else b.evt := apply_ite State.evt c a b

@[simp] theorem State.each_wdg {α : Type} (s : State) (l : List α) (f : State → α → State)
    (h : ∀ t x, (f t x).wdg = t.wdg) : (s.each l f).wdg = s.wdg := State.each_keeps State.wdg l f h s

@[simp] theorem State.when_wdg (s : State) (b : Bool) (f : State → State) (h : ∀ t, (f t).wdg = t.wdg) :
    (s.when b f).wdg = s.wdg := State.when_keeps State.wdg b f h s

@[simp] theorem State.ite_wdg (c : Prop) [Decidable c] (a b : State) :
    (if c then a else b).wdg = if c then a.wdg else b.wdg := apply_ite State.wdg c a b

@[simp] theorem State.each_out {α : Type} (s : State) (l : List α) (f : State → α → State)
    (h : ∀ t x, (f t x).out = t.out) : (s.each l f).out = s.out := State.each_keeps State.out l f h s

@[simp] theorem State.when_out (s : State) (b : Bool) (f : State → State) (h : ∀ t, (f t).out = t.out) :
    (s.when b f).out = s.out := State.when_keeps State.out b f h s

@[simp] theorem State.ite_out (c : Prop) [Decidable c] (a b : State) :
    (if c then a else b).out = if c then a.out else b.out := apply_ite State.out c a b

@[simp] theorem State.each_flue {α : Type} (s : State) (l : List α) (f : State → α → State)
    (h : ∀ t x, (f t x).flue = t.flue) : (s.each l f).flue = s.flue := State.each_keeps State.flue l f h s

@[simp] theorem State.when_flue (s : State) (b : Bool) (f : State → State) (h : ∀ t, (f t).flue = t.flue) :
    (s.when b f).flue = s.flue := State.when_keeps State.flue b f h s

@[simp] theorem State.ite_flue (c : Prop) [Decidable c] (a b : State) :
    (if c then a else b).flue = if c then a.flue else b.flue := apply_ite State.flue c a b

@[simp] theorem State.each_insts {α : Type} (s : State) (l : List α) (f : State → α → State)
    (h : ∀ t x, (f t x).insts = t.insts) : (s.each l f).insts = s.insts := State.each_keeps State.insts l f h s

@[simp] theorem State.when_insts (s : State) (b : Bool) (f : State → State) (h : ∀ t, (f t).insts = t.insts) :
    (s.when b f).insts = s.insts := State.when_keeps State.insts b f h s

@[simp] theorem State.ite_insts (c : Prop) [Decidable c] (a b : State) :
    (if c then a else b).insts = if c then a.insts else b.insts := apply_ite State.insts c a b

@[simp] theorem State.each_part {α : Type} (s : State) (l : List α) (f : State → α → State)
    (h : ∀ t x, (f t x).part = t.part) : (s.each l f).part = s.part := State.each_keeps State.part l f h s

@[simp] theorem State.when_part (s : State) (b : Bool) (f : State → State) (h : ∀ t, (f t).part = t.part) :
    (s.when b f).part = s.part := State.when_keeps State.part b f h s

@[simp] theorem State.ite_part (c : Prop) [Decidable c] (a b : State) :
    (if c then a else b).part = if c then a.part else b.part := apply_ite State.part c a b

@[simp] theorem State.each_net {α : Type} (s : State) (l : List α) (f : State → α → State)
    (h : ∀ t x, (f t x).net = t.net) : (s.each l f).net = s.net := State.each_keeps State.net l f h s

@[simp] theorem State.when_net (s : State) (b : Bool) (f : State → State) (h : ∀ t, (f t).net = t.net) :
    (s.when b f).net = s.net := State.when_keeps State.net b f h s

@[simp] theorem State.ite_net (c : Prop) [Decidable c] (a b : State) :
    (if c then a else b).net = if c then a.net else b.net := apply_ite State.net c a b

@[simp] theorem State.each_cores {α : Type} (s : State) (l : List α) (f : State → α → State)
    (h : ∀ t x, (f t x).cores = t.cores) : (s.each l f).cores = s.cores := State.each_keeps State.cores l f h s

@[simp] theorem State.when_cores (s : State) (b : Bool) (f : State → State) (h : ∀ t, (f t).cores = t.cores) :
    (s.when b f).cores = s.cores := State.when_keeps State.cores b f h s

@[simp] theorem State.ite_cores (c : Prop) [Decidable c] (a b : State) :
    (if c then a else b).cores = if c then a.cores else b.cores := apply_ite State.cores c a b

@[simp] theorem State.each_sampled {α : Type} (s : State) (l : List α) (f : State → α → State)
    (h : ∀ t x, (f t x).sampled = t.sampled) : (s.each l f).sampled = s.sampled := State.each_keeps State.sampled l f h s

@[simp] theorem State.when_sampled (s : State) (b : Bool) (f : State → State) (h : ∀ t, (f t).sampled = t.sampled) :
    (s.when b f).sampled = s.sampled := State.when_keeps State.sampled b f h s

@[simp] theorem State.ite_sampled (c : Prop) [Decidable c] (a b : State) :
    (if c then a else b).sampled = if c then a.sampled else b.sampled := apply_ite State.sampled c a b

@[simp] theorem State.each_wks {α : Type} (s : State) (l : List α) (f : State → α → State)
    (h : ∀ t x, (f t x).wks = t.wks) : (s.each l f).wks = s.wks := State.each_keeps State.wks l f h s

@[simp] theorem State.when_wks (s : State) (b : Bool) (f : State → State) (h : ∀ t, (f t).wks = t.wks) :
    (s.when b f).wks = s.wks := State.when_keeps State.wks b f h s

@[simp] theorem State.ite_wks (c : Prop) [Decidable c] (a b : State) :
    (if c then a else b).wks = if c then a.wks else b.wks := apply_ite State.wks c a b

@[simp] theorem State.each_sent {α : Type} (s : State) (l : List α) (f : State → α → State)
    (h : ∀ t x, (f t x).sent = t.sent) : (s.each l f).sent = s.sent := State.each_keeps State.sent l f h s

@[simp] theorem State.when_sent (s : State) (b : Bool) (f : State → State) (h : ∀ t, (f t).sent = t.sent) :
    (s.when b f).sent = s.sent := State.when_keeps State.sent b f h s

@[simp] theorem State.ite_sent (c : Prop) [Decidable c] (a b : State) :
    (if c then a else b).sent = if c then a.sent else b.sent := apply_ite State.sent c a b

@[simp] theorem State.each_debugger {α : Type} (s : State) (l : List α) (f : State → α → State)
    (h : ∀ t x, (f t x).debugger = t.debugger) : (s.each l f).debugger = s.debugger := State.each_keeps State.debugger l f h s

@[simp] theorem State.when_debugger (s : State) (b : Bool) (f : State → State) (h : ∀ t, (f t).debugger = t.debugger) :
    (s.when b f).debugger = s.debugger := State.when_keeps State.debugger b f h s

@[simp] theorem State.ite_debugger (c : Prop) [Decidable c] (a b : State) :
    (if c then a else b).debugger = if c then a.debugger else b.debugger := apply_ite State.debugger c a b

theorem State.pf_of_params {s t : State} (h : t.params = s.params) (a l w : Nat) : t.pf a l w = s.pf a l w := by
  simp only [State.pf, State.p_of_params h]

theorem State.pb_of_params {s t : State} (h : t.params = s.params) (a l : Nat) : t.pb a l = s.pb a l := by
  simp only [State.pb, State.p_of_params h]

@[simp] theorem State.upSpan_frame (s : State) (n : Nat) (f : Span → Span) :
    (s.upSpan n f).pending = s.pending ∧ (s.upSpan n f).free = s.free ∧ (s.upSpan n f).sys = s.sys ∧
    (s.upSpan n f).island = s.island ∧ (s.upSpan n f).nvm = s.nvm ∧ (s.upSpan n f).params = s.params ∧
    (s.upSpan n f).cmd = s.cmd ∧ (s.upSpan n f).hdl = s.hdl ∧ (s.upSpan n f).evt = s.evt ∧ (s.upSpan n f).wdg = s.wdg ∧
    (s.upSpan n f).out = s.out ∧ (s.upSpan n f).flue = s.flue ∧ (s.upSpan n f).part = s.part ∧ (s.upSpan n f).net = s.net ∧
    (s.upSpan n f).cores = s.cores ∧ (s.upSpan n f).sampled = s.sampled ∧ (s.upSpan n f).wks = s.wks ∧
    (s.upSpan n f).sent = s.sent ∧ (s.upSpan n f).debugger = s.debugger :=
  by simp -implicitDefEqProofs [State.upSpan]

@[simp] theorem State.sendRing_frame (s : State) (w dir kind : Nat) (body : List Byte) :
    (s.sendRing w dir kind body).pending = s.pending ∧ (s.sendRing w dir kind body).free = s.free ∧
    (s.sendRing w dir kind body).sys = s.sys ∧ (s.sendRing w dir kind body).island = s.island ∧
    (s.sendRing w dir kind body).nvm = s.nvm ∧ (s.sendRing w dir kind body).params = s.params ∧
    (s.sendRing w dir kind body).cmd = s.cmd ∧ (s.sendRing w dir kind body).hdl = s.hdl ∧
    (s.sendRing w dir kind body).evt = s.evt ∧ (s.sendRing w dir kind body).wdg = s.wdg ∧
    (s.sendRing w dir kind body).out = s.out ∧ (s.sendRing w dir kind body).insts = s.insts ∧
    (s.sendRing w dir kind body).part = s.part ∧ (s.sendRing w dir kind body).net = s.net ∧
    (s.sendRing w dir kind body).cores = s.cores ∧ (s.sendRing w dir kind body).sampled = s.sampled ∧
    (s.sendRing w dir kind body).wks = s.wks ∧ (s.sendRing w dir kind body).debugger = s.debugger :=
  by simp -implicitDefEqProofs [State.sendRing]

@[simp] theorem State.partOut_frame (s : State) (typ : Nat) (body : List Byte) :
    (s.partOut typ body).pending = s.pending ∧ (s.partOut typ body).free = s.free ∧ (s.partOut typ body).sys = s.sys ∧
    (s.partOut typ body).island = s.island ∧ (s.partOut typ body).nvm = s.nvm ∧ (s.partOut typ body).params = s.params ∧
    (s.partOut typ body).cmd = s.cmd ∧ (s.partOut typ body).hdl = s.hdl ∧ (s.partOut typ body).evt = s.evt ∧
    (s.partOut typ body).wdg = s.wdg ∧ (s.partOut typ body).out = s.out ∧ (s.partOut typ body).flue = s.flue ∧
    (s.partOut typ body).insts = s.insts ∧ (s.partOut typ body).net = s.net ∧ (s.partOut typ body).cores = s.cores ∧
    (s.partOut typ body).sampled = s.sampled ∧ (s.partOut typ body).wks = s.wks ∧ (s.partOut typ body).debugger = s.debugger :=
  by simp -implicitDefEqProofs [State.partOut]

@[simp] theorem State.sendFar_frame (s : State) (w kind : Nat) (body : List Byte) :
    (s.sendFar w kind body).pending = s.pending ∧ (s.sendFar w kind body).free = s.free ∧ (s.sendFar w kind body).sys = s.sys ∧
    (s.sendFar w kind body).island = s.island ∧ (s.sendFar w kind body).nvm = s.nvm ∧
    (s.sendFar w kind body).params = s.params ∧ (s.sendFar w kind body).cmd = s.cmd ∧ (s.sendFar w kind body).hdl = s.hdl ∧
    (s.sendFar w kind body).evt = s.evt ∧ (s.sendFar w kind body).wdg = s.wdg ∧ (s.sendFar w kind body).out = s.out ∧
    (s.sendFar w kind body).insts = s.insts ∧ (s.sendFar w kind body).net = s.net ∧ (s.sendFar w kind body).cores = s.cores ∧
    (s.sendFar w kind body).sampled = s.sampled ∧ (s.sendFar w kind body).wks = s.wks ∧
    (s.sendFar w kind body).debugger = s.debugger :=
  by simp -implicitDefEqProofs [State.sendFar]

@[simp] theorem State.sendTo_frame (s : State) (w kind : Nat) (body : List Byte) :
    (s.sendTo w kind body).pending = s.pending ∧ (s.sendTo w kind body).free = s.free ∧ (s.sendTo w kind body).sys = s.sys ∧
    (s.sendTo w kind body).island = s.island ∧ (s.sendTo w kind body).nvm = s.nvm ∧ (s.sendTo w kind body).params = s.params ∧
    (s.sendTo w kind body).cmd = s.cmd ∧ (s.sendTo w kind body).hdl = s.hdl ∧ (s.sendTo w kind body).evt = s.evt ∧
    (s.sendTo w kind body).wdg = s.wdg ∧ (s.sendTo w kind body).out = s.out ∧ (s.sendTo w kind body).insts = s.insts ∧
    (s.sendTo w kind body).net = s.net ∧ (s.sendTo w kind body).cores = s.cores ∧ (s.sendTo w kind body).sampled = s.sampled ∧
    (s.sendTo w kind body).wks = s.wks ∧ (s.sendTo w kind body).debugger = s.debugger :=
  by unfold State.sendTo; (repeat' split) <;> simp -implicitDefEqProofs

@[simp] theorem State.sendWrite_frame (s : State) (w kind index value : Nat) :
    (s.sendWrite w kind index value).pending = s.pending ∧ (s.sendWrite w kind index value).free = s.free ∧
    (s.sendWrite w kind index value).sys = s.sys ∧ (s.sendWrite w kind index value).island = s.island ∧
    (s.sendWrite w kind index value).nvm = s.nvm ∧ (s.sendWrite w kind index value).params = s.params ∧
    (s.sendWrite w kind index value).cmd = s.cmd ∧ (s.sendWrite w kind index value).hdl = s.hdl ∧
    (s.sendWrite w kind index value).evt = s.evt ∧ (s.sendWrite w kind index value).wdg = s.wdg ∧
    (s.sendWrite w kind index value).out = s.out ∧ (s.sendWrite w kind index value).insts = s.insts ∧
    (s.sendWrite w kind index value).net = s.net ∧ (s.sendWrite w kind index value).cores = s.cores ∧
    (s.sendWrite w kind index value).sampled = s.sampled ∧ (s.sendWrite w kind index value).wks = s.wks ∧
    (s.sendWrite w kind index value).debugger = s.debugger :=
  by simp -implicitDefEqProofs [State.sendWrite]

@[simp] theorem State.sendRead_frame (s : State) (w kind back index : Nat) :
    (s.sendRead w kind back index).pending = s.pending ∧ (s.sendRead w kind back index).free = s.free ∧
    (s.sendRead w kind back index).sys = s.sys ∧ (s.sendRead w kind back index).island = s.island ∧
    (s.sendRead w kind back index).nvm = s.nvm ∧ (s.sendRead w kind back index).params = s.params ∧
    (s.sendRead w kind back index).cmd = s.cmd ∧ (s.sendRead w kind back index).hdl = s.hdl ∧
    (s.sendRead w kind back index).evt = s.evt ∧ (s.sendRead w kind back index).wdg = s.wdg ∧
    (s.sendRead w kind back index).out = s.out ∧ (s.sendRead w kind back index).insts = s.insts ∧
    (s.sendRead w kind back index).net = s.net ∧ (s.sendRead w kind back index).cores = s.cores ∧
    (s.sendRead w kind back index).sampled = s.sampled ∧ (s.sendRead w kind back index).wks = s.wks ∧
    (s.sendRead w kind back index).debugger = s.debugger :=
  by simp -implicitDefEqProofs [State.sendRead]

@[simp] theorem State.toWorker_frame (s : State) (w index value : Nat) :
    (s.toWorker w index value).pending = s.pending ∧ (s.toWorker w index value).free = s.free ∧
    (s.toWorker w index value).sys = s.sys ∧ (s.toWorker w index value).island = s.island ∧
    (s.toWorker w index value).nvm = s.nvm ∧ (s.toWorker w index value).params = s.params ∧
    (s.toWorker w index value).cmd = s.cmd ∧ (s.toWorker w index value).hdl = s.hdl ∧ (s.toWorker w index value).evt = s.evt ∧
    (s.toWorker w index value).wdg = s.wdg ∧ (s.toWorker w index value).out = s.out ∧
    (s.toWorker w index value).insts = s.insts ∧ (s.toWorker w index value).part = s.part ∧
    (s.toWorker w index value).net = s.net ∧ (s.toWorker w index value).cores = s.cores ∧
    (s.toWorker w index value).sampled = s.sampled ∧ (s.toWorker w index value).wks = s.wks ∧
    (s.toWorker w index value).sent = s.sent ∧ (s.toWorker w index value).debugger = s.debugger :=
  by simp -implicitDefEqProofs [State.toWorker]

@[simp] theorem State.wear_frame (s : State) (k n : Nat) :
    (s.wear k n).pending = s.pending ∧ (s.wear k n).free = s.free ∧ (s.wear k n).sys = s.sys ∧ (s.wear k n).island = s.island ∧
    (s.wear k n).params = s.params ∧ (s.wear k n).cmd = s.cmd ∧ (s.wear k n).hdl = s.hdl ∧ (s.wear k n).evt = s.evt ∧
    (s.wear k n).wdg = s.wdg ∧ (s.wear k n).out = s.out ∧ (s.wear k n).flue = s.flue ∧ (s.wear k n).insts = s.insts ∧
    (s.wear k n).part = s.part ∧ (s.wear k n).net = s.net ∧ (s.wear k n).cores = s.cores ∧ (s.wear k n).sampled = s.sampled ∧
    (s.wear k n).wks = s.wks ∧ (s.wear k n).sent = s.sent ∧ (s.wear k n).debugger = s.debugger :=
  by simp -implicitDefEqProofs [State.wear]

@[simp] theorem State.mramFresh_frame (s : State) (lo n : Nat) :
    (s.mramFresh lo n).pending = s.pending ∧ (s.mramFresh lo n).free = s.free ∧ (s.mramFresh lo n).sys = s.sys ∧
    (s.mramFresh lo n).island = s.island ∧ (s.mramFresh lo n).params = s.params ∧ (s.mramFresh lo n).cmd = s.cmd ∧
    (s.mramFresh lo n).hdl = s.hdl ∧ (s.mramFresh lo n).evt = s.evt ∧ (s.mramFresh lo n).wdg = s.wdg ∧
    (s.mramFresh lo n).out = s.out ∧ (s.mramFresh lo n).flue = s.flue ∧ (s.mramFresh lo n).insts = s.insts ∧
    (s.mramFresh lo n).part = s.part ∧ (s.mramFresh lo n).net = s.net ∧ (s.mramFresh lo n).cores = s.cores ∧
    (s.mramFresh lo n).sampled = s.sampled ∧ (s.mramFresh lo n).wks = s.wks ∧ (s.mramFresh lo n).sent = s.sent ∧
    (s.mramFresh lo n).debugger = s.debugger :=
  by simp -implicitDefEqProofs [State.mramFresh]

@[simp] theorem State.countSpans_frame (s : State) (e sev : Nat) :
    (s.countSpans e sev).pending = s.pending ∧ (s.countSpans e sev).free = s.free ∧ (s.countSpans e sev).sys = s.sys ∧
    (s.countSpans e sev).island = s.island ∧ (s.countSpans e sev).nvm = s.nvm ∧ (s.countSpans e sev).params = s.params ∧
    (s.countSpans e sev).cmd = s.cmd ∧ (s.countSpans e sev).hdl = s.hdl ∧ (s.countSpans e sev).evt = s.evt ∧
    (s.countSpans e sev).wdg = s.wdg ∧ (s.countSpans e sev).out = s.out ∧ (s.countSpans e sev).flue = s.flue ∧
    (s.countSpans e sev).part = s.part ∧ (s.countSpans e sev).net = s.net ∧ (s.countSpans e sev).cores = s.cores ∧
    (s.countSpans e sev).sampled = s.sampled ∧ (s.countSpans e sev).wks = s.wks ∧ (s.countSpans e sev).sent = s.sent ∧
    (s.countSpans e sev).debugger = s.debugger :=
  by simp -implicitDefEqProofs [State.countSpans]

@[simp] theorem State.douseBy_frame (s : State) (e : Nat) :
    (s.douseBy e).pending = s.pending ∧ (s.douseBy e).free = s.free ∧ (s.douseBy e).island = s.island ∧
    (s.douseBy e).nvm = s.nvm ∧ (s.douseBy e).cmd = s.cmd ∧ (s.douseBy e).hdl = s.hdl ∧ (s.douseBy e).wdg = s.wdg ∧
    (s.douseBy e).out = s.out ∧ (s.douseBy e).flue = s.flue ∧ (s.douseBy e).insts = s.insts ∧ (s.douseBy e).part = s.part ∧
    (s.douseBy e).net = s.net ∧ (s.douseBy e).cores = s.cores ∧ (s.douseBy e).sampled = s.sampled ∧ (s.douseBy e).wks = s.wks ∧
    (s.douseBy e).sent = s.sent ∧ (s.douseBy e).debugger = s.debugger :=
  by unfold State.douseBy; dsimp only; (repeat' split) <;> simp -implicitDefEqProofs

@[simp] theorem State.occurs_frame (s : State) (e : Nat) (d : List Byte) :
    (s.occurs e d).pending = s.pending ∧ (s.occurs e d).free = s.free ∧ (s.occurs e d).island = s.island ∧
    (s.occurs e d).nvm = s.nvm ∧ (s.occurs e d).cmd = s.cmd ∧ (s.occurs e d).hdl = s.hdl ∧ (s.occurs e d).wdg = s.wdg ∧
    (s.occurs e d).out = s.out ∧ (s.occurs e d).flue = s.flue ∧ (s.occurs e d).part = s.part ∧ (s.occurs e d).net = s.net ∧
    (s.occurs e d).cores = s.cores ∧ (s.occurs e d).sampled = s.sampled ∧ (s.occurs e d).wks = s.wks ∧
    (s.occurs e d).sent = s.sent ∧ (s.occurs e d).debugger = s.debugger :=
  by simp -implicitDefEqProofs [State.occurs]

@[simp] theorem State.raise_frame (s : State) (e : Nat) (d : List Byte) :
    (s.raise e d).pending = s.pending ∧ (s.raise e d).free = s.free ∧ (s.raise e d).island = s.island ∧
    (s.raise e d).nvm = s.nvm ∧ (s.raise e d).cmd = s.cmd ∧ (s.raise e d).hdl = s.hdl ∧ (s.raise e d).wdg = s.wdg ∧
    (s.raise e d).out = s.out ∧ (s.raise e d).flue = s.flue ∧ (s.raise e d).part = s.part ∧ (s.raise e d).net = s.net ∧
    (s.raise e d).cores = s.cores ∧ (s.raise e d).sampled = s.sampled ∧ (s.raise e d).wks = s.wks ∧
    (s.raise e d).sent = s.sent ∧ (s.raise e d).debugger = s.debugger :=
  by simp -implicitDefEqProofs [State.raise]

@[simp] theorem State.begin_frame (s : State) (e item : Nat) (d : List Byte) :
    (s.begin e item d).pending = s.pending ∧ (s.begin e item d).free = s.free ∧ (s.begin e item d).island = s.island ∧
    (s.begin e item d).nvm = s.nvm ∧ (s.begin e item d).cmd = s.cmd ∧ (s.begin e item d).hdl = s.hdl ∧
    (s.begin e item d).wdg = s.wdg ∧ (s.begin e item d).out = s.out ∧ (s.begin e item d).flue = s.flue ∧
    (s.begin e item d).part = s.part ∧ (s.begin e item d).net = s.net ∧ (s.begin e item d).cores = s.cores ∧
    (s.begin e item d).sampled = s.sampled ∧ (s.begin e item d).wks = s.wks ∧ (s.begin e item d).sent = s.sent ∧
    (s.begin e item d).debugger = s.debugger :=
  by simp -implicitDefEqProofs [State.begin]

@[simp] theorem State.finish_frame (s : State) (e item : Nat) :
    (s.finish e item).pending = s.pending ∧ (s.finish e item).free = s.free ∧ (s.finish e item).sys = s.sys ∧
    (s.finish e item).island = s.island ∧ (s.finish e item).nvm = s.nvm ∧ (s.finish e item).params = s.params ∧
    (s.finish e item).cmd = s.cmd ∧ (s.finish e item).hdl = s.hdl ∧ (s.finish e item).wdg = s.wdg ∧
    (s.finish e item).out = s.out ∧ (s.finish e item).flue = s.flue ∧ (s.finish e item).insts = s.insts ∧
    (s.finish e item).part = s.part ∧ (s.finish e item).net = s.net ∧ (s.finish e item).cores = s.cores ∧
    (s.finish e item).sampled = s.sampled ∧ (s.finish e item).wks = s.wks ∧ (s.finish e item).sent = s.sent ∧
    (s.finish e item).debugger = s.debugger :=
  by simp -implicitDefEqProofs [State.finish]

@[simp] theorem State.clearEv_frame (s : State) (e : Nat) :
    (s.clearEv e).pending = s.pending ∧ (s.clearEv e).free = s.free ∧ (s.clearEv e).sys = s.sys ∧
    (s.clearEv e).island = s.island ∧ (s.clearEv e).nvm = s.nvm ∧ (s.clearEv e).cmd = s.cmd ∧ (s.clearEv e).hdl = s.hdl ∧
    (s.clearEv e).wdg = s.wdg ∧ (s.clearEv e).out = s.out ∧ (s.clearEv e).flue = s.flue ∧ (s.clearEv e).insts = s.insts ∧
    (s.clearEv e).part = s.part ∧ (s.clearEv e).net = s.net ∧ (s.clearEv e).cores = s.cores ∧
    (s.clearEv e).sampled = s.sampled ∧ (s.clearEv e).wks = s.wks ∧ (s.clearEv e).sent = s.sent ∧
    (s.clearEv e).debugger = s.debugger :=
  by simp -implicitDefEqProofs [State.clearEv]

@[simp] theorem State.countOpening_frame (s : State) (n : Nat) :
    (s.countOpening n).pending = s.pending ∧ (s.countOpening n).free = s.free ∧ (s.countOpening n).sys = s.sys ∧
    (s.countOpening n).island = s.island ∧ (s.countOpening n).params = s.params ∧ (s.countOpening n).cmd = s.cmd ∧
    (s.countOpening n).hdl = s.hdl ∧ (s.countOpening n).evt = s.evt ∧ (s.countOpening n).wdg = s.wdg ∧
    (s.countOpening n).out = s.out ∧ (s.countOpening n).flue = s.flue ∧ (s.countOpening n).part = s.part ∧
    (s.countOpening n).net = s.net ∧ (s.countOpening n).cores = s.cores ∧ (s.countOpening n).sampled = s.sampled ∧
    (s.countOpening n).wks = s.wks ∧ (s.countOpening n).sent = s.sent ∧ (s.countOpening n).debugger = s.debugger :=
  by simp -implicitDefEqProofs [State.countOpening]

@[simp] theorem State.opened_frame (s : State) (n : Nat) :
    (s.opened n).pending = s.pending ∧ (s.opened n).free = s.free ∧ (s.opened n).sys = s.sys ∧ (s.opened n).island = s.island ∧
    (s.opened n).cmd = s.cmd ∧ (s.opened n).hdl = s.hdl ∧ (s.opened n).evt = s.evt ∧ (s.opened n).wdg = s.wdg ∧
    (s.opened n).flue = s.flue ∧ (s.opened n).part = s.part ∧ (s.opened n).net = s.net ∧ (s.opened n).cores = s.cores ∧
    (s.opened n).sampled = s.sampled ∧ (s.opened n).wks = s.wks ∧ (s.opened n).sent = s.sent ∧
    (s.opened n).debugger = s.debugger :=
  by simp -implicitDefEqProofs [State.opened]

@[simp] theorem State.pullIn_frame (s : State) (n : Nat) :
    (s.pullIn n).pending = s.pending ∧ (s.pullIn n).free = s.free ∧ (s.pullIn n).sys = s.sys ∧ (s.pullIn n).island = s.island ∧
    (s.pullIn n).nvm = s.nvm ∧ (s.pullIn n).cmd = s.cmd ∧ (s.pullIn n).hdl = s.hdl ∧ (s.pullIn n).evt = s.evt ∧
    (s.pullIn n).wdg = s.wdg ∧ (s.pullIn n).flue = s.flue ∧ (s.pullIn n).insts = s.insts ∧ (s.pullIn n).part = s.part ∧
    (s.pullIn n).net = s.net ∧ (s.pullIn n).cores = s.cores ∧ (s.pullIn n).sampled = s.sampled ∧ (s.pullIn n).wks = s.wks ∧
    (s.pullIn n).sent = s.sent ∧ (s.pullIn n).debugger = s.debugger :=
  by simp -implicitDefEqProofs [State.pullIn]

@[simp] theorem State.closed_frame (s : State) (n : Nat) :
    (s.closed n).pending = s.pending ∧ (s.closed n).free = s.free ∧ (s.closed n).sys = s.sys ∧ (s.closed n).island = s.island ∧
    (s.closed n).nvm = s.nvm ∧ (s.closed n).cmd = s.cmd ∧ (s.closed n).hdl = s.hdl ∧ (s.closed n).evt = s.evt ∧
    (s.closed n).wdg = s.wdg ∧ (s.closed n).flue = s.flue ∧ (s.closed n).insts = s.insts ∧ (s.closed n).part = s.part ∧
    (s.closed n).net = s.net ∧ (s.closed n).cores = s.cores ∧ (s.closed n).sampled = s.sampled ∧ (s.closed n).wks = s.wks ∧
    (s.closed n).sent = s.sent ∧ (s.closed n).debugger = s.debugger :=
  by simp -implicitDefEqProofs [State.closed]

@[simp] theorem State.olEnd_frame (s : State) (n : Nat) :
    (s.olEnd n).pending = s.pending ∧ (s.olEnd n).free = s.free ∧ (s.olEnd n).sys = s.sys ∧ (s.olEnd n).island = s.island ∧
    (s.olEnd n).nvm = s.nvm ∧ (s.olEnd n).cmd = s.cmd ∧ (s.olEnd n).hdl = s.hdl ∧ (s.olEnd n).wdg = s.wdg ∧
    (s.olEnd n).flue = s.flue ∧ (s.olEnd n).insts = s.insts ∧ (s.olEnd n).part = s.part ∧ (s.olEnd n).net = s.net ∧
    (s.olEnd n).cores = s.cores ∧ (s.olEnd n).sampled = s.sampled ∧ (s.olEnd n).wks = s.wks ∧ (s.olEnd n).sent = s.sent ∧
    (s.olEnd n).debugger = s.debugger :=
  by simp -implicitDefEqProofs [State.olEnd]

@[simp] theorem State.hsDrive_frame (s : State) (n : Nat) :
    (s.hsDrive n).pending = s.pending ∧ (s.hsDrive n).free = s.free ∧ (s.hsDrive n).sys = s.sys ∧
    (s.hsDrive n).island = s.island ∧ (s.hsDrive n).cmd = s.cmd ∧ (s.hsDrive n).hdl = s.hdl ∧ (s.hsDrive n).wdg = s.wdg ∧
    (s.hsDrive n).flue = s.flue ∧ (s.hsDrive n).part = s.part ∧ (s.hsDrive n).net = s.net ∧ (s.hsDrive n).cores = s.cores ∧
    (s.hsDrive n).sampled = s.sampled ∧ (s.hsDrive n).wks = s.wks ∧ (s.hsDrive n).sent = s.sent ∧
    (s.hsDrive n).debugger = s.debugger :=
  by simp -implicitDefEqProofs [State.hsDrive]

@[simp] theorem State.hsCmdOff_frame (s : State) (n : Nat) :
    (s.hsCmdOff n).pending = s.pending ∧ (s.hsCmdOff n).free = s.free ∧ (s.hsCmdOff n).sys = s.sys ∧
    (s.hsCmdOff n).island = s.island ∧ (s.hsCmdOff n).nvm = s.nvm ∧ (s.hsCmdOff n).cmd = s.cmd ∧ (s.hsCmdOff n).hdl = s.hdl ∧
    (s.hsCmdOff n).evt = s.evt ∧ (s.hsCmdOff n).wdg = s.wdg ∧ (s.hsCmdOff n).flue = s.flue ∧ (s.hsCmdOff n).insts = s.insts ∧
    (s.hsCmdOff n).part = s.part ∧ (s.hsCmdOff n).net = s.net ∧ (s.hsCmdOff n).cores = s.cores ∧
    (s.hsCmdOff n).sampled = s.sampled ∧ (s.hsCmdOff n).wks = s.wks ∧ (s.hsCmdOff n).sent = s.sent ∧
    (s.hsCmdOff n).debugger = s.debugger :=
  by simp -implicitDefEqProofs [State.hsCmdOff]

@[simp] theorem State.hsOff_frame (s : State) (n : Nat) :
    (s.hsOff n).pending = s.pending ∧ (s.hsOff n).free = s.free ∧ (s.hsOff n).sys = s.sys ∧ (s.hsOff n).island = s.island ∧
    (s.hsOff n).cmd = s.cmd ∧ (s.hsOff n).hdl = s.hdl ∧ (s.hsOff n).wdg = s.wdg ∧ (s.hsOff n).flue = s.flue ∧
    (s.hsOff n).part = s.part ∧ (s.hsOff n).net = s.net ∧ (s.hsOff n).cores = s.cores ∧ (s.hsOff n).sampled = s.sampled ∧
    (s.hsOff n).wks = s.wks ∧ (s.hsOff n).sent = s.sent ∧ (s.hsOff n).debugger = s.debugger :=
  by simp -implicitDefEqProofs [State.hsOff]

@[simp] theorem State.openContactors_frame (s : State) (alarm : Bool) :
    (s.openContactors alarm).pending = s.pending ∧ (s.openContactors alarm).free = s.free ∧
    (s.openContactors alarm).sys = s.sys ∧ (s.openContactors alarm).island = s.island ∧ (s.openContactors alarm).cmd = s.cmd ∧
    (s.openContactors alarm).hdl = s.hdl ∧ (s.openContactors alarm).wdg = s.wdg ∧ (s.openContactors alarm).flue = s.flue ∧
    (s.openContactors alarm).part = s.part ∧ (s.openContactors alarm).net = s.net ∧ (s.openContactors alarm).cores = s.cores ∧
    (s.openContactors alarm).sampled = s.sampled ∧ (s.openContactors alarm).wks = s.wks ∧
    (s.openContactors alarm).sent = s.sent ∧ (s.openContactors alarm).debugger = s.debugger :=
  by simp -implicitDefEqProofs [State.openContactors]

@[simp] theorem State.hsReload_frame (s : State) (n ns : Nat) (same : Bool) :
    (s.hsReload n ns same).pending = s.pending ∧ (s.hsReload n ns same).free = s.free ∧ (s.hsReload n ns same).sys = s.sys ∧
    (s.hsReload n ns same).island = s.island ∧ (s.hsReload n ns same).cmd = s.cmd ∧ (s.hsReload n ns same).hdl = s.hdl ∧
    (s.hsReload n ns same).wdg = s.wdg ∧ (s.hsReload n ns same).flue = s.flue ∧ (s.hsReload n ns same).part = s.part ∧
    (s.hsReload n ns same).net = s.net ∧ (s.hsReload n ns same).cores = s.cores ∧ (s.hsReload n ns same).sampled = s.sampled ∧
    (s.hsReload n ns same).wks = s.wks ∧ (s.hsReload n ns same).sent = s.sent ∧ (s.hsReload n ns same).debugger = s.debugger :=
  by simp -implicitDefEqProofs [State.hsReload]

@[simp] theorem State.pgReload_frame (s : State) (g : Nat) (same : Bool) :
    (s.pgReload g same).pending = s.pending ∧ (s.pgReload g same).free = s.free ∧ (s.pgReload g same).sys = s.sys ∧
    (s.pgReload g same).island = s.island ∧ (s.pgReload g same).cmd = s.cmd ∧ (s.pgReload g same).hdl = s.hdl ∧
    (s.pgReload g same).wdg = s.wdg ∧ (s.pgReload g same).flue = s.flue ∧ (s.pgReload g same).part = s.part ∧
    (s.pgReload g same).net = s.net ∧ (s.pgReload g same).cores = s.cores ∧ (s.pgReload g same).sampled = s.sampled ∧
    (s.pgReload g same).wks = s.wks ∧ (s.pgReload g same).sent = s.sent ∧ (s.pgReload g same).debugger = s.debugger :=
  by simp -implicitDefEqProofs [State.pgReload]

@[simp] theorem State.wdgPause_frame (s : State) :
    (s.wdgPause).pending = s.pending ∧ (s.wdgPause).free = s.free ∧ (s.wdgPause).sys = s.sys ∧ (s.wdgPause).island = s.island ∧
    (s.wdgPause).nvm = s.nvm ∧ (s.wdgPause).cmd = s.cmd ∧ (s.wdgPause).hdl = s.hdl ∧ (s.wdgPause).evt = s.evt ∧
    (s.wdgPause).out = s.out ∧ (s.wdgPause).flue = s.flue ∧ (s.wdgPause).insts = s.insts ∧ (s.wdgPause).part = s.part ∧
    (s.wdgPause).net = s.net ∧ (s.wdgPause).cores = s.cores ∧ (s.wdgPause).sampled = s.sampled ∧ (s.wdgPause).wks = s.wks ∧
    (s.wdgPause).sent = s.sent ∧ (s.wdgPause).debugger = s.debugger :=
  by simp -implicitDefEqProofs [State.wdgPause]

@[simp] theorem State.haltCores_frame (s : State) :
    (s.haltCores).pending = s.pending ∧ (s.haltCores).free = s.free ∧ (s.haltCores).sys = s.sys ∧
    (s.haltCores).island = s.island ∧ (s.haltCores).nvm = s.nvm ∧ (s.haltCores).cmd = s.cmd ∧ (s.haltCores).hdl = s.hdl ∧
    (s.haltCores).evt = s.evt ∧ (s.haltCores).wdg = s.wdg ∧ (s.haltCores).out = s.out ∧ (s.haltCores).flue = s.flue ∧
    (s.haltCores).insts = s.insts ∧ (s.haltCores).part = s.part ∧ (s.haltCores).net = s.net ∧
    (s.haltCores).sampled = s.sampled ∧ (s.haltCores).wks = s.wks ∧ (s.haltCores).sent = s.sent ∧
    (s.haltCores).debugger = s.debugger :=
  by simp -implicitDefEqProofs [State.haltCores]

@[simp] theorem State.drivesKept_frame (s : State) :
    (s.drivesKept).pending = s.pending ∧ (s.drivesKept).free = s.free ∧ (s.drivesKept).sys = s.sys ∧
    (s.drivesKept).island = s.island ∧ (s.drivesKept).nvm = s.nvm ∧ (s.drivesKept).params = s.params ∧
    (s.drivesKept).cmd = s.cmd ∧ (s.drivesKept).hdl = s.hdl ∧ (s.drivesKept).evt = s.evt ∧ (s.drivesKept).wdg = s.wdg ∧
    (s.drivesKept).flue = s.flue ∧ (s.drivesKept).insts = s.insts ∧ (s.drivesKept).part = s.part ∧ (s.drivesKept).net = s.net ∧
    (s.drivesKept).cores = s.cores ∧ (s.drivesKept).sampled = s.sampled ∧ (s.drivesKept).wks = s.wks ∧
    (s.drivesKept).sent = s.sent ∧ (s.drivesKept).debugger = s.debugger :=
  by simp -implicitDefEqProofs [State.drivesKept]

@[simp] theorem State.followKept_frame (s : State) :
    (s.followKept).pending = s.pending ∧ (s.followKept).free = s.free ∧ (s.followKept).sys = s.sys ∧
    (s.followKept).island = s.island ∧ (s.followKept).nvm = s.nvm ∧ (s.followKept).params = s.params ∧
    (s.followKept).cmd = s.cmd ∧ (s.followKept).hdl = s.hdl ∧ (s.followKept).evt = s.evt ∧ (s.followKept).wdg = s.wdg ∧
    (s.followKept).flue = s.flue ∧ (s.followKept).insts = s.insts ∧ (s.followKept).part = s.part ∧ (s.followKept).net = s.net ∧
    (s.followKept).cores = s.cores ∧ (s.followKept).sampled = s.sampled ∧ (s.followKept).wks = s.wks ∧
    (s.followKept).sent = s.sent ∧ (s.followKept).debugger = s.debugger :=
  by simp -implicitDefEqProofs [State.followKept]

@[simp] theorem State.enterDoused_frame (s : State) :
    (s.enterDoused).pending = s.pending ∧ (s.enterDoused).free = s.free ∧ (s.enterDoused).island = s.island ∧
    (s.enterDoused).cmd = s.cmd ∧ (s.enterDoused).hdl = s.hdl ∧ (s.enterDoused).flue = s.flue ∧ (s.enterDoused).part = s.part ∧
    (s.enterDoused).net = s.net ∧ (s.enterDoused).sampled = s.sampled ∧ (s.enterDoused).wks = s.wks ∧
    (s.enterDoused).sent = s.sent ∧ (s.enterDoused).debugger = s.debugger :=
  by simp -implicitDefEqProofs [State.enterDoused]

@[simp] theorem State.kindleOff_frame (s : State) :
    (s.kindleOff).pending = s.pending ∧ (s.kindleOff).free = s.free ∧ (s.kindleOff).sys = s.sys ∧
    (s.kindleOff).island = s.island ∧ (s.kindleOff).cmd = s.cmd ∧ (s.kindleOff).hdl = s.hdl ∧ (s.kindleOff).wdg = s.wdg ∧
    (s.kindleOff).flue = s.flue ∧ (s.kindleOff).part = s.part ∧ (s.kindleOff).net = s.net ∧ (s.kindleOff).cores = s.cores ∧
    (s.kindleOff).sampled = s.sampled ∧ (s.kindleOff).wks = s.wks ∧ (s.kindleOff).sent = s.sent ∧
    (s.kindleOff).debugger = s.debugger :=
  by simp -implicitDefEqProofs [State.kindleOff]

@[simp] theorem State.settle_frame (s : State) :
    (s.settle).pending = s.pending ∧ (s.settle).free = s.free ∧ (s.settle).island = s.island ∧ (s.settle).cmd = s.cmd ∧
    (s.settle).hdl = s.hdl ∧ (s.settle).flue = s.flue ∧ (s.settle).part = s.part ∧ (s.settle).net = s.net ∧
    (s.settle).sampled = s.sampled ∧ (s.settle).wks = s.wks ∧ (s.settle).sent = s.sent ∧ (s.settle).debugger = s.debugger :=
  by simp -implicitDefEqProofs [State.settle]

@[simp] theorem State.wkSend_frame (s : State) (w dir kind : Nat) (body : List Byte) :
    (s.wkSend w dir kind body).pending = s.pending ∧ (s.wkSend w dir kind body).free = s.free ∧
    (s.wkSend w dir kind body).sys = s.sys ∧ (s.wkSend w dir kind body).island = s.island ∧
    (s.wkSend w dir kind body).nvm = s.nvm ∧ (s.wkSend w dir kind body).params = s.params ∧
    (s.wkSend w dir kind body).cmd = s.cmd ∧ (s.wkSend w dir kind body).hdl = s.hdl ∧ (s.wkSend w dir kind body).evt = s.evt ∧
    (s.wkSend w dir kind body).wdg = s.wdg ∧ (s.wkSend w dir kind body).out = s.out ∧
    (s.wkSend w dir kind body).flue = s.flue ∧ (s.wkSend w dir kind body).insts = s.insts ∧
    (s.wkSend w dir kind body).part = s.part ∧ (s.wkSend w dir kind body).net = s.net ∧
    (s.wkSend w dir kind body).cores = s.cores ∧ (s.wkSend w dir kind body).sampled = s.sampled ∧
    (s.wkSend w dir kind body).debugger = s.debugger :=
  by simp -implicitDefEqProofs [State.wkSend]

@[simp] theorem State.wkAlarm_frame (s : State) (w : Nat) (b : Breach) :
    (s.wkAlarm w b).pending = s.pending ∧ (s.wkAlarm w b).free = s.free ∧ (s.wkAlarm w b).sys = s.sys ∧
    (s.wkAlarm w b).island = s.island ∧ (s.wkAlarm w b).nvm = s.nvm ∧ (s.wkAlarm w b).params = s.params ∧
    (s.wkAlarm w b).cmd = s.cmd ∧ (s.wkAlarm w b).hdl = s.hdl ∧ (s.wkAlarm w b).evt = s.evt ∧ (s.wkAlarm w b).wdg = s.wdg ∧
    (s.wkAlarm w b).out = s.out ∧ (s.wkAlarm w b).flue = s.flue ∧ (s.wkAlarm w b).insts = s.insts ∧
    (s.wkAlarm w b).part = s.part ∧ (s.wkAlarm w b).net = s.net ∧ (s.wkAlarm w b).cores = s.cores ∧
    (s.wkAlarm w b).sampled = s.sampled ∧ (s.wkAlarm w b).debugger = s.debugger :=
  by simp -implicitDefEqProofs [State.wkAlarm]

@[simp] theorem State.wkResult_frame (s : State) (w : Nat) (r : ResultRec) :
    (s.wkResult w r).pending = s.pending ∧ (s.wkResult w r).free = s.free ∧ (s.wkResult w r).sys = s.sys ∧
    (s.wkResult w r).island = s.island ∧ (s.wkResult w r).nvm = s.nvm ∧ (s.wkResult w r).params = s.params ∧
    (s.wkResult w r).cmd = s.cmd ∧ (s.wkResult w r).hdl = s.hdl ∧ (s.wkResult w r).evt = s.evt ∧ (s.wkResult w r).wdg = s.wdg ∧
    (s.wkResult w r).out = s.out ∧ (s.wkResult w r).flue = s.flue ∧ (s.wkResult w r).insts = s.insts ∧
    (s.wkResult w r).part = s.part ∧ (s.wkResult w r).net = s.net ∧ (s.wkResult w r).cores = s.cores ∧
    (s.wkResult w r).sampled = s.sampled ∧ (s.wkResult w r).debugger = s.debugger :=
  by simp -implicitDefEqProofs [State.wkResult]

@[simp] theorem State.wkStream_frame (s : State) (w n : Nat) (conv : List (List Int)) :
    (s.wkStream w n conv).pending = s.pending ∧ (s.wkStream w n conv).free = s.free ∧ (s.wkStream w n conv).sys = s.sys ∧
    (s.wkStream w n conv).island = s.island ∧ (s.wkStream w n conv).nvm = s.nvm ∧ (s.wkStream w n conv).params = s.params ∧
    (s.wkStream w n conv).cmd = s.cmd ∧ (s.wkStream w n conv).hdl = s.hdl ∧ (s.wkStream w n conv).evt = s.evt ∧
    (s.wkStream w n conv).wdg = s.wdg ∧ (s.wkStream w n conv).out = s.out ∧ (s.wkStream w n conv).flue = s.flue ∧
    (s.wkStream w n conv).insts = s.insts ∧ (s.wkStream w n conv).part = s.part ∧ (s.wkStream w n conv).net = s.net ∧
    (s.wkStream w n conv).cores = s.cores ∧ (s.wkStream w n conv).sampled = s.sampled ∧
    (s.wkStream w n conv).debugger = s.debugger :=
  by simp -implicitDefEqProofs [State.wkStream]

@[simp] theorem State.wkSample_frame (s : State) (x : WkSample) :
    (s.wkSample x).pending = s.pending ∧ (s.wkSample x).sys = s.sys ∧ (s.wkSample x).island = s.island ∧
    (s.wkSample x).nvm = s.nvm ∧ (s.wkSample x).params = s.params ∧ (s.wkSample x).cmd = s.cmd ∧ (s.wkSample x).hdl = s.hdl ∧
    (s.wkSample x).evt = s.evt ∧ (s.wkSample x).wdg = s.wdg ∧ (s.wkSample x).out = s.out ∧ (s.wkSample x).flue = s.flue ∧
    (s.wkSample x).insts = s.insts ∧ (s.wkSample x).part = s.part ∧ (s.wkSample x).net = s.net ∧
    (s.wkSample x).cores = s.cores ∧ (s.wkSample x).sampled = s.sampled ∧ (s.wkSample x).debugger = s.debugger :=
  by simp -implicitDefEqProofs [State.wkSample]

@[simp] theorem State.wdgPeriod_frame (s : State) :
    (s.wdgPeriod).pending = s.pending ∧ (s.wdgPeriod).free = s.free ∧ (s.wdgPeriod).sys = s.sys ∧
    (s.wdgPeriod).island = s.island ∧ (s.wdgPeriod).nvm = s.nvm ∧ (s.wdgPeriod).cmd = s.cmd ∧ (s.wdgPeriod).hdl = s.hdl ∧
    (s.wdgPeriod).evt = s.evt ∧ (s.wdgPeriod).out = s.out ∧ (s.wdgPeriod).flue = s.flue ∧ (s.wdgPeriod).insts = s.insts ∧
    (s.wdgPeriod).part = s.part ∧ (s.wdgPeriod).net = s.net ∧ (s.wdgPeriod).cores = s.cores ∧
    (s.wdgPeriod).sampled = s.sampled ∧ (s.wdgPeriod).wks = s.wks ∧ (s.wdgPeriod).sent = s.sent ∧
    (s.wdgPeriod).debugger = s.debugger :=
  by simp -implicitDefEqProofs [State.wdgPeriod]

@[simp] theorem State.wdgStep_frame (s : State) :
    (s.wdgStep).pending = s.pending ∧ (s.wdgStep).free = s.free ∧ (s.wdgStep).sys = s.sys ∧ (s.wdgStep).island = s.island ∧
    (s.wdgStep).nvm = s.nvm ∧ (s.wdgStep).cmd = s.cmd ∧ (s.wdgStep).hdl = s.hdl ∧ (s.wdgStep).evt = s.evt ∧
    (s.wdgStep).wdg = s.wdg ∧ (s.wdgStep).out = s.out ∧ (s.wdgStep).flue = s.flue ∧ (s.wdgStep).insts = s.insts ∧
    (s.wdgStep).part = s.part ∧ (s.wdgStep).net = s.net ∧ (s.wdgStep).cores = s.cores ∧ (s.wdgStep).sampled = s.sampled ∧
    (s.wdgStep).wks = s.wks ∧ (s.wdgStep).sent = s.sent ∧ (s.wdgStep).debugger = s.debugger :=
  by simp -implicitDefEqProofs [State.wdgStep]

@[simp] theorem State.wdgRestep_frame (s : State) :
    (s.wdgRestep).pending = s.pending ∧ (s.wdgRestep).free = s.free ∧ (s.wdgRestep).sys = s.sys ∧
    (s.wdgRestep).island = s.island ∧ (s.wdgRestep).nvm = s.nvm ∧ (s.wdgRestep).hdl = s.hdl ∧ (s.wdgRestep).evt = s.evt ∧
    (s.wdgRestep).wdg = s.wdg ∧ (s.wdgRestep).out = s.out ∧ (s.wdgRestep).flue = s.flue ∧ (s.wdgRestep).insts = s.insts ∧
    (s.wdgRestep).part = s.part ∧ (s.wdgRestep).net = s.net ∧ (s.wdgRestep).cores = s.cores ∧
    (s.wdgRestep).sampled = s.sampled ∧ (s.wdgRestep).wks = s.wks ∧ (s.wdgRestep).sent = s.sent ∧
    (s.wdgRestep).debugger = s.debugger :=
  by simp -implicitDefEqProofs [State.wdgRestep]

@[simp] theorem State.wdgHear_frame (s : State) (ans : Nat) (k : WdgSnap) :
    (s.wdgHear ans k).pending = s.pending ∧ (s.wdgHear ans k).free = s.free ∧ (s.wdgHear ans k).sys = s.sys ∧
    (s.wdgHear ans k).island = s.island ∧ (s.wdgHear ans k).nvm = s.nvm ∧ (s.wdgHear ans k).cmd = s.cmd ∧
    (s.wdgHear ans k).hdl = s.hdl ∧ (s.wdgHear ans k).evt = s.evt ∧ (s.wdgHear ans k).out = s.out ∧
    (s.wdgHear ans k).flue = s.flue ∧ (s.wdgHear ans k).insts = s.insts ∧ (s.wdgHear ans k).part = s.part ∧
    (s.wdgHear ans k).net = s.net ∧ (s.wdgHear ans k).cores = s.cores ∧ (s.wdgHear ans k).sampled = s.sampled ∧
    (s.wdgHear ans k).wks = s.wks ∧ (s.wdgHear ans k).sent = s.sent ∧ (s.wdgHear ans k).debugger = s.debugger :=
  by simp -implicitDefEqProofs [State.wdgHear]

@[simp] theorem State.wdgBank_frame (s : State) :
    (s.wdgBank).pending = s.pending ∧ (s.wdgBank).free = s.free ∧ (s.wdgBank).sys = s.sys ∧ (s.wdgBank).nvm = s.nvm ∧
    (s.wdgBank).cmd = s.cmd ∧ (s.wdgBank).hdl = s.hdl ∧ (s.wdgBank).evt = s.evt ∧ (s.wdgBank).wdg = s.wdg ∧
    (s.wdgBank).out = s.out ∧ (s.wdgBank).flue = s.flue ∧ (s.wdgBank).insts = s.insts ∧ (s.wdgBank).part = s.part ∧
    (s.wdgBank).net = s.net ∧ (s.wdgBank).cores = s.cores ∧ (s.wdgBank).sampled = s.sampled ∧ (s.wdgBank).wks = s.wks ∧
    (s.wdgBank).sent = s.sent ∧ (s.wdgBank).debugger = s.debugger :=
  by simp -implicitDefEqProofs [State.wdgBank]

@[simp] theorem State.sendRaw_frame (s : State) (lane : Nat) (l : List Byte) :
    (s.sendRaw lane l).pending = s.pending ∧ (s.sendRaw lane l).free = s.free ∧ (s.sendRaw lane l).sys = s.sys ∧
    (s.sendRaw lane l).island = s.island ∧ (s.sendRaw lane l).nvm = s.nvm ∧ (s.sendRaw lane l).params = s.params ∧
    (s.sendRaw lane l).cmd = s.cmd ∧ (s.sendRaw lane l).hdl = s.hdl ∧ (s.sendRaw lane l).evt = s.evt ∧
    (s.sendRaw lane l).wdg = s.wdg ∧ (s.sendRaw lane l).out = s.out ∧ (s.sendRaw lane l).flue = s.flue ∧
    (s.sendRaw lane l).insts = s.insts ∧ (s.sendRaw lane l).part = s.part ∧ (s.sendRaw lane l).net = s.net ∧
    (s.sendRaw lane l).cores = s.cores ∧ (s.sendRaw lane l).sampled = s.sampled ∧ (s.sendRaw lane l).wks = s.wks ∧
    (s.sendRaw lane l).debugger = s.debugger :=
  by simp -implicitDefEqProofs [State.sendRaw]

@[simp] theorem State.arpAsk_frame (s : State) (i ip : Nat) :
    (s.arpAsk i ip).pending = s.pending ∧ (s.arpAsk i ip).free = s.free ∧ (s.arpAsk i ip).sys = s.sys ∧
    (s.arpAsk i ip).island = s.island ∧ (s.arpAsk i ip).nvm = s.nvm ∧ (s.arpAsk i ip).params = s.params ∧
    (s.arpAsk i ip).cmd = s.cmd ∧ (s.arpAsk i ip).hdl = s.hdl ∧ (s.arpAsk i ip).evt = s.evt ∧ (s.arpAsk i ip).wdg = s.wdg ∧
    (s.arpAsk i ip).out = s.out ∧ (s.arpAsk i ip).flue = s.flue ∧ (s.arpAsk i ip).insts = s.insts ∧
    (s.arpAsk i ip).part = s.part ∧ (s.arpAsk i ip).net = s.net ∧ (s.arpAsk i ip).cores = s.cores ∧
    (s.arpAsk i ip).sampled = s.sampled ∧ (s.arpAsk i ip).wks = s.wks ∧ (s.arpAsk i ip).debugger = s.debugger :=
  by simp -implicitDefEqProofs [State.arpAsk]

@[simp] theorem State.sentNet_frame (s : State) (l : List NetTx) :
    (s.sentNet l).pending = s.pending ∧ (s.sentNet l).free = s.free ∧ (s.sentNet l).sys = s.sys ∧
    (s.sentNet l).island = s.island ∧ (s.sentNet l).nvm = s.nvm ∧ (s.sentNet l).params = s.params ∧ (s.sentNet l).cmd = s.cmd ∧
    (s.sentNet l).hdl = s.hdl ∧ (s.sentNet l).evt = s.evt ∧ (s.sentNet l).wdg = s.wdg ∧ (s.sentNet l).out = s.out ∧
    (s.sentNet l).flue = s.flue ∧ (s.sentNet l).insts = s.insts ∧ (s.sentNet l).part = s.part ∧ (s.sentNet l).cores = s.cores ∧
    (s.sentNet l).sampled = s.sampled ∧ (s.sentNet l).wks = s.wks ∧ (s.sentNet l).debugger = s.debugger :=
  by simp -implicitDefEqProofs [State.sentNet]

@[simp] theorem State.ethDrain_frame (s : State) :
    (s.ethDrain).pending = s.pending ∧ (s.ethDrain).free = s.free ∧ (s.ethDrain).sys = s.sys ∧ (s.ethDrain).island = s.island ∧
    (s.ethDrain).nvm = s.nvm ∧ (s.ethDrain).params = s.params ∧ (s.ethDrain).hdl = s.hdl ∧ (s.ethDrain).evt = s.evt ∧
    (s.ethDrain).wdg = s.wdg ∧ (s.ethDrain).out = s.out ∧ (s.ethDrain).flue = s.flue ∧ (s.ethDrain).insts = s.insts ∧
    (s.ethDrain).part = s.part ∧ (s.ethDrain).cores = s.cores ∧ (s.ethDrain).sampled = s.sampled ∧ (s.ethDrain).wks = s.wks ∧
    (s.ethDrain).debugger = s.debugger :=
  by simp -implicitDefEqProofs [State.ethDrain]

@[simp] theorem State.canDrain_frame (s : State) :
    (s.canDrain).pending = s.pending ∧ (s.canDrain).free = s.free ∧ (s.canDrain).sys = s.sys ∧ (s.canDrain).island = s.island ∧
    (s.canDrain).nvm = s.nvm ∧ (s.canDrain).params = s.params ∧ (s.canDrain).hdl = s.hdl ∧ (s.canDrain).evt = s.evt ∧
    (s.canDrain).wdg = s.wdg ∧ (s.canDrain).out = s.out ∧ (s.canDrain).flue = s.flue ∧ (s.canDrain).insts = s.insts ∧
    (s.canDrain).part = s.part ∧ (s.canDrain).cores = s.cores ∧ (s.canDrain).sampled = s.sampled ∧ (s.canDrain).wks = s.wks ∧
    (s.canDrain).debugger = s.debugger :=
  by simp -implicitDefEqProofs [State.canDrain]

@[simp] theorem State.netDrain_frame (s : State) :
    (s.netDrain).pending = s.pending ∧ (s.netDrain).free = s.free ∧ (s.netDrain).sys = s.sys ∧ (s.netDrain).island = s.island ∧
    (s.netDrain).nvm = s.nvm ∧ (s.netDrain).params = s.params ∧ (s.netDrain).hdl = s.hdl ∧ (s.netDrain).evt = s.evt ∧
    (s.netDrain).wdg = s.wdg ∧ (s.netDrain).out = s.out ∧ (s.netDrain).flue = s.flue ∧ (s.netDrain).insts = s.insts ∧
    (s.netDrain).part = s.part ∧ (s.netDrain).cores = s.cores ∧ (s.netDrain).sampled = s.sampled ∧ (s.netDrain).wks = s.wks ∧
    (s.netDrain).debugger = s.debugger :=
  by simp -implicitDefEqProofs [State.netDrain]

@[simp] theorem State.dropGap_frame (s : State) (p : Nat) (d : Pkt) :
    (s.dropGap p d).pending = s.pending ∧ (s.dropGap p d).free = s.free ∧ (s.dropGap p d).sys = s.sys ∧
    (s.dropGap p d).island = s.island ∧ (s.dropGap p d).nvm = s.nvm ∧ (s.dropGap p d).params = s.params ∧
    (s.dropGap p d).hdl = s.hdl ∧ (s.dropGap p d).evt = s.evt ∧ (s.dropGap p d).wdg = s.wdg ∧ (s.dropGap p d).out = s.out ∧
    (s.dropGap p d).insts = s.insts ∧ (s.dropGap p d).part = s.part ∧ (s.dropGap p d).net = s.net ∧
    (s.dropGap p d).cores = s.cores ∧ (s.dropGap p d).sampled = s.sampled ∧ (s.dropGap p d).wks = s.wks ∧
    (s.dropGap p d).sent = s.sent ∧ (s.dropGap p d).debugger = s.debugger :=
  by simp -implicitDefEqProofs [State.dropGap]

@[simp] theorem State.enqueueOut_frame (s : State) (p : Nat) (k : Pkt) :
    (s.enqueueOut p k).pending = s.pending ∧ (s.enqueueOut p k).free = s.free ∧ (s.enqueueOut p k).sys = s.sys ∧
    (s.enqueueOut p k).island = s.island ∧ (s.enqueueOut p k).nvm = s.nvm ∧ (s.enqueueOut p k).hdl = s.hdl ∧
    (s.enqueueOut p k).evt = s.evt ∧ (s.enqueueOut p k).wdg = s.wdg ∧ (s.enqueueOut p k).out = s.out ∧
    (s.enqueueOut p k).insts = s.insts ∧ (s.enqueueOut p k).part = s.part ∧ (s.enqueueOut p k).net = s.net ∧
    (s.enqueueOut p k).cores = s.cores ∧ (s.enqueueOut p k).sampled = s.sampled ∧ (s.enqueueOut p k).wks = s.wks ∧
    (s.enqueueOut p k).sent = s.sent ∧ (s.enqueueOut p k).debugger = s.debugger := by
  unfold State.enqueueOut
  dsimp only
  split
  · simp
  · split
    · simp -implicitDefEqProofs
    · cases (s.port p).out.head? <;> simp -implicitDefEqProofs

@[simp] theorem State.pushOut_frame (s : State) (p : Nat) (k : Pkt) :
    (s.pushOut p k).pending = s.pending ∧ (s.pushOut p k).free = s.free ∧ (s.pushOut p k).sys = s.sys ∧
    (s.pushOut p k).island = s.island ∧ (s.pushOut p k).nvm = s.nvm ∧ (s.pushOut p k).hdl = s.hdl ∧
    (s.pushOut p k).evt = s.evt ∧ (s.pushOut p k).wdg = s.wdg ∧ (s.pushOut p k).out = s.out ∧ (s.pushOut p k).insts = s.insts ∧
    (s.pushOut p k).part = s.part ∧ (s.pushOut p k).cores = s.cores ∧ (s.pushOut p k).sampled = s.sampled ∧
    (s.pushOut p k).wks = s.wks ∧ (s.pushOut p k).debugger = s.debugger :=
  by unfold State.pushOut; dsimp only; split_ifs <;> simp

@[simp] theorem State.leave_frame (s : State) (p : Nat) (r : RSlot) (newer : List RSlot) :
    (s.leave p r newer).pending = s.pending ∧ (s.leave p r newer).free = s.free ∧ (s.leave p r newer).sys = s.sys ∧
    (s.leave p r newer).island = s.island ∧ (s.leave p r newer).nvm = s.nvm ∧ (s.leave p r newer).hdl = s.hdl ∧
    (s.leave p r newer).evt = s.evt ∧ (s.leave p r newer).wdg = s.wdg ∧ (s.leave p r newer).out = s.out ∧
    (s.leave p r newer).insts = s.insts ∧ (s.leave p r newer).part = s.part ∧ (s.leave p r newer).cores = s.cores ∧
    (s.leave p r newer).sampled = s.sampled ∧ (s.leave p r newer).wks = s.wks ∧ (s.leave p r newer).debugger = s.debugger :=
  by unfold State.leave; dsimp only; split_ifs <;> simp -implicitDefEqProofs

@[simp] theorem State.flushList_frame (p : Nat) (l : List RSlot) (s : State) :
    (s.flushList p l).pending = s.pending ∧ (s.flushList p l).free = s.free ∧ (s.flushList p l).sys = s.sys ∧
    (s.flushList p l).island = s.island ∧ (s.flushList p l).nvm = s.nvm ∧ (s.flushList p l).hdl = s.hdl ∧
    (s.flushList p l).evt = s.evt ∧ (s.flushList p l).wdg = s.wdg ∧ (s.flushList p l).out = s.out ∧
    (s.flushList p l).insts = s.insts ∧ (s.flushList p l).part = s.part ∧ (s.flushList p l).cores = s.cores ∧
    (s.flushList p l).sampled = s.sampled ∧ (s.flushList p l).wks = s.wks ∧ (s.flushList p l).debugger = s.debugger := by
  induction l generalizing s with
  | nil => simp [State.flushList]
  | cons r l ih => unfold State.flushList; split_ifs <;> simp [ih]

@[simp] theorem State.flush_frame (s : State) (p : Nat) :
    (s.flush p).pending = s.pending ∧ (s.flush p).free = s.free ∧ (s.flush p).sys = s.sys ∧ (s.flush p).island = s.island ∧
    (s.flush p).nvm = s.nvm ∧ (s.flush p).hdl = s.hdl ∧ (s.flush p).evt = s.evt ∧ (s.flush p).wdg = s.wdg ∧
    (s.flush p).out = s.out ∧ (s.flush p).insts = s.insts ∧ (s.flush p).part = s.part ∧ (s.flush p).cores = s.cores ∧
    (s.flush p).sampled = s.sampled ∧ (s.flush p).wks = s.wks ∧ (s.flush p).debugger = s.debugger :=
  by simp [State.flush]

@[simp] theorem State.answer_frame (s : State) (op : Nat) (r : Req) (status : Nat) (payload : List Byte) (wait : Option Await) :
    (s.answer op r status payload wait).pending = s.pending ∧ (s.answer op r status payload wait).free = s.free ∧
    (s.answer op r status payload wait).sys = s.sys ∧ (s.answer op r status payload wait).island = s.island ∧
    (s.answer op r status payload wait).nvm = s.nvm ∧ (s.answer op r status payload wait).hdl = s.hdl ∧
    (s.answer op r status payload wait).evt = s.evt ∧ (s.answer op r status payload wait).wdg = s.wdg ∧
    (s.answer op r status payload wait).out = s.out ∧ (s.answer op r status payload wait).insts = s.insts ∧
    (s.answer op r status payload wait).part = s.part ∧ (s.answer op r status payload wait).cores = s.cores ∧
    (s.answer op r status payload wait).sampled = s.sampled ∧ (s.answer op r status payload wait).wks = s.wks ∧
    (s.answer op r status payload wait).debugger = s.debugger :=
  by unfold State.answer; dsimp only; split_ifs <;> simp

@[simp] theorem State.pgClaim_frame (s : State) (g ns : Nat) :
    (s.pgClaim g ns).pending = s.pending ∧ (s.pgClaim g ns).free = s.free ∧ (s.pgClaim g ns).sys = s.sys ∧
    (s.pgClaim g ns).island = s.island ∧ (s.pgClaim g ns).nvm = s.nvm ∧ (s.pgClaim g ns).cmd = s.cmd ∧
    (s.pgClaim g ns).hdl = s.hdl ∧ (s.pgClaim g ns).evt = s.evt ∧ (s.pgClaim g ns).wdg = s.wdg ∧
    (s.pgClaim g ns).flue = s.flue ∧ (s.pgClaim g ns).insts = s.insts ∧ (s.pgClaim g ns).part = s.part ∧
    (s.pgClaim g ns).net = s.net ∧ (s.pgClaim g ns).cores = s.cores ∧ (s.pgClaim g ns).sampled = s.sampled ∧
    (s.pgClaim g ns).wks = s.wks ∧ (s.pgClaim g ns).sent = s.sent ∧ (s.pgClaim g ns).debugger = s.debugger :=
  by simp -implicitDefEqProofs [State.pgClaim]

@[simp] theorem State.pgFree_frame (s : State) :
    (s.pgFree).pending = s.pending ∧ (s.pgFree).free = s.free ∧ (s.pgFree).sys = s.sys ∧ (s.pgFree).island = s.island ∧
    (s.pgFree).nvm = s.nvm ∧ (s.pgFree).params = s.params ∧ (s.pgFree).cmd = s.cmd ∧ (s.pgFree).hdl = s.hdl ∧
    (s.pgFree).evt = s.evt ∧ (s.pgFree).wdg = s.wdg ∧ (s.pgFree).flue = s.flue ∧ (s.pgFree).insts = s.insts ∧
    (s.pgFree).part = s.part ∧ (s.pgFree).net = s.net ∧ (s.pgFree).cores = s.cores ∧ (s.pgFree).sampled = s.sampled ∧
    (s.pgFree).wks = s.wks ∧ (s.pgFree).sent = s.sent ∧ (s.pgFree).debugger = s.debugger :=
  by simp -implicitDefEqProofs [State.pgFree]

@[simp] theorem State.hsBind_frame (s : State) (n : Nat) (g : Option Nat) :
    (s.hsBind n g).pending = s.pending ∧ (s.hsBind n g).free = s.free ∧ (s.hsBind n g).sys = s.sys ∧
    (s.hsBind n g).island = s.island ∧ (s.hsBind n g).cmd = s.cmd ∧ (s.hsBind n g).hdl = s.hdl ∧ (s.hsBind n g).wdg = s.wdg ∧
    (s.hsBind n g).flue = s.flue ∧ (s.hsBind n g).part = s.part ∧ (s.hsBind n g).net = s.net ∧ (s.hsBind n g).cores = s.cores ∧
    (s.hsBind n g).sampled = s.sampled ∧ (s.hsBind n g).wks = s.wks ∧ (s.hsBind n g).sent = s.sent ∧
    (s.hsBind n g).debugger = s.debugger :=
  by unfold State.hsBind; dsimp only; (repeat' split) <;> simp -implicitDefEqProofs

@[simp] theorem State.hbBind_frame (s : State) (b : Nat) (g : Option Nat) :
    (s.hbBind b g).pending = s.pending ∧ (s.hbBind b g).free = s.free ∧ (s.hbBind b g).sys = s.sys ∧
    (s.hbBind b g).island = s.island ∧ (s.hbBind b g).nvm = s.nvm ∧ (s.hbBind b g).params = s.params ∧
    (s.hbBind b g).cmd = s.cmd ∧ (s.hbBind b g).hdl = s.hdl ∧ (s.hbBind b g).evt = s.evt ∧ (s.hbBind b g).wdg = s.wdg ∧
    (s.hbBind b g).flue = s.flue ∧ (s.hbBind b g).insts = s.insts ∧ (s.hbBind b g).part = s.part ∧ (s.hbBind b g).net = s.net ∧
    (s.hbBind b g).cores = s.cores ∧ (s.hbBind b g).sampled = s.sampled ∧ (s.hbBind b g).wks = s.wks ∧
    (s.hbBind b g).sent = s.sent ∧ (s.hbBind b g).debugger = s.debugger :=
  by simp -implicitDefEqProofs [State.hbBind]

@[simp] theorem State.conflict_frame (s : State) (status : Nat) :
    (s.conflict status).pending = s.pending ∧ (s.conflict status).free = s.free ∧ (s.conflict status).sys = s.sys ∧
    (s.conflict status).island = s.island ∧ (s.conflict status).nvm = s.nvm ∧ (s.conflict status).cmd = s.cmd ∧
    (s.conflict status).hdl = s.hdl ∧ (s.conflict status).evt = s.evt ∧ (s.conflict status).wdg = s.wdg ∧
    (s.conflict status).out = s.out ∧ (s.conflict status).flue = s.flue ∧ (s.conflict status).insts = s.insts ∧
    (s.conflict status).part = s.part ∧ (s.conflict status).net = s.net ∧ (s.conflict status).cores = s.cores ∧
    (s.conflict status).sampled = s.sampled ∧ (s.conflict status).wks = s.wks ∧ (s.conflict status).sent = s.sent ∧
    (s.conflict status).debugger = s.debugger :=
  by unfold State.conflict; (repeat' split) <;> simp -implicitDefEqProofs

@[simp] theorem State.openEffect_frame (s : State) (i c res : Nat) (wr : Bool) (g : Option Nat) (d : List Byte) :
    (s.openEffect i c res wr g d).pending = s.pending ∧ (s.openEffect i c res wr g d).free = s.free ∧
    (s.openEffect i c res wr g d).sys = s.sys ∧ (s.openEffect i c res wr g d).island = s.island ∧
    (s.openEffect i c res wr g d).cmd = s.cmd ∧ (s.openEffect i c res wr g d).hdl = s.hdl ∧
    (s.openEffect i c res wr g d).wdg = s.wdg ∧ (s.openEffect i c res wr g d).part = s.part ∧
    (s.openEffect i c res wr g d).net = s.net ∧ (s.openEffect i c res wr g d).cores = s.cores ∧
    (s.openEffect i c res wr g d).sampled = s.sampled ∧ (s.openEffect i c res wr g d).wks = s.wks ∧
    (s.openEffect i c res wr g d).sent = s.sent ∧ (s.openEffect i c res wr g d).debugger = s.debugger :=
  by unfold State.openEffect; dsimp only; (repeat' split) <;> simp -implicitDefEqProofs

@[simp] theorem State.closeSlot_frame (s : State) (i : Nat) :
    (s.closeSlot i).pending = s.pending ∧ (s.closeSlot i).free = s.free ∧ (s.closeSlot i).sys = s.sys ∧
    (s.closeSlot i).island = s.island ∧ (s.closeSlot i).nvm = s.nvm ∧ (s.closeSlot i).params = s.params ∧
    (s.closeSlot i).cmd = s.cmd ∧ (s.closeSlot i).evt = s.evt ∧ (s.closeSlot i).wdg = s.wdg ∧ (s.closeSlot i).out = s.out ∧
    (s.closeSlot i).flue = s.flue ∧ (s.closeSlot i).insts = s.insts ∧ (s.closeSlot i).part = s.part ∧
    (s.closeSlot i).net = s.net ∧ (s.closeSlot i).cores = s.cores ∧ (s.closeSlot i).sampled = s.sampled ∧
    (s.closeSlot i).wks = s.wks ∧ (s.closeSlot i).sent = s.sent ∧ (s.closeSlot i).debugger = s.debugger :=
  by simp -implicitDefEqProofs [State.closeSlot]

@[simp] theorem State.updImp_frame (s : State) (slot : Nat) (f : ImpMgr → ImpMgr) :
    (s.updImp slot f).pending = s.pending ∧ (s.updImp slot f).free = s.free ∧ (s.updImp slot f).sys = s.sys ∧
    (s.updImp slot f).island = s.island ∧ (s.updImp slot f).nvm = s.nvm ∧ (s.updImp slot f).params = s.params ∧
    (s.updImp slot f).cmd = s.cmd ∧ (s.updImp slot f).hdl = s.hdl ∧ (s.updImp slot f).evt = s.evt ∧
    (s.updImp slot f).wdg = s.wdg ∧ (s.updImp slot f).out = s.out ∧ (s.updImp slot f).insts = s.insts ∧
    (s.updImp slot f).part = s.part ∧ (s.updImp slot f).net = s.net ∧ (s.updImp slot f).cores = s.cores ∧
    (s.updImp slot f).sampled = s.sampled ∧ (s.updImp slot f).wks = s.wks ∧ (s.updImp slot f).sent = s.sent ∧
    (s.updImp slot f).debugger = s.debugger :=
  by unfold State.updImp; (repeat' split) <;> simp -implicitDefEqProofs

@[simp] theorem State.updFlr_frame (s : State) (slot : Nat) (f : FlrMgr → FlrMgr) :
    (s.updFlr slot f).pending = s.pending ∧ (s.updFlr slot f).free = s.free ∧ (s.updFlr slot f).sys = s.sys ∧
    (s.updFlr slot f).island = s.island ∧ (s.updFlr slot f).nvm = s.nvm ∧ (s.updFlr slot f).params = s.params ∧
    (s.updFlr slot f).cmd = s.cmd ∧ (s.updFlr slot f).hdl = s.hdl ∧ (s.updFlr slot f).evt = s.evt ∧
    (s.updFlr slot f).wdg = s.wdg ∧ (s.updFlr slot f).out = s.out ∧ (s.updFlr slot f).insts = s.insts ∧
    (s.updFlr slot f).part = s.part ∧ (s.updFlr slot f).net = s.net ∧ (s.updFlr slot f).cores = s.cores ∧
    (s.updFlr slot f).sampled = s.sampled ∧ (s.updFlr slot f).wks = s.wks ∧ (s.updFlr slot f).sent = s.sent ∧
    (s.updFlr slot f).debugger = s.debugger :=
  by unfold State.updFlr; (repeat' split) <;> simp -implicitDefEqProofs

@[simp] theorem State.impFinish_frame (s : State) (slot st : Nat) :
    (s.impFinish slot st).pending = s.pending ∧ (s.impFinish slot st).free = s.free ∧ (s.impFinish slot st).island = s.island ∧
    (s.impFinish slot st).nvm = s.nvm ∧ (s.impFinish slot st).cmd = s.cmd ∧ (s.impFinish slot st).hdl = s.hdl ∧
    (s.impFinish slot st).wdg = s.wdg ∧ (s.impFinish slot st).out = s.out ∧ (s.impFinish slot st).part = s.part ∧
    (s.impFinish slot st).net = s.net ∧ (s.impFinish slot st).cores = s.cores ∧ (s.impFinish slot st).sampled = s.sampled ∧
    (s.impFinish slot st).wks = s.wks ∧ (s.impFinish slot st).sent = s.sent ∧ (s.impFinish slot st).debugger = s.debugger :=
  by unfold State.impFinish; dsimp only; (repeat' split) <;> simp -implicitDefEqProofs

@[simp] theorem State.captureDrop_frame (s : State) (k cls : Nat) :
    (s.captureDrop k cls).pending = s.pending ∧ (s.captureDrop k cls).free = s.free ∧ (s.captureDrop k cls).island = s.island ∧
    (s.captureDrop k cls).nvm = s.nvm ∧ (s.captureDrop k cls).cmd = s.cmd ∧ (s.captureDrop k cls).hdl = s.hdl ∧
    (s.captureDrop k cls).wdg = s.wdg ∧ (s.captureDrop k cls).out = s.out ∧ (s.captureDrop k cls).part = s.part ∧
    (s.captureDrop k cls).net = s.net ∧ (s.captureDrop k cls).cores = s.cores ∧ (s.captureDrop k cls).sampled = s.sampled ∧
    (s.captureDrop k cls).wks = s.wks ∧ (s.captureDrop k cls).sent = s.sent ∧ (s.captureDrop k cls).debugger = s.debugger :=
  by unfold State.captureDrop; (repeat' split) <;> simp -implicitDefEqProofs

@[simp] theorem State.captureLeave_frame (s : State) (i cls : Nat) :
    (s.captureLeave i cls).pending = s.pending ∧ (s.captureLeave i cls).free = s.free ∧
    (s.captureLeave i cls).island = s.island ∧ (s.captureLeave i cls).nvm = s.nvm ∧ (s.captureLeave i cls).cmd = s.cmd ∧
    (s.captureLeave i cls).hdl = s.hdl ∧ (s.captureLeave i cls).wdg = s.wdg ∧ (s.captureLeave i cls).out = s.out ∧
    (s.captureLeave i cls).part = s.part ∧ (s.captureLeave i cls).net = s.net ∧ (s.captureLeave i cls).cores = s.cores ∧
    (s.captureLeave i cls).sampled = s.sampled ∧ (s.captureLeave i cls).wks = s.wks ∧ (s.captureLeave i cls).sent = s.sent ∧
    (s.captureLeave i cls).debugger = s.debugger :=
  by unfold State.captureLeave; (repeat' split) <;> simp -implicitDefEqProofs

@[simp] theorem State.contactorsDrop_frame (s : State) :
    (s.contactorsDrop).pending = s.pending ∧ (s.contactorsDrop).free = s.free ∧ (s.contactorsDrop).sys = s.sys ∧
    (s.contactorsDrop).island = s.island ∧ (s.contactorsDrop).params = s.params ∧ (s.contactorsDrop).cmd = s.cmd ∧
    (s.contactorsDrop).hdl = s.hdl ∧ (s.contactorsDrop).evt = s.evt ∧ (s.contactorsDrop).wdg = s.wdg ∧
    (s.contactorsDrop).flue = s.flue ∧ (s.contactorsDrop).part = s.part ∧ (s.contactorsDrop).net = s.net ∧
    (s.contactorsDrop).cores = s.cores ∧ (s.contactorsDrop).sampled = s.sampled ∧ (s.contactorsDrop).wks = s.wks ∧
    (s.contactorsDrop).sent = s.sent ∧ (s.contactorsDrop).debugger = s.debugger :=
  by simp -implicitDefEqProofs [State.contactorsDrop]

@[simp] theorem State.rawsKept_frame (s : State) :
    (s.rawsKept).pending = s.pending ∧ (s.rawsKept).free = s.free ∧ (s.rawsKept).sys = s.sys ∧ (s.rawsKept).nvm = s.nvm ∧
    (s.rawsKept).params = s.params ∧ (s.rawsKept).cmd = s.cmd ∧ (s.rawsKept).hdl = s.hdl ∧ (s.rawsKept).evt = s.evt ∧
    (s.rawsKept).wdg = s.wdg ∧ (s.rawsKept).out = s.out ∧ (s.rawsKept).flue = s.flue ∧ (s.rawsKept).insts = s.insts ∧
    (s.rawsKept).part = s.part ∧ (s.rawsKept).net = s.net ∧ (s.rawsKept).cores = s.cores ∧ (s.rawsKept).sampled = s.sampled ∧
    (s.rawsKept).wks = s.wks ∧ (s.rawsKept).sent = s.sent ∧ (s.rawsKept).debugger = s.debugger :=
  by simp -implicitDefEqProofs [State.rawsKept]

@[simp] theorem State.idle_frame (s : State) (dt : Nat) :
    (s.idle dt).pending = s.pending ∧ (s.idle dt).free = s.free ∧ (s.idle dt).sys = s.sys ∧ (s.idle dt).nvm = s.nvm ∧
    (s.idle dt).params = s.params ∧ (s.idle dt).cmd = s.cmd ∧ (s.idle dt).hdl = s.hdl ∧ (s.idle dt).evt = s.evt ∧
    (s.idle dt).wdg = s.wdg ∧ (s.idle dt).out = s.out ∧ (s.idle dt).flue = s.flue ∧ (s.idle dt).insts = s.insts ∧
    (s.idle dt).part = s.part ∧ (s.idle dt).net = s.net ∧ (s.idle dt).cores = s.cores ∧ (s.idle dt).sampled = s.sampled ∧
    (s.idle dt).wks = s.wks ∧ (s.idle dt).sent = s.sent ∧ (s.idle dt).debugger = s.debugger :=
  by simp -implicitDefEqProofs [State.idle]

@[simp] theorem State.rtcUs_frame (s : State) (us : Nat) :
    (s.rtcUs us).pending = s.pending ∧ (s.rtcUs us).free = s.free ∧ (s.rtcUs us).sys = s.sys ∧ (s.rtcUs us).nvm = s.nvm ∧
    (s.rtcUs us).params = s.params ∧ (s.rtcUs us).cmd = s.cmd ∧ (s.rtcUs us).hdl = s.hdl ∧ (s.rtcUs us).evt = s.evt ∧
    (s.rtcUs us).wdg = s.wdg ∧ (s.rtcUs us).out = s.out ∧ (s.rtcUs us).flue = s.flue ∧ (s.rtcUs us).insts = s.insts ∧
    (s.rtcUs us).part = s.part ∧ (s.rtcUs us).net = s.net ∧ (s.rtcUs us).cores = s.cores ∧ (s.rtcUs us).sampled = s.sampled ∧
    (s.rtcUs us).wks = s.wks ∧ (s.rtcUs us).sent = s.sent ∧ (s.rtcUs us).debugger = s.debugger :=
  by simp -implicitDefEqProofs [State.rtcUs]

@[simp] theorem State.lapse_frame (s : State) (us : Nat) :
    (s.lapse us).pending = s.pending ∧ (s.lapse us).free = s.free ∧ (s.lapse us).sys = s.sys ∧ (s.lapse us).nvm = s.nvm ∧
    (s.lapse us).params = s.params ∧ (s.lapse us).cmd = s.cmd ∧ (s.lapse us).hdl = s.hdl ∧ (s.lapse us).evt = s.evt ∧
    (s.lapse us).wdg = s.wdg ∧ (s.lapse us).out = s.out ∧ (s.lapse us).flue = s.flue ∧ (s.lapse us).insts = s.insts ∧
    (s.lapse us).part = s.part ∧ (s.lapse us).net = s.net ∧ (s.lapse us).cores = s.cores ∧ (s.lapse us).sampled = s.sampled ∧
    (s.lapse us).wks = s.wks ∧ (s.lapse us).sent = s.sent ∧ (s.lapse us).debugger = s.debugger :=
  by simp -implicitDefEqProofs [State.lapse]

@[simp] theorem State.seqStart_frame (s : State) :
    (s.seqStart).pending = s.pending ∧ (s.seqStart).free = s.free ∧ (s.seqStart).island = s.island ∧ (s.seqStart).nvm = s.nvm ∧
    (s.seqStart).params = s.params ∧ (s.seqStart).cmd = s.cmd ∧ (s.seqStart).hdl = s.hdl ∧ (s.seqStart).evt = s.evt ∧
    (s.seqStart).wdg = s.wdg ∧ (s.seqStart).out = s.out ∧ (s.seqStart).flue = s.flue ∧ (s.seqStart).insts = s.insts ∧
    (s.seqStart).part = s.part ∧ (s.seqStart).net = s.net ∧ (s.seqStart).cores = s.cores ∧ (s.seqStart).sampled = s.sampled ∧
    (s.seqStart).wks = s.wks ∧ (s.seqStart).sent = s.sent ∧ (s.seqStart).debugger = s.debugger :=
  by simp -implicitDefEqProofs [State.seqStart]

@[simp] theorem State.wakeArm_frame (s : State) (levels forced raws : Nat → Bool) :
    (s.wakeArm levels forced raws).pending = s.pending ∧ (s.wakeArm levels forced raws).free = s.free ∧
    (s.wakeArm levels forced raws).sys = s.sys ∧ (s.wakeArm levels forced raws).nvm = s.nvm ∧
    (s.wakeArm levels forced raws).cmd = s.cmd ∧ (s.wakeArm levels forced raws).hdl = s.hdl ∧
    (s.wakeArm levels forced raws).evt = s.evt ∧ (s.wakeArm levels forced raws).wdg = s.wdg ∧
    (s.wakeArm levels forced raws).out = s.out ∧ (s.wakeArm levels forced raws).flue = s.flue ∧
    (s.wakeArm levels forced raws).insts = s.insts ∧ (s.wakeArm levels forced raws).part = s.part ∧
    (s.wakeArm levels forced raws).net = s.net ∧ (s.wakeArm levels forced raws).cores = s.cores ∧
    (s.wakeArm levels forced raws).sampled = s.sampled ∧ (s.wakeArm levels forced raws).wks = s.wks ∧
    (s.wakeArm levels forced raws).sent = s.sent ∧ (s.wakeArm levels forced raws).debugger = s.debugger :=
  by simp -implicitDefEqProofs [State.wakeArm]

@[simp] theorem State.count_frame (s : State) :
    (s.count).pending = s.pending ∧ (s.count).free = s.free ∧ (s.count).sys = s.sys ∧ (s.count).nvm = s.nvm ∧
    (s.count).params = s.params ∧ (s.count).cmd = s.cmd ∧ (s.count).hdl = s.hdl ∧ (s.count).evt = s.evt ∧
    (s.count).wdg = s.wdg ∧ (s.count).out = s.out ∧ (s.count).flue = s.flue ∧ (s.count).insts = s.insts ∧
    (s.count).part = s.part ∧ (s.count).net = s.net ∧ (s.count).cores = s.cores ∧ (s.count).sampled = s.sampled ∧
    (s.count).wks = s.wks ∧ (s.count).sent = s.sent ∧ (s.count).debugger = s.debugger :=
  by simp -implicitDefEqProofs [State.count]

@[simp] theorem State.fusesRead_frame (s : State) :
    (s.fusesRead).pending = s.pending ∧ (s.fusesRead).free = s.free ∧ (s.fusesRead).island = s.island ∧
    (s.fusesRead).nvm = s.nvm ∧ (s.fusesRead).cmd = s.cmd ∧ (s.fusesRead).hdl = s.hdl ∧ (s.fusesRead).evt = s.evt ∧
    (s.fusesRead).wdg = s.wdg ∧ (s.fusesRead).out = s.out ∧ (s.fusesRead).flue = s.flue ∧ (s.fusesRead).insts = s.insts ∧
    (s.fusesRead).part = s.part ∧ (s.fusesRead).net = s.net ∧ (s.fusesRead).cores = s.cores ∧
    (s.fusesRead).sampled = s.sampled ∧ (s.fusesRead).wks = s.wks ∧ (s.fusesRead).sent = s.sent ∧
    (s.fusesRead).debugger = s.debugger :=
  by simp -implicitDefEqProofs [State.fusesRead]

@[simp] theorem State.tickCount_frame (s : State) :
    (s.tickCount).pending = s.pending ∧ (s.tickCount).free = s.free ∧ (s.tickCount).sys = s.sys ∧ (s.tickCount).nvm = s.nvm ∧
    (s.tickCount).params = s.params ∧ (s.tickCount).cmd = s.cmd ∧ (s.tickCount).hdl = s.hdl ∧ (s.tickCount).evt = s.evt ∧
    (s.tickCount).wdg = s.wdg ∧ (s.tickCount).out = s.out ∧ (s.tickCount).flue = s.flue ∧ (s.tickCount).insts = s.insts ∧
    (s.tickCount).net = s.net ∧ (s.tickCount).cores = s.cores ∧ (s.tickCount).sampled = s.sampled ∧ (s.tickCount).wks = s.wks ∧
    (s.tickCount).sent = s.sent ∧ (s.tickCount).debugger = s.debugger :=
  by unfold State.tickCount; (repeat' split) <;> simp -implicitDefEqProofs

@[simp] theorem State.sendBeat_frame (s : State) :
    (s.sendBeat).pending = s.pending ∧ (s.sendBeat).free = s.free ∧ (s.sendBeat).sys = s.sys ∧ (s.sendBeat).island = s.island ∧
    (s.sendBeat).nvm = s.nvm ∧ (s.sendBeat).cmd = s.cmd ∧ (s.sendBeat).hdl = s.hdl ∧ (s.sendBeat).evt = s.evt ∧
    (s.sendBeat).wdg = s.wdg ∧ (s.sendBeat).out = s.out ∧ (s.sendBeat).flue = s.flue ∧ (s.sendBeat).insts = s.insts ∧
    (s.sendBeat).net = s.net ∧ (s.sendBeat).cores = s.cores ∧ (s.sendBeat).sampled = s.sampled ∧ (s.sendBeat).wks = s.wks ∧
    (s.sendBeat).debugger = s.debugger :=
  by simp -implicitDefEqProofs [State.sendBeat]

@[simp] theorem State.mirrorCut_frame (s : State) (live : List Nat) (cut : Option Nat) :
    (s.mirrorCut live cut).pending = s.pending ∧ (s.mirrorCut live cut).free = s.free ∧ (s.mirrorCut live cut).sys = s.sys ∧
    (s.mirrorCut live cut).island = s.island ∧ (s.mirrorCut live cut).params = s.params ∧ (s.mirrorCut live cut).cmd = s.cmd ∧
    (s.mirrorCut live cut).hdl = s.hdl ∧ (s.mirrorCut live cut).evt = s.evt ∧ (s.mirrorCut live cut).wdg = s.wdg ∧
    (s.mirrorCut live cut).out = s.out ∧ (s.mirrorCut live cut).flue = s.flue ∧ (s.mirrorCut live cut).part = s.part ∧
    (s.mirrorCut live cut).net = s.net ∧ (s.mirrorCut live cut).cores = s.cores ∧ (s.mirrorCut live cut).sampled = s.sampled ∧
    (s.mirrorCut live cut).wks = s.wks ∧ (s.mirrorCut live cut).sent = s.sent ∧ (s.mirrorCut live cut).debugger = s.debugger :=
  by unfold State.mirrorCut; dsimp only; (repeat' split) <;> simp -implicitDefEqProofs

@[simp] theorem State.partSend_frame (s : State) (typ : Nat) (body : List Byte) :
    (s.partSend typ body).pending = s.pending ∧ (s.partSend typ body).free = s.free ∧ (s.partSend typ body).sys = s.sys ∧
    (s.partSend typ body).island = s.island ∧ (s.partSend typ body).nvm = s.nvm ∧ (s.partSend typ body).params = s.params ∧
    (s.partSend typ body).cmd = s.cmd ∧ (s.partSend typ body).hdl = s.hdl ∧ (s.partSend typ body).evt = s.evt ∧
    (s.partSend typ body).wdg = s.wdg ∧ (s.partSend typ body).out = s.out ∧ (s.partSend typ body).flue = s.flue ∧
    (s.partSend typ body).insts = s.insts ∧ (s.partSend typ body).net = s.net ∧ (s.partSend typ body).cores = s.cores ∧
    (s.partSend typ body).sampled = s.sampled ∧ (s.partSend typ body).wks = s.wks ∧ (s.partSend typ body).debugger = s.debugger :=
  by simp -implicitDefEqProofs [State.partSend]

@[simp] theorem State.sendResync_frame (s : State) :
    (s.sendResync).pending = s.pending ∧ (s.sendResync).free = s.free ∧ (s.sendResync).sys = s.sys ∧
    (s.sendResync).island = s.island ∧ (s.sendResync).nvm = s.nvm ∧ (s.sendResync).params = s.params ∧
    (s.sendResync).cmd = s.cmd ∧ (s.sendResync).hdl = s.hdl ∧ (s.sendResync).evt = s.evt ∧ (s.sendResync).wdg = s.wdg ∧
    (s.sendResync).out = s.out ∧ (s.sendResync).flue = s.flue ∧ (s.sendResync).insts = s.insts ∧ (s.sendResync).net = s.net ∧
    (s.sendResync).cores = s.cores ∧ (s.sendResync).sampled = s.sampled ∧ (s.sendResync).wks = s.wks ∧
    (s.sendResync).debugger = s.debugger :=
  by simp -implicitDefEqProofs [State.sendResync]

@[simp] theorem State.spanStart_frame (s : State) (n tflags : Nat) :
    (s.spanStart n tflags).pending = s.pending ∧ (s.spanStart n tflags).free = s.free ∧ (s.spanStart n tflags).sys = s.sys ∧
    (s.spanStart n tflags).island = s.island ∧ (s.spanStart n tflags).nvm = s.nvm ∧ (s.spanStart n tflags).params = s.params ∧
    (s.spanStart n tflags).cmd = s.cmd ∧ (s.spanStart n tflags).hdl = s.hdl ∧ (s.spanStart n tflags).evt = s.evt ∧
    (s.spanStart n tflags).wdg = s.wdg ∧ (s.spanStart n tflags).out = s.out ∧ (s.spanStart n tflags).flue = s.flue ∧
    (s.spanStart n tflags).part = s.part ∧ (s.spanStart n tflags).net = s.net ∧ (s.spanStart n tflags).cores = s.cores ∧
    (s.spanStart n tflags).sampled = s.sampled ∧ (s.spanStart n tflags).wks = s.wks ∧ (s.spanStart n tflags).sent = s.sent ∧
    (s.spanStart n tflags).debugger = s.debugger :=
  by simp -implicitDefEqProofs [State.spanStart]

@[simp] theorem State.spanNext_frame (s : State) (n : Nat) :
    (s.spanNext n).pending = s.pending ∧ (s.spanNext n).free = s.free ∧ (s.spanNext n).sys = s.sys ∧
    (s.spanNext n).island = s.island ∧ (s.spanNext n).nvm = s.nvm ∧ (s.spanNext n).params = s.params ∧
    (s.spanNext n).cmd = s.cmd ∧ (s.spanNext n).hdl = s.hdl ∧ (s.spanNext n).evt = s.evt ∧ (s.spanNext n).wdg = s.wdg ∧
    (s.spanNext n).out = s.out ∧ (s.spanNext n).flue = s.flue ∧ (s.spanNext n).part = s.part ∧ (s.spanNext n).net = s.net ∧
    (s.spanNext n).cores = s.cores ∧ (s.spanNext n).sampled = s.sampled ∧ (s.spanNext n).wks = s.wks ∧
    (s.spanNext n).sent = s.sent ∧ (s.spanNext n).debugger = s.debugger :=
  by simp -implicitDefEqProofs [State.spanNext]

@[simp] theorem State.spanCut_frame (s : State) (n kind rtcEnd : Nat) (cmd : Bool) :
    (s.spanCut n kind rtcEnd cmd).pending = s.pending ∧ (s.spanCut n kind rtcEnd cmd).free = s.free ∧
    (s.spanCut n kind rtcEnd cmd).sys = s.sys ∧ (s.spanCut n kind rtcEnd cmd).island = s.island ∧
    (s.spanCut n kind rtcEnd cmd).nvm = s.nvm ∧ (s.spanCut n kind rtcEnd cmd).cmd = s.cmd ∧
    (s.spanCut n kind rtcEnd cmd).hdl = s.hdl ∧ (s.spanCut n kind rtcEnd cmd).evt = s.evt ∧
    (s.spanCut n kind rtcEnd cmd).wdg = s.wdg ∧ (s.spanCut n kind rtcEnd cmd).out = s.out ∧
    (s.spanCut n kind rtcEnd cmd).flue = s.flue ∧ (s.spanCut n kind rtcEnd cmd).part = s.part ∧
    (s.spanCut n kind rtcEnd cmd).net = s.net ∧ (s.spanCut n kind rtcEnd cmd).cores = s.cores ∧
    (s.spanCut n kind rtcEnd cmd).sampled = s.sampled ∧ (s.spanCut n kind rtcEnd cmd).wks = s.wks ∧
    (s.spanCut n kind rtcEnd cmd).sent = s.sent ∧ (s.spanCut n kind rtcEnd cmd).debugger = s.debugger :=
  by simp -implicitDefEqProofs [State.spanCut]

@[simp] theorem State.spanEnd_frame (s : State) (n kind rtcEnd : Nat) (cmd : Bool) :
    (s.spanEnd n kind rtcEnd cmd).pending = s.pending ∧ (s.spanEnd n kind rtcEnd cmd).free = s.free ∧
    (s.spanEnd n kind rtcEnd cmd).sys = s.sys ∧ (s.spanEnd n kind rtcEnd cmd).island = s.island ∧
    (s.spanEnd n kind rtcEnd cmd).nvm = s.nvm ∧ (s.spanEnd n kind rtcEnd cmd).cmd = s.cmd ∧
    (s.spanEnd n kind rtcEnd cmd).hdl = s.hdl ∧ (s.spanEnd n kind rtcEnd cmd).evt = s.evt ∧
    (s.spanEnd n kind rtcEnd cmd).wdg = s.wdg ∧ (s.spanEnd n kind rtcEnd cmd).out = s.out ∧
    (s.spanEnd n kind rtcEnd cmd).flue = s.flue ∧ (s.spanEnd n kind rtcEnd cmd).part = s.part ∧
    (s.spanEnd n kind rtcEnd cmd).net = s.net ∧ (s.spanEnd n kind rtcEnd cmd).cores = s.cores ∧
    (s.spanEnd n kind rtcEnd cmd).sampled = s.sampled ∧ (s.spanEnd n kind rtcEnd cmd).wks = s.wks ∧
    (s.spanEnd n kind rtcEnd cmd).sent = s.sent ∧ (s.spanEnd n kind rtcEnd cmd).debugger = s.debugger :=
  by unfold State.spanEnd; dsimp only; (repeat' split) <;> simp -implicitDefEqProofs

@[simp] theorem State.ledgSync_frame (s : State) (n kind : Nat) (body : List Byte) :
    (s.ledgSync n kind body).pending = s.pending ∧ (s.ledgSync n kind body).free = s.free ∧
    (s.ledgSync n kind body).sys = s.sys ∧ (s.ledgSync n kind body).island = s.island ∧ (s.ledgSync n kind body).nvm = s.nvm ∧
    (s.ledgSync n kind body).params = s.params ∧ (s.ledgSync n kind body).cmd = s.cmd ∧ (s.ledgSync n kind body).hdl = s.hdl ∧
    (s.ledgSync n kind body).evt = s.evt ∧ (s.ledgSync n kind body).wdg = s.wdg ∧ (s.ledgSync n kind body).out = s.out ∧
    (s.ledgSync n kind body).flue = s.flue ∧ (s.ledgSync n kind body).insts = s.insts ∧ (s.ledgSync n kind body).net = s.net ∧
    (s.ledgSync n kind body).cores = s.cores ∧ (s.ledgSync n kind body).sampled = s.sampled ∧
    (s.ledgSync n kind body).wks = s.wks ∧ (s.ledgSync n kind body).debugger = s.debugger :=
  by simp -implicitDefEqProofs [State.ledgSync]

@[simp] theorem State.mergeTurfs_frame (s : State) (n : Nat) :
    (s.mergeTurfs n).pending = s.pending ∧ (s.mergeTurfs n).sys = s.sys ∧ (s.mergeTurfs n).island = s.island ∧
    (s.mergeTurfs n).params = s.params ∧ (s.mergeTurfs n).cmd = s.cmd ∧ (s.mergeTurfs n).hdl = s.hdl ∧
    (s.mergeTurfs n).evt = s.evt ∧ (s.mergeTurfs n).wdg = s.wdg ∧ (s.mergeTurfs n).out = s.out ∧
    (s.mergeTurfs n).flue = s.flue ∧ (s.mergeTurfs n).net = s.net ∧ (s.mergeTurfs n).cores = s.cores ∧
    (s.mergeTurfs n).sampled = s.sampled ∧ (s.mergeTurfs n).wks = s.wks ∧ (s.mergeTurfs n).debugger = s.debugger :=
  by unfold State.mergeTurfs; dsimp only; (repeat' split) <;> simp -implicitDefEqProofs

@[simp] theorem State.bindSync_frame (s : State) (n : Nat) :
    (s.bindSync n).pending = s.pending ∧ (s.bindSync n).free = s.free ∧ (s.bindSync n).sys = s.sys ∧
    (s.bindSync n).island = s.island ∧ (s.bindSync n).nvm = s.nvm ∧ (s.bindSync n).params = s.params ∧
    (s.bindSync n).cmd = s.cmd ∧ (s.bindSync n).hdl = s.hdl ∧ (s.bindSync n).evt = s.evt ∧ (s.bindSync n).wdg = s.wdg ∧
    (s.bindSync n).out = s.out ∧ (s.bindSync n).flue = s.flue ∧ (s.bindSync n).insts = s.insts ∧ (s.bindSync n).net = s.net ∧
    (s.bindSync n).cores = s.cores ∧ (s.bindSync n).sampled = s.sampled ∧ (s.bindSync n).wks = s.wks ∧
    (s.bindSync n).debugger = s.debugger :=
  by simp -implicitDefEqProofs [State.bindSync]

@[simp] theorem State.writeTurf_frame (s : State) (n : Nat) (t : Turf) :
    (s.writeTurf n t).pending = s.pending ∧ (s.writeTurf n t).sys = s.sys ∧ (s.writeTurf n t).island = s.island ∧
    (s.writeTurf n t).params = s.params ∧ (s.writeTurf n t).cmd = s.cmd ∧ (s.writeTurf n t).hdl = s.hdl ∧
    (s.writeTurf n t).evt = s.evt ∧ (s.writeTurf n t).wdg = s.wdg ∧ (s.writeTurf n t).out = s.out ∧
    (s.writeTurf n t).flue = s.flue ∧ (s.writeTurf n t).net = s.net ∧ (s.writeTurf n t).cores = s.cores ∧
    (s.writeTurf n t).sampled = s.sampled ∧ (s.writeTurf n t).wks = s.wks ∧ (s.writeTurf n t).debugger = s.debugger :=
  by simp -implicitDefEqProofs [State.writeTurf]

@[simp] theorem State.sendTimes_frame (s : State) :
    (s.sendTimes).pending = s.pending ∧ (s.sendTimes).free = s.free ∧ (s.sendTimes).sys = s.sys ∧
    (s.sendTimes).island = s.island ∧ (s.sendTimes).nvm = s.nvm ∧ (s.sendTimes).params = s.params ∧ (s.sendTimes).cmd = s.cmd ∧
    (s.sendTimes).hdl = s.hdl ∧ (s.sendTimes).evt = s.evt ∧ (s.sendTimes).wdg = s.wdg ∧ (s.sendTimes).out = s.out ∧
    (s.sendTimes).insts = s.insts ∧ (s.sendTimes).part = s.part ∧ (s.sendTimes).net = s.net ∧ (s.sendTimes).cores = s.cores ∧
    (s.sendTimes).sampled = s.sampled ∧ (s.sendTimes).wks = s.wks ∧ (s.sendTimes).sent = s.sent ∧
    (s.sendTimes).debugger = s.debugger :=
  by simp -implicitDefEqProofs [State.sendTimes]

@[simp] theorem State.putDelay_frame (s : State) (w i : Nat) (trip : Option Nat) :
    (s.putDelay w i trip).pending = s.pending ∧ (s.putDelay w i trip).free = s.free ∧ (s.putDelay w i trip).sys = s.sys ∧
    (s.putDelay w i trip).island = s.island ∧ (s.putDelay w i trip).nvm = s.nvm ∧ (s.putDelay w i trip).params = s.params ∧
    (s.putDelay w i trip).cmd = s.cmd ∧ (s.putDelay w i trip).hdl = s.hdl ∧ (s.putDelay w i trip).evt = s.evt ∧
    (s.putDelay w i trip).wdg = s.wdg ∧ (s.putDelay w i trip).out = s.out ∧ (s.putDelay w i trip).insts = s.insts ∧
    (s.putDelay w i trip).net = s.net ∧ (s.putDelay w i trip).cores = s.cores ∧ (s.putDelay w i trip).sampled = s.sampled ∧
    (s.putDelay w i trip).wks = s.wks ∧ (s.putDelay w i trip).debugger = s.debugger :=
  by unfold State.putDelay; (repeat' split) <;> simp -implicitDefEqProofs

@[simp] theorem State.setViews_frame (s : State) (r a : Nat) (serials roles : List Nat) :
    (s.setViews r a serials roles).pending = s.pending ∧ (s.setViews r a serials roles).free = s.free ∧
    (s.setViews r a serials roles).sys = s.sys ∧ (s.setViews r a serials roles).island = s.island ∧
    (s.setViews r a serials roles).nvm = s.nvm ∧ (s.setViews r a serials roles).params = s.params ∧
    (s.setViews r a serials roles).cmd = s.cmd ∧ (s.setViews r a serials roles).hdl = s.hdl ∧
    (s.setViews r a serials roles).evt = s.evt ∧ (s.setViews r a serials roles).wdg = s.wdg ∧
    (s.setViews r a serials roles).out = s.out ∧ (s.setViews r a serials roles).insts = s.insts ∧
    (s.setViews r a serials roles).part = s.part ∧ (s.setViews r a serials roles).net = s.net ∧
    (s.setViews r a serials roles).cores = s.cores ∧ (s.setViews r a serials roles).sampled = s.sampled ∧
    (s.setViews r a serials roles).wks = s.wks ∧ (s.setViews r a serials roles).sent = s.sent ∧
    (s.setViews r a serials roles).debugger = s.debugger :=
  by simp -implicitDefEqProofs [State.setViews]

@[simp] theorem State.ringFound_frame (s : State) (f : RingFound) (fromB : Bool) :
    (s.ringFound f fromB).pending = s.pending ∧ (s.ringFound f fromB).free = s.free ∧ (s.ringFound f fromB).island = s.island ∧
    (s.ringFound f fromB).nvm = s.nvm ∧ (s.ringFound f fromB).cmd = s.cmd ∧ (s.ringFound f fromB).hdl = s.hdl ∧
    (s.ringFound f fromB).wdg = s.wdg ∧ (s.ringFound f fromB).out = s.out ∧ (s.ringFound f fromB).net = s.net ∧
    (s.ringFound f fromB).cores = s.cores ∧ (s.ringFound f fromB).sampled = s.sampled ∧ (s.ringFound f fromB).wks = s.wks ∧
    (s.ringFound f fromB).debugger = s.debugger :=
  by simp -implicitDefEqProofs [State.ringFound]

@[simp] theorem State.configWorker_frame (s : State) (w : Nat) (stored : List WkStored) (all : Bool) :
    (s.configWorker w stored all).pending = s.pending ∧ (s.configWorker w stored all).free = s.free ∧
    (s.configWorker w stored all).sys = s.sys ∧ (s.configWorker w stored all).island = s.island ∧
    (s.configWorker w stored all).nvm = s.nvm ∧ (s.configWorker w stored all).params = s.params ∧
    (s.configWorker w stored all).cmd = s.cmd ∧ (s.configWorker w stored all).hdl = s.hdl ∧
    (s.configWorker w stored all).evt = s.evt ∧ (s.configWorker w stored all).wdg = s.wdg ∧
    (s.configWorker w stored all).out = s.out ∧ (s.configWorker w stored all).insts = s.insts ∧
    (s.configWorker w stored all).net = s.net ∧ (s.configWorker w stored all).cores = s.cores ∧
    (s.configWorker w stored all).sampled = s.sampled ∧ (s.configWorker w stored all).wks = s.wks ∧
    (s.configWorker w stored all).debugger = s.debugger :=
  by unfold State.configWorker; dsimp only; (repeat' split) <;> simp -implicitDefEqProofs

@[simp] theorem State.partAck_frame (s : State) (typ seq status : Nat) :
    (s.partAck typ seq status).pending = s.pending ∧ (s.partAck typ seq status).free = s.free ∧
    (s.partAck typ seq status).sys = s.sys ∧ (s.partAck typ seq status).island = s.island ∧
    (s.partAck typ seq status).nvm = s.nvm ∧ (s.partAck typ seq status).params = s.params ∧
    (s.partAck typ seq status).cmd = s.cmd ∧ (s.partAck typ seq status).hdl = s.hdl ∧ (s.partAck typ seq status).evt = s.evt ∧
    (s.partAck typ seq status).wdg = s.wdg ∧ (s.partAck typ seq status).out = s.out ∧
    (s.partAck typ seq status).flue = s.flue ∧ (s.partAck typ seq status).insts = s.insts ∧
    (s.partAck typ seq status).net = s.net ∧ (s.partAck typ seq status).cores = s.cores ∧
    (s.partAck typ seq status).sampled = s.sampled ∧ (s.partAck typ seq status).wks = s.wks ∧
    (s.partAck typ seq status).debugger = s.debugger :=
  by simp -implicitDefEqProofs [State.partAck]

@[simp] theorem State.partSettle_frame (s : State) :
    (s.partSettle).pending = s.pending ∧ (s.partSettle).free = s.free ∧ (s.partSettle).sys = s.sys ∧
    (s.partSettle).island = s.island ∧ (s.partSettle).nvm = s.nvm ∧ (s.partSettle).cmd = s.cmd ∧ (s.partSettle).hdl = s.hdl ∧
    (s.partSettle).evt = s.evt ∧ (s.partSettle).wdg = s.wdg ∧ (s.partSettle).out = s.out ∧ (s.partSettle).flue = s.flue ∧
    (s.partSettle).insts = s.insts ∧ (s.partSettle).part = s.part ∧ (s.partSettle).net = s.net ∧
    (s.partSettle).cores = s.cores ∧ (s.partSettle).sampled = s.sampled ∧ (s.partSettle).wks = s.wks ∧
    (s.partSettle).sent = s.sent ∧ (s.partSettle).debugger = s.debugger :=
  by simp -implicitDefEqProofs [State.partSettle]

@[simp] theorem State.resyncAnswer_frame (s : State) (turfNew : List Nat) :
    (s.resyncAnswer turfNew).pending = s.pending ∧ (s.resyncAnswer turfNew).free = s.free ∧
    (s.resyncAnswer turfNew).sys = s.sys ∧ (s.resyncAnswer turfNew).island = s.island ∧ (s.resyncAnswer turfNew).nvm = s.nvm ∧
    (s.resyncAnswer turfNew).cmd = s.cmd ∧ (s.resyncAnswer turfNew).hdl = s.hdl ∧ (s.resyncAnswer turfNew).evt = s.evt ∧
    (s.resyncAnswer turfNew).wdg = s.wdg ∧ (s.resyncAnswer turfNew).out = s.out ∧ (s.resyncAnswer turfNew).flue = s.flue ∧
    (s.resyncAnswer turfNew).insts = s.insts ∧ (s.resyncAnswer turfNew).net = s.net ∧
    (s.resyncAnswer turfNew).cores = s.cores ∧ (s.resyncAnswer turfNew).sampled = s.sampled ∧
    (s.resyncAnswer turfNew).wks = s.wks ∧ (s.resyncAnswer turfNew).debugger = s.debugger :=
  by simp -implicitDefEqProofs [State.resyncAnswer]

@[simp] theorem State.linkRise_frame (s : State) :
    (s.linkRise).pending = s.pending ∧ (s.linkRise).free = s.free ∧ (s.linkRise).sys = s.sys ∧ (s.linkRise).island = s.island ∧
    (s.linkRise).nvm = s.nvm ∧ (s.linkRise).cmd = s.cmd ∧ (s.linkRise).hdl = s.hdl ∧ (s.linkRise).wdg = s.wdg ∧
    (s.linkRise).out = s.out ∧ (s.linkRise).flue = s.flue ∧ (s.linkRise).insts = s.insts ∧ (s.linkRise).net = s.net ∧
    (s.linkRise).cores = s.cores ∧ (s.linkRise).sampled = s.sampled ∧ (s.linkRise).wks = s.wks ∧
    (s.linkRise).debugger = s.debugger :=
  by unfold State.linkRise; dsimp only; (repeat' split) <;> simp -implicitDefEqProofs

@[simp] theorem State.linkFall_frame (s : State) (cause : Nat) :
    (s.linkFall cause).pending = s.pending ∧ (s.linkFall cause).free = s.free ∧ (s.linkFall cause).island = s.island ∧
    (s.linkFall cause).nvm = s.nvm ∧ (s.linkFall cause).cmd = s.cmd ∧ (s.linkFall cause).hdl = s.hdl ∧
    (s.linkFall cause).wdg = s.wdg ∧ (s.linkFall cause).out = s.out ∧ (s.linkFall cause).flue = s.flue ∧
    (s.linkFall cause).net = s.net ∧ (s.linkFall cause).cores = s.cores ∧ (s.linkFall cause).sampled = s.sampled ∧
    (s.linkFall cause).wks = s.wks ∧ (s.linkFall cause).sent = s.sent ∧ (s.linkFall cause).debugger = s.debugger :=
  by simp -implicitDefEqProofs [State.linkFall]

@[simp] theorem State.sleepBegin_frame (s : State) (own : Bool) :
    (s.sleepBegin own).pending = s.pending ∧ (s.sleepBegin own).free = s.free ∧ (s.sleepBegin own).island = s.island ∧
    (s.sleepBegin own).nvm = s.nvm ∧ (s.sleepBegin own).params = s.params ∧ (s.sleepBegin own).cmd = s.cmd ∧
    (s.sleepBegin own).hdl = s.hdl ∧ (s.sleepBegin own).evt = s.evt ∧ (s.sleepBegin own).wdg = s.wdg ∧
    (s.sleepBegin own).out = s.out ∧ (s.sleepBegin own).flue = s.flue ∧ (s.sleepBegin own).insts = s.insts ∧
    (s.sleepBegin own).net = s.net ∧ (s.sleepBegin own).cores = s.cores ∧ (s.sleepBegin own).sampled = s.sampled ∧
    (s.sleepBegin own).wks = s.wks ∧ (s.sleepBegin own).sent = s.sent ∧ (s.sleepBegin own).debugger = s.debugger :=
  by simp -implicitDefEqProofs [State.sleepBegin]

@[simp] theorem State.ringRate_frame (s : State) (r : Nat) (slow : Bool) :
    (s.ringRate r slow).pending = s.pending ∧ (s.ringRate r slow).free = s.free ∧ (s.ringRate r slow).sys = s.sys ∧
    (s.ringRate r slow).island = s.island ∧ (s.ringRate r slow).nvm = s.nvm ∧ (s.ringRate r slow).cmd = s.cmd ∧
    (s.ringRate r slow).hdl = s.hdl ∧ (s.ringRate r slow).evt = s.evt ∧ (s.ringRate r slow).wdg = s.wdg ∧
    (s.ringRate r slow).out = s.out ∧ (s.ringRate r slow).flue = s.flue ∧ (s.ringRate r slow).insts = s.insts ∧
    (s.ringRate r slow).part = s.part ∧ (s.ringRate r slow).net = s.net ∧ (s.ringRate r slow).cores = s.cores ∧
    (s.ringRate r slow).sampled = s.sampled ∧ (s.ringRate r slow).wks = s.wks ∧ (s.ringRate r slow).sent = s.sent ∧
    (s.ringRate r slow).debugger = s.debugger :=
  by simp -implicitDefEqProofs [State.ringRate]

@[simp] theorem State.followPartner_frame (s : State) (count : Nat) :
    (s.followPartner count).pending = s.pending ∧ (s.followPartner count).free = s.free ∧ (s.followPartner count).sys = s.sys ∧
    (s.followPartner count).island = s.island ∧ (s.followPartner count).nvm = s.nvm ∧ (s.followPartner count).cmd = s.cmd ∧
    (s.followPartner count).hdl = s.hdl ∧ (s.followPartner count).evt = s.evt ∧ (s.followPartner count).wdg = s.wdg ∧
    (s.followPartner count).out = s.out ∧ (s.followPartner count).flue = s.flue ∧ (s.followPartner count).insts = s.insts ∧
    (s.followPartner count).net = s.net ∧ (s.followPartner count).cores = s.cores ∧
    (s.followPartner count).sampled = s.sampled ∧ (s.followPartner count).wks = s.wks ∧ (s.followPartner count).sent = s.sent ∧
    (s.followPartner count).debugger = s.debugger :=
  by simp -implicitDefEqProofs [State.followPartner]

@[simp] theorem State.sendLease_frame (s : State) (r op : Nat) (f : Nat → Bool) :
    (s.sendLease r op f).pending = s.pending ∧ (s.sendLease r op f).free = s.free ∧ (s.sendLease r op f).sys = s.sys ∧
    (s.sendLease r op f).island = s.island ∧ (s.sendLease r op f).nvm = s.nvm ∧ (s.sendLease r op f).params = s.params ∧
    (s.sendLease r op f).cmd = s.cmd ∧ (s.sendLease r op f).hdl = s.hdl ∧ (s.sendLease r op f).evt = s.evt ∧
    (s.sendLease r op f).wdg = s.wdg ∧ (s.sendLease r op f).out = s.out ∧ (s.sendLease r op f).insts = s.insts ∧
    (s.sendLease r op f).net = s.net ∧ (s.sendLease r op f).cores = s.cores ∧ (s.sendLease r op f).sampled = s.sampled ∧
    (s.sendLease r op f).wks = s.wks ∧ (s.sendLease r op f).debugger = s.debugger :=
  by simp -implicitDefEqProofs [State.sendLease]

@[simp] theorem State.leases_frame (s : State) :
    (s.leases).pending = s.pending ∧ (s.leases).free = s.free ∧ (s.leases).sys = s.sys ∧ (s.leases).island = s.island ∧
    (s.leases).nvm = s.nvm ∧ (s.leases).params = s.params ∧ (s.leases).cmd = s.cmd ∧ (s.leases).hdl = s.hdl ∧
    (s.leases).evt = s.evt ∧ (s.leases).wdg = s.wdg ∧ (s.leases).out = s.out ∧ (s.leases).insts = s.insts ∧
    (s.leases).net = s.net ∧ (s.leases).cores = s.cores ∧ (s.leases).sampled = s.sampled ∧ (s.leases).wks = s.wks ∧
    (s.leases).debugger = s.debugger :=
  by simp -implicitDefEqProofs [State.leases]

@[simp] theorem State.partTick_frame (s : State) :
    (s.partTick).pending = s.pending ∧ (s.partTick).free = s.free ∧ (s.partTick).sys = s.sys ∧ (s.partTick).island = s.island ∧
    (s.partTick).nvm = s.nvm ∧ (s.partTick).cmd = s.cmd ∧ (s.partTick).hdl = s.hdl ∧ (s.partTick).evt = s.evt ∧
    (s.partTick).wdg = s.wdg ∧ (s.partTick).out = s.out ∧ (s.partTick).flue = s.flue ∧ (s.partTick).insts = s.insts ∧
    (s.partTick).net = s.net ∧ (s.partTick).cores = s.cores ∧ (s.partTick).sampled = s.sampled ∧ (s.partTick).wks = s.wks ∧
    (s.partTick).debugger = s.debugger :=
  by simp -implicitDefEqProofs [State.partTick]

@[simp] theorem State.setTime_frame (s : State) (rtc : Nat) :
    (s.setTime rtc).pending = s.pending ∧ (s.setTime rtc).free = s.free ∧ (s.setTime rtc).sys = s.sys ∧
    (s.setTime rtc).nvm = s.nvm ∧ (s.setTime rtc).cmd = s.cmd ∧ (s.setTime rtc).hdl = s.hdl ∧ (s.setTime rtc).evt = s.evt ∧
    (s.setTime rtc).wdg = s.wdg ∧ (s.setTime rtc).out = s.out ∧ (s.setTime rtc).part = s.part ∧ (s.setTime rtc).net = s.net ∧
    (s.setTime rtc).cores = s.cores ∧ (s.setTime rtc).sampled = s.sampled ∧ (s.setTime rtc).wks = s.wks ∧
    (s.setTime rtc).sent = s.sent ∧ (s.setTime rtc).debugger = s.debugger :=
  by simp -implicitDefEqProofs [State.setTime]

@[simp] theorem State.takeBinding_frame (s : State) (n : Nat) (b : Binding) :
    (s.takeBinding n b).pending = s.pending ∧ (s.takeBinding n b).free = s.free ∧ (s.takeBinding n b).sys = s.sys ∧
    (s.takeBinding n b).island = s.island ∧ (s.takeBinding n b).nvm = s.nvm ∧ (s.takeBinding n b).cmd = s.cmd ∧
    (s.takeBinding n b).hdl = s.hdl ∧ (s.takeBinding n b).evt = s.evt ∧ (s.takeBinding n b).wdg = s.wdg ∧
    (s.takeBinding n b).out = s.out ∧ (s.takeBinding n b).flue = s.flue ∧ (s.takeBinding n b).part = s.part ∧
    (s.takeBinding n b).net = s.net ∧ (s.takeBinding n b).cores = s.cores ∧ (s.takeBinding n b).sampled = s.sampled ∧
    (s.takeBinding n b).wks = s.wks ∧ (s.takeBinding n b).sent = s.sent ∧ (s.takeBinding n b).debugger = s.debugger :=
  by simp -implicitDefEqProofs [State.takeBinding]

@[simp] theorem State.takeTurf_frame (s : State) (n : Nat) (t : Turf) :
    (s.takeTurf n t).pending = s.pending ∧ (s.takeTurf n t).free = s.free ∧ (s.takeTurf n t).sys = s.sys ∧
    (s.takeTurf n t).island = s.island ∧ (s.takeTurf n t).params = s.params ∧ (s.takeTurf n t).cmd = s.cmd ∧
    (s.takeTurf n t).hdl = s.hdl ∧ (s.takeTurf n t).evt = s.evt ∧ (s.takeTurf n t).wdg = s.wdg ∧ (s.takeTurf n t).out = s.out ∧
    (s.takeTurf n t).flue = s.flue ∧ (s.takeTurf n t).part = s.part ∧ (s.takeTurf n t).net = s.net ∧
    (s.takeTurf n t).cores = s.cores ∧ (s.takeTurf n t).sampled = s.sampled ∧ (s.takeTurf n t).wks = s.wks ∧
    (s.takeTurf n t).sent = s.sent ∧ (s.takeTurf n t).debugger = s.debugger :=
  by simp -implicitDefEqProofs [State.takeTurf]

@[simp] theorem State.kaCancel_frame (s : State) :
    (s.kaCancel).pending = s.pending ∧ (s.kaCancel).free = s.free ∧ (s.kaCancel).sys = s.sys ∧ (s.kaCancel).island = s.island ∧
    (s.kaCancel).nvm = s.nvm ∧ (s.kaCancel).cmd = s.cmd ∧ (s.kaCancel).hdl = s.hdl ∧ (s.kaCancel).evt = s.evt ∧
    (s.kaCancel).wdg = s.wdg ∧ (s.kaCancel).out = s.out ∧ (s.kaCancel).flue = s.flue ∧ (s.kaCancel).insts = s.insts ∧
    (s.kaCancel).part = s.part ∧ (s.kaCancel).cores = s.cores ∧ (s.kaCancel).sampled = s.sampled ∧ (s.kaCancel).wks = s.wks ∧
    (s.kaCancel).sent = s.sent ∧ (s.kaCancel).debugger = s.debugger :=
  by simp -implicitDefEqProofs [State.kaCancel]

@[simp] theorem State.netTimers_frame (s : State) (need turned : Bool) :
    (s.netTimers need turned).pending = s.pending ∧ (s.netTimers need turned).free = s.free ∧
    (s.netTimers need turned).sys = s.sys ∧ (s.netTimers need turned).island = s.island ∧
    (s.netTimers need turned).nvm = s.nvm ∧ (s.netTimers need turned).params = s.params ∧
    (s.netTimers need turned).cmd = s.cmd ∧ (s.netTimers need turned).hdl = s.hdl ∧ (s.netTimers need turned).evt = s.evt ∧
    (s.netTimers need turned).wdg = s.wdg ∧ (s.netTimers need turned).out = s.out ∧ (s.netTimers need turned).flue = s.flue ∧
    (s.netTimers need turned).insts = s.insts ∧ (s.netTimers need turned).part = s.part ∧
    (s.netTimers need turned).cores = s.cores ∧ (s.netTimers need turned).sampled = s.sampled ∧
    (s.netTimers need turned).wks = s.wks ∧ (s.netTimers need turned).sent = s.sent ∧
    (s.netTimers need turned).debugger = s.debugger :=
  by simp -implicitDefEqProofs [State.netTimers]

@[simp] theorem State.netTick_frame (s : State) :
    (s.netTick).pending = s.pending ∧ (s.netTick).free = s.free ∧ (s.netTick).sys = s.sys ∧ (s.netTick).island = s.island ∧
    (s.netTick).nvm = s.nvm ∧ (s.netTick).cmd = s.cmd ∧ (s.netTick).hdl = s.hdl ∧ (s.netTick).evt = s.evt ∧
    (s.netTick).wdg = s.wdg ∧ (s.netTick).out = s.out ∧ (s.netTick).flue = s.flue ∧ (s.netTick).insts = s.insts ∧
    (s.netTick).part = s.part ∧ (s.netTick).cores = s.cores ∧ (s.netTick).sampled = s.sampled ∧ (s.netTick).wks = s.wks ∧
    (s.netTick).debugger = s.debugger :=
  by simp -implicitDefEqProofs [State.netTick]

@[simp] theorem State.skEnd_frame (s : State) (c : Nat) :
    (s.skEnd c).pending = s.pending ∧ (s.skEnd c).free = s.free ∧ (s.skEnd c).sys = s.sys ∧ (s.skEnd c).island = s.island ∧
    (s.skEnd c).nvm = s.nvm ∧ (s.skEnd c).cmd = s.cmd ∧ (s.skEnd c).hdl = s.hdl ∧ (s.skEnd c).evt = s.evt ∧
    (s.skEnd c).wdg = s.wdg ∧ (s.skEnd c).out = s.out ∧ (s.skEnd c).flue = s.flue ∧ (s.skEnd c).insts = s.insts ∧
    (s.skEnd c).part = s.part ∧ (s.skEnd c).net = s.net ∧ (s.skEnd c).sampled = s.sampled ∧ (s.skEnd c).wks = s.wks ∧
    (s.skEnd c).sent = s.sent ∧ (s.skEnd c).debugger = s.debugger :=
  by simp -implicitDefEqProofs [State.skEnd]

@[simp] theorem State.skYield_frame (s : State) (c : Nat) :
    (s.skYield c).pending = s.pending ∧ (s.skYield c).free = s.free ∧ (s.skYield c).sys = s.sys ∧
    (s.skYield c).island = s.island ∧ (s.skYield c).nvm = s.nvm ∧ (s.skYield c).cmd = s.cmd ∧ (s.skYield c).hdl = s.hdl ∧
    (s.skYield c).evt = s.evt ∧ (s.skYield c).wdg = s.wdg ∧ (s.skYield c).out = s.out ∧ (s.skYield c).flue = s.flue ∧
    (s.skYield c).insts = s.insts ∧ (s.skYield c).part = s.part ∧ (s.skYield c).net = s.net ∧
    (s.skYield c).sampled = s.sampled ∧ (s.skYield c).wks = s.wks ∧ (s.skYield c).sent = s.sent ∧
    (s.skYield c).debugger = s.debugger :=
  by simp -implicitDefEqProofs [State.skYield]

@[simp] theorem State.skStart_frame (s : State) (c : Nat) :
    (s.skStart c).pending = s.pending ∧ (s.skStart c).free = s.free ∧ (s.skStart c).sys = s.sys ∧
    (s.skStart c).island = s.island ∧ (s.skStart c).nvm = s.nvm ∧ (s.skStart c).cmd = s.cmd ∧ (s.skStart c).hdl = s.hdl ∧
    (s.skStart c).evt = s.evt ∧ (s.skStart c).wdg = s.wdg ∧ (s.skStart c).out = s.out ∧ (s.skStart c).flue = s.flue ∧
    (s.skStart c).insts = s.insts ∧ (s.skStart c).part = s.part ∧ (s.skStart c).net = s.net ∧
    (s.skStart c).sampled = s.sampled ∧ (s.skStart c).wks = s.wks ∧ (s.skStart c).sent = s.sent ∧
    (s.skStart c).debugger = s.debugger :=
  by simp -implicitDefEqProofs [State.skStart]

@[simp] theorem State.configWorkers_frame (s : State) (stored : List WkStored) :
    (s.configWorkers stored).pending = s.pending ∧ (s.configWorkers stored).free = s.free ∧
    (s.configWorkers stored).sys = s.sys ∧ (s.configWorkers stored).island = s.island ∧ (s.configWorkers stored).nvm = s.nvm ∧
    (s.configWorkers stored).params = s.params ∧ (s.configWorkers stored).cmd = s.cmd ∧ (s.configWorkers stored).hdl = s.hdl ∧
    (s.configWorkers stored).evt = s.evt ∧ (s.configWorkers stored).wdg = s.wdg ∧ (s.configWorkers stored).out = s.out ∧
    (s.configWorkers stored).insts = s.insts ∧ (s.configWorkers stored).net = s.net ∧
    (s.configWorkers stored).cores = s.cores ∧ (s.configWorkers stored).sampled = s.sampled ∧
    (s.configWorkers stored).wks = s.wks ∧ (s.configWorkers stored).debugger = s.debugger :=
  by simp -implicitDefEqProofs [State.configWorkers]

@[simp] theorem State.queueDue_frame (s : State) :
    (s.queueDue).pending = s.pending ∧ (s.queueDue).free = s.free ∧ (s.queueDue).sys = s.sys ∧ (s.queueDue).island = s.island ∧
    (s.queueDue).nvm = s.nvm ∧ (s.queueDue).params = s.params ∧ (s.queueDue).hdl = s.hdl ∧ (s.queueDue).evt = s.evt ∧
    (s.queueDue).wdg = s.wdg ∧ (s.queueDue).out = s.out ∧ (s.queueDue).flue = s.flue ∧ (s.queueDue).insts = s.insts ∧
    (s.queueDue).part = s.part ∧ (s.queueDue).net = s.net ∧ (s.queueDue).cores = s.cores ∧ (s.queueDue).sampled = s.sampled ∧
    (s.queueDue).wks = s.wks ∧ (s.queueDue).sent = s.sent ∧ (s.queueDue).debugger = s.debugger :=
  by simp -implicitDefEqProofs [State.queueDue]

@[simp] theorem State.syncOut_frame (s : State) (r dir : Nat) (prim bank : Bool) (first last : Nat) :
    (s.syncOut r dir prim bank first last).pending = s.pending ∧ (s.syncOut r dir prim bank first last).free = s.free ∧
    (s.syncOut r dir prim bank first last).sys = s.sys ∧ (s.syncOut r dir prim bank first last).island = s.island ∧
    (s.syncOut r dir prim bank first last).nvm = s.nvm ∧ (s.syncOut r dir prim bank first last).params = s.params ∧
    (s.syncOut r dir prim bank first last).cmd = s.cmd ∧ (s.syncOut r dir prim bank first last).hdl = s.hdl ∧
    (s.syncOut r dir prim bank first last).evt = s.evt ∧ (s.syncOut r dir prim bank first last).wdg = s.wdg ∧
    (s.syncOut r dir prim bank first last).out = s.out ∧ (s.syncOut r dir prim bank first last).insts = s.insts ∧
    (s.syncOut r dir prim bank first last).part = s.part ∧ (s.syncOut r dir prim bank first last).net = s.net ∧
    (s.syncOut r dir prim bank first last).cores = s.cores ∧ (s.syncOut r dir prim bank first last).sampled = s.sampled ∧
    (s.syncOut r dir prim bank first last).wks = s.wks ∧ (s.syncOut r dir prim bank first last).debugger = s.debugger :=
  by simp -implicitDefEqProofs [State.syncOut]

@[simp] theorem State.sendSyncs_frame (s : State) (bank : Bool) :
    (s.sendSyncs bank).pending = s.pending ∧ (s.sendSyncs bank).free = s.free ∧ (s.sendSyncs bank).sys = s.sys ∧
    (s.sendSyncs bank).island = s.island ∧ (s.sendSyncs bank).nvm = s.nvm ∧ (s.sendSyncs bank).params = s.params ∧
    (s.sendSyncs bank).cmd = s.cmd ∧ (s.sendSyncs bank).hdl = s.hdl ∧ (s.sendSyncs bank).evt = s.evt ∧
    (s.sendSyncs bank).wdg = s.wdg ∧ (s.sendSyncs bank).out = s.out ∧ (s.sendSyncs bank).insts = s.insts ∧
    (s.sendSyncs bank).part = s.part ∧ (s.sendSyncs bank).net = s.net ∧ (s.sendSyncs bank).cores = s.cores ∧
    (s.sendSyncs bank).sampled = s.sampled ∧ (s.sendSyncs bank).wks = s.wks ∧ (s.sendSyncs bank).debugger = s.debugger :=
  by simp -implicitDefEqProofs [State.sendSyncs]

@[simp] theorem State.turfsDue_frame (s : State) :
    (s.turfsDue).pending = s.pending ∧ (s.turfsDue).sys = s.sys ∧ (s.turfsDue).island = s.island ∧
    (s.turfsDue).params = s.params ∧ (s.turfsDue).cmd = s.cmd ∧ (s.turfsDue).hdl = s.hdl ∧ (s.turfsDue).evt = s.evt ∧
    (s.turfsDue).wdg = s.wdg ∧ (s.turfsDue).out = s.out ∧ (s.turfsDue).flue = s.flue ∧ (s.turfsDue).net = s.net ∧
    (s.turfsDue).cores = s.cores ∧ (s.turfsDue).sampled = s.sampled ∧ (s.turfsDue).wks = s.wks ∧
    (s.turfsDue).debugger = s.debugger :=
  by simp -implicitDefEqProofs [State.turfsDue]

@[simp] theorem State.wearLit_frame (s : State) (us : Nat) :
    (s.wearLit us).pending = s.pending ∧ (s.wearLit us).free = s.free ∧ (s.wearLit us).sys = s.sys ∧
    (s.wearLit us).island = s.island ∧ (s.wearLit us).params = s.params ∧ (s.wearLit us).cmd = s.cmd ∧
    (s.wearLit us).hdl = s.hdl ∧ (s.wearLit us).evt = s.evt ∧ (s.wearLit us).wdg = s.wdg ∧ (s.wearLit us).out = s.out ∧
    (s.wearLit us).flue = s.flue ∧ (s.wearLit us).insts = s.insts ∧ (s.wearLit us).part = s.part ∧ (s.wearLit us).net = s.net ∧
    (s.wearLit us).cores = s.cores ∧ (s.wearLit us).sampled = s.sampled ∧ (s.wearLit us).wks = s.wks ∧
    (s.wearLit us).sent = s.sent ∧ (s.wearLit us).debugger = s.debugger :=
  by simp -implicitDefEqProofs [State.wearLit]

@[simp] theorem State.lateReads_frame (s : State) :
    (s.lateReads).pending = s.pending ∧ (s.lateReads).free = s.free ∧ (s.lateReads).sys = s.sys ∧
    (s.lateReads).island = s.island ∧ (s.lateReads).nvm = s.nvm ∧ (s.lateReads).params = s.params ∧ (s.lateReads).cmd = s.cmd ∧
    (s.lateReads).hdl = s.hdl ∧ (s.lateReads).evt = s.evt ∧ (s.lateReads).wdg = s.wdg ∧ (s.lateReads).out = s.out ∧
    (s.lateReads).insts = s.insts ∧ (s.lateReads).net = s.net ∧ (s.lateReads).cores = s.cores ∧
    (s.lateReads).sampled = s.sampled ∧ (s.lateReads).wks = s.wks ∧ (s.lateReads).debugger = s.debugger :=
  by simp -implicitDefEqProofs [State.lateReads]

@[simp] theorem State.tickEnd_frame (s : State) :
    (s.tickEnd).pending = s.pending ∧ (s.tickEnd).free = s.free ∧ (s.tickEnd).island = s.island ∧ (s.tickEnd).nvm = s.nvm ∧
    (s.tickEnd).params = s.params ∧ (s.tickEnd).evt = s.evt ∧ (s.tickEnd).wdg = s.wdg ∧ (s.tickEnd).flue = s.flue ∧
    (s.tickEnd).insts = s.insts ∧ (s.tickEnd).part = s.part ∧ (s.tickEnd).net = s.net ∧ (s.tickEnd).cores = s.cores ∧
    (s.tickEnd).sampled = s.sampled ∧ (s.tickEnd).wks = s.wks ∧ (s.tickEnd).sent = s.sent ∧ (s.tickEnd).debugger = s.debugger :=
  by simp -implicitDefEqProofs [State.tickEnd]

@[simp] theorem State.packWhole_frame (s : State) :
    (s.packWhole).pending = s.pending ∧ (s.packWhole).free = s.free ∧ (s.packWhole).sys = s.sys ∧
    (s.packWhole).island = s.island ∧ (s.packWhole).nvm = s.nvm ∧ (s.packWhole).cmd = s.cmd ∧ (s.packWhole).hdl = s.hdl ∧
    (s.packWhole).evt = s.evt ∧ (s.packWhole).wdg = s.wdg ∧ (s.packWhole).out = s.out ∧ (s.packWhole).flue = s.flue ∧
    (s.packWhole).insts = s.insts ∧ (s.packWhole).part = s.part ∧ (s.packWhole).net = s.net ∧ (s.packWhole).cores = s.cores ∧
    (s.packWhole).sampled = s.sampled ∧ (s.packWhole).wks = s.wks ∧ (s.packWhole).sent = s.sent ∧
    (s.packWhole).debugger = s.debugger :=
  by simp -implicitDefEqProofs [State.packWhole]

@[simp] theorem State.tickSends_frame (s : State) (bank : Bool) :
    (s.tickSends bank).pending = s.pending ∧ (s.tickSends bank).free = s.free ∧ (s.tickSends bank).sys = s.sys ∧
    (s.tickSends bank).island = s.island ∧ (s.tickSends bank).nvm = s.nvm ∧ (s.tickSends bank).cmd = s.cmd ∧
    (s.tickSends bank).hdl = s.hdl ∧ (s.tickSends bank).evt = s.evt ∧ (s.tickSends bank).wdg = s.wdg ∧
    (s.tickSends bank).out = s.out ∧ (s.tickSends bank).insts = s.insts ∧ (s.tickSends bank).net = s.net ∧
    (s.tickSends bank).cores = s.cores ∧ (s.tickSends bank).sampled = s.sampled ∧ (s.tickSends bank).wks = s.wks ∧
    (s.tickSends bank).debugger = s.debugger :=
  by simp -implicitDefEqProofs [State.tickSends]

end Sys2Proof.Machine

/-! The step, its fault, and the invariant of the entry to Doused (R268, R269, R818). -/
namespace Sys2Proof.Machine

/-- A command that presents a supply is refused never, and stops exactly above 58 V (R818). -/
theorem rated_fault_iff (mv : Nat) (s : State) (e : Fault) :
    rated mv s = .fault e ↔ e = .outsideRatings ∧ 58000 < mv := by
  unfold rated
  split
  · simp_all
  · simp_all [done]

theorem rated_of_le {mv : Nat} (h : mv ≤ 58000) (s : State) : rated mv s = done s := if_neg (by omega)

theorem rated_ne_refused (mv : Nat) (s : State) (e : Refusal) : rated mv s ≠ .refused e := by
  unfold rated
  split <;> simp [done]

/-- No contactor-class channel turns into one by a drive: its class is a configuration word. -/
theorem State.isCon_of_p {s t : State} {n : Nat} (h : t.p (hsCfg n) = s.p (hsCfg n)) : t.isCon n = s.isCon n := by
  simp [State.isCon, State.pb, h]

theorem State.hsDrive_isCon (s : State) (n k : Nat) (hk : k < 8) : (s.hsDrive n).isCon k = s.isCon k :=
  State.isCon_of_p (s.hsDrive_p n _ (by simp only [hsCfg, hsStat]; omega) (by simp only [hsCfg, hsPwmSh]; omega)
    (by simp only [hsCfg, hsPwm]; omega) (by simp only [hsCfg]; omega))

end Sys2Proof.Machine

namespace Sys2Proof
open Machine

/-- Settles O1: the two arms of `step`. -/
theorem stepRunsTheFrontCommand : Obligations.StepRunsTheFrontCommand :=
  ⟨fun s c r h => step_cons s c r h, fun s h => step_nil s h⟩

/-- Settles O3: every command's next state has settled (`exec_settled`), and a settled state has none outstanding. -/
theorem everyStepLeavesNoDouseOutstanding : Obligations.EveryStepLeavesNoDouseOutstanding := by
  intro s t hs ht
  cases hp : s.pending with
  | nil =>
    rw [step_nil s hp] at ht
    injection ht with ht
    exact ht ▸ hs
  | cons c r =>
    rw [step_cons s c r hp] at ht
    obtain ⟨u, rfl⟩ := exec_settled c _ t ht
    exact u.settle_douse

/-- Settles O4. -/
theorem resetHasNoDouseOutstanding : Obligations.ResetHasNoDouseOutstanding := rfl

/-- Settles O5. -/
theorem resetIsFuseLoadAfterPor : Obligations.ResetIsFuseLoadAfterPor :=
  ⟨rfl, rfl, rfl, rfl, fun _ => rfl, rfl, fun _ => rfl⟩

end Sys2Proof

/-! What presents a supply, and so can stop the model (R117, R818). -/
namespace Sys2Proof.Machine

/-- The supply that a command presents, in mV. -/
def supplyOf : Instr → Option Nat
  | .vbatPowerOn mv => some mv
  | .fuseLoadDone mv _ => some mv
  | .thermalHoldEnd mv _ => some mv
  | .railSenseLost _ mv => some mv
  | .ovCoastEntry mv => some mv
  | .sampleInstant m _ => some m.vbat
  | _ => none

/-- A command that presents no supply always answers a next state. -/
theorem exec_done_of_no_supply (c : Instr) (s : State) (h : supplyOf c = none) : ∃ u, exec c s = done u := by
  cases c
  case vbatPowerOn | fuseLoadDone | thermalHoldEnd | railSenseLost | ovCoastEntry | sampleInstant => cases h
  all_goals exact ⟨_, rfl⟩

/-- A command that presents a supply is rated by it. -/
theorem exec_rated_of_supply (c : Instr) (s : State) {mv : Nat} (h : supplyOf c = some mv) : ∃ u, exec c s = rated mv u := by
  cases c
  case vbatPowerOn | fuseLoadDone | thermalHoldEnd | railSenseLost | ovCoastEntry | sampleInstant =>
    cases h
    exact ⟨_, rfl⟩
  all_goals cases h

/-- The commands that present a supply, named. -/
theorem supplyOf_eq_some (c : Instr) (mv : Nat) : supplyOf c = some mv ↔
    c = .vbatPowerOn mv ∨ (∃ us, c = .fuseLoadDone mv us) ∨ (∃ us, c = .thermalHoldEnd mv us) ∨
      (∃ rail, c = .railSenseLost rail mv) ∨ c = .ovCoastEntry mv ∨ ∃ m ws, c = .sampleInstant m ws ∧ m.vbat = mv := by
  constructor
  · intro h
    cases c
    case vbatPowerOn | fuseLoadDone | thermalHoldEnd | railSenseLost | ovCoastEntry | sampleInstant =>
      cases h
      simp
    all_goals cases h
  · rintro (rfl | ⟨_, rfl⟩ | ⟨_, rfl⟩ | ⟨_, rfl⟩ | rfl | ⟨_, _, rfl, rfl⟩) <;> rfl

/-- A change made for each entry of a list holds of every entry at the end, where each later change keeps it. -/
theorem State.each_establishes {α : Type} (P : α → State → Prop) (Q : State → Prop) (f : State → α → State) :
    ∀ (l : List α) (s : State), Q s → (∀ t x, x ∈ l → Q t → Q (f t x)) → (∀ t x, x ∈ l → Q t → P x (f t x)) →
      (∀ t x y, x ∈ l → Q t → P y t → P y (f t x)) →
      (∀ y, P y s → P y (s.each l f)) ∧ ∀ x ∈ l, P x (s.each l f)
  | [], _, _, _, _, _ => ⟨fun _ h => h, by simp⟩
  | x :: l, s, hs, hQ, hset, hkeep => by
    have hx : x ∈ x :: l := List.mem_cons_self
    obtain ⟨hlater, hall⟩ := State.each_establishes P Q f l (f s x) (hQ s x hx hs)
      (fun t y hy => hQ t y (List.mem_cons_of_mem _ hy)) (fun t y hy => hset t y (List.mem_cons_of_mem _ hy))
      (fun t y z hy => hkeep t y z (List.mem_cons_of_mem _ hy))
    refine ⟨fun y hy => hlater y (hkeep s x y hx hs hy), fun y hy => ?_⟩
    rcases List.mem_cons.mp hy with rfl | hy
    · exact hlater y (hset s y hx hs)
    · exact hall y hy

theorem State.mem_contactors {s : State} {n : Nat} : n ∈ s.contactors ↔ n < 8 ∧ s.isCon n = true := by
  simp [State.contactors]

/-- A fold keeps what each change for an entry of the list keeps. -/
theorem State.each_keeps_mem {α β : Type} (π : State → β) (f : State → α → State) (l : List α)
    (h : ∀ t, ∀ x ∈ l, π (f t x) = π t) (s : State) : π (s.each l f) = π s := by
  unfold State.each
  induction l generalizing s with
  | nil => rfl
  | cons x r ih =>
    rw [List.foldl_cons, ih (fun t y hy => h t y (List.mem_cons_of_mem _ hy)), h s x List.mem_cons_self]

/-- Whether the contactors are open is told by the parameters of the load switches. -/
theorem contactorsOpen_of_p {s t : State} (h : ∀ a, 0x2000 ≤ a → a < 0x2040 → t.p a = s.p a) :
    contactorsOpen t = contactorsOpen s := by
  have hcon : t.contactors = s.contactors := List.filter_congr fun n hn =>
    State.isCon_of_p (h _ (by simp only [hsCfg]; omega) (by have := List.mem_range.mp hn; simp only [hsCfg]; omega))
  unfold contactorsOpen
  rw [hcon, Bool.eq_iff_iff, List.all_eq_true, List.all_eq_true]
  refine forall₂_congr fun n hn => ?_
  have hn := (State.mem_contactors.mp hn).1
  rw [State.pb, State.pb, h _ (by simp only [hsStat]; omega) (by simp only [hsStat]; omega)]

/-- A contactor that is commanded off is not driven (R269, R552). -/
theorem State.hsDrive_off_of_con (s : State) (n : Nat) (h : s.isCon n = true) (hoff : (s.hs n).cmdOn = false) :
    (s.hsDrive n).pb (hsStat n) 0 = false := by
  have hn : n < 8 := by simpa using (Bool.and_eq_true_iff.mp h).1
  have hfollow : s.hsFollows n = false := by simp [State.hsFollows]; omega
  simp [State.hsDrive_on, State.hsWant, hfollow, h, hoff]

/-- Another channel's drive is left alone. -/
theorem State.hsDrive_stat_other (s : State) {n k : Nat} (h : k ≠ n) :
    (s.hsDrive n).p (hsStat k) = s.p (hsStat k) :=
  s.hsDrive_p n _ (by simp only [hsStat]; omega) (by simp only [hsStat, hsPwmSh]; omega)
    (by simp only [hsStat, hsPwm]; omega) (by simp only [hsStat]; omega)

/-- The class of every contactor outlasts their opening. -/
theorem State.openContactors_isCon (s : State) (b : Bool) {k : Nat} (hk : k < 8) :
    (s.openContactors b).isCon k = s.isCon k :=
  State.openContactors_keeps (fun t => t.isCon k) b s (fun _ _ _ => rfl) (fun t n => t.hsDrive_isCon n k hk)

/-- Every contactor is open once they have been opened (R269). -/
theorem State.openContactors_open (s : State) (b : Bool) : contactorsOpen (s.openContactors b) = true := by
  have hopen := (State.each_establishes (fun n t => t.pb (hsStat n) 0 = false) (fun t => ∀ k < 8, t.isCon k = s.isCon k)
    (fun t n => (t.updHs n (fun c => { c with cmdOn := false, alarmed := c.alarmed || b })).hsDrive n) s.contactors s
    (fun _ _ => rfl) (fun t n _ ht k hk => (State.hsDrive_isCon _ n k hk).trans (ht k hk)) ?_ ?_).2
  · simp only [contactorsOpen, List.all_eq_true, Bool.not_eq_true']
    intro n hn
    obtain ⟨hlt, hcon⟩ := State.mem_contactors.mp hn
    exact hopen n (State.mem_contactors.mpr ⟨hlt, s.openContactors_isCon b hlt ▸ hcon⟩)
  · intro t n hn ht
    obtain ⟨hlt, hcon⟩ := State.mem_contactors.mp hn
    exact State.hsDrive_off_of_con _ n ((ht n hlt).trans hcon) (by simp)
  · intro t n k hn ht hk
    obtain ⟨hlt, hcon⟩ := State.mem_contactors.mp hn
    by_cases h : k = n
    · subst h
      exact State.hsDrive_off_of_con _ k ((ht k hlt).trans hcon) (by simp)
    · rw [State.pb, State.hsDrive_stat_other _ h, State.updHs_p, ← State.pb, hk]

theorem State.wdgPause_p (s : State) {a : Nat} (h : a ≠ 0x0703) : s.wdgPause.p a = s.p a :=
  State.ite_keeps (fun t => t.p a) _ _ _ _
    (by rw [State.mapWdg_p, State.p_setPb_other _ _ _ h, State.p_setPb_other _ _ _ h]) rfl

/-- A halt of the cores writes their states alone. -/
theorem State.haltCores_p (s : State) {a : Nat} (h : ∀ c < 4, a ≠ 0x3802 + 8 * c) : s.haltCores.p a = s.p a := by
  unfold State.haltCores
  refine State.each_keeps_mem (fun t => t.p a) _ _ (fun t c hc => ?_) s
  dsimp only
  split
  · rw [State.p_setPf_other _ _ _ _ (h c (List.mem_range.mp hc)), State.updCore_p]
  · rw [State.updCore_p]

/-- Entry to Doused opens every contactor (R268, R269). -/
theorem State.enterDoused_open (s : State) : contactorsOpen s.enterDoused = true := by
  unfold State.enterDoused
  dsimp only
  rw [contactorsOpen_of_p (fun a _ _ => (State.wdgPause_p _ (by omega)).trans (State.haltCores_p _ (by omega)))]
  exact State.openContactors_open _ false

theorem State.enterDoused_phase (s : State) : s.enterDoused.sys.phase = .doused := by
  unfold State.enterDoused
  dsimp only
  simp

end Sys2Proof.Machine

namespace Sys2Proof
open Machine

/-- Settles O2: `supplyOf` names what presents a supply, and `rated` judges it. -/
theorem onlySupplyAboveRatingStops : Obligations.OnlySupplyAboveRatingStops := by
  constructor
  · intro s c e
    rcases exec_done_or_rated c s with ⟨u, hu⟩ | ⟨mv, u, hu⟩
    · simp [hu]
    · exact hu ▸ rated_ne_refused mv u e
  · intro s c e
    simp only [← supplyOf_eq_some]
    cases h : supplyOf c with
    | none =>
      obtain ⟨u, hu⟩ := exec_done_of_no_supply c s h
      simp [hu, done]
    | some mv =>
      obtain ⟨u, hu⟩ := exec_rated_of_supply c s h
      rw [hu, rated_fault_iff]
      simp

/-- Settles O6: the end of an effect is an entry to Doused, or nothing (`State.settle_of_calm`). -/
theorem douseEntryOpensContactors : Obligations.DouseEntryOpensContactors := by
  refine ⟨fun s h => ?_, fun s h h' => s.settle_of_calm h h'⟩
  rw [State.settle, if_pos h]
  exact ⟨s.enterDoused_phase, s.enterDoused_open⟩

end Sys2Proof

/-! Restarts (R110, R111, R785): what the start of a fuse load keeps of the state before it. -/
namespace Sys2Proof.Machine
open Sys2Proof

/-- An opening that is counted changes the wear counters alone of what MRAM holds (R510, R583). -/
theorem State.countOpening_nvm (s : State) (n : Nat) :
    (s.countOpening n).nvm = { s.nvm with wear := (s.countOpening n).nvm.wear } := by
  unfold State.countOpening
  simp [State.wear]

theorem State.contactorsDrop_nvm (s : State) :
    s.contactorsDrop.nvm = { s.nvm with wear := s.contactorsDrop.nvm.wear } := by
  have keeps {β : Type} (π : Nvm → β) (h : ∀ v w, π { v with wear := w } = π v) : π s.contactorsDrop.nvm = π s.nvm :=
    s.contactorsDrop_keeps (fun t => π t.nvm) (fun t n => by rw [t.countOpening_nvm, h]) (fun _ _ _ => rfl)
  have hrest := keeps (fun v => { v with wear := [] }) (fun _ _ => rfl)
  generalize s.contactorsDrop.nvm = v at hrest
  cases v
  simp only [Nvm.mk.injEq] at hrest ⊢
  simp [hrest]

/-- A restart begins at fuse load, and what it keeps is MRAM, the flash, the fuses, the workers and the island. -/
theorem State.restart_sys (s : State) (w : Bool) : (s.restart w).sys = Sys.start := rfl

theorem State.restart_evt (s : State) (w : Bool) : (s.restart w).evt = Evt.start := rfl

/-- The island outlasts a restart, but for a wake that was pending and the comparators' readings. -/
theorem State.restart_island (s : State) (w : Bool) : (s.restart w).island.count = s.island.count ∧
    (s.restart w).island.rtc = s.island.rtc ∧ (s.restart w).island.wdgKept = s.island.wdgKept ∧
    (s.restart w).island.recs = s.island.recs := by
  simp [State.restart, State.restarted, State.rawsKept]

theorem State.restart_wks (s : State) (w : Bool) : (s.restart w).wks = s.wks := by
  simp [State.restart, State.restarted]

theorem State.restart_pending (s : State) (w : Bool) : (s.restart w).pending = s.pending := by
  simp [State.restart, State.restarted]

theorem State.restart_nvm (s : State) (w : Bool) : (s.restart w).nvm.fuses = s.nvm.fuses ∧
    (s.restart w).nvm.flash = s.nvm.flash ∧ (s.restart w).nvm.journal = s.nvm.journal ∧
    (s.restart w).nvm.user = s.nvm.user ∧ (s.restart w).nvm.mirCut = s.nvm.mirCut := by
  simp only [State.restart, State.restarted, State.rawsKept, State.mapIsland_nvm]
  rw [s.contactorsDrop_nvm]
  exact ⟨rfl, rfl, rfl, rfl, rfl⟩

/-- A restart gives a parameter that it does not keep its reset word (R785). -/
theorem State.restart_p_reset (s : State) (w : Bool) {a : Nat} (h : keptParam w a = false) :
    (s.restart w).p a = (paramReset a).toNat := by
  have e : (s.restart w).params = s.params.filter (fun x => keptParam w x.1) := by
    rw [← s.contactorsDrop_params]; rfl
  unfold State.p
  rw [e, Tbl.find_filter, if_neg (by simp [h])]

/-- POR loses the island and every parameter (R53, R112, R785). -/
theorem State.por_settle (s : State) : s.por.settle = s.por :=
  State.settle_calm _ rfl (by simp [State.por, State.restarted, State.reset, Sys.start])

theorem State.por_nvm (s : State) : s.por.nvm.fuses = s.nvm.fuses ∧ s.por.nvm.flash = s.nvm.flash ∧
    s.por.nvm.journal = s.nvm.journal ∧ s.por.nvm.user = s.nvm.user := by
  simp only [State.por, State.restarted]
  rw [s.contactorsDrop_nvm]
  exact ⟨rfl, rfl, rfl, rfl⟩

theorem State.por_wks (s : State) : s.por.wks = s.wks := by simp [State.por, State.restarted]

theorem State.por_pending (s : State) : s.por.pending = s.pending := by simp [State.por, State.restarted]

/-- Every parameter but RST_CAUSE after a reset, a word that the island keeps or a reset word. -/
theorem State.reboot_p_kept (s : State) (c : Nat) {a : Nat} (hk : keptParam false a = true) (h : a ≠ 0x0105) :
    (s.reboot c).p a = s.p a := by
  rw [State.reboot, State.p_setPb_other _ _ _ h, State.restart_p _ _ _ hk, State.mapIsland_p]

theorem State.reboot_p_reset (s : State) (c : Nat) {a : Nat} (hk : keptParam false a = false) :
    (s.reboot c).p a = (paramReset a).toNat := by
  have h : a ≠ 0x0105 := by rintro rfl; simp [keptParam] at hk
  rw [State.reboot, State.p_setPb_other _ _ _ h, State.restart_p_reset _ _ hk]

theorem State.reboot_recs (s : State) (c : Nat) : (s.reboot c).island.recs = s.island.recs :=
  ((s.mapIsland (fun i => { i with wdgKept := none })).restart_island false).2.2.2

/-- A reset keeps what `Resets` says (R110, R115, R785). -/
theorem State.reboot_resets (s : State) {c : Nat} (hc : c < 32) : Resets s (s.reboot c) c [] := by
  obtain ⟨hfuses, hflash, hjournal, huser, -⟩ := (s.mapIsland (fun i => { i with wdgKept := none })).restart_nvm false
  obtain ⟨hcount, hrtc, hkept, -⟩ := (s.mapIsland (fun i => { i with wdgKept := none })).restart_island false
  exact ⟨rfl, State.pb_setPb_same _ _ _ _ hc, hcount, hrtc, hkept, hfuses, hflash, hjournal, huser, State.restart_wks (s.mapIsland _) false,
    State.restart_pending (s.mapIsland _) false, rfl, rfl, rfl, rfl, rfl, rfl, rfl, fun _ ha => s.reboot_p_reset c ha,
    fun _ ha hcause _ => s.reboot_p_kept c ha hcause⟩

/-- A reset after a change of what `Resets` does not speak of, and of the parameters of `l`. -/
theorem Resets.of_before {s s' t : State} {c : Nat} {l : List Nat} (h : Resets s' t c l)
    (hwks : s'.wks = s.wks) (hpending : s'.pending = s.pending)
    (hcount : s'.island.count = s.island.count) (hrtc : s'.island.rtc = s.island.rtc)
    (hfuses : s'.nvm.fuses = s.nvm.fuses) (hflash : s'.nvm.flash = s.nvm.flash) (hjournal : s'.nvm.journal = s.nvm.journal)
    (huser : s'.nvm.user = s.nvm.user) (hp : SameParams s s' l) : Resets s t c l := by
  obtain ⟨h1, h2, h3, h4, h5, h6, h7, h8, h9, h10, h11, h12, h13, h14, h15, h16, h17, h18, h19, h20⟩ := h
  refine ⟨h1, h2, h3.trans hcount, h4.trans hrtc, h5, h6.trans hfuses, h7.trans hflash, h8.trans hjournal, h9.trans huser,
    h10.trans hwks, h11.trans hpending, h12, h13, h14, h15, h16, h17, h18, h19, ?_⟩
  exact fun a hk hne hl => (h20 a hk hne hl).trans (hp a hl)

end Sys2Proof.Machine

namespace Sys2Proof
open Machine

/-- Settles O7: `State.por` and what a restart keeps. -/
theorem powerOnAndBrownout : Obligations.PowerOnAndBrownout := by
  refine ⟨?_, ?_, ?_⟩
  · intro s mv hcold hmv
    obtain ⟨hfuses, hflash, hjournal, huser⟩ := s.por_nvm
    refine ⟨s.por, ?_, rfl, rfl, rfl, hfuses, hflash, hjournal, huser, s.por_wks, s.por_pending⟩
    show rated mv _ = _
    rw [rated_of_le hmv, done, if_pos (by simp [hcold]), s.por_settle]
  · intro s hcold
    obtain ⟨hfuses, hflash, hjournal, huser⟩ := s.por_nvm
    refine ⟨s.por.mapSys (fun y => { y with phase := .cold }), ?_, rfl, rfl, rfl, hfuses, hflash, hjournal, huser, s.por_wks,
      s.por_pending⟩
    show done _ = _
    rw [if_neg (by simp [hcold])]
    exact done_calm _ rfl (by simp)
  · exact fun s b => ⟨_, rfl, rfl, rfl⟩

end Sys2Proof

/-! The rail sequencer and its faults, the resets and the collapse (R110 to R147, R158). -/
namespace Sys2Proof.Machine
open Sys2Proof

/-- The next state of a command whose effect is `u`. -/
theorem exec_next_of_done {c : Instr} {s u t : State} (h : exec c s = done u) (hu : u.settle = t) : exec c s = .next t :=
  h.trans (congrArg Host.Outcome.next hu)

/-- The next state of a command that presents a supply within the ratings. -/
theorem exec_next_of_rated {c : Instr} {s u t : State} {mv : Nat} (h : exec c s = rated mv u) (hmv : mv ≤ 58000)
    (hu : u.settle = t) : exec c s = .next t :=
  exec_next_of_done (h.trans (rated_of_le hmv u)) hu

theorem State.lapse_of_supply (s : State) (us : Nat) (h : s.sys.phase ≠ .cold) : s.lapse us = s.rtcUs us := by
  simp [State.lapse, h]

theorem State.rtcUs_thermalHold (s : State) (us : Nat) : (s.rtcUs us).island.thermalHold = s.island.thermalHold := rfl

/-- The RTC counts whole seconds, and carries the rest (R52). -/
theorem State.rtcUs_clock (s : State) (us : Nat) :
    (s.rtcUs us).island.rtc = (s.island.rtc + (s.island.rtcUs + us) / 1000000) % 2 ^ 32 ∧
    (s.rtcUs us).island.rtcUs = (s.island.rtcUs + us) % 1000000 := ⟨rfl, rfl⟩

theorem State.seqStart_settle (s : State) (h : NoDouseDue s) (h' : s.sys.phase ≠ .kindling) : s.seqStart.settle = s.seqStart :=
  State.settle_calm _ (by rw [s.seqStart_evt]; exact h) (by rwa [s.seqStart_phase])

variable {s : State} {mv us : Nat}

/-- FUSE_LOAD_DONE: the fuses are read, and the first rail comes on where the supply and the die allow (R70, R135 to R137). -/
theorem fuseLoadDone_next (hphase : s.sys.phase = .fuseLoad) (hrails : s.sys.rails = []) (hdouse : s.evt.douse = false)
    (hmv : mv ≤ 58000) :
    ∃ t : State, exec (.fuseLoadDone mv us) s = .next t ∧ t.sys.phase = .sequencing ∧ t.sys.fuseRead = s.nvm.fuseOr ∧
      t.sys.rails = (if mv < 6000 ∨ s.island.thermalHold = true then [] else [(t.seqStep 0).1]) ∧
      t.nvm = s.nvm ∧ t.island = (s.rtcUs us).island := by
  have hlapse := s.lapse_of_supply us (by simp [hphase])
  refine ⟨((s.lapse us).fusesRead.mapSys
    (fun y => { y with phase := .sequencing, seqWait := decide (mv < 6000) })).seqStart,
    exec_next_of_rated rfl hmv ?_, ?_, ?_, ?_, ?_, ?_⟩
  · rw [if_pos (by simp [hphase]), State.seqStart_settle]
    · simpa -implicitDefEqProofs [NoDouseDue, State.fusesRead_evt] using hdouse
    · simp
  · simp -implicitDefEqProofs [State.seqStart_phase]
  · rw [State.seqStart_fr, State.mapSys_sys, State.fusesRead_fuseRead]; simp
  · rw [State.seqStart_rails _ (by simp -implicitDefEqProofs) (by simp -implicitDefEqProofs [State.fusesRead_rails, hrails])]
    rw [State.seqStep_of _ _ (State.seqStart_fr _).symm]
    simp -implicitDefEqProofs [hlapse, State.rtcUs_thermalHold]
  · rw [State.seqStart_nvm, State.mapSys_nvm, State.fusesRead_nvm]; simp
  · rw [State.seqStart_island, State.mapSys_island, State.fusesRead_island, hlapse]

/-- VBAT_SEQUENCING_THRESHOLD (R136). -/
theorem vbatSequencingThreshold_next (hphase : s.sys.phase = .sequencing) (hrails : s.sys.rails = [])
    (hdouse : s.evt.douse = false) :
    ∃ t : State, exec (.vbatSequencingThreshold us) s = .next t ∧ t.sys.phase = .sequencing ∧ t.sys.seqWait = false ∧
      t.sys.rails = (if s.island.thermalHold then [] else [(s.seqStep 0).1]) ∧ t.params = s.params ∧
      t.island = (s.rtcUs us).island := by
  have hlapse := s.lapse_of_supply us (by simp [hphase])
  refine ⟨((s.lapse us).mapSys (fun y => { y with seqWait := false })).seqStart, exec_next_of_done rfl ?_, ?_, ?_, ?_, ?_, ?_⟩
  · rw [if_pos (by simp [hphase]), State.seqStart_settle]
    · simpa [NoDouseDue] using hdouse
    · simp [hphase]
  · simp [State.seqStart_phase, hphase]
  · simp [State.seqStart_wait]
  · rw [State.seqStart_rails _ (by simp [hphase]) (by simp [hrails]), State.seqStep_of _ s (by simp)]
    simp [hlapse, State.rtcUs_thermalHold]
  · simp
  · simp [hlapse]

/-- THERMAL_HOLD_END (R113, R136). -/
theorem thermalHoldEnd_next (hphase : s.sys.phase = .sequencing) (hrails : s.sys.rails = []) (hdouse : s.evt.douse = false)
    (hmv : mv ≤ 58000) :
    ∃ t : State, exec (.thermalHoldEnd mv us) s = .next t ∧ t.island = { (s.rtcUs us).island with thermalHold := false } ∧
      t.sys.rails = (if mv < 6000 then [] else [(s.seqStep 0).1]) ∧ t.params = s.params := by
  have hawake : s.awake = false := by simp [State.awake, hphase]
  have hlapse := s.lapse_of_supply us (by simp [hphase])
  refine ⟨(((s.lapse us).mapIsland (fun i => { i with thermalHold := false })).mapSys
    (fun y => { y with seqWait := decide (mv < 6000) })).seqStart, exec_next_of_rated rfl hmv ?_, ?_, ?_, ?_⟩
  · rw [hawake, if_neg (by simp), State.seqStart_settle]
    · simp [State.mapSys, hphase, hrails]
    · simpa [NoDouseDue] using hdouse
    · simp [hphase]
  · simp [hlapse]
  · rw [State.seqStart_rails _ (by simp [hphase]) (by simp [hrails]), State.seqStep_of _ s (by simp)]
    simp
  · simp

/-- RAIL_SENSE_GOOD before the last step: the next rail comes on (R137). -/
theorem railSenseGood_next {r : Nat} {l : List Nat} (hphase : s.sys.phase = .sequencing) (hrails : s.sys.rails = r :: l)
    (hstep : s.sys.step < 5) (hdouse : s.evt.douse = false) :
    ∃ t : State, exec (.railSenseGood r us) s = .next t ∧ t.sys.phase = .sequencing ∧ t.sys.step = s.sys.step + 1 ∧
      t.sys.rails = (s.seqStep (s.sys.step + 1)).1 :: r :: l ∧ t.params = s.params ∧ t.island = (s.rtcUs us).island := by
  have hlapse := s.lapse_of_supply us (by simp [hphase])
  refine ⟨(s.lapse us).mapSys (fun y => { y with step := y.step + 1, rails := (s.seqStep (y.step + 1)).1 :: y.rails }),
    exec_next_of_done rfl ?_, ?_, ?_, ?_, ?_, ?_⟩
  · rw [hrails]
    simp only [hphase, beq_self_eq_true, Bool.and_self, if_true, show s.sys.step ≠ 5 by omega, if_false]
    exact State.settle_calm _ (by simpa using hdouse) (by simp [hphase])
  all_goals simp [hphase, hrails, hlapse]

/-- RAIL_SENSE_GOOD at the last step: Kindling begins (R137). -/
theorem railSenseGood_last {r : Nat} {l : List Nat} (hphase : s.sys.phase = .sequencing) (hrails : s.sys.rails = r :: l)
    (hstep : s.sys.step = 5) : Gives (.railSenseGood r us) s (s.rtcUs us).enterKindling := by
  refine exec_next_of_done rfl ?_
  rw [hrails]
  simp only [hphase, beq_self_eq_true, Bool.and_self, if_true, hstep]
  rw [s.lapse_of_supply us (by simp [hphase])]

end Sys2Proof.Machine

namespace Sys2Proof
open Machine

/-- Settles O8: `State.seqStart_rails` names the rail that comes on, and the lapse counts the RTC alone. -/
theorem fuseLoadAndSequencing : Obligations.FuseLoadAndSequencing :=
  ⟨fun _ _ _ h1 h2 h3 h4 => fuseLoadDone_next h1 h2 h3 h4, fun _ _ h1 h2 h3 => vbatSequencingThreshold_next h1 h2 h3,
    fun _ _ _ h1 h2 h3 h4 => thermalHoldEnd_next h1 h2 h3 h4, fun _ _ _ _ h1 h2 h3 h4 => railSenseGood_next h1 h2 h3 h4,
    fun _ _ _ _ h1 h2 h3 => railSenseGood_last h1 h2 h3, fun s us => s.rtcUs_clock us⟩

end Sys2Proof

/-! Rail faults, resets and the collapse (R110 to R147, R158). -/
namespace Sys2Proof.Machine
open Sys2Proof

variable {s : State}

theorem State.awake_iff (s : State) :
    s.awake = true ↔ s.sys.phase = .kindling ∨ s.sys.phase = .lit ∨ s.sys.phase = .doused := by
  simp [State.awake, or_assoc]

theorem State.phase_ne_cold_of_awake (h : s.awake = true) : s.sys.phase ≠ .cold := by
  rcases s.awake_iff.mp h with h | h | h <;> simp [h]

theorem State.crystalReset_of_awake (h : s.awake = true) : s.crystalReset = false := by
  rcases s.awake_iff.mp h with h | h | h <;> simp [State.crystalReset, h]

/-- What a rail fault in a tick of Lit or within the sequence does, in the words of the statement (R138 to R146). -/
theorem railWindowExpired_next {r : Nat} {l : List Nat} (hphase : s.sys.phase = .sequencing) (hrails : s.sys.rails = r :: l) :
    ∃ t : State, exec .railWindowExpired s = .next t ∧ t.sys.phase = (if s.pf 0x0302 8 3 = s.railN then .coldHold else .rest) ∧
      t.pf 0x0302 0 3 = s.sys.step % 8 ∧ t.pf 0x0302 3 3 = r % 8 ∧ t.pf 0x0302 6 2 = 1 ∧ t.sys.rails = [] ∧
      t.island.recs.map (·.ev) = s.island.recs.map (·.ev) ++ (if s.pf 0x0302 8 3 = s.railN then [54, 55] else [54]) := by
  have hlapse := s.lapse_of_supply (100 * (s.seqStep s.sys.step).2) (by simp [hphase])
  obtain ⟨hsettle, hfacts⟩ := (s.rtcUs (100 * (s.seqStep s.sys.step).2)).railFault_facts s.sys.step r 1
  refine ⟨_, exec_next_of_done rfl ?_, hfacts⟩
  rw [hrails]
  simp only [hphase, beq_self_eq_true, if_true, hlapse]
  exact hsettle

theorem railSenseLost_next {rail mv : Nat} (hphase : s.sys.phase = .lit) (hrail : 1 ≤ rail) (hlast : rail < 6)
    (hmv : 4800 < mv) (hmax : mv ≤ 58000) :
    ∃ t : State, exec (.railSenseLost rail mv) s = .next t ∧
      t.sys.phase = (if s.pf 0x0302 8 3 = s.railN then .coldHold else .rest) ∧
      t.pf 0x0302 3 3 = rail ∧ t.pf 0x0302 6 2 = 2 ∧ t.sys.rails = [] := by
  obtain ⟨hsettle, hphase', -, hrail', hkind, hrails, -⟩ := s.railFault_facts (s.stepOf rail) rail 2
  refine ⟨_, exec_next_of_rated rfl hmax ?_, hphase', hrail'.trans (Nat.mod_eq_of_lt (by omega)), hkind, hrails⟩
  rw [hphase]
  simp only [show rail ≠ 0 by omega, if_false, hlast, hmv, and_self, if_true]
  exact hsettle

theorem satAdd_eq (w a b : Nat) : satAdd w a b = Nat.min (a + b) (2 ^ w - 1) := rfl

/-- A counter field that saturates (R130, R141). -/
theorem State.pf_incPf (s : State) (a lo wid : Nat) (h : lo + wid ≤ 32) :
    (s.incPf a lo wid).pf a lo wid = Nat.min (s.pf a lo wid + 1) (2 ^ wid - 1) := by
  rw [State.incPf, State.pf_setPf_same _ _ _ _ _ h, satAdd_eq, Nat.mod_eq_of_lt]
  have : 0 < 2 ^ wid := by positivity
  have := Nat.min_le_right (s.pf a lo wid + 1) (2 ^ wid - 1)
  simp only [Nat.min_def] at *
  omega

theorem railRestEnd_next (hphase : s.sys.phase = .rest) :
    ∃ t : State, exec .railRestEnd s = .next t ∧ t.sys.phase = .fuseLoad ∧ t.pb 0x0105 8 = true ∧
      t.pf 0x0302 8 3 = Nat.min (s.pf 0x0302 8 3 + 1) 7 := by
  have hlapse := s.lapse_of_supply 50000 (by simp [hphase])
  refine ⟨((s.lapse 50000).reboot 8).incPf 0x0302 8 3, exec_next_of_done rfl ?_, rfl, ?_, ?_⟩
  · rw [if_pos (by simp [hphase])]
    exact State.settle_calm _ rfl (by simp [State.reboot, State.restart_sys, Sys.start])
  · rw [State.pb, State.incPf, State.p_setPf_other _ _ _ _ (by omega), ← State.pb]
    exact State.pb_setPb_same _ _ _ _ (by omega)
  · rw [State.pf_incPf _ _ _ _ (by omega), State.pf, State.reboot_p_kept _ _ keptParam_supRail (by omega), hlapse]
    rfl

theorem railRetryClear_gives (hawake : s.awake = true) (hclock : s.sys.railClock = true) :
    ∃ u : State, Gives .railRetryClear s u ∧ u.pf 0x0302 8 3 = 0 ∧ u.sys.railClock = false ∧
      (∀ a, a ≠ 0x0302 → u.p a = s.p a) ∧ u.out = s.out ∧ u.nvm = s.nvm := by
  refine ⟨(s.setPf 0x0302 8 3 0).mapSys (fun y => { y with railClock := false }), ?_, ?_, rfl, ?_, rfl, rfl⟩
  · exact exec_next_of_done rfl (by rw [if_pos (by simp [hawake, hclock])])
  · rw [State.mapSys_pf, State.pf_setPf_same _ _ _ _ _ (by omega), Nat.zero_mod]
  · intro a ha
    rw [State.mapSys_p, State.p_setPf_other _ _ _ _ ha]

theorem retryRails_next (dt : Nat) (hphase : s.sys.phase = .coldHold) :
    ∃ t : State, exec (.retryRails dt) s = .next t ∧ t.sys.phase = .fuseLoad ∧ t.pf 0x0302 8 3 = 0 ∧ t.pb 0x0302 12 = true ∧
      t.island.rtc = (s.island.rtc + dt) % 2 ^ 32 := by
  obtain ⟨-, hrtc, -⟩ := (s.idle dt).restart_island false
  refine ⟨(((s.idle dt).restart false).setPf 0x0302 8 3 0).setPb 0x0302 12 true, exec_next_of_done rfl ?_, rfl, ?_, ?_, hrtc⟩
  · rw [if_pos (by simp [hphase]), State.coldExit, if_pos (by simp [hphase])]
    exact State.settle_calm _ rfl (by simp [State.restart_sys, Sys.start])
  · rw [State.setPb, State.pf_setPf_below _ _ _ _ _ _ _ (by omega) (by omega), State.pf_setPf_same _ _ _ _ _ (by omega), Nat.zero_mod]
  · exact State.pb_setPb_same _ _ _ _ (by omega)

theorem thermalReset_next (h : s.awake = true ∨ s.sys.phase = .sequencing) :
    ∃ t : State, exec .thermalReset s = .next t ∧ Resets s t 5 [] ∧ t.island.thermalHold = true := by
  refine ⟨(s.reboot 5).mapIsland (fun i => { i with thermalHold := true }), exec_next_of_done rfl ?_,
    s.reboot_resets (by omega), rfl⟩
  rw [if_pos (by simpa using h)]
  exact State.settle_calm _ rfl (by simp [State.reboot, State.restart_sys, Sys.start])

theorem pinReset_long {us : Nat} (hphase : s.sys.phase ≠ .cold) (hus : 10 ≤ us) :
    exec (.pinReset us) s = .next (s.reboot 4) := by
  refine exec_next_of_done rfl ?_
  rw [if_neg (by simp [hphase]; omega), if_pos hus]
  exact s.reboot_settle 4

theorem pinReset_between {us : Nat} (hphase : s.sys.phase ≠ .cold) (hlow : 2 < us) (hhigh : us < 10) :
    ∃ t : State, exec (.pinReset us) s = .next t ∧ (Resets s t 4 [] ∨ t = s.drawn.settle) := by
  have hcold : (s.sys.phase == .cold || decide (us ≤ 2)) = false := by simp [hphase]; omega
  by_cases hfree : Config.freeBit s.free = true
  · refine ⟨s.drawn.reboot 4, exec_next_of_done rfl ?_, .inl (s.drawn.reboot_resets (c := 4) (by omega))⟩
    rw [hcold, if_neg (by simp), if_neg (by omega), if_pos hfree]
    exact s.drawn.reboot_settle 4
  · refine ⟨s.drawn.settle, exec_next_of_done rfl ?_, .inr rfl⟩
    rw [hcold, if_neg (by simp), if_neg (by omega), if_neg hfree]

theorem Resets.mono {s t : State} {c : Nat} {l : List Nat} (h : Resets s t c []) : Resets s t c l :=
  let ⟨h1, h2, h3, h4, h5, h6, h7, h8, h9, h10, h11, h12, h13, h14, h15, h16, h17, h18, h19, h20⟩ := h
  ⟨h1, h2, h3, h4, h5, h6, h7, h8, h9, h10, h11, h12, h13, h14, h15, h16, h17, h18, h19,
    fun a hk hne _ => h20 a hk hne List.not_mem_nil⟩

/-- A collapse of a state that differs from `s` only in what a collapse undoes or cuts off (R127 to R130). -/
theorem State.collapse_eq (cause : Nat) (h : s.sys.phase ≠ .cold) :
    s.collapse cause = ((s.incPf 0x0301 16 16).islandRec 56 (le 1 cause)).reboot 1 := by
  rw [State.collapse, if_neg (by simpa using h)]

theorem State.collapse_settle (cause : Nat) (h : s.sys.phase ≠ .cold) : (s.collapse cause).settle = s.collapse cause := by
  rw [State.collapse_eq cause h, State.reboot_settle]

theorem State.collapse_resets (cause : Nat) (h : s.sys.phase ≠ .cold) : Resets s (s.collapse cause) 1 [0x0301] := by
  rw [State.collapse_eq cause h]
  refine Resets.of_before (Resets.mono (State.reboot_resets _ (by omega))) ?_ ?_ ?_ ?_ ?_ ?_ ?_ ?_ ?_
  case refine_9 =>
    intro a ha
    rw [State.islandRec, State.mapIsland_p, State.incPf, s.p_setPf_other _ _ _ (by simpa using ha)]
  all_goals simp -implicitDefEqProofs [State.islandRec]

theorem State.collapse_sys (cause : Nat) (h : s.sys.phase ≠ .cold) : (s.collapse cause).sys = Sys.start := by
  rw [State.collapse_eq cause h]; rfl

theorem State.collapse_cause (cause : Nat) (h : s.sys.phase ≠ .cold) : (s.collapse cause).pb 0x0105 1 = true := by
  rw [State.collapse_eq cause h]
  exact State.pb_setPb_same _ _ _ _ (by omega)

/-- What a collapse keeps of a parameter of the island. -/
theorem State.collapse_p (cause : Nat) (h : s.sys.phase ≠ .cold) {a : Nat} (hk : keptParam false a = true) (h1 : a ≠ 0x0105)
    (h2 : a ≠ 0x0301) : (s.collapse cause).p a = s.p a := by
  rw [State.collapse_eq cause h, State.reboot_p_kept _ _ hk h1, State.islandRec, State.mapIsland_p, State.incPf,
    State.p_setPf_other _ _ _ _ h2]

theorem State.collapse_cause_other (cause : Nat) (h : s.sys.phase ≠ .cold) {b : Nat} (hb : b ≠ 1) :
    (s.collapse cause).pb 0x0105 b = s.pb 0x0105 b := by
  rw [State.collapse_eq cause h, State.reboot, State.pb_setPb_bit _ _ _ (by omega) hb, State.pb,
    State.restart_p _ _ _ keptParam_rstCause, State.mapIsland_p, State.islandRec, State.mapIsland_p, State.incPf,
    State.p_setPf_other _ _ _ _ (by omega), State.pb]

theorem keptParam_supFault : keptParam false 0x0301 = true := by decide

theorem State.collapse_word (cause : Nat) (h : s.sys.phase ≠ .cold) :
    (s.collapse cause).p 0x0301 = (s.incPf 0x0301 16 16).p 0x0301 := by
  rw [State.collapse_eq cause h, State.reboot_p_kept _ _ keptParam_supFault (by omega), State.islandRec, State.mapIsland_p]

/-- The collapse counter steps and saturates; the undervoltage counter beside it stands (R130). -/
theorem State.collapse_count (cause : Nat) (h : s.sys.phase ≠ .cold) :
    (s.collapse cause).pf 0x0301 16 16 = Nat.min (s.pf 0x0301 16 16 + 1) 65535 ∧
    (s.collapse cause).pf 0x0301 0 16 = s.pf 0x0301 0 16 := by
  rw [State.pf, State.collapse_word cause h, ← State.pf, State.pf_incPf _ _ _ _ (by omega)]
  refine ⟨rfl, ?_⟩
  rw [State.pf, State.collapse_word cause h, ← State.pf, State.incPf, State.pf_setPf_below _ _ _ _ _ _ _ (by omega) (by omega)]

theorem State.collapse_recs (cause : Nat) (h : s.sys.phase ≠ .cold) :
    (s.collapse cause).island.recs = s.island.recs ++ [⟨56, detail (le 1 cause), s.island.rtc⟩] := by
  rw [State.collapse_eq cause h, State.reboot_recs]
  simp -implicitDefEqProofs [State.islandRec]

end Sys2Proof.Machine

/-! The resets and collapses as the commands give them (R110 to R130, R158, R830). -/
namespace Sys2Proof.Machine
open Sys2Proof

variable {s : State}

/-- An entry that a change keeps apart from the default is read through the change, where default entries are dropped after it. -/
theorem Tbl.get_map_filter {α : Type} [DecidableEq α] {d : α} {f : α → α} (hd : f d = d) (t : Tbl α) (k : Nat)
    (h : f (Tbl.get d t k) ≠ d) :
    Tbl.get d ((t.map (fun e => (e.1, f e.2))).filter (fun e => e.2 != d)) k = f (Tbl.get d t k) := by
  induction t with
  | nil => exact absurd hd h
  | cons e r ih =>
    obtain ⟨j, v⟩ := e
    by_cases hj : j = k
    · have hv : f v ≠ d := by simpa [Tbl.get, hj] using h
      simp [Tbl.get, hj, hv]
    · have ih := ih (by simpa [Tbl.get, hj] using h)
      by_cases hv : f v = d <;> simpa [Tbl.get, hj, hv] using ih

/-- The accumulator slots of an `Inst` outlast the end of the outputs. -/
theorem State.contactorsDrop_slots (s : State) (n : Nat) :
    (s.contactorsDrop.inst n).m0 = (s.inst n).m0 ∧ (s.contactorsDrop.inst n).m1 = (s.inst n).m1 := by
  have keeps {β : Type} (π : Inst → β) (h : ∀ i b k f, π (Inst.upSpan i b k f) = π i) :
      π (s.contactorsDrop.inst n) = π (s.inst n) := by
    refine s.contactorsDrop_keeps (fun t => π (t.inst n)) (fun t k => ?_) (fun _ _ _ => rfl)
    unfold State.countOpening
    refine State.each_keeps (fun t => π (t.inst n)) _ _ (fun t k => ?_) t
    unfold State.upSpan
    by_cases hk : n = k
    · rw [hk, State.updInst_same, h]
    · rw [State.updInst_other _ _ hk]
  exact ⟨keeps Inst.m0 (fun _ _ _ _ => rfl), keeps Inst.m1 (fun _ _ _ _ => rfl)⟩

/-- An `Inst` that holds a slot keeps its slots over a restart. -/
theorem State.restart_slots (s : State) (w : Bool) (n : Nat) (h : (s.inst n).m0 ≠ none ∨ (s.inst n).m1 ≠ none) :
    ((s.restart w).inst n).m0 = (s.inst n).m0 ∧ ((s.restart w).inst n).m1 = (s.inst n).m1 := by
  obtain ⟨h0, h1⟩ := s.contactorsDrop_slots n
  have hkept : (s.contactorsDrop.inst n).kept ≠ Inst.d := by
    intro hd
    have hm0 := congrArg Inst.m0 hd
    have hm1 := congrArg Inst.m1 hd
    simp only [Inst.kept, h0, h1, Inst.d] at hm0 hm1
    tauto
  have hinst : (s.restart w).inst n = (s.contactorsDrop.inst n).kept :=
    Tbl.get_map_filter (f := Inst.kept) rfl s.contactorsDrop.insts n hkept
  rw [hinst]
  exact ⟨h0, h1⟩

/-- The state that a collapse acts on where it cuts off the mirror write of `Inst` `n`, whose newer slot is `a` (R128, R469). -/
theorem State.mirrorCut_slot {live : List Nat} {n : Nat} {a : AccSlot} (hlive : live.contains n = true)
    (ha : newerSlot (s.inst n).m0 (s.inst n).m1 = some a) (b : AccSlot)
    (hb : (if a.seq % 2 = 0 then ((s.mirrorCut live (some n)).inst n).m0 else ((s.mirrorCut live (some n)).inst n).m1) = some b) :
    b.good = false := by
  simp only [State.mirrorCut, hlive, if_true, ha, Option.map_some, Option.getD_some] at hb
  have hupd (f : Inst → Inst) (g : Nvm → Nvm) : ((s.updInst n f).mapNvm g).inst n = f (s.inst n) := by
    exact s.updInst_same n f
  rw [hupd] at hb
  by_cases hq : a.seq % 2 = 0
  · rw [if_pos hq] at hb
    simp only [hq, if_true] at hb
    obtain ⟨x, -, rfl⟩ := Option.map_eq_some_iff.mp hb
    rfl
  · rw [if_neg hq] at hb
    simp only [show a.seq % 2 = 1 by omega, if_true] at hb
    obtain ⟨x, -, rfl⟩ := Option.map_eq_some_iff.mp hb
    rfl

/-- What the cut of a mirror write changes of MRAM is the list of the instances that were cut. -/
theorem State.mirrorCut_nvm (s : State) (live : List Nat) (cut : Option Nat) :
    (s.mirrorCut live cut).nvm = { s.nvm with mirCut := (s.mirrorCut live cut).nvm.mirCut } := by
  cases cut with
  | none => rfl
  | some n =>
    unfold State.mirrorCut
    dsimp only
    split <;> rfl

theorem newerSlot_ne_none {x y : Option AccSlot} {a : AccSlot} (h : newerSlot x y = some a) : x ≠ none ∨ y ≠ none := by
  cases x <;> cases y <;> simp_all [newerSlot]

theorem State.reboot_mirCut (s : State) (c : Nat) : (s.reboot c).nvm.mirCut = s.nvm.mirCut := by
  obtain ⟨-, -, -, -, h⟩ := (s.mapIsland (fun i => { i with wdgKept := none })).restart_nvm false
  rw [State.reboot, State.setPb_nvm, h, State.mapIsland_nvm]

theorem State.reboot_slots (s : State) (c : Nat) {n : Nat} (h : (s.inst n).m0 ≠ none ∨ (s.inst n).m1 ≠ none) :
    ((s.reboot c).inst n).m0 = (s.inst n).m0 ∧ ((s.reboot c).inst n).m1 = (s.inst n).m1 := by
  have hinst : (s.reboot c).inst n = ((s.mapIsland (fun i => { i with wdgKept := none })).restart false).inst n := by
    rw [State.inst, State.reboot, State.setPb_insts, State.inst]
  rw [hinst]
  exact State.restart_slots (s.mapIsland (fun i => { i with wdgKept := none })) false n h

theorem State.collapse_mirCut (cause : Nat) (h : s.sys.phase ≠ .cold) : (s.collapse cause).nvm.mirCut = s.nvm.mirCut := by
  rw [State.collapse_eq cause h, State.reboot_mirCut, State.islandRec, State.mapIsland_nvm, State.incPf_nvm]

theorem State.collapse_slots (cause : Nat) (hphase : s.sys.phase ≠ .cold) {n : Nat}
    (h : (s.inst n).m0 ≠ none ∨ (s.inst n).m1 ≠ none) :
    ((s.collapse cause).inst n).m0 = (s.inst n).m0 ∧ ((s.collapse cause).inst n).m1 = (s.inst n).m1 := by
  have hinst : ((s.incPf 0x0301 16 16).islandRec 56 (le 1 cause)).inst n = s.inst n := by
    rw [State.inst, congrArg State.insts (State.islandRec.eq_1 _ _ _), State.mapIsland_insts, State.incPf_insts, ← State.inst]
  have hslots := State.reboot_slots ((s.incPf 0x0301 16 16).islandRec 56 (le 1 cause)) 1 (n := n) (by rwa [hinst])
  rwa [hinst, ← State.collapse_eq cause hphase] at hslots

/-- The collapse that cuts off a mirror write (R128, R469). -/
theorem collapse_cuts_mirror {n : Nat} {a : AccSlot} (hn : n < 8) (hawake : s.awake = true) (htph : s.sys.tph = 6)
    (hmir : (s.inst n).mirTick = some s.tick) (ha : newerSlot (s.inst n).m0 (s.inst n).m1 = some a) :
    ∃ t : State, exec (.collapse 0 false (some n)) s = .next t ∧ Resets s t 1 [0x0301] ∧ n ∈ t.nvm.mirCut ∧
      (∀ b, (if a.seq % 2 = 0 then (t.inst n).m0 else (t.inst n).m1) = some b → b.good = false) := by
  have hlive : s.mirrorsWritten.contains n = true := by
    simp [State.mirrorsWritten, hawake, htph, hn, hmir]
  have hcold : (s.mirrorCut s.mirrorsWritten (some n)).sys.phase ≠ .cold := by
    simpa using State.phase_ne_cold_of_awake hawake
  have hcut : n ∈ (s.mirrorCut s.mirrorsWritten (some n)).nvm.mirCut := by
    simp only [State.mirrorCut, hlive, if_true, State.mapNvm_nvm]
    exact mem_insNat _ _
  have hnvm := s.mirrorCut_nvm s.mirrorsWritten (some n)
  have hslots : ((s.mirrorCut s.mirrorsWritten (some n)).inst n).m0 ≠ none ∨
      ((s.mirrorCut s.mirrorsWritten (some n)).inst n).m1 ≠ none := by
    have hupd (f : Inst → Inst) (g : Nvm → Nvm) : ((s.updInst n f).mapNvm g).inst n = f (s.inst n) := s.updInst_same n f
    simp only [State.mirrorCut, hlive, if_true, hupd]
    rcases newerSlot_ne_none ha with h | h <;> split_ifs <;> simp [h]
  obtain ⟨h0, h1⟩ := State.collapse_slots 0 hcold hslots
  refine ⟨(s.mirrorCut s.mirrorsWritten (some n)).collapse 0, exec_next_of_done rfl ?_,
    Resets.of_before (State.collapse_resets 0 hcold) ?_ ?_ ?_ ?_ ?_ ?_ ?_ ?_ ?_, ?_, ?_⟩
  · rw [State.crystalReset_of_awake hawake]
    have hfault : s.sys.fault.filter (fun _ => false) = none := by simp
    simp only [Bool.false_and, Bool.false_eq_true, if_false, hfault, true_or, if_true]
    exact State.collapse_settle 0 hcold
  case refine_11 =>
    rw [State.collapse_mirCut 0 hcold]
    exact hcut
  case refine_12 =>
    rw [h0, h1]
    exact fun b => State.mirrorCut_slot hlive ha b
  case refine_10 => exact fun a _ => State.p_of_params (by simp) a
  case refine_6 | refine_7 | refine_8 | refine_9 => rw [hnvm]
  all_goals simp

/-- A collapse that no rail fault joins (R127, R130). -/
theorem collapse_alone {cause : Nat} {joint : Bool} (hphase : s.sys.phase ≠ .cold) (hcrystal : s.crystalReset = false)
    (hjoint : joint = false ∨ s.sys.fault = none) (hcause : cause = 0 ∨ (cause = 1 ∧ s.awake = true)) :
    exec (.collapse cause joint none) s = .next (s.collapse cause) := by
  have hfault : s.sys.fault.filter (fun _ => joint && cause < 2) = none := by
    rcases hjoint with h | h <;> simp [h]
  refine exec_next_of_done rfl ?_
  simp only [hcrystal, Bool.false_and, Bool.false_eq_true, if_false, hfault, hcause, if_true]
  exact State.collapse_settle cause hphase

/-- A rail fault that is undone leaves the island's records and the words of the fault as they were before it (R158). -/
theorem State.faultUndo_eq {u : RailUndo} (h : s.sys.fault = some u) : s.faultUndo =
    (((((s.setP 0x0302 u.seqstat).setP 0x0105 u.cause).setP 0x2843 u.ref0).setP 0x2844 u.ref1).mapIsland
      (fun i => { u.island with rtc := i.rtc, rtcUs := i.rtcUs, napS := i.napS })).mapSys (fun y => { y with fault := none }) := by
  simp [State.faultUndo, h]

theorem State.faultUndo_phase (s : State) : s.faultUndo.sys.phase = s.sys.phase := by
  unfold State.faultUndo
  split <;> simp

/-- The words that a rail fault had changed, after it is undone (R158). -/
theorem State.faultUndo_p {u : RailUndo} (h : s.sys.fault = some u) : s.faultUndo.p 0x0302 = u.seqstat % 2 ^ 32 ∧
    s.faultUndo.p 0x0105 = u.cause % 2 ^ 32 ∧ s.faultUndo.p 0x2843 = u.ref0 % 2 ^ 32 ∧
    s.faultUndo.p 0x2844 = u.ref1 % 2 ^ 32 ∧ s.faultUndo.p 0x0301 = s.p 0x0301 := by
  rw [State.faultUndo_eq h]
  simp only [State.mapSys_p, State.mapIsland_p]
  refine ⟨?_, ?_, ?_, State.p_setP_same _ _ _, ?_⟩
  · rw [State.p_setP_other _ _ (by omega), State.p_setP_other _ _ (by omega), State.p_setP_other _ _ (by omega),
      State.p_setP_same]
  · rw [State.p_setP_other _ _ (by omega), State.p_setP_other _ _ (by omega), State.p_setP_same]
  · rw [State.p_setP_other _ _ (by omega), State.p_setP_same]
  · rw [State.p_setP_other _ _ (by omega), State.p_setP_other _ _ (by omega), State.p_setP_other _ _ (by omega),
      State.p_setP_other _ _ (by omega)]

theorem State.faultUndo_recs {u : RailUndo} (h : s.sys.fault = some u) :
    s.faultUndo.island.recs = u.island.recs ∧ s.faultUndo.island.rtc = s.island.rtc := by
  rw [State.faultUndo_eq h]
  simp -implicitDefEqProofs

theorem bit_eq_testBit (x n : Nat) : bit x n = x.testBit n := by
  simp [bit, Nat.testBit_eq_decide_div_mod_eq, beq_eq_decide]

theorem bit_mod_word (x : Nat) {b : Nat} (h : b < 32) : bit (x % 2 ^ 32) b = bit x b := by
  rw [bit_eq_testBit, bit_eq_testBit, Nat.testBit_mod_two_pow]
  simp [h]

/-- A collapse that undoes the rail fault of the same tick (R158). -/
theorem State.collapse_of_undone {u : RailUndo} (cause : Nat) (hphase : s.sys.phase ≠ .cold) (hfault : s.sys.fault = some u) :
    (s.faultUndo.collapse cause).settle = s.faultUndo.collapse cause ∧ (s.faultUndo.collapse cause).sys = Sys.start ∧
    (s.faultUndo.collapse cause).pb 0x0105 1 = true ∧ (s.faultUndo.collapse cause).pb 0x0105 8 = bit u.cause 8 ∧
    (s.faultUndo.collapse cause).p 0x0302 = u.seqstat % 2 ^ 32 ∧
    (s.faultUndo.collapse cause).pf 0x0301 16 16 = Nat.min (s.pf 0x0301 16 16 + 1) 65535 ∧
    (s.faultUndo.collapse cause).p 0x2843 = u.ref0 % 2 ^ 32 ∧ (s.faultUndo.collapse cause).p 0x2844 = u.ref1 % 2 ^ 32 ∧
    (s.faultUndo.collapse cause).island.recs = u.island.recs ++ [⟨56, detail (le 1 cause), s.island.rtc⟩] := by
  have hphase' : s.faultUndo.sys.phase ≠ .cold := by rwa [s.faultUndo_phase]
  obtain ⟨hseq, hcause, href0, href1, hcount⟩ := State.faultUndo_p hfault
  obtain ⟨hrecs, hrtc⟩ := State.faultUndo_recs hfault
  refine ⟨State.collapse_settle _ hphase', State.collapse_sys _ hphase', State.collapse_cause _ hphase', ?_, ?_, ?_, ?_, ?_, ?_⟩
  · rw [State.collapse_cause_other _ hphase' (by omega), State.pb, hcause, bit_mod_word _ (by omega)]
  · rw [State.collapse_p _ hphase' keptParam_supRail (by omega) (by omega), hseq]
  · rw [(State.collapse_count _ hphase').1, State.pf, hcount, State.pf]
  · rw [State.collapse_p _ hphase' (by decide) (by omega) (by omega), href0]
  · rw [State.collapse_p _ hphase' (by decide) (by omega) (by omega), href1]
  · rw [State.collapse_recs _ hphase', hrecs, hrtc]

theorem collapse_joined {cause : Nat} {u : RailUndo} (hphase : s.sys.phase ≠ .cold) (hcrystal : s.crystalReset = false)
    (hfault : s.sys.fault = some u) (hcause : cause < 2) :
    exec (.collapse cause true none) s = .next (s.faultUndo.collapse cause) := by
  refine exec_next_of_done rfl ?_
  simp only [hcrystal, Bool.false_and, Bool.false_eq_true, if_false, hfault, hcause, decide_true, Bool.and_self,
    Option.filter_some, if_true]
  exact (State.collapse_of_undone cause hphase hfault).1

theorem crystalStop_alone {joint : Bool} (hawake : s.awake = true) (hjoint : joint = false ∨ s.sys.fault = none) :
    exec (.crystalStop joint) s = .next (s.collapse 2) := by
  have hfault : s.sys.fault.filter (fun u => joint && u.ticking) = none := by
    rcases hjoint with h | h <;> simp [h]
  refine exec_next_of_done rfl ?_
  simp only [hfault, hawake, if_true]
  exact State.collapse_settle 2 (State.phase_ne_cold_of_awake hawake)

theorem crystalStop_joined {u : RailUndo} (hphase : s.sys.phase ≠ .cold) (hfault : s.sys.fault = some u)
    (hticking : u.ticking = true) : exec (.crystalStop true) s = .next (s.faultUndo.collapse 2) := by
  refine exec_next_of_done rfl ?_
  simp only [hfault, hticking, Bool.and_self, Option.filter_some, if_true]
  exact (State.collapse_of_undone 2 hphase hfault).1

/-- A collapse in the tick of a crystal stop is one with it (R830). -/
theorem collapse_with_crystal {cause : Nat} {joint : Bool} {cut : Option Nat} (hcrystal : s.crystalReset = true)
    (hcause : cause < 2) (hdouse : s.evt.douse = false) :
    exec (.collapse cause joint cut) s = .next (s.collapseJoin cause) := by
  have hphase : s.sys.phase = .fuseLoad := by
    have h := hcrystal
    simp only [State.crystalReset, Bool.and_eq_true, beq_iff_eq] at h
    exact h.1
  refine exec_next_of_done rfl ?_
  simp only [hcrystal, hcause, decide_true, Bool.and_self, if_true]
  exact State.settle_calm _ hdouse (by simp [State.collapseJoin, hphase])

/-- SQS0 lost in Kindling, Lit or Doused is a collapse (R127). -/
theorem railSenseLost_sqs0 {mv : Nat} (hawake : s.awake = true) (hmv : mv ≤ 58000) :
    exec (.railSenseLost 0 mv) s = .next (s.collapse 1) := by
  refine exec_next_of_rated rfl hmv ?_
  have hsettle := State.collapse_settle (s := s) 1 (State.phase_ne_cold_of_awake hawake)
  rcases s.awake_iff.mp hawake with h | h | h <;> simpa only [h, if_true] using hsettle

end Sys2Proof.Machine

namespace Sys2Proof
open Machine

/-- Settles O9: a rail fault is `State.railFault_facts`, a restart keeps SUP.RAIL. -/
theorem railFaultsRestRetryAndHold : Obligations.RailFaultsRestRetryAndHold :=
  ⟨fun _ _ _ h1 h2 => railWindowExpired_next h1 h2, fun _ _ _ h1 h2 h3 h4 h5 => railSenseLost_next h1 h2 h3 h4 h5,
    fun _ h => railRestEnd_next h, fun _ h1 h2 => railRetryClear_gives h1 h2, fun _ dt h => retryRails_next dt h⟩

/-- Settles O10: every reset is `State.reboot` (`State.reboot_resets`). -/
theorem resetsRecordTheirCause : Obligations.ResetsRecordTheirCause := by
  refine ⟨fun _ h => thermalReset_next h, fun s us h hus => ⟨_, pinReset_long h hus, s.reboot_resets (by omega)⟩, ?_,
    fun _ _ h1 h2 h3 => pinReset_between h1 h2 h3, ?_, ?_⟩
  · intro s us hus
    exact exec_next_of_done rfl (by rw [if_pos (by simp [hus])])
  · intro s c hdue hc
    exact ⟨s.reboot c, exec_next_of_done rfl (by rw [hdue]; exact s.reboot_settle c), s.reboot_resets hc⟩
  · intro s hdue
    exact exec_next_of_done rfl (by rw [hdue]; rfl)

/-- Settles O11: every collapse is `State.collapse` of the state with the joined rail fault undone and the mirror write cut off. -/
theorem collapsesAreCountedAndRecorded : Obligations.CollapsesAreCountedAndRecorded := by
  refine ⟨?_, ?_, fun _ _ _ h1 h2 h3 h4 h5 => collapse_cuts_mirror h1 h2 h3 h4 h5, ?_, ?_, ?_, ?_⟩
  · intro s cause joint hphase hcrystal hjoint hcause
    obtain ⟨hcount, huv⟩ := State.collapse_count cause hphase
    exact ⟨_, collapse_alone hphase hcrystal hjoint hcause, State.collapse_resets cause hphase, hcount, huv,
      State.collapse_recs cause hphase⟩
  · intro s cause u hphase hcrystal hfault hcause
    exact ⟨_, collapse_joined hphase hcrystal hfault hcause, (State.collapse_of_undone cause hphase hfault).2⟩
  · intro s cause joint cut hcrystal hcause hdouse
    exact ⟨_, collapse_with_crystal hcrystal hcause hdouse, rfl, rfl⟩
  · intro s joint hawake hjoint
    have hphase := State.phase_ne_cold_of_awake hawake
    exact ⟨_, crystalStop_alone hawake hjoint, State.collapse_resets 2 hphase, (State.collapse_count 2 hphase).1,
      State.collapse_recs 2 hphase⟩
  · intro s u hphase hfault hticking
    obtain ⟨-, hsys, -, hcause, hseq, -, -, -, hrecs⟩ := State.collapse_of_undone 2 hphase hfault
    exact ⟨_, crystalStop_joined hphase hfault hticking, hsys, hcause, hseq, hrecs⟩
  · intro s mv hawake hmv
    have hphase := State.phase_ne_cold_of_awake hawake
    exact ⟨_, railSenseLost_sqs0 hawake hmv, State.collapse_resets 1 hphase, State.collapse_recs 1 hphase⟩

end Sys2Proof

/-! The queue of requests (R164 to R168), and receipt (R160, R161). -/
namespace Sys2Proof.Machine
open Sys2Proof

/-- The first element that a test picks, among elements that it does not. -/
theorem find_first {α : Type} {f : α → Bool} {l r : List α} {q : α} (hl : ∀ x ∈ l, f x = false) (hq : f q = true) :
    (l ++ q :: r).find? f = some q := by
  rw [List.find?_append, List.find?_eq_none.mpr (by simpa using hl)]
  simp [hq]

theorem dropFirst_append {α : Type} {f : α → Bool} {l r : List α} {q : α} (hl : ∀ x ∈ l, f x = false) (hq : f q = true) :
    dropFirst f (l ++ q :: r) = l ++ r := by
  induction l with
  | nil => simp [dropFirst, hq]
  | cons x l ih =>
    have hx := hl x (by simp)
    simp [dropFirst, hx, ih (fun y hy => hl y (by simp [hy]))]

/-- Compute executes the first due request, then those after it (R168). -/
theorem State.runDue_first {s : State} {q : QItem} {l r : List QItem} (n : Nat) (h : s.cmd.queue = l ++ q :: r)
    (hl : ∀ x ∈ l, x.due = false) (hq : q.due = true) : s.runDue (n + 1) =
      ((((s.mapCmd (fun m => { m with queue := l ++ r })).runReq q.op q.req (opExec q.op)).wdgJudged q).settle).runDue n := by
  have hrest : s.mapCmd (fun m => { m with queue := dropFirst (·.due) m.queue }) =
      s.mapCmd (fun m => { m with queue := l ++ r }) := by
    simp only [State.mapCmd, h, dropFirst_append hl hq]
  rw [State.runDue, h, find_first hl hq]
  dsimp only
  rw [hrest]

theorem State.runDue_none {s : State} (n : Nat) (h : ∀ x ∈ s.cmd.queue, x.due = false) : s.runDue n = s := by
  cases n with
  | zero => rfl
  | succ n => rw [State.runDue, List.find?_eq_none.mpr (by simpa using h)]

/-- A request goes behind those that were received before it or have no lower rank (R168). -/
theorem State.place_cons_behind {s : State} {q x : QItem} (l : List QItem)
    (h : x.cycle ≠ q.cycle ∨ x.due = true ∨ s.rankOf x.req.port ≤ s.rankOf q.req.port) : s.place q (x :: l) = x :: s.place q l := by
  rw [State.place, if_neg]
  rintro ⟨hcycle, hdue, hrank⟩
  rcases h with h | h | h
  · exact h hcycle
  · simp [hdue] at h
  · omega

theorem State.place_append_behind {s : State} {q : QItem} {l : List QItem} (r : List QItem)
    (h : ∀ x ∈ l, x.cycle ≠ q.cycle ∨ x.due = true ∨ s.rankOf x.req.port ≤ s.rankOf q.req.port) :
    s.place q (l ++ r) = l ++ s.place q r := by
  induction l with
  | nil => rfl
  | cons x l ih =>
    rw [List.cons_append, State.place_cons_behind _ (h x (by simp)), ih (fun y hy => h y (by simp [hy])), List.cons_append]

theorem State.startsPeriod_of_op {s : State} {op : Nat} (r : Req) (h : op ≠ 0x70) : s.startsPeriod op r = false := by
  simp [State.startsPeriod, h]

/-- A received request takes its place in the queue (R168). -/
theorem State.enqueue_queue (s : State) (op : Nat) (r : Req) : (s.enqueue op r).cmd.queue =
    s.place ⟨op, r, false, if signedOps.contains op && bit r.flags 1 then 1 else 0, s.cmd.cycle, false, false,
      if s.startsPeriod op r then some (s.pf 0x0703 0 16) else none⟩ s.cmd.queue := by
  unfold State.enqueue
  dsimp only
  split
  · rw [State.wdgNext_cmd, State.mapCmd_cmd]
  · rw [State.mapCmd_cmd]

/-- Any request but an answer to the watchdog changes the queue alone as it is received. -/
theorem State.enqueue_of_op (s : State) {op : Nat} (r : Req) (h : op ≠ 0x70) : s.enqueue op r =
    s.mapCmd (fun m => { m with queue := s.place ⟨op, r, false, if signedOps.contains op && bit r.flags 1 then 1 else 0,
      s.cmd.cycle, false, false, none⟩ m.queue }) := by
  simp only [State.enqueue, State.startsPeriod_of_op r h, Bool.false_eq_true, if_false]

/-- A request of a port whose queue is full is answered 0x0204 (R166). -/
theorem State.receive_full (s : State) {p op seq flags handle : Nat} (iface ip udp : Nat) {l : List Byte} (hop : op < 256)
    (hseq : seq < 65536) (hflags : flags < 256) (hhandle : handle < 2 ^ 32) (hl : l.length ≤ 4096)
    (hnew : (s.port p).last.find? (fun e => e.1 == seq &&
      e.2.1 == leAt (requestBytes op seq flags handle l) (12 + l.length) 4) = none)
    (hfull : 64 ≤ (s.cmd.queue.filter (fun q => q.req.port == p)).length) :
    s.receive p (requestBytes op seq flags handle l) false iface ip udp =
      ((s.raise 50 []).incPf (portStat p) 8 8).refuse p iface ip udp op seq 0x0204 := by
  obtain ⟨hmagic, hop', hseq', hlen, -, -, -⟩ := requestBytes_header hop hseq hflags hhandle hl
  have hcrc : crc32c ((requestBytes op seq flags handle l).take (12 + l.length)) =
      leAt (requestBytes op seq flags handle l) (12 + l.length) 4 := by
    rw [requestBytes_take, requestBytes_crc]
  rw [State.receive, if_neg (by rw [requestBytes_length, hmagic]; omega)]
  simp only [hop', hseq', hlen, hnew]
  rw [if_neg (by simp [requestBytes_length]; omega), if_neg (by simp [hcrc]), if_pos hfull]

/-- A request with a wrong CRC is answered 0x0100 and counted (R161, R165). -/
theorem State.receive_bad_crc (s : State) {p n : Nat} (iface ip udp : Nat) {l : List Byte} (hmagic : leAt l 0 1 = 0xF1)
    (hlen : leAt l 4 2 = n) (hn : n ≤ 4096) (hl : l.length = 16 + n) (hcrc : crc32c (l.take (12 + n)) ≠ leAt l (12 + n) 4) :
    s.receive p l false iface ip udp =
      (s.incPf (portStat p) 0 8).refuse p iface ip udp (leAt l 1 1) (leAt l 2 2) 0x0100 := by
  rw [State.receive, if_neg (by omega)]
  simp only [hlen]
  rw [if_neg (by simp; omega), if_pos hcrc]

end Sys2Proof.Machine

namespace Sys2Proof
open Machine

/-- Settles O20. -/
theorem dueRequestsRunInOrder : Obligations.DueRequestsRunInOrder :=
  ⟨fun _ _ _ _ n h hl hq => State.runDue_first n h hl hq, fun _ n h => State.runDue_none n h⟩

/-- Settles O21: receipt by its checks, and the place in the queue by the cycle and rank of those before it. -/
theorem receiptQueuesARequest : Obligations.ReceiptQueuesARequest := by
  refine ⟨?_, ?_, ?_, ?_, fun s op r => s.enqueue_queue op r, ?_, ?_, ?_⟩
  · intro s p op seq flags handle iface ip udp l hop hseq hflags hhandle hl hnew hroom
    exact receive_requestBytes s p iface ip udp false hop hseq hflags hhandle hl hnew hroom
  · intro s p op seq flags handle iface ip udp l hop hseq hflags hhandle hl hnew hfull
    exact s.receive_full iface ip udp hop hseq hflags hhandle hl hnew hfull
  · intro s p iface ip udp l more h
    rw [State.receive, if_pos h]
  · intro s p iface ip udp n l hmagic hlen hn hl hcrc
    exact s.receive_bad_crc iface ip udp hmagic hlen hn hl hcrc
  · intro s op r h
    rw [s.enqueue_of_op r h]
    exact ⟨rfl, rfl⟩
  · intro s q l h
    simpa [State.place] using State.place_append_behind [] h
  · intro s q x l r h hcycle hdue hrank
    rw [State.place_append_behind _ h, State.place, if_pos ⟨hcycle, hdue, hrank⟩]

end Sys2Proof

/-! The drive of a load switch (R552, R566): what it leaves of its channel, and of the other ones. -/
namespace Sys2Proof.Machine

theorem State.hs_of_out {s t : State} (h : t.out.hs = s.out.hs) (n : Nat) : t.hs n = s.hs n := by
  rw [State.hs, State.hs, h]

/-- What a channel is told, as against what its drive makes of it. -/
def HsCh.told (c : HsCh) : Bool × Bool × Bool × Option Bool × Bool × Option Nat × Nat × Bool × Bool × Option Nat × Bool :=
  (c.cmdOn, c.retry, c.tripped, c.follow, c.unfollow, c.shPrev, c.quiet, c.uvOff, c.alarmed, c.econPg, c.econPend)

/-- What a drive keeps: all that the channel's own words, its contactor state, the weld check, its open-load level and the counts of
openings do not tell. -/
theorem State.hsDrive_keeps {β : Type} (π : State → β) (n : Nat)
    (hstat : ∀ t b, ∀ lo ∈ [0, 1, 5, 7], π (State.setPb t (hsStat n) lo b) = π t) (hpwm : ∀ t v, π (State.setP t (hsPwm n) v) = π t)
    (hshadow : ∀ t v, π (State.setP t (hsPwmSh n) v) = π t) (hweld : ∀ t v, π (State.setP t 0x2731 v) = π t)
    (hch : ∀ t f, (∀ c, HsCh.told (f c) = c.told) → π (State.updHs t n f) = π t)
    (hinst : ∀ t k f, π (State.updInst t k f) = π t) (hnvm : ∀ t f, π (State.mapNvm t f) = π t)
    (hout : ∀ t w, π (State.mapOut t (fun o => { o with weld := w })) = π t)
    (hfinish : ∀ t, π (State.finish t 22 n) = π t) (s : State) : π (s.hsDrive n) = π s := by
  have hon (t : State) (b : Bool) : π (t.setPb (hsStat n) 0 b) = π t := hstat t b 0 (by decide)
  have hlimit (t : State) (b : Bool) : π (t.setPb (hsStat n) 1 b) = π t := hstat t b 1 (by decide)
  have hopen (t : State) (b : Bool) : π (t.setPb (hsStat n) 5 b) = π t := hstat t b 5 (by decide)
  have hpullin (t : State) (b : Bool) : π (t.setPb (hsStat n) 7 b) = π t := hstat t b 7 (by decide)
  have hpwm' (t : State) (lo wid v : Nat) : π (t.setPf (hsPwm n) lo wid v) = π t := hpwm _ _
  have hshadow' (t : State) (lo wid v : Nat) : π (t.setPf (hsPwmSh n) lo wid v) = π t := hshadow _ _
  have hweld' (t : State) (lo wid v : Nat) : π (t.setPf 0x2731 lo wid v) = π t := hweld _ _
  have hcount (t : State) : π (t.countOpening n) = π t := by
    unfold State.countOpening
    dsimp only
    rw [hnvm]
    exact (hnvm _ _).trans (State.each_keeps π _ _ (fun t k => hinst t k _) t)
  have hopened (t : State) : π (t.opened n) = π t := by
    have hcont (t : State) : π (t.updHs n (fun c => { c with cont := 0, carry := 0 })) = π t := hch t _ (fun _ => rfl)
    unfold State.opened
    dsimp only
    split
    · rw [hout, hpwm', hshadow', hcount, hpullin, hcont]
    · rw [hpwm', hshadow', hcount, hpullin, hcont]
  have hpull (t : State) : π (t.pullIn n) = π t := by
    unfold State.pullIn
    rw [hpullin, hpwm]
    exact hch t _ (fun _ => rfl)
  have hclosed (t : State) : π (t.closed n) = π t := by
    unfold State.closed
    dsimp only
    split
    · rw [hweld', hout, hpull]
    · exact hpull t
  have hend (t : State) : π (t.olEnd n) = π t := by
    unfold State.olEnd
    exact (hch _ _ (fun _ => by rfl)).trans ((hopen _ _).trans (hfinish _))
  unfold State.hsDrive
  dsimp only
  split_ifs <;> simp only [hopened, hclosed, hend, hon, hlimit]

/-- A drive leaves what its channel is told. -/
theorem State.hsDrive_told (s : State) (n : Nat) : ((s.hsDrive n).hs n).told = (s.hs n).told :=
  State.hsDrive_keeps (fun t => (t.hs n).told) n (fun _ _ _ _ => rfl) (fun _ _ => rfl) (fun _ _ => rfl) (fun _ _ => rfl)
    (fun t f hf => by rw [State.updHs_same]; exact hf _) (fun _ _ _ => rfl) (fun _ _ => rfl) (fun _ _ => rfl) (fun _ => rfl) s

theorem State.hsDrive_hs_same (s : State) (n : Nat) :
    ((s.hsDrive n).hs n).cmdOn = (s.hs n).cmdOn ∧ ((s.hsDrive n).hs n).uvOff = (s.hs n).uvOff ∧
    ((s.hsDrive n).hs n).retry = (s.hs n).retry ∧ ((s.hsDrive n).hs n).tripped = (s.hs n).tripped ∧
    ((s.hsDrive n).hs n).quiet = (s.hs n).quiet ∧ ((s.hsDrive n).hs n).follow = (s.hs n).follow ∧
    ((s.hsDrive n).hs n).shPrev = (s.hs n).shPrev := by
  have h := s.hsDrive_told n
  simp only [HsCh.told, Prod.mk.injEq] at h
  obtain ⟨hcmd, hretry, htrip, hfollow, -, hprev, hquiet, huv, -⟩ := h
  exact ⟨hcmd, huv, hretry, htrip, hquiet, hfollow, hprev⟩

/-- A drive leaves every other channel. -/
theorem State.hsDrive_hs_other (s : State) {n k : Nat} (h : k ≠ n) : (s.hsDrive n).hs k = s.hs k :=
  State.hsDrive_keeps (fun t => t.hs k) n (fun _ _ _ _ => rfl) (fun _ _ => rfl) (fun _ _ => rfl) (fun _ _ => rfl)
    (fun t _ _ => t.updHs_other _ h) (fun _ _ _ => rfl) (fun _ _ => rfl) (fun _ _ => rfl) (fun _ => rfl) s

/-- A drive changes nothing of the outputs but its channel and the weld check. -/
theorem State.hsDrive_out (s : State) (n : Nat) :
    (s.hsDrive n).out.vlv = s.out.vlv ∧ (s.hsDrive n).out.hb = s.out.hb ∧ (s.hsDrive n).out.mot = s.out.mot ∧
    (s.hsDrive n).out.pg = s.out.pg := by
  have h := State.hsDrive_keeps (fun t => (t.out.vlv, t.out.hb, t.out.mot, t.out.pg)) n (fun _ _ _ _ => rfl) (fun _ _ => rfl)
    (fun _ _ => rfl) (fun _ _ => rfl) (fun _ _ _ => rfl) (fun _ _ _ => rfl) (fun _ _ => rfl) (fun _ _ => rfl) (fun _ => rfl) s
  simpa only [Prod.mk.injEq] using h

/-- A channel that an undervoltage holds is off (R121). -/
theorem State.hsDrive_off_of_uv (s : State) (n : Nat) (h : (s.hs n).uvOff = true) : (s.hsDrive n).pb (hsStat n) 0 = false := by
  simp [State.hsDrive_on, State.hsMay, h]

end Sys2Proof.Machine

/-! Level conditions of events (R252): an occurrence leaves them, and beginning and finishing one. -/
namespace Sys2Proof.Machine

theorem State.countSpans_evt (s : State) (e sev : Nat) : (s.countSpans e sev).evt = s.evt :=
  State.countSpans_keeps State.evt (fun _ _ _ => rfl) s e sev

theorem State.raise_conds (s : State) (e : Nat) (d : List Byte) : (s.raise e d).evt.conds = s.evt.conds := by
  have hdouse (t : State) : (t.douseBy e).evt.conds = t.evt.conds := by
    unfold State.douseBy
    split
    · simp
    · simp
    · split <;> simp
    · rfl
  unfold State.raise
  split
  · unfold State.occurs
    dsimp only
    split
    · rw [hdouse, State.countSpans_evt]; simp
    · rw [State.countSpans_evt]; simp
  · rfl

theorem State.holds_of_conds {s t : State} (h : t.evt.conds = s.evt.conds) (e : Nat) : t.holds e = s.holds e := by
  rw [State.holds, State.holds, h]

theorem State.begin_holds (s : State) (e item : Nat) (d : List Byte) : (s.begin e item d).holds e = true := by
  unfold State.begin
  split
  · rename_i h
    obtain ⟨c, hc, hcond⟩ := List.any_eq_true.mp h
    exact List.any_eq_true.mpr ⟨c, hc, (Bool.and_eq_true_iff.mp hcond).1⟩
  · rw [State.holds_of_conds (State.raise_conds _ e d)]
    simp [State.holds]

theorem State.finish_holds_other (s : State) {e e' : Nat} (item : Nat) (h : e' ≠ e) : (s.finish e item).holds e' = s.holds e' := by
  unfold State.holds State.finish
  rw [State.mapEvt_evt, Bool.eq_iff_iff, List.any_eq_true, List.any_eq_true]
  constructor
  · rintro ⟨c, hc, he⟩
    exact ⟨c, (List.mem_filter.mp hc).1, he⟩
  · rintro ⟨c, hc, he⟩
    refine ⟨c, List.mem_filter.mpr ⟨hc, ?_⟩, he⟩
    have : c.1 ≠ e := by rw [beq_iff_eq.mp he]; exact h
    simp [this]

theorem State.finishAll_holds (s : State) (e : Nat) : (s.finishAll e).holds e = false := by
  simp [State.holds, State.finishAll]

end Sys2Proof.Machine

/-! Valves, bridges and motors: what the operations that stop them keep. -/
namespace Sys2Proof.Machine

theorem State.vlvEnd_keeps {β : Type} (π : State → β) (c : Nat) (hstat : ∀ t v, π (State.setP t (vlvStat c) v) = π t)
    (hvlv : ∀ t f, π (State.updVlv t c f) = π t) (s : State) (at' : Nat) : π (s.vlvEnd c at') = π s := by
  unfold State.vlvEnd State.vlvBits
  exact (hstat _ _).trans ((hstat _ _).trans ((hstat _ _).trans (hvlv _ _)))

theorem State.hbEnds_keeps {β : Type} (π : State → β) (b : Nat) (hstat : ∀ t v, π (State.setP t (hbStat b) v) = π t)
    (hhb : ∀ t f, π (State.updHb t b f) = π t) (hnvm : ∀ t f, π (State.mapNvm t f) = π t) (s : State) (r : Nat) :
    π (s.hbEnds b r) = π s := by
  unfold State.hbEnds State.hbKeep
  dsimp only
  rw [hnvm]
  exact (State.ite_keeps π _ _ _ _ (hstat _ _) rfl).trans ((hstat _ _).trans (hhb _ _))

theorem State.ev30Back_keeps {β : Type} (π : State → β) (hstat : ∀ t v, π (State.setP t 0x0600 v) = π t)
    (hevt : ∀ t f, (∀ v, Evt.conds (f v) = v.conds) → π (State.mapEvt t f) = π t) (hinst : ∀ t n f, π (State.updInst t n f) = π t) (s : State) (u : Ev30Undo) :
    π (s.ev30Back u) = π s := by
  unfold State.ev30Back
  dsimp only
  have hlatch : π (if (!(s.mapEvt fun v => { v with occ := dropOcc 30 v.occ }).evt.occ.any fun o => o.ev == 30 && !o.island) = true then
        ((s.mapEvt fun v => { v with occ := dropOcc 30 v.occ }).setPb 0x0600 30 u.latched).mapEvt
          fun v => { v with held := Tbl.put 0 v.held 30 u.held }
      else s.mapEvt fun v => { v with occ := dropOcc 30 v.occ }) = π s :=
    State.ite_keeps π _ _ _ _ ((hevt _ _ (fun _ => by rfl)).trans ((hstat _ _).trans (hevt _ _ (fun _ => by rfl))))
      (hevt _ _ (fun _ => by rfl))
  refine State.ite_keeps π _ _ _ _ hlatch ?_
  exact (State.each_keeps π _ _ (fun t n => hinst t n _) _).trans hlatch

theorem State.hbAbort_keeps {β : Type} (π : State → β) (b : Nat) (hstat : ∀ t v, π (State.setP t (hbStat b) v) = π t)
    (hlatch : ∀ t v, π (State.setP t 0x0600 v) = π t) (hhb : ∀ t f, π (State.updHb t b f) = π t)
    (hnvm : ∀ t f, π (State.mapNvm t f) = π t) (hevt : ∀ t f, (∀ v, Evt.conds (f v) = v.conds) → π (State.mapEvt t f) = π t)
    (hinst : ∀ t n f, π (State.updInst t n f) = π t) (s : State) : π (s.hbAbort b) = π s := by
  have hends (r : Nat) : π (s.hbEnds b r) = π s := State.hbEnds_keeps π b hstat hhb hnvm s r
  have hput (t : State) (st : Nat) : π (t.hbPut b st) = π t := hstat _ _
  have hend : π (match (s.hb b).judged with
      | none => if s.hbMoving b then (s.hbEnds b 8).updHb b (fun h => { h with aborted := true }) else s
      | some u =>
        if u.on && u.sev == 3 then s
        else
          let t := (s.hbEnds b 8).updHb b (fun h => { h with aborted := true, judged := none })
          if u.on then t.ev30Back u else t) = π s := by
    split
    · exact State.ite_keeps π _ _ _ _ ((hhb _ _).trans (hends 8)) rfl
    · refine State.ite_keeps π _ _ _ _ rfl ?_
      exact State.ite_keeps π _ _ _ _ ((State.ev30Back_keeps π hlatch hevt hinst _ _).trans ((hhb _ _).trans (hends 8)))
        ((hhb _ _).trans (hends 8))
  unfold State.hbAbort
  exact State.ite_keeps π _ _ _ _ hend ((hput _ _).trans hend)

theorem State.motCoast_keeps {β : Type} (π : State → β) (m : Nat) (hstat : ∀ t v, π (State.setP t (motStat m) v) = π t)
    (hmot : ∀ t f, π (State.updMot t m f) = π t) (s : State) : π (s.motCoast m) = π s := by
  unfold State.motCoast
  exact State.ite_keeps π _ _ _ _ (hmot _ _) ((hstat _ _).trans (hmot _ _))

theorem State.motHold_keeps {β : Type} (π : State → β) (m : Nat) (hstat : ∀ t v, π (State.setP t (motStat m) v) = π t)
    (hmot : ∀ t f, π (State.updMot t m f) = π t) (s : State) : π (s.motHold m) = π s := by
  unfold State.motHold
  refine State.ite_keeps π _ _ _ _ rfl (State.ite_keeps π _ _ _ _ (hstat _ _) (State.ite_keeps π _ _ _ _ ?_ ?_))
  · exact State.motCoast_keeps π m hstat hmot s
  · exact (hstat _ _).trans (hmot _ _)

theorem State.motResume_keeps {β : Type} (π : State → β) (m : Nat) (hstat : ∀ t v, π (State.setP t (motStat m) v) = π t)
    (hmot : ∀ t f, π (State.updMot t m f) = π t) (s : State) : π (s.motResume m) = π s := by
  unfold State.motResume
  exact State.ite_keeps π _ _ _ _ rfl (State.ite_keeps π _ _ _ _ ((hstat _ _).trans (hmot _ _))
    (State.ite_keeps π _ _ _ _ (hstat _ _) rfl))

end Sys2Proof.Machine

/-! HS undervoltage (R120 to R122, R126). -/
namespace Sys2Proof.Machine

/-- An undervoltage turns a channel off and holds it off (R121). -/
def State.hsUvHold (t : State) (n : Nat) : State :=
  let t1 := t.updHs n (fun h => { h with uvOff := true, carry := 0 })
  (if t.hsBound n then t1.setPf (hsPwm n) 0 16 0 else t1).hsDrive n

theorem State.hsUvHold_keeps {β : Type} (π : State → β) (n : Nat) (hpwm : ∀ t v, π (State.setP t (hsPwm n) v) = π t)
    (hhs : ∀ t f, π (State.updHs t n f) = π t) (hdrive : ∀ t, π (State.hsDrive t n) = π t) (s : State) :
    π (s.hsUvHold n) = π s :=
  (hdrive _).trans (State.ite_keeps π _ _ _ _ ((hpwm _ _).trans (hhs _ _)) (hhs _ _))

theorem State.hsUvHold_p (s : State) {n a : Nat} (h1 : a ≠ hsStat n) (h2 : a ≠ hsPwmSh n) (h3 : a ≠ hsPwm n) (h4 : a ≠ 0x2731) :
    (s.hsUvHold n).p a = s.p a :=
  State.hsUvHold_keeps (fun t => t.p a) n (fun t _ => t.p_setP_other _ h3) (fun _ _ => rfl)
    (fun t => t.hsDrive_p n a h1 h2 h3 h4) s

theorem State.hsUvHold_hs_other (s : State) {n k : Nat} (h : k ≠ n) : (s.hsUvHold n).hs k = s.hs k :=
  State.hsUvHold_keeps (fun t => t.hs k) n (fun _ _ => rfl) (fun t _ => t.updHs_other _ h) (fun t => t.hsDrive_hs_other h) s

theorem State.hsUvHold_held (s : State) (n : Nat) :
    ((let t1 := s.updHs n (fun h => { h with uvOff := true, carry := 0 })
      if t1.hsBound n then t1.setPf (hsPwm n) 0 16 0 else t1).hs n).uvOff = true := by
  dsimp only
  split
  · rw [State.hs_of_out (congrArg Outs.hs (State.setPf_out _ _ _ _ _)), State.updHs_same]
  · rw [State.updHs_same]

theorem State.hsUvHold_uvOff (s : State) (n : Nat) : ((s.hsUvHold n).hs n).uvOff = true :=
  (State.hsDrive_hs_same _ n).2.1.trans (s.hsUvHold_held n)

theorem State.hsUvHold_off (s : State) (n : Nat) : (s.hsUvHold n).pb (hsStat n) 0 = false :=
  State.hsDrive_off_of_uv _ n (s.hsUvHold_held n)

/-- Every load switch is off, and held off. -/
def State.allHeld (s : State) : Prop := ∀ n, n < 40 → s.pb (hsStat n) 0 = false ∧ (s.hs n).uvOff = true

theorem State.each_hsUvHold_allHeld (s : State) : (s.each (List.range 40) State.hsUvHold).allHeld := by
  have h := (State.each_establishes (fun n t => t.pb (hsStat n) 0 = false ∧ (t.hs n).uvOff = true) (fun _ => True)
    State.hsUvHold (List.range 40) s trivial (fun _ _ _ _ => trivial)
    (fun t n _ _ => ⟨t.hsUvHold_off n, t.hsUvHold_uvOff n⟩) ?_).2
  · exact fun n hn => h n (List.mem_range.mpr hn)
  · intro t n k _ _ hk
    by_cases hne : k = n
    · subst hne
      exact ⟨t.hsUvHold_off k, t.hsUvHold_uvOff k⟩
    · rw [t.hsUvHold_hs_other hne, State.pb, t.hsUvHold_p (by simp only [hsStat]; omega) (by simp only [hsStat, hsPwmSh]; omega)
        (by simp only [hsStat, hsPwm]; omega) (by simp only [hsStat]; omega), ← State.pb]
      exact hk

/-- What an undervoltage does to the valves, the bridges and the motors (R124 to R126). -/
def State.uvMotion (s : State) : State :=
  ((s.each (List.range 24) (fun t c => if t.vlvRuns c then (t.vlvEnd c t.freeNow).drawn else t)).each (List.range 8)
    (fun t b => t.hbAbort b)).each (List.range 4) (fun t m => t.motHold m)

theorem State.uvMotion_keeps {β : Type} (π : State → β) (hvstat : ∀ t v, ∀ c < 24, π (State.setP t (vlvStat c) v) = π t)
    (hbstat : ∀ t v, ∀ b < 8, π (State.setP t (hbStat b) v) = π t) (hmstat : ∀ t v, ∀ m < 4, π (State.setP t (motStat m) v) = π t)
    (hlatch : ∀ t v, π (State.setP t 0x0600 v) = π t) (hvlv : ∀ t c f, π (State.updVlv t c f) = π t)
    (hhb : ∀ t b f, π (State.updHb t b f) = π t) (hmot : ∀ t m f, π (State.updMot t m f) = π t)
    (hnvm : ∀ t f, π (State.mapNvm t f) = π t) (hevt : ∀ t f, (∀ v, Evt.conds (f v) = v.conds) → π (State.mapEvt t f) = π t)
    (hinst : ∀ t n f, π (State.updInst t n f) = π t) (hdrawn : ∀ t : State, π t.drawn = π t) (s : State) :
    π s.uvMotion = π s := by
  unfold State.uvMotion
  rw [State.each_keeps_mem π _ _ (fun t m hm => t.motHold_keeps π m (fun t v => hmstat t v m (List.mem_range.mp hm))
    (fun t f => hmot t m f)) _]
  rw [State.each_keeps_mem π _ _ (fun t b hb => t.hbAbort_keeps π b (fun t v => hbstat t v b (List.mem_range.mp hb)) hlatch
    (fun t f => hhb t b f) hnvm hevt hinst) _]
  refine State.each_keeps_mem π _ _ (fun t c hc => State.ite_keeps π _ _ _ _ ?_ rfl) _
  exact (hdrawn _).trans (t.vlvEnd_keeps π c (fun t v => hvstat t v c (List.mem_range.mp hc)) (fun t f => hvlv t c f) _)

theorem State.uvMotion_p (s : State) {a : Nat} (h : a < 0x0600 ∨ 0x2000 ≤ a ∧ a < 0x2200) : s.uvMotion.p a = s.p a :=
  State.uvMotion_keeps (fun t => t.p a) (fun t _ c hc => t.p_setP_other _ (by simp only [vlvStat]; omega))
    (fun t _ b hb => t.p_setP_other _ (by simp only [hbStat]; omega)) (fun t _ m hm => t.p_setP_other _ (by simp only [motStat]; omega))
    (fun t _ => t.p_setP_other _ (by omega)) (fun _ _ _ => rfl) (fun _ _ _ => rfl) (fun _ _ _ => rfl) (fun _ _ => rfl)
    (fun _ _ _ => rfl) (fun _ _ _ => rfl) (fun _ => rfl) s

theorem State.uvMotion_rest (s : State) : s.uvMotion.out.hs = s.out.hs ∧ s.uvMotion.evt.conds = s.evt.conds := by
  have h := State.uvMotion_keeps (fun t => (t.out.hs, t.evt.conds)) (fun _ _ _ _ => rfl) (fun _ _ _ _ => rfl) (fun _ _ _ _ => rfl)
    (fun _ _ => rfl) (fun _ _ _ => rfl) (fun _ _ _ => rfl) (fun _ _ _ => rfl) (fun _ _ => rfl)
    (fun t f hf => by rw [State.mapEvt_out, State.mapEvt_evt, hf]) (fun _ _ _ => rfl) (fun _ => rfl) s
  simpa only [Prod.mk.injEq] using h

/-- The marks of an undervoltage: its flag and count, EV24, and no restart in progress (R120). -/
def State.uvBegin (s : State) : State :=
  ((((s.setPb 0x0300 16 true).setPb 0x0300 17 false).incPf 0x0301 0 16).mapSys (fun y => { y with uvStep := 0 })).begin 24 0 []

theorem State.begin_p (s : State) (e item : Nat) (d : List Byte) {a : Nat} (h : a ≠ 0x0600 + e / 32) (h' : a ≠ 0x060C + e / 32) :
    (s.begin e item d).p a = s.p a :=
  State.ite_keeps (fun t => t.p a) _ _ _ _ rfl (State.raise_p _ _ _ h h')

/-- Each channel's hold leaves the supply's words and the level conditions but open load. -/
theorem State.each_hsUvHold_supply (s : State) {a : Nat} (h : a < 0x2000) : (s.each (List.range 40) State.hsUvHold).p a = s.p a :=
  State.each_keeps (fun t => t.p a) _ _ (fun t n => t.hsUvHold_p (by simp only [hsStat]; omega) (by simp only [hsPwmSh]; omega)
    (by simp only [hsPwm]; omega) (by omega)) s

theorem State.hsDrive_holds (s : State) {n e : Nat} (h : e ≠ 22) : (s.hsDrive n).holds e = s.holds e :=
  State.hsDrive_keeps (fun t => t.holds e) n (fun _ _ _ _ => rfl) (fun _ _ => rfl) (fun _ _ => rfl) (fun _ _ => rfl)
    (fun _ _ _ => rfl) (fun _ _ _ => rfl) (fun _ _ => rfl) (fun _ _ => rfl) (fun t => t.finish_holds_other n h) s

theorem State.each_hsUvHold_holds (s : State) : (s.each (List.range 40) State.hsUvHold).holds 24 = s.holds 24 :=
  State.each_keeps (fun t => t.holds 24) _ _ (fun t n => State.hsUvHold_keeps (fun t => t.holds 24) n (fun _ _ => rfl)
    (fun _ _ => rfl) (fun _ => State.hsDrive_holds _ (by decide)) t) s

theorem hsUndervoltage_eq (s : State) (hawake : s.awake = true) (huv : s.uvOn = false) :
    exec .hsUndervoltage s = done (s.uvBegin.each (List.range 40) State.hsUvHold).uvMotion := by
  have hcond : (s.awake && !s.uvOn) = true := by simp [hawake, huv]
  change execHsUndervoltage s = _
  unfold execHsUndervoltage
  rw [if_pos hcond, State.uvBegin, State.uvMotion]
  rfl

/-- The supply's words after an undervoltage has begun. -/
theorem State.uvBegin_words (s : State) : s.uvBegin.uvOn = true ∧ s.uvBegin.pb 0x0300 17 = false ∧
    s.uvBegin.pf 0x0301 0 16 = Nat.min (s.pf 0x0301 0 16 + 1) 65535 := by
  have hp (a : Nat) (h : a < 0x0600) : s.uvBegin.p a = (((s.setPb 0x0300 16 true).setPb 0x0300 17 false).incPf 0x0301 0 16).p a :=
    (State.begin_p _ 24 0 [] (by omega) (by omega)).trans (State.mapSys_p _ _ a)
  have h0 : s.uvBegin.p 0x0300 = ((s.setPb 0x0300 16 true).setPb 0x0300 17 false).p 0x0300 :=
    (hp _ (by omega)).trans (State.p_setPf_other _ _ _ _ (by decide))
  refine ⟨?_, ?_, ?_⟩
  · rw [State.uvOn, State.pb, h0, ← State.pb, State.pb_setPb_bit _ _ _ (by decide) (by decide), State.pb_setPb_same _ _ _ _ (by decide)]
  · rw [State.pb, h0, ← State.pb, State.pb_setPb_same _ _ _ _ (by decide)]
  · rw [State.pf, hp _ (by omega), ← State.pf, State.pf_incPf _ _ _ _ (by decide), State.pf,
      State.p_setPb_other _ _ _ (by decide), State.p_setPb_other _ _ _ (by decide), ← State.pf]
    rfl

theorem hsUndervoltage_gives (s : State) (hawake : s.awake = true) (huv : s.uvOn = false) :
    ∃ u : State, Gives .hsUndervoltage s u ∧ u.uvOn = true ∧ u.pb 0x0300 17 = false ∧
      u.pf 0x0301 0 16 = Nat.min (s.pf 0x0301 0 16 + 1) 65535 ∧ u.holds 24 = true ∧
      ∀ n, n < 40 → u.pb (hsStat n) 0 = false ∧ (u.hs n).uvOff = true := by
  obtain ⟨hon, hstep, hcount⟩ := s.uvBegin_words
  obtain ⟨hhs, hconds⟩ := (s.uvBegin.each (List.range 40) State.hsUvHold).uvMotion_rest
  have hp (a : Nat) (h : a < 0x0600) : ((s.uvBegin.each (List.range 40) State.hsUvHold).uvMotion).p a = s.uvBegin.p a :=
    (State.uvMotion_p _ (.inl h)).trans (State.each_hsUvHold_supply _ (by omega))
  refine ⟨_, hsUndervoltage_eq s hawake huv, ?_, ?_, ?_, ?_, fun n hn => ?_⟩
  · rw [State.uvOn, State.pb, hp _ (by omega), ← State.pb]; exact hon
  · rw [State.pb, hp _ (by omega), ← State.pb]; exact hstep
  · rw [State.pf, hp _ (by omega), ← State.pf]; exact hcount
  · rw [State.holds_of_conds hconds, State.each_hsUvHold_holds]
    exact State.begin_holds _ 24 0 []
  · rw [State.hs_of_out hhs, State.pb, State.uvMotion_p _ (.inr (by simp only [hsStat]; omega)), ← State.pb]
    exact s.uvBegin.each_hsUvHold_allHeld n hn

/-! The staged restart (R122). -/

/-- A channel returns to its commanded state (R122). -/
def State.hsUvBack (t : State) (n : Nat) : State := (t.updHs n (fun h => { h with uvOff := false })).hsDrive n

theorem mem_restart {lo hi n : Nat} : n ∈ (List.range 40).filter (fun n => lo ≤ n && n < hi) ↔ n < 40 ∧ lo ≤ n ∧ n < hi := by
  simp

theorem State.hsUvBack_uvOff (s : State) (n : Nat) : ((s.hsUvBack n).hs n).uvOff = false :=
  (State.hsDrive_hs_same _ n).2.1.trans (congrArg HsCh.uvOff (s.updHs_same n _))

theorem State.hsUvBack_other (s : State) {n k : Nat} (h : k ≠ n) : (s.hsUvBack n).hs k = s.hs k :=
  (State.hsDrive_hs_other _ h).trans (s.updHs_other _ h)

/-- The channels of a restart step are held no longer, and the others stay as they are. -/
theorem State.uvReturn_hs (s : State) (lo hi : Nat) :
    (∀ n, n < 40 → lo ≤ n → n < hi → ((s.uvReturn lo hi).hs n).uvOff = false) ∧
    (∀ n, ¬(lo ≤ n ∧ n < hi) → (s.uvReturn lo hi).hs n = s.hs n) := by
  refine ⟨fun n hn hlo hhi => ?_, fun n hn => ?_⟩
  · refine (State.each_establishes (fun n t => (t.hs n).uvOff = false) (fun _ => True) State.hsUvBack _ s trivial
      (fun _ _ _ _ => trivial) (fun t n _ _ => t.hsUvBack_uvOff n) ?_).2 n (mem_restart.mpr ⟨hn, hlo, hhi⟩)
    intro t x y _ _ hy
    by_cases hne : y = x
    · subst hne; exact t.hsUvBack_uvOff y
    · rwa [t.hsUvBack_other hne]
  · refine State.each_keeps_mem (fun t => t.hs n) _ _ (fun t x hx => t.hsUvBack_other ?_) s
    rintro rfl
    exact hn (mem_restart.mp hx).2

theorem State.uvReturn_p (s : State) (lo hi : Nat) {a : Nat} (h : a < 0x2000) : (s.uvReturn lo hi).p a = s.p a :=
  State.each_keeps (fun t => t.p a) _ _ (fun t n => (State.hsDrive_p _ n a (by simp only [hsStat]; omega)
    (by simp only [hsPwmSh]; omega) (by simp only [hsPwm]; omega) (by omega)).trans (State.updHs_p t n _ a)) s

theorem State.uvReturn_sys (s : State) (lo hi : Nat) : (s.uvReturn lo hi).sys = s.sys := by simp [State.uvReturn]

theorem State.uvReturn_holds (s : State) (lo hi : Nat) : (s.uvReturn lo hi).holds 24 = s.holds 24 :=
  State.each_keeps (fun t => t.holds 24) _ State.hsUvBack (fun _ _ => State.hsDrive_holds _ (by decide)) s

/-- The marks of a restart that begins: the undervoltage is over, EV25 has occurred, and the first step is due (R122). -/
def State.uvRestart (s : State) : State :=
  ((((s.setPb 0x0300 16 false).setPb 0x0300 17 true).finishAll 24).raise 25 []).mapSys (fun y => { y with uvStep := 2 })

theorem State.uvRestart_word (s : State) : s.uvRestart.p 0x0300 = ((s.setPb 0x0300 16 false).setPb 0x0300 17 true).p 0x0300 := by
  rw [State.uvRestart, State.mapSys_p, State.raise_p _ 25 [] (by decide) (by decide), State.finishAll, State.mapEvt_p]

theorem State.uvRestart_holds (s : State) : s.uvRestart.holds 24 = false := by
  have hconds : s.uvRestart.evt.conds = (((s.setPb 0x0300 16 false).setPb 0x0300 17 true).finishAll 24).evt.conds := by
    rw [State.uvRestart, State.mapSys_evt, State.raise_conds]
  rw [State.holds_of_conds hconds, State.finishAll_holds]

theorem State.uvRestart_out (s : State) : s.uvRestart.out = s.out := by
  rw [State.uvRestart, State.mapSys_out, State.raise_keeps State.out (fun _ _ _ => rfl) (fun _ _ => rfl) (fun _ _ => rfl)
    (fun _ _ _ => rfl), State.finishAll, State.mapEvt_out, State.setPb_out, State.setPb_out]

theorem hsUvRestart_gives (s : State) (hawake : s.awake = true) (huv : s.uvOn = true) :
    ∃ u : State, Gives .hsUvRestart s u ∧ u.uvOn = false ∧ u.pb 0x0300 17 = true ∧ u.sys.uvStep = 2 ∧ u.holds 24 = false ∧
      (∀ n, n < 8 → (u.hs n).uvOff = false) ∧ (∀ n, 8 ≤ n → n < 40 → u.hs n = s.hs n) := by
  obtain ⟨hback, hrest⟩ := s.uvRestart.uvReturn_hs 0 8
  have hword : (s.uvRestart.uvReturn 0 8).p 0x0300 = ((s.setPb 0x0300 16 false).setPb 0x0300 17 true).p 0x0300 :=
    (State.uvReturn_p _ 0 8 (by omega)).trans s.uvRestart_word
  refine ⟨s.uvRestart.uvReturn 0 8, ?_, ?_, ?_, ?_, ?_, fun n hn => hback n (by omega) (by omega) hn, fun n hlo hhi => ?_⟩
  · change execHsUvRestart s = _
    unfold execHsUvRestart
    rw [if_pos (by simp [hawake, huv]), done, State.uvRestart]
  · rw [State.uvOn, State.pb, hword, ← State.pb, State.pb_setPb_bit _ _ _ (by decide) (by decide), State.pb_setPb_same _ _ _ _ (by decide)]
  · rw [State.pb, hword, ← State.pb, State.pb_setPb_same _ _ _ _ (by decide)]
  · rw [State.uvReturn_sys, State.uvRestart, State.mapSys_sys]
  · rw [State.uvReturn_holds, State.uvRestart_holds]
  · rw [hrest n (by omega)]
    exact State.hs_of_out (congrArg Outs.hs s.uvRestart_out) n

theorem hsRestartStep_next (s : State) {k lo hi : Nat} (hk : (k, lo, hi) = (2, 8, 24) ∨ (k, lo, hi) = (3, 24, 40))
    (hawake : s.awake = true) (hrestart : s.pb 0x0300 17 = true) (hstep : s.sys.uvStep = k) :
    ∃ u : State, Gives .hsRestartStep s u ∧ u.sys.uvStep = k + 1 ∧ (∀ n, lo ≤ n → n < hi → (u.hs n).uvOff = false) ∧
      (∀ n, ¬(lo ≤ n ∧ n < hi) → u.hs n = s.hs n) := by
  obtain ⟨hback, hrest⟩ := s.uvReturn_hs lo hi
  refine ⟨(s.uvReturn lo hi).mapSys (fun y => { y with uvStep := k + 1 }), ?_, by rw [State.mapSys_sys], fun n hlo hhi => hback n ?_ hlo hhi, hrest⟩
  · change execHsRestartStep s = _
    unfold execHsRestartStep
    rw [if_pos (by simp [hawake, hrestart]), hstep, done]
    rcases hk with hk | hk <;> · cases hk; rfl
  · rcases hk with hk | hk <;> · cases hk; omega

/-- The motors resume at the last step, unless overvoltage coast holds them (R122). -/
def State.motorsResume (s : State) (held : Bool) : State :=
  if held then s else s.each (List.range 4) (fun t m => t.motResume m)

theorem State.motorsResume_keeps {β : Type} (π : State → β) (hstat : ∀ t v, ∀ m < 4, π (State.setP t (motStat m) v) = π t)
    (hmot : ∀ t m f, π (State.updMot t m f) = π t) (s : State) (held : Bool) : π (s.motorsResume held) = π s :=
  State.ite_keeps π _ _ _ _ rfl (State.each_keeps_mem π _ _ (fun t m hm => t.motResume_keeps π m
    (fun t v => hstat t v m (List.mem_range.mp hm)) (fun t f => hmot t m f)) s)

theorem hsRestartStep_last (s : State) (hawake : s.awake = true) (hrestart : s.pb 0x0300 17 = true) (hstep : s.sys.uvStep = 4) :
    ∃ u : State, Gives .hsRestartStep s u ∧ u.sys.uvStep = 0 ∧ u.pb 0x0300 17 = false ∧ u.out.hs = s.out.hs := by
  refine ⟨((s.setPb 0x0300 17 false).mapSys (fun y => { y with uvStep := 0 })).motorsResume s.ovOn, ?_, ?_, ?_, ?_⟩
  · change execHsRestartStep s = _
    unfold execHsRestartStep
    rw [if_pos (by simp [hawake, hrestart]), hstep, done, State.motorsResume]
    rfl
  · rw [State.motorsResume_keeps (fun t => t.sys.uvStep) (fun _ _ _ _ => rfl) (fun _ _ _ => rfl), State.mapSys_sys]
  · rw [State.motorsResume_keeps (fun t => t.pb 0x0300 17) (fun t v m _ => congrArg (bit · 17) (t.p_setP_other _ (by
      simp only [motStat]; omega))) (fun _ _ _ => rfl), State.mapSys_pb, State.pb_setPb_same _ _ _ _ (by decide)]
  · rw [State.motorsResume_keeps (fun t => t.out.hs) (fun _ _ _ _ => rfl) (fun _ _ _ => rfl), State.mapSys_out, State.setPb_out]

end Sys2Proof.Machine

namespace Sys2Proof
open Machine

/-- Settles O16: each channel's hold and return, one by one, and what the motion, the valves and the events of the same command
leave of it. -/
theorem undervoltageAndStagedRestart : Obligations.UndervoltageAndStagedRestart := by
  refine ⟨hsUndervoltage_gives, hsUvRestart_gives, fun s hawake hrestart hstep => ?_, fun s hawake hrestart hstep => ?_,
    hsRestartStep_last⟩
  · obtain ⟨u, hgives, hnext, hback, hrest⟩ := hsRestartStep_next s (.inl rfl) hawake hrestart hstep
    exact ⟨u, hgives, hnext, hback, fun n _ _ => hrest n (by omega)⟩
  · obtain ⟨u, hgives, hnext, hback, hrest⟩ := hsRestartStep_next s (.inr rfl) hawake hrestart hstep
    exact ⟨u, hgives, hnext, hback, fun n _ => hrest n (by omega)⟩

end Sys2Proof

/-! A change made once for each entry of a list: what it does at one entry. -/
namespace Sys2Proof.Machine

/-- Where the changes for the other entries keep `κ`, the fold does to it what the change for its own entry does. -/
theorem State.each_one {α β : Type} (κ : State → β) (f : State → α → State) (x : α) (l : List α) (hl : l.Nodup) (hx : x ∈ l)
    (hother : ∀ t y, y ∈ l → y ≠ x → κ (f t y) = κ t) (s : State) : ∃ t, κ t = κ s ∧ κ (s.each l f) = κ (f t x) := by
  obtain ⟨l₁, l₂, rfl⟩ := List.append_of_mem hx
  have hsplit : s.each (l₁ ++ x :: l₂) f = ((f (s.each l₁ f) x).each l₂ f) := by simp [State.each]
  have hnot := List.nodup_middle.mp hl
  have hne : ∀ y ∈ l₁ ++ l₂, y ≠ x := fun y hy h => (List.nodup_cons.mp hnot).1 (h ▸ hy)
  refine ⟨s.each l₁ f, ?_, ?_⟩
  · exact State.each_keeps_mem κ f l₁ (fun t y hy => hother t y (by simp [hy]) (hne y (by simp [hy]))) s
  · rw [hsplit]
    exact State.each_keeps_mem κ f l₂ (fun t y hy => hother t y (by simp [hy]) (hne y (by simp [hy]))) _

/-- An event changes nothing of the supply block but a pending douse and a clear that was accepted (R277, R81). -/
theorem State.raise_sys (s : State) (e : Nat) (d : List Byte) :
    ∃ p c, (s.raise e d).sys = { s.sys with dousePend := p, clearDue := c } := by
  have hdouse (t : State) : ∃ p c, (t.douseBy e).sys = { t.sys with dousePend := p, clearDue := c } := by
    unfold State.douseBy
    split
    · exact ⟨_, _, by rw [State.mapEvt_sys, State.setPb_sys]⟩
    · exact ⟨t.sys.dousePend, false, by rw [State.mapSys_sys, State.setPb_sys]⟩
    · split
      · exact ⟨true, t.sys.clearDue, by rw [State.mapSys_sys, State.setPb_sys]⟩
      · exact ⟨_, _, rfl⟩
    · exact ⟨_, _, rfl⟩
  have hspans (t : State) (sev : Nat) : (t.countSpans e sev).sys = t.sys :=
    State.countSpans_keeps State.sys (fun _ _ _ => rfl) t e sev
  unfold State.raise
  split
  · unfold State.occurs
    dsimp only
    split
    · obtain ⟨p, c, h⟩ := hdouse (((s.setPb (0x0600 + e / 32) (e % 32) true).mapEvt (fun v => { v with
        occ := addOcc e (s.evSev e) s.island.rtc (detail d) v.occ
        held := Tbl.put 0 v.held e (Nat.max (Tbl.get 0 s.evt.held e) (s.evSev e)) })).countSpans e (s.evSev e))
      exact ⟨p, c, by rw [h, hspans, State.mapEvt_sys, State.setPb_sys]⟩
    · exact ⟨_, _, by rw [hspans, State.mapEvt_sys, State.setPb_sys]⟩
  · exact ⟨_, _, rfl⟩

theorem State.begin_sys (s : State) (e item : Nat) (d : List Byte) :
    ∃ p c, (s.begin e item d).sys = { s.sys with dousePend := p, clearDue := c } := by
  unfold State.begin
  split
  · exact ⟨_, _, rfl⟩
  · obtain ⟨p, c, h⟩ := State.raise_sys (s.mapEvt (fun v => { v with conds := (e, item, d) :: v.conds })) e d
    exact ⟨p, c, by rw [h, State.mapEvt_sys]⟩

/-- An event begins without a change of what its latch, its record and the spans' counts do not touch. -/
theorem State.begin_keeps {β : Type} (π : State → β) (hparam : ∀ t a v, π (State.setP t a v) = π t)
    (hevt : ∀ t f, π (State.mapEvt t f) = π t) (hsys : ∀ t f, π (State.mapSys t f) = π t)
    (hinst : ∀ t n f, π (State.updInst t n f) = π t) (s : State) (e item : Nat) (d : List Byte) :
    π (s.begin e item d) = π s :=
  State.ite_keeps π _ _ _ _ rfl ((State.raise_keeps π hparam hevt hsys hinst _ e d).trans (hevt _ _))

end Sys2Proof.Machine

/-! Overvoltage coast (R117, R660). -/
namespace Sys2Proof.Machine

theorem State.hb_of_out {s t : State} (h : t.out.hb = s.out.hb) (b : Nat) : t.hb b = s.hb b := by rw [State.hb, State.hb, h]

theorem State.mot_of_out {s t : State} (h : t.out.mot = s.out.mot) (m : Nat) : t.mot m = s.mot m := by rw [State.mot, State.mot, h]

/-- A bridge as its own chapter sees it: what it is doing, and its status word. -/
def State.bridge (s : State) (b : Nat) : HbCh × Nat := (s.hb b, s.p (hbStat b))

/-- A motor as its own chapter sees it. -/
def State.motor (s : State) (m : Nat) : MotCh × Nat := (s.mot m, s.p (motStat m))

theorem State.hbState_of_bridge {s t : State} {b : Nat} (h : t.bridge b = s.bridge b) : t.hbState b = s.hbState b := by
  rw [State.hbState, State.hbState, State.pf, State.pf, (Prod.mk.inj h).2]

theorem State.motState_of_motor {s t : State} {m : Nat} (h : t.motor m = s.motor m) : t.motState m = s.motState m := by
  rw [State.motState, State.motState, State.pf, State.pf, (Prod.mk.inj h).2]

/-- What the hold of a bridge keeps: all but its own words, EV30 and its counts, and what MRAM keeps of it. -/
theorem State.hbHold_keeps {β : Type} (π : State → β) (b : Nat) (hstat : ∀ t v, π (State.setP t (hbStat b) v) = π t)
    (hhb : ∀ t f, π (State.updHb t b f) = π t) (hnvm : ∀ t f, π (State.mapNvm t f) = π t)
    (hev30 : ∀ t d, π (State.raise t 30 d) = π t) (s : State) : π (s.hbHold b) = π s := by
  have hput (t : State) (st : Nat) : π (t.hbPut b st) = π t := hstat _ _
  unfold State.hbHold
  dsimp only
  split
  · exact (hnvm _ _).trans ((hstat _ _).trans ((hput _ _).trans (hhb _ _)))
  · refine State.ite_keeps π _ _ _ _ ?_ rfl
    unfold State.hbBraked
    dsimp only
    refine State.ite_keeps π _ _ _ _ ?_ ((hnvm _ _).trans (hput _ _))
    exact (hev30 _ _).trans ((hput _ _).trans (State.hbEnds_keeps π b hstat hhb hnvm s 4))

/-- A bridge that drives a move coasts, and its move is held (R117). -/
theorem State.hbHold_moves (s : State) {b : Nat} (h : (s.hb b).move.isSome = true) :
    ((s.hbHold b).hb b).held = (s.hb b).move ∧ ((s.hbHold b).hb b).move = none ∧ (s.hbHold b).hbState b = 0 := by
  obtain ⟨m, hm⟩ := Option.isSome_iff_exists.mp h
  have heq : s.hbHold b = (((s.updHb b (fun h => { h with move := none, held := some m })).hbPut b 0).setPb (hbStat b) 7
      false).hbKeep b := by unfold State.hbHold; dsimp only; rw [hm]
  have hhb : (s.hbHold b).hb b = { s.hb b with move := none, held := some m } := by
    rw [heq, State.hbKeep, State.hb_of_out (congrArg Outs.hb (State.mapNvm_out _ _)),
      State.hb_of_out (congrArg Outs.hb (State.setPb_out _ _ _ _)), State.hbPut,
      State.hb_of_out (congrArg Outs.hb (State.setPf_out _ _ _ _ _)), State.updHb_same]
  refine ⟨by rw [hhb, hm], by rw [hhb], ?_⟩
  rw [heq, State.hbKeep, State.hbState, State.mapNvm_pf, State.setPb, State.pf_setPf_below _ _ _ _ _ _ _ (by decide) (by decide),
    State.hbPut, State.pf_setPf_same _ _ _ _ _ (by decide), Nat.zero_mod]

/-- Another bridge's words and channel. -/
theorem State.hbHold_other (s : State) {b k : Nat} (h : k ≠ b) : (s.hbHold b).bridge k = s.bridge k :=
  have hne : hbStat k ≠ hbStat b := by simp only [hbStat]; omega
  State.hbHold_keeps (fun t => t.bridge k) b (fun t _ => congrArg (Prod.mk _) (t.p_setP_other _ hne))
    (fun t _ => congrArg (·, _) (t.updHb_other _ h)) (fun _ _ => rfl)
    (fun t d => Prod.ext (State.hb_of_out (congrArg Outs.hb (State.raise_keeps State.out (fun _ _ _ => rfl) (fun _ _ => rfl)
      (fun _ _ => rfl) (fun _ _ _ => rfl) t 30 d)) k)
      (State.raise_p t 30 d (by simp only [hbStat]; omega) (by simp only [hbStat]; omega))) s

/-- Motors: a hold leaves each one in FAULT or in coast (R117). -/
theorem State.motHold_state (s : State) (m : Nat) : (s.motHold m).motState m = 7 ∨ (s.motHold m).motState m = 0 := by
  have hput (t : State) : (t.motPut m 0).motState m = 0 := State.pf_setPf_same t _ _ _ _ (by decide)
  unfold State.motHold State.motCoast
  dsimp only
  split_ifs with hfault
  · exact .inl hfault
  · exact .inr (hput _)
  · exact .inr (hput _)
  · exact .inr (hput _)

/-- Another motor. -/
theorem State.motHold_other (s : State) {m k : Nat} (h : k ≠ m) : (s.motHold m).motor k = s.motor k :=
  State.motHold_keeps (fun t => t.motor k) m (fun t _ => congrArg (Prod.mk _) (t.p_setP_other _ (by simp only [motStat]; omega)))
    (fun t _ => congrArg (·, _) (t.updMot_other _ h)) s

/-- Overvoltage coast holds every bridge and motor (R117). -/
def State.ovCoast (s : State) : State :=
  ((s.setPb 0x0300 18 true).each (List.range 8) (fun t b => t.hbHold b)).each (List.range 4) (fun t m => t.motHold m)

theorem State.ovCoast_keeps {β : Type} (π : State → β) (hbstat : ∀ t v, ∀ b < 8, π (State.setP t (hbStat b) v) = π t)
    (hmstat : ∀ t v, ∀ m < 4, π (State.setP t (motStat m) v) = π t) (hhb : ∀ t b f, π (State.updHb t b f) = π t)
    (hmot : ∀ t m f, π (State.updMot t m f) = π t) (hnvm : ∀ t f, π (State.mapNvm t f) = π t)
    (hev30 : ∀ t d, π (State.raise t 30 d) = π t) (s : State) : π s.ovCoast = π (s.setPb 0x0300 18 true) := by
  unfold State.ovCoast
  rw [State.each_keeps_mem π _ _ (fun t m hm => t.motHold_keeps π m (fun t v => hmstat t v m (List.mem_range.mp hm))
    (fun t f => hmot t m f)) _]
  exact State.each_keeps_mem π _ _ (fun t b hb => t.hbHold_keeps π b (fun t v => hbstat t v b (List.mem_range.mp hb))
    (fun t f => hhb t b f) hnvm hev30) _

theorem State.raise_out (s : State) (e : Nat) (d : List Byte) : (s.raise e d).out = s.out :=
  State.raise_keeps State.out (fun _ _ _ => rfl) (fun _ _ => rfl) (fun _ _ => rfl) (fun _ _ _ => rfl) s e d

theorem ovCoastEntry_gives (s : State) (mv : Nat) (hawake : s.awake = true) (hov : s.ovOn = false) (hmv : mv ≤ 58000) :
    ∃ t : State, Gives (.ovCoastEntry mv) s t ∧ t.ovOn = true ∧ t.out.hs = s.out.hs ∧ t.out.vlv = s.out.vlv ∧
      (∀ b, b < 8 → (s.hb b).move.isSome = true → (t.hb b).held = (s.hb b).move ∧ (t.hb b).move = none ∧ t.hbState b = 0) ∧
      (∀ m, m < 4 → t.motState m = 7 ∨ t.motState m = 0) := by
  refine ⟨s.ovCoast, ?_, ?_, ?_, ?_, fun b hb hmove => ?_, fun m hm => ?_⟩
  · change execOvCoastEntry mv s = _
    unfold execOvCoastEntry
    rw [if_pos (by simp [hawake, hov]), rated_of_le hmv, done, State.ovCoast]
  · rw [State.ovOn, State.ovCoast_keeps (fun t => t.pb 0x0300 18)
      (fun t v b _ => congrArg (bit · 18) (t.p_setP_other _ (by simp only [hbStat]; omega)))
      (fun t v m _ => congrArg (bit · 18) (t.p_setP_other _ (by simp only [motStat]; omega))) (fun _ _ _ => rfl)
      (fun _ _ _ => rfl) (fun _ _ => rfl) (fun t d => congrArg (bit · 18) (t.raise_p 30 d (by decide) (by decide))),
      State.pb_setPb_same _ _ _ _ (by decide)]
  · rw [State.ovCoast_keeps (fun t => t.out.hs) (fun _ _ _ _ => rfl) (fun _ _ _ _ => rfl) (fun _ _ _ => rfl)
      (fun _ _ _ => rfl) (fun _ _ => rfl) (fun t d => congrArg Outs.hs (t.raise_out 30 d)), State.setPb_out]
  · rw [State.ovCoast_keeps (fun t => t.out.vlv) (fun _ _ _ _ => rfl) (fun _ _ _ _ => rfl) (fun _ _ _ => rfl)
      (fun _ _ _ => rfl) (fun _ _ => rfl) (fun t d => congrArg Outs.vlv (t.raise_out 30 d)), State.setPb_out]
  · obtain ⟨t, ht, hafter⟩ := State.each_one (fun t => t.bridge b) (fun t b => t.hbHold b) b (List.range 8) List.nodup_range
      (List.mem_range.mpr hb) (fun t y _ hy => t.hbHold_other hy.symm) (s.setPb 0x0300 18 true)
    have hkept : s.ovCoast.bridge b = (t.hbHold b).bridge b :=
      (State.each_keeps (fun t => t.bridge b) _ _ (fun t m => t.motHold_keeps (fun t => t.bridge b) m
        (fun t v => congrArg (Prod.mk _) (t.p_setP_other _ (by simp only [hbStat, motStat]; omega))) (fun _ _ => rfl)) _).trans hafter
    have hstart : t.hb b = s.hb b :=
      (Prod.mk.inj ht).1.trans (State.hb_of_out (congrArg Outs.hb (State.setPb_out _ _ _ _)) b)
    rw [State.hbState_of_bridge hkept, (Prod.mk.inj hkept).1, ← hstart]
    exact t.hbHold_moves (by rw [hstart]; exact hmove)
  · obtain ⟨t, -, hafter⟩ := State.each_one (fun t => t.motor m) (fun t m => t.motHold m) m (List.range 4) List.nodup_range
      (List.mem_range.mpr hm) (fun t y _ hy => t.motHold_other hy.symm) ((s.setPb 0x0300 18 true).each (List.range 8) (fun t b => t.hbHold b))
    rw [State.ovCoast, State.motState_of_motor hafter]
    exact t.motHold_state m

/-- What the resumption of a bridge keeps. -/
theorem State.hbGo_keeps {β : Type} (π : State → β) (b : Nat) (hstat : ∀ t v, π (State.setP t (hbStat b) v) = π t)
    (hhb : ∀ t f, π (State.updHb t b f) = π t) (hnvm : ∀ t f, π (State.mapNvm t f) = π t) (s : State) (m : Move) :
    π (s.hbGo b m) = π s := by
  have hput (t : State) (st : Nat) : π (t.hbPut b st) = π t := hstat _ _
  have hfirst : π ((if (s.hb b).backing then s else s.setPf (hbStat b) 3 4 0).updHb b (fun h => { h with judged := none })) = π s :=
    (hhb _ _).trans (State.ite_keeps π _ _ _ _ rfl (hstat _ _))
  unfold State.hbGo
  refine State.ite_keeps π _ _ _ _ ?_ (State.ite_keeps π _ _ _ _ ?_ ?_)
  · exact (hput _ _).trans ((State.hbEnds_keeps π b hstat hhb hnvm _ 8).trans hfirst)
  · exact (hput _ _).trans ((hhb _ _).trans hfirst)
  · exact (hput _ _).trans ((hhb _ _).trans hfirst)

theorem State.hbResume_keeps {β : Type} (π : State → β) (b : Nat) (hstat : ∀ t v, π (State.setP t (hbStat b) v) = π t)
    (hhb : ∀ t f, π (State.updHb t b f) = π t) (hnvm : ∀ t f, π (State.mapNvm t f) = π t) (s : State) :
    π (s.hbResume b) = π s := by
  unfold State.hbResume
  split
  · exact State.hbGo_keeps π b hstat hhb hnvm s _
  · rfl

/-- With neither overvoltage nor undervoltage a bridge drives its move. -/
theorem State.hbGo_drives (s : State) {b : Nat} (m : Move) (hov : s.ovOn = false) (huv : s.uvOn = false) :
    ((s.hbGo b m).hb b).move = some m ∧ ((s.hbGo b m).hb b).next = none ∧ ((s.hbGo b m).hb b).held = none ∧
      ((s.hbGo b m).hb b).dir = m.dir ∧ (s.hbGo b m).hbState b = m.dir % 8 := by
  have heq : s.hbGo b m = ((((if (s.hb b).backing then s else s.setPf (hbStat b) 3 4 0).updHb b (fun h => { h with judged := none })).updHb b
      (fun h => { h with move := some m, next := none, held := none, dir := m.dir })).hbPut b m.dir) := by
    unfold State.hbGo
    dsimp only
    rw [if_neg (by simp [huv]), if_neg (by simp [hov])]
  have hhb : ((s.hbGo b m).hb b) = { (((if (s.hb b).backing then s else s.setPf (hbStat b) 3 4 0).updHb b
      (fun h => { h with judged := none })).hb b) with move := some m, next := none, held := none, dir := m.dir } := by
    rw [heq, State.hbPut, State.hb_of_out (congrArg Outs.hb (State.setPf_out _ _ _ _ _)), State.updHb_same]
  refine ⟨by rw [hhb], by rw [hhb], by rw [hhb], by rw [hhb], ?_⟩
  exact heq ▸ State.pf_setPf_same _ _ _ _ _ (by decide)

/-- The end of overvoltage coast: the held moves resume, and the motors unless an undervoltage or its restart still holds them. -/
def State.ovEnd (s : State) : State :=
  let s1 := (s.setPb 0x0300 18 false).each (List.range 8) (fun t b => t.hbResume b)
  if s1.motHeld then s1 else s1.each (List.range 4) (fun t m => t.motResume m)

theorem State.motResume_keeps_mem {β : Type} (π : State → β) (hmstat : ∀ t v, ∀ m < 4, π (State.setP t (motStat m) v) = π t)
    (hmot : ∀ t m f, π (State.updMot t m f) = π t) (s : State) :
    π (s.each (List.range 4) (fun t m => t.motResume m)) = π s :=
  State.each_keeps_mem π _ _ (fun t m hm => t.motResume_keeps π m (fun t v => hmstat t v m (List.mem_range.mp hm))
    (fun t f => hmot t m f)) s

theorem State.ovEnd_keeps {β : Type} (π : State → β) (hbstat : ∀ t v, ∀ b < 8, π (State.setP t (hbStat b) v) = π t)
    (hmstat : ∀ t v, ∀ m < 4, π (State.setP t (motStat m) v) = π t) (hhb : ∀ t b f, π (State.updHb t b f) = π t)
    (hmot : ∀ t m f, π (State.updMot t m f) = π t) (hnvm : ∀ t f, π (State.mapNvm t f) = π t) (s : State) :
    π s.ovEnd = π (s.setPb 0x0300 18 false) := by
  have hfirst : π ((s.setPb 0x0300 18 false).each (List.range 8) (fun t b => t.hbResume b)) = π (s.setPb 0x0300 18 false) :=
    State.each_keeps_mem π _ _ (fun t b hb => t.hbResume_keeps π b (fun t v => hbstat t v b (List.mem_range.mp hb))
      (fun t f => hhb t b f) hnvm) _
  exact State.ite_keeps π _ _ _ _ hfirst ((State.motResume_keeps_mem π hmstat hmot _).trans hfirst)

theorem State.hbResume_supply (s : State) (b : Nat) {a : Nat} (h : a < 0x2400) : (s.hbResume b).p a = s.p a :=
  State.hbResume_keeps (fun t => t.p a) b (fun t _ => t.p_setP_other _ (by simp only [hbStat]; omega)) (fun _ _ => rfl)
    (fun _ _ => rfl) s

theorem State.hbResume_other (s : State) {b k : Nat} (h : k ≠ b) : (s.hbResume b).bridge k = s.bridge k :=
  State.hbResume_keeps (fun t => t.bridge k) b
    (fun t _ => congrArg (Prod.mk _) (t.p_setP_other _ (by simp only [hbStat]; omega)))
    (fun t _ => congrArg (·, _) (t.updHb_other _ h)) (fun _ _ => rfl) s

theorem State.motResume_other (s : State) {m k : Nat} (h : k ≠ m) : (s.motResume m).motor k = s.motor k :=
  State.motResume_keeps (fun t => t.motor k) m (fun t _ => congrArg (Prod.mk _) (t.p_setP_other _ (by simp only [motStat]; omega)))
    (fun t _ => congrArg (·, _) (t.updMot_other _ h)) s

theorem ovCoastExit_gives (s : State) (hov : s.ovOn = true) :
    ∃ u : State, Gives .ovCoastExit s u ∧ u.ovOn = false ∧ u.out.hs = s.out.hs ∧
      (s.uvOn = false → ∀ b m, b < 8 → (s.hb b).held = some m → (u.hb b).move = some m ∧ u.hbState b = m.dir % 8) ∧
      (s.uvOn = false → s.pb 0x0300 17 = false → ∀ m, m < 4 → s.motState m ≠ 7 → (s.mot m).held = true →
        u.motState m = 1) := by
  have hflag (t : State) (h : t.p 0x0300 = (s.setPb 0x0300 18 false).p 0x0300) (huv : s.uvOn = false) :
      t.ovOn = false ∧ t.uvOn = false := by
    rw [State.ovOn, State.uvOn, State.pb, State.pb, h, ← State.pb, ← State.pb, State.pb_setPb_same _ _ _ _ (by decide),
      State.pb_setPb_bit _ _ _ (by decide) (by decide)]
    exact ⟨rfl, huv⟩
  refine ⟨s.ovEnd, ?_, ?_, ?_, fun huv b m hb hheld => ?_, fun huv hstep m hm hstate hheld => ?_⟩
  · change execOvCoastExit s = _
    unfold execOvCoastExit
    rw [if_pos hov, done, State.ovEnd]
  · rw [State.ovOn, State.ovEnd_keeps (fun t => t.pb 0x0300 18)
      (fun t v b _ => congrArg (bit · 18) (t.p_setP_other _ (by simp only [hbStat]; omega)))
      (fun t v m _ => congrArg (bit · 18) (t.p_setP_other _ (by simp only [motStat]; omega))) (fun _ _ _ => rfl)
      (fun _ _ _ => rfl) (fun _ _ => rfl), State.pb_setPb_same _ _ _ _ (by decide)]
  · rw [State.ovEnd_keeps (fun t => t.out.hs) (fun _ _ _ _ => rfl) (fun _ _ _ _ => rfl) (fun _ _ _ => rfl)
      (fun _ _ _ => rfl) (fun _ _ => rfl), State.setPb_out]
  · obtain ⟨t, ht, hafter⟩ := State.each_one (fun t => (t.bridge b, t.p 0x0300)) (fun t b => t.hbResume b) b (List.range 8)
      List.nodup_range (List.mem_range.mpr hb)
      (fun t y _ hy => Prod.ext (t.hbResume_other hy.symm) (t.hbResume_supply y (by omega))) (s.setPb 0x0300 18 false)
    obtain ⟨hbridge, hword⟩ := Prod.mk.inj ht
    have hkept : s.ovEnd.bridge b = (t.hbResume b).bridge b :=
      (State.ite_keeps (fun t => t.bridge b) _ _ _ _ rfl (State.motResume_keeps_mem (fun t => t.bridge b)
        (fun t v m _ => congrArg (Prod.mk _) (t.p_setP_other _ (by simp only [hbStat, motStat]; omega))) (fun _ _ _ => rfl) _)).trans
        (Prod.mk.inj hafter).1
    have hstart : t.hb b = s.hb b :=
      (Prod.mk.inj hbridge).1.trans (State.hb_of_out (congrArg Outs.hb (State.setPb_out _ _ _ _)) b)
    have hgo : t.hbResume b = t.hbGo b m := by rw [State.hbResume, hstart, hheld]
    obtain ⟨hovt, huvt⟩ := hflag t hword huv
    obtain ⟨hmove, -, -, -, hdir⟩ := t.hbGo_drives (b := b) m hovt huvt
    rw [State.hbState_of_bridge hkept, (Prod.mk.inj hkept).1, hgo]
    exact ⟨hmove, hdir⟩
  · have hword : ((s.setPb 0x0300 18 false).each (List.range 8) (fun t b => t.hbResume b)).p 0x0300 =
        (s.setPb 0x0300 18 false).p 0x0300 :=
      State.each_keeps (fun t => t.p 0x0300) _ _ (fun t b => t.hbResume_supply b (by omega)) _
    obtain ⟨hovt, huvt⟩ := hflag _ hword huv
    have hstept : ((s.setPb 0x0300 18 false).each (List.range 8) (fun t b => t.hbResume b)).pb 0x0300 17 = false := by
      rw [State.pb, hword, ← State.pb, State.pb_setPb_bit _ _ _ (by decide) (by decide), hstep]
    obtain ⟨t, ht, hafter⟩ := State.each_one (fun t => t.motor m) (fun t m => t.motResume m) m (List.range 4) List.nodup_range
      (List.mem_range.mpr hm) (fun t y _ hy => t.motResume_other hy.symm)
      ((s.setPb 0x0300 18 false).each (List.range 8) (fun t b => t.hbResume b))
    have hmotor : t.motor m = s.motor m := by
      rw [ht, State.each_keeps_mem (fun t => t.motor m) (fun t b => t.hbResume b) (List.range 8) (fun t b hb =>
        t.hbResume_keeps (fun t => t.motor m) b (fun t v => congrArg (Prod.mk _) (t.p_setP_other _ (by
          have := List.mem_range.mp hb; simp only [hbStat, motStat]; omega))) (fun _ _ => rfl) (fun _ _ => rfl))]
      exact Prod.ext (State.mot_of_out (congrArg Outs.mot (State.setPb_out _ _ _ _)) m)
        (State.p_setPb_other _ _ _ (by simp only [motStat]; omega))
    have hresume : t.motResume m = (t.updMot m (fun y => { y with held := false })).motPut m 1 := by
      unfold State.motResume
      dsimp only
      rw [if_neg (by rw [State.motState_of_motor hmotor]; exact hstate), (Prod.mk.inj hmotor).1, if_pos hheld]
    rw [State.ovEnd, if_neg (by simp [State.motHeld, hovt, huvt, hstept]), State.motState_of_motor hafter, hresume]
    exact State.pf_setPf_same _ _ _ _ _ (by decide)

/-! The external reference (R35, R36). -/

theorem extRefLockTimeout_gives (s : State) (hfull : s.full = true) (hon : s.pb 0x0102 0 = true) :
    Gives .extRefLockTimeout s ((s.setPb 0x0102 1 false).mapSys (fun y => { y with serdes := 1 })) := by
  change execExtRefLockTimeout s = _
  unfold execExtRefLockTimeout
  rw [if_pos (by simp [hfull, hon]), done]

/-- A ring in use is reported as broken (R36). -/
def State.refBreak (t : State) (r : Nat) : State :=
  if t.pb (ringStat r) 6 then t else ((t.setPb (ringStat r) 6 true).begin (2 + r) r []).incPf (0x1008 + r) 16 8

theorem State.refBreak_p (s : State) {r a : Nat} (hr : r < 4) (h : a ≠ ringStat r) (h' : a ≠ 0x1008 + r) (hlatch : a ≠ 0x0600)
    (hrec : a ≠ 0x060C) : (s.refBreak r).p a = s.p a := by
  have h0 : (2 + r) / 32 = 0 := by omega
  refine State.ite_keeps (fun t => t.p a) _ _ _ _ rfl ((State.p_setPf_other _ _ _ _ h').trans ?_)
  rw [State.begin_p _ _ _ _ (by rw [h0]; exact hlatch) (by rw [h0]; exact hrec), State.p_setPb_other _ _ _ h]

theorem State.refBreak_broken (s : State) {r : Nat} (hr : r < 4) : (s.refBreak r).pb (ringStat r) 6 = true ∧
    (s.pb (ringStat r) 6 = false → (s.refBreak r).pf (0x1008 + r) 16 8 = Nat.min (s.pf (0x1008 + r) 16 8 + 1) 255) := by
  have h0 : (2 + r) / 32 = 0 := by omega
  unfold State.refBreak
  split
  · rename_i h
    exact ⟨h, fun h' => absurd (h.symm.trans h') (by decide)⟩
  · refine ⟨?_, fun _ => ?_⟩
    · rw [State.pb, State.incPf, State.p_setPf_other _ _ _ _ (by simp only [ringStat]; omega),
        State.begin_p _ _ _ _ (by simp only [ringStat]; omega) (by simp only [ringStat]; omega), ← State.pb,
        State.pb_setPb_same _ _ _ _ (by decide)]
    · rw [State.pf_incPf _ _ _ _ (by decide), State.pf, State.begin_p _ _ _ _ (by omega) (by omega),
        State.p_setPb_other _ _ _ (by simp only [ringStat]; omega), ← State.pf]
      rfl

/-- The rings in use that a lost reference breaks. -/
def State.ringsUsed (s : State) : List Nat := (List.range 4).filter (fun r => s.ringOn r && s.pf (ringStat r) 0 6 != 0)

theorem State.mem_ringsUsed {s : State} {r : Nat} : r ∈ s.ringsUsed ↔ s.ringOn r = true ∧ s.pf (ringStat r) 0 6 ≠ 0 := by
  simp only [State.ringsUsed, List.mem_filter, List.mem_range, Bool.and_eq_true, bne_iff_ne, ne_eq, and_iff_right_iff_imp,
    State.ringOn, decide_eq_true_eq]
  exact fun h => h.1.1

theorem State.ringsUsed_lt {s : State} {r : Nat} (h : r ∈ s.ringsUsed) : r < 4 := by simpa using (List.mem_filter.mp h).1

/-- The reference is lost: the lanes run from the crystal, and each ring in use breaks (R36). -/
def State.refLost (s : State) : State :=
  ((s.setPb 0x0102 1 false).mapSys (fun y => { y with serdes := 1 })).each s.ringsUsed State.refBreak

theorem extRefLost_gives (s : State) (hfull : s.full = true) (hon : s.pb 0x0102 0 = true) :
    ∃ u : State, Gives .extRefLost s u ∧ u.pb 0x0102 1 = false ∧ u.sys.serdes = 1 ∧ u.out = s.out ∧ u.nvm = s.nvm ∧
      ∀ r, s.ringOn r = true → s.pf (ringStat r) 0 6 ≠ 0 → u.pb (ringStat r) 6 = true ∧
        (s.pb (ringStat r) 6 = false → u.pf (0x1008 + r) 16 8 = Nat.min (s.pf (0x1008 + r) 16 8 + 1) 255) := by
  have hkeep {β : Type} (π : State → β) (hparam : ∀ t a v, π (State.setP t a v) = π t)
      (hevt : ∀ t f, π (State.mapEvt t f) = π t) (hsys : ∀ t f, π (State.mapSys t f) = π t)
      (hinst : ∀ t n f, π (State.updInst t n f) = π t) : π s.refLost = π s :=
    (State.each_keeps π _ _ (fun t r => State.ite_keeps π _ _ _ _ rfl ((hparam _ _ _).trans
      ((State.begin_keeps π hparam hevt hsys hinst _ _ _ _).trans (hparam _ _ _)))) _).trans ((hsys _ _).trans (hparam _ _ _))
  refine ⟨s.refLost, ?_, ?_, ?_, hkeep State.out (fun _ _ _ => rfl) (fun _ _ => rfl) (fun _ _ => rfl) (fun _ _ _ => rfl),
    hkeep State.nvm (fun _ _ _ => rfl) (fun _ _ => rfl) (fun _ _ => rfl) (fun _ _ _ => rfl), fun r hring hfound => ?_⟩
  · change execExtRefLost s = _
    unfold execExtRefLost
    rw [if_pos (by simp [hfull, hon]), done]
    rfl
  · rw [State.refLost, State.pb, State.each_keeps_mem (fun t => t.p 0x0102) _ _ (fun t r hr => t.refBreak_p (s.ringsUsed_lt hr)
      (by simp only [ringStat]; omega) (by omega) (by decide) (by decide)), State.mapSys_p, ← State.pb,
      State.pb_setPb_same _ _ _ _ (by decide)]
  · rw [State.refLost, State.each_keeps (fun t => t.sys.serdes) _ _ (fun t r => ?_), State.mapSys_sys]
    refine State.ite_keeps (fun t => t.sys.serdes) _ _ _ _ rfl ?_
    obtain ⟨p, c, hsys⟩ := (t.setPb (ringStat r) 6 true).begin_sys (2 + r) r []
    rw [State.incPf, State.setPf_sys, hsys, State.setPb_sys]
  · have hmem : r ∈ s.ringsUsed := s.mem_ringsUsed.mpr ⟨hring, hfound⟩
    have hr := s.ringsUsed_lt hmem
    obtain ⟨t, ht, hafter⟩ := State.each_one (fun t => (t.p (ringStat r), t.p (0x1008 + r))) State.refBreak r s.ringsUsed
      (List.nodup_range.filter _) hmem
      (fun t y hy hne => Prod.ext
        (t.refBreak_p (s.ringsUsed_lt hy) (by simp only [ringStat]; omega) (by simp only [ringStat]; have := s.ringsUsed_lt hy; omega)
          (by simp only [ringStat]; omega) (by simp only [ringStat]; omega))
        (t.refBreak_p (s.ringsUsed_lt hy) (by simp only [ringStat]; have := s.ringsUsed_lt hy; omega) (by omega) (by omega) (by omega)))
      ((s.setPb 0x0102 1 false).mapSys (fun y => { y with serdes := 1 }))
    obtain ⟨hstat, hcount⟩ := Prod.mk.inj ht
    rw [State.mapSys_p, State.p_setPb_other _ _ _ (by simp only [ringStat]; omega)] at hstat
    rw [State.mapSys_p, State.p_setPb_other _ _ _ (by omega)] at hcount
    obtain ⟨hstat', hcount'⟩ := Prod.mk.inj hafter
    obtain ⟨hbroken, hcounted⟩ := t.refBreak_broken hr
    rw [State.pb, State.pf, State.refLost, hstat', hcount', ← State.pb, ← State.pf]
    refine ⟨hbroken, fun h => ?_⟩
    rw [hcounted (by rw [State.pb, hstat, ← State.pb]; exact h), State.pf, hcount, ← State.pf]

end Sys2Proof.Machine

namespace Sys2Proof
open Machine

/-- Settles O17: what one change does at its own bridge, motor or ring, and that the changes for the others leave it. -/
theorem overvoltageCoastAndExternalReference : Obligations.OvervoltageCoastAndExternalReference :=
  ⟨ovCoastEntry_gives, ovCoastExit_gives, extRefLockTimeout_gives, extRefLost_gives⟩

end Sys2Proof

/-! Reading a field after another one of the same word is stored. -/
namespace Sys2Proof.Machine

theorem State.pf_setPf_apart (s : State) (a lo wid v : Nat) {l w : Nat} (h : lo + wid ≤ 32) (h' : l + w ≤ lo ∨ lo + wid ≤ l) :
    (s.setPf a lo wid v).pf a l w = s.pf a l w :=
  h'.elim (s.pf_setPf_below a lo wid v l w h) (s.pf_setPf_above a lo wid v l w h)

theorem State.pf_setPb_apart (s : State) (a lo : Nat) (b : Bool) {l w : Nat} (h : lo < 32) (h' : l + w ≤ lo ∨ lo < l) :
    (s.setPb a lo b).pf a l w = s.pf a l w := s.pf_setPf_apart a lo 1 _ (by omega) (by omega)

theorem State.pf_setPb_other (s : State) {a c : Nat} (lo l w : Nat) (b : Bool) (h : c ≠ a) :
    (s.setPb a lo b).pf c l w = s.pf c l w := s.pf_setPf_other lo 1 _ l w h

theorem State.pb_setPf_apart (s : State) (a lo wid v : Nat) {l : Nat} (h : lo + wid ≤ 32) (h' : l < lo ∨ lo + wid ≤ l) :
    (s.setPf a lo wid v).pb a l = s.pb a l := by
  have e := s.pf_setPf_apart a lo wid v (l := l) (w := 1) h (by omega)
  rw [State.pf, State.pf] at e
  rw [State.pb, State.pb, bit_eq_fld, bit_eq_fld, e]

theorem State.pb_setPf_other (s : State) {a c : Nat} (lo wid v l : Nat) (h : c ≠ a) :
    (s.setPf a lo wid v).pb c l = s.pb c l := by rw [State.pb, s.p_setPf_other lo wid v h, State.pb]

theorem State.raise_pf (s : State) (e : Nat) (d : List Byte) {a : Nat} (l w : Nat) (h : a ≠ 0x0600 + e / 32) (h' : a ≠ 0x060C + e / 32) :
    (s.raise e d).pf a l w = s.pf a l w := by rw [State.pf, s.raise_p e d h h', State.pf]

theorem State.raise_pb (s : State) (e : Nat) (d : List Byte) {a : Nat} (l : Nat) (h : a ≠ 0x0600 + e / 32) (h' : a ≠ 0x060C + e / 32) :
    (s.raise e d).pb a l = s.pb a l := by rw [State.pb, s.raise_p e d h h', State.pb]

theorem State.begin_pf (s : State) (e i : Nat) (d : List Byte) {a : Nat} (l w : Nat) (h : a ≠ 0x0600 + e / 32)
    (h' : a ≠ 0x060C + e / 32) : (s.begin e i d).pf a l w = s.pf a l w := by rw [State.pf, s.begin_p e i d h h', State.pf]

/-- An event is enabled by its own word. -/
theorem State.evOn_of_p {s t : State} {e : Nat} (h : t.p (0x0602 + e / 32) = s.p (0x0602 + e / 32)) : t.evOn e = s.evOn e := by
  rw [State.evOn, State.evOn, State.pb, State.pb, h]

/-! Channels are told by the outputs alone. -/

theorem State.vlv_of_out {s t : State} (h : t.out.vlv = s.out.vlv) (c : Nat) : t.vlv c = s.vlv c := by rw [State.vlv, State.vlv, h]

/-- A step that leaves the outputs leaves every channel. -/
theorem State.chan_of_out {s t : State} (h : t.out = s.out) (n : Nat) : t.hs n = s.hs n ∧ t.vlv n = s.vlv n ∧ t.hb n = s.hb n ∧
    t.mot n = s.mot n ∧ t.sw n = s.sw n ∧ t.pg n = s.pg n := by
  simp only [State.hs, State.vlv, State.hb, State.mot, State.sw, State.pg, h, and_self]

@[simp] theorem State.setP_chan (s : State) (a v n : Nat) : (s.setP a v).hs n = s.hs n ∧ (s.setP a v).vlv n = s.vlv n ∧
    (s.setP a v).hb n = s.hb n ∧ (s.setP a v).mot n = s.mot n ∧ (s.setP a v).sw n = s.sw n ∧ (s.setP a v).pg n = s.pg n :=
  State.chan_of_out (s.setP_out a v) n

@[simp] theorem State.setPf_chan (s : State) (a l w v n : Nat) : (s.setPf a l w v).hs n = s.hs n ∧
    (s.setPf a l w v).vlv n = s.vlv n ∧ (s.setPf a l w v).hb n = s.hb n ∧ (s.setPf a l w v).mot n = s.mot n ∧
    (s.setPf a l w v).sw n = s.sw n ∧ (s.setPf a l w v).pg n = s.pg n :=
  State.chan_of_out (s.setPf_out a l w v) n

@[simp] theorem State.setPb_chan (s : State) (a l : Nat) (b : Bool) (n : Nat) : (s.setPb a l b).hs n = s.hs n ∧
    (s.setPb a l b).vlv n = s.vlv n ∧ (s.setPb a l b).hb n = s.hb n ∧ (s.setPb a l b).mot n = s.mot n ∧
    (s.setPb a l b).sw n = s.sw n ∧ (s.setPb a l b).pg n = s.pg n :=
  State.chan_of_out (s.setPb_out a l b) n

@[simp] theorem State.incPf_chan (s : State) (a l w n : Nat) : (s.incPf a l w).hs n = s.hs n ∧
    (s.incPf a l w).vlv n = s.vlv n ∧ (s.incPf a l w).hb n = s.hb n ∧ (s.incPf a l w).mot n = s.mot n ∧
    (s.incPf a l w).sw n = s.sw n ∧ (s.incPf a l w).pg n = s.pg n :=
  s.setPf_chan a l w _ n

@[simp] theorem State.raise_chan (s : State) (e : Nat) (d : List Byte) (n : Nat) : (s.raise e d).hs n = s.hs n ∧
    (s.raise e d).vlv n = s.vlv n ∧ (s.raise e d).hb n = s.hb n ∧ (s.raise e d).mot n = s.mot n ∧
    (s.raise e d).sw n = s.sw n ∧ (s.raise e d).pg n = s.pg n :=
  State.chan_of_out (s.raise_out e d) n

@[simp] theorem State.mapNvm_chan (s : State) (f : Nvm → Nvm) (n : Nat) : (s.mapNvm f).hs n = s.hs n ∧
    (s.mapNvm f).vlv n = s.vlv n ∧ (s.mapNvm f).hb n = s.hb n ∧ (s.mapNvm f).mot n = s.mot n ∧
    (s.mapNvm f).sw n = s.sw n ∧ (s.mapNvm f).pg n = s.pg n :=
  State.chan_of_out (s.mapNvm_out f) n

@[simp] theorem State.drawn_chan (s : State) (n : Nat) : s.drawn.hs n = s.hs n ∧ s.drawn.vlv n = s.vlv n ∧
    s.drawn.hb n = s.hb n ∧ s.drawn.mot n = s.mot n ∧ s.drawn.sw n = s.sw n ∧ s.drawn.pg n = s.pg n :=
  State.chan_of_out (t := s.drawn) rfl n

/-! A motor's state and words (R643, R655). -/

theorem State.motPut_state (s : State) (m st : Nat) : (s.motPut m st).motState m = st % 8 :=
  s.pf_setPf_same _ _ _ _ (by decide)

theorem State.motPut_pf (s : State) (m st : Nat) {l : Nat} (w : Nat) (h : 3 ≤ l) :
    (s.motPut m st).pf (motStat m) l w = s.pf (motStat m) l w := s.pf_setPf_apart _ _ _ _ (by decide) (.inr h)

theorem State.motPut_p (s : State) (m st : Nat) {a : Nat} (h : a ≠ motStat m) : (s.motPut m st).p a = s.p a :=
  s.p_setPf_other _ _ _ h

@[simp] theorem State.motPut_mot (s : State) (m st k : Nat) : (s.motPut m st).mot k = s.mot k := (s.setPf_chan _ _ _ _ k).2.2.2.1

theorem State.motSpeed_mot (s : State) (m : Nat) (rpm : Int) : (s.motSpeed m rpm).mot m = { s.mot m with speed := rpm } := by
  unfold State.motSpeed
  simp -implicitDefEqProofs

theorem State.motSpeed_mot_other (s : State) {m k : Nat} (rpm : Int) (h : k ≠ m) : (s.motSpeed m rpm).mot k = s.mot k := by
  unfold State.motSpeed
  simp -implicitDefEqProofs [State.updMot_other _ _ h]

theorem State.motSpeed_p (s : State) (m : Nat) (rpm : Int) {a : Nat} (h : a ≠ motStat m) : (s.motSpeed m rpm).p a = s.p a := by
  unfold State.motSpeed
  dsimp only
  rw [State.p_setPb_other _ _ _ h, State.p_setPf_other _ _ _ _ h, State.updMot_p]

theorem State.motSpeed_pf (s : State) (m : Nat) (rpm : Int) {l w : Nat} (h : l + w ≤ 8) :
    (s.motSpeed m rpm).pf (motStat m) l w = s.pf (motStat m) l w := by
  unfold State.motSpeed
  dsimp only
  rw [State.pf_setPb_apart _ _ _ _ (by decide) (.inl h), State.pf_setPf_apart _ _ _ _ _ (by decide) (.inl (by omega)), State.updMot_pf]

theorem State.motSpeed_state (s : State) (m : Nat) (rpm : Int) : (s.motSpeed m rpm).motState m = s.motState m :=
  s.motSpeed_pf m rpm (by decide)

theorem State.motSpeed_shown (s : State) (m : Nat) (rpm : Int) :
    (s.motSpeed m rpm).pf (motStat m) 16 16 = Nat.min rpm.natAbs 0xFFFF := by
  unfold State.motSpeed
  dsimp only
  rw [State.pf_setPb_apart _ _ _ _ (by decide) (.inr (by decide)), State.pf_setPf_same _ _ _ _ _ (by decide)]
  exact Nat.mod_eq_of_lt (lt_of_le_of_lt (Nat.min_le_right _ _) (by decide))

theorem State.motFault_shown (s : State) (m : Nat) {kind : Nat} (rpm : Int) (hm : m < 4) (hkind : kind < 8) :
    (s.motFault m kind rpm).motState m = 7 ∧ (s.motFault m kind rpm).pf (motStat m) 3 3 = kind ∧
    (s.motFault m kind rpm).holds 35 = true := by
  have hne : motStat m ≠ 0x0600 + 35 / 32 ∧ motStat m ≠ 0x060C + 35 / 32 := by simp only [motStat]; omega
  unfold State.motFault
  dsimp only
  refine ⟨?_, ?_, State.begin_holds _ _ _ _⟩
  · rw [State.motState, State.begin_pf _ _ _ _ _ _ hne.1 hne.2, State.updMot_pf,
      State.pf_setPf_apart _ _ _ _ _ (by decide) (.inl (by decide)), ← State.motState, State.motPut_state]
  · rw [State.begin_pf _ _ _ _ _ _ hne.1 hne.2, State.updMot_pf, State.pf_setPf_same _ _ _ _ _ (by decide)]
    exact Nat.mod_eq_of_lt hkind

theorem State.motCoast_state (s : State) {m : Nat} (h : s.motState m ≠ 7) : (s.motCoast m).motState m = 0 := by
  unfold State.motCoast
  rw [if_neg h]
  exact State.motPut_state _ _ _

/-- The parameters of a motor's events: neither they nor the motors' words tell of a raised event. -/
theorem motStat_event (m : Nat) {e : Nat} (h : e < 64) : motStat m ≠ 0x0600 + e / 32 ∧ motStat m ≠ 0x060C + e / 32 := by
  simp only [motStat]; omega

theorem State.raise_motState (s : State) {e : Nat} (d : List Byte) (m : Nat) (h : e < 64) :
    (s.raise e d).motState m = s.motState m := s.raise_pf e d 0 3 (motStat_event m h).1 (motStat_event m h).2

theorem State.motSpeed_evOn (s : State) (m e : Nat) (rpm : Int) (he : e < 64) : (s.motSpeed m rpm).evOn e = s.evOn e :=
  State.evOn_of_p (s.motSpeed_p m rpm (by simp only [motStat]; omega))

/-! The motors' events (R643 to R655). -/

theorem motorCatchEnd_gives (s : State) (m : Nat) (rpm : Int) (hm : m < 4) (hstate : s.motState m = 1) :
    ∃ u : State, Gives (.motorCatchEnd m rpm) s u ∧
      u.motState m = (let v := s.motAlong m rpm
        let rated : Int := s.pf (motCfg m) 0 16
        if (100 * v < rated ∧ -(100 * v) < rated) ∨ (0 ≤ v ∧ 100 * v < (s.pf (0x2501 + 16 * m) 8 8 : Int) * rated) then 4
        else if 0 ≤ v then 6
        else if -(100 * v) < (s.pf (0x2501 + 16 * m) 16 8 : Int) * rated then 3 else 2) ∧
      u.pf (motStat m) 16 16 = Nat.min rpm.natAbs 0xFFFF ∧ (∀ k, k ≠ m → u.mot k = s.mot k) := by
  have hput (t : State) (st : Nat) (ht : t = s.motSpeed m rpm) : (t.motPut m st).pf (motStat m) 16 16 = Nat.min rpm.natAbs 0xFFFF ∧
      ∀ k, k ≠ m → (t.motPut m st).mot k = s.mot k := by
    subst ht
    exact ⟨(State.motPut_pf _ _ _ _ (by decide)).trans (s.motSpeed_shown m rpm),
      fun k hk => (State.motPut_mot _ _ _ _).trans (s.motSpeed_mot_other rpm hk)⟩
  have hne := motStat_event m (e := 33) (by decide)
  refine ⟨_, by
    change execMotorCatchEnd m rpm s = _
    unfold execMotorCatchEnd
    rw [if_pos (by simp [hm, hstate])]
    rfl, ?_⟩
  dsimp only
  split_ifs
  · exact ⟨State.motPut_state _ _ _, hput _ 4 rfl⟩
  · refine ⟨(State.raise_motState _ _ m (by decide)).trans (State.motPut_state _ _ _),
      (State.raise_pf _ _ _ _ _ hne.1 hne.2).trans (hput _ 6 rfl).1, fun k hk => ?_⟩
    exact (State.raise_chan _ _ _ k).2.2.2.1.trans ((hput _ 6 rfl).2 k hk)
  · exact ⟨State.motPut_state _ _ _, hput _ 3 rfl⟩
  · exact ⟨State.motPut_state _ _ _, hput _ 2 rfl⟩

end Sys2Proof.Machine

/-! The motors' events (R643 to R655). -/
namespace Sys2Proof.Machine

theorem State.motSpeed_motPut_same (s : State) (m st : Nat) (rpm : Int) : SameParams s ((s.motSpeed m rpm).motPut m st) [motStat m] :=
  fun a ha => by
    have hne : a ≠ motStat m := by simpa using ha
    rw [State.motPut_p _ _ _ hne, State.motSpeed_p _ _ _ hne]

theorem State.motPut_same (s : State) (m st : Nat) : SameParams s (s.motPut m st) [motStat m] :=
  fun _ ha => s.motPut_p m st (by simpa using ha)

theorem motorBackwardRelease_gives (s : State) (m : Nat) (rpm : Int) (hm : m < 4) (hstate : s.motState m = 2)
    (hslow : -(100 * s.motAlong m rpm) < (s.pf (0x2501 + 16 * m) 16 8 : Int) * s.pf (motCfg m) 0 16) :
    ∃ u : State, Gives (.motorBackwardRelease m rpm) s u ∧ u.motState m = 3 ∧ SameParams s u [motStat m] := by
  refine ⟨(s.motSpeed m rpm).motPut m 3, ?_, State.motPut_state _ _ _, s.motSpeed_motPut_same m 3 rpm⟩
  change execMotorBackwardRelease m rpm s = _
  unfold execMotorBackwardRelease
  rw [if_pos (by simp [hm, hstate, hslow]), done]

theorem motorBackwardRelease_early (s : State) (m : Nat) (rpm : Int)
    (hfast : (s.pf (0x2501 + 16 * m) 16 8 : Int) * s.pf (motCfg m) 0 16 ≤ -(100 * s.motAlong m rpm)) :
    Gives (.motorBackwardRelease m rpm) s s := by
  change execMotorBackwardRelease m rpm s = _
  unfold execMotorBackwardRelease
  rw [if_neg (by simp only [Bool.and_eq_true, decide_eq_true_eq]; rintro ⟨-, h⟩; omega), done]

theorem motorBackwardTimeout_gives (s : State) (m : Nat) (rpm : Int) (hm : m < 4) (hstate : s.motState m = 2) :
    ∃ u : State, Gives (.motorBackwardTimeout m rpm) s u ∧ u.motState m = 7 ∧ u.pf (motStat m) 3 3 = 0 ∧ u.holds 35 = true := by
  refine ⟨(s.motSpeed m rpm).motFault m 0 rpm, ?_, State.motFault_shown _ m rpm hm (by decide)⟩
  change execMotorBackwardTimeout m rpm s = _
  unfold execMotorBackwardTimeout
  rw [if_pos (by simp [hm, hstate]), done]

theorem motorBrakeEnd_gives (s : State) (m : Nat) (hm : m < 4) (hstate : s.motState m = 3) (hbrake : (s.mot m).braked = false) :
    ∃ u : State, Gives (.motorBrakeEnd m) s u ∧ u.motState m = 4 ∧ SameParams s u [motStat m] ∧ u.out = s.out := by
  refine ⟨s.motPut m 4, ?_, s.motPut_state m 4, s.motPut_same m 4, s.setPf_out _ _ _ _⟩
  change execMotorBrakeEnd m s = _
  unfold execMotorBrakeEnd
  rw [if_pos (by simp [hm, hstate, hbrake]), done]

theorem motorAlignEnd_gives (s : State) (m : Nat) (hm : m < 4) (hstate : s.motState m = 4) :
    ∃ u : State, Gives (.motorAlignEnd m) s u ∧ u.motState m = 5 ∧ SameParams s u [motStat m] ∧ u.out = s.out := by
  refine ⟨s.motPut m 5, ?_, s.motPut_state m 5, s.motPut_same m 5, s.setPf_out _ _ _ _⟩
  change execMotorAlignEnd m s = _
  unfold execMotorAlignEnd
  rw [if_pos (by simp [hm, hstate]), done]

theorem motorHandover_early (s : State) (m : Nat) (rpm : Int)
    (hslow : 100 * s.motAlong m rpm < (s.pf (0x2503 + 16 * m) 16 6 : Int) * s.pf (motCfg m) 0 16) :
    Gives (.motorHandover m rpm) s s := by
  change execMotorHandover m rpm s = _
  unfold execMotorHandover
  rw [if_neg (by simp only [Bool.and_eq_true, decide_eq_true_eq]; rintro ⟨-, h⟩; omega), done]

theorem motorHandover_gives (s : State) (m : Nat) (rpm : Int) (hm : m < 4) (hstate : s.motState m = 5)
    (hfast : (s.pf (0x2503 + 16 * m) 16 6 : Int) * s.pf (motCfg m) 0 16 ≤ 100 * s.motAlong m rpm) :
    ∃ u : State, Gives (.motorHandover m rpm) s u ∧ u.motState m = 6 ∧ (u.mot m).speed = rpm ∧ SameParams s u [motStat m] := by
  refine ⟨(s.motSpeed m rpm).motPut m 6, ?_, State.motPut_state _ _ _, ?_, s.motSpeed_motPut_same m 6 rpm⟩
  · change execMotorHandover m rpm s = _
    unfold execMotorHandover
    rw [if_pos (by simp [hm, hstate, hfast]), done]
  · rw [State.motPut_mot, State.motSpeed_mot]

theorem motorHandoverTimeout_gives (s : State) (m : Nat) (rpm : Int) (hm : m < 4) (hstate : s.motState m = 5) :
    ∃ u : State, Gives (.motorHandoverTimeout m rpm) s u ∧ u.motState m = 7 ∧ u.pf (motStat m) 3 3 = 4 ∧ u.holds 35 = true := by
  refine ⟨(s.motSpeed m rpm).motFault m 4 rpm, ?_, State.motFault_shown _ m rpm hm (by decide)⟩
  change execMotorHandoverTimeout m rpm s = _
  unfold execMotorHandoverTimeout
  rw [if_pos (by simp [hm, hstate]), done]

theorem motorTargetReached_gives (s : State) (m : Nat) (rpm : Int) (hm : m < 4) (hstate : s.motState m = 6)
    (hstart : (s.mot m).starting = true) (hnear : 100 * (rpm - (s.mot m).target).natAbs ≤ 3 * (s.mot m).target.natAbs) :
    ∃ u : State, Gives (.motorTargetReached m rpm) s u ∧ u.motState m = 6 ∧ (u.mot m).starting = false ∧
      (s.evOn 32 = true → u.latched 32 = true) := by
  refine ⟨((s.motSpeed m rpm).updMot m (fun x => { x with starting := false })).raise 32
    (le 1 m ++ zeros 1 ++ le 4 (toTwos 32 rpm)), ?_, ?_, ?_, fun hon => State.raise_latched _ _ ?_⟩
  · change execMotorTargetReached m rpm s = _
    unfold execMotorTargetReached
    rw [if_pos (by simp [hm, hstate, hstart, hnear]), done]
  · rw [State.raise_motState _ _ _ (by decide), State.motState, State.updMot_pf, ← State.motState, State.motSpeed_state, hstate]
  · rw [(State.raise_chan _ _ _ m).2.2.2.1, State.updMot_same]
  · rw [State.evOn_of_p (State.updMot_p _ _ _ _), State.motSpeed_evOn _ _ _ _ (by decide), hon]

theorem motorTargetReached_far (s : State) (m : Nat) (rpm : Int)
    (hfar : 3 * (s.mot m).target.natAbs < 100 * (rpm - (s.mot m).target).natAbs) : Gives (.motorTargetReached m rpm) s s := by
  change execMotorTargetReached m rpm s = _
  unfold execMotorTargetReached
  rw [if_neg (by simp only [Bool.and_eq_true, decide_eq_true_eq]; rintro ⟨-, h⟩; omega), done]

theorem motorObserverLoss_none (s : State) (m cause amount periods recent : Nat) (rpm : Int)
    (hnone : (cause = 0 ∧ (amount ≤ s.pf (0x2504 + 16 * m) 0 8 ∨ periods < s.pf (0x2504 + 16 * m) 8 8)) ∨
      (cause = 1 ∧ 100 * amount ≤ s.pf (0x2504 + 16 * m) 16 8 * s.pf (motCfg m) 0 16) ∨ 2 ≤ cause) :
    Gives (.motorObserverLoss m cause amount periods rpm recent) s s := by
  have hlost : s.motLost m cause amount periods = false := by
    rcases hnone with ⟨rfl, h⟩ | ⟨rfl, h⟩ | h
    · simp only [State.motLost, Bool.and_eq_false_iff, decide_eq_false_iff_not]; omega
    · simp only [State.motLost, decide_eq_false_iff_not]; omega
    · obtain ⟨k, rfl⟩ : ∃ k, cause = k + 2 := ⟨cause - 2, by omega⟩
      rfl
  change execMotorObserverLoss m cause amount periods rpm recent s = _
  unfold execMotorObserverLoss
  rw [if_neg (by simp [hlost]), done]

/-- What an observer loss reports, before what follows from it (R650, R655). -/
def State.lossTold (s : State) (m cause recent : Nat) (rpm : Int) : State :=
  ((s.motSpeed m rpm).setPf (motStat m) 6 2 (Nat.min recent 3)).raise 34
    (le 1 m ++ le 1 cause ++ le 4 (toTwos 32 rpm) ++ le 1 (recent + if ¬(s.mot m).down = 1 ∧ recent < 3 then 1 else 0))

theorem State.lossTold_state (s : State) (m cause recent : Nat) (rpm : Int) :
    (s.lossTold m cause recent rpm).motState m = s.motState m := by
  rw [State.lossTold, State.raise_motState _ _ _ (by decide), State.motState, State.pf_setPf_apart _ _ _ _ _ (by decide)
    (.inl (by decide)), ← State.motState, State.motSpeed_state]

theorem State.lossTold_latched (s : State) (m cause recent : Nat) (rpm : Int) (h : s.evOn 34 = true) :
    (s.lossTold m cause recent rpm).latched 34 = true := by
  refine State.raise_latched _ _ ?_
  rw [State.evOn_of_p (State.p_setPf_other _ _ _ _ (by simp only [motStat]; omega)), State.motSpeed_evOn _ _ _ _ (by decide), h]

theorem State.latched_of_p {s t : State} {e : Nat} (h : t.p (0x0600 + e / 32) = s.p (0x0600 + e / 32)) :
    t.latched e = s.latched e := by rw [State.latched, State.latched, State.pb, State.pb, h]

/-- An occurrence of one event leaves the latch of another. -/
theorem State.raise_latched_other (s : State) {e k : Nat} (d : List Byte) (he : e < 64) (hk : k < 64) (h : k ≠ e) :
    (s.raise e d).latched k = s.latched k := by
  unfold State.raise
  split
  · rw [State.occurs_keeps (fun t => t.latched k) e (fun t => t.pb_setPb_other _ _ _ (by omega)) (fun _ _ => rfl)
      (fun _ _ => rfl) (fun _ _ _ => rfl)]
    by_cases hw : k / 32 = e / 32
    · rw [State.latched, hw, State.pb_setPb_bit _ _ _ (by omega) (by omega), ← hw, ← State.latched]
    · rw [State.latched, State.pb_setPb_other _ _ _ _ (by omega), ← State.latched]
  · rfl

theorem State.begin_latched_other (s : State) {e k : Nat} (i : Nat) (d : List Byte) (he : e < 64) (hk : k < 64) (h : k ≠ e) :
    (s.begin e i d).latched k = s.latched k := by
  unfold State.begin
  split
  · rfl
  · exact (State.raise_latched_other _ d he hk h).trans rfl

theorem State.motPut_latched (s : State) (m st : Nat) {e : Nat} (he : e < 64) : (s.motPut m st).latched e = s.latched e :=
  State.latched_of_p (s.motPut_p m st (by simp only [motStat]; omega))

theorem State.motFault_latched_other (s : State) (m kind : Nat) (rpm : Int) {e : Nat} (he : e < 64) (h : e ≠ 35) :
    (s.motFault m kind rpm).latched e = s.latched e := by
  unfold State.motFault
  dsimp only
  rw [State.begin_latched_other _ _ _ (by decide) he h, State.latched_of_p (State.updMot_p _ _ _ _),
    State.latched_of_p (State.p_setPf_other _ _ _ _ (by simp only [motStat]; omega)), State.motPut_latched _ _ _ he]

theorem State.motCoast_latched (s : State) (m : Nat) {e : Nat} (he : e < 64) : (s.motCoast m).latched e = s.latched e :=
  State.motCoast_keeps (fun t => t.latched e) m (fun t _ => State.latched_of_p (t.p_setP_other _ (by simp only [motStat]; omega)))
    (fun _ _ => rfl) s

theorem motorObserverLoss_gives (s : State) (m cause amount periods recent : Nat) (rpm : Int) (hm : m < 4) (hstate : s.motState m = 6)
    (hloss : (cause = 0 ∧ s.pf (0x2504 + 16 * m) 0 8 < amount ∧ s.pf (0x2504 + 16 * m) 8 8 ≤ periods) ∨
      (cause = 1 ∧ s.pf (0x2504 + 16 * m) 16 8 * s.pf (motCfg m) 0 16 < 100 * amount)) :
    ∃ u : State, Gives (.motorObserverLoss m cause amount periods rpm recent) s u ∧ (s.evOn 34 = true → u.latched 34 = true) ∧
      ((s.mot m).down = 1 → u.motState m = 0) ∧
      ((s.mot m).down ≠ 1 → recent < 3 → u.motState m = 0 ∧ (u.mot m).recatch = true) ∧
      ((s.mot m).down ≠ 1 → 3 ≤ recent → u.motState m = 7 ∧ u.pf (motStat m) 3 3 = 1) := by
  have hlost : s.motLost m cause amount periods = true := by
    rcases hloss with ⟨rfl, h⟩ | ⟨rfl, h⟩ <;> simp [State.motLost, h]
  have htold : (s.lossTold m cause recent rpm).motState m ≠ 7 := by rw [State.lossTold_state, hstate]; decide
  have hgives {u : State} (hu : u = if (s.mot m).down = 1 then (s.lossTold m cause recent rpm).motCoast m
      else if ¬(s.mot m).down = 1 ∧ recent < 3 then
        ((s.lossTold m cause recent rpm).updMot m (fun x => { x with recatch := true, down := 0 })).motPut m 0
      else (s.lossTold m cause recent rpm).motFault m 1 rpm) : Gives (.motorObserverLoss m cause amount periods rpm recent) s u := by
    change execMotorObserverLoss m cause amount periods rpm recent s = _
    unfold execMotorObserverLoss
    rw [if_pos (by simp [hm, hstate, hlost]), hu]
    rfl
  by_cases hdown : (s.mot m).down = 1
  · refine ⟨(s.lossTold m cause recent rpm).motCoast m, hgives (by rw [if_pos hdown]), fun hon => ?_, fun _ => ?_,
      fun h => absurd hdown h, fun h => absurd hdown h⟩
    · rw [State.motCoast_latched _ _ (by decide), s.lossTold_latched _ _ _ _ hon]
    · exact State.motCoast_state _ htold
  by_cases hrecent : recent < 3
  · refine ⟨((s.lossTold m cause recent rpm).updMot m (fun x => { x with recatch := true, down := 0 })).motPut m 0,
      hgives (by rw [if_neg hdown, if_pos ⟨hdown, hrecent⟩]), fun hon => ?_, fun h => absurd h hdown, fun _ _ => ⟨?_, ?_⟩,
      fun _ h => absurd hrecent (by omega)⟩
    · rw [State.motPut_latched _ _ _ (by decide), State.latched_of_p (State.updMot_p _ _ _ _), s.lossTold_latched _ _ _ _ hon]
    · exact State.motPut_state _ _ _
    · rw [State.motPut_mot, State.updMot_same]
  · obtain ⟨hfault, hkind, -⟩ := (s.lossTold m cause recent rpm).motFault_shown m (kind := 1) rpm hm (by decide)
    refine ⟨(s.lossTold m cause recent rpm).motFault m 1 rpm, hgives (by rw [if_neg hdown, if_neg (fun h => hrecent h.2)]),
      fun hon => ?_, fun h => absurd h hdown, fun _ h => absurd h hrecent, fun _ _ => ⟨hfault, hkind⟩⟩
    rw [State.motFault_latched_other _ _ _ _ (by decide) (by decide), s.lossTold_latched _ _ _ _ hon]

theorem motorRecatch_gives (s : State) (m : Nat) (hm : m < 4) (hstate : s.motState m = 0) (hre : (s.mot m).recatch = true) :
    ∃ u : State, Gives (.motorRecatch m) s u ∧ u.motState m = 1 ∧ (u.mot m).recatch = false ∧
      u.pf (motStat m) 6 2 = Nat.min (s.pf (motStat m) 6 2 + 1) 3 := by
  refine ⟨((s.updMot m (fun x => { x with recatch := false })).motPut m 1).incPf (motStat m) 6 2, ?_, ?_, ?_, ?_⟩
  · change execMotorRecatch m s = _
    unfold execMotorRecatch
    rw [if_pos (by simp [hm, hstate, hre]), done]
  · rw [State.motState, State.incPf, State.pf_setPf_apart _ _ _ _ _ (by decide) (.inl (by decide)), ← State.motState,
      State.motPut_state]
  · rw [(State.incPf_chan _ _ _ _ m).2.2.2.1, State.motPut_mot, State.updMot_same]
  · rw [State.pf_incPf _ _ _ _ (by decide), State.motPut_pf _ _ _ _ (by decide), State.updMot_pf]
    rfl

theorem motorGateFault_gives (s : State) (m kind : Nat) (rpm : Int) (hm : m < 4) (hkind : kind = 2 ∨ kind = 3)
    (hstate : s.motState m ≠ 7) :
    ∃ u : State, Gives (.motorGateFault m kind rpm) s u ∧ u.motState m = 7 ∧ u.pf (motStat m) 3 3 = kind ∧ u.holds 35 = true := by
  refine ⟨(s.motSpeed m rpm).motFault m kind rpm, ?_, State.motFault_shown _ m rpm hm (by omega)⟩
  change execMotorGateFault m kind rpm s = _
  unfold execMotorGateFault
  rw [if_pos (by simp [hm, hkind, hstate]), done]

theorem motorRampDownEnd_stop (s : State) (m : Nat) (hm : m < 4) (hstate : s.motState m = 6) (hdown : (s.mot m).down = 1) :
    ∃ u : State, Gives (.motorRampDownEnd m) s u ∧ u.motState m = 0 ∧ SameParams s u [motStat m] := by
  refine ⟨s.motCoast m, ?_, s.motCoast_state (by rw [hstate]; decide), fun a ha => ?_⟩
  · change execMotorRampDownEnd m s = _
    unfold execMotorRampDownEnd
    rw [if_pos (by simp [hm, hstate]), hdown, done]
    rfl
  · exact State.motCoast_keeps (fun t => t.p a) m (fun t _ => t.p_setP_other _ (by simpa using ha)) (fun _ _ => rfl) s

theorem motorRampDownEnd_reverse (s : State) (m : Nat) (hm : m < 4) (hstate : s.motState m = 6) (hdown : (s.mot m).down = 2) :
    ∃ u : State, Gives (.motorRampDownEnd m) s u ∧ u.motState m = 3 ∧ (u.mot m).down = 0 ∧ SameParams s u [motStat m] := by
  refine ⟨(s.updMot m (fun x => { x with down := 0 })).motPut m 3, ?_, State.motPut_state _ _ _, ?_, fun a ha => ?_⟩
  · change execMotorRampDownEnd m s = _
    unfold execMotorRampDownEnd
    rw [if_pos (by simp [hm, hstate]), hdown, done]
    rfl
  · rw [State.motPut_mot, State.updMot_same]
  · rw [State.motPut_p _ _ _ (by simpa using ha), State.updMot_p]

end Sys2Proof.Machine

namespace Sys2Proof
open Machine

/-- Settles O38, command by command. -/
theorem motorEvents : Obligations.MotorEvents :=
  ⟨motorCatchEnd_gives, motorBackwardRelease_gives, motorBackwardRelease_early, motorBackwardTimeout_gives, motorBrakeEnd_gives,
    motorAlignEnd_gives, motorHandover_early, motorHandover_gives, motorHandoverTimeout_gives, motorTargetReached_gives,
    motorTargetReached_far, motorObserverLoss_none, motorObserverLoss_gives, motorRecatch_gives, motorGateFault_gives,
    motorRampDownEnd_stop, motorRampDownEnd_reverse⟩

end Sys2Proof

/-! Bridges (R622 to R639): what their operations do to their own words, and what they leave. -/
namespace Sys2Proof.Machine

theorem State.hbPut_state (s : State) (b st : Nat) : (s.hbPut b st).hbState b = st % 8 := s.pf_setPf_same _ _ _ _ (by decide)

theorem State.hbPut_pf (s : State) (b st : Nat) {l : Nat} (w : Nat) (h : 3 ≤ l) :
    (s.hbPut b st).pf (hbStat b) l w = s.pf (hbStat b) l w := s.pf_setPf_apart _ _ _ _ (by decide) (.inr h)

theorem State.hbPut_p (s : State) (b st : Nat) {a : Nat} (h : a ≠ hbStat b) : (s.hbPut b st).p a = s.p a := s.p_setPf_other _ _ _ h

@[simp] theorem State.hbPut_hb (s : State) (b st k : Nat) : (s.hbPut b st).hb k = s.hb k := (s.setPf_chan _ _ _ _ k).2.2.1

theorem State.hbPut_nvm (s : State) (b st : Nat) : (s.hbPut b st).nvm = s.nvm := s.setPf_nvm _ _ _ _

theorem State.hbEnds_hb (s : State) (b r : Nat) :
    (s.hbEnds b r).hb b = { s.hb b with move := none, next := none, held := none, backing := false, doused := false } := by
  unfold State.hbEnds State.hbKeep
  dsimp only
  rw [(State.mapNvm_chan _ _ b).2.2.1]
  split
  · rw [(State.setPb_chan _ _ _ _ b).2.2.1, (State.setPf_chan _ _ _ _ _ b).2.2.1, State.updHb_same]
  · rw [(State.setPf_chan _ _ _ _ _ b).2.2.1, State.updHb_same]

theorem State.hbEnds_result (s : State) (b : Nat) {r : Nat} (h : r < 16) : (s.hbEnds b r).pf (hbStat b) 3 4 = r := by
  unfold State.hbEnds State.hbKeep
  dsimp only
  rw [State.mapNvm_pf]
  split
  · rw [State.pf_setPb_apart _ _ _ _ (by decide) (.inl (by decide)), State.pf_setPf_same _ _ _ _ _ (by decide), Nat.mod_eq_of_lt (show r < 2 ^ 4 from h)]
  · rw [State.pf_setPf_same _ _ _ _ _ (by decide), Nat.mod_eq_of_lt (show r < 2 ^ 4 from h)]

theorem State.hbEnds_p (s : State) (b r : Nat) {a : Nat} (h : a ≠ hbStat b) : (s.hbEnds b r).p a = s.p a :=
  State.hbEnds_keeps (fun t => t.p a) b (fun t _ => t.p_setP_other _ h) (fun _ _ => rfl) (fun _ _ => rfl) s r

theorem State.hbEnds_hb_other (s : State) {b k : Nat} (r : Nat) (h : k ≠ b) : (s.hbEnds b r).hb k = s.hb k :=
  State.hbEnds_keeps (fun t => t.hb k) b (fun _ _ => rfl) (fun t _ => t.updHb_other _ h) (fun _ _ => rfl) s r

/-- The words of a bridge are apart from the events' words. -/
theorem hbStat_event (b : Nat) {e : Nat} (h : e < 64) : hbStat b ≠ 0x0600 + e / 32 ∧ hbStat b ≠ 0x060C + e / 32 := by
  simp only [hbStat]; omega

theorem State.ev30_pf (s : State) (b kind cur l w : Nat) : (s.ev30 b kind cur).pf (hbStat b) l w = s.pf (hbStat b) l w :=
  s.raise_pf 30 _ l w (hbStat_event b (by decide)).1 (hbStat_event b (by decide)).2

theorem State.ev30_hb (s : State) (b kind cur k : Nat) : (s.ev30 b kind cur).hb k = s.hb k := (s.raise_chan 30 _ k).2.2.1

theorem State.ev30_nvm (s : State) (b kind cur : Nat) : (s.ev30 b kind cur).nvm = s.nvm := by simp [State.ev30]

/-- EV30 latches where the words of the events are those of an earlier state in which it was enabled. -/
theorem State.ev30_latched {s t : State} (b kind cur : Nat) (h : t.p 0x0602 = s.p 0x0602) (hon : s.evOn 30 = true) :
    (t.ev30 b kind cur).latched 30 = true :=
  State.raise_latched _ _ ((State.evOn_of_p h).trans hon)

theorem State.hbPut_hbEnds_event (s : State) (b r st : Nat) {a : Nat} (h : a < 0x2000) : ((s.hbEnds b r).hbPut b st).p a = s.p a := by
  have hne : a ≠ hbStat b := by simp only [hbStat]; omega
  rw [State.hbPut_p _ _ _ hne, State.hbEnds_p _ _ _ hne]

/-- A move that ends leaves the bridge's other neighbours, and every other word. -/
theorem State.hbPut_hbEnds_same (s : State) (b r st : Nat) : SameParams s ((s.hbEnds b r).hbPut b st) [hbStat b] := fun a ha => by
  have hne : a ≠ hbStat b := by simpa using ha
  rw [State.hbPut_p _ _ _ hne, State.hbEnds_p _ _ _ hne]

theorem hbRipple_gives (s : State) (b depth : Nat) (hb : b < 8) (hdrives : s.hbDrives b = true)
    (hdeep : s.pf (0x2404 + 8 * b) 0 8 * 10 < depth) :
    ∃ u : State, Gives (.hbRipple b depth) s u ∧
      u.p (hbPosA b) = (s.p (hbPosA b) + (if (s.hb b).dir = 1 then 1 else 2 ^ 32 - 1)) % 2 ^ 32 ∧
      SameParams s u [hbPosA b] ∧ (∀ d, d ≠ b → u.hb d = s.hb d) := by
  refine ⟨(s.setP (hbPosA b) ((s.p (hbPosA b) + (if (s.hb b).dir = 1 then 1 else 2 ^ 32 - 1)) % 2 ^ 32)).updHb b (fun h =>
      { h with move := h.move.map (fun m => if m.mode = 2 then { m with left := m.left - 1 } else m) }), ?_, ?_, fun a ha => ?_,
    fun d hd => ?_⟩
  · change execHbRipple b depth s = _
    unfold execHbRipple
    rw [if_pos (by simp [hb, hdrives, hdeep]), done]
    simp only [beq_iff_eq]
  · rw [State.updHb_p, State.p_setP_same, Nat.mod_mod]
  · rw [State.updHb_p, State.p_setP_other _ _ (by simpa using ha)]
  · rw [State.updHb_other _ _ hd, (State.setP_chan _ _ _ d).2.2.1]

theorem hbMoveEnd_gives (s : State) (b : Nat) (m : Move) (_ : b < 8) (hmove : (s.hb b).move = some m)
    (hover : m.mode = 1 ∨ (m.mode = 2 ∧ m.left = 0)) (hback : (s.hb b).backing = false) :
    ∃ u : State, Gives (.hbMoveEnd b) s u ∧ u.hbState b = 3 ∧ u.pf (hbStat b) 3 4 = 1 ∧ (u.hb b).move = none ∧
      SameParams s u [hbStat b] ∧ (∀ d, d ≠ b → u.hb d = s.hb d) := by
  refine ⟨(s.hbEnds b 1).hbPut b 3, ?_, State.hbPut_state _ _ _, ?_, ?_, s.hbPut_hbEnds_same b 1 3, fun d hd => ?_⟩
  · change execHbMoveEnd b s = _
    unfold execHbMoveEnd
    rw [hmove]
    dsimp only
    rw [if_pos hover, if_neg (by simp [hback]), done]
  · rw [State.hbPut_pf _ _ _ _ (by decide), State.hbEnds_result _ _ (by decide)]
  · rw [State.hbPut_hb, State.hbEnds_hb]
  · rw [State.hbPut_hb, State.hbEnds_hb_other _ _ hd]

theorem hbMoveEnd_backing (s : State) (b : Nat) (m : Move) (_ : b < 8) (hmove : (s.hb b).move = some m)
    (hover : m.mode = 1 ∨ (m.mode = 2 ∧ m.left = 0)) (hback : (s.hb b).backing = true) :
    ∃ u : State, Gives (.hbMoveEnd b) s u ∧ u.hbState b = 3 ∧ u.pf (hbStat b) 3 4 = s.pf (hbStat b) 3 4 ∧
      (u.hb b).move = none ∧ (u.hb b).backing = true ∧ SameParams s u [hbStat b] ∧ (∀ d, d ≠ b → u.hb d = s.hb d) := by
  have hhb : ((s.updHb b (fun h => { h with move := none })).hbPut b 3).hb b = { s.hb b with move := none } := by
    rw [State.hbPut_hb, State.updHb_same]
  refine ⟨(s.updHb b (fun h => { h with move := none })).hbPut b 3, ?_, State.hbPut_state _ _ _, ?_, by rw [hhb], by rw [hhb, hback],
    fun a ha => ?_, fun d hd => ?_⟩
  · change execHbMoveEnd b s = _
    unfold execHbMoveEnd
    rw [hmove]
    dsimp only
    rw [if_pos hover, if_pos hback, done]
  · rw [State.hbPut_pf _ _ _ _ (by decide), State.updHb_pf]
  · rw [State.hbPut_p _ _ _ (by simpa using ha), State.updHb_p]
  · rw [State.hbPut_hb, State.updHb_other _ _ hd]

/-- What a move that ends by a failure leaves: the bridge brakes with the result, and EV30 tells (R632, R635, R639). -/
theorem State.hbFail_shown (s : State) (b kind cur : Nat) {r : Nat} (h : r < 16) :
    (((s.hbEnds b r).hbPut b 3).ev30 b kind cur).hbState b = 3 ∧
    (((s.hbEnds b r).hbPut b 3).ev30 b kind cur).pf (hbStat b) 3 4 = r ∧
    ((((s.hbEnds b r).hbPut b 3).ev30 b kind cur).hb b).move = none ∧
    (s.evOn 30 = true → (((s.hbEnds b r).hbPut b 3).ev30 b kind cur).latched 30 = true) := by
  refine ⟨?_, ?_, ?_, State.ev30_latched _ _ _ (s.hbPut_hbEnds_event _ _ _ (by decide))⟩
  · rw [State.hbState, State.ev30_pf, ← State.hbState, State.hbPut_state]
  · rw [State.ev30_pf, State.hbPut_pf _ _ _ _ (by decide), State.hbEnds_result _ _ h]
  · rw [State.ev30_hb, State.hbPut_hb, State.hbEnds_hb]

theorem State.hbJudged_p (s : State) (b : Nat) (e : Bool) (a : Nat) : (s.hbJudged b e).p a = s.p a := State.updHb_p _ _ _ _

theorem State.hbJudged_evOn (s : State) (b : Nat) (e : Bool) (k : Nat) : (s.hbJudged b e).evOn k = s.evOn k :=
  State.evOn_of_p (s.hbJudged_p b e _)

theorem hbStall_ends (s : State) (b cur : Nat) (m : Move) (_ : b < 8) (hmove : (s.hb b).move = some m)
    (hplain : m.mode ≠ 2 ∨ s.pb (0x2405 + 8 * b) 0 = false ∨ (s.hb b).backing = true) (hcur : 5 * s.pf (0x2403 + 8 * b) 0 8 < cur) :
    ∃ u : State, Gives (.hbStall b cur) s u ∧ u.hbState b = 3 ∧ u.pf (hbStat b) 3 4 = (if m.mode = 1 then 2 else 3) ∧
      (u.hb b).move = none ∧ (s.evOn 30 = true → u.latched 30 = true) := by
  obtain ⟨hstate, hresult, hnone, hlatch⟩ :=
    (s.hbJudged b true).hbFail_shown b 0 cur (r := if m.mode = 1 then 2 else 3) (by split <;> decide)
  refine ⟨_, ?_, hstate, hresult, hnone, fun hon => hlatch ((s.hbJudged_evOn b true 30).trans hon)⟩
  change execHbStall b cur s = _
  unfold execHbStall
  rw [hmove]
  dsimp only
  rw [if_neg (by omega), if_neg (by rintro ⟨h1, h2, h3⟩; simp [h1, h2, h3] at hplain), done]

theorem hbStall_backs (s : State) (b cur : Nat) (m : Move) (_ : b < 8) (hmove : (s.hb b).move = some m) (hmode : m.mode = 2)
    (hback : s.pb (0x2405 + 8 * b) 0 = true) (hnot : (s.hb b).backing = false) (hcur : 5 * s.pf (0x2403 + 8 * b) 0 8 < cur) :
    ∃ u : State, Gives (.hbStall b cur) s u ∧ u.hbState b = 4 ∧ (u.hb b).backing = true ∧
      (u.hb b).next = some ⟨3 - m.dir, 2, s.pf (0x2405 + 8 * b) 8 8⟩ := by
  have hhb : (((s.updHb b (fun h => { h with move := none, backing := true, cur := cur, next := some ⟨3 - m.dir, 2,
      s.pf (0x2405 + 8 * b) 8 8⟩ })).hbPut b 4).hb b) = { s.hb b with
        move := none, backing := true, cur := cur, next := some ⟨3 - m.dir, 2, s.pf (0x2405 + 8 * b) 8 8⟩ } := by rw [State.hbPut_hb, State.updHb_same]
  refine ⟨_, ?_, State.hbPut_state _ _ _, by rw [hhb], by rw [hhb]⟩
  change execHbStall b cur s = _
  unfold execHbStall
  rw [hmove]
  dsimp only
  rw [if_neg (by omega), if_pos ⟨hmode, hback, hnot⟩, done]

theorem hbStall_none (s : State) (b cur : Nat) (hcur : cur ≤ 5 * s.pf (0x2403 + 8 * b) 0 8) : Gives (.hbStall b cur) s s := by
  change execHbStall b cur s = _
  unfold execHbStall
  split
  · rw [if_pos hcur, done]
  · rw [done]

theorem State.hbEnds_valid (s : State) (b : Nat) {r : Nat} (hr : ¬(r = 6 ∨ r = 8)) :
    (s.hbEnds b r).pb (hbStat b) 7 = s.pb (hbStat b) 7 := by
  unfold State.hbEnds State.hbKeep
  dsimp only
  rw [if_neg hr, State.mapNvm_pb, State.pb_setPf_apart _ _ _ _ _ (by decide) (.inr (by decide)), State.updHb_pb]

/-- A position that is not valid is not kept as valid (R637). -/
theorem State.hbEnds_hbValid (s : State) (b : Nat) {r : Nat} (hr : ¬(r = 6 ∨ r = 8)) (h : s.pb (hbStat b) 7 = false) :
    b ∉ (s.hbEnds b r).nvm.hbValid := by
  have hpb : ((s.updHb b (fun h => { h with move := none, next := none, held := none, backing := false, doused := false })).setPf
      (hbStat b) 3 4 r).pb (hbStat b) 7 = false := by
    rw [State.pb_setPf_apart _ _ _ _ _ (by decide) (.inr (by decide)), State.updHb_pb, h]
  unfold State.hbEnds State.hbKeep
  dsimp only
  rw [if_neg hr, State.mapNvm_nvm, hpb]
  simp

theorem hbRippleTimeout_gives (s : State) (b cur : Nat) (m : Move) (_ : b < 8) (hmove : (s.hb b).move = some m) (hmode : m.mode ≠ 1) :
    ∃ u : State, Gives (.hbRippleTimeout b cur) s u ∧ u.hbState b = 3 ∧ u.pf (hbStat b) 3 4 = 5 ∧ u.pb (hbStat b) 7 = false ∧
      b ∉ u.nvm.hbValid ∧ (s.evOn 30 = true → u.latched 30 = true) := by
  have hinvalid : ((s.hbJudged b true).setPb (hbStat b) 7 false).pb (hbStat b) 7 = false := State.pb_setPb_same _ _ _ _ (by decide)
  obtain ⟨hstate, hresult, -, hlatch⟩ := ((s.hbJudged b true).setPb (hbStat b) 7 false).hbFail_shown b 2 cur (r := 5) (by decide)
  refine ⟨_, ?_, hstate, hresult, ?_, ?_, fun hon => hlatch ?_⟩
  · change execHbRippleTimeout b cur s = _
    unfold execHbRippleTimeout
    rw [hmove]
    dsimp only
    rw [if_neg hmode, done]
  · rw [State.ev30, State.raise_pb _ _ _ _ (hbStat_event b (by decide)).1 (hbStat_event b (by decide)).2, State.hbPut,
      State.pb_setPf_apart _ _ _ _ _ (by decide) (.inr (by decide)), State.hbEnds_valid _ _ (by decide), hinvalid]
  · rw [State.ev30_nvm, State.hbPut_nvm]
    exact State.hbEnds_hbValid _ b (by decide) hinvalid
  · rw [State.evOn_of_p (State.p_setPb_other _ _ _ (by simp only [hbStat]; omega)), State.hbJudged_evOn, hon]

theorem hbOvercurrent_gives (s : State) (b cur : Nat) (hb : b < 8) (hdrives : s.hbDrives b = true) :
    ∃ u : State, Gives (.hbOvercurrent b cur) s u ∧ u.hbState b = 5 ∧
      ((s.hb b).move.isSome = true → u.pf (hbStat b) 3 4 = 6 ∧ (u.hb b).move = none) ∧
      (s.evOn 31 = true → u.latched 31 = true) := by
  have hcond : (s.hbDrives b || s.hbState b == 3) = true := by simp [hdrives]
  have hpf (t : State) (l w : Nat) : (t.raise 31 (le 1 b ++ zeros 1 ++ le 2 cur)).pf (hbStat b) l w = t.pf (hbStat b) l w :=
    t.raise_pf 31 _ l w (hbStat_event b (by decide)).1 (hbStat_event b (by decide)).2
  refine ⟨((if (s.hb b).move.isSome || ((s.hb b).backing && s.hbState b == 3) then (s.hbJudged b false).hbEnds b 6 else s).hbPut b
    5).raise 31 (le 1 b ++ zeros 1 ++ le 2 cur), ?_, ?_, fun hmove => ⟨?_, ?_⟩, fun hon => State.raise_latched _ _ ?_⟩
  · change execHbOvercurrent b cur s = _
    unfold execHbOvercurrent
    rw [if_pos (by simp [hb, hdrives])]
    dsimp only
    rw [if_pos hcond, done]
  · rw [State.hbState, hpf, ← State.hbState, State.hbPut_state]
  · rw [hpf, State.hbPut_pf _ _ _ _ (by decide), if_pos (by simp [hmove]), State.hbEnds_result _ _ (by decide)]
  · rw [(State.raise_chan _ _ _ b).2.2.1, State.hbPut_hb, if_pos (by simp [hmove]), State.hbEnds_hb]
  · refine (State.evOn_of_p ?_).trans hon
    rw [State.hbPut_p _ _ _ (by simp only [hbStat]; omega)]
    exact State.ite_keeps (fun t => t.p (0x0602 + 31 / 32)) _ _ _ _
      ((State.hbEnds_p _ _ _ (by simp only [hbStat]; omega)).trans (s.hbJudged_p _ _ _)) rfl

theorem hbBrakeEnd_gives (s : State) (b : Nat) (hb : b < 8) (hstate : s.hbState b = 3) (hback : (s.hb b).backing = false) :
    ∃ u : State, Gives (.hbBrakeEnd b) s u ∧ u.hbState b = 0 ∧ SameParams s u [hbStat b] ∧ u.out = s.out := by
  refine ⟨(s.hbPut b 0).hbKeep b, ?_, ?_, fun a ha => ?_, ?_⟩
  · change execHbBrakeEnd b s = _
    unfold execHbBrakeEnd State.hbBraked
    rw [if_pos (by simp [hb, hstate])]
    dsimp only
    rw [if_neg (by simp [hback]), done]
  · rw [State.hbKeep, State.hbState, State.mapNvm_pf, ← State.hbState, State.hbPut_state]
  · rw [State.hbKeep, State.mapNvm_p, State.hbPut_p _ _ _ (by simpa using ha)]
  · rw [State.hbKeep, State.mapNvm_out, State.hbPut, State.setPf_out]

theorem hbBrakeEnd_backing (s : State) (b : Nat) (hb : b < 8) (hstate : s.hbState b = 3) (hback : (s.hb b).backing = true) :
    ∃ u : State, Gives (.hbBrakeEnd b) s u ∧ u.hbState b = 0 ∧ u.pf (hbStat b) 3 4 = 4 ∧ (u.hb b).backing = false ∧
      (u.hb b).move = none ∧ (s.evOn 30 = true → u.latched 30 = true) := by
  refine ⟨((s.hbEnds b 4).hbPut b 0).ev30 b 1 (s.hb b).cur, ?_, ?_, ?_, ?_, ?_,
    State.ev30_latched _ _ _ (s.hbPut_hbEnds_event _ _ _ (by decide))⟩
  · change execHbBrakeEnd b s = _
    unfold execHbBrakeEnd State.hbBraked
    rw [if_pos (by simp [hb, hstate])]
    dsimp only
    rw [if_pos hback, done]
  · rw [State.hbState, State.ev30_pf, ← State.hbState, State.hbPut_state]
  · rw [State.ev30_pf, State.hbPut_pf _ _ _ _ (by decide), State.hbEnds_result _ _ (by decide)]
  · rw [State.ev30_hb, State.hbPut_hb, State.hbEnds_hb]
  · rw [State.ev30_hb, State.hbPut_hb, State.hbEnds_hb]

theorem hbRevdeadEnd_gives (s : State) (b : Nat) (m : Move) (_ : b < 8) (hnext : (s.hb b).next = some m) (hstate : s.hbState b = 4)
    (huv : s.uvOn = false) (hov : s.ovOn = false) :
    ∃ u : State, Gives (.hbRevdeadEnd b) s u ∧ u.hbState b = m.dir % 8 ∧ (u.hb b).move = some m ∧ (u.hb b).next = none ∧
      SameParams s u [hbStat b] := by
  obtain ⟨hmove, hnone, -, -, hdir⟩ := s.hbGo_drives (b := b) m hov huv
  refine ⟨s.hbGo b m, ?_, hdir, hmove, hnone, fun a ha => ?_⟩
  · change execHbRevdeadEnd b s = _
    unfold execHbRevdeadEnd
    rw [hnext]
    dsimp only
    rw [if_pos hstate, done]
  · exact State.hbGo_keeps (fun t => t.p a) b (fun t _ => t.p_setP_other _ (by simpa using ha)) (fun _ _ => rfl) (fun _ _ => rfl) s m

end Sys2Proof.Machine

namespace Sys2Proof
open Machine

/-- Settles O37, command by command. -/
theorem bridgeEvents : Obligations.BridgeEvents :=
  ⟨hbRipple_gives, hbMoveEnd_gives, hbMoveEnd_backing, hbStall_ends, hbStall_backs, hbStall_none, hbRippleTimeout_gives,
    hbOvercurrent_gives, hbBrakeEnd_gives, hbBrakeEnd_backing, hbRevdeadEnd_gives⟩

end Sys2Proof

/-! Valves (R589 to R608): what the end of an event and its start do. -/
namespace Sys2Proof.Machine

theorem State.vlvBits_pf (s : State) (c : Nat) {l w : Nat} (h : l + w ≤ 2) :
    (s.vlvBits c).pf (vlvStat c) l w = s.pf (vlvStat c) l w := by
  unfold State.vlvBits
  dsimp only
  rw [State.pf_setPb_apart _ _ _ _ (by decide) (.inl (by omega)), State.pf_setPb_apart _ _ _ _ (by decide) (.inl h)]

theorem State.vlvBits_p (s : State) (c : Nat) {a : Nat} (h : a ≠ vlvStat c) : (s.vlvBits c).p a = s.p a := by
  unfold State.vlvBits
  dsimp only
  rw [State.p_setPb_other _ _ _ h, State.p_setPb_other _ _ _ h]

theorem State.vlvBits_out (s : State) (c : Nat) : (s.vlvBits c).out = s.out := by simp [State.vlvBits]

theorem State.vlvBits_nvm (s : State) (c : Nat) : (s.vlvBits c).nvm = s.nvm := by simp [State.vlvBits]

/-- A valve channel as its own chapter sees it. -/
def State.valve (s : State) (c : Nat) : VlvCh × Nat := (s.vlv c, s.p (vlvStat c))

theorem State.vlvRuns_of_valve {s t : State} {c : Nat} (h : t.valve c = s.valve c) : t.vlvRuns c = s.vlvRuns c := by
  rw [State.vlvRuns, State.vlvRuns, State.pf, State.pf, (Prod.mk.inj h).2]

theorem State.vlvEnd_p (s : State) (c at' : Nat) {a : Nat} (h : a ≠ vlvStat c) : (s.vlvEnd c at').p a = s.p a :=
  State.vlvEnd_keeps (fun t => t.p a) c (fun t _ => t.p_setP_other _ h) (fun _ _ => rfl) s at'

theorem State.vlvEnd_other (s : State) {c d : Nat} (at' : Nat) (h : d ≠ c) : (s.vlvEnd c at').valve d = s.valve d :=
  State.vlvEnd_keeps (fun t => t.valve d) c (fun t _ => congrArg (Prod.mk _) (t.p_setP_other _ (by simp only [vlvStat]; omega)))
    (fun t _ => congrArg (·, _) (t.updVlv_other _ h)) s at'

/-- A current event that ends: the queued one becomes current, and the channel's off-time begins where it was driven (R591, R603). -/
theorem State.vlvEnd_vlv (s : State) (c at' : Nat) :
    (s.vlvEnd c at').vlv c = ⟨(s.vlv c).queued, none, if s.vlvRuns c then at' else (s.vlv c).stopped⟩ := by
  unfold State.vlvEnd
  dsimp only
  rw [State.vlv_of_out (congrArg Outs.vlv (State.vlvBits_out _ _)), (State.setPf_chan _ _ _ _ _ c).2.1, State.updVlv_same]
  simp [State.vlvRuns]

theorem State.vlvEnd_state (s : State) (c at' : Nat) :
    (s.vlvEnd c at').pf (vlvStat c) 0 2 = if s.vlvRuns c then 3 else s.pf (vlvStat c) 0 2 := by
  have hlt : s.pf (vlvStat c) 0 2 < 2 ^ 2 := Nat.mod_lt _ (by decide)
  unfold State.vlvEnd
  dsimp only
  rw [State.vlvBits_pf _ _ (by decide), State.pf_setPf_same _ _ _ _ _ (by decide)]
  by_cases h : s.pf (vlvStat c) 0 2 = 1 ∨ s.pf (vlvStat c) 0 2 = 2
  · rw [if_pos h, if_pos (by simpa [State.vlvRuns] using h)]
    rfl
  · rw [if_neg h, if_neg (by simpa [State.vlvRuns] using h), Nat.mod_eq_of_lt hlt]

theorem State.vlvRuns_of_peak {s : State} {c : Nat} (h : s.pf (vlvStat c) 0 2 = 1) : s.vlvRuns c = true := by simp [State.vlvRuns, h]

theorem vlvStat_event (c : Nat) {e : Nat} (h : e < 64) : vlvStat c ≠ 0x0600 + e / 32 ∧ vlvStat c ≠ 0x060C + e / 32 := by
  simp only [vlvStat]; omega

theorem State.vlvFail_valve (s : State) (c kind ma p d : Nat) : (s.vlvFail c kind ma p).valve d = s.valve d :=
  Prod.ext (s.raise_chan 27 _ d).2.1 (s.raise_p 27 _ (vlvStat_event d (by decide)).1 (vlvStat_event d (by decide)).2)

theorem State.pf_of_valve {s t : State} {c : Nat} (h : t.valve c = s.valve c) (l w : Nat) :
    t.pf (vlvStat c) l w = s.pf (vlvStat c) l w := by rw [State.pf, State.pf, (Prod.mk.inj h).2]

theorem State.vlvFail_latched {s t : State} (c kind ma p : Nat) (h : t.p 0x0602 = s.p 0x0602) (hon : s.evOn 27 = true) :
    (t.vlvFail c kind ma p).latched 27 = true :=
  State.raise_latched _ _ ((State.evOn_of_p h).trans hon)

theorem valveStart_gives (s : State) (c : Nat) (hc : c < 24) (hcur : (s.vlv c).cur.isSome = true) (hruns : s.vlvRuns c = false)
    (huv : s.pb 0x0300 16 = false) (hrestart : s.pb 0x0300 17 = false) :
    ∃ u : State, Gives (.valveStart c) s u ∧ u.pf (vlvStat c) 0 2 = 1 ∧
      Tbl.get 0 u.nvm.wear (16 + c / 4) = Nat.min (Tbl.get 0 s.nvm.wear (16 + c / 4) + 1) (2 ^ 32 - 1) ∧
      u.out = s.out ∧ SameParams s u [vlvStat c] := by
  have hspan {β : Type} (π : State → β) (hinst : ∀ t n f, π (State.updInst t n f) = π t) (l : List Nat) (b : Nat) :
      π (s.each l (fun t k => t.upSpan k (fun p => { p with vlv := bumpAt p.vlv b 6 (· + 1) }))) = π s :=
    State.each_keeps π _ _ (fun t k => hinst t k _) s
  refine ⟨s.vlvBegin c, ?_, ?_, ?_, ?_, fun a ha => ?_⟩
  · change execValveStart c s = _
    unfold execValveStart
    rw [if_pos (by simp [hc, hcur, hruns, huv, hrestart]), done]
  · unfold State.vlvBegin
    dsimp only
    rw [State.vlvBits_pf _ _ (by decide), State.pf_setPf_same _ _ _ _ _ (by decide)]
    rfl
  · unfold State.vlvBegin
    dsimp only
    rw [State.vlvBits_nvm, State.setPf_nvm, State.wear, State.mapNvm_nvm, hspan State.nvm (fun _ _ _ => rfl), Tbl.get_upd_same]
    rfl
  · unfold State.vlvBegin
    dsimp only
    rw [State.vlvBits_out, State.setPf_out, State.wear, State.mapNvm_out, hspan State.out (fun _ _ _ => rfl)]
  · unfold State.vlvBegin
    dsimp only
    have hne : a ≠ vlvStat c := by simpa using ha
    rw [State.vlvBits_p _ _ hne, State.p_setPf_other _ _ _ _ hne, State.wear, State.mapNvm_p, hspan (fun t => t.p a) (fun _ _ _ => rfl)]

theorem valvePeakReached_gives (s : State) (c : Nat) (hc : c < 24) (hpeak : s.pf (vlvStat c) 0 2 = 1) :
    Gives (.valvePeakReached c) s (s.setPf (vlvStat c) 0 2 2) := by
  change execValvePeakReached c s = _
  unfold execValvePeakReached
  rw [if_pos (by simp [hc, hpeak]), done]

/-- What a failed event leaves (R594 to R596). -/
theorem State.vlvFailed (s : State) (c at' kind ma p : Nat) (hruns : s.vlvRuns c = true) :
    ((s.vlvEnd c at').vlvFail c kind ma p).pf (vlvStat c) 0 2 = 3 ∧
    (((s.vlvEnd c at').vlvFail c kind ma p).vlv c).cur = (s.vlv c).queued ∧
    (((s.vlvEnd c at').vlvFail c kind ma p).vlv c).queued = none ∧
    (s.evOn 27 = true → ((s.vlvEnd c at').vlvFail c kind ma p).latched 27 = true) ∧
    (∀ d, d ≠ c → ((s.vlvEnd c at').vlvFail c kind ma p).vlv d = s.vlv d) := by
  have hvalve (d : Nat) := State.vlvFail_valve (s.vlvEnd c at') c kind ma p d
  refine ⟨?_, ?_, ?_, State.vlvFail_latched _ _ _ _ (s.vlvEnd_p c at' (by simp only [vlvStat]; omega)), fun d hd => ?_⟩
  · rw [State.pf_of_valve (hvalve c), State.vlvEnd_state, if_pos hruns]
  · rw [(Prod.mk.inj (hvalve c)).1, State.vlvEnd_vlv]
  · rw [(Prod.mk.inj (hvalve c)).1, State.vlvEnd_vlv]
  · rw [(Prod.mk.inj (hvalve d)).1, (Prod.mk.inj (s.vlvEnd_other at' hd)).1]

theorem valvePeakTimeout_gives (s : State) (c ma : Nat) (hc : c < 24) (hpeak : s.pf (vlvStat c) 0 2 = 1) :
    ∃ u : State, Gives (.valvePeakTimeout c ma) s u ∧ u.pf (vlvStat c) 0 2 = 3 ∧ (u.vlv c).cur = (s.vlv c).queued ∧
      (u.vlv c).queued = none ∧ (s.evOn 27 = true → u.latched 27 = true) ∧ (∀ d, d ≠ c → u.vlv d = s.vlv d) := by
  refine ⟨_, ?_, s.vlvFailed c (match (s.vlv c).cur with | some e => e.start + s.peakMax (s.vlvProf c) | none => s.now) 0 ma
    (s.vlvProf c) (State.vlvRuns_of_peak hpeak)⟩
  change execValvePeakTimeout c ma s = _
  unfold execValvePeakTimeout
  rw [if_pos (by simp [hc, hpeak])]
  rfl

theorem valveTurnOff_gives (s : State) (c t : Nat) (e : VEvent) (hc : c < 24) (hcur : (s.vlv c).cur = some e) (hstop : e.stop = some t)
    (hruns : s.vlvRuns c = true) :
    ∃ u : State, Gives (.valveTurnOff c) s u ∧ u.pf (vlvStat c) 0 2 = 3 ∧ u.vlv c = ⟨(s.vlv c).queued, none, t⟩ ∧
      (∀ d, d ≠ c → u.vlv d = s.vlv d) ∧ SameParams s u [vlvStat c] := by
  refine ⟨s.vlvEnd c t, ?_, ?_, ?_, fun d hd => (Prod.mk.inj (s.vlvEnd_other t hd)).1, fun a ha => s.vlvEnd_p c t (by simpa using ha)⟩
  · change execValveTurnOff c s = _
    unfold execValveTurnOff
    rw [hcur]
    dsimp only
    rw [hstop]
    dsimp only
    rw [if_pos (by simp [hc, hruns]), done]
  · rw [State.vlvEnd_state, if_pos hruns]
  · rw [State.vlvEnd_vlv, if_pos hruns]

theorem valveLsOvercurrent_gives (s : State) (c ma : Nat) (hc : c < 24) (hruns : s.vlvRuns c = true) :
    ∃ u : State, Gives (.valveLsOvercurrent c ma) s u ∧ u.pf (vlvStat c) 0 2 = 3 ∧ (u.vlv c).cur = (s.vlv c).queued ∧
      (s.evOn 27 = true → u.latched 27 = true) ∧ (∀ d, d ≠ c → u.vlv d = s.vlv d) := by
  obtain ⟨hstate, hcur, -, hlatch, hother⟩ := s.vlvFailed c s.freeNow 1 ma (s.vlvProf c) hruns
  refine ⟨((s.vlvEnd c s.freeNow).vlvFail c 1 ma (s.vlvProf c)).drawn, ?_, ?_, ?_, fun hon => ?_, fun d hd => ?_⟩
  · change execValveLsOvercurrent c ma s = _
    unfold execValveLsOvercurrent
    rw [if_pos (by simp [hc, hruns]), done]
  · rw [State.pf, State.drawn_p, ← State.pf, hstate]
  · rw [(State.drawn_chan _ c).2.1, hcur]
  · rw [State.latched_of_p (State.drawn_p _ _), hlatch hon]
  · rw [(State.drawn_chan _ d).2.1, hother d hd]

/-- The running channels of a bank. -/
def State.bankRuns (s : State) (b : Nat) : List Nat := ((List.range 4).map (fun k => 4 * b + k)).filter s.vlvRuns

theorem State.mem_bankRuns {s : State} {b d : Nat} : d ∈ s.bankRuns b ↔ d / 4 = b ∧ s.vlvRuns d = true := by
  simp only [State.bankRuns, List.mem_filter, List.mem_map, List.mem_range]
  refine and_congr_left fun _ => ⟨?_, fun h => ⟨d - 4 * b, by omega, by omega⟩⟩
  rintro ⟨k, hk, rfl⟩
  omega

theorem State.bankRuns_nodup (s : State) (b : Nat) : (s.bankRuns b).Nodup :=
  (List.nodup_range.map (fun x y h => by simpa using h)).filter _

/-- Every running channel of the list goes off, and the others stay as they are. -/
theorem State.each_vlvEnd (s : State) (l : List Nat) (hl : l.Nodup) (at' : Nat) :
    (∀ d ∈ l, s.vlvRuns d = true → (s.each l (fun t k => t.vlvEnd k at')).pf (vlvStat d) 0 2 = 3) ∧
    (∀ d, d ∉ l → (s.each l (fun t k => t.vlvEnd k at')).valve d = s.valve d) := by
  refine ⟨fun d hd hruns => ?_, fun d hd => ?_⟩
  · obtain ⟨t, ht, hafter⟩ := State.each_one (fun t => t.valve d) (fun t k => t.vlvEnd k at') d l hl hd
      (fun t y _ hy => t.vlvEnd_other at' hy.symm) s
    rw [State.pf_of_valve hafter, State.vlvEnd_state, if_pos (by rw [State.vlvRuns_of_valve ht, hruns])]
  · exact State.each_keeps_mem (fun t => t.valve d) _ _ (fun t y hy => t.vlvEnd_other at' (fun h => hd (h ▸ hy))) s

theorem valveBfOvercurrent_gives (s : State) (b j ma : Nat) (hb : b < 6) (hj : j < 4) (hruns : s.vlvRuns (4 * b + j) = true) :
    ∃ u : State, Gives (.valveBfOvercurrent b ma) s u ∧ u.bankFeed b = false ∧
      (∀ k, k < 4 → s.vlvRuns (4 * b + k) = true → u.pf (vlvStat (4 * b + k)) 0 2 = 3) ∧
      (∀ d, d / 4 ≠ b → u.vlv d = s.vlv d) := by
  obtain ⟨c, r, hlist⟩ : ∃ c r, s.bankRuns b = c :: r :=
    List.exists_cons_of_ne_nil (List.ne_nil_of_mem (s.mem_bankRuns.mpr ⟨by omega, hruns⟩))
  obtain ⟨hoff, hrest⟩ := s.each_vlvEnd (s.bankRuns b) (s.bankRuns_nodup b) s.freeNow
  have hvalve (d : Nat) : (((s.each (s.bankRuns b) (fun t k => t.vlvEnd k s.freeNow)).vlvFail (4 * b) 2 ma
      (s.vlvProf c)).drawn).valve d = (s.each (s.bankRuns b) (fun t k => t.vlvEnd k s.freeNow)).valve d :=
    Prod.ext ((State.drawn_chan _ d).2.1.trans (Prod.mk.inj (State.vlvFail_valve _ _ _ _ _ d)).1)
      ((State.drawn_p _ _).trans (Prod.mk.inj (State.vlvFail_valve _ _ _ _ _ d)).2)
  have hstate (k : Nat) (hk : k < 4) (h : s.vlvRuns (4 * b + k) = true) : (((s.each (s.bankRuns b)
      (fun t k => t.vlvEnd k s.freeNow)).vlvFail (4 * b) 2 ma (s.vlvProf c)).drawn).pf (vlvStat (4 * b + k)) 0 2 = 3 := by
    rw [State.pf_of_valve (hvalve _), hoff _ (s.mem_bankRuns.mpr ⟨by omega, h⟩) h]
  refine ⟨_, ?_, ?_, hstate, fun d hd => ?_⟩
  · change execValveBfOvercurrent b ma s = _
    unfold execValveBfOvercurrent
    rw [← State.bankRuns, hlist]
    dsimp only
    rw [if_pos hb, done]
  · unfold State.bankFeed
    rw [List.any_eq_false]
    intro k hk
    have hk := List.mem_range.mp hk
    by_cases h : s.vlvRuns (4 * b + k) = true
    · simp [hstate k hk h]
    · have hnot : 4 * b + k ∉ s.bankRuns b := fun hmem => h (s.mem_bankRuns.mp hmem).2
      rw [State.pf_of_valve ((hvalve _).trans (hrest _ hnot))]
      exact h
  · rw [(Prod.mk.inj ((hvalve d).trans (hrest d (fun hmem => hd (s.mem_bankRuns.mp hmem).1)))).1]

theorem valveStop_gives (s : State) (c t : Nat) (e : VEvent) (hc : c < 24) (hcur : (s.vlv c).cur = some e) (hkill : e.kill = some t) :
    ∃ u : State, Gives (.valveStop c) s u ∧ (u.vlv c).cur = (s.vlv c).queued ∧ (u.vlv c).queued = none ∧
      u.vlvRuns c = false ∧ SameParams s u [vlvStat c] := by
  refine ⟨s.vlvEnd c t, ?_, by rw [State.vlvEnd_vlv], by rw [State.vlvEnd_vlv], ?_, fun a ha => s.vlvEnd_p c t (by simpa using ha)⟩
  · change execValveStop c s = _
    unfold execValveStop
    rw [hcur]
    dsimp only
    rw [hkill]
    dsimp only
    rw [if_pos hc, done]
  · rw [State.vlvRuns, State.vlvEnd_state]
    by_cases h : s.vlvRuns c = true
    · rw [if_pos h]; rfl
    · rw [if_neg h, ← State.vlvRuns]
      simpa using h

theorem valveMinoffEnd_early (s : State) (c : Nat) (hearly : s.now + s.tUs < (s.vlv c).stopped + s.minOff c) :
    Gives (.valveMinoffEnd c) s s := by
  change execValveMinoffEnd c s = _
  unfold execValveMinoffEnd
  rw [if_neg (by simp only [Bool.and_eq_true, decide_eq_true_eq]; omega), done]

theorem valveMinoffEnd_gives (s : State) (c : Nat) (hc : c < 24) (hoff : s.pf (vlvStat c) 0 2 = 3)
    (hover : (s.vlv c).stopped + s.minOff c ≤ s.now + s.tUs) :
    ∃ u : State, Gives (.valveMinoffEnd c) s u ∧ u.pf (vlvStat c) 0 2 = 0 ∧ u.out = s.out ∧ SameParams s u [vlvStat c] := by
  refine ⟨(s.setPf (vlvStat c) 0 2 0).vlvBits c, ?_, ?_, ?_, fun a ha => ?_⟩
  · change execValveMinoffEnd c s = _
    unfold execValveMinoffEnd
    rw [if_pos (by simp [hc, hoff, hover]), done]
  · rw [State.vlvBits_pf _ _ (by decide), State.pf_setPf_same _ _ _ _ _ (by decide), Nat.zero_mod]
  · rw [State.vlvBits_out, State.setPf_out]
  · have hne : a ≠ vlvStat c := by simpa using ha
    rw [State.vlvBits_p _ _ hne, State.p_setPf_other _ _ _ _ hne]

end Sys2Proof.Machine

namespace Sys2Proof
open Machine

/-- Settles O36, command by command. -/
theorem valveEvents : Obligations.ValveEvents :=
  ⟨valveStart_gives, valvePeakReached_gives, valvePeakTimeout_gives, valveTurnOff_gives, valveLsOvercurrent_gives,
    valveBfOvercurrent_gives, valveStop_gives, valveMinoffEnd_early, valveMinoffEnd_gives⟩

end Sys2Proof

/-! Load switches (R545 to R588): the drive of a channel that is no contactor, and the bits that no drive writes. -/
namespace Sys2Proof.Machine

/-- A bit of a channel's status that its drive leaves. -/
theorem State.hsDrive_bit (s : State) (n : Nat) {l : Nat} (h : l ∉ [0, 1, 5, 7]) : (s.hsDrive n).pb (hsStat n) l = s.pb (hsStat n) l := by
  have hpwm : hsStat n ≠ hsPwm n := by simp [hsStat, hsPwm]
  have hshadow : hsStat n ≠ hsPwmSh n := by simp [hsStat, hsPwmSh]
  have hweld : hsStat n ≠ 0x2731 := by simp only [hsStat]; omega
  exact State.hsDrive_keeps (fun t => t.pb (hsStat n) l) n
    (fun t b lo hlo => t.pb_setPb_bit _ b (by fin_cases hlo <;> decide) (fun heq => h (heq ▸ hlo)))
    (fun t _ => congrArg (bit · l) (t.p_setP_other _ hpwm)) (fun t _ => congrArg (bit · l) (t.p_setP_other _ hshadow))
    (fun t _ => congrArg (bit · l) (t.p_setP_other _ hweld)) (fun _ _ _ => rfl) (fun _ _ _ => rfl) (fun _ _ => rfl)
    (fun _ _ => rfl) (fun _ => rfl) s

/-- A channel that is no contactor: its drive writes its status and its open-load level alone. -/
theorem State.hsDrive_plain_keeps {β : Type} (π : State → β) (n : Nat) (s : State) (hcon : s.isCon n = false)
    (hstat : ∀ t v, π (State.setP t (hsStat n) v) = π t)
    (hload : ∀ t, π (State.updHs t n (fun c => { c with below := 0, above := 0, olMa := none })) = π t)
    (hfinish : ∀ t, π (State.finish t 22 n) = π t) : π (s.hsDrive n) = π s := by
  have hend (t : State) : π (t.olEnd n) = π t := (hload _).trans ((hstat _ _).trans (hfinish _))
  have hbit (t : State) (lo : Nat) (b : Bool) : π (t.setPb (hsStat n) lo b) = π t := hstat _ _
  unfold State.hsDrive
  dsimp only
  rw [if_neg (by simp [hcon])]
  split_ifs <;> simp only [hend, hbit]

/-- The edges of a channel that is no contactor. -/
theorem State.hsDrive_plain_hs (s : State) {n : Nat} (hcon : s.isCon n = false) :
    (s.hsDrive n).p (hsPwm n) = s.p (hsPwm n) ∧ (s.hsDrive n).p (hsPwmSh n) = s.p (hsPwmSh n) ∧
    (s.hsDrive n).p (hsPwmStat n) = s.p (hsPwmStat n) ∧ (s.hsDrive n).p (hsCfg n) = s.p (hsCfg n) ∧
    ((s.hsDrive n).hs n).carry = (s.hs n).carry ∧ ((s.hsDrive n).hs n).movePg = (s.hs n).movePg := by
  have hne (a : Nat) (h : a ≠ hsStat n) : (s.hsDrive n).p a = s.p a :=
    State.hsDrive_plain_keeps (fun t => t.p a) n s hcon (fun t _ => t.p_setP_other _ h) (fun _ => rfl) (fun _ => rfl)
  refine ⟨hne _ (by simp only [hsPwm, hsStat]; omega), hne _ (by simp only [hsPwmSh, hsStat]; omega),
    hne _ (by simp only [hsPwmStat, hsStat]; omega), hne _ (by simp only [hsCfg, hsStat]; omega), ?_, ?_⟩
  · exact State.hsDrive_plain_keeps (fun t => (t.hs n).carry) n s hcon (fun _ _ => rfl)
      (fun t => by rw [State.updHs_same]) (fun _ => rfl)
  · exact State.hsDrive_plain_keeps (fun t => (t.hs n).movePg) n s hcon (fun _ _ => rfl)
      (fun t => by rw [State.updHs_same]) (fun _ => rfl)

/-- A channel's own words. -/
def hsWords (n : Nat) : List Nat := [hsCfg n, hsStat n, hsPwm n, hsPwmSh n, hsPwmStat n]

/-- A channel as its own chapter sees it: what it does, and its words. -/
def State.switch (s : State) (n : Nat) : HsCh × List Nat := (s.hs n, (hsWords n).map s.p)

theorem State.switch_p {s t : State} {n a : Nat} (h : t.switch n = s.switch n) (ha : a ∈ hsWords n) : t.p a = s.p a :=
  List.map_inj_left.mp (Prod.mk.inj h).2 a ha

theorem State.switch_of {s t : State} {n : Nat} (hhs : t.hs n = s.hs n) (hp : ∀ a ∈ hsWords n, t.p a = s.p a) :
    t.switch n = s.switch n := Prod.ext hhs (List.map_inj_left.mpr hp)

theorem hsWords_apart {n k a : Nat} (ha : a ∈ hsWords k) (h : k ≠ n) : a ∉ hsWords n := by
  simp only [hsWords, hsCfg, hsStat, hsPwm, hsPwmSh, hsPwmStat, List.mem_cons, List.not_mem_nil, or_false] at ha ⊢
  omega

theorem hsWords_ne {n a b : Nat} (ha : a ∉ hsWords n) (hb : b ∈ hsWords n) : a ≠ b := fun h => ha (h ▸ hb)

theorem hsWords_lt {n a : Nat} (hn : n < 40) (ha : a ∈ hsWords n) : 0x2000 ≤ a ∧ a < 0x2100 := by
  simp only [hsWords, hsCfg, hsStat, hsPwm, hsPwmSh, hsPwmStat, List.mem_cons, List.not_mem_nil, or_false] at ha
  omega

/-- A drive leaves every other channel, with its words (of the forty). -/
theorem State.hsDrive_switch_other (s : State) {n k : Nat} (hk : k < 40) (h : k ≠ n) : (s.hsDrive n).switch k = s.switch k :=
  State.switch_of (s.hsDrive_hs_other h) (fun a ha => s.hsDrive_p n a
    (hsWords_ne (hsWords_apart ha h) (by simp [hsWords])) (hsWords_ne (hsWords_apart ha h) (by simp [hsWords]))
    (hsWords_ne (hsWords_apart ha h) (by simp [hsWords])) (by have := hsWords_lt hk ha; omega))

end Sys2Proof.Machine

/-! A generator's reload (R558 to R563). -/
namespace Sys2Proof.Machine

theorem State.hsReload_other (s : State) {n k : Nat} (ns : Nat) (same : Bool) (hk : k < 40) (h : k ≠ n) :
    (s.hsReload n ns same).switch k = s.switch k := by
  have hset (t : State) {b : Nat} (v : Nat) (hb : b ∈ hsWords n) : (t.setP b v).switch k = t.switch k :=
    State.switch_of (t.setP_chan b v k).1 (fun a ha => t.p_setP_other v (hsWords_ne (hsWords_apart ha h) hb))
  have hupd (t : State) (f : HsCh → HsCh) : (t.updHs n f).switch k = t.switch k :=
    State.switch_of (t.updHs_other f h) (fun a _ => t.updHs_p n f a)
  have hlate : (if same && (s.hs n).shPrev.isSome then s.incPf (hsPwmStat n) 0 16 else s).switch k = s.switch k :=
    State.ite_keeps (fun t => t.switch k) _ _ _ _ (hset s _ (by simp [hsWords])) rfl
  unfold State.hsReload
  dsimp only
  refine State.ite_keeps (fun t => t.switch k) _ _ _ _ ((hupd _ _).trans hlate) ?_
  refine (State.hsDrive_switch_other _ hk h).trans ((hupd _ _).trans ?_)
  exact (hset _ _ (by simp [hsWords])).trans ((hset _ _ (by simp [hsWords])).trans hlate)

/-- Every word apart from a channel's own and the weld check outlasts its reload. -/
theorem State.hsReload_p (s : State) (n ns : Nat) (same : Bool) {a : Nat} (h : a ∉ hsWords n) (h' : a ≠ 0x2731) :
    (s.hsReload n ns same).p a = s.p a := by
  have hset (t : State) {b : Nat} (v : Nat) (hb : b ∈ hsWords n) : (t.setP b v).p a = t.p a := t.p_setP_other v (hsWords_ne h hb)
  have hlate : (if same && (s.hs n).shPrev.isSome then s.incPf (hsPwmStat n) 0 16 else s).p a = s.p a :=
    State.ite_keeps (fun t => t.p a) _ _ _ _ (hset s _ (by simp [hsWords])) rfl
  unfold State.hsReload
  dsimp only
  refine State.ite_keeps (fun t => t.p a) _ _ _ _ ((State.updHs_p _ _ _ _).trans hlate) ?_
  refine (State.hsDrive_p _ n a (hsWords_ne h (by simp [hsWords])) (hsWords_ne h (by simp [hsWords]))
    (hsWords_ne h (by simp [hsWords])) h').trans ((State.updHs_p _ _ _ _).trans ?_)
  exact (hset _ _ (by simp [hsWords])).trans ((hset _ _ (by simp [hsWords])).trans hlate)

/-- The word that a reload copies: the shadow, or what it held before a write of the same clock (R559). -/
def State.reloadWord (s : State) (n : Nat) (same : Bool) : Nat :=
  if same then (s.hs n).shPrev.getD (s.p (hsPwmSh n)) else s.p (hsPwmSh n)

/-- What a reload puts into a channel that no undervoltage holds, before its drive settles. -/
def State.reloadPut (s : State) (n ns : Nat) (same : Bool) : State :=
  let r := nextEdges (s.hs n) (s.p (hsPwm n)) (s.reloadWord n same) ns
  ((((if same && (s.hs n).shPrev.isSome then s.incPf (hsPwmStat n) 0 16 else s).setP (hsPwm n) (s.reloadWord n same)).setPb
    (hsPwmStat n) 21 (pwmClamps (fld (s.reloadWord n same) 0 16) ns)).updHs n (fun x => { x with
      shPrev := none, rise := r.rise, ago := r.ago, carry := r.carry
      cmdOn := x.cmdOn && !(s.isCon n && fld (s.reloadWord n same) 0 16 == 0 && r.carry == 0) }))

theorem State.hsReload_eq (s : State) {n : Nat} (ns : Nat) (same : Bool) (huv : (s.hs n).uvOff = false) :
    s.hsReload n ns same = (s.reloadPut n ns same).hsDrive n := by
  unfold State.hsReload
  dsimp only
  rw [if_neg (by simp [huv])]
  rfl

theorem State.reloadLate_p (s : State) {n a : Nat} (b : Bool) (h : a ≠ hsPwmStat n) :
    (if b then s.incPf (hsPwmStat n) 0 16 else s).p a = s.p a :=
  State.ite_keeps (fun t => t.p a) _ _ _ _ (s.p_setPf_other _ _ _ h) rfl

theorem State.reloadPut_p (s : State) {n a : Nat} (ns : Nat) (same : Bool) (h : a ≠ hsPwm n) (h' : a ≠ hsPwmStat n) :
    (s.reloadPut n ns same).p a = s.p a := by
  rw [State.reloadPut, State.updHs_p, State.p_setPb_other _ _ _ h', State.p_setP_other _ _ h, s.reloadLate_p _ h']

theorem State.reloadPut_pwm (s : State) (n ns : Nat) (same : Bool) :
    (s.reloadPut n ns same).p (hsPwm n) = s.reloadWord n same % 2 ^ 32 := by
  rw [State.reloadPut, State.updHs_p, State.p_setPb_other _ _ _ (by simp [hsPwm, hsPwmStat]), State.p_setP_same]

theorem State.reloadPut_late (s : State) (n ns : Nat) (same : Bool) : (s.reloadPut n ns same).pf (hsPwmStat n) 0 16 =
    if same && (s.hs n).shPrev.isSome then Nat.min (s.pf (hsPwmStat n) 0 16 + 1) 65535 else s.pf (hsPwmStat n) 0 16 := by
  rw [State.reloadPut, State.updHs_pf, State.pf_setPb_apart _ _ _ _ (by decide) (.inl (by decide)), State.pf,
    State.p_setP_other _ _ (by simp [hsPwm, hsPwmStat]), ← State.pf]
  split
  · exact s.pf_incPf _ _ _ (by decide)
  · rfl

theorem State.reloadPut_bound (s : State) (n ns : Nat) (same : Bool) {l w : Nat} (h : 16 ≤ l) (h' : l + w ≤ 21) :
    (s.reloadPut n ns same).pf (hsPwmStat n) l w = s.pf (hsPwmStat n) l w := by
  rw [State.reloadPut, State.updHs_pf, State.pf_setPb_apart _ _ _ _ (by decide) (.inl h'), State.pf,
    State.p_setP_other _ _ (by simp [hsPwm, hsPwmStat]), ← State.pf]
  split
  · exact s.pf_setPf_apart _ _ _ _ (by decide) (.inr h)
  · rfl

theorem State.reloadPut_hs (s : State) (n ns : Nat) (same : Bool) :
    ((s.reloadPut n ns same).hs n).shPrev = none ∧
    ((s.reloadPut n ns same).hs n).carry = (nextEdges (s.hs n) (s.p (hsPwm n)) (s.reloadWord n same) ns).carry ∧
    ((s.reloadPut n ns same).hs n).movePg = (s.hs n).movePg ∧ ((s.reloadPut n ns same).hs n).retry = (s.hs n).retry ∧
    ((s.reloadPut n ns same).hs n).uvOff = (s.hs n).uvOff := by
  have hstart : ((((if same && (s.hs n).shPrev.isSome then s.incPf (hsPwmStat n) 0 16 else s).setP (hsPwm n)
      (s.reloadWord n same)).setPb (hsPwmStat n) 21 (pwmClamps (fld (s.reloadWord n same) 0 16) ns))).hs n = s.hs n := by
    rw [(State.setPb_chan _ _ _ _ n).1, (State.setP_chan _ _ _ n).1]
    exact State.ite_keeps (fun t => t.hs n) _ _ _ _ (s.incPf_chan _ _ _ n).1 rfl
  rw [State.reloadPut, State.updHs_same, hstart]
  exact ⟨rfl, rfl, rfl, rfl, rfl⟩

theorem State.reloadPut_isCon (s : State) (n ns : Nat) (same : Bool) : (s.reloadPut n ns same).isCon n = s.isCon n :=
  State.isCon_of_p (s.reloadPut_p ns same (by simp [hsCfg, hsPwm]) (by simp [hsCfg, hsPwmStat]))

end Sys2Proof.Machine

/-! The channels of a generator that reloads. -/
namespace Sys2Proof.Machine

/-- The generator has counted its reload, and its channels have not taken it yet. -/
def State.pgCounted (s : State) (g : Nat) : State :=
  (s.setP (0x2100 + 2 * g) ((s.p (0x2100 + 2 * g) + 1) % 2 ^ 32)).updPg g (fun p => { p with counting := true })

/-- The load switches that pulse from a generator. -/
def State.pgSwitches (s : State) (g : Nat) : List Nat := (List.range 24).filter (fun n => s.hsGen n == some g)

/-- The load switches have taken the reload. -/
def State.pgSwitched (s : State) (g : Nat) (same : Bool) : State :=
  (s.pgCounted g).each ((s.pgCounted g).pgSwitches g) (fun t n => t.hsReload n (s.pg g).period same)

theorem State.pgReload_eq (s : State) {g : Nat} (same : Bool) (h : (s.pg g).period ≠ 0) : s.pgReload g same =
    (s.pgSwitched g same).each ((List.range 8).filter (fun b => (s.pgSwitched g same).hbOn b g)) (fun t b => t.updHb b (fun h =>
      { h with duty := if same then h.shPrev.getD h.dutySh else h.dutySh, shPrev := none })) := by
  unfold State.pgReload
  dsimp only
  rw [if_neg h]
  rfl

/-- The bridges' part of a reload leaves all that a bridge's channel does not tell. -/
theorem State.pgReload_keeps {β : Type} (π : State → β) (hhb : ∀ t b f, π (State.updHb t b f) = π t) (s : State) {g : Nat}
    (same : Bool) (h : (s.pg g).period ≠ 0) : π (s.pgReload g same) = π (s.pgSwitched g same) := by
  rw [s.pgReload_eq same h]
  exact State.each_keeps π _ _ (fun t b => hhb t b _) _

theorem State.pgCounted_switch (s : State) {g n : Nat} (hn : n < 40) : (s.pgCounted g).switch n = s.switch n :=
  State.switch_of (s.setP_chan _ _ n).1 (fun a ha => by
    have := hsWords_lt hn ha
    rw [State.pgCounted, State.updPg_p, State.p_setP_other _ _ (by omega)])

theorem State.isCon_of_switch {s t : State} {n : Nat} (h : t.switch n = s.switch n) : t.isCon n = s.isCon n :=
  State.isCon_of_p (State.switch_p h (by simp [hsWords]))

/-- The generator that a bound channel pulses from. -/
theorem State.hsGen_bound {s : State} {n : Nat} (hcon : s.isCon n = false) (hbound : s.hsBound n = true)
    (hmove : (s.hs n).movePg = none) : s.hsGen n = some (s.pf (hsPwmStat n) 16 4) := by
  simp [State.hsGen, hcon, hbound, hmove]

theorem State.hsGen_of_switch {s t : State} {n : Nat} (h : t.switch n = s.switch n) : t.hsGen n = s.hsGen n := by
  have hstat : t.p (hsPwmStat n) = s.p (hsPwmStat n) := State.switch_p h (by simp [hsWords])
  rw [State.hsGen, State.hsGen, State.isCon_of_switch h, (Prod.mk.inj h).1, State.hsBound, State.hsBound, State.pb, State.pb,
    State.pf, State.pf, hstat]

/-- What the reload does at one of the generator's channels is that channel's reload. -/
theorem State.pgReload_one (s : State) {g n : Nat} (same : Bool) (h : (s.pg g).period ≠ 0) (hn : n < 24) (hgen : s.hsGen n = some g) :
    ∃ t : State, t.switch n = s.switch n ∧ (s.pgReload g same).switch n = (t.hsReload n (s.pg g).period same).switch n := by
  have hmem : n ∈ (s.pgCounted g).pgSwitches g := by
    rw [State.pgSwitches, List.mem_filter, State.hsGen_of_switch (s.pgCounted_switch (by omega)), hgen]
    exact ⟨List.mem_range.mpr hn, by simp⟩
  obtain ⟨t, ht, hafter⟩ := State.each_one (fun t => t.switch n) (fun t n => t.hsReload n (s.pg g).period same) n
    ((s.pgCounted g).pgSwitches g) (List.nodup_range.filter _) hmem
    (fun t y _ hy => t.hsReload_other _ same (by omega) hy.symm) (s.pgCounted g)
  refine ⟨t, ht.trans (s.pgCounted_switch (by omega)), ?_⟩
  exact (s.pgReload_keeps (fun t => t.switch n) (fun _ _ _ => rfl) same h).trans hafter

theorem State.pgReload_sys (s : State) (g : Nat) (same : Bool) : (s.pgReload g same).sys = s.sys := by simp

theorem State.pgReload_pg (s : State) {g : Nat} (same : Bool) (h : (s.pg g).period ≠ 0) :
    (s.pgReload g same).pg g = { s.pg g with counting := true } := by
  have hreload (t : State) (n ns : Nat) : (t.hsReload n ns same).pg g = t.pg g := by
    have hupd (t : State) (f : HsCh → HsCh) : (t.updHs n f).pg g = t.pg g := rfl
    have hlate : (if same && (t.hs n).shPrev.isSome then t.incPf (hsPwmStat n) 0 16 else t).pg g = t.pg g :=
      State.ite_keeps (fun t => t.pg g) _ _ _ _ (t.incPf_chan _ _ _ g).2.2.2.2.2 rfl
    unfold State.hsReload
    dsimp only
    refine State.ite_keeps (fun t => t.pg g) _ _ _ _ ((hupd _ _).trans hlate) ?_
    rw [State.pg, (State.hsDrive_out _ n).2.2.2, ← State.pg, hupd, (State.setPb_chan _ _ _ _ g).2.2.2.2.2,
      (State.setP_chan _ _ _ g).2.2.2.2.2, hlate]
  rw [s.pgReload_keeps (fun t => t.pg g) (fun _ _ _ => rfl) same h, State.pgSwitched,
    State.each_keeps (fun t => t.pg g) _ _ (fun t n => hreload t n _), State.pgCounted, State.updPg_same,
    (State.setP_chan _ _ _ g).2.2.2.2.2]

theorem State.pgReload_count (s : State) {g : Nat} (same : Bool) (hg : g < 16) (h : (s.pg g).period ≠ 0) :
    (s.pgReload g same).p (0x2100 + 2 * g) = (s.p (0x2100 + 2 * g) + 1) % 2 ^ 32 := by
  have hapart (n : Nat) (hn : n < 24) : 0x2100 + 2 * g ∉ hsWords n := fun hmem => by
    have := hsWords_lt (by omega) hmem
    omega
  rw [s.pgReload_keeps (fun t => t.p (0x2100 + 2 * g)) (fun _ _ _ => rfl) same h, State.pgSwitched,
    State.each_keeps_mem (fun t => t.p (0x2100 + 2 * g)) _ _ (fun t n hn => t.hsReload_p n _ same
      (hapart n (by simpa using (List.mem_filter.mp hn).1)) (by omega)), State.pgCounted, State.updPg_p, State.p_setP_same,
    Nat.mod_mod]

/-- A channel may drive in a state in which its words and flags are those of another. -/
theorem State.hsMay_of {s t : State} {n : Nat} (hsys : t.sys.phase = s.sys.phase)
    (hbit : ∀ l, l ∉ [0, 1, 5, 7] → t.pb (hsStat n) l = s.pb (hsStat n) l) (hretry : (t.hs n).retry = (s.hs n).retry)
    (huv : (t.hs n).uvOff = (s.hs n).uvOff) : t.hsMay n = s.hsMay n := by
  rw [State.hsMay, State.hsMay, State.awake, State.awake, hsys, hbit 2 (by decide), hbit 3 (by decide), hbit 4 (by decide), hretry, huv]

/-- A pulse in progress at a reload lasts to its own end (R560). -/
theorem nextEdges_carry (c : HsCh) (oldW newW ns : Nat) (hpulse : pulses (fld oldW 0 16) = true) (hrise : c.rise < pgClocks ns) :
    c.rise + pwmOn (fld oldW 0 16) ns - pgClocks ns ≤ (nextEdges c oldW newW ns).carry := by
  have hbegun : (pulses (fld oldW 0 16) && decide (c.rise < pgClocks ns)) = true := by simp [hpulse, hrise]
  unfold nextEdges
  simp only [Bool.and_eq_true, decide_eq_true_eq] at hbegun ⊢
  rw [if_pos hbegun]
  split
  · exact le_trans (Nat.le_max_right _ _) (Nat.le_max_left _ _)
  · exact Nat.le_max_right _ _

end Sys2Proof.Machine

namespace Sys2Proof.Machine

/-- What the reload of a pulsed channel that no undervoltage holds shows (R559 to R563). -/
theorem State.hsReload_plain (s : State) {n : Nat} (ns : Nat) (same : Bool) (hcon : s.isCon n = false) (huv : (s.hs n).uvOff = false) :
    (s.hsReload n ns same).p (hsPwm n) = s.reloadWord n same % 2 ^ 32 ∧
    (s.hsReload n ns same).p (hsPwmSh n) = s.p (hsPwmSh n) ∧ ((s.hsReload n ns same).hs n).shPrev = none ∧
    ((s.hsReload n ns same).hs n).carry = (nextEdges (s.hs n) (s.p (hsPwm n)) (s.reloadWord n same) ns).carry ∧
    (s.hsReload n ns same).pf (hsPwmStat n) 0 16 = (s.reloadPut n ns same).pf (hsPwmStat n) 0 16 := by
  obtain ⟨hprev, hcarry, -, -, -⟩ := s.reloadPut_hs n ns same
  obtain ⟨hpwm, hshadow, hstat, -, hcarry', -⟩ := (s.reloadPut n ns same).hsDrive_plain_hs ((s.reloadPut_isCon n ns same).trans hcon)
  rw [s.hsReload_eq ns same huv, hpwm, hshadow, hcarry', State.pf, hstat, ← State.pf, (State.hsDrive_hs_same _ n).2.2.2.2.2.2]
  exact ⟨s.reloadPut_pwm n ns same, s.reloadPut_p ns same (by simp [hsPwmSh, hsPwm]) (by simp [hsPwmSh, hsPwmStat]), hprev, hcarry, rfl⟩

/-- A reload leaves the channel's generator, and whether it may drive. -/
theorem State.hsReload_drives (s : State) {n : Nat} (ns : Nat) (same : Bool) (hcon : s.isCon n = false) (huv : (s.hs n).uvOff = false) :
    (s.hsReload n ns same).hsGen n = s.hsGen n ∧
    (∀ l, l ∉ [0, 1, 5, 7] → (s.hsReload n ns same).pb (hsStat n) l = s.pb (hsStat n) l) ∧
    ((s.hsReload n ns same).hs n).retry = (s.hs n).retry ∧ ((s.hsReload n ns same).hs n).uvOff = false := by
  obtain ⟨-, -, hmove, hretry, huvOff⟩ := s.reloadPut_hs n ns same
  obtain ⟨-, -, hstat, hcfg, -, hmove'⟩ := (s.reloadPut n ns same).hsDrive_plain_hs ((s.reloadPut_isCon n ns same).trans hcon)
  obtain ⟨-, huv', hretry', -⟩ := (s.reloadPut n ns same).hsDrive_hs_same n
  have hcon' : ((s.reloadPut n ns same).hsDrive n).isCon n = s.isCon n := by
    rw [State.isCon_of_p hcfg, s.reloadPut_isCon]
  have hbound : ((s.reloadPut n ns same).hsDrive n).hsBound n = s.hsBound n := by
    have h := s.reloadPut_bound n ns same (l := 20) (w := 1) (by decide) (by decide)
    rw [State.pf, State.pf] at h
    rw [State.hsBound, State.hsBound, State.pb, State.pb, hstat, bit_eq_fld, bit_eq_fld, h]
  rw [s.hsReload_eq ns same huv]
  refine ⟨?_, fun l hl => ?_, hretry'.trans hretry, huv'.trans (huvOff.trans huv)⟩
  · rw [State.hsGen, State.hsGen, hcon', hbound, hmove', hmove, hcon, State.pf, hstat, ← State.pf,
      s.reloadPut_bound n ns same (by decide) (by decide)]
    simp
  · rw [State.hsDrive_bit _ n hl, State.pb, s.reloadPut_p ns same (by simp [hsStat, hsPwm]) (by simp [hsStat, hsPwmStat]), ← State.pb]

theorem State.reloadWord_of_switch {s t : State} {n : Nat} (h : t.switch n = s.switch n) (same : Bool) :
    t.reloadWord n same = s.reloadWord n same := by
  rw [State.reloadWord, State.reloadWord, (Prod.mk.inj h).1, State.switch_p h (by simp [hsWords])]

/-- A bound channel's words once its generator has reloaded (R559). -/
theorem State.pgReload_shown (s : State) {g n : Nat} (same : Bool) (hper : (s.pg g).period ≠ 0) (hn : n < 24) (hcon : s.isCon n = false)
    (hgen : s.hsGen n = some g) (huv : (s.hs n).uvOff = false) :
    (s.pgReload g same).p (hsPwm n) = s.reloadWord n same % 2 ^ 32 ∧
    (s.pgReload g same).p (hsPwmSh n) = s.p (hsPwmSh n) ∧ ((s.pgReload g same).hs n).shPrev = none ∧
    ((s.pgReload g same).hs n).carry = (nextEdges (s.hs n) (s.p (hsPwm n)) (s.reloadWord n same) (s.pg g).period).carry ∧
    (s.pgReload g same).pf (hsPwmStat n) 0 16 = (if same && (s.hs n).shPrev.isSome
      then Nat.min (s.pf (hsPwmStat n) 0 16 + 1) 65535 else s.pf (hsPwmStat n) 0 16) := by
  obtain ⟨t, ht, hu⟩ := s.pgReload_one same hper hn hgen
  have hhs : t.hs n = s.hs n := (Prod.mk.inj ht).1
  obtain ⟨hpwm, hshadow, hprev, hcarry, hlate⟩ := t.hsReload_plain (n := n) (s.pg g).period same
    ((State.isCon_of_switch ht).trans hcon) (by rw [hhs]; exact huv)
  rw [State.switch_p hu (a := hsPwm n) (by simp [hsWords]), State.switch_p hu (a := hsPwmSh n) (by simp [hsWords]), State.pf,
    State.switch_p hu (a := hsPwmStat n) (by simp [hsWords]), ← State.pf, (Prod.mk.inj hu).1, hpwm, hshadow, hcarry, hlate,
    t.reloadPut_late, hhs, State.reloadWord_of_switch ht, State.switch_p ht (a := hsPwm n) (by simp [hsWords]),
    State.switch_p ht (a := hsPwmSh n) (by simp [hsWords]), State.pf, State.switch_p ht (a := hsPwmStat n) (by simp [hsWords]),
    ← State.pf]
  exact ⟨rfl, rfl, hprev, rfl, rfl⟩

/-- A pulse in progress outlasts the reload (R560). -/
theorem State.pgReload_pulse (s : State) {g n : Nat} (same : Bool) (hper : (s.pg g).period ≠ 0) (hn : n < 24) (hcon : s.isCon n = false)
    (hgen : s.hsGen n = some g) (huv : (s.hs n).uvOff = false) (hmay : s.hsMay n = true)
    (hpulse : pulses (s.pf (hsPwm n) 0 16) = true) (hrise : (s.hs n).rise < pgClocks (s.pg g).period) {k : Nat}
    (hk : k < (s.hs n).rise + pwmOn (s.pf (hsPwm n) 0 16) (s.pg g).period - pgClocks (s.pg g).period) :
    (s.pgReload g same).hsPulse n k = true := by
  obtain ⟨-, -, -, hcarry, -⟩ := s.pgReload_shown same hper hn hcon hgen huv
  obtain ⟨t, ht, hu⟩ := s.pgReload_one same hper hn hgen
  have hhs : t.hs n = s.hs n := (Prod.mk.inj ht).1
  obtain ⟨hgen', hbits, hretry, huv'⟩ := t.hsReload_drives (n := n) (s.pg g).period same
    ((State.isCon_of_switch ht).trans hcon) (by rw [hhs]; exact huv)
  have hmay' : (s.pgReload g same).hsMay n = s.hsMay n := by
    refine State.hsMay_of (by rw [s.pgReload_sys]) (fun l hl => ?_) ?_ ?_
    · rw [State.pb, State.switch_p hu (by simp [hsWords]), ← State.pb, hbits l hl, State.pb, State.switch_p ht (by simp [hsWords]),
        ← State.pb]
    · rw [(Prod.mk.inj hu).1, hretry, hhs]
    · rw [(Prod.mk.inj hu).1, huv', huv]
  have hlong := nextEdges_carry (s.hs n) (s.p (hsPwm n)) (s.reloadWord n same) (s.pg g).period hpulse hrise
  have hbefore : k < ((s.pgReload g same).hs n).carry := by
    rw [hcarry]
    exact lt_of_lt_of_le hk hlong
  unfold State.hsPulse
  dsimp only
  rw [State.hsGen_of_switch hu, hgen', State.hsGen_of_switch ht, hgen]
  simp [hmay', hmay, hbefore]

theorem pgReload_gives (s : State) (g : Nat) (same : Bool) (hg : g < 16) (hawake : s.awake = true) (hper : (s.pg g).period ≠ 0) :
    ∃ u : State, Gives (.pgReload g same) s u ∧ u.p (0x2100 + 2 * g) = (s.p (0x2100 + 2 * g) + 1) % 2 ^ 32 ∧
      (u.pg g).counting = true ∧
      (∀ n, n < 24 → s.isCon n = false → s.hsBound n = true → s.pf (hsPwmStat n) 16 4 = g → (s.hs n).movePg = none →
        (s.hs n).uvOff = false → same = false ∨ (s.hs n).shPrev = none →
        u.p (hsPwm n) = s.p (hsPwmSh n) ∧
        (s.hsMay n = true → pulses (s.pf (hsPwm n) 0 16) = true → (s.hs n).rise < pgClocks (s.pg g).period →
          ∀ t, t < (s.hs n).rise + pwmOn (s.pf (hsPwm n) 0 16) (s.pg g).period - pgClocks (s.pg g).period →
            u.hsPulse n t = true)) ∧
      (∀ n w, n < 24 → s.isCon n = false → s.hsBound n = true → s.pf (hsPwmStat n) 16 4 = g → (s.hs n).movePg = none →
        (s.hs n).uvOff = false → same = true → (s.hs n).shPrev = some w →
        u.p (hsPwm n) = w % 2 ^ 32 ∧ u.p (hsPwmSh n) = s.p (hsPwmSh n) ∧ (u.hs n).shPrev = none ∧
        u.pf (hsPwmStat n) 0 16 = Nat.min (s.pf (hsPwmStat n) 0 16 + 1) 65535) := by
  refine ⟨s.pgReload g same, ?_, s.pgReload_count same hg hper, by rw [s.pgReload_pg same hper],
    fun n hn hcon hbound hof hmove huv hearly => ?_, fun n w hn hcon hbound hof hmove huv hsame hprev => ?_⟩
  · change execPgReload g same s = _
    unfold execPgReload
    rw [if_pos (by simp [hg, hawake]), done]
  · have hgen : s.hsGen n = some g := hof ▸ State.hsGen_bound hcon hbound hmove
    refine ⟨?_, fun hmay hpulse hrise t ht => s.pgReload_pulse same hper hn hcon hgen huv hmay hpulse hrise ht⟩
    have hword : s.reloadWord n same = s.p (hsPwmSh n) := by
      rcases hearly with h | h <;> simp [State.reloadWord, h]
    rw [(s.pgReload_shown same hper hn hcon hgen huv).1, hword, Nat.mod_eq_of_lt (s.p_lt _)]
  · have hgen : s.hsGen n = some g := hof ▸ State.hsGen_bound hcon hbound hmove
    obtain ⟨hpwm, hshadow, hnone, -, hlate⟩ := s.pgReload_shown same hper hn hcon hgen huv
    refine ⟨?_, hshadow, hnone, ?_⟩
    · rw [hpwm, State.reloadWord, hprev, hsame]
      rfl
    · rw [hlate, hprev, hsame]
      rfl

/-! Trips and waits (R564 to R571). -/

theorem hsLimiting_gives (s : State) (n : Nat) (hn : n < 40) (hon : s.pb (hsStat n) 0 = true) :
    Gives (.hsLimiting n) s (s.setPb (hsStat n) 1 true) := by
  change execHsLimiting n s = _
  unfold execHsLimiting
  rw [if_pos (by simp [hn, hon]), done]

/-- Whether AUTO retries a channel that trips (R567). -/
def State.hsAuto (s : State) (n : Nat) : Bool :=
  s.sys.phase != .kindling && s.pb (hsCfg n) 1 && decide (s.pf (hsStat n) 8 4 < s.pf (hsCfg n) 2 4)

/-- The marks of a first trip, before the drive follows (R565, R566, R571). -/
def State.hsTripped (s : State) (n ev ma : Nat) : State :=
  let d (k : Nat) : List Byte := le 1 n ++ le 1 k ++ le 2 (ma / 100) ++ le 1 (s.pf (hsStat n) 8 4)
  let s3 := (((s.raise ev (d 0)).setPb (hsStat n) 2 true).when (ev = 23) (fun t => t.setPb (hsStat n) 3 true)).updHs n
    (fun c => { c with tripped := true, retry := s.hsAuto n, quiet := 0, carry := 0 })
  if s.hsAuto n then s3 else ((s3.setPb (hsStat n) 4 true).raise ev (d 1)).hsCmdOff n

theorem State.hsTrip_eq (s : State) {n : Nat} (ev ma : Nat) (h : (s.hs n).tripped = false) :
    s.hsTrip n ev ma = (s.hsTripped n ev ma).hsDrive n := by
  unfold State.hsTrip
  dsimp only
  rw [if_neg (by simp [h])]
  rfl

/-- The marks of a trip keep what its event and its channel's own words do not tell. -/
theorem State.hsTripped_keeps {β : Type} (π : State → β) (n ev : Nat) (hraise : ∀ t d, π (State.raise t ev d) = π t)
    (hword : ∀ t v, ∀ a ∈ hsWords n, π (State.setP t a v) = π t) (hhs : ∀ t f, π (State.updHs t n f) = π t) (s : State) (ma : Nat) :
    π (s.hsTripped n ev ma) = π s := by
  have hstat (t : State) (lo : Nat) (b : Bool) : π (t.setPb (hsStat n) lo b) = π t := hword _ _ _ (by simp [hsWords])
  have hfirst : π ((((s.raise ev (le 1 n ++ le 1 0 ++ le 2 (ma / 100) ++ le 1 (s.pf (hsStat n) 8 4))).setPb (hsStat n) 2 true).when
      (ev = 23) (fun t => t.setPb (hsStat n) 3 true)).updHs n
      (fun c => { c with tripped := true, retry := s.hsAuto n, quiet := 0, carry := 0 })) = π s := by
    rw [hhs, State.when_keeps π _ _ (fun t => hstat t _ _), hstat, hraise]
  refine State.ite_keeps π _ _ _ _ hfirst ?_
  unfold State.hsCmdOff
  exact (hhs _ _).trans ((hword _ _ _ (by simp [hsWords])).trans ((hword _ _ _ (by simp [hsWords])).trans
    ((hraise _ _).trans ((hstat _ _ _).trans hfirst))))

theorem State.hsCmdOff_stat (s : State) (n : Nat) : (s.hsCmdOff n).p (hsStat n) = s.p (hsStat n) := by
  rw [State.hsCmdOff, State.updHs_p, State.p_setPf_other _ _ _ _ (by simp [hsStat, hsPwm]),
    State.p_setPf_other _ _ _ _ (by simp [hsStat, hsPwmSh])]

theorem State.hsCmdOff_hs (s : State) (n : Nat) : (s.hsCmdOff n).hs n = { s.hs n with cmdOn := false, carry := 0, shPrev := none } := by
  rw [State.hsCmdOff, State.updHs_same, (State.setPf_chan _ _ _ _ _ n).1, (State.setPf_chan _ _ _ _ _ n).1]

theorem State.hsCmdOff_p (s : State) {n a : Nat} (h : a ∉ hsWords n) : (s.hsCmdOff n).p a = s.p a := by
  rw [State.hsCmdOff, State.updHs_p, State.p_setPf_other _ _ _ _ (hsWords_ne h (by simp [hsWords])),
    State.p_setPf_other _ _ _ _ (hsWords_ne h (by simp [hsWords]))]

/-- The words of the events are apart from every channel's. -/
theorem hsWords_event {n a : Nat} (h : a < 0x2000) : a ∉ hsWords n := by
  simp only [hsWords, hsCfg, hsStat, hsPwm, hsPwmSh, hsPwmStat, List.mem_cons, List.not_mem_nil, or_false]
  omega

theorem hsStat_event {n e : Nat} (h : e < 64) : hsStat n ≠ 0x0600 + e / 32 ∧ hsStat n ≠ 0x060C + e / 32 := by
  simp only [hsStat]; omega

/-- The flags of a channel that has tripped (R565 to R567, R571). -/
theorem State.hsTripped_shown (s : State) (n ma : Nat) {ev : Nat} (hev : ev < 64) :
    (s.hsTripped n ev ma).pb (hsStat n) 2 = true ∧ (ev = 23 → (s.hsTripped n ev ma).pb (hsStat n) 3 = true) ∧
    ((s.hsTripped n ev ma).hs n).tripped = true ∧ ((s.hsTripped n ev ma).hs n).retry = s.hsAuto n ∧
    (s.hsAuto n = false → (s.hsTripped n ev ma).pb (hsStat n) 4 = true) ∧
    (s.evOn ev = true → (s.hsTripped n ev ma).latched ev = true) := by
  have hapart := hsStat_event (n := n) hev
  let d (k : Nat) : List Byte := le 1 n ++ le 1 k ++ le 2 (ma / 100) ++ le 1 (s.pf (hsStat n) 8 4)
  let s2 := ((s.raise ev (d 0)).setPb (hsStat n) 2 true).when (ev = 23) (fun t => t.setPb (hsStat n) 3 true)
  let s3 := s2.updHs n (fun c => { c with tripped := true, retry := s.hsAuto n, quiet := 0, carry := 0 })
  have hs2 : s2.pb (hsStat n) 2 = true := by
    refine (State.when_keeps (fun t => t.pb (hsStat n) 2) _ _ (fun t => t.pb_setPb_bit _ _ (by decide) (by decide)) _).trans ?_
    exact State.pb_setPb_same _ _ _ _ (by decide)
  have hhot (h : ev = 23) : s2.pb (hsStat n) 3 = true := by
    change (State.when _ (decide (ev = 23)) _).pb (hsStat n) 3 = true
    rw [State.when, if_pos (by simp [h]), State.pb_setPb_same _ _ _ _ (by decide)]
  have hhs : s3.hs n = { s.hs n with tripped := true, retry := s.hsAuto n, quiet := 0, carry := 0 } := by
    have h2 : s2.hs n = s.hs n := by
      refine (State.when_keeps (fun t => t.hs n) _ _ (fun t => (t.setPb_chan _ _ _ n).1) _).trans ?_
      rw [(State.setPb_chan _ _ _ _ n).1, (State.raise_chan _ _ _ n).1]
    rw [State.updHs_same, h2]
  have hlatch (hon : s.evOn ev = true) : s3.latched ev = true := by
    have h2 : s2.latched ev = (s.raise ev (d 0)).latched ev := by
      refine (State.when_keeps (fun t => t.latched ev) _ _ (fun t => ?_) _).trans ?_
      · exact State.latched_of_p (t.p_setPb_other _ _ hapart.1.symm)
      · exact State.latched_of_p (State.p_setPb_other _ _ _ hapart.1.symm)
    rw [State.latched_of_p (State.updHs_p _ _ _ _), h2, State.raise_latched _ _ hon]
  have heq : s.hsTripped n ev ma = if s.hsAuto n then s3 else ((s3.setPb (hsStat n) 4 true).raise ev (d 1)).hsCmdOff n := rfl
  by_cases hauto : s.hsAuto n = true
  · rw [heq, if_pos hauto]
    refine ⟨(State.updHs_pb _ _ _ _ _).trans hs2, fun h => (State.updHs_pb _ _ _ _ _).trans (hhot h), ?_, ?_,
      fun h => absurd (hauto.symm.trans h) (by decide), hlatch⟩
    · rw [hhs]
    · rw [hhs]
  · have hbit (l : Nat) : ((((s3.setPb (hsStat n) 4 true).raise ev (d 1)).hsCmdOff n).pb (hsStat n) l) =
        (s3.setPb (hsStat n) 4 true).pb (hsStat n) l := by
      rw [State.pb, State.hsCmdOff_stat, ← State.pb, State.raise_pb _ _ _ _ hapart.1 hapart.2]
    rw [heq, if_neg hauto, hbit, hbit, hbit, State.hsCmdOff_hs, (State.raise_chan _ _ _ n).1, (State.setPb_chan _ _ _ _ n).1, hhs]
    refine ⟨?_, fun h => ?_, rfl, rfl, fun _ => State.pb_setPb_same _ _ _ _ (by decide), fun hon => ?_⟩
    · rw [State.pb_setPb_bit _ _ _ (by decide) (by decide), State.updHs_pb, hs2]
    · rw [State.pb_setPb_bit _ _ _ (by decide) (by decide), State.updHs_pb, hhot h]
    · have hword : s3.p (0x0602 + ev / 32) = s.p (0x0602 + ev / 32) := by
        rw [State.updHs_p]
        refine (State.when_keeps (fun t => t.p (0x0602 + ev / 32)) _ _ (fun t => t.p_setPb_other _ _ ?_) _).trans ?_
        · simp only [hsStat]; omega
        · rw [State.p_setPb_other _ _ _ (by simp only [hsStat]; omega), s.raise_p ev _ (by omega) (by omega)]
      rw [State.latched_of_p (State.hsCmdOff_p _ (hsWords_event (by omega))), State.raise_latched _ _ ?_]
      rw [State.evOn_of_p ((State.p_setPb_other _ _ _ (by simp only [hsStat]; omega)).trans hword), hon]

/-- A first trip turns its channel off, and touches no other (R565). -/
theorem State.hsTrip_shown (s : State) {n : Nat} (ma : Nat) {ev : Nat} (hev : ev < 64) (hfirst : (s.hs n).tripped = false) :
    (s.hsTrip n ev ma).pb (hsStat n) 0 = false ∧ (s.hsTrip n ev ma).pb (hsStat n) 2 = true ∧
    (ev = 23 → (s.hsTrip n ev ma).pb (hsStat n) 3 = true) ∧ ((s.hsTrip n ev ma).hs n).tripped = true ∧
    ((s.hsTrip n ev ma).hs n).retry = s.hsAuto n ∧ (s.hsAuto n = false → (s.hsTrip n ev ma).pb (hsStat n) 4 = true) ∧
    (s.evOn ev = true → (s.hsTrip n ev ma).latched ev = true) ∧
    (∀ m, m ≠ n → m < 40 → (s.hsTrip n ev ma).hs m = s.hs m ∧ (s.hsTrip n ev ma).p (hsStat m) = s.p (hsStat m)) := by
  obtain ⟨hflag, hhot, htrip, hretry, hlatch, hevent⟩ := s.hsTripped_shown n ma hev
  obtain ⟨-, -, hretry', htrip', -⟩ := (s.hsTripped n ev ma).hsDrive_hs_same n
  rw [s.hsTrip_eq ev ma hfirst]
  refine ⟨?_, (State.hsDrive_bit _ n (by decide)).trans hflag, fun h => (State.hsDrive_bit _ n (by decide)).trans (hhot h),
    htrip'.trans htrip, hretry'.trans hretry, fun h => (State.hsDrive_bit _ n (by decide)).trans (hlatch h), fun hon => ?_,
    fun m hm hlt => ?_⟩
  · rw [State.hsDrive_on, State.hsMay, hflag]
    simp
  · rw [State.latched_of_p (State.hsDrive_p _ n _ (by simp only [hsStat]; omega) (by simp only [hsPwmSh]; omega)
      (by simp only [hsPwm]; omega) (by omega)), hevent hon]
  · have hstart : (s.hsTripped n ev ma).switch m = s.switch m :=
      State.hsTripped_keeps (fun t => t.switch m) n ev
        (fun t d => State.switch_of (t.raise_chan ev d m).1 (fun a ha => t.raise_p ev d (by have := hsWords_lt hlt ha; omega)
          (by have := hsWords_lt hlt ha; omega)))
        (fun t v b hb => State.switch_of (t.setP_chan b v m).1 (fun a ha => t.p_setP_other v (hsWords_ne (hsWords_apart ha hm) hb)))
        (fun t f => State.switch_of (t.updHs_other f hm) (fun a _ => t.updHs_p n f a)) s ma
    have hend := (State.hsDrive_switch_other (s.hsTripped n ev ma) hlt hm).trans hstart
    exact ⟨(Prod.mk.inj hend).1, State.switch_p hend (by simp [hsWords])⟩

theorem hsOvercurrentTrip_gives (s : State) (n ma : Nat) (hn : n < 40) (hon : s.pb (hsStat n) 0 = true)
    (hfirst : (s.hs n).tripped = false) :
    ∃ u : State, Gives (.hsOvercurrentTrip n ma) s u ∧ u.pb (hsStat n) 0 = false ∧ u.pb (hsStat n) 2 = true ∧
      (u.hs n).tripped = true ∧ (s.evOn 21 = true → u.latched 21 = true) ∧
      ((u.hs n).retry = (s.sys.phase != .kindling && s.pb (hsCfg n) 1 && decide (s.pf (hsStat n) 8 4 < s.pf (hsCfg n) 2 4))) ∧
      ((u.hs n).retry = false → u.pb (hsStat n) 4 = true) ∧
      (∀ m, m ≠ n → m < 40 → u.hs m = s.hs m ∧ u.p (hsStat m) = s.p (hsStat m)) := by
  obtain ⟨hoff, hflag, -, htrip, hretry, hlatch, hevent, hother⟩ := s.hsTrip_shown ma (ev := 21) (by decide) hfirst
  refine ⟨s.hsTrip n 21 ma, ?_, hoff, hflag, htrip, hevent, hretry, fun h => hlatch (hretry.symm.trans h), hother⟩
  change execHsOvercurrentTrip n ma s = _
  unfold execHsOvercurrentTrip
  rw [if_pos (by simp [hn, hon]), done]

theorem hsThermalTrip_gives (s : State) (n ma : Nat) (hn : n < 40) (hon : s.pb (hsStat n) 0 = true)
    (hfirst : (s.hs n).tripped = false) :
    ∃ u : State, Gives (.hsThermalTrip n ma) s u ∧ u.pb (hsStat n) 0 = false ∧ u.pb (hsStat n) 2 = true ∧
      u.pb (hsStat n) 3 = true ∧ (s.evOn 23 = true → u.latched 23 = true) ∧
      (∀ m, m ≠ n → m < 40 → u.hs m = s.hs m ∧ u.p (hsStat m) = s.p (hsStat m)) := by
  obtain ⟨hoff, hflag, hhot, -, -, -, hevent, hother⟩ := s.hsTrip_shown ma (ev := 23) (by decide) hfirst
  refine ⟨s.hsTrip n 23 ma, ?_, hoff, hflag, hhot rfl, hevent, hother⟩
  change execHsThermalTrip n ma s = _
  unfold execHsThermalTrip
  rw [if_pos (by simp [hn, hon]), done]

theorem State.hsWaited_out (s : State) (n : Nat) : (s.hsWaited n).out = s.out :=
  State.ite_keeps State.out _ _ _ _ rfl (State.ite_keeps State.out _ _ _ _ (s.setPf_out _ _ _ _) rfl)

theorem State.hsWaited_p (s : State) {n a : Nat} (h : a ≠ hsStat n) : (s.hsWaited n).p a = s.p a :=
  State.ite_keeps (fun t => t.p a) _ _ _ _ rfl (State.ite_keeps (fun t => t.p a) _ _ _ _ (s.p_setPf_other _ _ _ h) rfl)

theorem State.hsWaited_bit (s : State) (n : Nat) {l : Nat} (h : l < 8) : (s.hsWaited n).pb (hsStat n) l = s.pb (hsStat n) l :=
  State.ite_keeps (fun t => t.pb (hsStat n) l) _ _ _ _ rfl (State.ite_keeps (fun t => t.pb (hsStat n) l) _ _ _ _
    (s.pb_setPf_apart _ _ _ _ (by decide) (.inl h)) rfl)

/-- A retry is counted where AUTO still has one left (R567). -/
theorem State.hsWaited_retries (s : State) (n : Nat) : (s.hsWaited n).pf (hsStat n) 8 4 =
    if s.pb (hsStat n) 2 = false ∧ s.pb (hsStat n) 3 = false ∧ (s.hs n).retry = true ∧ s.pb (hsCfg n) 1 = true ∧
      s.pf (hsStat n) 8 4 < s.pf (hsCfg n) 2 4
    then s.pf (hsStat n) 8 4 + 1 else s.pf (hsStat n) 8 4 := by
  have hmax : s.pf (hsCfg n) 2 4 < 2 ^ 4 := Nat.mod_lt _ (by decide)
  unfold State.hsWaited
  by_cases hwait : (s.pb (hsStat n) 2 || s.pb (hsStat n) 3) = true
  · rw [if_pos hwait, if_neg (by rintro ⟨h2, h3, -⟩; simp [h2, h3] at hwait)]
  · rw [if_neg hwait]
    simp only [Bool.or_eq_true, not_or, Bool.not_eq_true] at hwait
    by_cases hmore : ((s.hs n).retry && s.pb (hsCfg n) 1 && decide (s.pf (hsStat n) 8 4 < s.pf (hsCfg n) 2 4)) = true
    · rw [if_pos (by simpa using hmore)]
      simp only [Bool.and_eq_true, decide_eq_true_eq] at hmore
      rw [if_pos ⟨hwait.1, hwait.2, hmore.1.1, hmore.1.2, hmore.2⟩, s.pf_incPf _ _ _ (by decide)]
      exact Nat.min_eq_left (by omega)
    · rw [if_neg (by simpa using hmore), if_neg]
      rintro ⟨-, -, h1, h2, h3⟩
      exact hmore (by simp [h1, h2, h3])

theorem hsCooldownEnd_gives (s : State) (n : Nat) (hn : n < 40) (htrip : s.pb (hsStat n) 2 = true) (hquiet : 8 ≤ (s.hs n).quiet) :
    ∃ u : State, Gives (.hsCooldownEnd n) s u ∧ u.pb (hsStat n) 2 = false ∧ u.out = s.out ∧ SameParams s u [hsStat n] ∧
      u.pf (hsStat n) 8 4 = (if s.pb (hsStat n) 3 = false ∧ (s.hs n).retry = true ∧ s.pb (hsCfg n) 1 = true ∧
          s.pf (hsStat n) 8 4 < s.pf (hsCfg n) 2 4
        then s.pf (hsStat n) 8 4 + 1 else s.pf (hsStat n) 8 4) := by
  have hcfg : hsCfg n ≠ hsStat n := by simp [hsCfg, hsStat]
  refine ⟨(s.setPb (hsStat n) 2 false).hsWaited n, ?_, ?_, ?_, fun a ha => ?_, ?_⟩
  · change execHsCooldownEnd n s = _
    unfold execHsCooldownEnd
    rw [if_pos (by simp [hn, htrip, hquiet]), done]
  · rw [State.hsWaited_bit _ _ (by decide), State.pb_setPb_same _ _ _ _ (by decide)]
  · rw [State.hsWaited_out, State.setPb_out]
  · have hne : a ≠ hsStat n := by simpa using ha
    rw [State.hsWaited_p _ hne, State.p_setPb_other _ _ _ hne]
  · rw [State.hsWaited_retries, State.pb_setPb_same _ _ _ _ (by decide), State.pb_setPb_bit _ _ _ (by decide) (by decide),
      (State.setPb_chan _ _ _ _ n).1, State.pb_setPb_other _ _ _ _ hcfg, State.pf_setPb_other _ _ _ _ _ hcfg,
      State.pf_setPb_apart _ _ _ _ (by decide) (.inr (by decide))]
    simp only [true_and]

theorem hsCooldownEnd_early (s : State) (n : Nat) (hquiet : (s.hs n).quiet < 8) : Gives (.hsCooldownEnd n) s s := by
  change execHsCooldownEnd n s = _
  unfold execHsCooldownEnd
  rw [if_neg (by simp only [Bool.and_eq_true, decide_eq_true_eq]; omega), done]

theorem hsThermalRestart_gives (s : State) (n : Nat) (hn : n < 40) (hhot : s.pb (hsStat n) 3 = true) :
    ∃ u : State, Gives (.hsThermalRestart n) s u ∧ u.pb (hsStat n) 3 = false ∧ u.out = s.out ∧ SameParams s u [hsStat n] := by
  refine ⟨(s.setPb (hsStat n) 3 false).hsWaited n, ?_, ?_, ?_, fun a ha => ?_⟩
  · change execHsThermalRestart n s = _
    unfold execHsThermalRestart
    rw [if_pos (by simp [hn, hhot]), done]
  · rw [State.hsWaited_bit _ _ (by decide), State.pb_setPb_same _ _ _ _ (by decide)]
  · rw [State.hsWaited_out, State.setPb_out]
  · have hne : a ≠ hsStat n := by simpa using ha
    rw [State.hsWaited_p _ hne, State.p_setPb_other _ _ _ hne]

theorem hsRetriesClear_gives (s : State) (n : Nat) (hn : n < 40) (hquiet : 1000 ≤ (s.hs n).quiet) :
    ∃ u : State, Gives (.hsRetriesClear n) s u ∧ u.pf (hsStat n) 8 4 = 0 ∧ SameParams s u [hsStat n] ∧ u.out = s.out := by
  refine ⟨s.setPf (hsStat n) 8 4 0, ?_, ?_, fun a ha => s.p_setPf_other _ _ _ (by simpa using ha), s.setPf_out _ _ _ _⟩
  · change execHsRetriesClear n s = _
    unfold execHsRetriesClear
    rw [if_pos (by simp [hn, hquiet]), done]
  · rw [State.pf_setPf_same _ _ _ _ _ (by decide), Nat.zero_mod]

theorem hsRetriesClear_early (s : State) (n : Nat) (hquiet : (s.hs n).quiet < 1000) : Gives (.hsRetriesClear n) s s := by
  change execHsRetriesClear n s = _
  unfold execHsRetriesClear
  rw [if_neg (by simp only [Bool.and_eq_true, decide_eq_true_eq]; omega), done]

/-! Follow mode and contactors (R576, R580). -/

theorem followInputChange_gives (s : State) (n us : Nat) (mv : Int) (hn : n < 16) (hfull : s.full = true)
    (hfollow : s.pb (hsStat (24 + n)) 6 = true) (hun : (s.hs (24 + n)).unfollow = false) (hmay : s.hsMay (24 + n) = true)
    (hlong : s.pf (0x2720 + n) 0 10 ≤ us) :
    ∃ u : State, Gives (.followInputChange n mv us) s u ∧
      u.pb (hsStat (24 + n)) 0 = (s.swRead (48 + n) mv (s.swRaw (48 + n)) != s.pb (0x2720 + n) 10) ∧
      (∀ m, m ≠ 24 + n → m < 40 → u.hs m = s.hs m ∧ u.p (hsStat m) = s.p (hsStat m)) := by
  let s1 := s.updSw (48 + n) (fun c => { c with raw := s.swRead (48 + n) mv (s.swRaw (48 + n)) })
  let s2 := s1.updHs (24 + n) (fun c => { c with follow := some (s.swRead (48 + n) mv (s.swRaw (48 + n))) })
  have hhs : s2.hs (24 + n) = { s.hs (24 + n) with follow := some (s.swRead (48 + n) mv (s.swRaw (48 + n))) } := s1.updHs_same _ _
  refine ⟨s2.hsDrive (24 + n), ?_, ?_, fun m hm hlt => ?_⟩
  · change execFollowInputChange n mv us s = _
    unfold execFollowInputChange
    rw [if_pos (by simp [hn, hfull, hfollow])]
    dsimp only
    rw [if_pos hlong, done]
  · have hfollows : s2.hsFollows (24 + n) = true := by
      have hbit : s2.pb (hsStat (24 + n)) 6 = true := hfollow
      simp [State.hsFollows, hbit, hhs, hun]
    have hmay' : s2.hsMay (24 + n) = s.hsMay (24 + n) := State.hsMay_of rfl (fun _ _ => rfl) (by rw [hhs]) (by rw [hhs])
    have hlevel : s2.followLevel (24 + n) = (s.swRead (48 + n) mv (s.swRaw (48 + n)) != s.pb (0x2720 + n) 10) := by
      rw [State.followLevel, hhs, Nat.add_sub_cancel_left]
      rfl
    rw [State.hsDrive_on, State.hsWant, if_pos hfollows, hmay', hmay, hlevel, Bool.and_true]
  · have hend : (s2.hsDrive (24 + n)).switch m = s.switch m :=
      (State.hsDrive_switch_other s2 hlt hm).trans (State.switch_of (s1.updHs_other _ hm) (fun _ _ => rfl))
    exact ⟨(Prod.mk.inj hend).1, State.switch_p hend (by simp [hsWords])⟩

theorem followInputChange_short (s : State) (n us : Nat) (mv : Int) (hn : n < 16) (hfull : s.full = true)
    (hfollow : s.pb (hsStat (24 + n)) 6 = true) (hshort : us < s.pf (0x2720 + n) 0 10) :
    ∃ u : State, Gives (.followInputChange n mv us) s u ∧ u.params = s.params ∧ u.out.hs = s.out.hs ∧
      (u.sw (48 + n)).raw = s.swRead (48 + n) mv (s.swRaw (48 + n)) := by
  refine ⟨s.updSw (48 + n) (fun c => { c with raw := s.swRead (48 + n) mv (s.swRaw (48 + n)) }), ?_, rfl, rfl, by rw [State.updSw_same]⟩
  change execFollowInputChange n mv us s = _
  unfold execFollowInputChange
  rw [if_pos (by simp [hn, hfull, hfollow])]
  dsimp only
  rw [if_neg (by omega), done]

theorem State.hsShadow_word (s : State) (n w : Nat) : (s.hsShadow n w).p (hsPwmSh n) = w % 2 ^ 32 :=
  have hset : ((s.setP (hsPwmSh n) w).updHs n (fun c => { c with shPrev := some (c.shPrev.getD (s.p (hsPwmSh n))) })).p (hsPwmSh n) =
      w % 2 ^ 32 := (State.updHs_p _ _ _ _).trans (s.p_setP_same _ _)
  State.ite_keeps (fun t => t.p (hsPwmSh n)) _ _ _ _ hset ((State.olEnd_p _ _ _ (by simp [hsPwmSh, hsStat])).trans hset)

theorem State.hsShadow_on (s : State) (n w : Nat) : (s.hsShadow n w).pb (hsStat n) 0 = s.pb (hsStat n) 0 :=
  have hset : ((s.setP (hsPwmSh n) w).updHs n (fun c => { c with shPrev := some (c.shPrev.getD (s.p (hsPwmSh n))) })).pb (hsStat n) 0 =
      s.pb (hsStat n) 0 := (State.updHs_pb _ _ _ _ _).trans (congrArg (bit · 0) (s.p_setP_other _ (by simp [hsPwmSh, hsStat])))
  State.ite_keeps (fun t => t.pb (hsStat n) 0) _ _ _ _ hset ((State.olEnd_on _ _).trans hset)

theorem contactorPullinEnd_gives (s : State) (n : Nat) (hn : n < 8) (hpull : (s.hs n).cont = 1) :
    ∃ u : State, Gives (.contactorPullinEnd n) s u ∧ (u.hs n).cont = 2 ∧ u.p (hsPwmSh n) = s.pf (0x2702 + 4 * n) 0 16 ∧
      u.pb (hsStat n) 7 = false ∧ u.pb (hsStat n) 0 = s.pb (hsStat n) 0 := by
  refine ⟨((s.hsShadow n (s.pf (0x2702 + 4 * n) 0 16)).setPb (hsStat n) 7 false).updHs n (fun c => { c with cont := 2 }), ?_, ?_, ?_,
    ?_, ?_⟩
  · change execContactorPullinEnd n s = _
    unfold execContactorPullinEnd
    rw [if_pos (by simp [hn, hpull]), done]
  · rw [State.updHs_same]
  · have hlt : s.pf (0x2702 + 4 * n) 0 16 < 2 ^ 16 := Nat.mod_lt _ (by decide)
    rw [State.updHs_p, State.p_setPb_other _ _ _ (by simp [hsPwmSh, hsStat]), State.hsShadow_word, Nat.mod_eq_of_lt (by omega)]
  · rw [State.updHs_pb, State.pb_setPb_same _ _ _ _ (by decide)]
  · rw [State.updHs_pb, State.pb_setPb_bit _ _ _ (by decide) (by decide), State.hsShadow_on]

/-! The weld check (R584 to R586). -/

theorem weldCheckEnd_gives (s : State) (w : Weld) (r : MeterRec) (hweld : s.out.weld = some w) (hchan : w.chan < 8)
    (hrec : (s.inst (s.pf 0x2730 8 3)).lastRec = some r) (hpack : bit r.mstat 2 = false) (hlink : bit r.mstat 3 = false)
    (hends : s.weldEnds w (s.inst (s.pf 0x2730 8 3)).recTick = true) :
    ∃ u : State, Gives .weldCheckEnd s u ∧ u.out.weld = none ∧ u.pf 0x2731 2 3 = w.chan ∧
      u.pf 0x2731 0 2 = (if (if r.vPack < r.vLink then r.vLink - r.vPack else r.vPack - r.vLink) ≤ 1000 * s.pf 0x2730 24 8
        then 2 else 1) := by
  let d := if r.vPack < r.vLink then r.vLink - r.vPack else r.vPack - r.vLink
  let s1 := (s.mapOut (fun o => { o with weld := none })).setPf 0x2731 2 3 w.chan
  let s2 := s1.setPf 0x2731 16 16 (Nat.min (d / 1000) 0xFFFF)
  have hexec : exec .weldCheckEnd s = done (if d ≤ 1000 * s.pf 0x2730 24 8 then
      (s2.setPf 0x2731 0 2 2).raise 21 (le 1 w.chan ++ le 1 3 ++ le 2 (d / 1000) ++ le 1 (s.pf (hsStat w.chan) 8 4))
      else s2.setPf 0x2731 0 2 1) := by
    change execWeldCheckEnd s = _
    unfold execWeldCheckEnd
    rw [hweld, Option.filter_some, if_pos hends, hrec]
    dsimp only
    rw [if_neg (by simp [hpack, hlink])]
  have hout : s2.out.weld = none := by rw [State.setPf_out, State.setPf_out, State.mapOut_out]
  have hnamed (v : Nat) : (s2.setPf 0x2731 0 2 v).pf 0x2731 2 3 = w.chan := by
    rw [State.pf_setPf_apart _ _ _ _ _ (by decide) (.inr (by decide)), State.pf_setPf_apart _ _ _ _ _ (by decide) (.inl (by decide)),
      State.pf_setPf_same _ _ _ _ _ (by decide), Nat.mod_eq_of_lt (by omega)]
  by_cases hd : d ≤ 1000 * s.pf 0x2730 24 8
  · refine ⟨_, hexec, ?_⟩
    rw [if_pos hd, if_pos hd, State.raise_out, State.setPf_out, State.raise_pf _ _ _ _ _ (by decide) (by decide),
      State.raise_pf _ _ _ _ _ (by decide) (by decide), hnamed, State.pf_setPf_same _ _ _ _ _ (by decide)]
    exact ⟨hout, rfl, rfl⟩
  · refine ⟨_, hexec, ?_⟩
    rw [if_neg hd, if_neg hd, State.setPf_out, hnamed, State.pf_setPf_same _ _ _ _ _ (by decide)]
    exact ⟨hout, rfl, rfl⟩

theorem weldCheckEnd_early (s : State) (w : Weld) (hweld : s.out.weld = some w)
    (hends : s.weldEnds w (s.inst (s.pf 0x2730 8 3)).recTick = false) : Gives .weldCheckEnd s s := by
  change execWeldCheckEnd s = _
  unfold execWeldCheckEnd
  rw [hweld, Option.filter_some, if_neg (by simp [hends])]
  dsimp only
  rw [done]

theorem weldCheckTimeout_gives (s : State) (w : Weld) (hweld : s.out.weld = some w) (hchan : w.chan < 8) :
    ∃ u : State, Gives .weldCheckTimeout s u ∧ u.out.weld = none ∧ u.pf 0x2731 2 3 = w.chan ∧ u.pf 0x2731 0 2 = 3 ∧
      SameParams s u [0x2731] := by
  refine ⟨((s.mapOut (fun o => { o with weld := none })).setPf 0x2731 2 3 w.chan).setPf 0x2731 0 2 3, ?_, ?_, ?_, ?_, fun a ha => ?_⟩
  · change execWeldCheckTimeout s = _
    unfold execWeldCheckTimeout
    rw [hweld]
    dsimp only
    rw [done]
  · rw [State.setPf_out, State.setPf_out, State.mapOut_out]
  · rw [State.pf_setPf_apart _ _ _ _ _ (by decide) (.inr (by decide)), State.pf_setPf_same _ _ _ _ _ (by decide),
      Nat.mod_eq_of_lt (by omega)]
  · rw [State.pf_setPf_same _ _ _ _ _ (by decide)]
    rfl
  · have hne : a ≠ 0x2731 := by simpa using ha
    rw [State.p_setPf_other _ _ _ _ hne, State.p_setPf_other _ _ _ _ hne, State.mapOut_p]

end Sys2Proof.Machine

namespace Sys2Proof
open Machine

/-- Settles O35, command by command. -/
theorem loadSwitchEvents : Obligations.LoadSwitchEvents :=
  ⟨pgReload_gives, hsLimiting_gives, hsOvercurrentTrip_gives, hsThermalTrip_gives, hsCooldownEnd_gives, hsCooldownEnd_early,
    hsThermalRestart_gives, hsRetriesClear_gives, hsRetriesClear_early, followInputChange_gives, followInputChange_short,
    contactorPullinEnd_gives, weldCheckEnd_gives, weldCheckEnd_early, weldCheckTimeout_gives⟩

end Sys2Proof

/-! A WRITE at a worker (R311, R313, R315, R344): which state runs it, and what each command answers. -/
namespace Sys2Proof.Machine

variable {s : State} {w kind index : Nat} {h : WHdr} {v : Word} {f : Wk → Nat × Nat × Wk} {c : Instr}
variable {st val : Nat} {k : Wk}

/-- What a WRITE does once the worker has the frame (R344). -/
def State.wkTakesWrite (t : State) (w : Nat) (h : WHdr) (k : Wk) (f : Wk → Nat × Nat × Wk) : State :=
  if k.accepts h then (t.updWk w (fun _ => (f k).2.2)).wkAck w 5 h.seq (f k).1 (f k).2.1 else t.wkAck w 5 h.seq 0x0302 0

/-- A running worker has every WRITE as a manager's frame (R311, R313). -/
theorem State.wkWrite_of_runs (hruns : (s.wk w).runs = true) :
    s.wkWrite w h kind index v f =
      s.wkFrame w h 5 (writeBody h kind index v) (fun t => t.wkTakesWrite w h (s.wk w) f) := by
  have htakes : (fun t : State => t.wkTakesWrite w h (s.wk w) f) = fun t =>
      if !(s.wk w).accepts h then t.wkAck w 5 h.seq 0x0302 0
      else (t.updWk w (fun _ => (f (s.wk w)).2.2)).wkAck w 5 h.seq (f (s.wk w)).1 (f (s.wk w)).2.1 := by
    funext t
    unfold State.wkTakesWrite
    cases (s.wk w).accepts h <;> rfl
  rw [htakes]
  simp only [State.wkWrite, hruns, Bool.not_true, Bool.false_eq_true, if_false]
  rfl

theorem State.wkTakesWrite_of_accepted (t : State) (hacc : k.accepts h = true) (hf : f k = (st, val, c')) :
    t.wkTakesWrite w h k f = (t.updWk w (fun _ => c')).wkAck w 5 h.seq st val := by
  rw [State.wkTakesWrite, if_pos hacc, hf]

theorem State.wkTakesWrite_of_refused (t : State) (hacc : k.accepts h = false) :
    t.wkTakesWrite w h k f = t.wkAck w 5 h.seq 0x0302 0 := by
  rw [State.wkTakesWrite, if_neg (by simp [hacc])]

/-- Every WRITE command is `wkWrite` with the kind and index of its frame, for every sender (R313, R314). -/
theorem exec_of_writesAt {c : (WHdr → Instr) × Nat × Nat} (hc : c ∈ writesAt w index v) :
    ∃ f : Wk → Nat × Nat × Wk, ∀ (s : State) (h : WHdr), exec (c.1 h) s = done (s.wkWrite w h c.2.1 c.2.2 v f) := by
  simp only [writesAt, List.mem_cons, List.not_mem_nil, or_false] at hc
  rcases hc with rfl | rfl | rfl | rfl | rfl | rfl | rfl | rfl | rfl | rfl | rfl | rfl | rfl | rfl | rfl | rfl | rfl |
    rfl | rfl <;> exact ⟨_, fun s h => rfl⟩

/-- A WRITE that the worker takes answers the status and value of what it does. -/
theorem writeDone_of_exec (hexec : exec c s = done (s.wkWrite w h kind index v f)) (htakes : WorkerTakes s w h)
    (hf : f (s.wk w) = (st, val, k)) : WriteDone c s w h st val k := by
  obtain ⟨⟨hruns, haddr, hne⟩, hacc⟩ := htakes
  unfold WriteDone Gives
  rw [hexec, State.wkWrite_of_runs hruns, State.wkFrame_of_own _ haddr hne, State.wkTakesWrite_of_accepted _ hacc hf]
  rfl

/-- A worker command that passes its conditions is answered with OK. -/
theorem writeDone_of_command {who : Nat} {ok : Wk → Bool} {g : Wk → Wk}
    (hexec : exec c s = done (s.wkCommand w h index v who ok g)) (htakes : WorkerTakes s w h)
    (hcell : who = 1 → (s.wk w).meter = false) (hmeter : who = 2 → (s.wk w).meter = true) (hok : ok (s.wk w) = true)
    (hk : g (s.wk w) = k) : WriteDone c s w h 0 0 k := by
  refine writeDone_of_exec hexec htakes ?_
  rw [if_neg, hk]
  rintro (⟨hwho, hrole⟩ | ⟨hwho, hrole⟩ | hbad)
  · simp [hcell hwho] at hrole
  · simp [hmeter hwho] at hrole
  · simp [hok] at hbad

/-- A worker command that the role lacks, or whose condition fails, is BAD_PARAM and changes nothing (R314). -/
theorem writeDone_of_badCommand {who : Nat} {ok : Wk → Bool} {g : Wk → Wk}
    (hexec : exec c s = done (s.wkCommand w h index v who ok g)) (htakes : WorkerTakes s w h)
    (hbad : (who = 1 ∧ (s.wk w).meter = true) ∨ (who = 2 ∧ (s.wk w).meter = false) ∨ ok (s.wk w) = false) :
    WriteDone c s w h 0x0103 0 (s.wk w) :=
  writeDone_of_exec hexec htakes (if_pos hbad)

end Sys2Proof.Machine

/-! WRITE_PARAMETER and STATION_REFRESH (R679, R783, R790), and the worker commands by role. -/
namespace Sys2Proof.Machine

variable {s : State} {w index : Nat} {h : WHdr} {v : Word}

/-- A word that the worker's map does not list, or that is read only, stays as it is (R783). -/
theorem writeParameter_gives_refused (htakes : WorkerTakes s w h) :
    (wkRow (s.wk w).meter index = none → WriteDone (.writeParameter w h index v) s w h 0x0103 0 (s.wk w)) ∧
    (∀ r, wkRow (s.wk w).meter index = some r → index ≠ 1 → index ≠ 2 → r.allRo = true →
      WriteDone (.writeParameter w h index v) s w h 0x0301 ((s.wk w).readP index) (s.wk w)) ∧
    (∀ r, wkRow (s.wk w).meter index = some r → 2 < index → r.allRo = false →
      r.inRange (fun a => a != .ro) v.toNat = false →
      WriteDone (.writeParameter w h index v) s w h 0x0103 ((s.wk w).readP index) (s.wk w)) := by
  refine ⟨fun hrow => writeDone_of_exec rfl htakes ?_, fun r hrow h1 h2 hro => writeDone_of_exec rfl htakes ?_,
    fun r hrow hi hro hrange => writeDone_of_exec rfl htakes ?_⟩
  · simp only [hrow]
  · simp only [hrow, h1, h2, or_self, if_false, hro, if_true]
  · simp only [hrow, show ¬ (index = 1 ∨ index = 2) by omega, if_false, hro, Bool.false_eq_true, hrange, Bool.not_false,
      if_true]

/-- The worker once a word that its row takes is stored: configured, and no longer RESTARTED (R790). -/
def Wk.paramStored (k : Wk) (r : PRow) (index v : Nat) : Wk :=
  { (k.setP index (r.apply (fun a => a != .ro) (k.p index) v)) with
    hasCfg := true, restarted := false, meterU := { k.meterU with abandoned := false } }

theorem writeParameter_gives_stored (htakes : WorkerTakes s w h) {r : PRow} (hrow : wkRow (s.wk w).meter index = some r)
    (hindex : 2 < index) (hro : r.allRo = false) (hrange : r.inRange (fun a => a != .ro) v.toNat = true) :
    WriteDone (.writeParameter w h index v) s w h 0 (((s.wk w).paramStored r index v.toNat).readP index)
      ((s.wk w).paramStored r index v.toNat) := by
  refine writeDone_of_exec rfl htakes ?_
  simp only [hrow, show ¬ (index = 1 ∨ index = 2) by omega, if_false, hro, Bool.false_eq_true, hrange, Bool.not_true]
  rfl

/-- Both roles list the delays of the two ends (R334). -/
theorem wkRow_delay (meter : Bool) {index : Nat} (hindex : index = 1 ∨ index = 2) : ∃ r, wkRow meter index = some r := by
  rw [← Option.isSome_iff_exists]
  rcases hindex with rfl | rfl <;> cases meter <;> decide

theorem writeParameter_gives_delay (htakes : WorkerTakes s w h) (hindex : index = 1 ∨ index = 2) :
    WriteDone (.writeParameter w h index v) s w h 0 (v.toNat % 2 ^ 17) ((s.wk w).setP index (v.toNat % 2 ^ 17)) := by
  obtain ⟨r, hrow⟩ := wkRow_delay (s.wk w).meter hindex
  refine writeDone_of_exec rfl htakes ?_
  simp only [hrow, if_pos hindex]

/-- The station after a refresh of a worker that has not restarted: nothing missed, no safe values (R679, R682). -/
theorem Wk.refreshed_station (k : Wk) (v : Nat) (hrest : k.restarted = false) :
    (k.refreshed v).di = k.di ∧ (k.refreshed v).stMiss = 0 ∧ (k.refreshed v).stSafe = false ∧ (k.refreshed v).trips < 16 := by
  simp only [Wk.refreshed, hrest, Bool.false_eq_true, if_false]
  exact ⟨trivial, trivial, trivial, BitVec.isLt _⟩

theorem Wk.stnWord_of_refreshed (k : Wk) (v : Nat) (hrest : k.restarted = false) (hdi : k.di < 4) :
    fld (k.refreshed v).stnWord 0 8 = k.di ∧ fld (k.refreshed v).stnWord 8 8 = 0 ∧ fld (k.refreshed v).stnWord 24 8 = 0 := by
  obtain ⟨hdi', hmiss, hsafe, htrips⟩ := k.refreshed_station v hrest
  have hword : (k.refreshed v).stnWord = k.di + 2 ^ 16 * (k.refreshed v).trips := by
    simp [Wk.stnWord, Wk.stnState, hdi', hmiss, hsafe]
  simp only [fld, hword]
  omega

theorem stationRefresh_gives_waiting (htakes : WorkerTakes s w h) (hphase : (s.wk w).tphase ≠ 1) :
    WriteDone (.stationRefresh w h v) s w h 0 ((s.wk w).refreshed v.toNat).stnWord { s.wk w with refresh := some v.toNat } :=
  writeDone_of_exec rfl htakes (if_neg hphase)

/-- What the other role's command answers (R314). -/
theorem otherRole_gives_badParam (htakes : WorkerTakes s w h) {c : Instr}
    (hc : c ∈ if (s.wk w).meter then [Instr.balMask w h v, .balRun w h v, .impData w h index v, .impStartCommand w h v,
        .impStop w h v, .impRestart w h v]
      else [.time w h v, .slotData w h index v, .slotCommit w h v]) : WriteDone c s w h 0x0103 0 (s.wk w) := by
  cases hm : (s.wk w).meter
  case true =>
    simp only [hm, if_true, List.mem_cons, List.not_mem_nil, or_false] at hc
    rcases hc with rfl | rfl | rfl | rfl | rfl | rfl <;> exact writeDone_of_badCommand rfl htakes (.inl ⟨rfl, hm⟩)
  case false =>
    simp only [hm, Bool.false_eq_true, if_false, List.mem_cons, List.not_mem_nil, or_false] at hc
    rcases hc with rfl | rfl | rfl <;> exact writeDone_of_badCommand rfl htakes (.inr (.inl ⟨rfl, hm⟩))

/-- A commit without its whole group staged is BAD_PARAM (R315). -/
theorem commit_gives_badParam (htakes : WorkerTakes s w h) :
    ((s.wk w).meter = false → (s.wk w).hasStaged 0x10 1 = false → WriteDone (.balRun w h v) s w h 0x0103 0 (s.wk w)) ∧
    ((s.wk w).meter = false → (s.wk w).hasStaged 0x20 11 = false →
      WriteDone (.impStartCommand w h v) s w h 0x0103 0 (s.wk w)) ∧
    ((s.wk w).hasStaged 0x31 4 = false → WriteDone (.flrArm w h v) s w h 0x0103 0 (s.wk w)) ∧
    ((s.wk w).hasStaged 0x36 1 = false → WriteDone (.flrFire w h v) s w h 0x0103 0 (s.wk w)) ∧
    ((s.wk w).hasStaged 0x100 24 = false → WriteDone (.shardCommit w h v) s w h 0x0103 0 (s.wk w)) ∧
    ((s.wk w).meter = true → (s.wk w).hasStaged 0x120 15 = false →
      WriteDone (.slotCommit w h v) s w h 0x0103 0 (s.wk w)) :=
  ⟨fun _ hst => writeDone_of_badCommand rfl htakes (.inr (.inr hst)),
   fun _ hst => writeDone_of_badCommand rfl htakes (.inr (.inr hst)),
   fun hst => writeDone_of_badCommand rfl htakes (.inr (.inr hst)),
   fun hst => writeDone_of_badCommand rfl htakes (.inr (.inr hst)),
   fun hst => writeDone_of_badCommand rfl htakes (.inr (.inr (by simp [hst]))),
   fun _ hst => writeDone_of_badCommand rfl htakes (.inr (.inr hst))⟩

/-- An index outside the group from `lo` to before `hi`. -/
theorem not_inGroup {index lo hi : Nat} (hout : index < lo ∨ hi ≤ index) : (decide (lo ≤ index) && decide (index < hi)) = false := by
  simp only [Bool.and_eq_false_iff, decide_eq_false_iff_not]
  omega

theorem inGroup {index lo hi : Nat} (hlo : lo ≤ index) (hhi : index < hi) :
    (decide (lo ≤ index) && decide (index < hi)) = true := by
  simp [hlo, hhi]

/-- The commands of balancing and of the impedance run at a cell worker (R315, R389, R422, R429, R434). -/
theorem cellCommands_give (htakes : WorkerTakes s w h) (hm : (s.wk w).meter = false) :
    WriteDone (.balMask w h v) s w h 0 0 { s.wk w with staged := Tbl.set (s.wk w).staged 0x10 (v.toNat % 2 ^ 24) } ∧
    ((s.wk w).hasStaged 0x10 1 = true → WriteDone (.balRun w h v) s w h 0 0 ((s.wk w).commit 0x11 v.toNat 0x10 1)) ∧
    (0x20 ≤ index → index < 0x2B → WriteDone (.impData w h index v) s w h 0 0
      { s.wk w with staged := Tbl.set (s.wk w).staged index v.toNat }) ∧
    (index < 0x20 ∨ 0x2B ≤ index → WriteDone (.impData w h index v) s w h 0x0103 0 (s.wk w)) ∧
    ((s.wk w).hasStaged 0x20 11 = true →
      WriteDone (.impStartCommand w h v) s w h 0 0 ((s.wk w).commit 0x2B v.toNat 0x20 11)) ∧
    (∀ m, (s.wk w).imp = some m → 1 ≤ v.toNat → v.toNat ≤ 2 → ∃ k : Wk, WriteDone (.impStop w h v) s w h 0 0 k ∧
      k = { s.wk w with imp := none, raw := [], rawTick := 0, out := k.out } ∧ (m.running = false → k.out = (s.wk w).out)) ∧
    ((s.wk w).imp = none → 1 ≤ v.toNat → v.toNat ≤ 2 →
      WriteDone (.impStop w h v) s w h 0 0 { s.wk w with raw := [], rawTick := 0 }) ∧
    (∀ m, (s.wk w).imp = some m → v.toNat < 16 → m.running = true → m.point = v.toNat →
      WriteDone (.impRestart w h v) s w h 0 0
        { s.wk w with imp := some { m with running := false, repeats := m.repeats + 1 } }) := by
  have hcell : (1 : Nat) = 1 → (s.wk w).meter = false := fun _ => hm
  have hmeter : (1 : Nat) = 2 → (s.wk w).meter = true := fun h => absurd h (by decide)
  have hstop (h1 : 1 ≤ v.toNat) (h2 : v.toNat ≤ 2) : (decide (v.toNat = 1) || decide (v.toNat = 2)) = true := by
    simp only [Bool.or_eq_true, decide_eq_true_eq]
    omega
  refine ⟨writeDone_of_command rfl htakes hcell hmeter rfl rfl,
    fun hst => writeDone_of_command rfl htakes hcell hmeter hst rfl,
    fun hlo hhi => writeDone_of_command rfl htakes hcell hmeter (inGroup hlo hhi) rfl,
    fun hout => writeDone_of_badCommand rfl htakes (.inr (.inr (not_inGroup hout))),
    fun hst => writeDone_of_command rfl htakes hcell hmeter hst rfl, fun m himp h1 h2 => ?_, fun himp h1 h2 => ?_,
    fun m himp hv hrun hpoint => ?_⟩
  · refine ⟨{ s.wk w with imp := none, raw := [], rawTick := 0, out := if m.running then (s.wk w).out ++ [(8, impFrame m (v.toNat + 1) 0 [])] else (s.wk w).out },
      writeDone_of_command rfl htakes hcell hmeter (hstop h1 h2) ?_, rfl, fun hrun => ?_⟩
    · simp only [himp]
    · simp [hrun]
  · refine writeDone_of_command rfl htakes hcell hmeter (hstop h1 h2) ?_
    simp only [himp]
  · refine writeDone_of_command rfl htakes hcell hmeter (by simp [hv]) ?_
    simp [himp, hrun, hpoint]

/-- The commands of the flare and of the shards, at a worker of either role (R315, R437 to R443, R492). -/
theorem eitherCommands_give (htakes : WorkerTakes s w h) :
    WriteDone (.flrMode w h v) s w h 0 0
      { s.wk w with flare := { (s.wk w).flare with mode := v.toNat % 2, rate := v.toNat / 2 % 2 } } ∧
    (0x31 ≤ index → index < 0x35 → WriteDone (.flrTrig w h index v) s w h 0 0
      { s.wk w with staged := Tbl.set (s.wk w).staged index v.toNat }) ∧
    (index < 0x31 ∨ 0x35 ≤ index → WriteDone (.flrTrig w h index v) s w h 0x0103 0 (s.wk w)) ∧
    ((s.wk w).hasStaged 0x31 4 = true → WriteDone (.flrArm w h v) s w h 0 0 ((s.wk w).commit 0x35 v.toNat 0x31 4)) ∧
    WriteDone (.flrTick w h v) s w h 0 0 { s.wk w with staged := Tbl.set (s.wk w).staged 0x36 v.toNat } ∧
    ((s.wk w).hasStaged 0x36 1 = true → WriteDone (.flrFire w h v) s w h 0 0 ((s.wk w).commit 0x37 v.toNat 0x36 1)) ∧
    ((s.wk w).flare.st = 3 → ∃ k : Wk, WriteDone (.flrRelease w h v) s w h 0 0 k ∧ k = { s.wk w with flare := k.flare } ∧
      k.flare.st = 0 ∧ k.flare.rows = []) ∧
    (0x100 ≤ index → index < 0x118 → WriteDone (.shardData w h index v) s w h 0 0
      { s.wk w with staged := Tbl.set (s.wk w).staged index v.toNat }) ∧
    (index < 0x100 ∨ 0x118 ≤ index → WriteDone (.shardData w h index v) s w h 0x0103 0 (s.wk w)) ∧
    ((s.wk w).hasStaged 0x100 24 = true → v.toNat < 8 → snapGood ((s.wk w).stagedAt 0x100 24) = true →
      WriteDone (.shardCommit w h v) s w h 0 0 ((s.wk w).commit 0x118 v.toNat 0x100 24)) := by
  have hcell : (0 : Nat) = 1 → (s.wk w).meter = false := fun h => absurd h (by decide)
  have hmeter : (0 : Nat) = 2 → (s.wk w).meter = true := fun h => absurd h (by decide)
  refine ⟨writeDone_of_command rfl htakes hcell hmeter rfl ?_,
    fun hlo hhi => writeDone_of_command rfl htakes hcell hmeter (inGroup hlo hhi) rfl,
    fun hout => writeDone_of_badCommand rfl htakes (.inr (.inr (not_inGroup hout))),
    fun hst => writeDone_of_command rfl htakes hcell hmeter hst rfl,
    writeDone_of_command rfl htakes hcell hmeter rfl rfl,
    fun hst => writeDone_of_command rfl htakes hcell hmeter hst rfl,
    fun hst => ⟨{ s.wk w with flare := { (s.wk w).flare with st := 0, rows := [], short := false, group := false } },
      writeDone_of_command rfl htakes hcell hmeter rfl (if_pos hst), rfl, rfl, rfl⟩,
    fun hlo hhi => writeDone_of_command rfl htakes hcell hmeter (inGroup hlo hhi) rfl,
    fun hout => writeDone_of_badCommand rfl htakes (.inr (.inr (not_inGroup hout))),
    fun hst hv hgood => writeDone_of_command rfl htakes hcell hmeter (by simp [hst, hv, hgood]) rfl⟩
  simp [fld]

/-- The commands of the accumulator at a meter worker (R315, R474). -/
theorem meterCommands_give (htakes : WorkerTakes s w h) (hm : (s.wk w).meter = true) :
    WriteDone (.time w h v) s w h 0 0
      { s.wk w with meterU := { (s.wk w).meterU with rtc := v.toNat, rtcUs := 0 } } ∧
    (0x120 ≤ index → index < 0x12F → WriteDone (.slotData w h index v) s w h 0 0
      { s.wk w with staged := Tbl.set (s.wk w).staged index v.toNat }) ∧
    (index < 0x120 ∨ 0x12F ≤ index → WriteDone (.slotData w h index v) s w h 0x0103 0 (s.wk w)) ∧
    ((s.wk w).hasStaged 0x120 15 = true →
      WriteDone (.slotCommit w h v) s w h 0 0 ((s.wk w).commit 0x12F v.toNat 0x120 15)) := by
  have hcell : (2 : Nat) = 1 → (s.wk w).meter = false := fun h => absurd h (by decide)
  have hmeter : (2 : Nat) = 2 → (s.wk w).meter = true := fun _ => hm
  exact ⟨writeDone_of_command rfl htakes hcell hmeter rfl rfl,
    fun hlo hhi => writeDone_of_command rfl htakes hcell hmeter (inGroup hlo hhi) rfl,
    fun hout => writeDone_of_badCommand rfl htakes (.inr (.inr (not_inGroup hout))),
    fun hst => writeDone_of_command rfl htakes hcell hmeter hst rfl⟩

end Sys2Proof.Machine

namespace Sys2Proof
open Machine

/-- Settles O39: every WRITE command is `wkWrite` (`exec_of_writesAt`), whose frame is taken, passed on or both by its address, and a
worker that takes it becomes what the command's function makes of it (`writeDone_of_exec`). -/
theorem workersAnswerWrites : Obligations.WorkersAnswerWrites := by
  unfold Obligations.WorkersAnswerWrites
  refine ⟨fun s w index h v c hc hruns hne haddr => ?_, fun s w index h v c hc hreach hacc => ?_,
    fun s w index h v c hc hruns hdest hacc => ?_, fun s w index h v c hc htakes hdest => ?_,
    fun s w index h v htakes c hc => otherRole_gives_badParam htakes hc, fun s w h v htakes => commit_gives_badParam htakes,
    fun s w index h v htakes hm => cellCommands_give htakes hm, fun s w index h v htakes => eitherCommands_give htakes,
    fun s w index h v htakes hm => meterCommands_give htakes hm, fun s w index h v r htakes hrow hindex hro => ⟨?_, fun hrange => ?_⟩,
    fun s w index h v htakes => ?_, fun s w h v htakes hphase hrest hdi => ?_, fun s w h v htakes hphase => ?_⟩
  · obtain ⟨f, hexec⟩ := exec_of_writesAt hc
    unfold Gives
    rw [hexec, State.wkWrite_of_runs hruns, State.wkFrame_of_other _ haddr hne]
    rfl
  · obtain ⟨f, hexec⟩ := exec_of_writesAt hc
    obtain ⟨hruns, haddr, hne⟩ := hreach
    unfold Gives
    rw [hexec, State.wkWrite_of_runs hruns, State.wkFrame_of_own _ haddr hne, State.wkTakesWrite_of_refused _ hacc]
    rfl
  · obtain ⟨f, hexec⟩ := exec_of_writesAt hc
    unfold Gives
    rw [hexec, State.wkWrite_of_runs hruns, State.wkFrame_of_all _ hdest, State.wkTakesWrite_of_refused _ hacc]
    rfl
  · obtain ⟨f, hexec⟩ := exec_of_writesAt hc
    have hown : WriteDone (c.1 { h with dest := (s.wk w).addr }) s w { h with dest := (s.wk w).addr } (f (s.wk w)).1
        (f (s.wk w)).2.1 (f (s.wk w)).2.2 := writeDone_of_exec (hexec s _) htakes rfl
    obtain ⟨⟨hruns, -, -⟩, hacc⟩ := htakes
    have haccept : (s.wk w).accepts h = true := hacc
    refine ⟨_, _, _, hown, ?_⟩
    unfold Gives
    rw [hexec, State.wkWrite_of_runs hruns, State.wkFrame_of_all _ hdest, State.wkTakesWrite_of_accepted _ haccept rfl]
    rfl
  · exact (writeParameter_gives_refused htakes).2.2 r hrow hindex hro
  · exact ⟨_, writeParameter_gives_stored htakes hrow hindex hro hrange, rfl, rfl, rfl, rfl, rfl⟩
  · obtain ⟨hnone, hread, -⟩ := writeParameter_gives_refused (v := v) htakes
    exact ⟨hnone, hread, writeParameter_gives_delay htakes⟩
  · exact ⟨_, stationRefresh_gives_waiting htakes hphase, (s.wk w).stnWord_of_refreshed v.toNat hrest hdi⟩
  · exact writeDone_of_exec rfl htakes (if_pos hphase)

end Sys2Proof

/-! Tables without some keys, masks, and bits of small words. -/
namespace Sys2Proof.Machine

theorem foldl_keeps {α β γ : Type} (π : β → γ) (f : β → α → β) (hf : ∀ b a, π (f b a) = π b) (l : List α) (b : β) :
    π (l.foldl f b) = π b := by
  induction l generalizing b with
  | nil => rfl
  | cons a l ih => rw [List.foldl_cons, ih, hf]

theorem Tbl.find_filter_key {α : Type} (t : Tbl α) (k : Nat → Bool) (a : Nat) :
    Tbl.find (t.filter (fun e => k e.1)) a = if k a then Tbl.find t a else none := by
  induction t with
  | nil => simp
  | cons e r ih =>
    obtain ⟨j, v⟩ := e
    by_cases hja : j = a
    · subst hja
      cases hj : k j <;> simp [Tbl.find, hj, ih]
    · cases hj : k j <;> simp [Tbl.find, hj, hja, ih]

theorem eraseDups_of_nodup {l : List Nat} (hl : l.Nodup) : l.eraseDups = l := by
  induction l with
  | nil => rfl
  | cons a l ih =>
    obtain ⟨ha, hl'⟩ := List.nodup_cons.mp hl
    have hkeep : l.filter (fun b => !b == a) = l := by
      refine List.filter_eq_self.mpr fun b hb => ?_
      simp [show b ≠ a from fun h => ha (h ▸ hb)]
    rw [List.eraseDups_cons, hkeep, ih hl']

/-- The mask of those numbers below `n` that `p` picks: its bits, and its size. -/
theorem testBit_maskOf_filter (p : Nat → Bool) (n : Nat) :
    maskOf ((List.range n).filter p) < 2 ^ n ∧
      ∀ i, (maskOf ((List.range n).filter p)).testBit i = (decide (i < n) && p i) := by
  have hmask (n : Nat) : maskOf ((List.range n).filter p) = ((List.range n).filter p).foldl (fun a n => a + 2 ^ n) 0 := by
    rw [maskOf, eraseDups_of_nodup (List.nodup_range.filter _)]
  induction n with
  | zero => simp [maskOf]
  | succ n ih =>
    obtain ⟨hlt, hbits⟩ := ih
    have hnext : maskOf ((List.range (n + 1)).filter p) = (if p n then 2 ^ n else 0) + maskOf ((List.range n).filter p) := by
      rw [hmask, hmask, List.range_succ, List.filter_append, List.foldl_append]
      cases hp : p n <;> simp [hp, Nat.add_comm]
    rw [hnext]
    cases hp : p n with
    | false =>
      refine ⟨by simp only [Bool.false_eq_true, if_false, Nat.pow_succ]; omega, fun i => ?_⟩
      rw [if_neg (by simp), Nat.zero_add, hbits i]
      by_cases hi : i = n
      · subst hi; simp [hp]
      · simp [show (i < n + 1) ↔ i < n by omega]
    | true =>
      refine ⟨by simp only [if_true, Nat.pow_succ]; omega, fun i => ?_⟩
      rw [if_pos rfl]
      rcases lt_trichotomy i n with hi | rfl | hi
      · rw [Nat.testBit_two_pow_add_gt hi, hbits i]
        simp [hi, Nat.lt_succ_of_lt hi]
      · rw [Nat.testBit_two_pow_add_eq, Nat.testBit_lt_two_pow hlt]
        simp [hp]
      · have hsmall : 2 ^ n + maskOf ((List.range n).filter p) < 2 ^ i :=
          calc 2 ^ n + maskOf ((List.range n).filter p) < 2 ^ (n + 1) := by rw [Nat.pow_succ]; omega
            _ ≤ 2 ^ i := Nat.pow_le_pow_right (by decide) hi
        rw [Nat.testBit_lt_two_pow hsmall]
        simp [show ¬ i < n + 1 by omega]

/-- Clearing the bits of a mask in the low four bits. -/
theorem bit_andNot_four (t m : Nat) {i : Nat} (hi : i < 4) :
    bit ((BitVec.ofNat 4 t) &&& ~~~(BitVec.ofNat 4 m)).toNat i = (bit t i && !bit m i) := by
  rw [bit_eq_testBit, bit_eq_testBit, bit_eq_testBit, BitVec.testBit_toNat, BitVec.getLsbD_and, BitVec.getLsbD_not,
    BitVec.getLsbD_ofNat, BitVec.getLsbD_ofNat]
  simp [hi]

end Sys2Proof.Machine

/-! A worker's own frames (R309, R310). -/
namespace Sys2Proof.Machine

/-- A frame of the worker's own: one more frame, its SEQ one on, and nothing else (R309). -/
theorem State.wkSend_sends (s : State) (w dir kind : Nat) (b : List Byte) :
    (s.wkSend w dir kind b).sent.worker = s.sent.worker ++
      [(w, ⟨wRing w, dir, (s.wk w).addr, kind, if dir = 0 then 3 else 2, (s.wk w).seq, b⟩)] ∧
    (s.wkSend w dir kind b).wk w = { s.wk w with seq := ((s.wk w).seq + 1) % 256 } ∧
    (∀ v, v ≠ w → (s.wkSend w dir kind b).wk v = s.wk v) ∧
    s.wkSend w dir kind b =
      { s with wks := (s.wkSend w dir kind b).wks, sent := { s.sent with worker := (s.wkSend w dir kind b).sent.worker } } := by
  refine ⟨?_, State.updWk_same _ _ _, fun v hv => State.updWk_other _ _ hv, rfl⟩
  simp only [State.wkSend, State.updWk_sent, State.mapSent]
  by_cases hd : dir = 0 <;> simp [hd, b2n]

end Sys2Proof.Machine

/-! A worker's commits, set instant and Commit (R315, R389, R467, R679, R683, R692). -/
namespace Sys2Proof.Machine

/-- A commit holds its group, whose words are staged no longer (R315). -/
theorem Wk.commit_staged (k : Wk) (i v first n : Nat) :
    (∀ j, first ≤ j → j < first + n → Tbl.find (k.commit i v first n).staged j = none) ∧
    (∀ j, j < first ∨ first + n ≤ j → Tbl.find (k.commit i v first n).staged j = Tbl.find k.staged j) := by
  have hfind (j : Nat) : Tbl.find (k.commit i v first n).staged j =
      if decide (j < first) || decide (first + n ≤ j) then Tbl.find k.staged j else none :=
    Tbl.find_filter_key k.staged (fun j => decide (j < first) || decide (first + n ≤ j)) j
  refine ⟨fun j hlo hhi => ?_, fun j hout => ?_⟩
  · rw [hfind, if_neg (by simp only [Bool.or_eq_true, decide_eq_true_eq]; omega)]
  · rw [hfind, if_pos (by simpa only [Bool.or_eq_true, decide_eq_true_eq] using hout)]

/-- What an accepted commit does at the set instant (R315, R389, R422, R438 to R440). -/
def Wk.applied (k : Wk) (e : Nat × Nat × List Nat) : Wk :=
  let f := k.flare
  let src := nth 0 f.trig 0 % 256
  if e.1 = 0x11 then { k with balMask := nth 0 e.2.2 0, balLeft := e.2.1 }
  else if e.1 = 0x2B then
    { k with imp := some { words := e.2.2, slot := e.2.1 % 2048, point := 0, repeats := 0, running := false, tick := 0,
                           drive := [], bad := [] }, raw := [], rawTick := 0 }
  else if e.1 = 0x35 then
    let x := nth 0 e.2.2 0 % 256
    if x = 0 then { k with
      flare := { f with trig := e.2.2, st := if f.st = 3 ∨ (f.st = 2 ∧ f.mode = 0) then f.st else 0 }, raw := [], rawTick := 0 }
    else { k with flare := { f with trig := e.2.2, st := 1, tick := 0, offset := 0, group := false, short := false,
                                    arm := k.tick, rows := [] }, raw := [], rawTick := 0 }
  else if e.1 = 0x37 then
    if f.st = 1 then
      { k with flare := { f with st := 2, tick := nth 0 e.2.2 0 + 2 ^ 32 * (e.2.1 % 65536), offset := e.2.1 / 65536,
                                 group := 4 ≤ src && src ≤ 6 } }
    else k
  else k

/-- The commits of the set instant carried out; those of shards and slots wait for the Commit. -/
def Wk.setApplied (k : Wk) : Wk :=
  (k.pend.filter (fun e => e.1 != 0x118 && e.1 != 0x12F)).foldl Wk.applied
    { k with balLeft := k.balLeft - 1, pend := k.pend.filter (fun e => e.1 == 0x118 || e.1 == 0x12F), staged := [] }

/-- The station at a set instant: the refresh, or one more miss (R679, R683). -/
def Wk.setStation (k : Wk) : Wk :=
  match k.refresh with
  | some v => { (k.refreshed v) with refresh := none }
  | none => k.missed

/-- The set instant as those two (R315, R679). -/
theorem Wk.atSet_eq (k : Wk) : k.atSet = { k.setApplied.setStation with tphase := 1 } := rfl

/-- What no commit, refresh or Commit of a worker touches: who and where it is, its clock and ring, its words and its results. -/
def Wk.place (k : Wk) :=
  ((k.addr, k.mode, k.meter, k.serial, k.lostA, k.lostB, k.toEnd), (k.tick, k.period, k.slow, k.fly, k.own, k.bank),
    (k.held, k.params, k.hasCfg, k.restarted, k.ember, k.lsRenew, k.lsA, k.lsB, k.lsRel))

theorem Wk.applied_keeps {α : Type} (π : Wk → α) (hbal : ∀ k m n, π { k with balMask := m, balLeft := n } = π k)
    (himp : ∀ k i r t, π { k with imp := i, raw := r, rawTick := t } = π k)
    (hraw : ∀ k f r t, π { k with flare := f, raw := r, rawTick := t } = π k) (hflare : ∀ k f, π { k with flare := f } = π k)
    (k : Wk) (e : Nat × Nat × List Nat) : π (k.applied e) = π k := by
  unfold Wk.applied
  dsimp only
  split
  · exact hbal k _ _
  split
  · exact himp k _ _ _
  split
  · split
    · exact hraw k _ _ _
    · exact hraw k _ _ _
  split
  · split
    · exact hflare k _
    · rfl
  · rfl

theorem Wk.setApplied_place (k : Wk) : k.setApplied.place = k.place :=
  foldl_keeps Wk.place Wk.applied (Wk.applied_keeps _ (fun _ _ _ => rfl) (fun _ _ _ _ => rfl) (fun _ _ _ _ => rfl) fun _ _ => rfl) _ _

/-- What the commits leave of the station and of the commits that wait. -/
theorem Wk.setApplied_station (k : Wk) :
    (k.setApplied.pend, k.setApplied.staged, k.setApplied.refresh, k.setApplied.outs, k.setApplied.trips, k.setApplied.stMiss,
      k.setApplied.stSafe) = (k.pend.filter (fun e => e.1 == 0x118 || e.1 == 0x12F), [], k.refresh, k.outs, k.trips, k.stMiss, k.stSafe) :=
  foldl_keeps (fun k : Wk => (k.pend, k.staged, k.refresh, k.outs, k.trips, k.stMiss, k.stSafe)) Wk.applied
    (Wk.applied_keeps (fun k : Wk => (k.pend, k.staged, k.refresh, k.outs, k.trips, k.stMiss, k.stSafe)) (fun _ _ _ => rfl) (fun _ _ _ _ => rfl) (fun _ _ _ _ => rfl) fun _ _ => rfl) _ _

theorem Wk.setStation_keeps {α : Type} (π : Wk → α)
    (hout : ∀ k o t m b r, π { k with outs := o, trips := t, stMiss := m, stSafe := b, refresh := r } = π k)
    (hlog : ∀ (k : Wk) c i v, π (k.log c i v) = π k) (k : Wk) : π k.setStation = π k := by
  have hmissed : π k.missed = π k := by
    unfold Wk.missed
    dsimp only
    split_ifs
    · rfl
    · exact (hout (k.log 0x25 0 0) _ (k.log 0x25 0 0).trips _ _ (k.log 0x25 0 0).refresh).trans (hlog k _ _ _)
    · exact hout k k.outs k.trips _ k.stSafe k.refresh
  have hrefreshed (v : Nat) : π { (k.refreshed v) with refresh := none } = π k := by
    unfold Wk.refreshed Wk.safeHeld
    dsimp only
    split_ifs
    · exact hout k _ _ _ k.stSafe _
    · exact hout k _ _ _ k.stSafe _
    · exact hout k _ _ _ _ _
  unfold Wk.setStation
  split
  · exact hrefreshed _
  · exact hmissed

theorem Wk.atSet_place (k : Wk) : k.atSet.place = k.place := by
  rw [Wk.atSet_eq]
  exact (Wk.setStation_keeps Wk.place (fun _ _ _ _ _ _ => rfl) (fun _ _ _ _ => rfl) _).trans k.setApplied_place

/-- Balancing and the commits after the set instant are what the accepted commits made them. -/
theorem Wk.atSet_commits (k : Wk) : k.atSet.pend = k.pend.filter (fun e => e.1 == 0x118 || e.1 == 0x12F) ∧ k.atSet.staged = [] ∧
    k.atSet.balMask = k.setApplied.balMask ∧ k.atSet.balLeft = k.setApplied.balLeft := by
  have hkeep : (k.setApplied.setStation.pend, k.setApplied.setStation.staged, k.setApplied.setStation.balMask,
      k.setApplied.setStation.balLeft) = (k.setApplied.pend, k.setApplied.staged, k.setApplied.balMask, k.setApplied.balLeft) :=
    Wk.setStation_keeps (fun k : Wk => (k.pend, k.staged, k.balMask, k.balLeft)) (fun _ _ _ _ _ _ => rfl) (fun _ _ _ _ => rfl) _
  have hstation := k.setApplied_station
  simp only [Prod.mk.injEq] at hkeep hstation
  obtain ⟨hpend, hstaged, hmask, hleft⟩ := hkeep
  obtain ⟨hpend', hstaged', -⟩ := hstation
  rw [Wk.atSet_eq]
  exact ⟨hpend.trans hpend', hstaged.trans hstaged', hmask, hleft⟩

/-- Without a commit that waits, the set instant counts the balancing down alone. -/
theorem Wk.setApplied_of_none {k : Wk} (hpend : k.pend = []) :
    k.setApplied = { k with balLeft := k.balLeft - 1, staged := [] } := by
  unfold Wk.setApplied
  rw [hpend]
  rw [List.filter_nil, List.filter_nil, List.foldl_nil, ← hpend]

/-- The worker's Commit: shards, then the slot (R492, R467). -/
theorem Wk.atCommit_keeps {α : Type} (π : Wk → α) (hshards : ∀ k t, π { k with shards := t } = π k)
    (hmeter : ∀ k m, π { k with meterU := m } = π k)
    (hmarks : ∀ k p y t m, π { k with pend := p, sync := y, tphase := t, meterU := m } = π k) (k : Wk) : π k.atCommit = π k := by
  have hshard (l : List (Nat × Nat × List Nat)) (k : Wk) : π (l.foldl (fun k e => k.putShard e.2.1 e.2.2) k) = π k :=
    foldl_keeps π _ (fun k e => hshards k _) l k
  have hslot (l : List (Nat × Nat × List Nat)) (k : Wk) : π (l.foldl (fun k e => k.putStaged e.2.2) k) = π k :=
    foldl_keeps π _ (fun k e => hmeter k _) l k
  unfold Wk.atCommit
  dsimp only
  rw [hmarks]
  split_ifs
  · rw [hmeter, hshard]
  · exact hshard _ _
  · rw [hslot, hshard]
  · exact hshard _ _

theorem Wk.atCommit_place (k : Wk) : k.atCommit.place = k.place :=
  Wk.atCommit_keeps Wk.place (fun _ _ => rfl) (fun _ _ => rfl) (fun _ _ _ _ _ => rfl) k

theorem Wk.atCommit_staged (k : Wk) : k.atCommit.staged = k.staged :=
  Wk.atCommit_keeps Wk.staged (fun _ _ => rfl) (fun _ _ => rfl) (fun _ _ _ _ _ => rfl) k

/-- The Commit carries out the commits of shards and slots, and no other (R315). -/
theorem Wk.atCommit_pend (k : Wk) : k.atCommit.pend = k.pend.filter (fun e => e.1 != 0x118 && e.1 != 0x12F) := by
  have hshard (l : List (Nat × Nat × List Nat)) (k : Wk) : (l.foldl (fun k e => k.putShard e.2.1 e.2.2) k).pend = k.pend :=
    foldl_keeps Wk.pend (fun (k : Wk) (e : Nat × Nat × List Nat) => k.putShard e.2.1 e.2.2) (fun _ _ => rfl) l k
  have hslot (l : List (Nat × Nat × List Nat)) (k : Wk) : (l.foldl (fun k e => k.putStaged e.2.2) k).pend = k.pend :=
    foldl_keeps Wk.pend (fun (k : Wk) (e : Nat × Nat × List Nat) => k.putStaged e.2.2) (fun _ _ => rfl) l k
  unfold Wk.atCommit
  dsimp only
  congr 1
  split_ifs
  · exact hshard _ _
  · exact hshard _ _
  · rw [hslot, hshard]
  · exact hshard _ _

/-- The lamps that a value word carries 0 for (R682). -/
theorem bit_stnOff (v : Nat) {i : Nat} (hi : i < 4) : bit (stnOff v) i = decide (stnGet v i = 0) := by
  rw [bit_eq_testBit, stnOff, (testBit_maskOf_filter _ 4).2 i]
  simp [hi, beq_eq_decide]

/-- Without a refresh one more miss counts; past the hold, the safe values follow (R683). -/
theorem Wk.missed_station {k : Wk} (hslow : k.slow = false) (hsafe : k.stSafe = false) :
    (k.stMiss < fld (k.p 0x48) 0 8 → k.missed = { k with stMiss := k.stMiss + 1 }) ∧
    (k.stMiss = fld (k.p 0x48) 0 8 → k.missed.stSafe = true ∧ k.missed.outs = stnMask (k.p 0x49) k.trips) := by
  have hhold : fld (k.p 0x48) 0 8 < 256 := Nat.mod_lt _ (by decide)
  unfold Wk.missed
  dsimp only
  rw [if_neg (by simp [hslow])]
  refine ⟨fun hbelow => ?_, fun hat => ?_⟩
  · rw [if_neg (by omega)]
    have hmin : Nat.min (k.stMiss + 1) 255 = k.stMiss + 1 := Nat.min_eq_left (by omega)
    rw [hmin]
  · rw [if_pos ⟨by omega, hsafe⟩]
    exact ⟨rfl, rfl⟩

/-- A refresh ends the misses and the safe values of a worker that has not restarted, and the trip of an output that it carries 0
for (R679, R682). -/
theorem Wk.atSet_refreshed {k : Wk} {v : Nat} (hpend : k.pend = []) (hrefresh : k.refresh = some v) (hrest : k.restarted = false) :
    k.atSet.stMiss = 0 ∧ k.atSet.stSafe = false ∧ k.atSet.refresh = none ∧
      ∀ i, i < 4 → stnGet v i = 0 → bit k.atSet.trips i = false := by
  have heq : k.atSet = { ({ k with balLeft := k.balLeft - 1, staged := [] } : Wk).refreshed v with refresh := none, tphase := 1 } := by
    rw [Wk.atSet_eq, Wk.setApplied_of_none hpend, Wk.setStation]
    simp only [hrefresh]
  rw [heq]
  simp only [Wk.refreshed, hrest, Bool.false_eq_true, if_false]
  refine ⟨trivial, trivial, trivial, fun i hi hoff => ?_⟩
  rw [bit_andNot_four _ _ hi, bit_stnOff v hi]
  simp [hoff]

/-- The set instant without a commit and without a refresh. -/
theorem Wk.atSet_missed {k : Wk} (hpend : k.pend = []) (hrefresh : k.refresh = none) (hslow : k.slow = false)
    (hsafe : k.stSafe = false) :
    (k.stMiss < fld (k.p 0x48) 0 8 → k.atSet.stMiss = k.stMiss + 1 ∧ k.atSet.stSafe = false ∧ k.atSet.outs = k.outs) ∧
    (k.stMiss = fld (k.p 0x48) 0 8 → k.atSet.stSafe = true ∧ k.atSet.outs = stnMask (k.p 0x49) k.trips) := by
  have heq : k.atSet = { ({ k with balLeft := k.balLeft - 1, staged := [] } : Wk).missed with tphase := 1 } := by
    rw [Wk.atSet_eq, Wk.setApplied_of_none hpend, Wk.setStation]
    simp only [hrefresh]
  obtain ⟨hwaits, hends⟩ := Wk.missed_station (k := { k with balLeft := k.balLeft - 1, staged := [] }) hslow hsafe
  rw [heq]
  refine ⟨fun hbelow => ?_, fun hat => hends hat⟩
  rw [hwaits hbelow]
  exact ⟨rfl, hsafe, rfl⟩

end Sys2Proof.Machine

namespace Sys2Proof
open Machine

/-- Settles O40: a frame is one more entry of what the workers send (`State.wkSend_sends`), a commit takes its words out of what is
staged (`Wk.commit_staged`), and set instant and Commit each carry out their part of what waits (`Wk.atSet_commits`,
`Wk.atCommit_pend`). -/
theorem workerFramesAndCommits : Obligations.WorkerFramesAndCommits := by
  unfold Obligations.WorkerFramesAndCommits
  refine ⟨fun s w dir kind b => ⟨_, rfl, s.wkSend_sends w dir kind b⟩,
    fun k i v first n => ⟨rfl, k.commit_staged i v first n⟩, fun k m v hpend => ?_, fun k => ?_, fun k hpend => ?_,
    fun k v hpend hrefresh hrest => Wk.atSet_refreshed hpend hrefresh hrest,
    fun k hpend hrefresh hslow hsafe hbelow => (Wk.atSet_missed hpend hrefresh hslow hsafe).1 hbelow,
    fun k hpend hrefresh hslow hsafe hat => (Wk.atSet_missed hpend hrefresh hslow hsafe).2 hat⟩
  · obtain ⟨hwait, hstaged, hmask, hleft⟩ := k.atSet_commits
    rw [hpend] at hwait
    have happlied : k.setApplied = ({ k with balLeft := k.balLeft - 1, pend := [], staged := [] } : Wk).applied (0x11, v, [m]) := by
      rw [Wk.setApplied, hpend]
      rfl
    rw [happlied] at hmask hleft
    exact ⟨hmask, hleft, hstaged, hwait⟩
  · obtain ⟨hwait, hstaged, -⟩ := k.atSet_commits
    refine ⟨hwait, ?_, hstaged, k.atCommit_staged⟩
    rw [k.atCommit_pend]
    congr 1
    funext e
    rw [Bool.not_or]
    rfl
  · obtain ⟨-, hstaged, hmask, hleft⟩ := k.atSet_commits
    rw [Wk.setApplied_of_none hpend] at hmask hleft
    exact ⟨hmask, hleft, hstaged⟩

end Sys2Proof

/-! A READ at a running worker (R311, R316, R317, R324, R436, R446, R493). -/
namespace Sys2Proof.Machine

variable {s : State} {w index : Nat} {h : WHdr}

theorem State.wkRead_of_own (kind back : Nat) (f : State → State) (hreach : FrameReaches s w h) :
    s.wkRead w h kind back index f = f s := by
  obtain ⟨hruns, haddr, hne⟩ := hreach
  rw [State.wkRead, if_pos hruns, State.wkFrame_of_own _ haddr hne]

theorem State.wkRead_of_other (kind back : Nat) (f : State → State) (hruns : (s.wk w).runs = true) (hne : h.dest ≠ 0)
    (haddr : h.dest ≠ (s.wk w).addr) :
    s.wkRead w h kind back index f = s.wkPass w h 4 (le 1 kind ++ le 1 back ++ le 2 index ++ zeros 4) := by
  rw [State.wkRead, if_pos hruns, State.wkFrame_of_other _ haddr hne]

theorem State.wkRead_of_all (kind back : Nat) (f : State → State) (hruns : (s.wk w).runs = true) (hdest : h.dest = 0) :
    s.wkRead w h kind back index f = f (s.wkPass w h 4 (le 1 kind ++ le 1 back ++ le 2 index ++ zeros 4)) := by
  rw [State.wkRead, if_pos hruns, State.wkFrame_of_all _ hdest]

/-- A worker's READs (R316, R317). -/
def readsAt (w index : Nat) (h : WHdr) : List (Instr × Nat × Nat × Nat) :=
  [(.readParameter w h index, 1, 0, index), (.readFaultJournal w h index, 2, 0, index), (.readHeldResult w h index, 0, index, 0),
   (.readCaptureRecord w h index, 3, 0, index)]

/-- A READ to another address only goes on (R311). -/
theorem read_gives_pass (hruns : (s.wk w).runs = true) (hne : h.dest ≠ 0) (haddr : h.dest ≠ (s.wk w).addr)
    {c : Instr × Nat × Nat × Nat} (hc : c ∈ readsAt w index h) :
    Gives c.1 s (s.wkPass w h 4 (le 1 c.2.1 ++ le 1 c.2.2.1 ++ le 2 c.2.2.2 ++ zeros 4)) := by
  have hpass (kind back i : Nat) (f : State → State) : done (s.wkRead w h kind back i f) =
      .next (s.wkPass w h 4 (le 1 kind ++ le 1 back ++ le 2 i ++ zeros 4)).settle :=
    congrArg done (State.wkRead_of_other kind back f hruns hne haddr)
  simp only [readsAt, List.mem_cons, List.not_mem_nil, or_false] at hc
  rcases hc with rfl | rfl | rfl | rfl <;> exact hpass _ _ _ _

/-- A READ for this worker is answered by what its answer makes of the state. -/
theorem gives_of_read {c : Instr} {kind back : Nat} {f : State → State} {u : State}
    (hexec : exec c s = done (s.wkRead w h kind back index f)) (hreach : FrameReaches s w h) (hf : f s = u) : Gives c s u := by
  unfold Gives
  rw [hexec, State.wkRead_of_own _ _ _ hreach, hf]
  rfl

theorem readParameter_gives (hreach : FrameReaches s w h) (hindex : index < 0x200) :
    Gives (.readParameter w h index) s (if (wkRow (s.wk w).meter index).isSome then s.wkAck w 4 h.seq 0 ((s.wk w).readP index)
      else s.wkAck w 4 h.seq 0x0103 0) :=
  gives_of_read rfl hreach (if_neg (by omega))

theorem readParameter_gives_all (hruns : (s.wk w).runs = true) (hdest : h.dest = 0) (hindex : index < 0x200)
    (hrow : (wkRow (s.wk w).meter index).isSome = true) : Gives (.readParameter w h index) s
      ((s.wkPass w h 4 (le 1 1 ++ zeros 1 ++ le 2 index ++ zeros 4)).wkAck w 4 h.seq 0 ((s.wk w).readP index)) :=
  congrArg done ((State.wkRead_of_all 1 0 _ hruns hdest).trans ((if_neg (by omega)).trans (if_pos hrow)))

theorem readParameter_gives_shard {inst half k : Nat} (hreach : FrameReaches s w h) (hinst : inst < 8) (hhalf : half < 2) (hk : k < 32) :
    Gives (.readParameter w h (0x200 + 64 * inst + 32 * half + k)) s
      (s.wkAck w 4 h.seq 0 (nth 0#32 (Tbl.get [] (s.wk w).shards (2 * inst + half)) k).toNat) := by
  have hentry : (0x200 + 64 * inst + 32 * half + k - 0x200) / 32 = 2 * inst + half := by omega
  have hword : (0x200 + 64 * inst + 32 * half + k) % 32 = k := by omega
  refine gives_of_read rfl hreach ((if_pos (by omega)).trans ?_)
  rw [hentry, hword]

theorem readFaultJournal_gives_next (hreach : FrameReaches s w h) :
    Gives (.readFaultJournal w h 0xFFFF) s (s.wkAck w 4 h.seq 0 (s.wk w).jnext) :=
  gives_of_read rfl hreach rfl

theorem readFaultJournal_gives_word {e k : Nat} {x : WkJ} (hreach : FrameReaches s w h) (he : e < 512) (hk : k < 8)
    (hx : Tbl.find (s.wk w).journal e = some x) :
    Gives (.readFaultJournal w h (8 * e + k)) s (s.wkAck w 4 h.seq 0 (nth 0 (wordsOf (wkjBytes x)) k)) := by
  have hentry : (8 * e + k) / 8 = e := by omega
  have hword : (8 * e + k) % 8 = k := by omega
  refine gives_of_read rfl hreach ?_
  dsimp only
  rw [if_neg (by omega), if_pos (by omega), hentry, hword, hx]

theorem readHeldResult_gives {back : Nat} (hreach : FrameReaches s w h) (hback : back ≤ 3) :
    ((s.wk w).held.find? (fun r => r.tick + back == (s.wk w).tick) = none →
      Gives (.readHeldResult w h back) s (s.wkAck w 4 h.seq 0x0501 0)) ∧
    ∀ r, (s.wk w).held.find? (fun r => r.tick + back == (s.wk w).tick) = some r →
      Gives (.readHeldResult w h back) s
        (s.wkSend w (s.wk w).toEnd 7 (resultBytes { r with flags := setFld r.flags 1 1 (b2n (back != 0)) })) := by
  refine ⟨fun hnone => gives_of_read rfl hreach ?_, fun r hr => gives_of_read rfl hreach ?_⟩
  · dsimp only
    rw [if_neg (by omega), hnone]
  · dsimp only
    rw [if_neg (by omega), hr]

/-- Frames that a worker sends in a row leave everything but its SEQ and what is sent. -/
theorem State.each_wkSend (s : State) (w dir kind : Nat) (l : List (List Byte)) :
    (s.each l (fun t b => t.wkSend w dir kind b)).params = s.params ∧
    ((s.each l (fun t b => t.wkSend w dir kind b)).wk w).flare = (s.wk w).flare ∧
    ((s.each l (fun t b => t.wkSend w dir kind b)).wk w).raw = (s.wk w).raw ∧
    (∀ v, v ≠ w → (s.each l (fun t b => t.wkSend w dir kind b)).wk v = s.wk v) ∧
    (s.each l (fun t b => t.wkSend w dir kind b)).sent.worker.length = s.sent.worker.length + l.length := by
  refine ⟨State.each_keeps State.params l _ (fun t b => ?_) s, State.each_keeps (fun t => (t.wk w).flare) l _ (fun t b => ?_) s,
    State.each_keeps (fun t => (t.wk w).raw) l _ (fun t b => ?_) s,
    fun v hv => State.each_keeps (fun t => t.wk v) l _ (fun t b => (t.wkSend_sends w dir kind b).2.2.1 v hv) s, ?_⟩
  · rfl
  · rw [(t.wkSend_sends w dir kind b).2.1]
  · rw [(t.wkSend_sends w dir kind b).2.1]
  · induction l generalizing s with
    | nil => rfl
    | cons b l ih =>
      change ((s.wkSend w dir kind b).each l (fun t b => t.wkSend w dir kind b)).sent.worker.length = _
      rw [ih, (s.wkSend_sends w dir kind b).1, List.length_append, List.length_cons, List.length_cons,
        List.length_nil]
      omega

/-- Rows to carry make at least one frame (R449). -/
theorem captureFrames_ne_nil (per size record flags tick offset fuel a : Nat) {rows : List (List Nat)} (hrows : rows ≠ []) :
    0 < (captureFrames per size record flags tick offset (fuel + 1) a rows).length := by
  rw [captureFrames, if_neg (by simpa using hrows)]
  exact Nat.succ_pos _

theorem readCaptureRecord_gives_refused (hreach : FrameReaches s w h) :
    ((s.wk w).flare.st ≠ 3 → (s.wk w).raw = [] → Gives (.readCaptureRecord w h index) s (s.wkAck w 4 h.seq 0x0501 0)) ∧
    (((s.wk w).flare.st = 3 ∧ 20480 ≤ index) ∨ ((s.wk w).flare.st ≠ 3 ∧ (s.wk w).raw ≠ [] ∧ (s.wk w).raw.length ≤ index) →
      Gives (.readCaptureRecord w h index) s (s.wkAck w 4 h.seq 0x0103 0)) := by
  refine ⟨fun hst hraw => gives_of_read rfl hreach ?_, ?_⟩
  · exact (if_neg hst).trans (if_pos (by rw [hraw]; rfl))
  · rintro (⟨hst, hindex⟩ | ⟨hst, hraw, hindex⟩) <;> refine gives_of_read rfl hreach ?_
    · exact (if_pos hst).trans (if_pos hindex)
    · exact (if_neg hst).trans ((if_neg (by simpa using hraw)).trans (if_pos hindex))

/-- Frames that answer a READ leave of what the worker holds everything (R446). -/
theorem captureSent {c : Instr} {dir : Nat} {l : List (List Byte)} (hl : 0 < l.length)
    (hgives : Gives c s (s.each l (fun t b => t.wkSend w dir 8 b))) :
    ∃ u : State, Gives c s u ∧ u.params = s.params ∧ s.sent.worker.length < u.sent.worker.length ∧
      (u.wk w).flare = (s.wk w).flare ∧ (u.wk w).raw = (s.wk w).raw ∧ ∀ v, v ≠ w → u.wk v = s.wk v := by
  obtain ⟨hparams, hflare, hraw, hother, hlength⟩ := s.each_wkSend w dir 8 l
  exact ⟨_, hgives, hparams, by omega, hflare, hraw, hother⟩

theorem readCaptureRecord_gives_frames (hreach : FrameReaches s w h)
    (hrows : ((s.wk w).flare.st = 3 ∧ index < 20480) ∨ ((s.wk w).flare.st ≠ 3 ∧ index < (s.wk w).raw.length)) :
    ∃ u : State, Gives (.readCaptureRecord w h index) s u ∧ u.params = s.params ∧
      s.sent.worker.length < u.sent.worker.length ∧ (u.wk w).flare = (s.wk w).flare ∧ (u.wk w).raw = (s.wk w).raw ∧
      ∀ v, v ≠ w → u.wk v = s.wk v := by
  rcases hrows with ⟨hst, hindex⟩ | ⟨hst, hindex⟩
  · refine captureSent (captureFrames_ne_nil _ _ _ _ _ _ 8 index ?_)
      (gives_of_read rfl hreach ((if_pos hst).trans (if_neg (by omega))))
    have hlen : (List.range (Nat.min 81 (20480 - index))).length ≠ 0 := by
      rw [List.length_range]
      have : 0 < Nat.min 81 (20480 - index) := Nat.lt_min.mpr ⟨by decide, by omega⟩
      omega
    intro hnil
    rw [List.map_eq_nil_iff] at hnil
    exact hlen (by rw [hnil]; rfl)
  · have hraw : ¬ (s.wk w).raw.isEmpty = true := by
      rw [List.isEmpty_iff]
      intro hnil
      rw [hnil] at hindex
      exact absurd hindex (Nat.not_lt_zero _)
    refine captureSent (captureFrames_ne_nil _ _ _ _ _ _ 8 index ?_)
      (gives_of_read rfl hreach ((if_neg hst).trans ((if_neg hraw).trans (if_neg (by omega)))))
    intro hnil
    have hlen := congrArg List.length hnil
    rw [List.length_take, List.length_drop, List.length_nil] at hlen
    omega

end Sys2Proof.Machine

namespace Sys2Proof
open Machine

/-- Settles O41: a READ is `wkRead`, whose frame only goes on to another address (`read_gives_pass`), and which the worker that
takes it answers out of what it holds (`gives_of_read`), in frames where rows are to carry (`State.each_wkSend`). -/
theorem workersAnswerReads : Obligations.WorkersAnswerReads := by
  unfold Obligations.WorkersAnswerReads
  refine ⟨fun s w index h hruns hne haddr => ?_, fun s w index h hreach hindex => readParameter_gives hreach hindex,
    fun s w index h hruns hdest hindex hrow => readParameter_gives_all hruns hdest hindex hrow,
    fun s w inst half k h hreach hinst hhalf hk => readParameter_gives_shard hreach hinst hhalf hk,
    fun s w h hreach => readFaultJournal_gives_next hreach,
    fun s w e k h x hreach he hk hx => readFaultJournal_gives_word hreach he hk hx,
    fun s w back h hreach hback => gives_of_read rfl hreach (if_pos hback),
    fun s w back h hreach hback hnone => (readHeldResult_gives hreach hback).1 hnone,
    fun s w back h r hreach hback hr => ⟨_, (readHeldResult_gives hreach hback).2 r hr, ?_⟩,
    fun s w index h hreach hst hraw => (readCaptureRecord_gives_refused hreach).1 hst hraw,
    fun s w index h hreach hout => (readCaptureRecord_gives_refused hreach).2 hout,
    fun s w index h hreach hrows => readCaptureRecord_gives_frames hreach hrows⟩
  · have hpass (c : Instr × Nat × Nat × Nat) (hc : c ∈ readsAt w index h) := read_gives_pass hruns hne haddr hc
    have hbody : zeros 1 ++ le 1 index ++ zeros 6 = le 1 0 ++ le 1 index ++ le 2 0 ++ zeros 4 := rfl
    refine ⟨hpass (.readParameter w h index, 1, 0, index) (by simp [readsAt]),
      hpass (.readFaultJournal w h index, 2, 0, index) (by simp [readsAt]), ?_,
      hpass (.readCaptureRecord w h index, 3, 0, index) (by simp [readsAt])⟩
    rw [hbody]
    exact hpass (.readHeldResult w h index, 0, index, 0) (by simp [readsAt])
  · rw [bit_eq_fld, fld_setFld_same]
    cases back != 0 <;> rfl

end Sys2Proof

/-! Two changes of one worker in a row, and the fields of a station word. -/
namespace Sys2Proof.Machine

theorem Tbl.del_ins {α : Type} (t : Tbl α) (k : Nat) (v : α) : Tbl.del (Tbl.ins t k v) k = Tbl.del t k := by
  induction t with
  | nil => simp [Tbl.ins, Tbl.del]
  | cons e r ih =>
    obtain ⟨j, x⟩ := e
    rw [Tbl.ins]
    split_ifs with hlt
    · simp [Tbl.del]
    · simp only [Tbl.del, List.filter_cons] at ih ⊢
      rw [ih]

theorem Tbl.del_del {α : Type} (t : Tbl α) (k : Nat) : Tbl.del (Tbl.del t k) k = Tbl.del t k := by
  simp [Tbl.del, List.filter_filter]

theorem Tbl.put_put {α : Type} [DecidableEq α] (d : α) (t : Tbl α) (k : Nat) (a b : α) :
    Tbl.put d (Tbl.put d t k a) k b = Tbl.put d t k b := by
  have hdel : Tbl.del (Tbl.put d t k a) k = Tbl.del t k := by
    unfold Tbl.put
    split_ifs
    · exact Tbl.del_del t k
    · rw [Tbl.del_ins, Tbl.del_del]
  rw [Tbl.put, hdel]
  rfl

/-- Two changes of one worker are one. -/
theorem State.updWk_updWk (s : State) (w : Nat) (f g : Wk → Wk) :
    (s.updWk w f).updWk w g = s.updWk w (fun k => g (f k)) := by
  have hw : Tbl.upd Wk.d (Tbl.upd Wk.d s.wks w f) w g = Tbl.upd Wk.d s.wks w (fun k => g (f k)) := by
    rw [Tbl.upd, Tbl.get_upd_same, Tbl.upd, Tbl.put_put]
    rfl
  exact congrArg (fun x => { s with wks := x }) hw

/-- Where the outputs stand in a value word (R677). -/
def stnField (i : Nat) : Nat × Nat := match i with | 0 => (0, 1) | 1 => (1, 1) | 2 => (16, 16) | _ => (2, 1)

theorem stnGet_eq (word i : Nat) : stnGet word i = fld word (stnField i).1 (stnField i).2 :=
  match i with
  | 0 | 1 | 2 | _ + 3 => rfl

theorem stnPut_eq (word i v : Nat) : stnPut word i v = setFld word (stnField i).1 (stnField i).2 v :=
  match i with
  | 0 | 1 | 2 | _ + 3 => rfl

/-- The four outputs share no bit. -/
theorem stnField_apart : ∀ i < 4, ∀ j < 4, j ≠ i →
    (stnField j).1 + (stnField j).2 ≤ (stnField i).1 ∨ (stnField i).1 + (stnField i).2 ≤ (stnField j).1 := by
  decide

theorem stnGet_stnPut_same (word i v : Nat) : stnGet (stnPut word i v) i = v % 2 ^ (stnField i).2 := by
  rw [stnGet_eq, stnPut_eq, fld_setFld_same]

theorem stnGet_stnPut_other (word v : Nat) {i j : Nat} (hi : i < 4) (hj : j < 4) (hne : j ≠ i) :
    stnGet (stnPut word i v) j = stnGet word j := by
  rw [stnGet_eq, stnPut_eq, stnGet_eq]
  rcases stnField_apart i hi j hj hne with hbelow | habove
  · exact fld_setFld_below _ _ _ _ _ _ hbelow
  · exact fld_setFld_above _ _ _ _ _ _ habove

theorem bit_setFld_one_same (x i : Nat) : bit (setFld x i 1 1) i = true := by
  rw [bit_eq_fld, fld_setFld_same]
  rfl

theorem bit_setFld_one_other (x v : Nat) {i j : Nat} (hne : j ≠ i) : bit (setFld x i 1 v) j = bit x j := by
  rw [bit_eq_fld, bit_eq_fld]
  rcases Nat.lt_or_gt_of_ne hne with hbelow | habove
  · rw [fld_setFld_below _ _ _ _ _ _ (by omega)]
  · rw [fld_setFld_above _ _ _ _ _ _ (by omega)]

end Sys2Proof.Machine

/-! A worker's fault journal and its lanes (R306, R316, R333, R353, R354). -/
namespace Sys2Proof.Machine

variable {s : State} {w lane : Nat}

/-- A worker's journal takes one entry more, under the next index (R316). -/
theorem Wk.log_eq (k : Wk) (code item value : Nat) :
    k.log code item value = { k with journal := (k.log code item value).journal, jnext := k.jnext + 1 } ∧
    ∃ e : WkJ, Tbl.find (k.log code item value).journal (k.jnext % 512) = some e ∧ e.code = code ∧ e.item = item :=
  ⟨rfl, _, Tbl.find_set_same _ _ _, rfl, rfl⟩

/-- A lane that a running worker had signal on is lost: journalled, and alarmed away from the loss (R353, R354). -/
theorem laneLoss_gives (hruns : (s.wk w).runs = true) (hlane : lane < 2)
    (hheard : (if lane = 0 then (s.wk w).lostA else (s.wk w).lostB) = false) :
    ∃ u : State, Gives (.laneLoss w lane) s u ∧ (if lane = 0 then (u.wk w).lostA else (u.wk w).lostB) = true ∧
      (u.wk w).jnext = (s.wk w).jnext + 1 ∧ (u.wk w).params = (s.wk w).params ∧ (u.wk w).outs = (s.wk w).outs ∧
      u.sent.worker = s.sent.worker ++ [(w, ⟨wRing w, 1 - lane, (s.wk w).addr, 9, 2 + lane, (s.wk w).seq,
        le 1 0x10 ++ le 1 lane ++ zeros 2 ++ le 6 (s.wk w).tick ++ zeros 2⟩)] ∧ (∀ v, v ≠ w → u.wk v = s.wk v) ∧
      u.params = s.params := by
  have hdir : (if lane = 0 then 1 else 0) = 1 - lane := by split <;> omega
  have hcode : b2n (lane != 0) = lane := by
    rcases (show lane = 0 ∨ lane = 1 by omega) with rfl | rfl <;> rfl
  have hflag : (if 1 - lane = 0 then 3 else 2) = 2 + lane := by split <;> omega
  let lost : Wk := { s.wk w with
    lostA := (s.wk w).lostA || lane == 0, lostB := (s.wk w).lostB || lane != 0
    toEnd := if (lane = 0 ∧ (s.wk w).toEnd = 0) ∨ (lane ≠ 0 ∧ (s.wk w).toEnd = 1) then 1 - (s.wk w).toEnd else (s.wk w).toEnd }
  let t : State := s.updWk w (fun _ => lost.log 0x10 lane 0)
  have ht : t.wk w = lost.log 0x10 lane 0 := State.updWk_same _ _ _
  obtain ⟨hsent, hwk, hother, -⟩ := t.wkSend_sends w (1 - lane) 9 (le 1 0x10 ++ le 1 lane ++ zeros 2 ++ le 6 (s.wk w).tick ++ zeros 2)
  refine ⟨t.wkSend w (1 - lane) 9 (le 1 0x10 ++ le 1 lane ++ zeros 2 ++ le 6 (s.wk w).tick ++ zeros 2), ?_, ?_, ?_, ?_, ?_, ?_,
    fun v hv => (hother v hv).trans (State.updWk_other _ _ hv), ?_⟩
  · have hmade : (s.updWk w (fun k => { k with
        lostA := k.lostA || lane == 0, lostB := k.lostB || lane != 0
        toEnd := if (lane = 0 ∧ k.toEnd = 0) ∨ (lane ≠ 0 ∧ k.toEnd = 1) then 1 - k.toEnd else k.toEnd })).wkJournal w 0x10
          lane 0 = t := State.updWk_updWk _ _ _ _
    change execLaneLoss w lane s = _
    unfold execLaneLoss
    rw [if_neg (by simp [hruns, hheard]), hcode, hdir]
    simp only [hmade]
    rfl
  · rw [hwk, ht]
    rcases (show lane = 0 ∨ lane = 1 by omega) with rfl | rfl <;> simp [Wk.log, lost]
  · rw [hwk, ht]
    rfl
  · rw [hwk, ht]
    rfl
  · rw [hwk, ht]
    rfl
  · rw [hsent, ht, hflag]
    rfl
  · simp only [t, State.wkSend_frame, State.updWk_params]

/-- An ALARM goes on as it came, and one of a lost lane on the primary side turns the results (R311, R354). -/
theorem workerAlarmReceived_gives (addr seq cause item raw tick : Nat) (hruns : (s.wk w).runs = true) (hlane : lane < 2) :
    ∃ (u : State) (d : Nat), Gives (.workerAlarmReceived w lane addr seq cause item raw tick) s u ∧
      (u.wk w).toEnd = (if cause = 0x10 ∧ (s.wk w).toEnd = lane then 1 - lane else (s.wk w).toEnd) ∧
      d = (if (if lane = 0 then (s.wk w).lostB else (s.wk w).lostA) then lane else 1 - lane) ∧
      u.sent.worker = s.sent.worker ++ [(w, ⟨wRing w, d, addr, 9, if d = 0 then 3 else 2, seq,
        le 1 cause ++ le 1 item ++ le 2 raw ++ le 6 tick ++ zeros 2⟩)] ∧
      (∀ v, v ≠ w → u.wk v = s.wk v) ∧ u.params = s.params := by
  have hside : (if lane = 0 then 0 else 1) = lane := by split <;> omega
  obtain ⟨d, hd, hforward⟩ := State.wkForward_eq (s := s) (w := w) (kind := 9)
    (body := le 1 cause ++ le 1 item ++ le 2 raw ++ le 6 tick ++ zeros 2) hlane addr 2 seq
  have hflag : (2 + if d = 0 then 1 else 0) = if d = 0 then 3 else 2 := by split <;> rfl
  rw [hflag] at hforward
  have hexec : exec (.workerAlarmReceived w lane addr seq cause item raw tick) s = done (
      if cause = 0x10 ∧ (s.wk w).toEnd = lane then
        (s.wkForward w lane addr 9 2 seq (le 1 cause ++ le 1 item ++ le 2 raw ++ le 6 tick ++ zeros 2)).updWk w
          (fun k => { k with toEnd := 1 - k.toEnd })
      else s.wkForward w lane addr 9 2 seq (le 1 cause ++ le 1 item ++ le 2 raw ++ le 6 tick ++ zeros 2)) := by
    change execWorkerAlarmReceived w lane addr seq cause item raw tick s = _
    unfold execWorkerAlarmReceived
    rw [if_neg (by simp [hruns]), hside]
  by_cases hturn : cause = 0x10 ∧ (s.wk w).toEnd = lane
  · rw [if_pos hturn] at hexec ⊢
    refine ⟨_, d, hexec, ?_, hd, ?_, fun v hv => ?_, ?_⟩
    · rw [State.updWk_same, hforward]
      exact congrArg (1 - ·) hturn.2
    · rw [State.updWk_sent, hforward]
    · rw [State.updWk_other _ _ hv, hforward]
      rfl
    · rw [State.updWk_params, hforward]
  · rw [if_neg hturn] at hexec ⊢
    refine ⟨_, d, hexec, ?_, hd, ?_, fun v hv => ?_, ?_⟩ <;> rw [hforward] <;> rfl

end Sys2Proof.Machine

/-! A worker's supply, and the trip of a station output (R16, R32, R469 to R472, R682, R688, R692, R809). -/
namespace Sys2Proof.Machine

variable {s : State} {w : Nat}

/-- What the part that is powered up holds in MRAM: that of the worker before, or nothing where it is another part (R16, R809). -/
def Wk.ofPart (k : Wk) (roleHigh : Bool) (serial : Nat) : Wk :=
  if k.serial = serial ∧ k.meter = roleHigh then k else { Wk.d with serial := serial, meter := roleHigh }

/-- Whether the slots of a part have been abandoned: one of them is good, and it is not that of a fresh part (R471). -/
def WkMeter.slotsLost (m : WkMeter) : Bool :=
  let n := (newerSlot m.slot0 m.slot1).getD ⟨0, 0, 0, 128, 0, 0, 0, 0, 0, false⟩
  ((m.slot0.filter (·.good)).isSome != (m.slot1.filter (·.good)).isSome) && !(n.seq == 0 && bit n.flags 7)

/-- The accumulators as the newer good slot has them (R470, R471). -/
def WkMeter.restored (m : WkMeter) (roleHigh : Bool) : WkMeter :=
  let n := (newerSlot m.slot0 m.slot1).getD ⟨0, 0, 0, 128, 0, 0, 0, 0, 0, false⟩
  { WkMeter.d with
    eIn := n.eIn, eOut := n.eOut, qIn := n.qIn, qOut := n.qOut, slot0 := m.slot0, slot1 := m.slot1, seq := n.seq,
    segment := n.segment, kept := n.seq, fresh := bit n.flags 7, abandoned := roleHigh && m.slotsLost }

/-- A worker that starts on what its MRAM holds (R16, R469, R688, R692). -/
def Wk.restored (k : Wk) (roleHigh : Bool) (serial : Nat) : Wk :=
  { Wk.d with
    mode := 1, meter := roleHigh, serial := serial,
    params := k.params.filter (fun e => e.1 != 1 && e.1 != 2 && e.1 != 3 && e.1 != 0x10),
    hasCfg := k.hasCfg, restarted := true, lostA := true, lostB := true, journal := k.journal,
    jnext := k.jnext, bankFrom := k.jnext, shards := k.shards,
    meterU := if roleHigh then k.meterU.restored roleHigh else WkMeter.d,
    outs := if k.hasCfg then k.p 0x49 else 0 }

/-- The worker after its power-up, with the journal's entries of the restart (R316). -/
def Wk.poweredUp (k : Wk) (roleHigh : Bool) (serial : Nat) : Wk :=
  let part := k.ofPart roleHigh serial
  if roleHigh && part.meterU.slotsLost then ((part.restored roleHigh serial).log 0x23 0 0).log 0x26 0 0
  else (part.restored roleHigh serial).log 0x23 0 0

theorem workerPowerUp_becomes (roleHigh : Bool) (serial : Nat) (hmode : (s.wk w).mode = 0) :
    WorkerBecomes (.workerPowerUp w roleHigh serial) s w ((s.wk w).poweredUp roleHigh serial) := by
  have hexec : exec (.workerPowerUp w roleHigh serial) s = done (
      if roleHigh && ((s.wk w).ofPart roleHigh serial).meterU.slotsLost then
        ((s.updWk w (fun _ => ((s.wk w).ofPart roleHigh serial).restored roleHigh serial)).wkJournal w 0x23 0 0).wkJournal w 0x26 0 0
      else (s.updWk w (fun _ => ((s.wk w).ofPart roleHigh serial).restored roleHigh serial)).wkJournal w 0x23 0 0) := by
    change execWorkerPowerUp w roleHigh serial s = _
    unfold execWorkerPowerUp
    rw [if_neg (by simp [hmode])]
    rfl
  have hone : (s.updWk w (fun _ => ((s.wk w).ofPart roleHigh serial).restored roleHigh serial)).wkJournal w 0x23 0 0 =
      s.updWk w (fun _ => (((s.wk w).ofPart roleHigh serial).restored roleHigh serial).log 0x23 0 0) := State.updWk_updWk _ _ _ _
  have htwo : (s.updWk w (fun _ => (((s.wk w).ofPart roleHigh serial).restored roleHigh serial).log 0x23 0 0)).wkJournal w 0x26 0 0 =
      s.updWk w (fun _ => ((((s.wk w).ofPart roleHigh serial).restored roleHigh serial).log 0x23 0 0).log 0x26 0 0) :=
    State.updWk_updWk _ _ _ _
  unfold WorkerBecomes Gives Wk.poweredUp
  dsimp only
  rw [hexec, hone, htwo]
  split <;> rfl

/-- The entries of the restart leave everything but the journal, which has at least one entry more. -/
theorem Wk.poweredUp_eq (k : Wk) (roleHigh : Bool) (serial : Nat) :
    k.poweredUp roleHigh serial = { ((k.ofPart roleHigh serial).restored roleHigh serial) with
      journal := (k.poweredUp roleHigh serial).journal, jnext := (k.poweredUp roleHigh serial).jnext } ∧
    (k.ofPart roleHigh serial).jnext < (k.poweredUp roleHigh serial).jnext := by
  unfold Wk.poweredUp
  dsimp only
  split
  · exact ⟨rfl, Nat.lt_succ_of_lt (Nat.lt_succ_self _)⟩
  · exact ⟨rfl, Nat.lt_succ_self _⟩

theorem Wk.ofPart_same {k : Wk} {roleHigh : Bool} {serial : Nat} (hserial : k.serial = serial) (hmeter : k.meter = roleHigh) :
    k.ofPart roleHigh serial = k := if_pos ⟨hserial, hmeter⟩

theorem Wk.ofPart_other {k : Wk} {roleHigh : Bool} {serial : Nat} (hother : k.serial ≠ serial ∨ k.meter ≠ roleHigh) :
    k.ofPart roleHigh serial = { Wk.d with serial := serial, meter := roleHigh } :=
  if_neg fun hsame => hother.elim (absurd hsame.1) (absurd hsame.2)

/-- The words that MRAM keeps over a loss of supply; the lease starts without an owner (R341, R469). -/
theorem Wk.restored_params {k : Wk} {roleHigh : Bool} (serial : Nat) (hmeter : k.meter = roleHigh) :
    (∀ i, 5 ≤ i → i ≠ 0x10 → (k.restored roleHigh serial).p i = k.p i) ∧ (k.restored roleHigh serial).owner = 0 := by
  have hfind (i : Nat) : Tbl.find (k.restored roleHigh serial).params i =
      if i != 1 && i != 2 && i != 3 && i != 0x10 then Tbl.find k.params i else none :=
    Tbl.find_filter_key k.params (fun i => i != 1 && i != 2 && i != 3 && i != 0x10) i
  refine ⟨fun i hi hne => ?_, ?_⟩
  · have hkept : (i != 1 && i != 2 && i != 3 && i != 0x10) = true := by simp [hne]; omega
    unfold Wk.p
    rw [hfind, if_pos hkept, ← hmeter]
    rfl
  · have hword : (k.restored roleHigh serial).p 3 = (wkReset roleHigh 3).toNat := by
      unfold Wk.p
      rw [hfind, if_neg (by decide)]
      rfl
    rw [Wk.owner, hword]
    cases roleHigh <;> decide

theorem WkMeter.restored_totals (m : WkMeter) (roleHigh : Bool) {a : AccSlot} (ha : newerSlot m.slot0 m.slot1 = some a) :
    (m.restored roleHigh).eIn = a.eIn ∧ (m.restored roleHigh).eOut = a.eOut ∧ (m.restored roleHigh).qIn = a.qIn ∧
      (m.restored roleHigh).qOut = a.qOut ∧ (m.restored roleHigh).seq = a.seq := by
  unfold WkMeter.restored
  rw [ha]
  exact ⟨rfl, rfl, rfl, rfl, rfl⟩

theorem workerPowerUp_same {m : Bool} {serial : Nat} (hmode : (s.wk w).mode = 0) (hserial : (s.wk w).serial = serial)
    (hmeter : (s.wk w).meter = m) :
    ∃ k : Wk, WorkerBecomes (.workerPowerUp w m serial) s w k ∧ k.mode = 1 ∧ k.restarted = true ∧ k.serial = serial ∧
      k.meter = m ∧ k.owner = 0 ∧ k.balLeft = 0 ∧ k.imp = none ∧ k.onRc = true ∧ k.hasCfg = (s.wk w).hasCfg ∧ k.shards = (s.wk w).shards ∧
      (∀ i, 5 ≤ i → i ≠ 0x10 → k.p i = (s.wk w).p i) ∧
      k.outs = (if (s.wk w).hasCfg then (s.wk w).p 0x49 else 0) ∧ (s.wk w).jnext < k.jnext ∧
      (m = true → k.meterU.slot0 = (s.wk w).meterU.slot0 ∧ k.meterU.slot1 = (s.wk w).meterU.slot1 ∧
        ∀ a, newerSlot k.meterU.slot0 k.meterU.slot1 = some a → k.meterU.eIn = a.eIn ∧ k.meterU.eOut = a.eOut ∧
          k.meterU.qIn = a.qIn ∧ k.meterU.qOut = a.qOut ∧ k.meterU.seq = a.seq) := by
  obtain ⟨hup, hnext⟩ := (s.wk w).poweredUp_eq m serial
  rw [Wk.ofPart_same hserial hmeter] at hup hnext
  obtain ⟨hparams, howner⟩ := Wk.restored_params (k := s.wk w) serial hmeter
  have hp (i : Nat) : ((s.wk w).poweredUp m serial).p i = ((s.wk w).restored m serial).p i := by
    rw [hup]
    rfl
  refine ⟨(s.wk w).poweredUp m serial, workerPowerUp_becomes m serial hmode, by rw [hup]; rfl, by rw [hup]; rfl, by rw [hup]; rfl,
    by rw [hup]; rfl, ?_, by rw [hup]; rfl, by rw [hup]; rfl, by rw [hup]; rfl, by rw [hup]; rfl, by rw [hup]; rfl,
    fun i hi hne => (hp i).trans (hparams i hi hne), by rw [hup]; rfl, hnext, ?_⟩
  · rw [Wk.owner, hp]
    exact howner
  · intro hm
    have hunit : ((s.wk w).poweredUp m serial).meterU = if m then (s.wk w).meterU.restored m else WkMeter.d := by
      rw [hup]
      rfl
    rw [hunit, if_pos hm]
    exact ⟨rfl, rfl, fun a ha => (s.wk w).meterU.restored_totals m ha⟩

/-- A new part has counted nothing, and says so (R470). -/
theorem WkMeter.restored_new (m : Bool) : (if m then WkMeter.d.restored m else WkMeter.d).eIn = 0 ∧
    (if m then WkMeter.d.restored m else WkMeter.d).eOut = 0 ∧
    (m = true → (if m then WkMeter.d.restored m else WkMeter.d).fresh = true) := by
  cases m <;> decide

theorem workerPowerUp_other {m : Bool} {serial : Nat} (hmode : (s.wk w).mode = 0)
    (hother : (s.wk w).serial ≠ serial ∨ (s.wk w).meter ≠ m) :
    ∃ k : Wk, WorkerBecomes (.workerPowerUp w m serial) s w k ∧ k.mode = 1 ∧ k.restarted = true ∧ k.serial = serial ∧
      k.meter = m ∧ k.outs = 0 ∧ k.shards = [] ∧ k.params = [] ∧ k.meterU.eIn = 0 ∧ k.meterU.eOut = 0 ∧
      (m = true → k.meterU.fresh = true) := by
  obtain ⟨hup, -⟩ := (s.wk w).poweredUp_eq m serial
  rw [Wk.ofPart_other hother] at hup
  refine ⟨(s.wk w).poweredUp m serial, workerPowerUp_becomes m serial hmode, by rw [hup]; rfl, by rw [hup]; rfl, by rw [hup]; rfl,
    by rw [hup]; rfl, by rw [hup]; rfl, by rw [hup]; rfl, by rw [hup]; rfl, ?_⟩
  have hunit : ((s.wk w).poweredUp m serial).meterU = if m then WkMeter.d.restored m else WkMeter.d := by
    rw [hup]
    rfl
  rw [hunit]
  exact WkMeter.restored_new m

/-- A trip switches off its own output, and is kept (R682). -/
theorem stationOutputTrip_becomes {i : Nat} (hruns : (s.wk w).runs = true) (hi : i < 4) (hon : stnGet (s.wk w).outs i ≠ 0) :
    ∃ k : Wk, WorkerBecomes (.stationOutputTrip w i) s w k ∧ k = { s.wk w with outs := k.outs, trips := k.trips } ∧
      bit k.trips i = true ∧ stnGet k.outs i = 0 ∧
      ∀ j, j < 4 → j ≠ i → bit k.trips j = bit (s.wk w).trips j ∧ stnGet k.outs j = stnGet (s.wk w).outs j := by
  refine ⟨{ s.wk w with outs := stnPut (s.wk w).outs i 0, trips := setFld (s.wk w).trips i 1 1 }, ?_, rfl,
    bit_setFld_one_same _ _, ?_, fun j hj hne => ⟨bit_setFld_one_other _ _ hne, stnGet_stnPut_other _ _ hi hj hne⟩⟩
  · change execStationOutputTrip w i s = _
    unfold execStationOutputTrip
    rw [if_pos (by simp [hruns, hi, hon])]
    rfl
  · exact (stnGet_stnPut_same _ _ _).trans (Nat.zero_mod _)

end Sys2Proof.Machine

namespace Sys2Proof
open Machine

/-- Settles O44: a lost lane is journalled and alarmed (`laneLoss_gives`), an ALARM goes on (`workerAlarmReceived_gives`), and a
power-up starts from what the part holds (`Wk.poweredUp_eq`). -/
theorem workerLanesAndPower : Obligations.WorkerLanesAndPower := by
  unfold Obligations.WorkerLanesAndPower
  refine ⟨fun s w lane hruns hlane hheard => laneLoss_gives hruns hlane hheard, fun s w => ⟨?_, ?_⟩,
    fun s w lane addr seq cause item raw tick hruns hlane => workerAlarmReceived_gives addr seq cause item raw tick hruns hlane,
    fun s w m serial hmode hserial hmeter => workerPowerUp_same hmode hserial hmeter,
    fun s w m serial hmode hother => workerPowerUp_other hmode hother, fun s w hmode => ?_,
    fun s w i hruns hi hon => stationOutputTrip_becomes hruns hi hon⟩
  · exact congrArg done (State.updWk_congr (by simp))
  · exact congrArg done (State.updWk_congr (by simp))
  · exact congrArg done (if_neg hmode)

end Sys2Proof

/-! A worker's own instants: open wires, balancing and impedance points (R389, R403, R413, R421 to R429). -/
namespace Sys2Proof.Machine

variable {s : State} {w : Nat}

/-- A suspect wire that is decided open is journalled (R403, R405). -/
theorem Wk.putWire_opened {k : Wk} {j : Nat} {x : Wire} (hx : Tbl.find k.wires j = some x) (hopen : x.isOpen = false) :
    k.putWire j (some { x with isOpen := true }) =
      { (k.log 0x24 j 0) with wires := Tbl.set k.wires j { x with isOpen := true } } := by
  unfold Wk.putWire
  simp only [hx, hopen]
  rfl

theorem owHoldExpired_becomes {j : Nat} {x : Wire} (hx : Tbl.find (s.wk w).wires j = some x) (hopen : x.isOpen = false) :
    ∃ k : Wk, WorkerBecomes (.owHoldExpired w j) s w k ∧
      k = { s.wk w with wires := k.wires, journal := k.journal, jnext := k.jnext } ∧
      (Tbl.find k.wires j).map (·.isOpen) = some true ∧ (∀ i, i ≠ j → Tbl.find k.wires i = Tbl.find (s.wk w).wires i) ∧
      k.jnext = (s.wk w).jnext + 1 ∧
      (Tbl.find k.journal ((s.wk w).jnext % 512)).map (fun e => (e.code, e.item)) = some (0x24, j) := by
  refine ⟨{ ((s.wk w).log 0x24 j 0) with wires := Tbl.set (s.wk w).wires j { x with isOpen := true } }, ?_, rfl, ?_,
    fun i hi => Tbl.find_set_other _ _ hi, rfl, ?_⟩
  · have hmade : s.updWk w (fun k => k.putWire j (some { x with isOpen := true })) =
        s.updWk w (fun _ => { ((s.wk w).log 0x24 j 0) with wires := Tbl.set (s.wk w).wires j { x with isOpen := true } }) :=
      State.updWk_congr (Wk.putWire_opened hx hopen)
    change execOwHoldExpired w j s = _
    unfold execOwHoldExpired
    simp only [hx, hopen, Bool.false_eq_true, if_false, hmade]
    rfl
  · rw [Tbl.find_set_same]
    rfl
  · obtain ⟨-, e, he, hcode, hitem⟩ := (s.wk w).log_eq 0x24 j 0
    rw [he, Option.map_some, hcode, hitem]

theorem owRoutineTest_becomes (hruns : (s.wk w).runs = true) (hcell : (s.wk w).meter = false) (hslow : (s.wk w).slow = false)
    (hper : s.pf 0x1105 0 16 ≠ 0) (hrt : (s.wk w).rt = 0) :
    ((s.wk w).impCells = 0 →
      WorkerBecomes (.owRoutineTest w) s w { s.wk w with rt := 1, rtSrc := [], rtDue := false }) ∧
    ((s.wk w).impCells ≠ 0 → WorkerBecomes (.owRoutineTest w) s w { s.wk w with rtDue := true }) := by
  have hexec : exec (.owRoutineTest w) s = done (
      if (s.wk w).impCells != 0 then s.updWk w (fun k => { k with rtDue := true })
      else s.updWk w (fun k => { k with rt := 1, rtSrc := [], rtDue := false })) := by
    change execOwRoutineTest w s = _
    unfold execOwRoutineTest
    rw [if_neg (by simp [hruns, hcell, hslow, hper, hrt])]
  refine ⟨fun hfree => ?_, fun hbusy => ?_⟩
  · rw [if_neg (by simp [hfree])] at hexec
    exact hexec
  · rw [if_pos (by simp [hbusy])] at hexec
    exact hexec

/-- The excitation of a point: the cells that the run names, without those that are spoiled or beside a suspect or open wire
(R423, R428). -/
def Wk.excited (k : Wk) (m : WkImp) : List (Nat × Nat) :=
  (((bitsOf (nth 0 m.words 1) 24).map (· + 1)).filter (fun c => !m.bad.contains c && !k.beside c)).map
    (fun c => (c, excitePhase c k.addr))

theorem Wk.mem_excited (k : Wk) (m : WkImp) (c φ : Nat) :
    (c, φ) ∈ k.excited m ↔ 1 ≤ c ∧ c ≤ 24 ∧ bit (nth 0 m.words 1) (c - 1) = true ∧ c ∉ m.bad ∧ k.beside c = false ∧
      φ = if (c + k.addr) % 2 = 0 then 0 else 180 := by
  have hcells (a : Nat) : a ∈ (bitsOf (nth 0 m.words 1) 24).map (· + 1) ↔ 1 ≤ a ∧ a ≤ 24 ∧ bit (nth 0 m.words 1) (a - 1) = true := by
    simp only [bitsOf, List.mem_map, List.mem_filter, List.mem_range]
    constructor
    · rintro ⟨i, ⟨hi, hbit⟩, rfl⟩
      exact ⟨by omega, by omega, by simpa using hbit⟩
    · rintro ⟨hlo, hhi, hbit⟩
      exact ⟨a - 1, ⟨by omega, hbit⟩, by omega⟩
  have hfree (a : Nat) : a ∈ ((bitsOf (nth 0 m.words 1) 24).map (· + 1)).filter (fun c => !m.bad.contains c && !k.beside c) ↔
      1 ≤ a ∧ a ≤ 24 ∧ bit (nth 0 m.words 1) (a - 1) = true ∧ a ∉ m.bad ∧ k.beside a = false := by
    rw [List.mem_filter, hcells]
    simp [and_assoc]
  unfold Wk.excited
  rw [List.mem_map]
  constructor
  · rintro ⟨a, ha, heq⟩
    obtain ⟨rfl, rfl⟩ := Prod.mk.inj heq
    obtain ⟨hlo, hhi, hbit, hbad, hbeside⟩ := (hfree a).mp ha
    exact ⟨hlo, hhi, hbit, hbad, hbeside, rfl⟩
  · rintro ⟨hlo, hhi, hbit, hbad, hbeside, rfl⟩
    exact ⟨c, (hfree c).mpr ⟨hlo, hhi, hbit, hbad, hbeside⟩, rfl⟩

theorem impPointStart_becomes {m : WkImp} (hruns : (s.wk w).runs = true) (himp : (s.wk w).imp = some m) (hidle : m.running = false) :
    ∃ k : Wk, WorkerBecomes (.impPointStart w) s w k ∧ k = { s.wk w with imp := k.imp, rawTick := k.rawTick, rt := 0, rtSrc := k.rtSrc, rtDue := k.rtDue } ∧
      k.rtDue = ((s.wk w).rtDue || (s.wk w).rt != 0) ∧ ((s.wk w).rt = 0 → k.rtSrc = (s.wk w).rtSrc) ∧
      k.imp = some { m with running := true, tick := (s.wk w).tick % 2 ^ 32, drive := (s.wk w).excited m } := by
  refine ⟨{ s.wk w with
    imp := some { m with running := true, tick := (s.wk w).tick % 2 ^ 32, drive := (s.wk w).excited m }
    rawTick := if m.point = 0 ∧ (s.wk w).raw.isEmpty = true then (s.wk w).tick else (s.wk w).rawTick
    rt := 0, rtSrc := if (s.wk w).rt = 0 then (s.wk w).rtSrc else [], rtDue := (s.wk w).rtDue || (s.wk w).rt != 0 },
    ?_, rfl, rfl, fun hrt => if_pos hrt, rfl⟩
  change execImpPointStart w s = _
  unfold execImpPointStart
  simp only [himp, hruns, hidle, Bool.not_false, Bool.and_self, if_true]
  rfl

/-- A cell that is not excited draws nothing (R428). -/
theorem WkImp.draws_eq_zero {m : WkImp} {c : Nat} (j : Nat) (hc : ∀ φ, (c, φ) ∉ m.drive) : m.draws c j = 0 := by
  have hnone : m.drive.find? (fun e => e.1 == c) = none := by
    rw [List.find?_eq_none]
    rintro ⟨d, φ⟩ he heq
    rw [beq_iff_eq] at heq
    exact hc φ (heq ▸ he)
  unfold WkImp.draws
  rw [hnone]

theorem impPointEnd_gives {m : WkImp} (conv : List (List (Int × Int))) (hruns : (s.wk w).runs = true)
    (himp : (s.wk w).imp = some m) (hrunning : m.running = true) :
    ∃ u : State, Gives (.impPointEnd w conv) s u ∧ (∃ f, (u.wk w).out = (s.wk w).out ++ [(8, f)]) ∧
      (wordByte m.words 0 ≤ m.point + 1 → (u.wk w).imp = none) ∧
      (m.point + 1 < wordByte m.words 0 → ∃ x, (u.wk w).imp = some x ∧ x.point = m.point + 1 ∧ x.running = false ∧
        x.repeats = 0 ∧ x.words = m.words ∧ x.slot = m.slot) ∧
      (∀ x, x ≠ w → u.wk x = s.wk x) ∧ u.params = s.params ∧ u.out = s.out := by
  have hexec : ∃ (n : Nat) (f : Wk → Wk) (b : List Byte), exec (.impPointEnd w conv) s = done (({ s with free := n }).updWk w f) ∧
      (∀ k, (f k).out = k.out ++ [(8, b)]) ∧ ∀ k, (f k).imp = if wordByte m.words 0 ≤ m.point + 1 then none else
        some { m with point := m.point + 1, repeats := 0, running := false, drive := [] } := by
    refine ⟨s.free + 160, ?_⟩
    change ∃ f b, execImpPointEnd w conv s = _ ∧ _
    unfold execImpPointEnd
    simp only [himp, hruns, hrunning, Bool.and_self, Bool.not_true, Bool.false_eq_true, if_false]
    exact ⟨_, _, rfl, fun k => rfl, fun k => rfl⟩
  obtain ⟨n, f, b, hgives, hout, himpf⟩ := hexec
  have hw : (({ s with free := n } : State).updWk w f).wk w = f (s.wk w) := State.updWk_same _ _ _
  refine ⟨_, hgives, ⟨b, ?_⟩, fun hlast => ?_, fun hmore => ?_, fun x hx => State.updWk_other _ _ hx, rfl, rfl⟩
  · rw [hw, hout]
  · rw [hw, himpf, if_pos hlast]
  · rw [hw, himpf, if_neg (by omega)]
    exact ⟨_, rfl, rfl, rfl, rfl, rfl, rfl⟩

end Sys2Proof.Machine

/-! A worker's flare (R437 to R449). -/
namespace Sys2Proof.Machine

variable {s : State} {w : Nat}

theorem flareTrigger_gives {tick off : Nat} {now ago : List Int} (hruns : (s.wk w).runs = true) (hst : (s.wk w).flare.st = 1)
    (hmet : trigMet (s.wk w).meter (s.wk w).flare.trig (flareSlots s.free (s.wk w).meter now)
      (flareSlots s.free (s.wk w).meter ago) = true) :
    ∃ u : State, Gives (.flareTrigger w tick off now ago) s u ∧ (u.wk w).flare.st = 2 ∧ (u.wk w).flare.tick = tick % 2 ^ 48 ∧
      (u.wk w).flare.offset = off % 65536 ∧ u.sent.worker.length = s.sent.worker.length + 1 ∧
      (∀ x, x ≠ w → u.wk x = s.wk x) ∧ u.params = s.params := by
  let f : WkFlare := { (s.wk w).flare with st := 2, tick := tick % 2 ^ 48, offset := off % 65536 }
  let t : State := s.drawn.updWk w (fun k => { k with flare := f })
  have ht : (t.wk w).flare = f := congrArg Wk.flare (State.updWk_same s.drawn w (fun k => { k with flare := f }))
  obtain ⟨hsent, hwk, hother, -⟩ := t.wkSend_sends w (s.wk w).toEnd 8 (flareFrame f 4)
  have hflare : ((t.wkSend w (s.wk w).toEnd 8 (flareFrame f 4)).wk w).flare = f := (congrArg Wk.flare hwk).trans ht
  refine ⟨t.wkSend w (s.wk w).toEnd 8 (flareFrame f 4), ?_, by rw [hflare], by rw [hflare], by rw [hflare], ?_,
    fun x hx => (hother x hx).trans (State.updWk_other _ _ hx), ?_⟩
  · change execFlareTrigger w tick off now ago s = _
    unfold execFlareTrigger
    rw [if_pos (by simp [hruns, hst, hmet])]
    rfl
  · rw [hsent, List.length_append]
    rfl
  · simp only [t, State.wkSend_frame, State.updWk_params, State.drawn_params]

theorem flareTrigger_idle {tick off : Nat} {now ago : List Int}
    (hmiss : trigMet (s.wk w).meter (s.wk w).flare.trig (flareSlots s.free (s.wk w).meter now)
      (flareSlots s.free (s.wk w).meter ago) = false) : Gives (.flareTrigger w tick off now ago) s s := by
  change execFlareTrigger w tick off now ago s = _
  unfold execFlareTrigger
  rw [if_neg (by simp [hmiss])]
  rfl

/-- A trigger on one of the first two slots, by its source (R438, R439). -/
theorem trigMet_first (meter : Bool) (trig now ago : List Nat) (hitem : wordByte trig 1 < 2) :
    (wordByte trig 0 = 4 → meter = true → trigMet meter trig now ago =
      decide (ofTwos 16 (nth 0 trig 1) < ofTwos 16 (nth 0 now (wordByte trig 1)))) ∧
    (wordByte trig 0 = 5 → meter = false → trigMet meter trig now ago =
      decide (nth 0 now (wordByte trig 1) % 65536 < nth 0 trig 1 % 65536)) ∧
    (wordByte trig 0 < 4 ∨ 6 < wordByte trig 0 → trigMet meter trig now ago = false) := by
  have hall : ¬ wordByte trig 1 = 0xFF := by omega
  have hin : decide (wordByte trig 1 < 25) = true := by simp; omega
  refine ⟨fun hsrc hm => ?_, fun hsrc hm => ?_, fun hsrc => ?_⟩
  · simp only [trigMet, hall, if_false, hin, Bool.true_and, hsrc, hm, hitem, decide_true, if_true]
  · simp only [trigMet, hall, if_false, hin, Bool.true_and, hsrc, hm, Bool.false_and, Bool.false_eq_true, Nat.cast_lt]
  · simp only [trigMet, hall, if_false, hin, Bool.true_and]
    split
    · omega
    · omega
    · omega
    · rfl

/-- A meter worker's sample has four slots that are not 0 (R441). -/
theorem flareSlots_meter (n : Nat) (l : List Int) {k : Nat} (hlo : 4 ≤ k) (hhi : k < 25) : nth 0 (flareSlots n true l) k = 0 := by
  interval_cases k <;> rfl

theorem flareComplete_gives {rows : List (List Int)} (hruns : (s.wk w).runs = true) (hst : (s.wk w).flare.st = 2)
    (hmode : (s.wk w).flare.mode = 0) :
    ∃ (u : State) (n : Nat), Gives (.flareComplete w rows) s u ∧ n = (s.wk w).flare.before (s.wk w).period ∧
      (u.wk w).flare = { (s.wk w).flare with st := 3, short := n != 0, rows := (u.wk w).flare.rows } ∧
      (∀ j, j < n → nth [] (u.wk w).flare.rows j = List.replicate 25 0) ∧
      (∀ j, n ≤ j → j < rows.length → nth [] (u.wk w).flare.rows j = flareSlots s.free (s.wk w).meter (nth [] rows j)) ∧
      u.sent.worker.length = s.sent.worker.length + 1 ∧ (∀ x, x ≠ w → u.wk x = s.wk x) ∧ u.params = s.params := by
  let n : Nat := (s.wk w).flare.before (s.wk w).period
  let f : WkFlare := { (s.wk w).flare with
    st := 3, short := n != 0
    rows := List.replicate n (List.replicate 25 0) ++ (rows.drop n).map (flareSlots s.free (s.wk w).meter) }
  let t : State := s.drawn.updWk w (fun k => { k with flare := f })
  have ht : (t.wk w).flare = f := congrArg Wk.flare (State.updWk_same s.drawn w (fun k => { k with flare := f }))
  obtain ⟨hsent, hwk, hother, -⟩ := t.wkSend_sends w (s.wk w).toEnd 8 (flareFrame f 8)
  have hflare : ((t.wkSend w (s.wk w).toEnd 8 (flareFrame f 8)).wk w).flare = f := (congrArg Wk.flare hwk).trans ht
  refine ⟨t.wkSend w (s.wk w).toEnd 8 (flareFrame f 8), n, ?_, rfl, by rw [hflare], fun j hj => ?_, fun j hlo hhi => ?_, ?_,
    fun x hx => (hother x hx).trans (State.updWk_other _ _ hx), ?_⟩
  · change execFlareComplete w rows s = _
    unfold execFlareComplete
    rw [if_pos (by simp [hruns, hst, hmode])]
    rfl
  · rw [hflare]
    simp [f, nth, List.getElem?_append, hj]
  · rw [hflare]
    have hrow : n + (j - n) = j := by omega
    simp [f, nth, List.getElem?_append, Nat.not_lt.mpr hlo, hrow, hhi]
  · rw [hsent, List.length_append]
    rfl
  · simp only [t, State.wkSend_frame, State.updWk_params, State.drawn_params]

end Sys2Proof.Machine

namespace Sys2Proof
open Machine

/-- Settles O45: each instant is what its command makes of the worker alone; a point excites the cells of `Wk.mem_excited`, and a
flare's trigger is that of `trigMet_first`. -/
theorem workerInstants : Obligations.WorkerInstants := by
  unfold Obligations.WorkerInstants
  refine ⟨fun s w j x hx hopen => owHoldExpired_becomes hx hopen,
    fun s w hruns hcell hslow hper hrt => owRoutineTest_becomes hruns hcell hslow hper hrt, fun s w hruns => ?_,
    fun s w m hruns himp hidle => ?_, fun m c j hc => WkImp.draws_eq_zero j hc,
    fun s w conv m hruns himp hrunning => impPointEnd_gives conv hruns himp hrunning,
    fun s w tick off now ago hruns hst hmet => flareTrigger_gives hruns hst hmet,
    fun s w tick off now ago hmiss => flareTrigger_idle hmiss, fun meter trig now ago hitem _ => trigMet_first meter trig now ago hitem,
    fun n l k hlo hhi => flareSlots_meter n l hlo hhi, fun s w rows hruns hst hmode => flareComplete_gives hruns hst hmode⟩
  · exact congrArg done (if_pos hruns)
  · obtain ⟨k, hbecomes, hk, hdue, hsrc, himp'⟩ := impPointStart_becomes hruns himp hidle
    exact ⟨k, hbecomes, hk, hdue, hsrc, _, himp', fun c φ => (s.wk w).mem_excited m c φ⟩

end Sys2Proof

/-! The end of a worker's tick beside the frame that it hears (R467, R683): one does not touch the other. -/
namespace Sys2Proof.Machine

variable (k : Wk) (lane : Nat)

theorem Wk.applied_hears (e : Nat × Nat × List Nat) : (k.hears lane).applied e = (k.applied e).hears lane := by
  unfold Wk.applied
  dsimp only [Wk.hears]
  split
  · rfl
  split
  · rfl
  split
  · split <;> rfl
  split
  · split <;> rfl
  · rfl

theorem Wk.setApplied_hears : (k.hears lane).setApplied = k.setApplied.hears lane := by
  unfold Wk.setApplied
  change List.foldl Wk.applied (Wk.hears { k with
    balLeft := k.balLeft - 1, pend := k.pend.filter (fun e => e.1 == 0x118 || e.1 == 0x12F), staged := [] } lane) _ = _
  exact List.foldl_hom (fun k : Wk => k.hears lane) (fun k e => Wk.applied_hears k lane e)

theorem Wk.missed_hears : (k.hears lane).missed = k.missed.hears lane := by
  have hp (a : Nat) : (k.hears lane).p a = k.p a := rfl
  unfold Wk.missed
  dsimp only
  rw [hp, hp]
  change (if k.slow = true then _ else if fld (k.p 0x48) 0 8 ≤ k.stMiss ∧ k.stSafe = false then _ else _) = _
  split
  · rfl
  split
  · rfl
  · rfl

theorem Wk.refreshed_hears (v : Nat) : (k.hears lane).refreshed v = (k.refreshed v).hears lane := by
  unfold Wk.refreshed
  change (if k.restarted = true then _ else _) = _
  dsimp only
  split <;> rfl

theorem Wk.setStation_hears : (k.hears lane).setStation = k.setStation.hears lane := by
  unfold Wk.setStation
  change (match k.refresh with | some v => _ | none => _) = _
  cases k.refresh with
  | none => exact k.missed_hears lane
  | some v =>
    dsimp only
    rw [k.refreshed_hears lane v]
    rfl

theorem Wk.atSet_hears : (k.hears lane).atSet = k.atSet.hears lane := by
  rw [Wk.atSet_eq, Wk.atSet_eq, Wk.setApplied_hears, Wk.setStation_hears]
  rfl

theorem Wk.atCommit_hears : (k.hears lane).atCommit = k.atCommit.hears lane := by
  have hshard (l : List (Nat × Nat × List Nat)) (k : Wk) : l.foldl (fun k e => k.putShard e.2.1 e.2.2) (k.hears lane) =
      (l.foldl (fun k e => k.putShard e.2.1 e.2.2) k).hears lane :=
    List.foldl_hom (fun k : Wk => k.hears lane) (fun _ _ => rfl)
  have hslot (l : List (Nat × Nat × List Nat)) (k : Wk) : l.foldl (fun k e => k.putStaged e.2.2) (k.hears lane) =
      (l.foldl (fun k e => k.putStaged e.2.2) k).hears lane :=
    List.foldl_hom (fun k : Wk => k.hears lane) (fun _ _ => rfl)
  have hpend : (k.hears lane).pend = k.pend := rfl
  unfold Wk.atCommit
  dsimp only
  rw [hpend, hshard]
  generalize (k.pend.filter (fun e => e.1 == 0x118)).foldl (fun k e => k.putShard e.2.1 e.2.2) k = k1
  have hmeter : (k1.hears lane).meter = k1.meter := rfl
  have hdue : (k1.hears lane).slotDue = k1.slotDue := rfl
  rw [hmeter, hdue, hslot]
  cases k1.meter <;> cases k1.slotDue <;> cases (k.pend.filter (fun e => e.1 == 0x12F)).isEmpty <;> rfl

theorem Wk.tickOver_hears : (k.hears lane).tickOver = k.tickOver.hears lane := by
  have hphase (k : Wk) : (k.hears lane).tphase = k.tphase := rfl
  unfold Wk.tickOver
  dsimp only
  rw [hphase, Wk.atSet_hears]
  split <;> rw [hphase] <;> split
  · exact Wk.atCommit_hears _ lane
  · rfl
  · exact Wk.atCommit_hears _ lane
  · rfl

theorem Wk.tickOver_place : k.tickOver.place = k.place := by
  unfold Wk.tickOver
  dsimp only
  split <;> split
  · exact (Wk.atCommit_place _).trans k.atSet_place
  · exact k.atSet_place
  · exact k.atCommit_place
  · rfl

end Sys2Proof.Machine

/-! A SYNC at a worker (R311, R319 to R322, R347, R688). -/
namespace Sys2Proof.Machine

variable {s : State} {w : Nat} {h : WHdr} {f : SyncF} {k : Wk}

/-- What a worker has still to do of its tick before the SYNC's tick begins (R467). -/
def Wk.turned (k : Wk) (f : SyncF) : Wk := if f.tick % 2 ^ 48 = k.tick then k else k.tickOver

theorem Wk.turned_place (k : Wk) (f : SyncF) : (k.turned f).place = k.place := by
  unfold Wk.turned
  split
  · rfl
  · exact k.tickOver_place

theorem Wk.turned_hears (k : Wk) (f : SyncF) (lane : Nat) : (k.hears lane).turned f = (k.turned f).hears lane := by
  unfold Wk.turned
  change (if f.tick % 2 ^ 48 = k.tick then _ else _) = _
  split
  · rfl
  · exact k.tickOver_hears lane

/-- A worker that any SYNC wakes, in Kindling with its safe values (R347, R688). -/
def Wk.woken (k : Wk) (f : SyncF) : Wk :=
  let k0 := { k.turned f with mode := 1, ember := false, bank := k.bank || (bit f.flags 0 && bit f.flags 1) }
  if bit f.flags 2 then k0.dropWires.safeHeld else k0

theorem Wk.woken_place (k : Wk) (f : SyncF) :
    (k.woken f).place = { k with mode := 1, ember := false, bank := k.bank || (bit f.flags 0 && bit f.flags 1) }.place := by
  have hplace := k.turned_place f
  simp only [Wk.place, Prod.mk.injEq, and_assoc] at hplace
  unfold Wk.woken
  dsimp only
  split <;> simp only [Wk.place, Wk.safeHeld, Wk.dropWires, Prod.mk.injEq] <;> simp only [hplace, and_self]

/-- The station and the wires after a SYNC: those of the tick before, or in Kindling the safe values and no wire (R382, R688). -/
theorem Wk.woken_station (k : Wk) (f : SyncF) :
    (bit f.flags 2 = false → (k.woken f).outs = (k.turned f).outs) ∧
    (bit f.flags 2 = true → (k.woken f).wires = [] ∧ (k.woken f).rt = 0 ∧
      (k.woken f).outs = if (k.turned f).hasCfg then stnMask ((k.turned f).p 0x49) (k.turned f).trips else 0) ∧
    (k.woken f).params = (k.turned f).params ∧ (k.woken f).pend = (k.turned f).pend := by
  unfold Wk.woken
  dsimp only
  cases bit f.flags 2
  · exact ⟨fun _ => rfl, fun hslow => absurd hslow (by decide), rfl, rfl⟩
  · exact ⟨fun hfast => absurd hfast (by decide), fun _ => ⟨rfl, rfl, rfl⟩, rfl, rfl⟩

/-- Whether the SYNC is a primary one that covers the worker and counts in its tick (R319). -/
def Wk.syncCounts (k : Wk) (f : SyncF) : Bool :=
  bit f.flags 0 && decide (f.first ≤ k.addr) && decide (k.addr ≤ f.last) && k.addr != 0 &&
    !(k.sync.isSome && f.tick % 2 ^ 48 == k.tick && (f.fromEnd != 0 || k.sync == some 0))

theorem Wk.synced_of_not (hnot : k.syncCounts f = false) : k.synced f = k.woken f :=
  if_neg (by rw [Wk.syncCounts] at hnot; exact Bool.eq_false_iff.mp hnot)

/-- The SYNC that counts gives the worker its tick, and leaves the rest as the waking left it. -/
theorem Wk.synced_of_counts (hcounts : k.syncCounts f = true) :
    k.synced f = { k.woken f with
      tick := f.tick % 2 ^ 48, staged := (k.synced f).staged, period := f.period, slow := bit f.flags 2, sync := some f.fromEnd,
      fly := 0, own := false, toEnd := f.fromEnd, restarted := (k.synced f).restarted, meterU := (k.synced f).meterU,
      zero := (k.synced f).zero } := by
  have heq : k.synced f = _ := if_pos hcounts
  rw [heq]
  rfl

theorem Wk.synced_lanes (k : Wk) (f : SyncF) : (k.synced f).lostA = k.lostA ∧ (k.synced f).lostB = k.lostB := by
  have hplace := k.woken_place f
  simp only [Wk.place, Prod.mk.injEq, and_assoc] at hplace
  obtain ⟨-, -, -, -, hA, hB, -⟩ := hplace
  cases hcounts : k.syncCounts f
  · rw [Wk.synced_of_not hcounts]
    exact ⟨hA, hB⟩
  · rw [Wk.synced_of_counts hcounts]
    exact ⟨hA, hB⟩

/-- A SYNC to every worker goes on, and a powered worker takes it (R311). -/
theorem syncFrame_gives (hmode : (s.wk w).mode ≠ 0) (hdest : h.dest = 0) :
    Gives (.syncFrame w h f) s ((s.updWk w (fun _ => ((s.wk w).hears h.lane).synced f)).wkPass w h 1
      (le 6 f.tick ++ le 1 f.period ++ le 1 f.flags ++ le 1 f.first ++ le 1 f.last ++ zeros 6)) := by
  have hall : (s.updWk w (fun k => k.hears h.lane)).wkFrame w h 1
      (le 6 f.tick ++ le 1 f.period ++ le 1 f.flags ++ le 1 f.first ++ le 1 f.last ++ zeros 6)
      (fun t => t.updWk w (fun k => k.synced f)) =
      (s.updWk w (fun _ => ((s.wk w).hears h.lane).synced f)).wkPass w h 1
        (le 6 f.tick ++ le 1 f.period ++ le 1 f.flags ++ le 1 f.first ++ le 1 f.last ++ zeros 6) := by
    rw [State.wkFrame_of_all _ hdest, State.updWk_wkPass (Wk.synced_lanes _ f).1 (Wk.synced_lanes _ f).2, State.updWk_updWk]
    rfl
  change execSyncFrame w h f s = _
  unfold execSyncFrame
  rw [if_neg hmode, hall]
  rfl

end Sys2Proof.Machine

/-! What a worker's sample leaves of its tick and of its held results (R320, R324, R327). -/
namespace Sys2Proof.Machine

/-- The tick and the held results. -/
def Wk.record (k : Wk) : Nat × List ResultRec := (k.tick, k.held)

theorem Wk.judge_record (k : Wk) (filt : Nat) (l : List Breach) : (k.judge filt l).1.record = k.record :=
  foldl_keeps Wk.record (fun (k : Wk) (b : Breach) => k.log b.cause b.item b.raw) (fun _ _ => rfl) _ _

theorem Wk.logIf_record (b : Bool) (k : Wk) (code item value : Nat) :
    (if b = true then k.log code item value else k).record = k.record := by
  cases b <;> rfl

theorem Wk.putWire_record (k : Wk) (j : Nat) (x : Option Wire) : (k.putWire j x).record = k.record := by
  cases x with
  | none => rfl
  | some y => exact Wk.logIf_record _ k 0x24 j 0

theorem Wk.retested_record (k : Wk) (js : List Nat) (res : Nat → Option Nat) : (k.retested js res).record = k.record := by
  refine foldl_keeps Wk.record _ (fun k j => ?_) _ k
  split
  · split <;> exact Wk.putWire_record _ _ _
  · rfl

theorem Wk.openWire_record (k : Wk) (cfg count : Nat) (ok : Bool) (v : List Int) (diff : Int) :
    (k.openWire cfg count ok v diff).record = k.record := by
  unfold Wk.openWire
  dsimp only
  refine (foldl_keeps Wk.record _ (fun k j => ?_) _ _).trans ((Wk.retested_record _ _ _).trans
    ((foldl_keeps Wk.record (fun (k : Wk) (j : Nat) => { k with wires := Tbl.set k.wires j Wire.new }) (fun _ _ => rfl) _ _).trans ?_))
  · split
    · exact Wk.putWire_record _ _ _
    · rfl
  · split
    · split <;> rfl
    · rfl

theorem Wk.openIf_record (b : Bool) (k : Wk) (cfg count : Nat) (ok : Bool) (v : List Int) (diff : Int) :
    (if b = true then k else k.openWire cfg count ok v diff).record = k.record := by
  cases b
  · exact k.openWire_record cfg count ok v diff
  · rfl

theorem Wk.sampleCell_record (k : Wk) (cfg per n : Nat) (x : WkSample) : (k.sampleCell cfg per n x).1.record = k.record := by
  unfold Wk.sampleCell
  refine (Wk.judge_record _ _ _).trans ((Wk.openIf_record _ _ _ _ _ _ _).trans ((Wk.logIf_record _ _ _ _ _).trans rfl))

theorem Wk.sampleMeter_record (k : Wk) (n : Nat) (x : WkSample) : (k.sampleMeter n x).1.record = k.record := by
  unfold Wk.sampleMeter
  exact foldl_keeps Wk.record (fun (k : Wk) (b : Breach) => k.log b.cause b.item b.raw) (fun _ _ => rfl) _ _

/-- A cell worker's own flags leave bits 0 to 2 of the RESULT's. -/
theorem Wk.sampleCell_flags (k : Wk) (cfg per n : Nat) (x : WkSample) : (k.sampleCell cfg per n x).2.2.1 % 8 = 0 := by
  have hflags : ∃ a b c d e, (k.sampleCell cfg per n x).2.2.1 = 8 * a + 16 * b + 32 * c + 64 * d + 128 * e :=
    ⟨_, _, _, _, _, rfl⟩
  obtain ⟨a, b, c, d, e, hflags⟩ := hflags
  rw [hflags]
  omega

end Sys2Proof.Machine

/-! A worker's RESULT, and the frames that leave with it (R323, R327, R384, R447, R450). -/
namespace Sys2Proof.Machine

variable {s : State} {w : Nat}

/-- What a worker reports at its sample, with the frames of its breaches, its RESULT and its stream (R384, R447). -/
def State.wkReported (s : State) (w n : Nat) (k : Wk) (l : List Breach) (r : ResultRec) (conv : List (List Int)) : State :=
  (((({ s with free := n + 128 }).updWk w (fun _ => { k with tphase := 0 })).each l (fun t b => t.wkAlarm w b)).wkResult w r).wkStream
    w (n + 126) conv

/-- What frames of worker `w` leave: its tick and held results, the other workers, and the frames sent before. -/
def FramesOf (w : Nat) (s t : State) : Prop :=
  (t.wk w).record = (s.wk w).record ∧ (∀ v, v ≠ w → t.wk v = s.wk v) ∧ s.sent.worker.length ≤ t.sent.worker.length

theorem FramesOf.rfl' (w : Nat) (s : State) : FramesOf w s s := ⟨rfl, fun _ _ => rfl, Nat.le_refl _⟩

theorem FramesOf.trans {s t u : State} (hst : FramesOf w s t) (htu : FramesOf w t u) : FramesOf w s u := by
  obtain ⟨hrec, hother, hlen⟩ := hst
  obtain ⟨hrec', hother', hlen'⟩ := htu
  exact ⟨hrec'.trans hrec, fun v hv => (hother' v hv).trans (hother v hv), Nat.le_trans hlen hlen'⟩

theorem framesOf_wkSend (s : State) (w dir kind : Nat) (b : List Byte) : FramesOf w s (s.wkSend w dir kind b) := by
  obtain ⟨hsent, hwk, hother, -⟩ := s.wkSend_sends w dir kind b
  exact ⟨by rw [hwk]; rfl, hother, by rw [hsent, List.length_append]; exact Nat.le_add_right _ _⟩

theorem framesOf_each {α : Type} {f : State → α → State} (hf : ∀ t a, FramesOf w t (f t a)) (l : List α) (s : State) :
    FramesOf w s (s.each l f) :=
  State.each_holds (FramesOf w s) l f (fun t a ht => ht.trans (hf t a)) s (FramesOf.rfl' w s)

theorem framesOf_wkAlarm (s : State) (w : Nat) (b : Breach) : FramesOf w s (s.wkAlarm w b) :=
  (framesOf_wkSend s w 0 9 _).trans (framesOf_wkSend _ w 1 9 _)

theorem framesOf_wkStream (s : State) (w n : Nat) (conv : List (List Int)) : FramesOf w s (s.wkStream w n conv) := by
  unfold State.wkStream
  dsimp only
  split
  · exact FramesOf.rfl' w s
  · exact framesOf_each (fun t b => framesOf_wkSend t w _ 8 b) _ s

/-- A RESULT is held, and leaves in one frame at least (R323, R324). -/
theorem State.wkResult_held (s : State) (w : Nat) (r : ResultRec) :
    ((s.wkResult w r).wk w).tick = (s.wk w).tick ∧ ((s.wkResult w r).wk w).held = r :: (s.wk w).held.take 3 ∧
      (∀ v, v ≠ w → (s.wkResult w r).wk v = s.wk v) ∧ s.sent.worker.length < (s.wkResult w r).sent.worker.length := by
  let s1 : State := s.updWk w (fun k => { k with held := r :: k.held.take 3, out := [], emberTold := false })
  have hs1 : s1.wk w = { s.wk w with held := r :: (s.wk w).held.take 3, out := [], emberTold := false } := State.updWk_same _ _ _
  have hone (dir : Nat) : s1.sent.worker.length < (s1.wkSend w dir 7 (resultBytes r)).sent.worker.length := by
    rw [(s1.wkSend_sends w dir 7 (resultBytes r)).1, List.length_append]
    exact Nat.lt_succ_self _
  have hframes : ∃ t, FramesOf w s1 t ∧ s1.sent.worker.length < t.sent.worker.length ∧
      s.wkResult w r = t.each (s.wk w).out (fun t f => t.wkSend w (s.wk w).toEnd f.1 f.2) := by
    unfold State.wkResult
    dsimp only
    split
    · exact ⟨_, framesOf_wkSend s1 w _ 7 _, hone _, rfl⟩
    · refine ⟨_, (framesOf_wkSend s1 w 0 7 _).trans (framesOf_wkSend _ w 1 7 _), ?_, rfl⟩
      exact Nat.lt_of_lt_of_le (hone 0) (framesOf_wkSend _ w 1 7 _).2.2
  obtain ⟨t, ht, hlen, heq⟩ := hframes
  obtain ⟨hrec, hother, -⟩ := ht
  obtain ⟨hrec', hother', hlen'⟩ := framesOf_each (w := w) (fun t (f : Nat × List Byte) => framesOf_wkSend t w (s.wk w).toEnd f.1 f.2) (s.wk w).out t
  rw [heq]
  have hboth := hrec'.trans hrec
  rw [hs1, Wk.record, Wk.record, Prod.mk.injEq] at hboth
  obtain ⟨htick, hheld⟩ := hboth
  exact ⟨htick, hheld, fun v hv => (hother' v hv).trans ((hother v hv).trans (State.updWk_other _ _ hv)), Nat.lt_of_lt_of_le hlen hlen'⟩

theorem State.wkReported_held (s : State) (w n : Nat) (k : Wk) (l : List Breach) (r : ResultRec) (conv : List (List Int)) :
    ((s.wkReported w n k l r conv).wk w).tick = k.tick ∧ ((s.wkReported w n k l r conv).wk w).held = r :: k.held.take 3 ∧
      (∀ v, v ≠ w → (s.wkReported w n k l r conv).wk v = s.wk v) ∧
      s.sent.worker.length < (s.wkReported w n k l r conv).sent.worker.length := by
  let s1 : State := ({ s with free := n + 128 } : State).updWk w (fun _ => { k with tphase := 0 })
  have hs1 : s1.wk w = { k with tphase := 0 } := State.updWk_same _ _ _
  obtain ⟨hrec, hother, hlen⟩ := framesOf_each (w := w) (fun t b => framesOf_wkAlarm t w b) l s1
  rw [hs1, Wk.record, Wk.record, Prod.mk.injEq] at hrec
  obtain ⟨htick, hheld⟩ := hrec
  obtain ⟨htick', hheld', hother', hlen'⟩ := (s1.each l (fun t b => t.wkAlarm w b)).wkResult_held w r
  obtain ⟨hrec, hother'', hlen''⟩ := framesOf_wkStream ((s1.each l (fun t b => t.wkAlarm w b)).wkResult w r) w (n + 126) conv
  rw [Wk.record, Wk.record, Prod.mk.injEq, htick', hheld', htick, hheld] at hrec
  obtain ⟨htick'', hheld''⟩ := hrec
  refine ⟨htick'', hheld'', fun v hv => ?_, Nat.lt_of_lt_of_le (Nat.lt_of_le_of_lt hlen hlen') hlen''⟩
  exact (hother'' v hv).trans ((hother' v hv).trans ((hother v hv).trans (State.updWk_other _ _ hv)))

/-- Without a primary SYNC a worker counts the tick itself (R320). -/
theorem Wk.onTime_of_none {k : Wk} (hsync : k.sync = none) :
    k.onTime.record = ((k.tick + 1) % 2 ^ 48, k.held) ∧ k.onTime.sync = none := by
  unfold Wk.onTime
  rw [if_neg (by simp [hsync])]
  dsimp only
  split
  · exact ⟨rfl, hsync⟩
  · exact ⟨rfl, hsync⟩

theorem Wk.leaseUpdate_record (k : Wk) : k.leaseUpdate.record = k.record ∧ k.leaseUpdate.sync = k.sync := by
  unfold Wk.leaseUpdate
  dsimp only
  split
  · exact ⟨rfl, rfl⟩
  split
  · exact ⟨rfl, rfl⟩
  split
  · exact ⟨rfl, rfl⟩
  · exact ⟨rfl, rfl⟩

theorem Wk.dis_record (k : Wk) (n : Nat) (l : List Nat) : (k.dis n l).record = k.record := rfl

/-- A RESULT's flags of a worker without a primary SYNC have the flywheel's bit (R320). -/
theorem bit_flywheel {k : Wk} (hsync : k.sync = none) (b : Bool) {flags : Nat} (hflags : flags % 8 = 0) :
    bit (b2n k.sync.isNone + 4 * b2n b + flags) 0 = true := by
  have hodd : (b2n k.sync.isNone + 4 * b2n b + flags) / 2 ^ 0 % 2 = 1 := by
    rw [hsync]
    simp only [Option.isNone_none, b2n, if_true]
    omega
  rw [bit, hodd]
  rfl

/-- A worker that samples reports under its tick, without a primary SYNC on flywheel timing (R320, R327). -/
theorem State.wkSample_reports (s : State) (x : WkSample) (hruns : (s.wk x.w).runs = true) (hsync : (s.wk x.w).sync = none)
    (hnew : ∀ r ∈ (s.wk x.w).held, r.tick ≠ ((s.wk x.w).tick + 1) % 2 ^ 48) :
    ∃ (n : Nat) (k : Wk) (l : List Breach) (r : ResultRec), s.wkSample x = s.wkReported x.w n k l r x.stream ∧
      k.record = (((s.wk x.w).tick + 1) % 2 ^ 48, (s.wk x.w).held) ∧ r.tick = k.tick ∧ bit r.flags 0 = true := by
  obtain ⟨htime, hsync1⟩ := Wk.onTime_of_none hsync
  obtain ⟨hlease, hsync2⟩ := (s.wk x.w).onTime.leaseUpdate_record
  have hparts := htime
  rw [Wk.record, Prod.mk.injEq] at hparts
  obtain ⟨htick, hheld⟩ := hparts
  have hfresh : ¬ (s.wk x.w).onTime.held.any (fun r => r.tick == (s.wk x.w).onTime.tick) = true := by
    rw [htick, hheld, List.any_eq_true]
    rintro ⟨r, hr, heq⟩
    exact hnew r hr (by simpa using heq)
  unfold State.wkSample
  dsimp only
  rw [if_neg (by simp [hruns]), if_neg hfresh]
  generalize (s.wk x.w).onTime.leaseUpdate = k2 at hlease hsync2 ⊢
  have hrecord : k2.record = (((s.wk x.w).tick + 1) % 2 ^ 48, (s.wk x.w).held) := hlease.trans htime
  have hnone : k2.sync = none := hsync2.trans hsync1
  split
  · refine ⟨s.free, (k2.sampleMeter s.free x).1.dis (s.free + 120) x.di, _, _, rfl, ?_, rfl, bit_flywheel hnone _ (by omega)⟩
    exact (Wk.dis_record _ _ _).trans ((k2.sampleMeter_record s.free x).trans hrecord)
  · refine ⟨s.free, (k2.sampleCell (s.p 0x1104) (s.pf 0x1105 0 16) s.free x).1.dis (s.free + 120) x.di, _, _, rfl, ?_, rfl,
      bit_flywheel hnone _ (k2.sampleCell_flags _ _ _ _)⟩
    exact (Wk.dis_record _ _ _).trans ((k2.sampleCell_record _ _ _ _).trans hrecord)

theorem flywheelSample_gives (x : WkSample) (hruns : (s.wk x.w).runs = true)
    (hnew : ∀ r ∈ (s.wk x.w).held, r.tick ≠ ((s.wk x.w).tick + 1) % 2 ^ 48) :
    ∃ u : State, Gives (.flywheelSample x) s u ∧ (u.wk x.w).tick = ((s.wk x.w).tick + 1) % 2 ^ 48 ∧
      (∃ r l, (u.wk x.w).held = r :: l ∧ l = (s.wk x.w).held.take 3 ∧ r.tick = (u.wk x.w).tick ∧ bit r.flags 0 = true) ∧
      (s.sent.worker.length < u.sent.worker.length) ∧ u.params = s.params ∧ u.flue = s.flue ∧ u.out = s.out ∧
      ∀ v, v ≠ x.w → u.wk v = s.wk v := by
  let t : State := s.updWk x.w (fun k => if k.runs then { k.tickOver with sync := none } else k)
  have ht : t.wk x.w = { (s.wk x.w).tickOver with sync := none } := by
    rw [State.updWk_same, if_pos hruns]
  have hplace := (s.wk x.w).tickOver_place
  simp only [Wk.place, Prod.mk.injEq, and_assoc] at hplace
  obtain ⟨-, hmode, -, -, -, -, -, htick, -, -, -, -, -, hheld, -⟩ := hplace
  have hruns' : (t.wk x.w).runs = true := by
    rw [ht, Wk.runs, hmode]
    exact hruns
  have hsync : (t.wk x.w).sync = none := by rw [ht]
  have htick' : (t.wk x.w).tick = (s.wk x.w).tick := by rw [ht, htick]
  have hheld' : (t.wk x.w).held = (s.wk x.w).held := by rw [ht, hheld]
  obtain ⟨n, k, l, r, heq, hrecord, hrtick, hbit⟩ := t.wkSample_reports x hruns' hsync (by rw [hheld', htick']; exact hnew)
  rw [htick', hheld', Wk.record, Prod.mk.injEq] at hrecord
  obtain ⟨hktick, hkheld⟩ := hrecord
  obtain ⟨hutick, huheld, hother, hlen⟩ := t.wkReported_held x.w n k l r x.stream
  rw [← heq] at hutick huheld hother hlen
  refine ⟨t.wkSample x, rfl, hutick.trans hktick, ⟨r, k.held.take 3, huheld, by rw [hkheld], hrtick.trans hutick.symm, hbit⟩, hlen,
    ?_, ?_, ?_, fun v hv => (hother v hv).trans (State.updWk_other _ _ hv)⟩
  · simp only [State.wkSample_frame, t, State.updWk_params]
  · simp only [State.wkSample_frame, t, State.updWk_flue]
  · simp only [State.wkSample_frame, t, State.updWk_out]

end Sys2Proof.Machine

/-! A worker on its own timing, and in Banked (R321, R322, R347, R348, R383, R454, R690). -/
namespace Sys2Proof.Machine

variable {s : State} {w : Nat}

theorem ownTimingStart_becomes (hruns : (s.wk w).runs = true) (hfly : 64 ≤ (s.wk w).fly) (hown : (s.wk w).own = false) :
    ∃ k : Wk, WorkerBecomes (.ownTimingStart w) s w k ∧ k = { s.wk w with own := true, journal := k.journal, jnext := k.jnext } ∧
      k.jnext = (s.wk w).jnext + 1 ∧ (Tbl.find k.journal ((s.wk w).jnext % 512)).map (·.code) = some 0x22 := by
  refine ⟨({ s.wk w with own := true } : Wk).log 0x22 0 0, ?_, rfl, rfl, ?_⟩
  · have hmade : (s.updWk w (fun k => { k with own := true })).wkJournal w 0x22 0 0 =
        s.updWk w (fun _ => ({ s.wk w with own := true } : Wk).log 0x22 0 0) :=
      (State.updWk_updWk _ _ _ _).trans (State.updWk_congr rfl)
    change execOwnTimingStart w s = _
    unfold execOwnTimingStart
    rw [if_pos (by simp [hruns, hfly, hown]), hmade]
    rfl
  · obtain ⟨-, e, he, hcode, -⟩ := ({ s.wk w with own := true } : Wk).log_eq 0x22 0 0
    exact (congrArg (Option.map WkJ.code) he).trans (congrArg some hcode)

theorem workerBankEntry_becomes (hruns : (s.wk w).runs = true) (hbank : (s.wk w).bank = true) :
    ∃ k : Wk, WorkerBecomes (.workerBankEntry w) s w k ∧ k.mode = 2 ∧ k.balMask = 0 ∧ k.balLeft = 0 ∧ k.imp = none ∧
      k.flare.st = 0 ∧ k.outs = 0 ∧ k.params = (s.wk w).params ∧ k.meterU = (s.wk w).meterU ∧ k.shards = (s.wk w).shards ∧
      k.journal = (s.wk w).journal := by
  have hexec : ∃ f : Wk → Wk, exec (.workerBankEntry w) s = done (s.updWk w f) ∧
      ∀ k, (f k).mode = 2 ∧ (f k).balMask = 0 ∧ (f k).balLeft = 0 ∧ (f k).imp = none ∧ (f k).flare.st = 0 ∧ (f k).outs = 0 ∧
        (f k).params = k.params ∧ (f k).meterU = k.meterU ∧ (f k).shards = k.shards ∧ (f k).journal = k.journal := by
    change ∃ f, execWorkerBankEntry w s = _ ∧ _
    unfold execWorkerBankEntry
    dsimp only
    rw [if_pos (by simp [hruns, hbank])]
    exact ⟨_, rfl, fun k => ⟨rfl, rfl, rfl, rfl, rfl, rfl, rfl, rfl, rfl, rfl⟩⟩
  obtain ⟨f, hgives, hfields⟩ := hexec
  exact ⟨f (s.wk w), hgives, hfields (s.wk w)⟩

theorem emberRepeat_gives {lane : Nat} (hmode : (s.wk w).mode = 2) (hlane : lane < 2) :
    Gives (.emberRepeat w lane) s (s.mapSent (fun t =>
      { t with worker := t.worker ++ [(w, ⟨wRing w, 1 - lane, 0, 0xEE, 0, 0, []⟩)] })) := by
  have hdir : (if lane = 0 then 1 else 0) = 1 - lane := by split <;> omega
  rw [← hdir]
  exact congrArg done (if_pos hmode)

/-- A worker in Banked after its check: without a breach as it was, with one in the tone (R347, R350, R383). -/
def Wk.toned (k : Wk) (calm ember : Bool) : Wk :=
  if calm then k else { (if ember then k else k.log 0x20 0 0) with ember := true, emberTold := true }

theorem Wk.toned_ember (k : Wk) (calm : Bool) :
    (k.toned calm k.ember).mode = k.mode ∧ (k.ember = true → (k.toned calm k.ember).ember = true) ∧
      ((k.toned calm k.ember).ember = true → (k.toned calm k.ember).emberTold = true ∨ k.ember = true) := by
  unfold Wk.toned
  cases calm
  · cases k.ember
    · exact ⟨rfl, fun _ => rfl, fun _ => .inl rfl⟩
    · exact ⟨rfl, fun _ => rfl, fun _ => .inl rfl⟩
  · exact ⟨rfl, id, .inr⟩

/-- Whether the worker is in Banked, and in the tone. -/
def Wk.tone (k : Wk) : Nat × Bool := (k.mode, k.ember)

theorem exec_bankedCheck (x : WkSample) (hmode : (s.wk x.w).mode = 2) :
    ∃ (n : Nat) (k k' : Wk) (calm : Bool), exec (.bankedCheck x) s = done (if k'.ember then
        (({ s with free := n } : State).updWk x.w (fun _ => k')).mapSent (fun t => { t with worker := t.worker ++
          [(x.w, ⟨wRing x.w, 0, 0, 0xEE, 0, 0, []⟩), (x.w, ⟨wRing x.w, 1, 0, 0xEE, 0, 0, []⟩)] })
        else ({ s with free := n } : State).updWk x.w (fun _ => k')) ∧
      k' = k.toned calm (s.wk x.w).ember ∧ k.tone = (2, (s.wk x.w).ember) := by
  have htone (l : List Breach) (a b : Bool) (m m' m'' : WkMeter) :
      (l.foldl (fun (k : Wk) (b : Breach) => k.log b.cause b.item b.raw)
        (if a = true then { (if b = true then { s.wk x.w with meterU := m' } else { s.wk x.w with meterU := m }) with meterU := m'' }
          else if b = true then { s.wk x.w with meterU := m' } else { s.wk x.w with meterU := m })).tone = (2, (s.wk x.w).ember) := by
    refine (foldl_keeps Wk.tone (fun (k : Wk) (b : Breach) => k.log b.cause b.item b.raw) (fun _ _ => rfl) l _).trans ?_
    rw [← hmode]
    cases a <;> cases b <;> rfl
  change ∃ n k k' calm, execBankedCheck x s = _ ∧ _
  unfold execBankedCheck
  dsimp only
  rw [if_neg (by simp [hmode])]
  exact ⟨s.free + 64, _, _, _, rfl, rfl, htone _ _ _ _ _ _⟩

theorem bankedCheck_gives (x : WkSample) (hmode : (s.wk x.w).mode = 2) :
    ∃ u : State, Gives (.bankedCheck x) s u ∧ (u.wk x.w).mode = 2 ∧ ((s.wk x.w).ember = true → (u.wk x.w).ember = true) ∧
      ((u.wk x.w).ember = true → (u.wk x.w).emberTold = true ∨ (s.wk x.w).ember = true) ∧
      u.sent.worker = s.sent.worker ++ (if (u.wk x.w).ember then
        [(x.w, ⟨wRing x.w, 0, 0, 0xEE, 0, 0, []⟩), (x.w, ⟨wRing x.w, 1, 0, 0xEE, 0, 0, []⟩)] else []) ∧
      u.params = s.params ∧ u.out = s.out ∧ ∀ v, v ≠ x.w → u.wk v = s.wk v := by
  obtain ⟨n, k, k', calm, hexec, hk', htone⟩ := exec_bankedCheck x hmode
  rw [Wk.tone, Prod.mk.injEq] at htone
  obtain ⟨hkmode, hkember⟩ := htone
  rw [← hkember] at hk'
  obtain ⟨hmode', hstays, htold⟩ := k.toned_ember calm
  rw [← hk', hkember] at hstays htold
  rw [← hk', hkmode] at hmode'
  have hu : ∃ u : State, Gives (.bankedCheck x) s u ∧ u.wk x.w = k' ∧
      u.sent.worker = s.sent.worker ++ (if k'.ember then
        [(x.w, ⟨wRing x.w, 0, 0, 0xEE, 0, 0, []⟩), (x.w, ⟨wRing x.w, 1, 0, 0xEE, 0, 0, []⟩)] else []) ∧
      u.params = s.params ∧ u.out = s.out ∧ ∀ v, v ≠ x.w → u.wk v = s.wk v := by
    cases hember : k'.ember
    · rw [hember, if_neg (by decide)] at hexec
      exact ⟨_, hexec, State.updWk_same _ _ _, (List.append_nil _).symm, rfl, rfl, fun v hv => State.updWk_other _ _ hv⟩
    · rw [hember, if_pos rfl] at hexec
      have hsent (t : State) (g : Sent → Sent) (v : Nat) : (t.mapSent g).wk v = t.wk v := rfl
      exact ⟨_, hexec, (hsent _ _ _).trans (State.updWk_same _ _ _), rfl, rfl, rfl,
        fun v hv => (hsent _ _ _).trans (State.updWk_other _ _ hv)⟩
  obtain ⟨u, hgives, hw, hrest⟩ := hu
  refine ⟨u, hgives, ?_⟩
  rw [hw]
  exact ⟨hmode', hstays, htold, hrest⟩

end Sys2Proof.Machine

namespace Sys2Proof
open Machine

theorem Wk.tickOver_of_sampled (k : Wk) (hk : k.tphase ≠ 0) : k.tickOver = if k.tphase ≤ 1 then k.atCommit else k := by
  unfold Wk.tickOver
  dsimp only
  rw [if_neg hk]

theorem Wk.tickOver_of_start (k : Wk) (hk : k.tphase = 0) : k.tickOver = k.atSet.atCommit := by
  unfold Wk.tickOver
  dsimp only
  rw [if_pos hk]
  exact if_pos (Nat.le_refl 1)

/-- A SYNC that counts, at the worker as the frame reaches it (R319 to R322, R688). -/
theorem syncFrame_gives_tick {s : Machine.State} {w : Nat} {h : WHdr} {f : SyncF} (hmode : (s.wk w).mode ≠ 0) (hdest : h.dest = 0)
    (hcounts : ((s.wk w).hears h.lane).syncCounts f = true) :
    ∃ (k old : Wk), Gives (.syncFrame w h f) s ((s.updWk w (fun _ => k)).wkPass w h 1
        (le 6 f.tick ++ le 1 f.period ++ le 1 f.flags ++ le 1 f.first ++ le 1 f.last ++ zeros 6)) ∧
      old = (if f.tick % 2 ^ 48 = (s.wk w).tick then s.wk w else (s.wk w).tickOver) ∧
      k.mode = 1 ∧ k.tick = f.tick % 2 ^ 48 ∧ k.period = f.period ∧
      k.slow = bit f.flags 2 ∧ k.bank = ((s.wk w).bank || bit f.flags 1) ∧ k.sync = some f.fromEnd ∧ k.toEnd = f.fromEnd ∧
      k.fly = 0 ∧ k.own = false ∧ k.ember = false ∧ (bit f.flags 2 = false → k.outs = old.outs) ∧
      (bit f.flags 2 = true → k.wires = [] ∧ k.rt = 0 ∧
        k.outs = if old.hasCfg then stnMask (old.p 0x49) old.trips else 0) ∧ k.params = old.params ∧ k.held = (s.wk w).held ∧ k.pend = old.pend := by
  have hprim : bit f.flags 0 = true := by
    simp only [Wk.syncCounts, Bool.and_eq_true] at hcounts
    exact hcounts.1.1.1.1
  have hplace := ((s.wk w).hears h.lane).woken_place f
  simp only [Wk.place, Prod.mk.injEq, and_assoc] at hplace
  obtain ⟨-, hmode', -, -, -, -, -, -, -, -, -, -, hbank, hheld, -, -, -, hember, -⟩ := hplace
  obtain ⟨hfast, hslow, hparams, hpend⟩ := ((s.wk w).hears h.lane).woken_station f
  rw [(s.wk w).turned_hears f h.lane] at hfast hslow hparams hpend
  rw [hprim, Bool.true_and] at hbank
  have heq := Wk.synced_of_counts hcounts
  refine ⟨_, (s.wk w).turned f, syncFrame_gives hmode hdest, rfl, ?_⟩
  rw [heq]
  exact ⟨hmode', rfl, rfl, rfl, hbank, rfl, rfl, rfl, rfl, hember, hfast, hslow, hparams, hheld, hpend⟩

/-- A SYNC that is not primary, or does not cover the worker, wakes it alone (R322, R347). -/
theorem syncFrame_gives_waking {s : Machine.State} {w : Nat} {h : WHdr} {f : SyncF} (hmode : (s.wk w).mode ≠ 0) (hdest : h.dest = 0)
    (hnot : ((s.wk w).hears h.lane).syncCounts f = false) :
    ∃ k : Wk, Gives (.syncFrame w h f) s ((s.updWk w (fun _ => k)).wkPass w h 1
        (le 6 f.tick ++ le 1 f.period ++ le 1 f.flags ++ le 1 f.first ++ le 1 f.last ++ zeros 6)) ∧
      k.mode = 1 ∧ k.ember = false ∧ k.bank = ((s.wk w).bank || (bit f.flags 0 && bit f.flags 1)) ∧
      k.tick = (s.wk w).tick ∧ k.period = (s.wk w).period ∧ k.held = (s.wk w).held := by
  have hplace := ((s.wk w).hears h.lane).woken_place f
  simp only [Wk.place, Prod.mk.injEq, and_assoc] at hplace
  obtain ⟨-, hmode', -, -, -, -, -, htick, hperiod, -, -, -, hbank, hheld, -, -, -, hember, -⟩ := hplace
  refine ⟨_, syncFrame_gives hmode hdest, ?_⟩
  rw [Wk.synced_of_not hnot]
  exact ⟨hmode', hember, hbank, htick, hperiod, hheld⟩

/-- Settles O42: a SYNC's effect is that of `Wk.synced`, before or after the frame goes on, and what the last tick still had to do
does not depend on the lanes (`Wk.tickOver_hears`); a sample reports under the worker's own tick (`State.wkSample_reports`). -/
theorem workerTiming : Obligations.WorkerTiming := by
  unfold Obligations.WorkerTiming
  refine ⟨fun s w h f hmode hdest hprim hlo hhi haddr hfirst => ?_, fun s w h f hmode hdest hnot => ?_, fun k hk => ?_, fun k hk => ?_,
    fun k hk => ?_, fun s w hruns hfly hown => ownTimingStart_becomes hruns hfly hown,
    fun s x hruns hnew => flywheelSample_gives x hruns hnew, fun s w hruns hbank => workerBankEntry_becomes hruns hbank,
    fun s w lane hmode hlane => emberRepeat_gives hmode hlane, fun s x hmode => bankedCheck_gives x hmode⟩
  · refine syncFrame_gives_tick hmode hdest ?_
    have hagain : ((s.wk w).sync.isSome && f.tick % 2 ^ 48 == (s.wk w).tick && (f.fromEnd != 0 || (s.wk w).sync == some 0)) = false := by
      rcases hfirst with hnone | htick | ⟨hend, hlost⟩
      · simp [hnone]
      · rw [beq_eq_false_iff_ne.mpr htick, Bool.and_false, Bool.false_and]
      · simp [hend, hlost]
    change (bit f.flags 0 && decide (f.first ≤ (s.wk w).addr) && decide ((s.wk w).addr ≤ f.last) && (s.wk w).addr != 0 &&
      !((s.wk w).sync.isSome && f.tick % 2 ^ 48 == (s.wk w).tick && (f.fromEnd != 0 || (s.wk w).sync == some 0))) = true
    rw [hagain]
    simp [hprim, hlo, hhi, haddr]
  · refine syncFrame_gives_waking hmode hdest ?_
    change (bit f.flags 0 && decide (f.first ≤ (s.wk w).addr) && decide ((s.wk w).addr ≤ f.last) && (s.wk w).addr != 0 && _) = false
    rcases hnot with hprim | hlo | hhi | haddr
    · simp [hprim]
    · simp [hlo]
    · simp [hhi]
    · simp [haddr]
  · exact (Wk.tickOver_of_sampled k (by omega)).trans (if_neg (by omega))
  · exact (Wk.tickOver_of_sampled k (by omega)).trans (if_pos (by omega))
  · exact Wk.tickOver_of_start k hk

end Sys2Proof

/-! The words that the arithmetic of the cores sets, and the traps of its rows (R741 to R753). -/
namespace Sys2Proof.Machine

/-- A row whose bits, POISON and tags are in order traps with its one other cause, or not at all (R747). -/
theorem trapOf_other (n : Nat) (o : Bool) (k : Nat) :
    trapOf n false false [(false, 7), (o, k)] = if o = true then some k else none := by
  cases o
  · exact trapOf_none n rfl
  · exact trapOf_one n rfl

theorem payOf_lt (w : TWord) : payOf w < 2 ^ 32 := Nat.mod_lt _ (by decide)

/-- A payload is its signed value modulo 2^32. -/
theorem intOf_modEq (w : TWord) : intOf w ≡ payOf w [ZMOD 2 ^ 32] := by
  rw [intOf_eq]
  split
  · exact Int.ModEq.refl _
  · exact Int.sub_emod_right _ _

theorem tword_mod (t n : Nat) : tword t (n % 2 ^ 32) = tword t n := by
  unfold tword
  rw [Nat.mod_mod]

/-- A signed value's word has the payload that is the value modulo 2^32. -/
theorem wNum_of_modEq {t n : Nat} {v : Int} (hv : v ≡ n [ZMOD 2 ^ 32]) : wNum t v = tword t n := by
  have hval : v % ((2 ^ 32 : Nat) : Int) = ((n % 2 ^ 32 : Nat) : Int) := by
    rw [Int.natCast_mod]
    exact hv
  rw [wNum, toTwos, hval, Int.toNat_natCast, tword_mod]

theorem wNum_add (t : Nat) (a b : TWord) : wNum t (intOf a + intOf b) = tword t (payOf a + payOf b) :=
  wNum_of_modEq (by rw [Nat.cast_add]; exact (intOf_modEq a).add (intOf_modEq b))

theorem wNum_sub (t : Nat) (a b : TWord) : wNum t (intOf a - intOf b) = tword t (payOf a + 2 ^ 32 - payOf b) := by
  have hcast : ((payOf a + 2 ^ 32 - payOf b : Nat) : Int) = (payOf a : Int) - payOf b + 2 ^ 32 := by
    have hb := payOf_lt b
    omega
  refine wNum_of_modEq ?_
  rw [hcast]
  exact ((intOf_modEq a).sub (intOf_modEq b)).trans (Int.modEq_add_fac_self (t := 1)).symm

theorem wNum_mul (t : Nat) (a b : TWord) : wNum t (intOf a * intOf b) = tword t (payOf a * payOf b) :=
  wNum_of_modEq (by rw [Nat.cast_mul]; exact (intOf_modEq a).mul (intOf_modEq b))

/-- INT and TICK wrap (R744). -/
theorem overflows_wrapping {t : Nat} (ht : t = 1 ∨ t = 4) (v : Int) : overflows t v = false := by
  rcases ht with rfl | rfl <;> rfl

/-- FIX and the quantities take what fits 32 bits (R744). -/
theorem overflows_bounded {t : Nat} (ht : t = 2 ∨ (8 ≤ t ∧ t ≤ 13)) (v : Int) : overflows t v = !fits32 v := by
  have h1 : (t == 1) = false := by simp; omega
  have h4 : (t == 4) = false := by simp; omega
  simp [overflows, h1, h4]

theorem fits32_clampS (v : Int) : fits32 (clampS 32 v) = true := by
  have hlow : clampS 32 v = if v < -(2 ^ 31) then -(2 ^ 31) else if v > 2 ^ 31 - 1 then 2 ^ 31 - 1 else v := rfl
  rw [fits32, hlow, Bool.and_eq_true, decide_eq_true_eq, decide_eq_true_eq]
  split_ifs <;> omega

/-- A word is its tag and its signed value. -/
theorem word_ext {a b : TWord} (htag : tagOf a = tagOf b) (hint : intOf a = intOf b) : a = b := by
  have hpay : payOf a = payOf b := by
    have ha := payOf_lt a
    have hb := payOf_lt b
    rw [intOf_eq, intOf_eq] at hint
    split_ifs at hint <;> omega
  apply BitVec.eq_of_toNat_eq
  rw [← Nat.div_add_mod a.toNat (2 ^ 32), ← Nat.div_add_mod b.toNat (2 ^ 32)]
  unfold tagOf at htag
  unfold payOf at hpay
  rw [htag, hpay]

/-- The bits that a row does not use, one by one (R750). -/
theorem unusedZero_iff {x used : Nat} (hused : used < 2 ^ 26) :
    unusedZero x used = true ↔ ∀ n < 26, used.testBit n = false → bit x n = false := by
  constructor
  · exact fun hzero n hn hbit => bit_of_unusedZero hzero hused hn hbit
  · intro hbits
    unfold unusedZero
    rw [beq_iff_eq]
    apply Nat.eq_of_testBit_eq
    intro n
    have hmask : 2 ^ 26 - 1 - used = 2 ^ 26 - (used + 1) := by omega
    rw [Nat.testBit_and, Nat.testBit_mod_two_pow, hmask, Nat.testBit_two_pow_sub_succ hused, Nat.zero_testBit]
    by_cases hn : n < 26
    · cases hbit : used.testBit n
      · have hclear := hbits n hn hbit
        rw [bit_eq_testBit] at hclear
        simp [hclear]
      · simp
    · simp [hn]

theorem unusedZero_mono {x used more : Nat} (hused : used < 2 ^ 26) (hmore : more < 2 ^ 26)
    (hsub : ∀ n < 26, more.testBit n = false → used.testBit n = false) (hu : unusedZero x used = true) :
    unusedZero x more = true :=
  (unusedZero_iff hmore).mpr fun n hn hbit => (unusedZero_iff hused).mp hu n hn (hsub n hn hbit)

/-- Where a row uses `m` bits of fn alone, these are all of it. -/
theorem xf_of_used {x used m : Nat} (hused : used < 2 ^ 26) (hm : ∀ n < 14, m ≤ n → used.testBit n = false)
    (hu : unusedZero x used = true) : xf x = x % 2 ^ m % 2 ^ 14 := by
  unfold xf fld
  rw [pow_zero, Nat.div_one]
  apply Nat.eq_of_testBit_eq
  intro n
  rw [Nat.testBit_mod_two_pow, Nat.testBit_mod_two_pow, Nat.testBit_mod_two_pow]
  by_cases hn : n < 14
  · by_cases hmn : n < m
    · simp [hmn]
    · have hclear := bit_of_unusedZero hu hused (by omega) (hm n hn (by omega))
      rw [bit_eq_testBit] at hclear
      simp [hclear]
  · simp [hn]

end Sys2Proof.Machine

/-! The arithmetic and logic rows, case by case (R742 to R746, R753). -/
namespace Sys2Proof.Machine

variable {s : State} {c x : Nat}

section
variable {kind t : Nat} (ha : tagOf (s.reg c (xa x)) ≠ 15) (hb : tagOf (s.reg c (xb x)) ≠ 15)
include ha hb

/-- What ADD, SUB and SATADD compute. -/
def sumOf (kind : Nat) (a b : TWord) : Int :=
  if kind = 2 then clampS 32 (if kind = 1 then intOf a - intOf b else intOf a + intOf b)
  else if kind = 1 then intOf a - intOf b else intOf a + intOf b

theorem State.skSum_of_tags (hu : unusedZero x (useD + useA + useB) = true)
    (htag : sumTag kind (tagOf (s.reg c (xa x))) (tagOf (s.reg c (xb x))) = some t) :
    s.skSum c x kind = s.skPut c x 1
      (if overflows t (sumOf kind (s.reg c (xa x)) (s.reg c (xb x))) = true then some 3 else none)
      (wNum t (sumOf kind (s.reg c (xa x)) (s.reg c (xb x)))) := by
  simp only [State.skSum, isPoison_false ha, isPoison_false hb, htag, hu]
  exact congrArg (fun o => s.skPut c x 1 o _) (trapOf_other _ _ _)

theorem State.skSum_mismatch (htag : sumTag kind (tagOf (s.reg c (xa x))) (tagOf (s.reg c (xb x))) = none) :
    s.skSum c x kind = .trap 1 0 := by
  simp only [State.skSum, isPoison_false ha, isPoison_false hb, htag]
  rfl

theorem State.skMul_of_tags {v : Int} (hu : unusedZero x (useD + useA + useB) = true)
    (hmul : mulOf (s.reg c (xa x)) (s.reg c (xb x)) = some (t, v)) :
    s.skMul c x = s.skPut c x 2 (if overflows t v = true then some 3 else none) (wNum t v) := by
  simp only [State.skMul, isPoison_false ha, isPoison_false hb, hmul, hu]
  exact congrArg (fun o => s.skPut c x 2 o _) (trapOf_other _ _ _)

theorem State.skLogic_mismatch (f : BitVec 32 → BitVec 32 → BitVec 32) (g : Bool → Bool → Bool)
    (hne : tagOf (s.reg c (xa x)) ≠ tagOf (s.reg c (xb x))) : s.skLogic c x f g = .trap 1 0 := by
  simp only [State.skLogic, isPoison_false ha, isPoison_false hb, beq_false_of_ne hne]
  rfl

theorem State.skCmp_mismatch (hne : tagOf (s.reg c (xa x)) ≠ tagOf (s.reg c (xb x))) : s.skCmp c x = .trap 1 0 := by
  simp only [State.skCmp, isPoison_false ha, isPoison_false hb, beq_false_of_ne hne]
  rfl

theorem State.skPick_mismatch (low : Bool) (hne : tagOf (s.reg c (xa x)) ≠ tagOf (s.reg c (xb x))) :
    s.skPick c x low = .trap 1 0 := by
  simp only [State.skPick, isPoison_false ha, isPoison_false hb, beq_false_of_ne hne]
  rfl

end

section
variable (hpoison : tagOf (s.reg c (xa x)) = 15 ∨ tagOf (s.reg c (xb x)) = 15)
include hpoison

theorem isPoison_either : (isPoison (s.reg c (xa x)) || isPoison (s.reg c (xb x))) = true := by
  rcases hpoison with ha | hb
  · simp [isPoison, ha]
  · simp [isPoison, hb]

/-- POISON_USE comes before every other trap of the two-operand rows (R746, R747). -/
theorem State.skPoison (f : BitVec 32 → BitVec 32 → BitVec 32) (g : Bool → Bool → Bool) (kind : Nat) (low : Bool) :
    s.skSum c x kind = .trap 2 0 ∧ s.skMul c x = .trap 2 0 ∧ s.skDiv c x = .trap 2 0 ∧ s.skScl c x = .trap 2 0 ∧
      s.skCmp c x = .trap 2 0 ∧ s.skLogic c x f g = .trap 2 0 ∧ s.skPick c x low = .trap 2 0 := by
  have heither := isPoison_either hpoison
  simp only [State.skSum, State.skMul, State.skDiv, State.skScl, State.skCmp, State.skLogic, State.skPick, heither]
  exact ⟨rfl, rfl, rfl, rfl, rfl, rfl, rfl⟩

end

/-- SCL: the product shifted right. -/
theorem State.skScl_of_tags (hu : unusedZero x (useD + useA + useB + 31) = true)
    (ha : 8 ≤ tagOf (s.reg c (xa x)) ∧ tagOf (s.reg c (xa x)) ≤ 13) (hb : tagOf (s.reg c (xb x)) = 1) :
    s.skScl c x = s.skPut c x 2
      (if fits32 (intOf (s.reg c (xa x)) * intOf (s.reg c (xb x)) / 2 ^ xf x) = true then none else some 3)
      (wNum (tagOf (s.reg c (xa x))) (intOf (s.reg c (xa x)) * intOf (s.reg c (xb x)) / 2 ^ xf x)) := by
  have hfn : fld x 0 5 = xf x := by
    rw [xf_of_used (m := 5) (by decide) (by decide) hu, fld, pow_zero, Nat.div_one]
    omega
  have hpow : ((2 ^ fld x 0 5 : Nat) : Int) = 2 ^ xf x := by rw [hfn, Nat.cast_pow, Nat.cast_ofNat]
  have hqty : isQty (tagOf (s.reg c (xa x))) = true := isQty_iff.mpr ha
  have hpa : isPoison (s.reg c (xa x)) = false := isPoison_false (by omega)
  have hpb : isPoison (s.reg c (xb x)) = false := isPoison_false (by omega)
  simp only [State.skScl, hpa, hpb, hqty, hb, hu, hpow, overflows_bounded (.inr ha), Bool.or_true, beq_self_eq_true, Bool.and_self]
  refine congrArg (fun o => s.skPut c x 2 o _) ((trapOf_other _ _ _).trans ?_)
  cases fits32 (intOf (s.reg c (xa x)) * intOf (s.reg c (xb x)) / 2 ^ xf x) <;> rfl

/-- ABS overflows on the least value alone. -/
theorem State.skAbs_of_tag (hu : unusedZero x (useD + useA) = true)
    (ha : tagOf (s.reg c (xa x)) = 2 ∨ (8 ≤ tagOf (s.reg c (xa x)) ∧ tagOf (s.reg c (xa x)) ≤ 13)) :
    s.skAbs c x = s.skPut c x 1 (if intOf (s.reg c (xa x)) = -(2 ^ 31) then some 3 else none)
      (wNum (tagOf (s.reg c (xa x))) (intOf (s.reg c (xa x))).natAbs) := by
  have hpa : isPoison (s.reg c (xa x)) = false := isPoison_false (by omega)
  have htag : (tagOf (s.reg c (xa x)) == 1 || tagOf (s.reg c (xa x)) == 2 || isQty (tagOf (s.reg c (xa x)))) = true := by
    rcases ha with ha | ha
    · simp [ha]
    · simp [isQty_iff.mpr ha]
  have hfits : (!fits32 ((intOf (s.reg c (xa x))).natAbs : Int)) = decide (intOf (s.reg c (xa x)) = -(2 ^ 31)) := by
    have hrange := payOf_lt (s.reg c (xa x))
    rw [Bool.eq_iff_iff, Bool.not_eq_true', fits32, Bool.and_eq_false_iff, decide_eq_false_iff_not, decide_eq_false_iff_not,
      decide_eq_true_eq]
    rw [intOf_eq]
    split <;> omega
  simp only [State.skAbs, hpa, htag, hu, overflows_bounded ha, hfits]
  refine congrArg (fun o => s.skPut c x 1 o _) ((trapOf_other _ _ _).trans ?_)
  by_cases hmin : intOf (s.reg c (xa x)) = -(2 ^ 31) <;> simp [hmin]

/-- A comparison of two numbers of one tag, by its condition. -/
theorem State.skCmp_of_tags (hu : unusedZero x (useD + useA + useB + 7) = true) (htags : tagOf (s.reg c (xa x)) = tagOf (s.reg c (xb x)))
    (ht : tagOf (s.reg c (xa x)) = 1 ∨ tagOf (s.reg c (xa x)) = 2 ∨ (8 ≤ tagOf (s.reg c (xa x)) ∧ tagOf (s.reg c (xa x)) ≤ 13)) :
    s.skCmp c x = s.skPut c x 1 (if 6 ≤ xf x then some 7 else none)
      (wBool (condOf (xf x) (intOf (s.reg c (xa x)) - intOf (s.reg c (xb x))))) := by
  have hfn : fld x 0 3 = xf x := by
    rw [xf_of_used (m := 3) (by decide) (by decide) hu, fld, pow_zero, Nat.div_one]
    omega
  have hpa : isPoison (s.reg c (xa x)) = false := isPoison_false (by omega)
  have hpb : isPoison (s.reg c (xb x)) = false := isPoison_false (by omega)
  have hnum : isNum (tagOf (s.reg c (xb x))) = true := by
    rw [← htags, isNum]
    rcases ht with ht | ht | ht
    · simp [ht]
    · simp [ht]
    · simp [isQty_iff.mpr ht]
  have hcmp : cmpOf (s.reg c (xa x)) (s.reg c (xb x)) = intOf (s.reg c (xa x)) - intOf (s.reg c (xb x)) :=
    if_neg (by omega)
  simp only [State.skCmp, hpa, hpb, htags, hnum, hu, hfn, hcmp, beq_self_eq_true]
  refine congrArg (fun o => s.skPut c x 1 o _) ?_
  by_cases hk : 6 ≤ xf x
  · simp [hk, trapOf_one (k := 7)]
  · simp [hk, trapOf_none]

/-- The conditions on a difference are those on its sides. -/
theorem condOf_sub (k : Nat) (a b : Int) : condOf k (a - b) = match k with
    | 0 => a == b
    | 1 => a != b
    | 2 => decide (a < b)
    | 3 => decide (a ≤ b)
    | 4 => decide (b < a)
    | _ => decide (b ≤ a) := by
  have heq : (a - b == 0) = (a == b) := by rw [Bool.eq_iff_iff, beq_iff_eq, beq_iff_eq]; omega
  match k with
  | 0 => exact heq
  | 1 => exact congrArg (!·) heq
  | 2 => exact decide_eq_decide.mpr (by omega)
  | 3 => exact decide_eq_decide.mpr (by omega)
  | 4 => exact decide_eq_decide.mpr (by omega)
  | _ + 5 => exact decide_eq_decide.mpr (by omega)

section
variable (hu : unusedZero x (useD + useA + useB) = true) (htags : tagOf (s.reg c (xa x)) = tagOf (s.reg c (xb x)))
include hu htags

/-- AND, OR and XOR of two INT words. -/
theorem State.skLogic_int (f : BitVec 32 → BitVec 32 → BitVec 32) (g : Bool → Bool → Bool) (ha : tagOf (s.reg c (xa x)) = 1) :
    s.skLogic c x f g = s.skPut c x 1 none
      (wInt (f (BitVec.ofNat 32 (payOf (s.reg c (xa x)))) (BitVec.ofNat 32 (payOf (s.reg c (xb x))))).toNat) := by
  have hb : tagOf (s.reg c (xb x)) = 1 := htags ▸ ha
  simp [State.skLogic, isPoison, ha, hb, hu, trapOf_none]

/-- AND, OR and XOR of two BOOL words. -/
theorem State.skLogic_bool (f : BitVec 32 → BitVec 32 → BitVec 32) (g : Bool → Bool → Bool) (ha : tagOf (s.reg c (xa x)) = 3) :
    s.skLogic c x f g = s.skPut c x 1 none
      (wBool (g (payOf (s.reg c (xa x)) != 0) (payOf (s.reg c (xb x)) != 0))) := by
  have hb : tagOf (s.reg c (xb x)) = 3 := htags ▸ ha
  simp [State.skLogic, isPoison, ha, hb, hu, trapOf_none]

/-- MIN and MAX take one of the two words, of equal ones either. -/
theorem State.skPick_of_tags (ht : tagOf (s.reg c (xa x)) = 2 ∨ (8 ≤ tagOf (s.reg c (xa x)) ∧ tagOf (s.reg c (xa x)) ≤ 13)) :
    s.skMin c x = s.skPut c x 1 none
      (if intOf (s.reg c (xa x)) ≤ intOf (s.reg c (xb x)) then s.reg c (xa x) else s.reg c (xb x)) ∧
    s.skMax c x = s.skPut c x 1 none
      (if intOf (s.reg c (xb x)) ≤ intOf (s.reg c (xa x)) then s.reg c (xa x) else s.reg c (xb x)) := by
  have hpa : isPoison (s.reg c (xa x)) = false := isPoison_false (by omega)
  have hpb : isPoison (s.reg c (xb x)) = false := isPoison_false (by omega)
  have hnum : isNum (tagOf (s.reg c (xa x))) = true := by
    rw [isNum]
    rcases ht with ht | ht
    · simp [ht]
    · simp [isQty_iff.mpr ht]
  have hcmp : cmpOf (s.reg c (xa x)) (s.reg c (xb x)) = intOf (s.reg c (xa x)) - intOf (s.reg c (xb x)) :=
    if_neg (by omega)
  have hpick (low : Bool) : s.skPick c x low = s.skPut c x 1 none
      (if decide (intOf (s.reg c (xa x)) - intOf (s.reg c (xb x)) < 0) == low then s.reg c (xa x) else s.reg c (xb x)) := by
    simp [State.skPick, hpa, hpb, ← htags, hnum, hu, hcmp, trapOf_none]
  refine ⟨(hpick true).trans (congrArg (s.skPut c x 1 none) ?_), (hpick false).trans (congrArg (s.skPut c x 1 none) ?_)⟩
  · rcases lt_trichotomy (intOf (s.reg c (xa x))) (intOf (s.reg c (xb x))) with h | h | h
    · rw [if_pos (by simp; omega), if_pos (by omega)]
    · rw [word_ext htags h, ite_self, ite_self]
    · rw [if_neg (by simp; omega), if_neg (by omega)]
  · by_cases h : intOf (s.reg c (xb x)) ≤ intOf (s.reg c (xa x))
    · rw [if_pos (by simp; omega), if_pos h]
    · rw [if_neg (by simp; omega), if_neg h]

end

/-- NOT of an INT and of a BOOL. -/
theorem State.skNot_eq (hu : unusedZero x (useD + useA) = true) :
    (tagOf (s.reg c (xa x)) = 1 → s.skNot c x = s.skPut c x 1 none (tword 1 (2 ^ 32 - 1 - payOf (s.reg c (xa x))))) ∧
    (tagOf (s.reg c (xa x)) = 3 → s.skNot c x = s.skPut c x 1 none (wBool (payOf (s.reg c (xa x)) == 0))) := by
  have hnot : (~~~ (BitVec.ofNat 32 (payOf (s.reg c (xa x))))).toNat = 2 ^ 32 - 1 - payOf (s.reg c (xa x)) := by
    rw [BitVec.toNat_not, BitVec.toNat_ofNat, Nat.mod_eq_of_lt (payOf_lt _)]
  refine ⟨fun ha => ?_, fun ha => ?_⟩
  · simp only [State.skNot, isPoison, ha, hu, hnot]
    rfl
  · simp only [State.skNot, isPoison, ha, hu]
    rfl

/-- The shifts of an INT (R753). -/
theorem State.skShift_eq {k : Nat} (hk : k < 32) (ha : tagOf (s.reg c (xa x)) = 1) :
    (unusedZero x (useD + useA + 31) = true → xf x = k →
      s.skShl c x = s.skPut c x 1 none (tword 1 (payOf (s.reg c (xa x)) * 2 ^ k)) ∧
      s.skShr c x = s.skPut c x 1 none (wNum 1 (intOf (s.reg c (xa x)) / 2 ^ k))) ∧
    (unusedZero x (useD + useA + 63) = true → xf x = 32 + k →
      s.skShr c x = s.skPut c x 1 none (tword 1 (payOf (s.reg c (xa x)) / 2 ^ k))) := by
  have hpa : isPoison (s.reg c (xa x)) = false := isPoison_false (by omega)
  have hbit5 : bit x 5 = decide (xf x / 32 % 2 = 1) := by
    rw [bit, xf, fld, pow_zero, Nat.div_one, beq_eq_decide]
    exact decide_eq_decide.mpr (by omega)
  have hlow : fld x 0 5 = xf x % 32 := by
    rw [xf, fld, fld, pow_zero, Nat.div_one]
    omega
  refine ⟨fun hu hf => ?_, fun hu hf => ?_⟩
  · have hu' : unusedZero x (useD + useA + 63) = true := unusedZero_mono (by decide) (by decide) (by decide) hu
    have hfn : fld x 0 5 = k := by omega
    have hno : bit x 5 = false := by rw [hbit5, hf]; exact decide_eq_false (by omega)
    have hpow : ((2 ^ k : Nat) : Int) = 2 ^ k := by rw [Nat.cast_pow, Nat.cast_ofNat]
    refine ⟨?_, ?_⟩
    · simp only [State.skShl, hpa, ha, hu, hfn]
      rfl
    · simp only [State.skShr, hpa, ha, hu', hfn, hno, hpow]
      rfl
  · have hfn : fld x 0 5 = k := by omega
    have hyes : bit x 5 = true := by rw [hbit5, hf]; exact decide_eq_true (by omega)
    simp only [State.skShr, hpa, ha, hu, hfn, hyes]
    rfl

end Sys2Proof.Machine

/-! The operand tags of the sums and products (R742), as the model looks them up, and the settled statement. -/
namespace Sys2Proof
open Machine

/-- Two words of one numeric tag other than TICK have a sum of that tag. -/
theorem sumTag_same (kind : Nat) {t : Nat} (ht : t = 1 ∨ t = 2 ∨ (8 ≤ t ∧ t ≤ 13)) : sumTag kind t t = some t := by
  have hnum : isNum t = true := by
    rw [isNum]
    rcases ht with ht | ht | ht
    · simp [ht]
    · simp [ht]
    · simp [isQty_iff.mpr ht]
  rw [sumTag, if_neg (by omega), if_pos ⟨rfl, hnum⟩]

theorem sumTag_ne (kind : Nat) {ta tb : Nat} (hne : ta ≠ tb) (htick : ta ≠ 4) : sumTag kind ta tb = none := by
  rw [sumTag, if_neg (by omega), if_neg (by omega), if_neg (by omega)]

/-- The tags of a product with a quantity (R742). -/
theorem mulOf_quantity {a b : TWord} (ha : 8 ≤ tagOf a ∧ tagOf a ≤ 13) :
    (tagOf b = 1 → mulOf a b = some (tagOf a, intOf a * intOf b)) ∧
    (tagOf b = 2 → mulOf a b = some (tagOf a, intOf a * intOf b / 65536)) := by
  have hqty : isQty (tagOf a) = true := isQty_iff.mpr ha
  refine ⟨fun hb => ?_, fun hb => ?_⟩
  · simp only [mulOf, hqty, hb, and_self, if_true]
  · simp [mulOf, hqty, hb]

section
variable {s : Machine.State} {c : Nat} {x : BitVec 26} (hruns : CoreRuns s c)
include hruns

/-- A row that sets gd where its result fits, and else traps OVERFLOW. -/
theorem coreSets_of_fits {i : Instr} {op n : Nat} {v : Int} {w : TWord} {t : Nat} (hrow : IsRow i c op x)
    (ht : t = 2 ∨ (8 ≤ t ∧ t ≤ 13))
    (hx : s.skExec c op x.toNat = s.skPut c x.toNat n (if overflows t v = true then some 3 else none) w) :
    if fits32 v then CoreSets i s c x w n else CoreTraps i s c op x 3 := by
  refine coreSets_or_traps hruns hrow (hx.trans (congrArg (fun o => s.skPut c x.toNat n o w) ?_))
  rw [overflows_bounded ht]
  cases fits32 v <;> rfl

/-- A row whose result cannot overflow. -/
theorem coreSets_of_wraps {i : Instr} {op n : Nat} {v : Int} {w w' : TWord} {t : Nat} (hrow : IsRow i c op x)
    (hover : overflows t v = false) (hw : w = w')
    (hx : s.skExec c op x.toNat = s.skPut c x.toNat n (if overflows t v = true then some 3 else none) w) :
    CoreSets i s c x w' n := by
  rw [hover, if_neg (by decide), hw] at hx
  exact coreSets_of_put hruns hrow hx

end

/-- Settles O53: each row is its case of the lemmas `State.sk…` above, and its word the one that `wNum_of_modEq` names; what a tag
pair gives is looked up in `sumTag` and `mulOf`. -/
theorem stokerArithmetic : Obligations.StokerArithmetic := by
  unfold Obligations.StokerArithmetic
  refine ⟨?ints, ?numbers, ?ticks, ?products, ?scaled, ?abs, ?cmp, ?bools, ?nots, ?shifts, ?poison, ?mismatch⟩
  case ints =>
    intro s c x hruns hu ha hb
    have hpa : tagOf (wordA s c x) ≠ 15 := by omega
    have hpb : tagOf (wordB s c x) ≠ 15 := by omega
    have htag (kind : Nat) : sumTag kind (tagOf (wordA s c x)) (tagOf (wordB s c x)) = some 1 := by
      rw [ha, hb]
      exact sumTag_same kind (.inl rfl)
    have hmul : mulOf (wordA s c x) (wordB s c x) = some (1, intOf (wordA s c x) * intOf (wordB s c x)) := by
      simp [mulOf, ha, hb, isQty]
    have hpay (w : TWord) : (BitVec.ofNat 32 (payOf w)).toNat = payOf w :=
      (BitVec.toNat_ofNat _ _).trans (Nat.mod_eq_of_lt (payOf_lt w))
    have hsame : tagOf (wordA s c x) = tagOf (wordB s c x) := ha.trans hb.symm
    refine ⟨?_, ?_, ?_, ?_, ?_, ?_⟩
    · exact coreSets_of_wraps hruns (op := 5) (fun _ => rfl) (overflows_wrapping (.inl rfl) _) (wNum_add 1 _ _)
        (State.skSum_of_tags hpa hpb hu (htag 0))
    · exact coreSets_of_wraps hruns (op := 6) (fun _ => rfl) (overflows_wrapping (.inl rfl) _) (wNum_sub 1 _ _)
        (State.skSum_of_tags hpa hpb hu (htag 1))
    · exact coreSets_of_wraps hruns (op := 7) (fun _ => rfl) (overflows_wrapping (.inl rfl) _) (wNum_mul 1 _ _)
        (State.skMul_of_tags hpa hpb hu hmul)
    · have hand : (BitVec.ofNat 32 (payOf (wordA s c x)) &&& BitVec.ofNat 32 (payOf (wordB s c x))).toNat =
          payOf (wordA s c x) &&& payOf (wordB s c x) := by rw [BitVec.toNat_and, hpay, hpay]
      exact coreSets_of_put hruns (op := 0xB) (fun _ => rfl) ((State.skLogic_int hu hsame (· &&& ·) (fun p q => p && q) ha).trans
        (congrArg (fun n => s.skPut c x.toNat 1 none (wInt n)) hand))
    · have hor : (BitVec.ofNat 32 (payOf (wordA s c x)) ||| BitVec.ofNat 32 (payOf (wordB s c x))).toNat =
          payOf (wordA s c x) ||| payOf (wordB s c x) := by rw [BitVec.toNat_or, hpay, hpay]
      exact coreSets_of_put hruns (op := 0xC) (fun _ => rfl) ((State.skLogic_int hu hsame (· ||| ·) (fun p q => p || q) ha).trans
        (congrArg (fun n => s.skPut c x.toNat 1 none (wInt n)) hor))
    · have hxor : (BitVec.ofNat 32 (payOf (wordA s c x)) ^^^ BitVec.ofNat 32 (payOf (wordB s c x))).toNat =
          payOf (wordA s c x) ^^^ payOf (wordB s c x) := by rw [BitVec.toNat_xor, hpay, hpay]
      exact coreSets_of_put hruns (op := 0xD) (fun _ => rfl) ((State.skLogic_int hu hsame (· ^^^ ·) (fun p q => p != q) ha).trans
        (congrArg (fun n => s.skPut c x.toNat 1 none (wInt n)) hxor))
  case numbers =>
    rintro s c t x hruns hu rfl hb ht
    have hpa : tagOf (wordA s c x) ≠ 15 := by omega
    have hpb : tagOf (wordB s c x) ≠ 15 := by omega
    have htag (kind : Nat) : sumTag kind (tagOf (wordA s c x)) (tagOf (wordB s c x)) = some (tagOf (wordA s c x)) := by
      rw [hb]
      exact sumTag_same kind (.inr ht)
    obtain ⟨hmin, hmax⟩ := State.skPick_of_tags (s := s) (c := c) (x := x.toNat) hu hb.symm ht
    refine ⟨?_, ?_, ?_, ?_, ?_⟩
    · exact coreSets_of_fits hruns (op := 5) (fun _ => rfl) ht (State.skSum_of_tags hpa hpb hu (htag 0))
    · exact coreSets_of_fits hruns (op := 6) (fun _ => rfl) ht (State.skSum_of_tags hpa hpb hu (htag 1))
    · refine coreSets_of_wraps hruns (op := 0x26) (fun _ => rfl) ?_ rfl (State.skSum_of_tags hpa hpb hu (htag 2))
      rw [overflows_bounded ht, sumOf, if_pos rfl, fits32_clampS]
      rfl
    · exact coreSets_of_put hruns (op := 0x11) (fun _ => rfl) hmin
    · exact coreSets_of_put hruns (op := 0x12) (fun _ => rfl) hmax
  case ticks =>
    intro s c x hruns hu ha
    have hpa : tagOf (wordA s c x) ≠ 15 := by omega
    refine ⟨fun hb => ⟨?_, ?_⟩, fun hb => ⟨?_, ?_⟩⟩
    · have htag : sumTag 0 (tagOf (wordA s c x)) (tagOf (wordB s c x)) = some 4 := by rw [ha, hb]; rfl
      exact coreSets_of_wraps hruns (op := 5) (fun _ => rfl) (overflows_wrapping (.inr rfl) _) (wNum_add 4 _ _)
        (State.skSum_of_tags hpa (by rw [wordB] at hb; omega) hu htag)
    · have htag : sumTag 1 (tagOf (wordA s c x)) (tagOf (wordB s c x)) = some 4 := by rw [ha, hb]; rfl
      exact coreSets_of_wraps hruns (op := 6) (fun _ => rfl) (overflows_wrapping (.inr rfl) _) (wNum_sub 4 _ _)
        (State.skSum_of_tags hpa (by rw [wordB] at hb; omega) hu htag)
    · have htag : sumTag 0 (tagOf (wordA s c x)) (tagOf (wordB s c x)) = none := by rw [ha, hb]; rfl
      exact gives_of_trap hruns (op := 5) (fun _ => rfl)
        (State.skSum_mismatch hpa (by rw [wordB] at hb; omega) htag)
    · have htag : sumTag 1 (tagOf (wordA s c x)) (tagOf (wordB s c x)) = some 1 := by rw [ha, hb]; rfl
      exact coreSets_of_wraps hruns (op := 6) (fun _ => rfl) (overflows_wrapping (.inl rfl) _) (wNum_sub 1 _ _)
        (State.skSum_of_tags hpa (by rw [wordB] at hb; omega) hu htag)
  case products =>
    rintro s c t x hruns hu rfl hlow hhigh
    obtain ⟨hint, hfix⟩ := mulOf_quantity (a := wordA s c x) (b := wordB s c x) ⟨hlow, hhigh⟩
    have hpa : tagOf (wordA s c x) ≠ 15 := by omega
    refine ⟨fun hb => ?_, fun hb => ?_⟩
    · exact coreSets_of_fits hruns (op := 7) (fun _ => rfl) (.inr ⟨hlow, hhigh⟩)
        (State.skMul_of_tags hpa (by rw [wordB] at hb; omega) hu (hint hb))
    · exact coreSets_of_fits hruns (op := 7) (fun _ => rfl) (.inr ⟨hlow, hhigh⟩)
        (State.skMul_of_tags hpa (by rw [wordB] at hb; omega) hu (hfix hb))
  case scaled =>
    rintro s c t k x hruns hu rfl rfl hlow hhigh hb
    exact coreSets_or_traps hruns (op := 9) (fun _ => rfl) (State.skScl_of_tags hu ⟨hlow, hhigh⟩ hb)
  case abs =>
    rintro s c t x hruns hu rfl ht
    have habs := State.skAbs_of_tag (s := s) (c := c) (x := x.toNat) hu ht
    unfold wordA
    split
    · next hmin => exact coreTraps_of_put hruns (op := 0x13) (fun _ => rfl) (by rw [if_pos hmin] at habs; exact habs)
    · next hmin => exact coreSets_of_put hruns (op := 0x13) (fun _ => rfl) (by rw [if_neg hmin] at habs; exact habs)
  case cmp =>
    rintro s c t k x hruns hu rfl rfl hb ht
    have hcmp := State.skCmp_of_tags (s := s) (c := c) (x := x.toNat) hu hb.symm ht
    rw [condOf_sub] at hcmp
    refine ⟨fun hk => ?_, fun hk => ?_⟩
    · rw [if_neg (by omega)] at hcmp
      exact coreSets_of_put hruns (op := 0xA) (fun _ => rfl) hcmp
    · rw [if_pos hk] at hcmp
      exact coreTraps_of_put hruns (op := 0xA) (fun _ => rfl) hcmp
  case bools =>
    intro s c x hruns hu ha hb
    have hsame : tagOf (wordA s c x) = tagOf (wordB s c x) := ha.trans hb.symm
    exact ⟨coreSets_of_put hruns (op := 0xB) (fun _ => rfl) (State.skLogic_bool hu hsame _ _ ha),
      coreSets_of_put hruns (op := 0xC) (fun _ => rfl) (State.skLogic_bool hu hsame _ _ ha),
      coreSets_of_put hruns (op := 0xD) (fun _ => rfl) (State.skLogic_bool hu hsame _ _ ha)⟩
  case nots =>
    intro s c x hruns hu
    obtain ⟨hint, hbool⟩ := State.skNot_eq (s := s) (c := c) (x := x.toNat) hu
    exact ⟨fun ha => coreSets_of_put hruns (op := 0xE) (fun _ => rfl) (hint ha),
      fun ha => coreSets_of_put hruns (op := 0xE) (fun _ => rfl) (hbool ha)⟩
  case shifts =>
    intro s c k x hruns hk ha
    obtain ⟨hleft, hright⟩ := State.skShift_eq (s := s) (c := c) (x := x.toNat) hk ha
    exact ⟨fun hu hf => ⟨coreSets_of_put hruns (op := 0xF) (fun _ => rfl) (hleft hu hf).1,
        coreSets_of_put hruns (op := 0x10) (fun _ => rfl) (hleft hu hf).2⟩,
      fun hu hf => coreSets_of_put hruns (op := 0x10) (fun _ => rfl) (hright hu hf)⟩
  case poison =>
    intro s c x hruns hp
    have hsk (f g) (kind : Nat) (low : Bool) := State.skPoison (s := s) (c := c) (x := x.toNat) hp f g kind low
    obtain ⟨hadd, hmul, hdiv, hscl, hcmp, hand, hmin⟩ := hsk (· &&& ·) (fun p q => p && q) 0 true
    obtain ⟨hsub, -, -, -, -, hor, hmax⟩ := hsk (· ||| ·) (fun p q => p || q) 1 false
    obtain ⟨hsat, -, -, -, -, hxor, -⟩ := hsk (· ^^^ ·) (fun p q => p != q) 2 false
    exact ⟨gives_of_trap hruns (op := 5) (fun _ => rfl) hadd, gives_of_trap hruns (op := 6) (fun _ => rfl) hsub,
      gives_of_trap hruns (op := 0x26) (fun _ => rfl) hsat, gives_of_trap hruns (op := 7) (fun _ => rfl) hmul,
      gives_of_trap hruns (op := 8) (fun _ => rfl) hdiv, gives_of_trap hruns (op := 9) (fun _ => rfl) hscl,
      gives_of_trap hruns (op := 0xA) (fun _ => rfl) hcmp, gives_of_trap hruns (op := 0xB) (fun _ => rfl) hand,
      gives_of_trap hruns (op := 0xC) (fun _ => rfl) hor, gives_of_trap hruns (op := 0xD) (fun _ => rfl) hxor,
      gives_of_trap hruns (op := 0x11) (fun _ => rfl) hmin, gives_of_trap hruns (op := 0x12) (fun _ => rfl) hmax⟩
  case mismatch =>
    intro s c x hruns hne htick ha hb
    have hsum (kind : Nat) := State.skSum_mismatch (s := s) (c := c) (x := x.toNat) ha hb (sumTag_ne kind hne htick)
    have hlogic (f g) := State.skLogic_mismatch (s := s) (c := c) (x := x.toNat) ha hb f g hne
    have hpick (low : Bool) := State.skPick_mismatch (s := s) (c := c) (x := x.toNat) ha hb low hne
    exact ⟨gives_of_trap hruns (op := 5) (fun _ => rfl) (hsum 0), gives_of_trap hruns (op := 6) (fun _ => rfl) (hsum 1),
      gives_of_trap hruns (op := 0x26) (fun _ => rfl) (hsum 2),
      gives_of_trap hruns (op := 0xA) (fun _ => rfl) (State.skCmp_mismatch ha hb hne),
      gives_of_trap hruns (op := 0xB) (fun _ => rfl) (hlogic _ _), gives_of_trap hruns (op := 0xC) (fun _ => rfl) (hlogic _ _),
      gives_of_trap hruns (op := 0xD) (fun _ => rfl) (hlogic _ _), gives_of_trap hruns (op := 0x11) (fun _ => rfl) (hpick true),
      gives_of_trap hruns (op := 0x12) (fun _ => rfl) (hpick false)⟩

end Sys2Proof

/-! How a slice ends, and how a core starts (R57, R739, R766, R767, R770, R772). -/
namespace Sys2Proof.Machine

variable (s : State) (c : Nat)

/-- What the slices of a core speak of: the core, STK.STAT and STK.CFG. -/
def State.stoker (c : Nat) : Core × Nat × Nat := (s.core c, s.p (stkStat c), s.p (stkCfg c))

theorem State.stkState_of_p {s t : State} {c : Nat} (h : t.p (stkStat c) = s.p (stkStat c)) : t.stkState c = s.stkState c := by
  unfold State.stkState State.pf
  rw [h]

/-- Parameter words are none of a core's. -/
theorem State.setPf_core (s : State) (a lo wid v d : Nat) : (s.setPf a lo wid v).core d = s.core d := by
  rw [State.core, State.setPf_cores, State.core]

theorem State.incPf_core (s : State) (a lo wid d : Nat) : (s.incPf a lo wid).core d = s.core d := by
  rw [State.core, State.incPf_cores, State.core]

theorem State.skEnd_core : (s.skEnd c).core c = { s.core c with slice := false } := by
  rw [State.skEnd, State.updCore_same, State.setPf_core, State.setPf_core]

theorem State.skEnd_core_other {d : Nat} (hd : d ≠ c) : (s.skEnd c).core d = s.core d := by
  rw [State.skEnd, State.updCore_other _ _ hd, State.setPf_core, State.setPf_core]

/-- The slice's cycles, and the longest slice (R772). -/
theorem State.skEnd_cycles (hfits : (s.core c).cycles < 2 ^ 19) :
    (s.skEnd c).pf (0x3803 + 8 * c) 0 19 = (s.core c).cycles ∧
    (s.skEnd c).pf (0x3804 + 8 * c) 0 19 = Nat.max (s.core c).cycles (s.pf (0x3804 + 8 * c) 0 19) := by
  have hmin : Nat.min (s.core c).cycles (2 ^ 19 - 1) = (s.core c).cycles := Nat.min_eq_left (by omega)
  have hold : s.pf (0x3804 + 8 * c) 0 19 < 2 ^ 19 := Nat.mod_lt _ (by decide)
  have hmax : Nat.max (s.core c).cycles (s.pf (0x3804 + 8 * c) 0 19) < 2 ^ 19 := Nat.max_lt.mpr ⟨hfits, hold⟩
  unfold State.skEnd
  dsimp only
  rw [hmin, State.updCore_pf, State.updCore_pf]
  refine ⟨?_, ?_⟩
  · rw [State.pf, State.p_setPf_other _ _ _ _ (by omega), ← State.pf, State.pf_setPf_same _ _ _ _ _ (by decide)]
    exact Nat.mod_eq_of_lt hfits
  · rw [State.pf_setPf_same _ _ _ _ _ (by decide)]
    exact Nat.mod_eq_of_lt hmax

/-- A slice that ends without a halt or a step (R770). -/
theorem State.skYield_plain (hhalt : (s.core c).haltDue = false) (hsteps : (s.core c).steps = none) :
    s.skYield c = (s.skEnd c).updCore c (fun k => { k with haltDue := false, steps := none }) := by
  unfold State.skYield
  dsimp only
  rw [if_neg (by simp [hhalt, hsteps])]

theorem State.skYield_frame' (hhalt : (s.core c).haltDue = false) (hsteps : (s.core c).steps = none) :
    (s.skYield c).core c = { s.core c with slice := false, haltDue := false, steps := none } ∧
    (∀ d, d ≠ c → (s.skYield c).core d = s.core d) ∧
    (∀ a, a ≠ 0x3803 + 8 * c → a ≠ 0x3804 + 8 * c → (s.skYield c).p a = s.p a) ∧
    (∀ a l w, (s.skYield c).pf a l w = (s.skEnd c).pf a l w) := by
  rw [s.skYield_plain c hhalt hsteps]
  refine ⟨?_, fun d hd => ?_, fun a hcyc hmax => ?_, fun a l w => State.updCore_pf _ _ _ _ _ _⟩
  · rw [State.updCore_same, State.skEnd_core]
  · rw [State.updCore_other _ _ hd, State.skEnd_core_other _ _ hd]
  · rw [State.updCore_p, s.skEnd_p_other c hcyc hmax]

/-- A core that starts runs from ENTRY, VOID but for its data memory (R739, R766). -/
theorem State.skStart_core : (s.skStart c).core c = { s.core c with
    regs := [], rstack := [], pc := s.pf (stkCfg c) 0 13, startDue := false, runDue := false, haltDue := false } := by
  rw [State.skStart, State.setPf_core, State.updCore_same]

theorem State.skStart_p_other {a : Nat} (ha : a ≠ stkStat c) : (s.skStart c).p a = s.p a := State.p_setPf_other _ _ _ _ ha

theorem State.skStart_core_other {d : Nat} (hd : d ≠ c) : (s.skStart c).core d = s.core d := by
  rw [State.skStart, State.setPf_core, State.updCore_other _ _ hd]

theorem State.skStart_state : (s.skStart c).stkState c = 2 := State.pf_setPf_same _ _ _ _ _ (by decide)

/-- Starting a core leaves every other. -/
theorem State.skStart_stoker {d : Nat} (hd : d ≠ c) : (s.skStart c).stoker d = s.stoker d := by
  unfold State.stoker
  rw [s.skStart_core_other c hd, s.skStart_p_other c (by unfold stkStat; omega), s.skStart_p_other c (by unfold stkStat stkCfg; omega)]

theorem State.skRestart_p_other {a : Nat} (ha : a ≠ stkStat c) : (s.skRestart c).p a = s.p a :=
  (State.p_setPf_other _ _ _ _ ha).trans (s.skStart_p_other c ha)

theorem State.skRestart_core (d : Nat) : (s.skRestart c).core d = (s.skStart c).core d :=
  State.incPf_core _ _ _ _ _

theorem State.skRestart_stoker {d : Nat} (hd : d ≠ c) : (s.skRestart c).stoker d = s.stoker d := by
  unfold State.stoker
  rw [s.skRestart_core, s.skStart_core_other c hd, s.skRestart_p_other c (by unfold stkStat; omega),
    s.skRestart_p_other c (by unfold stkStat stkCfg; omega)]

/-- A restart counts among the consecutive ones (R767). -/
theorem State.skRestart_stat : (s.skRestart c).stkState c = 2 ∧
    (s.skRestart c).pf (stkStat c) 8 3 = Nat.min (s.pf (stkStat c) 8 3 + 1) 7 := by
  have hcount : (s.skStart c).pf (stkStat c) 8 3 = s.pf (stkStat c) 8 3 := State.pf_setPf_above _ _ _ _ _ _ _ (by decide) (by decide)
  refine ⟨?_, ?_⟩
  · exact (State.pf_setPf_below _ _ _ _ _ _ _ (by decide) (by decide)).trans (s.skStart_state c)
  · rw [State.skRestart, State.pf_incPf _ _ _ _ (by decide), hcount]
    rfl

end Sys2Proof.Machine

/-! The slices of the tick, and Lit again (R34, R277, R278, R770). -/
namespace Sys2Proof.Machine

variable {s : State} {c : Nat}

theorem State.skAdvance_plain (pc n : Nat) (hsteps : (s.core c).steps = none) :
    s.skAdvance c pc n false = s.updCore c (fun k => { k with pc := pc, cycles := k.cycles + n, steps := none }) := by
  have heq : s.updCore c (fun k => { k with pc := pc, cycles := k.cycles + n, steps := k.steps.map (fun n => n - 1) }) =
      s.updCore c (fun k => { k with pc := pc, cycles := k.cycles + n, steps := none }) :=
    State.updCore_congr (by rw [hsteps]; rfl)
  unfold State.skAdvance
  dsimp only
  rw [if_neg (by decide), heq, if_neg (by rw [State.updCore_same]; simp)]

theorem State.skAdvance_wait (pc n : Nat) (hsteps : (s.core c).steps = none) (hhalt : (s.core c).haltDue = false)
    (hfits : (s.core c).cycles + n < 2 ^ 19) :
    ∃ u : State, u = s.skAdvance c pc n true ∧ (u.core c).slice = false ∧ (u.core c).pc = pc ∧
      (u.core c).regs = (s.core c).regs ∧ u.stkState c = s.stkState c ∧ u.pf (stkStat c) 8 3 = 0 ∧
      u.pf (0x3803 + 8 * c) 0 19 = (s.core c).cycles + n ∧
      u.pf (0x3804 + 8 * c) 0 19 = Nat.max ((s.core c).cycles + n) (s.pf (0x3804 + 8 * c) 0 19) ∧
      (∀ d, d ≠ c → u.core d = s.core d) := by
  let t : State := (s.updCore c (fun k => { k with pc := pc, cycles := k.cycles + n, steps := k.steps.map (fun n => n - 1) })).setPf (stkStat c) 8 3 0
  have hcore : t.core c = { s.core c with pc := pc, cycles := (s.core c).cycles + n, steps := none } := by
    rw [State.setPf_core, State.updCore_same, hsteps]
    rfl
  have hother (a : Nat) (ha : a ≠ stkStat c) : t.p a = s.p a := State.p_setPf_other _ _ _ _ ha
  obtain ⟨hyield, hcores, hp, hpf⟩ := t.skYield_frame' c (by rw [hcore]; exact hhalt) (by rw [hcore])
  obtain ⟨hcyc, hmax⟩ := t.skEnd_cycles c (by rw [hcore]; exact hfits)
  have hstat : (t.skYield c).p (stkStat c) = t.p (stkStat c) := hp _ (by unfold stkStat; omega) (by unfold stkStat; omega)
  refine ⟨t.skYield c, rfl, by rw [hyield], by rw [hyield, hcore], by rw [hyield, hcore], ?_, ?_, ?_, ?_,
    fun d hd => (hcores d hd).trans ((State.setPf_core _ _ _ _ _ _).trans (State.updCore_other _ _ hd))⟩
  · rw [State.stkState_of_p hstat]
    exact State.pf_setPf_below _ _ _ _ _ _ _ (by decide) (by decide)
  · rw [State.pf, hstat]
    exact (State.pf_setPf_same _ _ _ _ _ (by decide)).trans (Nat.zero_mod _)
  · rw [hpf, hcyc, hcore]
  · rw [hpf, hmax, hcore, State.pf, hother _ (by unfold stkStat; omega)]
    rfl

theorem stokerBudgetReached_gives (hc : c < 4) (hslice : (s.core c).slice = true) (hover : (s.core c).budget ≤ (s.core c).cycles)
    (htraps : s.pb (stkCfg c) 17 = false) (hsteps : (s.core c).steps = none) (hhalt : (s.core c).haltDue = false) :
    ∃ u : State, Gives (.stokerBudgetReached c) s u ∧ (u.core c).slice = false ∧ (u.core c).pc = (s.core c).pc ∧
      (u.core c).regs = (s.core c).regs ∧ u.stkState c = s.stkState c ∧ (s.evOn 49 = true → u.latched 49 = true) ∧
      u.out = s.out ∧ u.cmd = s.cmd := by
  let t : State := s.raise 49 (le 1 c ++ le 1 0 ++ le 2 (s.core c).pc ++ le 4 (s.core c).cycles)
  have hcore (d : Nat) : t.core d = s.core d :=
    State.raise_keeps (fun t => t.core d) (fun _ _ _ => rfl) (fun _ _ => rfl) (fun _ _ => rfl) (fun _ _ _ => rfl) s 49 _
  have hother (a : Nat) (ha : a ≠ 0x601) (ha' : a ≠ 0x60D) : t.p a = s.p a := s.raise_p 49 _ ha ha'
  obtain ⟨hyield, hcores, hp, -⟩ := t.skYield_frame' c (by rw [hcore]; exact hhalt) (by rw [hcore]; exact hsteps)
  refine ⟨t.skYield c, ?_, by rw [hyield], by rw [hyield, hcore], by rw [hyield, hcore], ?_, fun hon => ?_, ?_, ?_⟩
  · change execStokerBudgetReached c s = _
    unfold execStokerBudgetReached
    rw [if_pos (by simp [hc, hslice, hover]), State.skStop, if_neg (by simp [htraps])]
    rfl
  · exact State.stkState_of_p ((hp _ (by unfold stkStat; omega) (by unfold stkStat; omega)).trans
      (hother _ (by unfold stkStat; omega) (by unfold stkStat; omega)))
  · have hword : (t.skYield c).p 0x601 = t.p 0x601 := hp _ (by omega) (by omega)
    exact (State.latched_of_p (e := 49) hword).trans (s.raise_latched _ hon)
  · simp only [State.skYield_frame, t, State.raise_frame]
  · simp only [State.skYield_frame, t, State.raise_frame]

theorem stokerRestart_gives (hc : c < 4) (hfull : s.full = true) (hdue : (s.core c).startDue = true) :
    ∃ u : State, Gives (.stokerRestart c) s u ∧ u.stkState c = 2 ∧ (u.core c).pc = s.pf (stkCfg c) 0 13 ∧
      (u.core c).regs = [] ∧ (u.core c).rstack = [] ∧ (u.core c).dmem = (s.core c).dmem ∧ (u.core c).startDue = false ∧
      u.pf (stkStat c) 8 3 = Nat.min (s.pf (stkStat c) 8 3 + 1) 7 ∧ u.out = s.out ∧ u.nvm = s.nvm ∧
      (∀ d, d ≠ c → u.core d = s.core d) := by
  obtain ⟨hstate, hcount⟩ := s.skRestart_stat c
  refine ⟨s.skRestart c, congrArg done (if_pos (by simp [hc, hfull, hdue])), hstate, ?_, ?_, ?_, ?_, ?_, hcount, rfl, rfl,
    fun d hd => (s.skRestart_core c d).trans (s.skStart_core_other c hd)⟩ <;>
  rw [s.skRestart_core, s.skStart_core]

/-- The cores that start together each start as they would alone. -/
theorem State.each_skStart (l : List Nat) (hl : l.Nodup) (hc : c ∈ l) :
    (s.each l State.skStart).stkState c = 2 ∧ (s.each l State.skStart).core c = (s.skStart c).core c := by
  obtain ⟨t, ht, heq⟩ := State.each_one (fun t => t.stoker c) State.skStart c l hl hc
    (fun t d _ hd => t.skStart_stoker d (Ne.symm hd)) s
  simp only [State.stoker, Prod.mk.injEq] at ht heq
  obtain ⟨hcore, -, hcfg⟩ := ht
  obtain ⟨hcore', hstat', -⟩ := heq
  refine ⟨(State.stkState_of_p hstat').trans (t.skStart_state c), hcore'.trans ?_⟩
  rw [t.skStart_core, s.skStart_core, hcore, State.pf, hcfg]
  rfl

theorem litReentry_gives (hphase : s.sys.phase = .doused) (hclear : s.sys.clearDue = true) :
    ∃ u : State, Gives .litReentry s u ∧ u.sys = { s.sys with phase := .lit, clearDue := false, douseEntry := false } ∧
      (∀ c, c < 4 → s.pb (stkCfg c) 13 = true → s.stkState c ≠ 0 →
        u.stkState c = 2 ∧ (u.core c).pc = s.pf (stkCfg c) 0 13 ∧ (u.core c).regs = [] ∧ (u.core c).rstack = [] ∧
        (u.core c).dmem = (s.core c).dmem) ∧
      (∃ x, u.island = { s.island with oscTrim := some x }) ∧
      u.out = s.out ∧ u.hdl = s.hdl ∧ u.evt = s.evt ∧ u.nvm = s.nvm := by
  let t : State := s.oscTrimmed.mapSys (fun y => { y with phase := .lit, clearDue := false, douseEntry := false })
  let l : List Nat := (List.range 4).filter (fun c => s.pb (stkCfg c) 13 && s.stkState c != 0)
  have hl : l.Nodup := List.nodup_range.filter _
  refine ⟨t.each l State.skStart, ?_, ?_, fun c hc hstart hstate => ?_, ⟨Config.freeNat s.free, ?_⟩, ?_, ?_, ?_, ?_⟩
  · change done s.litAgain = _
    rw [State.litAgain, if_pos (by simp [hphase, hclear])]
    rfl
  · exact State.each_keeps State.sys l State.skStart (fun _ _ => rfl) t
  · have hmem : c ∈ l := List.mem_filter.mpr ⟨List.mem_range.mpr hc, by simp [hstart, hstate]⟩
    obtain ⟨hruns, hcore⟩ := State.each_skStart (s := t) l hl hmem
    rw [hcore, t.skStart_core]
    exact ⟨hruns, rfl, rfl, rfl, rfl⟩
  · exact State.each_keeps State.island l State.skStart (fun _ _ => rfl) t
  · exact State.each_keeps State.out l State.skStart (fun _ _ => rfl) t
  · exact State.each_keeps State.hdl l State.skStart (fun _ _ => rfl) t
  · exact State.each_keeps State.evt l State.skStart (fun _ _ => rfl) t
  · exact State.each_keeps State.nvm l State.skStart (fun _ _ => rfl) t

/-- Opening the slice of a core leaves every other. -/
theorem State.openIf_stoker (t : State) {c d : Nat} (hd : d ≠ c) :
    (if t.stkState d = 2 then t.sliceOpen d else t).stoker c = t.stoker c := by
  split
  · unfold State.stoker
    rw [State.sliceOpen, State.updCore_other _ _ (Ne.symm hd), State.updCore_p, State.updCore_p]
  · rfl

/-- The words that STOKERPROG reads are taken core by core (R762). -/
theorem State.snap_stoker (t : State) {c d : Nat} (hd : d ≠ c) :
    (t.updCore d (fun k => { k with snap := k.dmem })).stoker c = t.stoker c := by
  unfold State.stoker
  rw [State.updCore_other _ _ (Ne.symm hd), State.updCore_p, State.updCore_p]

/-- A core whose restart is still due as the slices open starts at ENTRY in its slice (R766, R770). -/
theorem State.slicesOpen_restarts (hc : c < 4) (hfull : s.full = true) (hdue : (s.core c).startDue = true) :
    (s.slicesOpen.core c).slice = true ∧ (s.slicesOpen.core c).pc = s.pf (stkCfg c) 0 13 ∧ (s.slicesOpen.core c).regs = [] ∧
    s.slicesOpen.stkState c = 2 ∧ (s.slicesOpen.core c).startDue = false := by
  have hrange : c ∈ List.range 4 := List.mem_range.mpr hc
  let l : List Nat := (List.range 4).filter (fun c => s.full && (s.core c).startDue)
  have hl : c ∈ l := List.mem_filter.mpr ⟨hrange, by simp [hfull, hdue]⟩
  let s0 : State := s.each l State.skRestart
  let s1 : State := s0.each (List.range 4) (fun t c => if t.stkState c = 2 then t.sliceOpen c else t)
  obtain ⟨t0, ht0, h0⟩ := State.each_one (fun t => t.stoker c) State.skRestart c l (List.nodup_range.filter _) hl
    (fun t d _ hd => t.skRestart_stoker d (Ne.symm hd)) s
  obtain ⟨t1, ht1, h1⟩ := State.each_one (fun t => t.stoker c) (fun t c => if t.stkState c = 2 then t.sliceOpen c else t) c
    (List.range 4) List.nodup_range hrange (fun t d _ hd => t.openIf_stoker hd) s0
  obtain ⟨t2, ht2, h2⟩ := State.each_one (fun t => t.stoker c) (fun t c => t.updCore c (fun k => { k with snap := k.dmem })) c
    (List.range 4) List.nodup_range hrange (fun t d _ hd => t.snap_stoker hd) s1
  simp only [State.stoker, Prod.mk.injEq] at ht0 h0 ht1 h1 ht2 h2
  obtain ⟨hcore0, -, hcfg0⟩ := ht0
  obtain ⟨hstart, hstat, -⟩ := h0
  obtain ⟨hcore1, hstat1, -⟩ := ht1
  obtain ⟨hopen, hstatOpen, -⟩ := h1
  obtain ⟨hcore2, hstat2, -⟩ := ht2
  obtain ⟨hsnap, hstatSnap, -⟩ := h2
  have hruns0 : s0.stkState c = 2 := (State.stkState_of_p hstat).trans (t0.skRestart_stat c).1
  have hruns1 : t1.stkState c = 2 := (State.stkState_of_p hstat1).trans hruns0
  rw [if_pos hruns1, State.sliceOpen, State.updCore_same] at hopen
  rw [if_pos hruns1, State.sliceOpen, State.updCore_p] at hstatOpen
  rw [State.updCore_same] at hsnap
  rw [State.updCore_p] at hstatSnap
  have hruns : s.slicesOpen.stkState c = 2 :=
    (State.stkState_of_p (hstatSnap.trans (hstat2.trans hstatOpen))).trans hruns1
  have hcore : s.slicesOpen.core c = _ := hsnap
  rw [hcore, hcore2]
  change (State.core s1 c).slice = true ∧ (State.core s1 c).pc = _ ∧ (State.core s1 c).regs = [] ∧ _ ∧ (State.core s1 c).startDue = false
  rw [show s1.core c = _ from hopen, hcore1, show s0.core c = _ from hstart, t0.skRestart_core, t0.skStart_core]
  refine ⟨rfl, ?_, rfl, hruns, rfl⟩
  exact congrArg (fun x => fld x 0 13) hcfg0

end Sys2Proof.Machine

namespace Sys2Proof
open Machine

/-- Settles O58: a slice ends as `State.skYield` does, and a core starts as `State.skStart` does, alone or together with others
(`State.each_skStart`, `State.slicesOpen_restarts`). -/
theorem coresStartAndStop : Obligations.CoresStartAndStop := by
  unfold Obligations.CoresStartAndStop
  exact ⟨fun s c pc n hsteps => State.skAdvance_plain pc n hsteps,
    fun s c pc n _ hsteps hhalt hfits => State.skAdvance_wait pc n hsteps hhalt hfits,
    fun s c hc hslice hover htraps hsteps hhalt => stokerBudgetReached_gives hc hslice hover htraps hsteps hhalt,
    fun s c hc hslice hleft => congrArg done (if_neg (by simp [hleft])),
    fun s c hc hfull hdue => stokerRestart_gives hc hfull hdue, fun s hphase hclear => litReentry_gives hphase hclear,
    fun s hphase hclear => congrArg done (if_neg (by simp [hclear])),
    fun s c hc hfull hdue => State.slicesOpen_restarts hc hfull hdue⟩

end Sys2Proof

/-! An occurrence's record, and conditions that begin and end (R252, R256 to R259, R844). -/
namespace Sys2Proof.Machine

variable (s : State) (e : Nat)

/-- Counting an event in a span takes no turf with it (R481). -/
theorem State.upSpan_due (m : Nat) (f : Span → Span) (n : Nat) : ((s.upSpan m f).inst n).due = (s.inst n).due := by
  unfold State.upSpan State.updInst State.inst
  by_cases hn : n = m
  · rw [hn, Tbl.get_upd_same]
    unfold Inst.upSpan
    split <;> rfl
  · rw [Tbl.get_upd_other _ _ _ hn]

theorem State.countSpans_due (sev n : Nat) : ((s.countSpans e sev).inst n).due = (s.inst n).due :=
  State.each_keeps (fun t => (t.inst n).due) _ _ (fun t m => t.upSpan_due m _ n) s

/-- What severity DOUSE adds to the event block: entry to Doused is due in Lit alone (R268). -/
theorem State.douseBy_evt : (s.douseBy e).evt = { s.evt with douse := s.evt.douse || s.sys.phase == .lit } := by
  by_cases hphase : s.sys.phase = .lit
  · unfold State.douseBy
    rw [hphase]
    simp
  · have hno : (s.sys.phase == Phase.lit) = false := by simpa using hphase
    have hkeep : (s.douseBy e).evt = s.evt := by
      unfold State.douseBy
      split
      case h_1 hlit => exact absurd hlit hphase
      case h_2 => rw [State.mapSys_evt, State.setPb_evt]
      case h_3 => split <;> simp
      case h_4 => rfl
    rw [hkeep, hno, Bool.or_false]

/-- What an occurrence adds to the event block (R257, R266, R844). -/
theorem State.occurs_evt (d : List Byte) : (s.occurs e d).evt = { s.evt with
    occ := addOcc e (s.evSev e) s.island.rtc (detail d) s.evt.occ,
    held := Tbl.put 0 s.evt.held e (Nat.max (Tbl.get 0 s.evt.held e) (s.evSev e)),
    douse := s.evt.douse || (s.evSev e == 3 && s.sys.phase == .lit) } := by
  unfold State.occurs
  dsimp only
  split
  case isTrue hsev =>
    rw [State.douseBy_evt, State.countSpans_evt, (State.countSpans_frame _ _ _).2.2.1, State.mapEvt_evt, State.mapEvt_sys,
      State.setPb_evt, State.setPb_sys, hsev]
    simp
  case isFalse hsev =>
    have hno : (s.evSev e == 3) = false := by simpa using hsev
    rw [State.countSpans_evt, State.mapEvt_evt, State.setPb_evt, hno]
    simp

theorem State.douseBy_insts : (s.douseBy e).insts = s.insts := by simp

theorem State.occurs_due (d : List Byte) (n : Nat) : ((s.occurs e d).inst n).due = (s.inst n).due := by
  have hdouse (t : State) : ((t.douseBy e).inst n).due = (t.inst n).due := by
    rw [State.inst, State.douseBy_insts, ← State.inst]
  unfold State.occurs
  dsimp only
  split
  · rw [hdouse, State.countSpans_due, State.inst, State.mapEvt_insts, State.setPb_insts, ← State.inst]
  · rw [State.countSpans_due, State.inst, State.mapEvt_insts, State.setPb_insts, ← State.inst]

/-- An event changes its parameters, the event block, the spans, and what the supply block holds of a douse. -/
theorem State.raise_only (d : List Byte) : s.raise e d =
    { s with params := (s.raise e d).params, evt := (s.raise e d).evt, insts := (s.raise e d).insts,
             sys := (s.raise e d).sys } := by
  obtain ⟨hpending, hfree, hisland, hnvm, hcmd, hhdl, hwdg, hout, hflue, hpart, hnet, hcores, hsampled, hwks, hsent, hdebug⟩ :=
    s.raise_frame e d
  rw [← hpending, ← hfree, ← hisland, ← hnvm, ← hcmd, ← hhdl, ← hwdg, ← hout, ← hflue, ← hpart, ← hnet, ← hcores, ← hsampled,
    ← hwks, ← hsent, ← hdebug]

theorem State.begin_holdsItem (item : Nat) (d : List Byte) (hnew : s.holdsItem e item = false) :
    (s.begin e item d).holdsItem e item = true := by
  rw [State.begin, if_neg (by simp [hnew]), State.holdsItem, State.raise_conds, State.mapEvt_evt]
  simp

theorem State.begin_latched (item : Nat) (d : List Byte) (hnew : s.holdsItem e item = false) (hon : s.evOn e = true) :
    (s.begin e item d).latched e = true := by
  rw [State.begin, if_neg (by simp [hnew])]
  exact State.raise_latched _ _ ((State.evOn_of_p (State.mapEvt_p _ _ _)).trans hon)

theorem State.finish_holdsItem (item : Nat) : (s.finish e item).holdsItem e item = false := by
  rw [State.holdsItem, State.finish, State.mapEvt_evt, List.any_eq_false]
  intro c hc
  have hother : c.1 = e → ¬c.2.1 = item := by simpa [imp_iff_not_or] using (List.mem_filter.mp hc).2
  simpa using hother

theorem State.finish_holdsItem_other {f j item : Nat} (hother : (f, j) ≠ (e, item)) :
    (s.finish e item).holdsItem f j = s.holdsItem f j := by
  have hkeep (c : Nat × Nat × List Byte) : (!(c.1 == e && c.2.1 == item) && (c.1 == f && c.2.1 == j)) = (c.1 == f && c.2.1 == j) := by
    by_cases hc : c.1 = f ∧ c.2.1 = j
    · obtain ⟨rfl, rfl⟩ := hc
      have hne : ¬ (c.1 = e ∧ c.2.1 = item) := fun ⟨he, hi⟩ => hother (by rw [he, hi])
      simp [not_and_or.mp hne]
    · have hno : (c.1 == f && c.2.1 == j) = false := by simpa using hc
      rw [hno, Bool.and_false]
  rw [State.finish, State.holdsItem, State.holdsItem, State.mapEvt_evt, List.any_filter]
  simp only [hkeep]

/-- A clear ends a latch unless it is a level's whose condition holds (R258, R259). -/
theorem State.clearEv_latched : (s.clearEv e).latched e = (s.latched e && evLevels.contains e && s.holds e) := by
  by_cases hkept : (evLevels.contains e && s.holds e) = true
  · rw [State.clearEv, if_pos hkept, Bool.and_assoc, hkept, Bool.and_true]
  · rw [State.clearEv, if_neg hkept, Bool.and_assoc, Bool.eq_false_iff.mpr hkept, Bool.and_false]
    refine (State.latched_of_p ((State.mapEvt_p _ _ _).trans (State.p_setPb_other _ _ _ (by omega)))).trans ?_
    exact State.pb_setPb_same _ _ _ _ (Nat.mod_lt _ (by decide))

theorem State.clearEv_latched_other {f : Nat} (he : e < 64) (hf : f < 64) (hne : f ≠ e) :
    (s.clearEv e).latched f = s.latched f := by
  unfold State.clearEv
  split
  · rfl
  · refine (State.latched_of_p ((State.mapEvt_p _ _ _).trans (State.p_setPb_other _ _ _ (by omega)))).trans ?_
    by_cases hword : f / 32 = e / 32
    · rw [State.latched, hword, State.pb_setPb_bit _ _ _ (by omega) (by omega), ← hword, ← State.latched]
    · rw [State.latched, State.pb_setPb_other _ _ _ _ (by omega), ← State.latched]

theorem State.clearEv_held (hlevel : evLevels.contains e = false) : Tbl.get 0 (s.clearEv e).evt.held e = 0 := by
  rw [State.clearEv, if_neg (by rw [hlevel]; simp), State.mapEvt_evt]
  exact Tbl.get_del_same _ _ _

end Sys2Proof.Machine

namespace Sys2Proof
open Machine

/-- Settles O59: an enabled source is the record of its occurrence, and a clear spares a level that holds. -/
theorem eventsOccurAndClear : Obligations.EventsOccurAndClear := by
  refine ⟨fun s e d hoff => ?_, fun s e d he hon => ?_, fun s e i d hold => ?_, fun s e i d he hnew => ?_, fun s e i => ?_,
    fun s e he => ?_⟩
  · rw [State.raise, if_neg (by simp [hoff])]
  · have hoccurs : s.raise e d = s.occurs e d := by rw [State.raise, if_pos hon]
    refine ⟨_, rfl, s.raise_latched d hon, fun f hf hne => s.raise_latched_other d he hf hne, ?_, s.raise_conds e d, ?_,
      fun a ha => ?_, fun n => ?_, s.raise_only e d⟩
    · rw [hoccurs, State.occurs_evt]
      exact Tbl.get_put_same _ _ _ _
    · rw [hoccurs, State.occurs_evt]
    · simp only [List.mem_cons, List.not_mem_nil, or_false, not_or] at ha
      exact s.raise_p e d ha.1 ha.2
    · rw [hoccurs, State.occurs_due]
  · rw [State.begin, if_pos hold]
  · exact ⟨s.begin_holdsItem e i d hnew, s.begin_latched e i d hnew⟩
  · exact ⟨s.finish_holdsItem e i, (s.finish_frame e i).2.2.2.2.2.1, fun f j hother => s.finish_holdsItem_other e hother⟩
  · exact ⟨s.clearEv_latched e, fun f hf hne => s.clearEv_latched_other e he hf hne, s.clearEv_held e⟩

end Sys2Proof

/-! A request at its execution (R165, R201): the row of an unsigned opcode that passes its checks, and of one that does not. -/
namespace Sys2Proof.Machine

variable {s : State} {op : Nat} {r : Req} {f : State → Req → Ans}

theorem State.runReq_of_failed (h : s.preCheck op r ≠ 0) :
    s.runReq op r f = s.answer op r (s.preCheck op r) (s.refusalBytes op r []) none := by
  unfold State.runReq
  dsimp only
  rw [if_pos h]

/-- Only SET_BLOCK and VALVE_FIRE give a refusal a payload of its own (R842). -/
theorem State.refusalBytes_other (h6 : op ≠ 0x06) (h22 : op ≠ 0x22) (l : List Byte) : s.refusalBytes op r l = l := by
  rw [State.refusalBytes, if_neg (fun h => h6 h.1), if_neg (fun h => h22 h.1)]

/-- A request that carries no signature is answered what its executor says. -/
theorem State.runReq_unsigned (hpass : s.preCheck op r = 0) (hsigned : signedOps.contains op = false) :
    s.runReq op r f = (f s r).st.answer op r (f s r).status
      (if (f s r).status < 0x100 then (f s r).payload else s.refusalBytes op r (f s r).payload) (f s r).wait := by
  unfold State.runReq
  dsimp only
  rw [if_neg (not_not.mpr hpass), if_neg (by rw [hsigned]; simp), if_neg (by rw [hsigned]; simp)]

/-- A signed request's nonce is consumed, and its executor runs where its signature verifies (R199, R201). -/
theorem State.runReq_signed (hpass : s.preCheck op r = 0) (hsigned : signedOps.contains op = true)
    (hok : s.signedOk op r = true) :
    s.runReq op r f = (f (afterNonce s r) r).st.answer op r (f (afterNonce s r) r).status
      (if (f (afterNonce s r) r).status < 0x100 then (f (afterNonce s r) r).payload
        else s.refusalBytes op r (f (afterNonce s r) r).payload) (f (afterNonce s r) r).wait := by
  unfold State.runReq
  dsimp only
  rw [if_neg (not_not.mpr hpass), if_neg (by simp [hok]), if_pos hsigned]
  rfl

theorem State.runReq_unverified (hpass : s.preCheck op r = 0) (hsigned : signedOps.contains op = true)
    (hok : s.signedOk op r = false) : s.runReq op r f = (afterNonce s r).answer op r 0x0303 [] none := by
  unfold State.runReq
  dsimp only
  rw [if_neg (not_not.mpr hpass), if_pos (by simp [hsigned, hok, -List.contains_eq_mem]), if_pos hsigned]
  rfl

theorem State.preCheck_unknown (h : op ∉ opcodes) : s.preCheck op r = 0x0101 := by
  rw [State.preCheck, if_pos (by simpa using h)]

theorem State.preCheck_barred (h : op ∈ opcodes) (hstate : s.opAllowed op = false) : s.preCheck op r = 0x0300 := by
  rw [State.preCheck, if_neg (by simpa using h), if_pos hstate]

/-- A request that its port serves and that passes its checks runs. -/
theorem State.runRow_runs (h : Passes s op r) : s.runRow op r f = s.runReq op r f := by
  obtain ⟨hserves, hport, -⟩ := h
  rw [State.runRow, hserves, Bool.true_and, if_pos (by simpa using hport)]

/-- An opcode whose refusals carry the executor's own payload. -/
def plainOp (op : Nat) : Bool := op != 0x06 && op != 0x22 && !signedOps.contains op

/-- The row of an unsigned opcode answers what its executor says, and leaves the executor's state. -/
theorem State.runRow_answers {status : Nat} {l : List Byte} {wait : Option Await} {t : State} (h : Passes s op r)
    (hplain : plainOp op = true) (hexec : f s r = ⟨status, l, wait, t⟩) :
    s.runRow op r f = t.answer op r status l wait := by
  obtain ⟨⟨h6, h22⟩, hsigned⟩ : (op ≠ 0x06 ∧ op ≠ 0x22) ∧ signedOps.contains op = false := by
    simpa [plainOp, Bool.and_eq_true] using hplain
  rw [State.runRow_of_passes f h hsigned h6 h22, hexec]

/-- The row of an unsigned opcode whose executor accepts. -/
theorem State.runRow_accepts {status : Nat} {l : List Byte} {wait : Option Await} {t : State} (h : Passes s op r)
    (hsigned : signedOps.contains op = false) (hstatus : status < 0x100) (hexec : f s r = ⟨status, l, wait, t⟩) :
    s.runRow op r f = t.answer op r status l wait := by
  rw [State.runRow_runs h, State.runReq_unsigned h.2.2 hsigned, hexec]
  dsimp only
  rw [if_pos hstatus]

end Sys2Proof.Machine

namespace Sys2Proof
open Machine

/-- Settles O23: what a failed check answers, and that a signed request's nonce goes with a failed verification. -/
theorem failedChecksOnlyAnswer : Obligations.FailedChecksOnlyAnswer := by
  refine ⟨fun s op r h6 h22 hfail => ?_, fun s r hfail => ?_, fun s r hlen hfail => ?_, fun s op r hsigned hpass hbad => ?_,
    fun s op r h => State.preCheck_unknown h, fun s op r h hstate => State.preCheck_barred h hstate⟩
  · rw [State.runReq_of_failed hfail, State.refusalBytes_other h6 h22]
  · rw [State.runReq_of_failed hfail, State.refusalBytes, if_pos ⟨rfl, rfl⟩]
  · rw [State.runReq_of_failed hfail, State.refusalBytes, if_neg (by decide), if_pos ⟨rfl, hlen⟩]
  · exact State.runReq_unverified hpass (by simpa using hsigned) hbad

end Sys2Proof

/-! Output requests (R169, R203, R223): one that its executor lets through lodges an intent that its reply awaits. -/
namespace Sys2Proof.Machine

variable {s : State} {op : Nat} {r : Req} {f : State → Req → Ans}

theorem State.runRow_lodged {kind chan a b c ok : Nat} {excl : Bool} (h : Passes s op r)
    (hsigned : signedOps.contains op = false) (hok : ok < 0x100) (hexec : f s r = s.lodged kind chan r excl a b c ok) :
    s.runRow op r f = (s.lodge kind chan r.port excl a b c 0).answer op r ok [] (some ⟨kind, chan, s.cmd.lodge, ok⟩) :=
  State.runRow_accepts h hsigned hok hexec

theorem State.opHbMove_of_fits (hwriter : (slotAt s r).writer = true) (hrsv : leAt r.payload 2 2 = 0)
    (hdir : 1 ≤ leAt r.payload 0 1 ∧ leAt r.payload 0 1 ≤ 2)
    (hmode : leAt r.payload 1 1 = 0 ∨ (leAt r.payload 1 1 = 1 ∧ 50 ≤ leAt r.payload 4 4 ∧ leAt r.payload 4 4 ≤ 500) ∨
      (leAt r.payload 1 1 = 2 ∧ 1 ≤ leAt r.payload 4 4 ∧ leAt r.payload 4 4 ≤ 65535)) :
    s.opHbMove r = s.lodged 5 (slotAt s r).res r (slotAt s r).excl (leAt r.payload 0 1) (leAt r.payload 1 1)
      (leAt r.payload 4 4) (if leAt r.payload 1 1 = 0 then 0 else 1) := by
  unfold slotAt at *
  unfold State.opHbMove
  dsimp only
  rw [if_neg (by simp [hwriter]), if_neg (by omega)]

theorem State.opMotorStart_of_fits (hwriter : (slotAt s r).writer = true) (hne : ofTwos 32 (leAt r.payload 0 4) ≠ 0)
    (hspeed : (ofTwos 32 (leAt r.payload 0 4)).natAbs ≤ s.pf (motCfg (slotAt s r).res) 0 16)
    (hramp : 1 ≤ leAt r.payload 4 4 ∧ leAt r.payload 4 4 ≤ 100000) (hmot : s.motState (slotAt s r).res ≠ 7) :
    s.opMotorStart r = s.lodged 6 (slotAt s r).res r (slotAt s r).excl 0 (leAt r.payload 0 4) (leAt r.payload 4 4) 1 := by
  unfold slotAt at *
  unfold State.opMotorStart
  dsimp only
  rw [if_neg (by simp [hwriter]), if_neg (by simp only [not_or, not_lt]; exact ⟨hne, hspeed, hramp⟩), if_neg hmot]

theorem State.opValveFire_of_fits (hwriter : (slotAt s r).writer = true) (hahead : leAt r.payload 0 2 ≤ 1023)
    (hus : leAt r.payload 2 2 < s.tUs) (hprofile : leAt r.payload 4 1 ≤ 7 ∨ leAt r.payload 4 1 = 255)
    (hrsv : leAt r.payload 5 3 = 0) :
    s.opValveFire r = s.lodged 3 (slotAt s r).res r (slotAt s r).excl (leAt r.payload 4 1)
      ((s.tick + 1 + leAt r.payload 0 2) * s.tUs + leAt r.payload 2 2) (leAt r.payload 8 4) 0 := by
  unfold slotAt at *
  unfold State.opValveFire
  dsimp only
  rw [if_neg (by simp [hwriter]), if_neg (by omega)]

end Sys2Proof.Machine

namespace Sys2Proof
open Machine

/-- Settles O27: each output request by the checks of its executor. -/
theorem outputRequestsLodgeIntents : Obligations.OutputRequestsLodgeIntents := by
  refine ⟨fun s r h hw hcls hv => ?_, fun s r h hw hcls hfits howns => ?_, fun s r h hw => ?_,
    fun s r h hw hbound hcon hphase => ?_, fun s r h hw hahead hus hp hrsv => ?_, fun s r h hw => ?_,
    fun s r h hw hrsv hd1 hd2 hmode => ?_, fun s r h hw hne hspeed hr1 hr2 hmot => ?_, fun s r h hw hmode hrsv => ?_,
    fun s k n src a b c d e => ⟨rfl, rfl, rfl⟩⟩
  · refine congrArg done (State.runRow_lodged h (by decide) (by decide) ?_)
    unfold slotAt at *
    unfold State.opOutSet
    dsimp only
    rw [if_neg (by simp [hw]), if_pos hcls, if_neg (by omega)]
  · refine congrArg done (State.runRow_lodged h (by decide) (by decide) ?_)
    unfold slotAt at *
    unfold State.opOutSet
    dsimp only
    rw [if_neg (by simp [hw]), if_neg (by omega), if_neg (by simp [hfits]), if_neg (by simp [howns])]
  · refine congrArg done (State.runRow_answers h (by decide) ?_)
    unfold slotAt at hw
    unfold State.opOutSet
    dsimp only
    rw [if_pos hw]
    rfl
  · refine congrArg done (State.runRow_lodged h (by decide) (by decide) ?_)
    unfold slotAt at *
    unfold State.opOutPwm
    dsimp only
    rw [if_neg (by simp [hw]), if_neg (by simp [hbound, hcon, hphase])]
  · exact congrArg done (State.runRow_lodged h (by decide) (by decide) (State.opValveFire_of_fits hw hahead hus hp hrsv))
  · refine congrArg done (State.runRow_lodged h (by decide) (by decide) ?_)
    unfold slotAt at *
    unfold State.opLedSet
    dsimp only
    rw [if_neg (by simp [hw])]
  · exact congrArg done (State.runRow_lodged h (by decide) (by split <;> decide)
      (State.opHbMove_of_fits hw hrsv ⟨hd1, hd2⟩ hmode))
  · exact congrArg done (State.runRow_lodged h (by decide) (by decide)
      (State.opMotorStart_of_fits hw hne hspeed ⟨hr1, hr2⟩ hmot))
  · refine congrArg done (State.runRow_lodged h (by decide) (by decide) ?_)
    unfold slotAt at *
    unfold State.opMotorStop
    dsimp only
    rw [if_neg (by simp [hw]), if_neg (by omega)]

end Sys2Proof

/-! A parameter write that every rule of R837 and R783 lets through. -/
namespace Sys2Proof.Machine

variable {s : State} {m : WMode} {a v w : Nat} {row : PRow}

/-- A write stores the word that its fields take, with what that write does besides. -/
theorem State.paramWrite_stores (hrow : paramRow a = some row) (hro : row.allRo = false)
    (hrwk : m.takes .rwk = true ∨ row.changes .rwk (s.p a) v = false)
    (hrww : m.takes .rww = true ∨ row.changes .rww (s.p a) v = false) (hrange : row.inRange m.takes v = true)
    (happly : row.apply m.takes (s.p a) v = w) (hcross : (s.setP a w).paramCross a = true) :
    s.paramWrite m a v = (0, ((s.setP a w).paramEffect s a v).wdgLength m a) := by
  have hk : (!m.takes .rwk && row.changes .rwk (s.p a) v) = false := by
    rcases hrwk with h | h
    · rw [h, Bool.not_true, Bool.false_and]
    · rw [h, Bool.and_false]
  have hw : (!m.takes .rww && row.changes .rww (s.p a) v) = false := by
    rcases hrww with h | h
    · rw [h, Bool.not_true, Bool.false_and]
    · rw [h, Bool.and_false]
  unfold State.paramWrite
  rw [hrow]
  dsimp only
  rw [if_neg (by rw [hro]; decide), if_neg (by rw [hk]; decide), if_neg (by rw [hw]; decide),
    if_neg (by rw [hrange]; decide), happly, if_neg (by rw [hcross]; decide)]

/-- A word that is one field which takes the written value (R9, R783). -/
theorem PRow.apply_single {b st c reset lo wid old : Nat} {k : Mark} {acc : Acc} {rng : List (Nat × Nat)}
    {takes : Acc → Bool} (hacc : acc ≠ .w1c ∧ acc ≠ .ro ∧ acc ≠ .wo) (htakes : takes acc = true) :
    PRow.apply ⟨b, st, c, k, reset, [⟨lo, wid, acc, rng⟩]⟩ takes old v = setFld 0 lo wid (fld v lo wid) := by
  obtain ⟨hw1c, hro, hwo⟩ := hacc
  unfold PRow.apply
  rw [List.foldl_cons, List.foldl_nil]
  dsimp only
  split
  · contradiction
  · contradiction
  · contradiction
  · rw [if_pos htakes]

/-- A field at bit 0 that is wide enough for a value, as a word. -/
theorem setFld_zero_fld {wid : Nat} (hv : v < 2 ^ wid) : setFld 0 0 wid (fld v 0 wid) = v := by
  have hfld : fld v 0 wid = v := by rw [fld, pow_zero, Nat.div_one, Nat.mod_eq_of_lt hv]
  rw [hfld, setFld, Nat.mod_eq_of_lt hv]
  simp

/-- Only a write of WDG.PERIOD has a length of a period to set (R297). -/
theorem State.wdgLength_other (h : a ≠ 0x0702) : s.wdgLength m a = s := by
  unfold State.wdgLength
  split
  · rw [if_neg (fun hc => h hc.1)]
  · rfl

/-- A write of the RTC wake time (R159). -/
theorem State.paramWrite_rtcWake {k : WdgSnap} (hv : v ≤ 86400) : s.paramWrite (.host k) 0x0305 v = (0, s.setP 0x0305 v) := by
  have hlt : v < 2 ^ 17 := by omega
  have hrow : paramRow 0x0305 = some ⟨0x0305, 1, 1, .island, 0, [frr 0 17 0 86400]⟩ := by decide
  have happly : PRow.apply ⟨0x0305, 1, 1, .island, 0, [frr 0 17 0 86400]⟩ (WMode.host k).takes (s.p 0x0305) v = v :=
    (PRow.apply_single (by decide) rfl).trans (setFld_zero_fld hlt)
  have hrange : PRow.inRange ⟨0x0305, 1, 1, .island, 0, [frr 0 17 0 86400]⟩ (WMode.host k).takes v = true := by
    have hfld : fld v 0 17 = v := by rw [fld, pow_zero, Nat.div_one, Nat.mod_eq_of_lt hlt]
    change ((decide (0 ≤ fld v 0 17) && decide (fld v 0 17 ≤ 86400) || false) && true) = true
    rw [hfld]
    simpa using hv
  have hcross : (s.setP 0x0305 v).paramCross 0x0305 = true := by unfold State.paramCross; norm_num
  rw [State.paramWrite_stores hrow (by decide) (Or.inr rfl) (Or.inr rfl) hrange happly hcross, State.wdgLength_other (by decide)]
  exact congrArg (Prod.mk 0) (by unfold State.paramEffect; norm_num)

end Sys2Proof.Machine

/-! Requests on identity and parameters (R176 to R178, R780 to R789). -/
namespace Sys2Proof.Machine

variable {s : State} {r : Req}

theorem State.opSetParam_own (hrsv : leAt r.payload 2 2 = 0) (hhandle : r.handle = 0) :
    s.opSetParam r =
      if (s.paramWrite (.host r.wdg) (leAt r.payload 0 2) (leAt r.payload 4 4)).1 = 0 then
        ⟨0, le 4 ((s.paramWrite (.host r.wdg) (leAt r.payload 0 2) (leAt r.payload 4 4)).2.readParam r.port (leAt r.payload 0 2)),
          none, (s.paramWrite (.host r.wdg) (leAt r.payload 0 2) (leAt r.payload 4 4)).2⟩
      else (s.paramWrite (.host r.wdg) (leAt r.payload 0 2) (leAt r.payload 4 4)).2.deny
        (s.paramWrite (.host r.wdg) (leAt r.payload 0 2) (leAt r.payload 4 4)).1 := by
  unfold State.opSetParam
  dsimp only
  rw [if_pos hhandle, if_neg (not_not.mpr hrsv)]

/-- A value that the address takes is stored, and its word answers (R783). -/
theorem State.opSetParam_stores {t : State} (hrsv : leAt r.payload 2 2 = 0) (hhandle : r.handle = 0)
    (hwrite : s.paramWrite (.host r.wdg) (leAt r.payload 0 2) (leAt r.payload 4 4) = (0, t)) :
    s.opSetParam r = ⟨0, le 4 (t.readParam r.port (leAt r.payload 0 2)), none, t⟩ := by
  rw [State.opSetParam_own hrsv hhandle, hwrite, if_pos rfl]

theorem State.opSetParam_refuses {t : State} {c : Nat} (hrsv : leAt r.payload 2 2 = 0) (hhandle : r.handle = 0)
    (hwrite : s.paramWrite (.host r.wdg) (leAt r.payload 0 2) (leAt r.payload 4 4) = (c, t)) (hc : 0x100 ≤ c) :
    s.opSetParam r = t.deny c := by
  rw [State.opSetParam_own hrsv hhandle, hwrite, if_neg (by dsimp only; omega)]

/-- A write to a worker, as far as what its row says of the address (R788). -/
theorem State.opSetParam_worker (hrsv : leAt r.payload 2 2 = 0) (hhandle : r.handle ≠ 0)
    (hwriter : (slotAt s r).writer = true)
    (hrow : (wkRow (s.view (resW (slotAt s r).res)).meter (leAt r.payload 0 2)).isSome = true) :
    s.opSetParam r =
      if s.wkLocked (resW (slotAt s r).res) (leAt r.payload 0 2) = true then s.deny 0x0301
      else if s.wkBars (resW (slotAt s r).res) (leAt r.payload 0 2) (leAt r.payload 4 4) = true then s.deny 0x0300
      else if s.owns (resW (slotAt s r).res) = false then s.deny 0x0302
      else s.workerAsk r (resW (slotAt s r).res) (leAt r.payload 0 2) (leAt r.payload 4 4) false := by
  unfold slotAt at *
  unfold State.opSetParam
  dsimp only
  rw [if_neg hhandle, if_neg (by simp [hwriter]), if_neg (by rw [not_or]; exact ⟨not_not.mpr hrsv, by simp [Option.isNone_iff_eq_none, ← Option.isSome_iff_ne_none, hrow]⟩)]

theorem State.opGetParam_worker (hrsv : leAt r.payload 2 2 = 0) (hhandle : r.handle ≠ 0)
    (hrow : (wkRow (s.view (resW (slotAt s r).res)).meter (leAt r.payload 0 2)).isSome = true) :
    s.opGetParam r = s.workerAsk r (resW (slotAt s r).res) (leAt r.payload 0 2) 0 true := by
  unfold slotAt at *
  unfold State.opGetParam
  dsimp only
  rw [if_neg (not_not.mpr hrsv), if_neg hhandle, if_neg (by simp [Option.isNone_iff_eq_none, ← Option.isSome_iff_ne_none, hrow])]

/-- What a worker request leaves: one frame more in the next Apply, and one lodging number taken (R789). -/
theorem State.workerAsk_asks (s : State) (r : Req) (w index value : Nat) (read : Bool) :
    ∃ u : State, s.workerAsk r w index value read = ⟨0, [], some ⟨0, 0, s.cmd.lodge, 0⟩, u⟩ ∧
      u.flue.apply = s.flue.apply ++ [if read then (w, 17 * 65536 + index, index) else (w, 65536 + index, value)] ∧
      u.cmd.lodge = s.cmd.lodge + 1 ∧ u.params = s.params := by
  unfold State.workerAsk
  exact ⟨_, rfl, rfl, rfl, rfl⟩

/-- A word that no error has made uncorrectable reads as stored. -/
theorem State.readMram_good (hgood : s.nvm.bad = []) (lo : Nat) (l : List Byte) : s.readMram lo l = l := by
  unfold State.readMram
  rw [hgood]
  simp

end Sys2Proof.Machine

namespace Sys2Proof
open Machine

/-- Settles O24: each request by what its executor does with an address, a range or a worker. -/
theorem identityAndParameterRequests : Obligations.IdentityAndParameterRequests := by
  refine ⟨fun s r h => ?_, fun s r h => ?_, fun s r h => ?_, fun s r h hrsv hhandle hrow hpg => ?_,
    fun s r h hrsv hhandle hrow => ?_, fun s t r h hrsv hhandle hwrite => ?_, fun s r h hrsv hhandle ha hv => ?_,
    fun s t r c h hrsv hhandle hwrite hc => ?_, fun s r h hrsv hhandle hrow => ?_,
    fun s r h hrsv hhandle hwriter howns hrow hlocked hbars => ?_, fun s r h hrsv hhandle hwriter hrow hlocked => ?_,
    fun s r h hrsv hhandle hwriter hrow hlocked hbars => ?_, fun s r h hflag hn0 hn hend => ?_,
    fun s r h hflag hn8 hn hfits hbad => ?_, fun s r h hflag hrsv hfits => ?_, fun s t r h hflag hn0 hn hend hblock => ?_⟩
  · exact congrArg done (State.runRow_answers h (by decide) rfl)
  · exact congrArg done (State.runRow_answers h (by decide) rfl)
  · exact congrArg done (State.runRow_answers h (by decide) rfl)
  · refine congrArg done (State.runRow_answers h (by decide) ?_)
    unfold State.opGetParam State.opRead
    dsimp only
    rw [if_neg (not_not.mpr hrsv), if_pos hhandle, if_neg (by simp [Option.isNone_iff_eq_none, ← Option.isSome_iff_ne_none, hrow]),
      if_neg hpg]
  · refine congrArg done (State.runRow_answers h (by decide) ?_)
    unfold State.opGetParam
    dsimp only
    rw [if_neg (not_not.mpr hrsv), if_pos hhandle, if_pos hrow]
    rfl
  · exact congrArg done (State.runRow_answers h (by decide) (State.opSetParam_stores hrsv hhandle hwrite))
  · have hwrite : s.paramWrite (.host r.wdg) (leAt r.payload 0 2) (leAt r.payload 4 4) =
        (0, s.setP 0x0305 (leAt r.payload 4 4)) := by rw [ha]; exact State.paramWrite_rtcWake hv
    have hp : (s.setP 0x0305 (leAt r.payload 4 4)).p 0x0305 = leAt r.payload 4 4 :=
      (s.p_setP_same _ _).trans (Nat.mod_eq_of_lt (by omega))
    have hread : (s.setP 0x0305 (leAt r.payload 4 4)).readParam r.port (leAt r.payload 0 2) = leAt r.payload 4 4 := by
      rw [ha, ← hp]
      unfold State.readParam
      norm_num
    refine ⟨s.setP 0x0305 (leAt r.payload 4 4), ?_, hp, rfl, fun a ha => s.p_setP_other _ (by simpa using ha)⟩
    have hexec := State.opSetParam_stores hrsv hhandle hwrite
    rw [hread] at hexec
    exact congrArg done (State.runRow_answers h (by decide) hexec)
  · exact congrArg done (State.runRow_answers h (by decide) (State.opSetParam_refuses hrsv hhandle hwrite hc))
  · obtain ⟨u, hask, happly, hlodge, hparams⟩ := s.workerAsk_asks r (resW (slotAt s r).res) (leAt r.payload 0 2) 0 true
    refine ⟨u, ?_, happly, hlodge, hparams⟩
    change execWorkerGetParam r s = _
    unfold execWorkerGetParam
    rw [if_neg hhandle]
    exact congrArg done (State.runRow_answers h (by decide) ((State.opGetParam_worker hrsv hhandle hrow).trans hask))
  · obtain ⟨u, hask, happly, hlodge, hparams⟩ :=
      s.workerAsk_asks r (resW (slotAt s r).res) (leAt r.payload 0 2) (leAt r.payload 4 4) false
    refine ⟨u, ?_, happly, hlodge, hparams⟩
    have hexec := State.opSetParam_worker hrsv hhandle hwriter hrow
    rw [if_neg (by simp [hlocked]), if_neg (by simp [hbars]), if_neg (by simp [howns]), hask] at hexec
    change execWorkerSetParam r s = _
    unfold execWorkerSetParam
    rw [if_neg hhandle]
    exact congrArg done (State.runRow_answers h (by decide) hexec)
  · have hexec := State.opSetParam_worker hrsv hhandle hwriter hrow
    rw [if_pos hlocked] at hexec
    change execWorkerSetParam r s = _
    unfold execWorkerSetParam
    rw [if_neg hhandle]
    exact congrArg done (State.runRow_answers h (by decide) hexec)
  · have hexec := State.opSetParam_worker hrsv hhandle hwriter hrow
    rw [if_neg (by simp [hlocked]), if_pos hbars] at hexec
    change execWorkerSetParam r s = _
    unfold execWorkerSetParam
    rw [if_neg hhandle]
    exact congrArg done (State.runRow_answers h (by decide) hexec)
  · refine congrArg done (State.runRow_answers h (by decide) ?_)
    unfold State.opGetBlock
    dsimp only
    rw [if_neg (by simp [hflag]), if_neg (by omega)]
  · refine congrArg done (State.runRow_answers h (by decide) ?_)
    unfold State.opGetBlock
    dsimp only
    rw [if_pos hflag, if_neg (by simp [hfits]; omega), State.readMram_good hbad]
  · have hlen : (r.payload.drop 8).length = r.payload.length - 8 := List.length_drop
    refine ⟨(s.mapNvm (fun v => { v with user := Mem.write 0#8 v.user (leAt r.payload 0 4) (r.payload.drop 8) })).mramFresh
      (0x310000 + leAt r.payload 0 4) (r.payload.drop 8).length, ?_, rfl, rfl⟩
    refine congrArg done (State.runRow_accepts h (by decide) (by decide) ?_)
    unfold State.opSetBlock
    dsimp only
    rw [if_pos hflag, if_neg (by rw [hlen]; simp [hrsv, hfits])]
  · refine congrArg done (State.runRow_accepts h (by decide) (by decide) ?_)
    unfold State.opSetBlock
    dsimp only
    rw [if_neg (by simp [hflag]), if_neg (by omega), hblock, if_pos rfl]

end Sys2Proof

/-! The bits of a word that a write leaves, field by field (R9, R783). -/
namespace Sys2Proof.Machine

theorem bit_fld (x lo wid k : Nat) : bit (fld x lo wid) k = (decide (k < wid) && bit x (lo + k)) := by
  rw [bit_eq_testBit, bit_eq_testBit, fld, Nat.testBit_mod_two_pow, Nat.testBit_div_two_pow, Nat.add_comm]

theorem bit_setFld (x lo wid v k : Nat) :
    bit (setFld x lo wid v) k = if lo ≤ k ∧ k < lo + wid then bit v (k - lo) else bit x k := by
  have hsplit : setFld x lo wid v = 2 ^ lo * (2 ^ wid * (x / 2 ^ (lo + wid)) + v % 2 ^ wid) + x % 2 ^ lo := by
    unfold setFld
    ring
  have hlow : x % 2 ^ lo < 2 ^ lo := Nat.mod_lt _ (by positivity)
  have hmid : v % 2 ^ wid < 2 ^ wid := Nat.mod_lt _ (by positivity)
  simp only [bit_eq_testBit]
  rw [hsplit, Nat.testBit_two_pow_mul_add _ hlow, Nat.testBit_two_pow_mul_add _ hmid]
  by_cases hlo : k < lo
  · rw [if_pos hlo, if_neg (by omega), Nat.testBit_mod_two_pow, decide_eq_true hlo, Bool.true_and]
  · rw [if_neg hlo]
    by_cases hhi : k < lo + wid
    · rw [if_pos (by omega), if_pos (by omega), Nat.testBit_mod_two_pow, decide_eq_true (by omega), Bool.true_and]
    · rw [if_neg (by omega), if_neg (by omega), Nat.testBit_div_two_pow]
      exact congrArg (Nat.testBit x) (by omega)

/-- A field is told by its bits. -/
theorem fld_of_bits {x y lo wid : Nat} (h : ∀ k, lo ≤ k → k < lo + wid → bit x k = bit y k) : fld x lo wid = fld y lo wid := by
  refine Nat.eq_of_testBit_eq (fun k => ?_)
  rw [← bit_eq_testBit, ← bit_eq_testBit, bit_fld, bit_fld]
  by_cases hk : k < wid
  · rw [h (lo + k) (by omega) (by omega)]
  · rw [decide_eq_false hk, Bool.false_and, Bool.false_and]

/-- What a field takes from a write of `v` over `old` (R783). -/
def Fld.taken (f : Fld) (takes : Acc → Bool) (old v : Nat) : Nat :=
  match f.acc with
  | .w1c => if takes .w1c then ((BitVec.ofNat f.wid (fld old f.lo f.wid)) &&& ~~~(BitVec.ofNat f.wid (fld v f.lo f.wid))).toNat
    else fld old f.lo f.wid
  | .ro => fld old f.lo f.wid
  | .wo => 0
  | k => if takes k then fld v f.lo f.wid else fld old f.lo f.wid

theorem PRow.apply_eq (row : PRow) (takes : Acc → Bool) (old v : Nat) : row.apply takes old v =
    row.flds.foldl (fun w f => setFld w f.lo f.wid (f.taken takes old v)) 0 := by
  unfold PRow.apply Fld.taken
  rfl

/-- Whether a bit lies in a field. -/
def Fld.covers (f : Fld) (k : Nat) : Bool := f.lo ≤ k && k < f.lo + f.wid

/-- A bit of the word is what the fields that cover it take. -/
theorem PRow.bit_apply {row : PRow} {takes : Acc → Bool} {old v k : Nat} {b : Bool}
    (hcovered : ∃ f ∈ row.flds, f.covers k = true)
    (hbit : ∀ f ∈ row.flds, f.covers k = true → bit (f.taken takes old v) (k - f.lo) = b) :
    bit (row.apply takes old v) k = b := by
  have hfold (l : List Fld) : ∀ w : Nat, (∀ f ∈ l, f.covers k = true → bit (f.taken takes old v) (k - f.lo) = b) →
      (bit w k = b ∨ ∃ f ∈ l, f.covers k = true) →
      bit (l.foldl (fun w f => setFld w f.lo f.wid (f.taken takes old v)) w) k = b := by
    induction l with
    | nil => exact fun w _ h => h.resolve_right (by simp)
    | cons f l ih =>
      intro w hall hsome
      rw [List.foldl_cons]
      refine ih _ (fun g hg => hall g (List.mem_cons_of_mem _ hg)) ?_
      rw [bit_setFld]
      by_cases hf : f.covers k = true
      · have hin : f.lo ≤ k ∧ k < f.lo + f.wid := by simpa [Fld.covers] using hf
        rw [if_pos hin]
        exact Or.inl (hall f List.mem_cons_self hf)
      · have hout : ¬ (f.lo ≤ k ∧ k < f.lo + f.wid) := by simpa [Fld.covers] using hf
        rw [if_neg hout]
        refine hsome.imp_right (fun ⟨g, hg, hcov⟩ => ?_)
        rcases List.mem_cons.mp hg with rfl | hg
        · exact absurd hcov hf
        · exact ⟨g, hg, hcov⟩
  rw [PRow.apply_eq]
  exact hfold _ _ hbit (Or.inr hcovered)

end Sys2Proof.Machine

/-! Writes of parameters that do more than store (R256, R258, R519, R569, R636, R696). -/
namespace Sys2Proof.Machine

variable {s : State} {r : Req} {m : WMode} {a v : Nat}

theorem leNat_lt (l : List Byte) : leNat l < 256 ^ l.length := by
  induction l with
  | nil => simp [leNat]
  | cons b l ih =>
    have hb := b.isLt
    rw [leNat, List.length_cons, pow_succ]
    omega

theorem leAt_word_lt (l : List Byte) (o : Nat) : leAt l o 4 < 2 ^ 32 := by
  have hlen : ((l.drop o).take 4).length ≤ 4 := List.length_take_le _ _
  calc leAt l o 4 < 256 ^ ((l.drop o).take 4).length := leNat_lt _
    _ ≤ 256 ^ 4 := Nat.pow_le_pow_right (by decide) hlen
    _ = 2 ^ 32 := by decide

/-- A SET_PARAM's row that names the address. -/
theorem State.setRow_of_named {at' : Nat → Bool} (hhandle : r.handle = 0) (hat : at' (leAt r.payload 0 2) = true) :
    s.setRow r at' = s.runRow 0x04 r State.opSetParam := by
  rw [State.setRow, if_pos ⟨hhandle, hat⟩]

/-- A SET_PARAM that the address takes, in the row of its own. -/
theorem State.setRow_stores {t : State} {at' : Nat → Bool} (h : Passes s 4 r) (hhandle : r.handle = 0)
    (ha : leAt r.payload 0 2 = a) (hat : at' a = true) (hrsv : leAt r.payload 2 2 = 0)
    (hwrite : s.paramWrite (.host r.wdg) a (leAt r.payload 4 4) = (0, t)) :
    s.setRow r at' = t.answer 4 r 0 (le 4 (t.readParam r.port a)) none := by
  rw [← ha] at hat hwrite
  rw [State.setRow_of_named hhandle hat, ← ha]
  exact State.runRow_answers h (by decide) (State.opSetParam_stores hrsv hhandle hwrite)

/-- What a write that is taken has stored and done. -/
theorem State.paramWrite_taken {t : State} (h : s.paramWrite m a v = (0, t)) :
    ∃ w, t = ((s.setP a w).paramEffect s a v).wdgLength m a := by
  unfold State.paramWrite at h
  split at h
  · simp at h
  · dsimp only at h
    split_ifs at h
    · simp at h
    · simp at h
    · simp at h
    · simp at h
    · simp at h
    · exact ⟨_, (Prod.ext_iff.mp h).2.symm⟩

/-! EVT.STAT. -/

theorem paramRow_evtStat : ∀ k < 2, paramRow (0x0600 + k) = some ⟨0x0600, 1, 2, .const, 0, [fw1 0 32]⟩ := by decide

theorem State.paramWrite_evtStat {k : Nat} {g : WdgSnap} (hk : k < 2) :
    ∃ w, s.paramWrite (.host g) (0x0600 + k) v = (0, ((s.setP (0x0600 + k) w).setP (0x0600 + k) (s.p (0x0600 + k))).each
      (bitsOf v 32) (fun t b => t.clearEv (32 * k + b))) := by
  refine ⟨PRow.apply ⟨0x0600, 1, 2, .const, 0, [fw1 0 32]⟩ (WMode.host g).takes (s.p (0x0600 + k)) v, ?_⟩
  have hcross (w : Nat) : (s.setP (0x0600 + k) w).paramCross (0x0600 + k) = true := by
    unfold State.paramCross
    iterate 13 rw [if_neg (by omega)]
  rw [State.paramWrite_stores (paramRow_evtStat k hk) (by decide) (Or.inr rfl) (Or.inr rfl) rfl rfl (hcross _),
    State.wdgLength_other (by omega), State.paramEffect, if_pos (by omega), Nat.add_sub_cancel_left]

theorem State.clearEv_holds (e f : Nat) : (s.clearEv e).holds f = s.holds f := by
  unfold State.clearEv
  split
  · rfl
  · rw [State.holds, State.holds, State.mapEvt_evt, State.setPb_evt, State.setPb_evt]

/-- A level event whose condition holds is spared by every clear (R259). -/
theorem State.clearEvs_spare {e : Nat} (f : Nat → Nat) (l : List Nat) (hl : ∀ b ∈ l, f b < 64) (he : e < 64)
    (h : e ∉ l.map f ∨ (evLevels.contains e = true ∧ s.holds e = true)) :
    (s.each l (fun t b => t.clearEv (f b))).latched e = s.latched e := by
  have hboth (l' : List Nat) (hl' : ∀ b ∈ l', f b < 64 ∧ (f b ≠ e ∨ evLevels.contains e = true)) : ∀ t : State,
      (e ∉ l'.map f ∨ t.holds e = true) → (t.each l' (fun t b => t.clearEv (f b))).latched e = t.latched e := by
    induction l' with
    | nil => exact fun _ _ => rfl
    | cons b l' ih =>
      intro t ht
      obtain ⟨hb, hspare⟩ := hl' b List.mem_cons_self
      rw [State.each, List.foldl_cons, ← State.each]
      have hnext : e ∉ l'.map f ∨ (t.clearEv (f b)).holds e = true := by
        refine ht.imp (fun h hmem => h ?_) (fun h => by rw [State.clearEv_holds, h])
        rw [List.map_cons]
        exact List.mem_cons_of_mem _ hmem
      rw [ih (fun c hc => hl' c (List.mem_cons_of_mem _ hc)) _ hnext]
      by_cases hbe : f b = e
      · have hlevel := hspare.resolve_left (not_not.mpr hbe)
        have hholds : t.holds e = true := ht.resolve_left (not_not.mpr (by rw [List.map_cons, hbe]; exact List.mem_cons_self))
        rw [hbe, State.clearEv_latched, hlevel, hholds, Bool.and_true, Bool.and_true]
      · exact t.clearEv_latched_other _ hb he (fun h => hbe h.symm)
  refine hboth l (fun b hb => ⟨hl b hb, ?_⟩) s (h.imp_right And.right)
  rcases h with h | h
  · exact Or.inl (fun hbe => h (hbe ▸ List.mem_map_of_mem hb))
  · exact Or.inr h.1

/-- Every event of a clear that no condition holds is cleared (R258). -/
theorem State.clearEvs_clear {e : Nat} (f : Nat → Nat) (l : List Nat) (hl : ∀ b ∈ l, f b < 64) (he : e < 64)
    (hmem : e ∈ l.map f) (h : ¬ (evLevels.contains e = true ∧ s.holds e = true)) :
    (s.each l (fun t b => t.clearEv (f b))).latched e = false := by
  obtain ⟨b, hb, hbe⟩ := List.mem_map.mp hmem
  have hno : (evLevels.contains e && s.holds e) = false := by
    rw [Bool.eq_false_iff]
    exact fun hboth => h (Bool.and_eq_true_iff.mp hboth)
  refine (State.each_establishes (fun b t => f b = e → t.latched e = false) (fun t => t.holds e = s.holds e)
    (fun t b => t.clearEv (f b)) l s rfl (fun t c _ ht => (State.clearEv_holds _ _).trans ht)
    (fun t c hc ht hce => ?_) (fun t c d hc _ hkeep hde => ?_)).2 b hb hbe
  · rw [hce, State.clearEv_latched, ht, Bool.and_assoc, hno, Bool.and_false]
  · by_cases hce : f c = e
    · rw [hce, State.clearEv_latched, hkeep hde, Bool.false_and, Bool.false_and]
    · rw [t.clearEv_latched_other _ (hl c hc) he (fun h => hce h.symm), hkeep hde]

/-- A parameter put back to its word leaves every word. -/
theorem State.p_setP_back (w b : Nat) : ((s.setP a w).setP a (s.p a)).p b = s.p b := by
  by_cases hb : b = a
  · rw [hb, State.p_setP_same, Nat.mod_eq_of_lt (s.p_lt a)]
  · rw [State.p_setP_other _ _ hb, State.p_setP_other _ _ hb]

theorem evtStatClear_gives {k : Nat} (h : Passes s 4 r) (hhandle : r.handle = 0) (hk : k < 2)
    (ha : leAt r.payload 0 2 = 0x0600 + k) (hrsv : leAt r.payload 2 2 = 0) :
    ∃ t : State, Gives (.evtStatClear r) s (t.answer 4 r 0 (le 4 (t.readParam r.port (0x0600 + k))) none) ∧
      (∀ b, b < 32 → bit (leAt r.payload 4 4) b = true →
        ¬(evLevels.contains (32 * k + b) = true ∧ s.holds (32 * k + b) = true) → t.latched (32 * k + b) = false) ∧
      (∀ b, b < 32 → (bit (leAt r.payload 4 4) b = false ∨
        (evLevels.contains (32 * k + b) = true ∧ s.holds (32 * k + b) = true)) →
        t.latched (32 * k + b) = s.latched (32 * k + b)) ∧
      t.out = s.out ∧ t.nvm = s.nvm ∧ t.sys = s.sys := by
  obtain ⟨w, hwrite⟩ := State.paramWrite_evtStat (s := s) (v := leAt r.payload 4 4) (g := r.wdg) hk
  have hbits (b : Nat) : b ∈ bitsOf (leAt r.payload 4 4) 32 ↔ b < 32 ∧ bit (leAt r.payload 4 4) b = true := by
    simp [bitsOf]
  have hlt (b : Nat) (hb : b ∈ bitsOf (leAt r.payload 4 4) 32) : 32 * k + b < 64 := by have := ((hbits b).mp hb).1; omega
  have hlatched (e : Nat) : ((s.setP (0x0600 + k) w).setP (0x0600 + k) (s.p (0x0600 + k))).latched e = s.latched e :=
    State.latched_of_p (State.p_setP_back _ _)
  have hframe (t : State) (b : Nat) : ((t.clearEv (32 * k + b)).out, (t.clearEv (32 * k + b)).nvm, (t.clearEv (32 * k + b)).sys) =
      (t.out, t.nvm, t.sys) := by
    unfold State.clearEv
    split
    · rfl
    · simp
  have hkeep := State.each_keeps (fun t => (t.out, t.nvm, t.sys)) (bitsOf (leAt r.payload 4 4) 32)
    (fun t b => t.clearEv (32 * k + b)) hframe
    ((s.setP (0x0600 + k) w).setP (0x0600 + k) (s.p (0x0600 + k)))
  simp only [Prod.mk.injEq, State.setP_out, State.setP_nvm, State.setP_sys] at hkeep
  refine ⟨_, congrArg done (State.setRow_stores h hhandle ha ?_ hrsv hwrite), fun b hb hbit hno => ?_,
    fun b hb hspare => ?_, hkeep⟩
  · rw [Bool.or_eq_true, beq_iff_eq, beq_iff_eq]
    omega
  · exact State.clearEvs_clear (fun b => 32 * k + b) _ hlt (by omega) (List.mem_map_of_mem ((hbits b).mpr ⟨hb, hbit⟩)) hno
  · refine (State.clearEvs_spare (s := (s.setP (0x0600 + k) w).setP (0x0600 + k) (s.p (0x0600 + k))) (fun b => 32 * k + b) _ hlt
      (by omega) (hspare.imp (fun hoff hmem => ?_) id)).trans (hlatched _)
    obtain ⟨c, hc, hce⟩ := List.mem_map.mp hmem
    have hcb : c = b := by omega
    rw [((hbits b).mp (hcb ▸ hc)).2] at hoff
    exact absurd hoff (by decide)

/-! HS.STAT. -/

theorem paramRow_hsStat : ∀ n < 40, paramRow (hsStat n) = some ⟨0x2002, 6, 40, .const, 0,
    [fro 0 1, fro 1 1, fro 2 1, fro 3 1, fw1 4 1, fro 5 1, fro 6 1, fro 7 1, fro 8 4, fro 16 16]⟩ := by decide

theorem State.paramWrite_hsStat {n : Nat} {g : WdgSnap} (hn : n < 40) (hv : bit v 4 = true) :
    ∃ w, s.paramWrite (.host g) (hsStat n) v = (0, ((s.setP (hsStat n) w).setPb (hsStat n) 4 (s.pb (hsStat n) 4)).hsUnlatch n) := by
  refine ⟨PRow.apply ⟨0x2002, 6, 40, .const, 0, [fro 0 1, fro 1 1, fro 2 1, fro 3 1, fw1 4 1, fro 5 1, fro 6 1, fro 7 1,
    fro 8 4, fro 16 16]⟩ (WMode.host g).takes (s.p (hsStat n)) v, ?_⟩
  have hcross (w : Nat) : (s.setP (hsStat n) w).paramCross (hsStat n) = true := by
    unfold State.paramCross hsStat
    iterate 13 rw [if_neg (by omega)]
  have hidx : (hsStat n - 0x2000) / 6 = n := by unfold hsStat; omega
  rw [State.paramWrite_stores (paramRow_hsStat n hn) (by decide) (Or.inr rfl) (Or.inr rfl) rfl rfl (hcross _),
    State.wdgLength_other (by unfold hsStat; omega), State.paramEffect, if_neg (by unfold hsStat; omega),
    if_neg (by unfold hsStat; omega), if_pos (by unfold hsStat; omega), hidx, if_pos hv]

theorem State.hsUnlatch_of_latched {n : Nat} (h : s.pb (hsStat n) 4 = true) :
    (s.hsUnlatch n).pb (hsStat n) 4 = false ∧ (s.hsUnlatch n).pf (hsStat n) 8 4 = 0 ∧ ((s.hsUnlatch n).hs n).retry = true ∧
    SameParams s (s.hsUnlatch n) [hsStat n] := by
  unfold State.hsUnlatch
  rw [if_pos h]
  refine ⟨?_, ?_, ?_, fun a ha => ?_⟩
  · rw [State.updHs_pb, State.pb_setPf_apart _ _ _ _ _ (by decide) (by decide), State.pb_setPb_same _ _ _ _ (by decide)]
  · rw [State.updHs_pf, State.pf_setPf_same _ _ _ _ _ (by decide)]
    rfl
  · rw [State.updHs_same]
  · have hne : a ≠ hsStat n := by simpa using ha
    rw [State.updHs_p, State.p_setPf_other _ _ _ _ hne, State.p_setPb_other _ _ _ hne]

/-! HB.POS. -/

theorem paramRow_hbPos : ∀ b < 8, paramRow (hbPosA b) = some ⟨0x2407, 8, 8, .mram, 0, [frw 0 32]⟩ := by decide

/-- A position written counts as homed, and stands in MRAM unless the bridge moves (R636, R637). -/
def State.posWritten (s : State) (b v : Nat) : State :=
  if s.hbMoving b then (s.setP (hbPosA b) v).setPb (hbStat b) 7 true
  else ((s.setP (hbPosA b) v).setPb (hbStat b) 7 true).hbKeep b

theorem State.paramWrite_hbPos {b : Nat} {g : WdgSnap} (hb : b < 8) (hv : v < 2 ^ 32) :
    s.paramWrite (.host g) (hbPosA b) v = (0, s.posWritten b v) := by
  have happly : PRow.apply ⟨0x2407, 8, 8, .mram, 0, [frw 0 32]⟩ (WMode.host g).takes (s.p (hbPosA b)) v = v :=
    (PRow.apply_single (by decide) rfl).trans (setFld_zero_fld hv)
  have hcross : (s.setP (hbPosA b) v).paramCross (hbPosA b) = true := by
    unfold State.paramCross hbPosA
    iterate 13 rw [if_neg (by omega)]
  have hidx : (hbPosA b - 0x2400) / 8 = b := by unfold hbPosA; omega
  have hmoving : ((s.setP (hbPosA b) v).setPb (hbStat b) 7 true).hbMoving b = s.hbMoving b := by
    unfold State.hbMoving State.hb
    rw [State.setPb_out, State.setP_out]
  rw [State.paramWrite_stores (paramRow_hbPos b hb) (by decide) (Or.inr rfl) (Or.inr rfl) rfl happly hcross,
    State.wdgLength_other (by unfold hbPosA; omega), State.paramEffect]
  iterate 8 rw [if_neg (by unfold hbPosA; omega)]
  rw [if_pos (by unfold hbPosA; omega)]
  dsimp only
  rw [hidx, hmoving, State.posWritten]

theorem State.posWritten_frame {b : Nat} (hv : v < 2 ^ 32) : (s.posWritten b v).p (hbPosA b) = v ∧
    (s.posWritten b v).pb (hbStat b) 7 = true ∧ SameParams s (s.posWritten b v) [hbPosA b, hbStat b] := by
  have hne : hbPosA b ≠ hbStat b := by unfold hbPosA hbStat; omega
  have hp : ((s.setP (hbPosA b) v).setPb (hbStat b) 7 true).p (hbPosA b) = v := by
    rw [State.p_setPb_other _ _ _ hne, State.p_setP_same, Nat.mod_eq_of_lt hv]
  have hvalid : ((s.setP (hbPosA b) v).setPb (hbStat b) 7 true).pb (hbStat b) 7 = true := State.pb_setPb_same _ _ _ _ (by decide)
  have hsame : SameParams s ((s.setP (hbPosA b) v).setPb (hbStat b) 7 true) [hbPosA b, hbStat b] := by
    intro a ha
    simp only [List.mem_cons, List.not_mem_nil, or_false, not_or] at ha
    rw [State.p_setPb_other _ _ _ ha.2, State.p_setP_other _ _ ha.1]
  unfold State.posWritten
  split
  · exact ⟨hp, hvalid, hsame⟩
  · unfold State.hbKeep
    refine ⟨(State.mapNvm_p _ _ _).trans hp, ?_, fun a ha => (State.mapNvm_p _ _ _).trans (hsame a ha)⟩
    rw [State.mapNvm_pb, hvalid]

theorem State.posWritten_kept {b : Nat} (hv : v < 2 ^ 32) (hrest : s.hbMoving b = false) :
    Tbl.get 0#32 (s.posWritten b v).nvm.hbPos b = BitVec.ofNat 32 v ∧ b ∈ (s.posWritten b v).nvm.hbValid := by
  have hne : hbPosA b ≠ hbStat b := by unfold hbPosA hbStat; omega
  have hp : ((s.setP (hbPosA b) v).setPb (hbStat b) 7 true).p (hbPosA b) = v := by
    rw [State.p_setPb_other _ _ _ hne, State.p_setP_same, Nat.mod_eq_of_lt hv]
  have hvalid : ((s.setP (hbPosA b) v).setPb (hbStat b) 7 true).pb (hbStat b) 7 = true := State.pb_setPb_same _ _ _ _ (by decide)
  unfold State.posWritten
  rw [if_neg (by rw [hrest]; decide), State.hbKeep, State.mapNvm_nvm, hp, hvalid]
  exact ⟨Tbl.get_put_same _ _ _ _, by rw [if_pos rfl]; exact mem_insNat _ _⟩

/-! NET.CANBT, with AUTOREC. -/

/-- NET.CANBT of a controller: AUTOREC is the field that a host may write. -/
def rowCanBt : PRow := ⟨0x3010, 2, 4, .const, 0x4B50A4, [fk 0 1, fkr 1 3 0 3, fkr 4 3 0 5, frw 7 1, fkr 8 8 50 90, fkr 16 8 50 90]⟩

theorem paramRow_canBt : ∀ c < 4, paramRow (0x3010 + 2 * c) = some rowCanBt := by decide

/-- What a write of NET.CANBT does besides: AUTOREC lets a controller leave bus-off (R696). -/
theorem State.paramEffect_canBt {c : Nat} (old : State) (hc : c < 4) : s.paramEffect old (0x3010 + 2 * c) v =
    if s.pf (0x3011 + 2 * c) 0 2 = 2 then s.mapNet (fun n => { n with canFree := insNat c n.canFree }) else s := by
  have hidx : (0x3010 + 2 * c - 0x3010) / 2 = c := by omega
  have hstat : 0x3010 + 2 * c + 1 = 0x3011 + 2 * c := by omega
  unfold State.paramEffect
  iterate 9 rw [if_neg (by omega)]
  rw [if_pos (by omega), hidx, hstat]

theorem State.canFree_of_written {c w : Nat} {t : State} (g : WdgSnap) (hc : c < 4)
    (ht : t = ((s.setP (0x3010 + 2 * c) w).paramEffect s (0x3010 + 2 * c) v).wdgLength (.host g) (0x3010 + 2 * c))
    (hoff : s.pf (0x3011 + 2 * c) 0 2 = 2) : c ∈ t.net.canFree := by
  have hstat : (s.setP (0x3010 + 2 * c) w).pf (0x3011 + 2 * c) 0 2 = 2 := by
    rw [State.pf, State.p_setP_other _ _ (by omega), ← State.pf, hoff]
  rw [ht, State.wdgLength_other (by omega), State.paramEffect_canBt _ hc, if_pos hstat, State.mapNet_net]
  exact mem_insNat _ _

/-- The bits of NET.CANBT after a host's write: AUTOREC is the written one, the others stay (R783). -/
theorem bit_apply_canBt (g : WdgSnap) {old k : Nat} (hk : k < 24) :
    bit (rowCanBt.apply (WMode.host g).takes old v) k = if k = 7 then bit v 7 else bit old k := by
  have hcovered : ∀ k < 24, ∃ f ∈ rowCanBt.flds, f.covers k = true := by decide
  have hfields : ∀ f ∈ rowCanBt.flds, (f.acc = .rw ∧ f.lo = 7 ∧ f.wid = 1) ∨ (f.acc = .rwk ∧ (f.lo + f.wid ≤ 7 ∨ 8 ≤ f.lo)) := by
    decide
  refine PRow.bit_apply (hcovered k hk) (fun f hf hcov => ?_)
  have hin : f.lo ≤ k ∧ k < f.lo + f.wid := by simpa [Fld.covers] using hcov
  rcases hfields f hf with ⟨hacc, hlo, hwid⟩ | ⟨hacc, hapart⟩
  · have hk7 : k = 7 := by omega
    have htaken : f.taken (WMode.host g).takes old v = fld v f.lo f.wid := by
      rw [Fld.taken, hacc]
      rfl
    rw [htaken, if_pos hk7, hk7, bit_fld, hlo, hwid]
    rfl
  · have htaken : f.taken (WMode.host g).takes old v = fld old f.lo f.wid := by
      rw [Fld.taken, hacc]
      rfl
    have hback : f.lo + (k - f.lo) = k := by omega
    rw [htaken, if_neg (by omega), bit_fld, hback, decide_eq_true (by omega), Bool.true_and]

theorem changes_canBt (old x : Nat) : rowCanBt.changes .rwk old (setFld old 7 1 x) = false := by
  have hfields : ∀ f ∈ rowCanBt.flds, f.acc = .rwk → f.lo + f.wid ≤ 7 ∨ 8 ≤ f.lo := by decide
  refine List.any_eq_false.mpr (fun f hf hchange => ?_)
  obtain ⟨hacc, hne⟩ : f.acc = .rwk ∧ fld old f.lo f.wid ≠ fld (setFld old 7 1 x) f.lo f.wid := by simpa using hchange
  rcases hfields f hf hacc with h | h
  · exact hne (fld_setFld_below _ _ _ _ _ _ h).symm
  · exact hne (fld_setFld_above _ _ _ _ _ _ h).symm

/-- AUTOREC has no part in the rule of the command controller (R694). -/
theorem State.canFits_of_fields {t : State} (h : s.canFits = true) (hp : ∀ a, a < 0x3010 → t.p a = s.p a)
    (hbits : ∀ c, c < 4 → t.pf (0x3010 + 2 * c) 4 3 = s.pf (0x3010 + 2 * c) 4 3) : t.canFits = true := by
  have hctl : t.pf 0x0402 0 2 = s.pf 0x0402 0 2 := by rw [State.pf, State.pf, hp _ (by decide)]
  have hlt : s.pf 0x0402 0 2 < 4 := Nat.mod_lt _ (by decide)
  unfold State.canFits at h ⊢
  dsimp only at h ⊢
  rw [hctl, hbits _ hlt, State.pb, State.pb, hp _ (by decide), hp _ (by decide), ← State.pb, ← State.pb]
  exact h

theorem State.written_canBt {c w : Nat} (g : WdgSnap) (hc : c < 4) :
    ∃ n, ((s.setP (0x3010 + 2 * c) w).paramEffect s (0x3010 + 2 * c) v).wdgLength (.host g) (0x3010 + 2 * c) =
      (s.setP (0x3010 + 2 * c) w).mapNet n := by
  rw [State.wdgLength_other (by omega), State.paramEffect_canBt _ hc]
  split
  · exact ⟨_, rfl⟩
  · exact ⟨id, rfl⟩

theorem State.setP_mapNet_only (a w : Nat) (f : Net → Net) : (s.setP a w).mapNet f =
    { s with params := ((s.setP a w).mapNet f).params, net := ((s.setP a w).mapNet f).net } := rfl

theorem State.paramWrite_canBt {c : Nat} {g : WdgSnap} {b : Bool} (hc : c < 4)
    (hv : v = setFld (s.p (0x3010 + 2 * c)) 7 1 (b2n b)) (hfits : s.canFits = true) :
    ∃ t, s.paramWrite (.host g) (0x3010 + 2 * c) v = (0, t) ∧ t.pb (0x3010 + 2 * c) 7 = b ∧
      (∀ k, k < 24 → k ≠ 7 → t.pb (0x3010 + 2 * c) k = s.pb (0x3010 + 2 * c) k) ∧
      SameParams s t [0x3010 + 2 * c] ∧ (s.pf (0x3011 + 2 * c) 0 2 = 2 → c ∈ t.net.canFree) ∧
      t = { s with params := t.params, net := t.net } := by
  have hword : ∀ k < 24, (s.setP (0x3010 + 2 * c) (rowCanBt.apply (WMode.host g).takes (s.p (0x3010 + 2 * c)) v)).pb
      (0x3010 + 2 * c) k = if k = 7 then b else s.pb (0x3010 + 2 * c) k := by
    intro k hk
    have hv7 : bit v 7 = b := by
      rw [hv, bit_setFld, if_pos (by decide)]
      cases b <;> rfl
    rw [State.pb, State.p_setP_same, bit_mod_word _ (by omega), bit_apply_canBt g hk, hv7, State.pb]
  have hcross : (s.setP (0x3010 + 2 * c) (rowCanBt.apply (WMode.host g).takes (s.p (0x3010 + 2 * c)) v)).paramCross
      (0x3010 + 2 * c) = true := by
    have hcan := State.canFits_of_fields (t := s.setP (0x3010 + 2 * c)
      (rowCanBt.apply (WMode.host g).takes (s.p (0x3010 + 2 * c)) v)) hfits (fun a ha => s.p_setP_other _ (by omega))
      (fun d hd => ?_)
    · unfold State.paramCross
      iterate 10 rw [if_neg (by omega)]
      rw [if_pos (by omega), hcan]
    · by_cases hdc : d = c
      · rw [hdc]
        refine fld_of_bits (fun k hk hk' => ?_)
        have h := hword k (by omega)
        rw [if_neg (by omega)] at h
        exact h
      · rw [State.pf, State.p_setP_other _ _ (by omega), ← State.pf]
  have hrange : rowCanBt.inRange (WMode.host g).takes v = true := rfl
  have hkeep : rowCanBt.changes .rwk (s.p (0x3010 + 2 * c)) v = false := by rw [hv]; exact changes_canBt _ _
  refine ⟨_, State.paramWrite_stores (paramRow_canBt c hc) (by decide) (Or.inr hkeep) (Or.inr rfl) hrange rfl hcross, ?_⟩
  have hfree (hoff : s.pf (0x3011 + 2 * c) 0 2 = 2) := State.canFree_of_written (s := s) (v := v)
    (w := rowCanBt.apply (WMode.host g).takes (s.p (0x3010 + 2 * c)) v) g hc rfl hoff
  obtain ⟨n, hn⟩ := State.written_canBt (s := s) (w := rowCanBt.apply (WMode.host g).takes (s.p (0x3010 + 2 * c)) v) (v := v) g hc
  rw [hn] at hfree ⊢
  refine ⟨?_, fun k hk hk7 => ?_, fun a ha => ?_, hfree, State.setP_mapNet_only _ _ _⟩
  · rw [State.mapNet_pb, hword 7 (by decide), if_pos rfl]
  · rw [State.mapNet_pb, hword k hk, if_neg hk7]
  · rw [State.mapNet_p, s.p_setP_other _ (by simpa using ha)]

/-! PART.CTRL. -/

theorem paramRow_partCtrl : paramRow 0x1907 = some ⟨0x1907, 1, 1, .const, 0, [⟨0, 1, .wo, []⟩, ⟨1, 1, .wo, []⟩]⟩ := by decide

theorem State.paramWrite_partCtrl {g : WdgSnap} :
    ∃ w, s.paramWrite (.host g) 0x1907 v = (0, (s.setP 0x1907 w).paramEffect s 0x1907 v) := by
  refine ⟨PRow.apply ⟨0x1907, 1, 1, .const, 0, [⟨0, 1, .wo, []⟩, ⟨1, 1, .wo, []⟩]⟩ (WMode.host g).takes (s.p 0x1907) v, ?_⟩
  have hcross (w : Nat) : (s.setP 0x1907 w).paramCross 0x1907 = true := by
    unfold State.paramCross
    iterate 13 rw [if_neg (by decide)]
  rw [State.paramWrite_stores paramRow_partCtrl (by decide) (Or.inr rfl) (Or.inr rfl) rfl rfl (hcross _),
    State.wdgLength_other (by decide)]

theorem State.paramEffect_partCtrl (old : State) : s.paramEffect old 0x1907 v =
    if bit v 1 && (if bit v 0 then s.partSend 0x14 (le 1 1 ++ zeros 3) else s).pb 0x1905 0 then
      (if bit v 0 then s.partSend 0x14 (le 1 1 ++ zeros 3) else s).sendResync
    else if bit v 0 then s.partSend 0x14 (le 1 1 ++ zeros 3) else s := by
  unfold State.paramEffect
  iterate 11 rw [if_neg (by decide)]
  rw [if_pos rfl]

theorem State.partSend_part (typ : Nat) (body : List Byte) :
    (s.partSend typ body).part.unacked = s.part.unacked ++ [(s.part.seq, typ, body)] ∧
    (s.partSend typ body).part.seq = (s.part.seq + 1) % 256 := ⟨rfl, rfl⟩

/-! WDG.PERIOD. -/

theorem paramRow_wdgPeriod : paramRow 0x0702 = some ⟨0x0702, 1, 1, .const, 20, [⟨0, 8, .rww, [(1, 255)]⟩]⟩ := by decide

theorem State.paramWrite_wdgPeriod {g : WdgSnap} (hopen : g.perOpen = true) (hlo : 1 ≤ v) (hhi : v ≤ 255) :
    s.paramWrite (.host g) 0x0702 v = (0, (s.setP 0x0702 v).wdgLength (.host g) 0x0702) := by
  have hlt : v < 2 ^ 8 := by omega
  have happly : PRow.apply ⟨0x0702, 1, 1, .const, 20, [⟨0, 8, .rww, [(1, 255)]⟩]⟩ (WMode.host g).takes (s.p 0x0702) v = v :=
    (PRow.apply_single (by decide) hopen).trans (setFld_zero_fld hlt)
  have hrange : PRow.inRange ⟨0x0702, 1, 1, .const, 20, [⟨0, 8, .rww, [(1, 255)]⟩]⟩ (WMode.host g).takes v = true := by
    have hfld : fld v 0 8 = v := by rw [fld, pow_zero, Nat.div_one, Nat.mod_eq_of_lt hlt]
    have hfits : Fld.fits ⟨0, 8, .rww, [(1, 255)]⟩ (fld v 0 8) = true := by
      rw [hfld]
      simp [Fld.fits, hlo, hhi]
    unfold PRow.inRange
    rw [List.all_cons, hfits]
    simp
  have hcross : (s.setP 0x0702 v).paramCross 0x0702 = true := by
    unfold State.paramCross
    iterate 13 rw [if_neg (by decide)]
  have heffect : (s.setP 0x0702 v).paramEffect s 0x0702 v = s.setP 0x0702 v := by
    unfold State.paramEffect
    iterate 12 rw [if_neg (by decide)]
  have htakes : (WMode.host g).takes .rww = true := hopen
  rw [State.paramWrite_stores paramRow_wdgPeriod (by decide) (Or.inr rfl) (Or.inl htakes) hrange happly hcross, heffect]

end Sys2Proof.Machine

namespace Sys2Proof
open Machine

/-- Settles O25: each address by what its row lets a host write and by the write's effect. -/
theorem parameterWritesWithEffects : Obligations.ParameterWritesWithEffects := by
  refine ⟨fun s r k h hhandle hk ha hrsv => evtStatClear_gives h hhandle hk ha hrsv,
    fun s r n h hhandle hn ha hrsv hv hlatched => ?_, fun s r b h hhandle hb ha hrsv => ?_,
    fun s t r c h hhandle hc ha hrsv hwrite => ?_, fun s r c b h hhandle hc ha hrsv hv hfits => ?_,
    fun s r h hhandle ha hrsv hv => ?_, fun s r h hhandle ha hrsv hv hup => ?_,
    fun s r h hhandle ha hrsv hlo hhi hopen => ?_⟩
  · obtain ⟨w, hwrite⟩ := State.paramWrite_hsStat (s := s) (v := leAt r.payload 4 4) (g := r.wdg) hn (by rw [hv]; decide)
    have hstill : ((s.setP (hsStat n) w).setPb (hsStat n) 4 (s.pb (hsStat n) 4)).pb (hsStat n) 4 = true :=
      (State.pb_setPb_same _ _ _ _ (by decide)).trans hlatched
    obtain ⟨hoff, hkind, hretry, hsame⟩ := State.hsUnlatch_of_latched hstill
    refine ⟨_, congrArg done (State.setRow_stores h hhandle ha ?_ hrsv hwrite), hoff, hkind, hretry, fun a hne => ?_⟩
    · unfold hsStat
      simp only [Bool.and_eq_true, decide_eq_true_eq, beq_iff_eq]
      omega
    · have hne' : a ≠ hsStat n := by simpa using hne
      rw [hsame a hne, State.p_setPb_other _ _ _ hne', State.p_setP_other _ _ hne']
  · obtain ⟨hp, hvalid, hsame⟩ := State.posWritten_frame (s := s) (b := b) (leAt_word_lt r.payload 4)
    refine ⟨_, congrArg done (State.setRow_stores h hhandle ha ?_ hrsv
      (State.paramWrite_hbPos hb (leAt_word_lt _ _))), hp, hvalid, hsame, State.posWritten_kept (leAt_word_lt _ _)⟩
    unfold hbPosA
    simp only [Bool.and_eq_true, decide_eq_true_eq, beq_iff_eq]
    omega
  · obtain ⟨w, ht⟩ := State.paramWrite_taken hwrite
    refine ⟨congrArg done (State.setRow_stores h hhandle ha ?_ hrsv hwrite), State.canFree_of_written r.wdg hc ht⟩
    simp only [Bool.and_eq_true, decide_eq_true_eq, beq_iff_eq]
    omega
  · obtain ⟨t, hwrite, hrest⟩ := State.paramWrite_canBt (g := r.wdg) hc hv hfits
    refine ⟨t, congrArg done (State.setRow_stores h hhandle ha ?_ hrsv hwrite), hrest⟩
    simp only [Bool.and_eq_true, decide_eq_true_eq, beq_iff_eq]
    omega
  · obtain ⟨w, hwrite⟩ := State.paramWrite_partCtrl (s := s) (v := leAt r.payload 4 4) (g := r.wdg)
    have heffect : (s.setP 0x1907 w).paramEffect s 0x1907 (leAt r.payload 4 4) =
        (s.setP 0x1907 w).partSend 0x14 (le 1 1 ++ zeros 3) := by
      have h0 : bit 1 0 = true := by decide
      have h1 : bit 1 1 = false := by decide
      rw [State.paramEffect_partCtrl, hv, h0, h1, if_pos rfl, Bool.false_and, if_neg (by decide)]
    rw [heffect] at hwrite
    obtain ⟨hunacked, hseq⟩ := State.partSend_part (s := s.setP 0x1907 w) 0x14 (le 1 1 ++ zeros 3)
    refine ⟨_, ?_, hunacked, hseq⟩
    change execPartResetPartner r s = _
    unfold execPartResetPartner
    rw [if_pos (by rw [hv]; decide)]
    exact congrArg done (State.setRow_stores h hhandle ha (by decide) hrsv hwrite)
  · obtain ⟨w, hwrite⟩ := State.paramWrite_partCtrl (s := s) (v := leAt r.payload 4 4) (g := r.wdg)
    have heffect : (s.setP 0x1907 w).paramEffect s 0x1907 (leAt r.payload 4 4) = (s.setP 0x1907 w).sendResync := by
      have h0 : bit 2 0 = false := by decide
      have h1 : bit 2 1 = true := by decide
      have hstill : (s.setP 0x1907 w).pb 0x1905 0 = true := by
        rw [State.pb, State.p_setP_other _ _ (by decide), ← State.pb, hup]
      rw [State.paramEffect_partCtrl, hv, h0, h1, if_neg Bool.false_ne_true, hstill, if_pos (by decide)]
    rw [heffect] at hwrite
    refine ⟨_, ?_, (State.partSend_part (s := s.setP 0x1907 w) _ _).1⟩
    change execPartResync r s = _
    unfold execPartResync
    rw [if_pos (by rw [hv]; decide)]
    exact congrArg done (State.setRow_stores h hhandle ha (by decide) hrsv hwrite)
  · have hp : (s.setP 0x0702 (leAt r.payload 4 4)).p 0x0702 = leAt r.payload 4 4 :=
      (s.p_setP_same _ _).trans (Nat.mod_eq_of_lt (leAt_word_lt _ _))
    have hpf : (s.setP 0x0702 (leAt r.payload 4 4)).pf 0x0702 0 8 = leAt r.payload 4 4 := by
      rw [State.pf, hp, fld, pow_zero, Nat.div_one, Nat.mod_eq_of_lt (by omega)]
    have hsame : SameParams s (s.setP 0x0702 (leAt r.payload 4 4)) [0x0702] := fun a ha => s.p_setP_other _ (by simpa using ha)
    have hgives := congrArg done (State.setRow_stores (at' := fun a => a == 0x0702) h hhandle ha (by decide) hrsv
      (State.paramWrite_wdgPeriod (s := s) hopen hlo hhi))
    by_cases hq : r.wdg.stamp < s.wdg.loaded
    · have hlen : (s.setP 0x0702 (leAt r.payload 4 4)).wdgLength (.host r.wdg) 0x0702 =
          (s.setP 0x0702 (leAt r.payload 4 4)).mapWdg (fun w => { w with periodMs := 10 * leAt r.payload 4 4 }) := by
        unfold State.wdgLength
        dsimp only
        rw [if_pos ⟨rfl, hq⟩, hpf]
      rw [hlen] at hgives
      exact ⟨_, hgives, hp, hsame, fun hle => absurd hq (by omega), fun _ => rfl⟩
    · have hlen : (s.setP 0x0702 (leAt r.payload 4 4)).wdgLength (.host r.wdg) 0x0702 = s.setP 0x0702 (leAt r.payload 4 4) := by
        unfold State.wdgLength
        dsimp only
        rw [if_neg (fun hc => hq hc.2)]
      rw [hlen] at hgives
      exact ⟨_, hgives, hp, hsame, fun _ => rfl, fun hlt => absurd hlt hq⟩

end Sys2Proof

/-! Handles (R212, R213, R216 to R218, R237): what an accepted OPEN, a CLOSE and an accepted BIND leave in the slots. -/
namespace Sys2Proof.Machine

variable {s t : State} {r : Req} {i : Nat}

theorem State.slot_of_hdl (h : t.hdl = s.hdl) (j : Nat) : t.slot j = s.slot j := by rw [State.slot, State.slot, h]

theorem State.slot_of_slots (h : t.hdl.slots = s.hdl.slots) (j : Nat) : t.slot j = s.slot j := by rw [State.slot, State.slot, h]

theorem State.genOf_of_closes (hbase : t.hdl.base = s.hdl.base) (hcloses : (t.slot i).closes = (s.slot i).closes) :
    t.genOf i = s.genOf i := by rw [State.genOf, State.genOf, hbase, hcloses]

/-- The lowest free slot is one of those searched, and free (R217). -/
theorem State.freeFrom_spec {n k : Nat} (h : s.freeFrom n k = some i) : k ≤ i ∧ i < k + n ∧ (s.slot i).isOpen = false := by
  induction n generalizing k with
  | zero => simp [State.freeFrom] at h
  | succ n ih =>
    unfold State.freeFrom at h
    split at h
    · obtain ⟨hlo, hhi, hfree⟩ := ih h
      exact ⟨by omega, by omega, hfree⟩
    · rename_i hopen
      obtain rfl := Option.some.inj h
      exact ⟨le_refl _, by omega, by simpa using hopen⟩

/-- A current handle's slot is open, and the handle is that slot's (R213). -/
theorem State.current_spec {h : Nat} (hcur : s.current h = some i) :
    i = h % 2 ^ 16 ∧ i < 2048 ∧ (s.slot i).isOpen = true ∧ s.handleOf i = h := by
  unfold State.current at hcur
  dsimp only at hcur
  split at hcur
  · rename_i hfits
    obtain rfl := Option.some.inj hcur
    obtain ⟨hlt, hopen, hhandle⟩ := hfits
    exact ⟨rfl, hlt, hopen, hhandle⟩
  · simp at hcur

/-- The handle of an open slot is current (R212, R213). -/
theorem State.current_of_open {c : Nat} (hi : i < 2048) (hopen : (s.slot i).isOpen = true) (hcls : (s.slot i).cls = c) :
    s.current (c * 2 ^ 26 + s.genOf i * 2 ^ 16 + i) = some i := by
  have hlow : (c * 2 ^ 26 + s.genOf i * 2 ^ 16 + i) % 2 ^ 16 = i := by omega
  unfold State.current
  dsimp only
  rw [hlow, if_pos ⟨hi, hopen, by rw [State.handleOf, hcls]⟩]

/-- A free slot taken by a handle: its handle, its fields, and every other slot (R212, R217). -/
theorem State.slot_taken {s1 : State} {src c res : Nat} {f : HSlot → HSlot} (hi : i < 2048) (hbefore : s1.hdl = s.hdl)
    (hf : (f (s.slot i)).isOpen = true ∧ (f (s.slot i)).cls = c ∧ (f (s.slot i)).res = res ∧ (f (s.slot i)).opener = src ∧
      (f (s.slot i)).closes = (s.slot i).closes)
    (hafter : t.hdl.slots = (s1.updSlot i f).hdl.slots) (hbase : t.hdl.base = s.hdl.base) :
    t.handleOf i = c * 2 ^ 26 + s.genOf i * 2 ^ 16 + i ∧ (t.slot i).isOpen = true ∧ (t.slot i).cls = c ∧
      (t.slot i).res = res ∧ (t.slot i).opener = src ∧ t.current (c * 2 ^ 26 + s.genOf i * 2 ^ 16 + i) = some i ∧
      (∀ j, j ≠ i → t.slot j = s.slot j) := by
  have hslot : t.slot i = f (s.slot i) := by
    rw [State.slot_of_slots hafter, State.updSlot_same, State.slot_of_hdl hbefore]
  obtain ⟨hopen, hcls, hres, hopener, hcloses⟩ := hf
  have hgen : t.genOf i = s.genOf i := State.genOf_of_closes hbase (by rw [hslot, hcloses])
  have hcur := State.current_of_open (s := t) (c := c) hi (by rw [hslot, hopen]) (by rw [hslot, hcls])
  rw [hgen] at hcur
  refine ⟨by rw [State.handleOf, hslot, hcls, hgen], by rw [hslot, hopen], by rw [hslot, hcls], by rw [hslot, hres],
    by rw [hslot, hopener], hcur, fun j hj => ?_⟩
  rw [State.slot_of_slots hafter, State.updSlot_other _ _ hj, State.slot_of_hdl hbefore]

/-- An accepted OPEN takes the slot, and then has its effect (R217, R231). -/
theorem State.openH_takes {src c fl res : Nat} {d : List Byte} (hcheck : s.openCheck src c fl res d = 0)
    (hfree : s.freeFrom 2048 0 = some i) :
    ∃ (u : State) (wr : Bool) (g : Option Nat), s.openH src c fl res d = (0, u.handleOf i, u.openEffect i c res wr g d) ∧
      ∃ (s1 : State) (f : HSlot → HSlot), u.hdl = (s1.updSlot i f).hdl ∧ s1.hdl = s.hdl ∧
        ∀ h, (f h).isOpen = true ∧ (f h).cls = c ∧ (f h).res = res ∧ (f h).opener = src ∧ (f h).closes = h.closes := by
  have hclaim (k ns : Nat) : (s.pgClaim k ns).hdl = s.hdl := (s.pgClaim_frame k ns).2.2.2.2.2.2.1
  unfold State.openH
  dsimp only
  rw [if_neg (not_not.mpr hcheck), hfree]
  dsimp only
  cases s.openPg c res (if c = 1 ∨ c = 2 ∨ c = 5 ∨ c = 0x12 then leAt d 0 4 else 0) with
  | none => exact ⟨_, _, _, rfl, _, _, State.setPf_hdl _ _ _ _ _, rfl, fun _ => ⟨rfl, rfl, rfl, rfl, rfl⟩⟩
  | some k => exact ⟨_, _, _, rfl, _, _, State.setPf_hdl _ _ _ _ _, hclaim k _, fun _ => ⟨rfl, rfl, rfl, rfl, rfl⟩⟩

/-- An OPEN that every check lets through: its handle and its slot (R212, R217). -/
theorem State.openH_opens {src c fl res : Nat} {d : List Byte} (hcheck : s.openCheck src c fl res d = 0)
    (hfree : s.freeFrom 2048 0 = some i) :
    ∃ t, s.openH src c fl res d = (0, c * 2 ^ 26 + s.genOf i * 2 ^ 16 + i, t) ∧ (t.slot i).isOpen = true ∧
      (t.slot i).cls = c ∧ (t.slot i).res = res ∧ (t.slot i).opener = src ∧
      t.current (c * 2 ^ 26 + s.genOf i * 2 ^ 16 + i) = some i ∧ (∀ j, j ≠ i → t.slot j = s.slot j) := by
  have hi : i < 2048 := by have := (State.freeFrom_spec hfree).2.1; omega
  obtain ⟨u, wr, g, hopens, s1, f, hu, hs1, hf⟩ := State.openH_takes hcheck hfree
  have hbase : u.hdl.base = s.hdl.base := by rw [hu, ← hs1]; rfl
  have heffect := (u.openEffect_frame i c res wr g d).2.2.2.2.2.1
  obtain ⟨hhandle, -⟩ := State.slot_taken hi hs1 (hf _) (congrArg Hdl.slots hu) hbase
  obtain ⟨-, hslot⟩ := State.slot_taken (t := u.openEffect i c res wr g d) hi hs1 (hf _)
    (congrArg Hdl.slots (heffect.trans hu)) ((congrArg Hdl.base heffect).trans hbase)
  exact ⟨_, by rw [hopens, hhandle], hslot⟩

theorem State.openH_refused {src c fl res : Nat} {d : List Byte} (hcheck : s.openCheck src c fl res d ≠ 0) :
    s.openH src c fl res d = (s.openCheck src c fl res d, 0, s.conflict (s.openCheck src c fl res d)) := by
  unfold State.openH
  dsimp only
  rw [if_pos hcheck]

theorem State.conflict_p (status : Nat) {a : Nat} (ha : a ≠ 0x0503) : (s.conflict status).p a = s.p a := by
  unfold State.conflict
  split
  · exact State.p_setPf_other _ _ _ _ ha
  · exact State.p_setPf_other _ _ _ _ ha
  · exact State.p_setPf_other _ _ _ _ ha
  · rfl

/-- What a close leaves of a slot: its generation, one higher (R218). -/
theorem State.closeSlot_hdl (hopen : (s.slot i).isOpen = true) : (s.closeSlot i).hdl =
    { s.hdl with
      slots := Tbl.upd HSlot.d s.hdl.slots i (fun x => { HSlot.d with closes := (x.closes + 1) % 1024 })
      leaving := if (s.slot i).writer then s.hdl.leaving ++ [((s.slot i).cls, (s.slot i).res)] else s.hdl.leaving
      acts := if (s.slot i).writer then s.hdl.acts ++ [⟨(s.slot i).cls, (s.slot i).res, 0, (s.slot i).pg, i⟩] else s.hdl.acts
      subs := Tbl.del s.hdl.subs i } := by
  unfold State.closeSlot
  dsimp only
  rw [if_neg (by rw [hopen]; decide)]
  rfl

/-- A close frees the slot, its generation one higher, and a writer's resource is due for its closed state (R218, R224). -/
theorem State.closeHandle_closes (hopen : (s.slot i).isOpen = true) :
    ((s.closeHandle i).slot i).isOpen = false ∧ ((s.closeHandle i).slot i).closes = ((s.slot i).closes + 1) % 1024 ∧
    (∀ j, j ≠ i → (s.closeHandle i).slot j = s.slot j) ∧ (s.closeHandle i).out = s.out ∧
    ((s.slot i).writer = true → (⟨(s.slot i).cls, (s.slot i).res, 0, (s.slot i).pg, i⟩ : CloseAct) ∈ (s.closeHandle i).hdl.acts) := by
  have hleave : (s.captureLeave i (s.slot i).cls).hdl = s.hdl := by simp
  have hstill (j : Nat) := State.slot_of_hdl hleave j
  have hhdl := State.closeSlot_hdl (s := s.captureLeave i (s.slot i).cls) (i := i) (by rw [hstill, hopen])
  rw [hstill, hleave, ← State.closeHandle] at hhdl
  have hslot : (s.closeHandle i).slot i = { HSlot.d with closes := ((s.slot i).closes + 1) % 1024 } := by
    rw [State.slot, hhdl, Tbl.get_upd_same, ← State.slot]
  refine ⟨by rw [hslot]; rfl, by rw [hslot], fun j hj => ?_, by rw [State.closeHandle]; simp, fun hw => ?_⟩
  · rw [State.slot, hhdl, Tbl.get_upd_other _ _ _ hj, ← State.slot]
  · rw [hhdl]
    dsimp only
    rw [if_pos hw]
    exact List.mem_append_right _ List.mem_cons_self

/-- A handle that is closed is current no more (R213). -/
theorem State.current_of_closed {h : Nat} (hslot : h % 2 ^ 16 = i) (hclosed : (s.slot i).isOpen = false) : s.current h = none := by
  unfold State.current
  dsimp only
  rw [hslot, if_neg (by simp [hclosed])]

/-- What an accepted BIND leaves in the slots (R237). -/
theorem State.bindTo_slots (s : State) (i gh : Nat) : ((s.bindTo i gh).slot i).bindH = gh ∧
    ((s.bindTo i gh).slot i).pg = (if gh = 0 then none else (s.current gh).bind (fun j => (s.slot j).pg)) ∧
    (∀ j, j ≠ i → (s.bindTo i gh).slot j = s.slot j) := by
  have hhdl : (s.bindTo i gh).hdl = (s.updSlot i (fun x => { x with
      pg := if gh = 0 then none else (s.current gh).bind (fun j => (s.slot j).pg), bindH := gh })).hdl := by
    unfold State.bindTo
    dsimp only
    split
    · exact (State.hsBind_frame _ _ _).2.2.2.2.2.1
    · exact (State.hbBind_frame _ _ _).2.2.2.2.2.2.2.1
  have hslot := State.slot_of_hdl hhdl
  refine ⟨by rw [hslot, State.updSlot_same], by rw [hslot, State.updSlot_same], fun j hj => ?_⟩
  rw [hslot, State.updSlot_other _ _ hj]

/-- A request that passes its checks names a handle of a class that its opcode accepts (R214). -/
theorem State.slotAt_cls {op : Nat} {l : List Nat} (h : Passes s op r) (hclasses : opClasses op = some l)
    (hzero : l.contains 0 = false) : (slotAt s r).cls ∈ l ∧ s.current r.handle = some (s.slotOf r) := by
  have hcheck : s.handleCheck op r = 0 := by
    have hpre := h.2.2
    unfold State.preCheck at hpre
    split_ifs at hpre with h1 h2 h3 h4
    · exact absurd hpre h3
    · exact hpre
  unfold State.handleCheck at hcheck
  rw [hclasses] at hcheck
  dsimp only at hcheck
  rw [if_neg (by rw [hzero]; simp)] at hcheck
  unfold slotAt State.slotOf
  cases hcur : s.current r.handle with
  | none =>
    rw [hcur] at hcheck
    exact absurd hcheck (Nat.succ_ne_zero 0x1FF)
  | some j =>
    rw [hcur] at hcheck
    dsimp only at hcheck
    split at hcheck
    · rename_i hmem
      exact ⟨List.contains_iff_mem.mp hmem, rfl⟩
    · exact absurd hcheck (by decide)

end Sys2Proof.Machine

namespace Sys2Proof
open Machine

/-- Settles O26: each handle request by what it does to its slot. -/
theorem handleRequests : Obligations.HandleRequests := by
  refine ⟨fun s r i h hrsv hcheck hfree => ?_, fun s r c h hrsv hcheck hc => ?_, fun s r i h hcur => ?_, fun s r h hcheck => ?_,
    fun s r h hreader => ?_, fun s r g h hpg => ?_⟩
  · obtain ⟨t, hopens, hslot⟩ := State.openH_opens hcheck hfree
    refine ⟨t, congrArg done (State.runRow_answers h (by decide) ?_), hslot⟩
    unfold State.opOpen
    dsimp only
    rw [if_neg (not_not.mpr hrsv), hopens, if_pos rfl]
  · refine ⟨s.conflict c, congrArg done (State.runRow_answers h (by decide) ?_), by simp, by simp,
      fun a ha => State.conflict_p c (by simpa using ha)⟩
    have hne : s.openCheck r.port (leAt r.payload 0 1) (leAt r.payload 1 1) (leAt r.payload 4 4) (r.payload.drop 8) ≠ 0 := by
      rw [hcheck]; exact hc
    unfold State.opOpen
    dsimp only
    rw [if_neg (not_not.mpr hrsv), State.openH_refused hne, hcheck, if_neg hc]
    rfl
  · have hslotOf : s.slotOf r = i := by rw [State.slotOf, hcur]; rfl
    obtain ⟨hlow, -, hopen, -⟩ := State.current_spec hcur
    obtain ⟨hclosed, hcloses, hother, hout, hacts⟩ := State.closeHandle_closes hopen
    refine ⟨s.closeHandle i, congrArg done (State.runRow_answers h (by decide) ?_), hclosed, hcloses,
      State.current_of_closed hlow.symm hclosed, hother, hout, hacts⟩
    unfold State.opClose
    rw [hslotOf]
    rfl
  · obtain ⟨hbind, hpg, hother⟩ := s.bindTo_slots (s.slotOf r) (leAt r.payload 0 4)
    refine ⟨_, congrArg done (State.runRow_answers h (by decide) ?_), hbind, hpg, hother⟩
    unfold State.opBind
    dsimp only
    rw [if_pos hcheck]
    rfl
  · obtain ⟨hcls, -⟩ := State.slotAt_cls h (l := [0x01, 0x05]) rfl (by decide)
    have hcheck : s.bindCheck (s.slotOf r) (leAt r.payload 0 4) = 0x0205 := by
      unfold slotAt at hcls hreader
      simp only [List.mem_cons, List.not_mem_nil, or_false] at hcls
      unfold State.bindCheck
      dsimp only
      rw [if_neg (by omega), if_pos hreader]
    refine congrArg done (State.runRow_answers h (by decide) ?_)
    unfold State.opBind
    dsimp only
    rw [hcheck, if_neg (by decide)]
    rfl
  · refine congrArg done (State.runRow_answers h (by decide) ?_)
    unfold slotAt at *
    unfold State.opQuery
    dsimp only
    rw [hpg]
    rfl

end Sys2Proof

/-! Measurement and capture requests (R328, R377, R389, R422, R438, R446, R687). -/
namespace Sys2Proof.Machine

variable {s : State} {r : Req}

/-- What is sent to a worker leaves in the next Apply, in order. -/
theorem State.toWorkers_eq (s : State) (w : Nat) (l : List (Nat × Nat)) : s.toWorkers w l =
    { s with flue := { s.flue with apply := s.flue.apply ++ l.map (fun e => (w, 3 * 65536 + e.1, e.2)) } } := by
  induction l generalizing s with
  | nil =>
    rw [List.map_nil, List.append_nil]
    rfl
  | cons e l ih =>
    have hcons : s.toWorkers w (e :: l) = (s.toWorker w e.1 e.2).toWorkers w l := rfl
    rw [hcons, ih, List.map_cons, State.toWorker]
    dsimp only [State.mapFlue]
    rw [List.append_assoc, List.singleton_append]

/-- SWEEP_READ names the workers whose record of the tick is held, and the tick, before the records (R328). -/
theorem State.opSweepRead_of_fits (hring : leAt r.payload 0 1 ≤ 3) (hlo : 1 ≤ leAt r.payload 1 1) (hhi : leAt r.payload 1 1 ≤ 63)
    (hrsv : leAt r.payload 2 2 = 0) : ∃ l : List Byte, s.opSweepRead r = s.reply 0 (
      le 8 (maskOf ((List.range 64).filter (fun a => 1 ≤ a && (s.heldResult (wKey (leAt r.payload 0 1) a)
        (if leAt r.payload 4 4 = 0 then s.tick32 else leAt r.payload 4 4)).isSome))) ++
      le 4 (if leAt r.payload 4 4 = 0 then s.tick32 else leAt r.payload 4 4) ++ l) := by
  unfold State.opSweepRead
  dsimp only
  rw [if_neg (by omega)]
  exact ⟨_, congrArg (s.reply 0) ((List.append_assoc _ _ _).trans ((List.append_assoc _ _ _).trans (by rw [List.append_assoc])))⟩

theorem State.cellShown_here {w : Nat} {c : CellRec} (hlost : (s.view w).lost = false) : s.cellShown w (some c) = c := by
  unfold State.cellShown
  dsimp only
  rw [if_neg (by rw [hlost]; decide)]

theorem State.cellShown_lost {w : Nat} {c : CellRec} (hlost : (s.view w).lost = true) : s.cellShown w (some c) =
    { c with cstat := (List.range 24).map (fun k => if k < s.cellCount w then 4 else 6) } := by
  unfold State.cellShown
  dsimp only
  rw [if_pos hlost]

/-- CELL_READ of a worker whose latest record is a cell's (R377). -/
theorem State.opCellRead_of_held {b : ResultRec} {c : CellRec}
    (hlast : (s.view (resW (slotAt s r).res)).res.head?.map (·.1) = some b) (hmeas : b.meas = .cell c) :
    s.opCellRead r = ⟨if (s.cellsGood (resW (slotAt s r).res) (s.cellShown (resW (slotAt s r).res) (some c)) &&
        !(s.view (resW (slotAt s r).res)).lost) = true then 0 else 0x0501,
      le 6 b.tick ++ zeros 2 ++ cellBytes (s.cellShown (resW (slotAt s r).res) (some c)), none, s.drawn⟩ := by
  unfold slotAt at *
  unfold State.opCellRead
  dsimp only
  simp only [hlast, Option.bind_some, hmeas, Option.map_some, Option.getD_some, Option.isSome_some, Bool.and_true]

theorem State.opCellRead_of_none (hlast : (s.view (resW (slotAt s r).res)).res = []) :
    s.opCellRead r = ⟨0x0501, le 6 s.tick ++ zeros 2 ++ cellBytes (s.cellShown (resW (slotAt s r).res) none), none, s.drawn⟩ := by
  unfold slotAt at *
  unfold State.opCellRead
  dsimp only
  simp only [hlast, List.head?_nil, Option.map_none, Option.bind_none, Option.getD_none, Option.isSome_none, Bool.and_false,
    Bool.false_eq_true, if_false]

/-- The run that IMP_START begins, and what it sends (R422). -/
theorem State.impBegin_sends (s : State) (i : Nat) : ∃ l : List (Nat × Nat × Nat),
    (s.impBegin i).flue.apply = s.flue.apply ++ l ++ [(resW (s.slot i).res, 3 * 65536 + 0x2B, i)] ∧
    (∃ m, Tbl.find (s.impBegin i).flue.imps i = some m ∧ m.w = resW (s.slot i).res ∧ m.status = 0 ∧ m.done = 0) ∧
    (s.impBegin i).params = s.params ∧ (s.impBegin i).out = s.out := by
  unfold State.impBegin
  dsimp only
  rw [State.toWorkers_eq, List.map_append]
  dsimp only [State.mapFlue]
  exact ⟨_, (List.append_assoc _ _ _).symm, ⟨_, Tbl.find_set_same _ _ _, rfl, rfl, rfl⟩, rfl, rfl⟩

/-- Arming a flare on a trigger of its own while no impedance run is in progress (R438). -/
theorem State.flrArm_arms {slot : Nat} {d : List Byte} {f : FlrMgr} (hf : Tbl.find s.flue.flares slot = some f)
    (himps : s.flue.imps = []) (hsrc : 2 ≤ leAt d 0 1) :
    s.flrArm slot d = { s with flue := { s.flue with
      apply := s.flue.apply ++ (((wordsOf d).zipIdx.map (fun e => (f.w, 3 * 65536 + 0x31 + e.2, e.1))) ++
        [(f.w, 3 * 65536 + 0x35, 0)])
      flares := Tbl.set s.flue.flares slot
        { f with trig := wordsOf d, st := 1, read := false, tick := 0, offset := 0, idx := none } } } := by
  have hsent : ((wordsOf d).zipIdx.map (fun (e : Nat × Nat) => (0x31 + e.2, e.1)) ++ [(0x35, 0)]).map
      (fun (e : Nat × Nat) => (f.w, 3 * 65536 + e.1, e.2)) =
      (wordsOf d).zipIdx.map (fun (e : Nat × Nat) => (f.w, 3 * 65536 + 0x31 + e.2, e.1)) ++ [(f.w, 3 * 65536 + 0x35, 0)] := by
    rw [List.map_append, List.map_map]
    exact congrArg (· ++ _) (List.map_congr_left (fun e _ => by rw [Function.comp_apply, Nat.add_assoc]))
  unfold State.flrArm
  rw [hf]
  dsimp only
  rw [himps, if_neg (by omega), if_neg (by omega), List.filter_nil, State.each, List.foldl_nil, State.toWorkers_eq, hsent,
    State.updFlr]
  dsimp only
  rw [hf]
  dsimp only [State.mapFlue]
  rw [himps]

theorem State.opFlareArm_of_fits (hfits : s.trigFits r.payload = true) (howns : s.owns (resW (slotAt s r).res) = true)
    (hlost : (s.view (resW (slotAt s r).res)).lost = false) :
    s.opFlareArm r = if s.flue.flares.any (fun e => e.2.w == resW (slotAt s r).res && e.2.st == 2) then s.deny 0x0204
      else (s.flrArm (s.slotOf r) r.payload).reply 0 [] := by
  unfold slotAt at *
  unfold State.opFlareArm
  dsimp only
  rw [if_neg (by rw [hfits]; decide), if_neg (by rw [howns]; decide), if_neg (by rw [hlost]; decide)]

/-- No flare of the worker records after its trigger. -/
theorem no_flare_records {l : Tbl FlrMgr} {w : Nat} (h : ∀ e ∈ l, e.2.w = w → e.2.st ≠ 2) :
    l.any (fun e => e.2.w == w && e.2.st == 2) = false := by
  refine List.any_eq_false.mpr (fun e he hboth => ?_)
  obtain ⟨hw, hst⟩ := Bool.and_eq_true_iff.mp hboth
  exact h e he (beq_iff_eq.mp hw) (beq_iff_eq.mp hst)

end Sys2Proof.Machine

namespace Sys2Proof
open Machine

/-- Settles O28: each request by the records held, or by what it sends to the worker. -/
theorem measurementRequests : Obligations.MeasurementRequests := by
  refine ⟨fun s r h hring hlo hhi hrsv => ?_, fun s r b c h hlost hlast hmeas => ?_, fun s r b c h hlost hlast hmeas => ?_,
    fun s r h hnone => ?_, fun s r h hw hmask hpop howns hlost => ?_, fun s r h howns hlost hexc => ?_,
    fun s r f h hfits howns hlost hf hfree => ?_, fun s r f h hfits hsrc howns hlost hf himps hfree => ?_,
    fun s r e h hfits howns hlost he hew hst => ?_, fun s r h hfirst hlost => ?_, fun s r b h hstn hnow hitem => ?_,
    fun s r h hstn => ?_⟩
  · obtain ⟨l, hexec⟩ := State.opSweepRead_of_fits hring hlo hhi hrsv
    exact ⟨l, congrArg done (State.runRow_answers h (by decide) hexec)⟩
  · have hexec := State.opCellRead_of_held hlast hmeas
    rw [State.cellShown_here hlost, hlost, Bool.not_false, Bool.and_true] at hexec
    exact congrArg done (State.runRow_answers h (by decide) hexec)
  · have hexec := State.opCellRead_of_held hlast hmeas
    rw [State.cellShown_lost hlost, hlost, Bool.not_true, Bool.and_false, if_neg (by decide)] at hexec
    exact congrArg done (State.runRow_answers h (by decide) hexec)
  · exact ⟨_, congrArg done (State.runRow_answers h (by decide) (State.opCellRead_of_none hnone)), rfl, rfl⟩
  · refine ⟨_, congrArg done (State.runRow_answers h (by decide) ?_), State.toWorkers_eq s (resW (slotAt s r).res)
      [(0x10, leAt r.payload 0 4), (0x11, leAt r.payload 4 4)]⟩
    unfold slotAt at *
    unfold State.opBalance
    dsimp only
    rw [if_neg (by rw [hw]; decide), if_neg (by omega), if_neg (by rw [howns]; decide), if_neg (by rw [hlost]; decide)]
    rfl
  · obtain ⟨l, happly, himp, hparams, hout⟩ := s.impBegin_sends (s.slotOf r)
    refine ⟨_, l, congrArg done (State.runRow_answers h (by decide) ?_), happly, himp, hparams, hout⟩
    unfold slotAt at *
    unfold State.opImpStart
    dsimp only
    rw [if_neg (by rw [howns]; decide), if_neg (by rw [hlost]; decide), if_neg (fun hb => by rw [hexc] at hb; exact absurd hb.1 (by decide))]
    rfl
  · have hexec := State.opFlareArm_of_fits hfits howns hlost
    rw [no_flare_records hfree, if_neg (by decide)] at hexec
    exact congrArg done (State.runRow_answers h (by decide) hexec)
  · have hexec := State.opFlareArm_of_fits hfits howns hlost
    rw [no_flare_records hfree, if_neg (by decide), State.flrArm_arms hf himps hsrc] at hexec
    refine ⟨_, congrArg done (State.runRow_answers h (by decide) hexec), rfl, Tbl.find_set_same _ _ _, ?_⟩
    exact (List.append_assoc _ _ _).symm
  · have hany : s.flue.flares.any (fun e => e.2.w == resW (slotAt s r).res && e.2.st == 2) = true :=
      List.any_eq_true.mpr ⟨e, he, by rw [hew, hst]; simp⟩
    have hexec := State.opFlareArm_of_fits hfits howns hlost
    rw [if_pos hany] at hexec
    exact congrArg done (State.runRow_answers h (by decide) hexec)
  · unfold slotAt at *
    have hexec : ∃ u : State, s.opFlareRead r = ⟨0, [], some ⟨0, 0, s.cmd.lodge, 0⟩, u⟩ ∧
        u.flue.apply = s.flue.apply ++ [(resW (s.slot (s.slotOf r)).res, 19 * 65536 + leAt r.payload 0 4, leAt r.payload 0 4)] ∧
        u.flue.reads.length = s.flue.reads.length + 1 ∧ u.params = s.params := by
      unfold State.opFlareRead
      dsimp only
      rw [if_neg (by rw [hlost]; decide), if_neg (by omega)]
      exact ⟨_, rfl, rfl, List.length_append, rfl⟩
    obtain ⟨u, hexec, hrest⟩ := hexec
    exact ⟨u, congrArg done (State.runRow_answers h (by decide) hexec), hrest⟩
  · refine congrArg done (State.runRow_answers h (by decide) ?_)
    unfold slotAt at *
    unfold State.opStationRead
    dsimp only
    rw [if_neg (by rw [hstn]; decide), hnow]
    dsimp only
    simp only [if_pos hitem, decide_eq_true hitem, Bool.true_or, if_true]
    rfl
  · refine congrArg done (State.runRow_answers h (by decide) ?_)
    unfold slotAt at *
    unfold State.opStationRead
    dsimp only
    rw [if_pos hstn]
    rfl

end Sys2Proof

/-! Ledger requests (R197 to R201, R478 to R489, R504 to R509): the signed ones by the state that the nonce's end leaves. -/
namespace Sys2Proof.Machine

variable {s : State} {op : Nat} {r : Req} {f : State → Req → Ans}

/-- A signed request whose signature verifies, and whose executor accepts it. -/
theorem State.runRow_verified {status : Nat} {l : List Byte} {wait : Option Await} {t : State} (h : Passes s op r)
    (hsigned : signedOps.contains op = true) (hok : s.signedOk op r = true) (hstatus : status < 0x100)
    (hexec : f (afterNonce s r) r = ⟨status, l, wait, t⟩) : s.runRow op r f = t.answer op r status l wait := by
  rw [State.runRow_runs h, State.runReq_signed h.2.2 hsigned hok, hexec]
  dsimp only
  rw [if_pos hstatus]

theorem State.runRow_unverified (h : Passes s op r) (hsigned : signedOps.contains op = true) (hok : ¬ s.signedOk op r = true) :
    s.runRow op r f = (afterNonce s r).answer op r 0x0303 [] none := by
  rw [State.runRow_runs h, State.runReq_unverified h.2.2 hsigned (Bool.eq_false_iff.mpr hok)]

/-- The nonce's end is the port's alone. -/
theorem afterNonce_keeps (s : State) (r : Req) :
    (afterNonce s r).params = s.params ∧ (afterNonce s r).insts = s.insts ∧ (afterNonce s r).flue = s.flue ∧
    (afterNonce s r).sys = s.sys ∧ (afterNonce s r).nvm = s.nvm ∧ (afterNonce s r).island = s.island ∧
    (afterNonce s r).out = s.out ∧ ((afterNonce s r).port r.port).nonce = none := by
  refine ⟨rfl, rfl, rfl, rfl, rfl, rfl, rfl, ?_⟩
  rw [afterNonce, State.updPort_same]

theorem State.port_of_cmd {t : State} (h : t.cmd = s.cmd) (p : Nat) : t.port p = s.port p := by rw [State.port, State.port, h]

theorem State.inst_of_insts {t : State} (h : t.insts = s.insts) (n : Nat) : t.inst n = s.inst n := by
  rw [State.inst, State.inst, h]

theorem afterNonce_inst (n : Nat) : (afterNonce s r).inst n = s.inst n := State.inst_of_insts rfl n

theorem afterNonce_instOn (n : Nat) : (afterNonce s r).instOn n = s.instOn n := State.pb_of_params rfl _ _

theorem afterNonce_instState (n : Nat) : (afterNonce s r).instState n = s.instState n := State.pf_of_params rfl _ _ _

theorem afterNonce_instLives (n : Nat) : (afterNonce s r).instLives n = s.instLives n := by
  rw [State.instLives, State.instLives, afterNonce_instState]

theorem afterNonce_instW (n : Nat) : (afterNonce s r).instW n = s.instW n := by
  rw [State.instW, State.instW, State.pf_of_params (afterNonce_keeps s r).1, State.pf_of_params (afterNonce_keeps s r).1]

theorem afterNonce_view (w : Nat) : (afterNonce s r).view w = s.view w := by
  rw [State.view, State.view, (afterNonce_keeps s r).2.2.1]

theorem afterNonce_ownsInst (n : Nat) : (afterNonce s r).ownsInst n = s.ownsInst n := by
  have hrole : (afterNonce s r).role = s.role := by rw [State.role, State.role, (afterNonce_keeps s r).2.2.2.1]
  rw [State.ownsInst, State.ownsInst, State.owns, State.owns, hrole, afterNonce_instW, afterNonce_view]

/-- An acknowledged level rises, and does not fall (R485). -/
theorem State.ackTurfs_acks {n idx : Nat} (hany : (s.inst n).any = true) (hidx : idx ≤ (s.inst n).newest)
    (hlevel : (s.inst n).ackAny = true ∨ (s.inst n).acked = 0) :
    ∃ u, s.ackTurfs n idx = (0, u) ∧ (u.inst n).ackAny = true ∧ (u.inst n).acked = Nat.max idx (s.inst n).acked ∧ u.cmd = s.cmd := by
  unfold State.ackTurfs
  dsimp only
  rw [if_neg (by rw [hany]; simpa using hidx)]
  by_cases hold : idx ≤ (s.inst n).acked ∧ (s.inst n).ackAny = true
  · rw [if_pos hold]
    exact ⟨s, rfl, hold.2, (Nat.max_eq_right hold.1).symm, rfl⟩
  · rw [if_neg hold]
    have hmax : Nat.max idx (s.inst n).acked = idx := by
      refine Nat.max_eq_left ?_
      rcases hlevel with h | h
      · by_contra hlt
        exact hold ⟨by omega, h⟩
      · omega
    refine ⟨_, rfl, ?_, ?_, rfl⟩
    · rw [State.updInst_same]
    · rw [State.updInst_same, hmax]

/-- What SET_TIME sets (R506). -/
theorem State.setTime_sets (rtc : Nat) : (s.setTime rtc).island.rtc = rtc ∧ (s.setTime rtc).island.rtcUs = 0 ∧
    (s.setTime rtc).pb 0x0203 2 = false ∧ (s.setTime rtc).out = s.out := by
  have hisland : (s.setTime rtc).island = { s.island with rtc := rtc, rtcUs := 0 } := by
    have hspans := State.each_keeps State.island (s.mapIsland (fun i => { i with rtc := rtc, rtcUs := 0 })).instances
      (fun t n => t.spanEnd n 0 s.island.rtc true) (fun t n => (t.spanEnd_frame _ _ _ _).2.2.2.1)
      (s.mapIsland (fun i => { i with rtc := rtc, rtcUs := 0 }))
    rw [State.setTime, (State.sendTimes_frame _).2.2.2.1, State.setPb_island]
    exact hspans
  refine ⟨by rw [hisland], by rw [hisland], ?_, (s.setTime_frame rtc).2.2.2.2.2.2.2.2.1⟩
  rw [State.setTime, State.pb_of_params (State.sendTimes_frame _).2.2.2.2.2.1, State.pb_setPb_same _ _ _ _ (by decide)]

end Sys2Proof.Machine

namespace Sys2Proof.Machine

variable {s : State} {r : Req}

theorem b2n_le_one (b : Bool) : b2n b ≤ 1 := by cases b <;> decide

/-- SET_TIME's executor: the time is set, and the partner is told (R506, R538). -/
theorem State.opSetTime_sets : ∃ u, s.opSetTime r = ⟨0, [], none, u⟩ ∧ u.island.rtc = leAt (bodyOf r) 0 4 ∧
    u.island.rtcUs = 0 ∧ u.pb 0x0203 2 = false ∧ u.out = s.out := by
  obtain ⟨hrtc, hus, hbit, hout⟩ := State.setTime_sets (s := s) (leAt (bodyOf r) 0 4)
  unfold State.opSetTime
  dsimp only
  split
  · obtain ⟨-, -, -, hisland, -, hparams, -, -, -, -, hsout, -⟩ :=
      (s.setTime (leAt (bodyOf r) 0 4)).ledgSync_frame (by assumption) 4 (le 4 (leAt (bodyOf r) 0 4))
    exact ⟨_, rfl, by rw [hisland, hrtc], by rw [hisland, hus], by rw [State.pb_of_params hparams, hbit], by rw [hsout, hout]⟩
  · exact ⟨_, rfl, hrtc, hus, hbit, hout⟩

/-- TURF_ACK's executor, for an `Inst` that may be acknowledged (R485). -/
theorem State.opTurfAck_acks (hn : leAt (bodyOf r) 0 1 < 8) (hrsv : leAt (bodyOf r) 1 3 = 0)
    (hon : s.instOn (leAt (bodyOf r) 0 1) = true) (howns : s.ownsInst (leAt (bodyOf r) 0 1) = true)
    (hany : (s.inst (leAt (bodyOf r) 0 1)).any = true) (hidx : leAt (bodyOf r) 4 4 ≤ (s.inst (leAt (bodyOf r) 0 1)).newest)
    (hlevel : (s.inst (leAt (bodyOf r) 0 1)).ackAny = true ∨ (s.inst (leAt (bodyOf r) 0 1)).acked = 0) :
    ∃ u, s.opTurfAck r = ⟨0, [], none, u⟩ ∧ (u.inst (leAt (bodyOf r) 0 1)).ackAny = true ∧
      (u.inst (leAt (bodyOf r) 0 1)).acked = Nat.max (leAt (bodyOf r) 4 4) (s.inst (leAt (bodyOf r) 0 1)).acked ∧ u.cmd = s.cmd := by
  obtain ⟨u, hacks, hack, hacked, hcmd⟩ := State.ackTurfs_acks hany hidx hlevel
  unfold State.opTurfAck
  dsimp only
  rw [if_neg (by rw [hon]; simp; omega), if_neg (by rw [howns]; decide), hacks, if_neg (not_not.mpr rfl)]
  split
  · obtain ⟨-, -, -, -, -, -, hscmd, -, -, -, -, -, hinsts, -⟩ :=
      u.ledgSync_frame (leAt (bodyOf r) 0 1) 2 (le 4 (u.inst (leAt (bodyOf r) 0 1)).acked)
    exact ⟨_, rfl, by rw [State.inst_of_insts hinsts, hack], by rw [State.inst_of_insts hinsts, hacked], by rw [hscmd, hcmd]⟩
  · exact ⟨_, rfl, hack, hacked, hcmd⟩

/-- SHARD_PAIR's executor, for one holder (R489). -/
theorem State.opShardPair_pairs {n ring addr : Nat} (hn : leAt (bodyOf r) 0 1 = n) (hlt : n < 8) (hk : leAt (bodyOf r) 1 1 = 1)
    (hrsv : leAt (bodyOf r) 2 2 = 0) (hring : leAt (bodyOf r) 4 1 = ring) (haddr : leAt (bodyOf r) 5 1 = addr)
    (hon : s.instOn n = true) (hr3 : ring ≤ 3) (ha63 : addr ≤ 63) (hhere : (s.view (wKey ring addr)).here = true)
    (hother : wKey ring addr ≠ s.instW n) (howns : s.ownsInst n = true) :
    ∃ u, s.opShardPair r = ⟨0, [], none, u⟩ ∧ (u.inst n).bind.holders = [(ring, addr)] ∧ u.pf (instStat n) 16 5 = 1 := by
  have hlist : (List.range 1).map (fun j => (leAt (bodyOf r) (4 + 2 * j) 1, leAt (bodyOf r) (5 + 2 * j) 1)) = [(ring, addr)] := by
    rw [← hring, ← haddr]
    rfl
  have hone : [(ring, addr)].eraseDups = [(ring, addr)] := by simp [List.eraseDups_cons]
  unfold State.opShardPair
  dsimp only
  rw [hk, hn, hlist, if_neg (by simp [hon, hrsv, hr3, ha63, hhere, hother, hone, hlt]), if_neg (by rw [howns]; decide)]
  obtain ⟨-, -, -, -, -, hparams, -, -, -, -, -, -, hinsts, -⟩ := ((s.updInst n (fun i => { i with
    bind := { i.bind with holders := [(ring, addr)] }, snapNext := true })).setPf (instStat n) 16 5 1).ledgSync_frame n 3
    (bindingBytes (((s.updInst n (fun i => { i with bind := { i.bind with holders := [(ring, addr)] }, snapNext := true })).setPf
      (instStat n) 16 5 1).inst n).bind)
  refine ⟨_, rfl, ?_, ?_⟩
  · rw [State.bindSync, State.inst_of_insts hinsts, State.inst_of_insts (State.setPf_insts _ _ _ _ _), State.updInst_same]
  · rw [State.bindSync, State.pf_of_params hparams, State.pf_setPf_same _ _ _ _ _ (by decide)]
    decide

/-- LEDGER_PROVISION's executor, for an `Inst` that lives nowhere yet (R504, R505). -/
theorem State.opLedgerProvision_provisions {n : Nat} (hn : leAt (bodyOf r) 0 1 = n) (hlt : n < 8) (hrsv : leAt (bodyOf r) 1 3 = 0)
    (hrsv' : leAt (bodyOf r) 45 3 = 0) (hon : s.instOn n = true) (hhere : (s.view (s.instW n)).here = true)
    (hmeter : (s.view (s.instW n)).meter = true) (hserial : (s.view (s.instW n)).serial = leAt (bodyOf r) 4 8)
    (howns : s.ownsInst n = true) (hlives : s.instLives n = false) :
    ∃ l, s.opLedgerProvision r = ⟨0, l, none, s.provision n (leAt (bodyOf r) 4 8) (leAt (bodyOf r) 44 1)
      [leAt (bodyOf r) 12 8, leAt (bodyOf r) 20 8, leAt (bodyOf r) 28 8, leAt (bodyOf r) 36 8]⟩ := by
  unfold State.opLedgerProvision
  dsimp only
  rw [hn, if_neg (by rw [hon, hrsv, hrsv']; simp; omega), if_neg (by rw [hhere, hmeter, hserial]; simp),
    if_neg (by rw [howns]; decide), if_neg (fun h => by rw [hlives] at h; exact absurd h.1 (by decide))]
  exact ⟨_, rfl⟩

/-- RELIGHT's executor, for running instances that this manager owns (R507, R508). -/
theorem State.opRelight_queues (hfl : leAt (bodyOf r) 1 1 = 0) (hrsv : leAt (bodyOf r) 2 2 = 0)
    (hall : ∀ n ∈ bitsOf (leAt (bodyOf r) 0 1) 8, s.instState n = 2 ∧ s.ownsInst n = true)
    (hleft : popcount (fld s.nvm.fuseOr.toNat 0x47E 7) 7 ≠ 7) :
    s.opRelight r = ⟨1, [], none, s.mapCmd (fun m => { m with relights := m.relights ++ [leAt (bodyOf r) 0 1] })⟩ := by
  have hrun : (bitsOf (leAt (bodyOf r) 0 1) 8).any (fun n => s.instState n != 2) = false :=
    List.any_eq_false.mpr (fun n hn => by simp [(hall n hn).1])
  have hown : (bitsOf (leAt (bodyOf r) 0 1) 8).any (fun n => !s.ownsInst n) = false :=
    List.any_eq_false.mpr (fun n hn => by simp [(hall n hn).2])
  unfold State.opRelight
  dsimp only
  rw [hrun, hown, hfl, if_neg (by rw [hrsv]; decide), if_neg (by decide), if_neg (by decide), if_neg hleft]
  rfl

/-- A relight that burns its fuse (R508). -/
theorem relightComplete_burns {m : Nat} {l : List Nat} (hwaits : s.cmd.relights = m :: l)
    (hleft : popcount (fld s.nvm.fuseOr.toNat 0x47E 7) 7 ≠ 7) :
    execRelightComplete true s = done { s with
      nvm := { s.nvm with relit := true, fuses := s.nvm.fuses |||
        ((1#4096 <<< (0x47E + popcount (fld s.nvm.fuseOr.toNat 0x47E 7) 7)) |||
        (1#4096 <<< (0xC7E + popcount (fld s.nvm.fuseOr.toNat 0x47E 7) 7))) }
      cmd := { s.cmd with relights := l, burnt := s.cmd.burnt ++ [(m, false)] } } := by
  unfold execRelightComplete
  rw [hwaits]
  dsimp only
  rw [if_neg (by simp [hleft])]
  rfl

theorem relightComplete_fails {m : Nat} {l : List Nat} (hwaits : s.cmd.relights = m :: l) :
    execRelightComplete false s = done ((s.mapCmd (fun c => { c with relights := l })).raise 62 []) := by
  unfold execRelightComplete
  rw [hwaits]
  dsimp only
  rw [if_pos (by simp)]

theorem relightComplete_none (b : Bool) (hnone : s.cmd.relights = []) : execRelightComplete b s = done s := by
  unfold execRelightComplete
  rw [hnone]

end Sys2Proof.Machine

namespace Sys2Proof
open Machine

/-- Settles O29: each signed request in the state that its nonce's end leaves. -/
theorem ledgerRequests : Obligations.LedgerRequests := by
  refine ⟨fun s r a h hn hmirror hlives => ?_, fun s r t h hn hrsv hc1 hc15 hbad hturfs => ?_, fun s r h => ?_,
    fun s r h hn hrsv hon howns hany hidx hlevel => ?_,
    fun s r h hn hrsv hrsv' hon hhere hmeter hserial howns hlives => ?_, fun s r h hfl hrsv hall hleft => ?_, fun s r h => ?_,
    fun s r h hn hk hrsv hon hring haddr hhere hother howns => ?_, fun s m l hwaits hleft => ?_, fun s m l hwaits => ?_,
    fun s hnone => ⟨relightComplete_none true hnone, relightComplete_none false hnone⟩⟩
  · have hexec : ∃ b, b ≤ 1 ∧ s.opLedgerRead r = s.reply 0 (slotBytes a ++ le 1 b ++ zeros 3) := by
      unfold State.opLedgerRead
      dsimp only
      rw [if_neg (by omega), hmirror, if_pos hlives]
      exact ⟨_, b2n_le_one _, rfl⟩
    obtain ⟨b, hb, hexec⟩ := hexec
    exact ⟨b, hb, congrArg done (State.runRow_answers h (by decide) hexec)⟩
  · refine congrArg done (State.runRow_answers h (by decide) ?_)
    have htake : [t].take (leAt r.payload 8 2) = [t] := List.take_of_length_le hc1
    unfold State.opTurfRead
    dsimp only
    rw [if_neg (by omega), hturfs, htake, List.reverse_singleton]
    dsimp only
    rw [List.flatMap_singleton, State.readMram_good hbad]
    rfl
  · refine ⟨_, _, congrArg done (State.runRow_answers h (by decide) rfl), ?_, ?_, fun p hp => ?_⟩
    · rw [List.length_map, List.length_range]
    · rw [State.updPort_same]
    · rw [State.updPort_other _ _ hp]
      rfl
  · split
    · rename_i hok
      obtain ⟨u, hexec, hack, hacked, hcmd⟩ := State.opTurfAck_acks (s := afterNonce s r) hn hrsv
        ((afterNonce_instOn _).trans hon) ((afterNonce_ownsInst _).trans howns) (by rw [afterNonce_inst, hany])
        (by rw [afterNonce_inst]; exact hidx) (by rw [afterNonce_inst]; exact hlevel)
      rw [afterNonce_inst] at hacked
      refine ⟨u, congrArg done (State.runRow_verified h (by decide) hok (by decide) hexec), hack, hacked, ?_⟩
      rw [State.port_of_cmd hcmd, (afterNonce_keeps s r).2.2.2.2.2.2.2]
    · rename_i hok
      exact congrArg done (State.runRow_unverified h (by decide) hok)
  · split
    · rename_i hok
      obtain ⟨l, hexec⟩ := State.opLedgerProvision_provisions (s := afterNonce s r) rfl hn hrsv hrsv'
        ((afterNonce_instOn _).trans hon) (by rw [afterNonce_instW, afterNonce_view, hhere])
        (by rw [afterNonce_instW, afterNonce_view, hmeter]) (by rw [afterNonce_instW, afterNonce_view, hserial])
        ((afterNonce_ownsInst _).trans howns) ((afterNonce_instLives _).trans hlives)
      exact ⟨_, l, congrArg done (State.runRow_verified h (by decide) hok (by decide) hexec), rfl⟩
    · rename_i hok
      exact congrArg done (State.runRow_unverified h (by decide) hok)
  · split
    · rename_i hok
      have hexec := State.opRelight_queues (s := afterNonce s r) hfl hrsv
        (fun n hn => by rw [afterNonce_instState, afterNonce_ownsInst]; exact hall n hn)
        (by rw [(afterNonce_keeps s r).2.2.2.2.1]; exact hleft)
      exact ⟨_, congrArg done (State.runRow_verified h (by decide) hok (by decide) hexec), rfl, rfl, rfl⟩
    · rename_i hok
      exact congrArg done (State.runRow_unverified h (by decide) hok)
  · split
    · rename_i hok
      obtain ⟨u, hexec, hrest⟩ := State.opSetTime_sets (s := afterNonce s r) (r := r)
      exact ⟨u, congrArg done (State.runRow_verified h (by decide) hok (by decide) hexec), hrest⟩
    · rename_i hok
      exact congrArg done (State.runRow_unverified h (by decide) hok)
  · split
    · rename_i hok
      obtain ⟨u, hexec, hrest⟩ := State.opShardPair_pairs (s := afterNonce s r) rfl hn hk hrsv rfl rfl
        ((afterNonce_instOn _).trans hon) hring haddr (by rw [afterNonce_view, hhere])
        (by rw [afterNonce_instW]; exact hother) ((afterNonce_ownsInst _).trans howns)
      exact ⟨u, congrArg done (State.runRow_verified h (by decide) hok (by decide) hexec), hrest⟩
    · rename_i hok
      exact congrArg done (State.runRow_unverified h (by decide) hok)
  · exact ⟨_, relightComplete_burns hwaits hleft, rfl, (BitVec.or_assoc _ _ _).symm, rfl, rfl⟩
  · refine ⟨_, relightComplete_fails hwaits, ?_, State.raise_latched _ _ rfl, ?_, ?_, ?_⟩
    · rw [(State.raise_frame _ _ _).2.2.2.1]
      rfl
    · rw [(State.raise_frame _ _ _).2.2.2.2.1]
      rfl
    · rw [(State.raise_frame _ _ _).2.2.2.2.1]
      rfl
    · rw [State.raise_out]
      rfl

end Sys2Proof

/-! Event requests (R258, R259, R262, R267). -/
namespace Sys2Proof.Machine

variable {s : State} {r : Req} {i : Nat}

theorem mem_bitsOf {x n k : Nat} : k ∈ bitsOf x n ↔ k < n ∧ bit x k = true := by simp [bitsOf]

theorem State.opEventRead_one {e : JEntry} (hcnt : leAt r.payload 4 2 = 1) (hfirst : leAt r.payload 0 4 < s.nvm.jnext)
    (hkept : s.nvm.jnext ≤ leAt r.payload 0 4 + 8192) (he : s.jFind (leAt r.payload 0 4) = some e) :
    s.opEventRead r = s.reply 0 (le 4 (leAt r.payload 0 4 + 1) ++ jBytes e) := by
  have hfrom : Nat.max (leAt r.payload 0 4) (s.nvm.jnext - 8192) = leAt r.payload 0 4 := Nat.max_eq_left (by omega)
  have hone : Nat.min (Nat.min 1 127) (s.nvm.jnext - leAt r.payload 0 4) = 1 := Nat.min_eq_left (by change 1 ≤ _; omega)
  unfold State.opEventRead
  dsimp only
  rw [if_neg (by omega), hfrom, hcnt, hone, List.range_one, List.flatMap_singleton, Nat.add_zero (leAt r.payload 0 4), he]

/-- A subscription takes the lowest free slot, with its mask (R216, R262). -/
theorem State.opEventSubscribe_subscribes (hport : r.port ≠ 1) (hroom : (s.hdl.subs.filter (fun e => e.2.port == r.port)).length < 8)
    (hfree : s.freeFrom 2048 0 = some i) :
    ∃ u, s.opEventSubscribe r = ⟨0, le 4 (0x11 * 2 ^ 26 + s.genOf i * 2 ^ 16 + i), none, u⟩ ∧
      Tbl.find u.hdl.subs i = some ⟨r.port, leAt r.payload 0 8, r.iface, 0, 0⟩ ∧ (u.slot i).isOpen = true ∧
      (u.slot i).cls = 0x11 := by
  have hi : i < 2048 := by have := (State.freeFrom_spec hfree).2.1; omega
  have htaken {u : State} (hslots : u.hdl.slots = (s.updSlot i (fun h => { h with isOpen := true, cls := 0x11, opener := r.port })).hdl.slots)
      (hbase : u.hdl.base = s.hdl.base) := State.slot_taken (src := r.port) (c := 0x11) (res := (s.slot i).res) hi rfl
    ⟨rfl, rfl, rfl, rfl, rfl⟩ hslots hbase
  have hsubs (x : Nat) (sub : Subs) := htaken (u := ((s.updSlot i (fun h => { h with isOpen := true, cls := 0x11, opener := r.port
    })).setPf 0x0500 16 12 x).mapHdl (fun h => { h with subs := Tbl.set h.subs i sub })) (by rw [State.mapHdl_hdl, State.setPf_hdl])
    (by rw [State.mapHdl_hdl, State.setPf_hdl]; rfl)
  unfold State.opEventSubscribe
  rw [if_neg (by omega), hfree]
  dsimp only
  rw [if_neg hport, if_neg hport]
  exact ⟨_, congrArg (fun x => State.reply _ 0 (le 4 x)) (hsubs _ _).1, Tbl.find_set_same _ _ _, (hsubs _ _).2.1, (hsubs _ _).2.2.1⟩

/-- What EVENT_CLEAR leaves of a latch (R258, R259). -/
theorem State.clearEvs_latched {e : Nat} (mask : Nat) (he : e < 64) : (s.clearEvs mask).latched e =
    (s.latched e && (!bit mask e || (evLevels.contains e && s.holds e))) := by
  have hlt (b : Nat) (hb : b ∈ bitsOf mask 64) : b < 64 := (mem_bitsOf.mp hb).1
  by_cases hbit : bit mask e = true
  · by_cases hlevel : evLevels.contains e = true ∧ s.holds e = true
    · rw [State.clearEvs, State.clearEvs_spare (fun b => b) _ hlt he (Or.inr hlevel), hbit, hlevel.1, hlevel.2]
      simp
    · have hno : (evLevels.contains e && s.holds e) = false :=
        Bool.eq_false_iff.mpr (fun hboth => hlevel (Bool.and_eq_true_iff.mp hboth))
      rw [State.clearEvs, State.clearEvs_clear (fun b => b) _ hlt he (by rw [List.map_id']; exact mem_bitsOf.mpr ⟨he, hbit⟩) hlevel,
        hbit, hno]
      simp
  · have hoff : bit mask e = false := Bool.eq_false_iff.mpr hbit
    rw [State.clearEvs, State.clearEvs_spare (fun b => b) _ hlt he
      (Or.inl (by rw [List.map_id']; exact fun hmem => hbit (mem_bitsOf.mp hmem).2)), hoff]
    simp

theorem State.clearEvs_keeps (mask : Nat) : (s.clearEvs mask).sys = s.sys ∧ (s.clearEvs mask).out = s.out ∧
    (s.clearEvs mask).nvm = s.nvm := by
  simp [State.clearEvs, State.clearEv]

end Sys2Proof.Machine

/-! Requests on the Stoker cores (R179, R180, R737, R773 to R775). -/
namespace Sys2Proof.Machine

variable {s : State} {r : Req}

/-- Words put one after another: each stands at its place, and what lies below stays. -/
theorem get_foldl_put {n off : Nat} (l : List Nat) : ∀ (k : Nat) (m : Tbl (BitVec n)),
    (∀ i < k, Tbl.get 0#n ((l.zipIdx k).foldl (fun m e => Tbl.put 0#n m (off + e.2) (BitVec.ofNat n e.1)) m) (off + i) =
      Tbl.get 0#n m (off + i)) ∧
    (∀ j, (h : j < l.length) → Tbl.get 0#n ((l.zipIdx k).foldl (fun m e => Tbl.put 0#n m (off + e.2) (BitVec.ofNat n e.1)) m)
      (off + (k + j)) = BitVec.ofNat n l[j]) := by
  induction l with
  | nil => exact fun k m => ⟨fun _ _ => rfl, fun j h => absurd h (Nat.not_lt_zero j)⟩
  | cons x l ih =>
    intro k m
    obtain ⟨hbelow, hat⟩ := ih (k + 1) (Tbl.put 0#n m (off + k) (BitVec.ofNat n x))
    rw [List.zipIdx_cons, List.foldl_cons]
    refine ⟨fun i hi => ?_, fun j hj => ?_⟩
    · rw [hbelow i (by omega), Tbl.get_put_other _ _ _ (by omega)]
    · match j with
      | 0 => exact (hbelow k (by omega)).trans (Tbl.get_put_same _ _ _ _)
      | j + 1 =>
        rw [show k + (j + 1) = k + 1 + j by omega, hat j (by simpa using hj)]
        rfl

theorem loadWords_length {k : Nat} {d : List Byte} (hlen : d.length = 4 + 4 * k) : (loadWords 4 d).length = k + 1 := by
  rw [loadWords, List.length_map, List.length_range, hlen]
  omega

theorem loadWords_get {k : Nat} {d : List Byte} (hk : k < (loadWords 4 d).length) : (loadWords 4 d)[k] = leAt d (4 * k) 4 := by
  simp [loadWords]

/-- The manager's close of a handle leaves the cores, the memories and every parameter that no event writes. -/
theorem State.closeHandle_keeps (i : Nat) : (s.closeHandle i).cores = s.cores ∧ (s.closeHandle i).nvm = s.nvm ∧
    (∀ a, a ≠ 0x0600 → a ≠ 0x060C → (s.closeHandle i).p a = s.p a) := by
  refine ⟨by simp [State.closeHandle], by simp [State.closeHandle], fun a ha ha' => ?_⟩
  have hslot (t : State) : (t.closeSlot i).p a = t.p a := State.p_of_params (t.closeSlot_frame i).2.2.2.2.2.1 a
  have hfinish (t : State) (k : Nat) : (t.impFinish k 2).p a = t.p a := by
    unfold State.impFinish
    split
    · rfl
    · dsimp only
      split
      · rfl
      · rw [State.raise_p _ _ _ ha ha']
        exact State.p_of_params (State.updImp_frame _ _ _).2.2.2.2.2.1 a
  rw [State.closeHandle, hslot]
  unfold State.captureLeave
  split
  · split
    · refine (State.mapFlue_p _ _ a).trans ?_
      exact (State.mapFlue_p _ _ a).trans (hfinish _ _)
    · rfl
  · split
    · exact State.mapFlue_p _ _ _
    · rfl
  · rfl

theorem State.closeAll_keeps (l : List Nat) : (s.each l (fun t i => t.closeHandle i)).cores = s.cores ∧
    (s.each l (fun t i => t.closeHandle i)).nvm = s.nvm ∧
    (∀ a, a ≠ 0x0600 → a ≠ 0x060C → (s.each l (fun t i => t.closeHandle i)).p a = s.p a) :=
  ⟨State.each_keeps State.cores l (fun t i => t.closeHandle i) (fun t i => (t.closeHandle_keeps i).1) s,
    State.each_keeps State.nvm l (fun t i => t.closeHandle i) (fun t i => (t.closeHandle_keeps i).2.1) s,
    fun a ha ha' => State.each_keeps (fun t => t.p a) l (fun t i => t.closeHandle i)
      (fun t i => (t.closeHandle_keeps i).2.2 a ha ha') s⟩

/-- The state of a core whose store is loaded: an EMPTY core is HALTED at ENTRY (R737). -/
def State.loadedCore (s old : State) (c : Nat) : State :=
  if old.stkState c = 0 then
    (s.updCore c (fun k => { k with regs := [], rstack := [], pc := old.pf (stkCfg c) 0 13 })).setPf (stkStat c) 0 3 1
  else s

theorem State.loadedCore_keeps {old : State} {c : Nat} (hstat : s.p (stkStat c) = old.p (stkStat c)) :
    ((s.loadedCore old c).core c).imem = (s.core c).imem ∧ (s.loadedCore old c).nvm = s.nvm ∧
    (s.loadedCore old c).stkState c ≠ 0 := by
  unfold State.loadedCore
  split
  · refine ⟨by rw [State.setPf_core, State.updCore_same], by rw [State.setPf_nvm, State.updCore_nvm], ?_⟩
    rw [State.stkState, State.pf_setPf_same _ _ _ _ _ (by decide)]
    decide
  · rename_i hloaded
    exact ⟨rfl, rfl, by rw [State.stkState_of_p hstat]; exact hloaded⟩

/-- A program loaded into a core's instruction memory, and into its store (R179, R736, R737). -/
theorem State.opStokerLoad_loads {c k off : Nat} (hc : leAt r.payload 0 1 = c) (hoff : leAt r.payload 4 4 = off) (hc3 : c ≤ 3)
    (harea : leAt r.payload 1 1 = 0) (hrsv : leAt r.payload 2 2 = 0) (hlen : r.payload.length = 12 + 4 * k)
    (hroom : off + k < 8192) (hstill : s.stkState c ≠ 2) :
    ∃ u, s.opStokerLoad r = ⟨0, [], none, u⟩ ∧
      (∀ j, j ≤ k → Tbl.get 0#32 (u.core c).imem (off + j) = BitVec.ofNat 32 (leAt r.payload (8 + 4 * j) 4)) ∧
      c ∈ u.nvm.stored ∧ u.stkState c ≠ 0 := by
  have hd : (r.payload.drop 8).length = 4 + 4 * k := by rw [List.length_drop, hlen]; omega
  have hws := loadWords_length hd
  have hwords (j : Nat) (hj : j ≤ k) : Tbl.get 0#32 ((loadWords 4 (r.payload.drop 8)).zipIdx.foldl
      (fun m e => Tbl.put 0#32 m (off + e.2) (BitVec.ofNat 32 e.1)) (s.core c).imem) (off + j) =
      BitVec.ofNat 32 (leAt r.payload (8 + 4 * j) 4) := by
    have hput := (get_foldl_put (n := 32) (off := off) (loadWords 4 (r.payload.drop 8)) 0 (s.core c).imem).2 j (by omega)
    rw [Nat.zero_add, loadWords_get] at hput
    rw [hput, leAt, leAt, List.drop_drop]
  unfold State.opStokerLoad
  dsimp only
  rw [hc, hoff, harea, if_pos rfl, if_pos rfl, if_neg (by rw [hws, hrsv]; omega), if_neg hstill]
  obtain ⟨u, hu, himem, hmem, hp⟩ : ∃ u, (s.coreStore c 0 off (loadWords 4 (r.payload.drop 8))).mapNvm
      (fun v => { v with stored := insNat c v.stored }) = u ∧
      (u.core c).imem = (loadWords 4 (r.payload.drop 8)).zipIdx.foldl
        (fun m e => Tbl.put 0#32 m (off + e.2) (BitVec.ofNat 32 e.1)) (s.core c).imem ∧
      c ∈ u.nvm.stored ∧ u.p (stkStat c) = s.p (stkStat c) := by
    refine ⟨_, rfl, ?_, mem_insNat _ _, ?_⟩
    · unfold State.coreStore
      rw [if_pos rfl, State.core, State.mapNvm_cores, State.mramFresh, State.mapNvm_cores, State.mapNvm_cores, ← State.core,
        State.updCore_same]
    · unfold State.coreStore
      rw [if_pos rfl, State.mapNvm_p, State.mramFresh, State.mapNvm_p, State.mapNvm_p, State.updCore_p]
  rw [hu, ← State.loadedCore]
  obtain ⟨hcore, hnvm, hstate⟩ := State.loadedCore_keeps (s := u) (old := s) hp
  obtain ⟨hcores, hnvms, hps⟩ := State.closeAll_keeps (s := u.loadedCore s c)
    (((u.loadedCore s c).openSlots.filter (fun e => e.2.opener == 4 + c)).map (·.1))
  refine ⟨_, rfl, fun j hj => ?_, by rw [hnvms, hnvm]; exact hmem, ?_⟩
  · rw [State.core, hcores, ← State.core, hcore, himem, hwords j hj]
  · rw [State.stkState_of_p (hps _ (by unfold stkStat; omega) (by unfold stkStat; omega))]
    exact hstate

/-- A pass that writes cores writes nothing else. -/
theorem State.each_cores_only {α : Type} (f : State → α → State) (hf : ∀ t x, ∃ cs, f t x = { t with cores := cs }) (l : List α) :
    s.each l f = { s with cores := (s.each l f).cores } := by
  have h : ∃ cs, s.each l f = { s with cores := cs } := by
    induction l generalizing s with
    | nil => exact ⟨s.cores, rfl⟩
    | cons x l ih =>
      obtain ⟨cs, hcs⟩ := hf s x
      obtain ⟨ds, hds⟩ := ih (s := f s x)
      have hcons : s.each (x :: l) f = (f s x).each l f := rfl
      exact ⟨ds, by rw [hcons, hds, hcs]⟩
  obtain ⟨cs, hcs⟩ := h
  rw [hcs]

/-- A core and its state word. -/
def State.coreState (s : State) (c : Nat) : Core × Nat := (s.core c, s.p (stkStat c))

/-- A pass over the cores of a mask does to each what it does to one (R180, R773). -/
theorem State.each_bitsOf_core (mask : Nat) (f : State → Nat → Core → Core) {c : Nat} (hc : c ∈ bitsOf mask 4) :
    ∃ t, t.coreState c = s.coreState c ∧ (s.each (bitsOf mask 4) (fun t c => t.updCore c (f t c))).core c = f t c (s.core c) := by
  obtain ⟨t, ht, heach⟩ := State.each_one (fun t => t.coreState c) (fun t c => t.updCore c (f t c)) c (bitsOf mask 4)
    (List.Nodup.filter _ List.nodup_range) hc (fun t d _ hne => Prod.ext (State.updCore_other _ _ (Ne.symm hne))
      (State.updCore_p _ _ _ _)) s
  have hcore : t.core c = s.core c := congrArg Prod.fst ht
  refine ⟨t, ht, (congrArg Prod.fst heach).trans ?_⟩
  change (t.updCore c (f t c)).core c = _
  rw [State.updCore_same, hcore]

theorem State.opStokerRun_runs (hmask : leAt r.payload 0 1 < 16) (hall : ∀ c ∈ bitsOf (leAt r.payload 0 1) 4, s.stkState c ≠ 0) :
    ∃ u, s.opStokerRun r = ⟨0, [], none, u⟩ ∧ (∀ c ∈ bitsOf (leAt r.payload 0 1) 4, (u.core c).runDue = true) ∧
      u = { s with cores := u.cores } := by
  have hnone : (coreMask (leAt r.payload 0 1)).any (fun c => s.stkState c == 0) = false :=
    List.any_eq_false.mpr (fun c hc => by simpa using hall c hc)
  unfold State.opStokerRun
  dsimp only
  rw [hnone, if_neg (by simp only [Bool.false_eq_true, or_false]; omega)]
  refine ⟨_, rfl, fun c hc => ?_, State.each_cores_only _ (fun _ _ => ⟨_, rfl⟩) _⟩
  obtain ⟨t, -, hcore⟩ := State.each_bitsOf_core (s := s) (leAt r.payload 0 1) (fun _ _ k => { k with runDue := true }) hc
  rw [coreMask, hcore]

theorem State.opStokerHalt_halts (hmask : leAt r.payload 0 1 < 16) :
    ∃ u, s.opStokerHalt r = ⟨0, [], none, u⟩ ∧ u = { s with cores := u.cores } ∧
      (∀ c ∈ bitsOf (leAt r.payload 0 1) 4, (u.core c).runDue = false ∧ (s.stkState c = 2 → (u.core c).haltDue = true)) := by
  unfold State.opStokerHalt
  dsimp only
  rw [if_neg (by omega)]
  refine ⟨_, rfl, State.each_cores_only _ (fun _ _ => ⟨_, rfl⟩) _, fun c hc => ?_⟩
  obtain ⟨t, ht, hcore⟩ := State.each_bitsOf_core (s := s) (leAt r.payload 0 1)
    (fun t c k => { k with haltDue := k.haltDue || t.stkState c == 2, runDue := false }) hc
  rw [coreMask, hcore]
  refine ⟨rfl, fun hrun => ?_⟩
  dsimp only
  rw [State.stkState_of_p (congrArg Prod.snd ht), hrun, beq_self_eq_true, Bool.or_true]

theorem State.opStokerStep_steps {c n : Nat} (hc : leAt r.payload 0 1 = c) (hn : leAt r.payload 4 4 = n) (hc3 : c ≤ 3)
    (hrsv : leAt r.payload 1 3 = 0) (hn1 : 1 ≤ n) (hn2 : n ≤ 65536) (hhalted : s.stkState c = 1) :
    ∃ (u : State) (l : List Byte), s.opStokerStep r = ⟨0, l, none, u⟩ ∧ u.stkState c = 2 ∧ (u.core c).steps = some n ∧
      (u.core c).slice = true ∧ u.out = s.out := by
  have hstate : ((s.setPf (stkStat c) 0 3 2).sliceOpen c).stkState c = 2 := by
    rw [State.stkState, State.sliceOpen, State.updCore_pf, State.pf_setPf_same _ _ _ _ _ (by decide)]
    decide
  unfold State.opStokerStep
  dsimp only
  rw [hc, hn, if_neg (by omega), if_neg (by omega), if_neg (not_not.mpr hhalted)]
  refine ⟨_, _, rfl, ?_, ?_, ?_, ?_⟩
  · rw [State.stkState, State.updCore_pf, ← State.stkState, hstate]
  · rw [State.updCore_same]
  · rw [State.updCore_same, State.sliceOpen, State.updCore_same]
  · rw [State.updCore_out, State.sliceOpen, State.updCore_out, State.setPf_out]

end Sys2Proof.Machine

namespace Sys2Proof
open Machine

/-- Settles O30: each request by what its executor stores, opens, clears or starts. -/
theorem eventAndStokerRequests : Obligations.EventAndStokerRequests := by
  refine ⟨fun s r h hpast => ?_, fun s r e h hcnt hfirst hkept he => ?_, fun s r i h hport hroom hfree => ?_, fun s r h => ?_,
    fun s r k h hc harea hrsv hlen hroom hstill => ?_, fun s r h hmask hall => ?_, fun s r h hmask => ?_, fun s r h hc => ?_,
    fun s r h hc hrsv hn1 hn2 hhalted => ?_⟩
  · refine congrArg done (State.runRow_answers h (by decide) ?_)
    unfold State.opEventRead
    dsimp only
    rw [if_pos hpast]
    rfl
  · exact congrArg done (State.runRow_answers h (by decide) (State.opEventRead_one hcnt hfirst hkept he))
  · obtain ⟨u, hexec, hrest⟩ := State.opEventSubscribe_subscribes hport hroom hfree
    exact ⟨u, congrArg done (State.runRow_answers h (by decide) hexec), hrest⟩
  · exact ⟨s.clearEvs (leAt r.payload 0 8), congrArg done (State.runRow_answers h (by decide) rfl),
      fun e he => State.clearEvs_latched _ he, State.clearEvs_keeps _⟩
  · obtain ⟨u, hexec, hrest⟩ := State.opStokerLoad_loads rfl rfl hc harea hrsv hlen hroom hstill
    exact ⟨u, congrArg done (State.runRow_answers h (by decide) hexec), hrest⟩
  · obtain ⟨u, hexec, hrest⟩ := State.opStokerRun_runs hmask hall
    exact ⟨u, congrArg done (State.runRow_answers h (by decide) hexec), hrest⟩
  · obtain ⟨u, hexec, hrest⟩ := State.opStokerHalt_halts (s := s) hmask
    exact ⟨u, congrArg done (State.runRow_answers h (by decide) hexec), hrest⟩
  · refine congrArg done (State.runRow_answers h (by decide) ?_)
    unfold State.opStokerState
    dsimp only
    rw [if_neg (by omega)]
    rfl
  · obtain ⟨u, l, hexec, hrest⟩ := State.opStokerStep_steps rfl rfl hc hrsv hn1 hn2 hhalted
    exact ⟨u, l, congrArg done (State.runRow_answers h (by decide) hexec), hrest⟩

end Sys2Proof

/-! System requests (R151, R181, R268, R274 to R277, R298). -/
namespace Sys2Proof.Machine

variable {s : State} {r : Req}

/-- Entry to Doused writes no parameter below the load switches' but the watchdog's. -/
theorem State.enterDoused_p {a : Nat} (ha : a < 0x2000) (hw : a ≠ 0x0703) : s.enterDoused.p a = s.p a := by
  have hfollow (t : State) : t.followKept.p a = t.p a :=
    State.each_keeps_mem (fun t => t.p a) _ _ (fun u n _ => State.updHs_p u n _ a) t
  have hdrives (t : State) : t.drivesKept.p a = t.p a :=
    State.each_keeps_mem (fun t => t.p a) _ _ (fun u b _ => State.updHb_p u b _ a) t
  have hopen (t : State) : (t.openContactors false).p a = t.p a :=
    State.openContactors_keeps (fun t => t.p a) false t (fun u n f => State.updHs_p u n f a)
      (fun u n => u.hsDrive_p n a (by unfold hsStat; omega) (by unfold hsPwmSh; omega) (by unfold hsPwm; omega) (by omega))
  unfold State.enterDoused
  dsimp only
  rw [State.wdgPause_p _ hw, State.haltCores_p _ (by omega), hopen, hdrives, hfollow, State.mapSys_p, State.mapEvt_p]

/-- A request of an opcode that Kindling does not permit runs in Lit or Doused (R78, R79). -/
theorem State.full_of_passes {op : Nat} (h : Passes s op r) (hop : opsKindling.contains op = false) : s.full = true := by
  have hallowed : s.opAllowed op = true := by
    have hpre := h.2.2
    unfold State.preCheck at hpre
    split_ifs at hpre with h1 h2 h3 h4
    · exact absurd hpre h3
    · simpa using h2
  unfold State.opAllowed at hallowed
  unfold State.full
  split at hallowed
  · rw [hop] at hallowed
    exact absurd hallowed (by decide)
  · rename_i hphase
    rw [hphase]
    rfl
  · rename_i hphase
    rw [hphase]
    rfl
  · exact absurd hallowed (by decide)

/-- DOUSE in Lit: its reason is recorded, and entry to Doused is due (R274). -/
theorem State.opDouse_lit (hlit : s.sys.phase = .lit) : ∃ u, s.opDouse r = ⟨0, [], none, u⟩ ∧ u.evt.douse = true ∧
    u.p 0x060E = (leAt r.payload 0 2 % 2 ^ 16 + 2 ^ 16) % 2 ^ 32 := by
  refine ⟨((s.setP 0x060E (leAt r.payload 0 2 % 2 ^ 16 + 2 ^ 16)).mapSys (fun y => { y with douseTick := true })).mapEvt
    (fun v => { v with douse := true }), ?_, rfl, ?_⟩
  · unfold State.opDouse State.douseCmd
    dsimp only
    rw [hlit]
    rfl
  · rw [State.mapEvt_p, State.mapSys_p, State.p_setP_same]

theorem State.settle_of_douse (h : s.evt.douse = true) : s.settle = s.enterDoused := if_pos h

theorem leAt_half_lt (l : List Byte) (o : Nat) : leAt l o 2 < 2 ^ 16 := by
  have hlen : ((l.drop o).take 2).length ≤ 2 := List.length_take_le _ _
  calc leAt l o 2 < 256 ^ ((l.drop o).take 2).length := leNat_lt _
    _ ≤ 256 ^ 2 := Nat.pow_le_pow_right (by decide) hlen
    _ = 2 ^ 16 := by decide

theorem State.incPf_p (s : State) {a b : Nat} (lo wid : Nat) (h : b ≠ a) : (s.incPf a lo wid).p b = s.p b := by
  unfold State.incPf State.setPf
  exact State.p_setP_other _ _ h

/-- Queueing a packet counts in the port's status alone (R210). -/
theorem State.enqueueOut_p (s : State) (p : Nat) (k : Pkt) {a : Nat} (h : a ≠ portStat p) : (s.enqueueOut p k).p a = s.p a := by
  have hdrop (o : List Pkt) : ((s.updPort p (fun x => { x with out := o ++ [k] })).incPf (portStat p) 16 8).p a = s.p a := by
    rw [State.incPf_p _ _ _ h, State.updPort_p]
  have hgap (u : State) (d : Pkt) : (u.dropGap p d).p a = u.p a := State.p_of_params (u.dropGap_frame p d).2.2.2.2.2.1 a
  unfold State.enqueueOut
  dsimp only
  split
  · rw [State.updPort_p]
  · split
    · exact hdrop _
    · cases (s.port p).out.head? with
      | none => exact hdrop _
      | some d => exact (hgap _ d).trans (hdrop _)

theorem State.pushOut_p (s : State) (p : Nat) (k : Pkt) {a : Nat} (h : a ≠ portStat p) : (s.pushOut p k).p a = s.p a := by
  unfold State.pushOut
  dsimp only
  split
  · exact (State.p_of_params (State.ethDrain_frame _).2.2.2.2.2.1 a).trans (s.enqueueOut_p p k h)
  · split
    · exact (State.p_of_params (State.canDrain_frame _).2.2.2.2.2.1 a).trans (s.enqueueOut_p p k h)
    · exact s.enqueueOut_p p k h

theorem State.leave_p (s : State) (p : Nat) (x : RSlot) (newer : List RSlot) {a : Nat} (h : a ≠ portStat p) :
    (s.leave p x newer).p a = s.p a := by
  unfold State.leave
  dsimp only
  split
  · rfl
  · rw [State.pushOut_p _ _ _ h]
    split
    · rw [State.incPf_p _ _ _ h, State.updPort_p]
    · rw [State.updPort_p]

theorem State.flushList_p (p : Nat) (l : List RSlot) {a : Nat} (h : a ≠ portStat p) (s : State) :
    (s.flushList p l).p a = s.p a := by
  induction l generalizing s with
  | nil =>
    unfold State.flushList
    rw [State.updPort_p]
  | cons x l ih =>
    unfold State.flushList
    split
    · rw [State.updPort_p]
    · rw [ih, State.leave_p _ _ _ _ h]

/-- A reply counts in the status of its port alone. -/
theorem State.answer_p (s : State) (op status : Nat) (payload : List Byte) (wait : Option Await) {a : Nat}
    (h : a ≠ portStat r.port) : (s.answer op r status payload wait).p a = s.p a := by
  unfold State.answer State.flush
  dsimp only
  rw [State.flushList_p _ _ h, State.updPort_p]
  split
  · rw [State.mapCmd_p]
  · rfl

end Sys2Proof.Machine

namespace Sys2Proof
open Machine

/-- Settles O31: each request by its executor's branch. -/
theorem systemRequests : Obligations.SystemRequests := by
  refine ⟨fun s r h => ?_, fun s r h => ?_, fun s r h hawake => ?_, fun s r h hnone htick => ?_, fun s r h hstill => ?_,
    fun s r h hlit => ?_, fun s r h hkey => ?_, fun s r h hkey => ?_⟩
  · exact congrArg done (State.runRow_answers h (by decide) rfl)
  · exact congrArg done (State.runRow_answers h (by decide) rfl)
  · have hbegin : ∃ u, s.sleepBegin true = u ∧ u.sys.sleeping = 1 ∧ u.out = s.out := by
      unfold State.sleepBegin
      rw [if_pos ⟨hawake, State.full_of_passes h (by decide)⟩]
      exact ⟨_, rfl, rfl, rfl⟩
    obtain ⟨u, hu, hrest⟩ := hbegin
    refine ⟨u, congrArg done (State.runRow_answers h (by decide) ?_), hrest⟩
    rw [State.opSleepRequest, hu]
    rfl
  · refine ⟨(s.setP 0x060E 0).mapSys (fun y => { y with clearDue := true }), congrArg done (State.runRow_answers h (by decide) ?_),
      rfl, ?_, fun a ha => ?_⟩
    · unfold State.opClearDouse
      dsimp only
      rw [if_neg (by rw [not_or]; exact ⟨not_not.mpr hnone, by rw [htick]; decide⟩)]
      rfl
    · rw [State.mapSys_p, State.p_setP_same, Nat.zero_mod]
    · rw [State.mapSys_p, State.p_setP_other _ _ (by simpa using ha)]
  · refine congrArg done (State.runRow_answers h (by decide) ?_)
    unfold State.opClearDouse
    dsimp only
    rw [if_pos hstill]
  · obtain ⟨u, hop, hdouse, hreason⟩ := State.opDouse_lit (r := r) hlit
    have hrun : exec (.douse r) s = done (u.answer 0x7E r 0 [] none) := congrArg done (State.runRow_answers h (by decide) hop)
    obtain ⟨-, -, -, -, -, -, hevt, -⟩ := u.answer_frame 0x7E r 0 [] none
    have hport : (0x060E : Nat) ≠ portStat r.port := by
      have := h.2.1
      unfold portStat
      omega
    have hword : (u.answer 0x7E r 0 [] none).enterDoused.p 0x060E = leAt r.payload 0 2 + 2 ^ 16 := by
      have := leAt_half_lt r.payload 0
      rw [State.enterDoused_p (by decide) (by decide), State.answer_p _ _ _ _ _ hport, hreason]
      omega
    refine ⟨_, hrun.trans (congrArg Host.Outcome.next (State.settle_of_douse (hevt ▸ hdouse))), State.enterDoused_phase _,
      State.enterDoused_open _, ?_, ?_⟩
    · have := leAt_half_lt r.payload 0
      unfold State.pf fld
      rw [hword]
      omega
    · have := leAt_half_lt r.payload 0
      unfold State.pb bit
      rw [hword]
      simp only [beq_iff_eq]
      omega
  · refine ⟨(s.dueReset 3).mapCmd (fun m => { m with queue := [] }), congrArg done (State.runRow_answers h (by decide) ?_), rfl,
      rfl, rfl, rfl⟩
    unfold State.opReset
    rw [if_neg (not_not.mpr hkey)]
    rfl
  · refine congrArg done (State.runRow_answers h (by decide) ?_)
    unfold State.opReset
    rw [if_pos hkey]
    rfl

end Sys2Proof

/-! The configuration's memories: flash and fuses (R89, R90, R97, R838). -/
namespace Sys2Proof.Machine

variable {s : State} {r : Req}

theorem Tbl.get_filter_key {α : Type} (d : α) (t : Tbl α) (k : Nat → Bool) (a : Nat) :
    Tbl.get d (t.filter (fun e => k e.1)) a = if k a then Tbl.get d t a else d := by
  induction t with
  | nil => simp
  | cons e t ih =>
    obtain ⟨j, v⟩ := e
    by_cases hja : j = a
    · subst hja
      cases hj : k j <;> simp [Tbl.get, hj, ih]
    · cases hj : k j <;> simp [Tbl.get, hj, hja, ih]

theorem Mem.get_clear (d : Byte) (m : Mem) (lo n a : Nat) :
    Tbl.get d (Mem.clear m lo n) a = if lo ≤ a ∧ a < lo + n then d else Tbl.get d m a := by
  unfold Mem.clear
  rw [Tbl.get_filter_key d m (fun x => decide (x < lo) || decide (lo + n ≤ x))]
  by_cases h : lo ≤ a ∧ a < lo + n
  · rw [if_pos h, if_neg (by simp; omega)]
  · rw [if_neg h, if_pos (by simp; omega)]

theorem Mem.get_write (d e : Byte) (a : Nat) : ∀ (l : List Byte) (lo : Nat) (m : Mem), Tbl.get d (Mem.write d m lo l) a =
    if lo ≤ a ∧ a < lo + l.length then nth e l (a - lo) else Tbl.get d m a
  | [], lo, m => by rw [if_neg (by simp)]; rfl
  | b :: l, lo, m => by
    rw [Mem.write, Mem.get_write d e a l, List.length_cons]
    by_cases hrest : lo + 1 ≤ a ∧ a < lo + 1 + l.length
    · obtain ⟨k, rfl⟩ := Nat.exists_eq_add_of_le hrest.1
      rw [if_pos hrest, if_pos (by omega), show lo + 1 + k - lo = k + 1 by omega, Nat.add_sub_cancel_left]
      rfl
    · rw [if_neg hrest]
      by_cases hhere : a = lo
      · subst hhere
        rw [if_pos (by omega), Tbl.get_put_same, Nat.sub_self]
        rfl
      · rw [if_neg (by omega), Tbl.get_put_other d m b hhere]

/-- A bit of the fuses that count: it is burnt in one copy at least (R70). -/
theorem Nvm.testBit_fuseOr (v : Nvm) (k : Nat) : v.fuseOr.toNat.testBit k =
    (decide (k < 2048) && (v.fuses.getLsbD k || v.fuses.getLsbD (2048 + k))) := by
  unfold Nvm.fuseOr
  rw [BitVec.testBit_toNat, BitVec.getLsbD_or, BitVec.getLsbD_setWidth, BitVec.getLsbD_setWidth, BitVec.getLsbD_ushiftRight,
    Bool.and_or_distrib_left]

/-- A value at a field of both copies: a bit of either. -/
theorem testBit_both {v lo n k : Nat} (hfits : v * 2 ^ lo < 2 ^ n) (hk : k < n) :
    (v * 2 ^ lo + v * 2 ^ (lo + n)).testBit k = (v * 2 ^ lo).testBit k ∧
    (v * 2 ^ lo + v * 2 ^ (lo + n)).testBit (n + k) = (v * 2 ^ lo).testBit k := by
  have hsum : v * 2 ^ lo + v * 2 ^ (lo + n) = 2 ^ n * (v * 2 ^ lo) + v * 2 ^ lo := by ring
  rw [hsum, Nat.testBit_two_pow_mul_add _ hfits, Nat.testBit_two_pow_mul_add _ hfits, if_pos hk, if_neg (by omega),
    Nat.add_sub_cancel_left]
  exact ⟨rfl, rfl⟩

/-- Cells set in a blank field of both copies read back as their value (R98, R838). -/
theorem Nvm.fuseOr_burnt {v : Nvm} {lo wid x : Nat} (hwid : lo + wid ≤ 2048) (hx : x < 2 ^ wid)
    (hblank : fld v.fuseOr.toNat lo wid = 0) :
    fld ({ v with fuses := v.fuses ||| BitVec.ofNat 4096 (x * 2 ^ lo + x * 2 ^ (lo + 2048)) } : Nvm).fuseOr.toNat lo wid = x := by
  have hfits : x * 2 ^ lo < 2 ^ 2048 :=
    calc x * 2 ^ lo < 2 ^ wid * 2 ^ lo := Nat.mul_lt_mul_of_pos_right hx (Nat.two_pow_pos lo)
      _ = 2 ^ (lo + wid) := by ring
      _ ≤ 2 ^ 2048 := Nat.pow_le_pow_right (by decide) hwid
  refine Nat.eq_of_testBit_eq (fun k => ?_)
  rw [← bit_eq_testBit, bit_fld, bit_eq_testBit]
  by_cases hk : k < wid
  · have hold : v.fuses.getLsbD (lo + k) = false ∧ v.fuses.getLsbD (2048 + (lo + k)) = false := by
      have hbit : bit (fld v.fuseOr.toNat lo wid) k = false := by rw [hblank, bit_eq_testBit, Nat.zero_testBit]
      rw [bit_fld, bit_eq_testBit, Nvm.testBit_fuseOr, decide_eq_true hk, decide_eq_true (by omega), Bool.true_and,
        Bool.true_and, Bool.or_eq_false_iff] at hbit
      exact hbit
    obtain ⟨hlow, hhigh⟩ := testBit_both (k := lo + k) hfits (by omega)
    rw [Nvm.testBit_fuseOr, BitVec.getLsbD_or, BitVec.getLsbD_or, hold.1, hold.2, BitVec.getLsbD_ofNat, BitVec.getLsbD_ofNat, hlow,
      hhigh, Nat.testBit_mul_two_pow, decide_eq_true hk, decide_eq_true (show lo + k < 2048 by omega),
      decide_eq_true (show lo + k < 4096 by omega), decide_eq_true (show 2048 + (lo + k) < 4096 by omega),
      decide_eq_true (Nat.le_add_right lo k), Nat.add_sub_cancel_left]
    simp
  · rw [decide_eq_false hk, Bool.false_and, Nat.testBit_lt_two_pow]
    exact hx.trans_le (Nat.pow_le_pow_right (by decide) (by omega))

theorem BitVec.or_and_left {n : Nat} (x y : BitVec n) : (x ||| y) &&& x = x := by
  ext k hk
  simp only [BitVec.getElem_and, BitVec.getElem_or]
  cases x[k] <;> simp

/-- ERASE and COMMIT make the memory busy; ERASE clears its slot (R90, R115). -/
theorem State.nvmBegin_begins (op k : Nat) : ∃ u, s.nvmBegin op k = ⟨1, [], none, u⟩ ∧ u.pb 0x0107 9 = true ∧
    u.sys.nvmOp = some (op, k) ∧
    u.nvm = if op = 0 then { s.nvm with flash := Mem.clear s.nvm.flash (0x40000 * k) 0x40000 } else s.nvm := by
  have hbusy (f : Nvm → Nvm) : (((s.setPb 0x0107 9 true).mapSys (fun y => { y with nvmOp := some (op, k) })).mapNvm f).pb 0x0107 9 = true := by
    rw [State.pb, State.mapNvm_p, State.mapSys_p]
    exact s.pb_setPb_same 0x0107 9 true (by decide)
  unfold State.nvmBegin
  dsimp only
  split
  · exact ⟨_, rfl, hbusy _, rfl, rfl⟩
  · exact ⟨_, rfl, hbusy id, rfl, rfl⟩

/-- What is busy ends; nothing else of the supply block or memory changes. -/
theorem State.nvmEnd_ends : s.nvmEnd.pb 0x0107 9 = false ∧ s.nvmEnd.sys = { s.sys with nvmOp := none } ∧ s.nvmEnd.nvm = s.nvm ∧
    SameParams s s.nvmEnd [0x0107] := by
  unfold State.nvmEnd
  refine ⟨?_, ?_, rfl, fun a ha => ?_⟩
  · rw [State.pb, State.mapSys_p]
    exact s.pb_setPb_same 0x0107 9 false (by decide)
  · rw [State.mapSys_sys, State.setPb_sys]
  · rw [State.mapSys_p, State.p_setPb_other _ _ _ (by simpa using ha)]

theorem eraseComplete_ends {k : Nat} (hop : s.sys.nvmOp = some (0, k)) : execEraseComplete s = done s.nvmEnd := by
  unfold execEraseComplete
  rw [hop]
  rfl

/-- A COMMIT that completes loads its slot where that is good, in Kindling, and no older than the other one (R92 to R94). -/
theorem commitComplete_checks {k : Nat} (st : List WkStored) (hop : s.sys.nvmOp = some (1, k)) : execCommitComplete st s =
    done (if (s.nvmEnd.checkSlot k).1 = 0 ∧ s.sys.phase = .kindling ∧
        ((s.nvmEnd.checkSlot k).2.imageCheck ((s.nvmEnd.checkSlot k).2.slotImage (1 - k)) ≠ 0 ∨
          (s.slotImage (1 - k)).version ≤ (s.slotImage k).version)
      then (s.nvmEnd.checkSlot k).2.loadSlot k st else (s.nvmEnd.checkSlot k).2) := by
  unfold execCommitComplete
  rw [hop]
  rfl

/-- FUSE on the rail number's field, blank and not locked (R97, R98, R838). -/
theorem State.fuseWrite_burns {v : Nat} (hblank : fld s.nvm.fuseOr.toNat 0x46E 16 = 0)
    (hlock : bit s.nvm.fuseOr.toNat 0x485 = false) (hread : s.fz 0x485 1 = 0) : s.fuseWrite 2 v = ⟨0, [], none, s.mapNvm (fun n => { n with
      fuses := n.fuses ||| BitVec.ofNat 4096 (v * 2 ^ 0x46E + v * 2 ^ (0x46E + 2048)) })⟩ := by
  have hopen : ¬(fld s.nvm.fuseOr.toNat 0x46E 16 ≠ 0 ∨ bit s.nvm.fuseOr.toNat 0x485 = true ∨ s.fz 0x485 1 = 1) := by
    rw [hblank, hlock, hread]
    decide
  exact if_neg hopen

theorem State.fuseWrite_burnt {v : Nat} (hburnt : fld s.nvm.fuseOr.toNat 0x46E 16 ≠ 0) : s.fuseWrite 2 v = s.deny 0x0301 :=
  if_pos (Or.inl hburnt)

/-- FUSE on the rail number carries two bytes (R839). -/
theorem length_of_passes_fuse (h : Passes s 0x7C r) (hsub : leAt r.payload 0 1 = 5) (hk : leAt r.payload 1 1 = 2) :
    r.payload.length = 4 := by
  have hlen : lenFits 0x7C r = true := by
    have hpre := h.2.2
    unfold State.preCheck at hpre
    split_ifs at hpre with h1 h2 h3 h4
    · exact absurd hpre h3
    · simpa using h4
  unfold lenFits at hlen
  simp only [hsub, hk] at hlen
  simp at hlen
  exact hlen.2.2

/-! CONFIG_WRITE's checks, and what it does once they have passed. -/

/-- The work of each sub-operation (R89, R90). -/
def State.configDoes (s : State) (r : Req) : Nat → Ans
  | 1 => s.nvmBegin 0 (leAt r.payload 1 1)
  | 2 => (s.mapNvm (fun v => { v with
      flash := Mem.write 0xFF#8 v.flash (0x40000 * leAt r.payload 1 1 + leAt r.payload 4 4) (r.payload.drop 8) })).reply 0 []
  | 3 => s.nvmBegin 1 (leAt r.payload 1 1)
  | 4 => if (s.paramConfig (leAt r.payload 2 2) (leAt r.payload 4 4)).1 = 0
      then (s.paramConfig (leAt r.payload 2 2) (leAt r.payload 4 4)).2.reply 0 []
      else s.deny (s.paramConfig (leAt r.payload 2 2) (leAt r.payload 4 4)).1
  | _ => s.fuseWrite (leAt r.payload 1 1) (leNat (r.payload.drop 2))

theorem State.opConfigWrite_does {sub : Nat} (hsub : leAt r.payload 0 1 = sub) (hlo : 1 ≤ sub) (hhi : sub ≤ 5)
    (hstate : s.configState sub = true) (hrange : s.configRange r.payload = true) (hbusy : s.pb 0x0107 9 = false) :
    s.opConfigWrite r = s.configDoes r sub := by
  unfold State.opConfigWrite
  dsimp only
  rw [hsub, if_neg (by omega), if_neg (by rw [hstate]; decide), if_neg (by rw [hrange]; decide), if_neg (by rw [hbusy]; decide)]
  interval_cases sub <;> rfl

theorem State.configDoes_param {t : State} (hparam : s.paramConfig (leAt r.payload 2 2) (leAt r.payload 4 4) = (0, t)) :
    s.configDoes r 4 = ⟨0, [], none, t⟩ := by
  unfold State.configDoes
  rw [hparam]
  rfl

theorem State.configDoes_fuse (hk : leAt r.payload 1 1 = 2) (hlen : r.payload.length = 4) :
    s.configDoes r 5 = s.fuseWrite 2 (leAt r.payload 2 2) := by
  change s.fuseWrite (leAt r.payload 1 1) (leNat (r.payload.drop 2)) = _
  rw [hk, leAt, List.take_of_length_le (by rw [List.length_drop]; omega)]

theorem State.configRow_answers {sub status : Nat} {l : List Byte} {t : State} (h : Passes s 0x7C r) (hsub : leAt r.payload 0 1 = sub)
    (hexec : s.opConfigWrite r = ⟨status, l, none, t⟩) : s.configRow r sub = t.answer 0x7C r status l none := by
  rw [State.configRow, if_pos hsub, State.runRow_answers h (by decide) hexec]

/-- The states of ERASE, WRITE and COMMIT, and of the others in Kindling (R99). -/
theorem State.configState_slot {sub : Nat} (h : sub ≤ 3) : s.configState sub = true := by
  simp [State.configState, h]

theorem State.configState_kindling {sub : Nat} (h : s.sys.phase = .kindling) : s.configState sub = true := by
  simp [State.configState, h]

/-- A value that a write stores was in range, and breaks no rule across fields (R837). -/
theorem State.paramWrite_fits {m : WMode} {a v : Nat} (h : (s.paramWrite m a v).1 = 0) : ∃ row, paramRow a = some row ∧
    row.inRange m.takes v = true ∧ (s.setP a (row.apply m.takes (s.p a) v)).paramCross a = true := by
  unfold State.paramWrite at h
  split at h
  · exact absurd h (by simp)
  · rename_i row hrow
    dsimp only at h
    split_ifs at h with h1 h2 h3 h4 h5
    refine ⟨row, hrow, ?_, ?_⟩
    · simpa using h4
    · simpa using h5

/-- A value that PARAM stores was in range (R839). -/
theorem State.configRange_param {t : State} (hsub : leAt r.payload 0 1 = 4) (hzero : leAt r.payload 1 1 = 0)
    (hparam : s.paramConfig (leAt r.payload 2 2) (leAt r.payload 4 4) = (0, t)) : s.configRange r.payload = true := by
  have hwrite : (s.paramWrite .param (leAt r.payload 2 2) (leAt r.payload 4 4)).1 = 0 := by
    have hstatus := congrArg Prod.fst hparam
    unfold State.paramConfig at hstatus
    split at hstatus
    · simp at hstatus
    · split at hstatus
      · simp at hstatus
      · exact hstatus
  obtain ⟨row, hrow, hrange, hcross⟩ := State.paramWrite_fits hwrite
  unfold State.configRange
  dsimp only
  rw [hsub, hzero, hrow]
  simp [hrange, hcross]

theorem State.configRange_fuse (h : Passes s 0x7C r) (hsub : leAt r.payload 0 1 = 5) (hk : leAt r.payload 1 1 = 2) :
    s.configRange r.payload = true := by
  have hvalue : leNat (r.payload.drop 2) = leAt r.payload 2 2 := by
    rw [leAt, List.take_of_length_le (by rw [List.length_drop, length_of_passes_fuse h hsub hk])]
  have hlt : leAt r.payload 2 2 < 65536 := leAt_half_lt r.payload 2
  simp [State.configRange, hsub, hk, fuseField, fuseFits, hvalue, hlt]

/-- PARAM on SYS.PERIOD, with no LIN port in use (R43, R700). -/
theorem State.paramConfig_period {v : Nat} (hv : v ≤ 4) (hlin0 : s.pb 0x3030 0 = false) (hlin1 : s.pb 0x3031 0 = false) :
    s.paramConfig 0x0200 v = (0, (s.setP 0x0200 v).mapSys (fun y => { y with paramHold := insNat 0x0200 y.paramHold })) := by
  have hlt : v < 2 ^ 3 := by omega
  have hrow : paramRow 0x0200 = some ⟨0x0200, 1, 1, .const, 2, [fkr 0 3 0 4]⟩ := by decide
  have happly : PRow.apply ⟨0x0200, 1, 1, .const, 2, [fkr 0 3 0 4]⟩ WMode.param.takes (s.p 0x0200) v = v :=
    (PRow.apply_single (by decide) rfl).trans (setFld_zero_fld hlt)
  have hrange : PRow.inRange ⟨0x0200, 1, 1, .const, 2, [fkr 0 3 0 4]⟩ WMode.param.takes v = true := by
    have hfld : fld v 0 3 = v := by rw [fld, pow_zero, Nat.div_one, Nat.mod_eq_of_lt hlt]
    change ((decide (0 ≤ fld v 0 3) && decide (fld v 0 3 ≤ 4) || false) && true) = true
    rw [hfld]
    simpa using hv
  have hcross : (s.setP 0x0200 v).paramCross 0x0200 = true := by
    unfold State.paramCross
    dsimp only
    rw [if_pos rfl]
    unfold State.linFits
    dsimp only
    refine List.all_eq_true.mpr (fun l hl => ?_)
    have hoff : bit ((s.setP 0x0200 v).p (0x3030 + l)) 0 = false := by
      have hl2 : l = 0 ∨ l = 1 := by have := List.mem_range.mp hl; omega
      rcases hl2 with rfl | rfl
      · rw [State.p_setP_other _ _ (by decide)]
        exact hlin0
      · rw [State.p_setP_other _ _ (by decide)]
        exact hlin1
    rw [hoff]
    rfl
  have hwrite : s.paramWrite .param 0x0200 v = (0, s.setP 0x0200 v) := by
    rw [State.paramWrite_stores hrow (by decide) (Or.inl rfl) (Or.inr rfl) hrange happly hcross, State.wdgLength_other (by decide)]
    exact congrArg (Prod.mk 0) (by unfold State.paramEffect; norm_num)
  unfold State.paramConfig
  rw [hrow]
  dsimp only
  rw [if_neg (by decide), hwrite, if_pos rfl]

/-- The code of an image check is one of R87's. -/
theorem State.imageCheck_lt (x : ImageAt) : s.imageCheck x < 2 ^ 4 := by
  unfold State.imageCheck
  dsimp only
  split_ifs <;> decide

/-- The check of a slot: its code is shown, and memory and the supply block stay but for a douse (R87, R88). -/
theorem State.checkSlot_shows {k : Nat} (hk : k < 2) : (s.checkSlot k).1 = s.imageCheck (s.slotImage k) ∧
    (s.checkSlot k).2.pf 0x0107 (4 * k) 4 = s.imageCheck (s.slotImage k) ∧ (s.checkSlot k).2.pb 0x0107 9 = s.pb 0x0107 9 ∧
    (s.checkSlot k).2.sys.nvmOp = s.sys.nvmOp ∧ (s.checkSlot k).2.nvm = s.nvm := by
  have hcode : (s.setPf 0x0107 (4 * k) 4 (s.imageCheck (s.slotImage k))).pf 0x0107 (4 * k) 4 = s.imageCheck (s.slotImage k) := by
    rw [State.pf_setPf_same _ _ _ _ _ (by omega), Nat.mod_eq_of_lt (State.imageCheck_lt _)]
  have hbusy : (s.setPf 0x0107 (4 * k) 4 (s.imageCheck (s.slotImage k))).pb 0x0107 9 = s.pb 0x0107 9 :=
    State.pb_setPf_apart _ _ _ _ _ (by omega) (by omega)
  unfold State.checkSlot
  dsimp only
  split
  · obtain ⟨p, c, hsys⟩ := State.raise_sys (s.setPf 0x0107 (4 * k) 4 (s.imageCheck (s.slotImage k))) 62 []
    obtain ⟨-, -, -, hnvm, -⟩ := State.raise_frame (s.setPf 0x0107 (4 * k) 4 (s.imageCheck (s.slotImage k))) 62 []
    refine ⟨rfl, ?_, ?_, by rw [hsys]; rfl, hnvm⟩
    · rw [State.raise_pf _ _ _ _ _ (by decide) (by decide), hcode]
    · rw [State.raise_pb _ _ _ _ (by decide) (by decide), hbusy]
  · exact ⟨rfl, hcode, hbusy, rfl, rfl⟩

theorem State.takeImage_image (x : ImageAt) (k : Nat) : (s.takeImage x k).sys.image = some (Config.decodeBody x.body) := by
  simp -implicitDefEqProofs [State.takeImage]

theorem State.takeImage_version (x : ImageAt) (k : Nat) : (s.takeImage x k).p 0x0108 = x.version := by
  have hstats (t : State) : (t.each (List.range 8) (fun t n => t.setPf (instStat n) 0 3 (b2n (t.instOn n)))).p 0x0108 = t.p 0x0108 :=
    State.each_keeps (fun t => t.p 0x0108) _ _ (fun t n => State.p_setPf_other t _ _ _ (by unfold instStat; omega)) t
  have hmismatch (l : List (Nat × List Nat)) (t : State) :
      (t.each l (fun t e => t.setPb (ringStat e.1) 20 true)).p 0x0108 = t.p 0x0108 :=
    State.each_keeps (fun t => t.p 0x0108) _ _ (fun t e => State.p_setPb_other t _ _ (by unfold ringStat; omega)) t
  have hversion (t : State) : (((t.setP 0x0108 x.version).setPb 0x0106 2 (k == 1)).setPb 0x0107 8 false).p 0x0108 = x.version := by
    rw [State.p_setPb_other _ _ _ (by decide), State.p_setPb_other _ _ _ (by decide), State.p_setP_same]
    exact Nat.mod_eq_of_lt (leAt_word_lt _ _)
  exact (hmismatch _ _).trans ((hstats _).trans (hversion _))

/-- A slot that is loaded gives the configuration and its version (R25, R93). -/
theorem State.loadSlot_loads (k : Nat) (st : List WkStored) : (s.loadSlot k st).sys.image = some (Config.decodeBody (s.slotImage k).body) ∧
    (s.loadSlot k st).p 0x0108 = (s.slotImage k).version := by
  have hcopy (t : State) : (t.shadowCopy k).sys.image = t.sys.image ∧ (t.shadowCopy k).p 0x0108 = t.p 0x0108 := by
    have hhalf (u : State) (h j : Nat) : (u.halfCurrent h j).sys.image = u.sys.image ∧ (u.halfCurrent h j).p 0x0108 = u.p 0x0108 := by
      unfold State.halfCurrent State.showHalf
      rw [State.setPb_sys, State.mapNvm_sys, State.p_setPb_other _ _ _ (by decide), State.mapNvm_p]
      exact ⟨rfl, rfl⟩
    have hend : t.copyEnd.sys.image = t.sys.image ∧ t.copyEnd.p 0x0108 = t.p 0x0108 := by
      unfold State.copyEnd
      split
      · exact ⟨rfl, rfl⟩
      · dsimp only
        rw [State.mapSys_sys, State.mapSys_p]
        exact hhalf _ _ _
    have hbegin (u : State) : (u.shadowBegin k).sys.image = u.sys.image ∧ (u.shadowBegin k).p 0x0108 = u.p 0x0108 := by
      unfold State.shadowBegin
      dsimp only
      exact ⟨State.ite_keeps (fun t => t.sys.image) _ _ _ _ (hhalf u _ k).1 rfl,
        State.ite_keeps (fun t => t.p 0x0108) _ _ _ _ (hhalf u _ k).2 (State.mapSys_p _ _ _)⟩
    exact ⟨(hbegin _).1.trans hend.1, (hbegin _).2.trans hend.2⟩
  have hworkers := State.configWorkers_frame ((s.takeImage (s.slotImage k) k).shadowCopy k) st
  obtain ⟨-, -, hsys, -, -, hparams, -⟩ := hworkers
  unfold State.loadSlot
  rw [hsys, State.p_of_params hparams]
  exact ⟨(hcopy _).1.trans (State.takeImage_image _ k), (hcopy _).2.trans (State.takeImage_version _ k)⟩

end Sys2Proof.Machine

namespace Sys2Proof
open Machine

/-- Settles O32: each sub-operation by its work, each completion by the slot's check. -/
theorem configurationWrites : Obligations.ConfigurationWrites := by
  refine ⟨fun s r h hsub hk hbusy => ?_, fun s r h hsub hk hrsv halign hfits hbusy => ?_, fun s r h hsub hk hbusy => ?_,
    fun s k hop => ?_, fun s k st hop hk hphase => ?_, fun s k st hop hk hphase => ?_, fun s t r h hsub hk hphase hbusy hparam => ?_,
    fun s r h hsub hk hphase hbusy ha hv hlin0 hlin1 => ?_, fun s r h hsub hk hphase hbusy hv hblank hlock hread => ?_,
    fun s r h hsub hk hphase hbusy hburnt => ?_⟩
  · have hrange : s.configRange r.payload = true := by simp [State.configRange, hsub, hk]
    have hdoes := State.opConfigWrite_does hsub (by decide) (by decide) (State.configState_slot (by decide)) hrange hbusy
    obtain ⟨u, hbegin, hbusy', hop, hnvm⟩ := s.nvmBegin_begins 0 (leAt r.payload 1 1)
    refine ⟨u, congrArg done (State.configRow_answers h hsub (hdoes.trans hbegin)), hbusy', hop, fun a => ?_⟩
    rw [hnvm, if_pos rfl]
    exact Mem.get_clear 0xFF#8 _ _ _ a
  · have hrange : s.configRange r.payload = true := by simp [State.configRange, hsub, hk, hrsv, halign, hfits]
    have hdoes := State.opConfigWrite_does hsub (by decide) (by decide) (State.configState_slot (by decide)) hrange hbusy
    refine ⟨_, congrArg done (State.configRow_answers h hsub hdoes), rfl, fun a => ?_⟩
    refine (Mem.get_write 0xFF#8 0#8 a _ _ _).trans ?_
    rw [List.length_drop]
    refine ite_congr rfl (fun hin => ?_) (fun _ => rfl)
    unfold nth
    rw [List.getD_eq_getElem?_getD, List.getElem?_drop, Nat.add_comm, ← List.getD_eq_getElem?_getD]
  · have hrange : s.configRange r.payload = true := by simp [State.configRange, hsub, hk]
    have hdoes := State.opConfigWrite_does hsub (by decide) (by decide) (State.configState_slot (by decide)) hrange hbusy
    obtain ⟨u, hbegin, hbusy', hop, hnvm⟩ := s.nvmBegin_begins 1 (leAt r.payload 1 1)
    exact ⟨u, congrArg done (State.configRow_answers h hsub (hdoes.trans hbegin)), hbusy', hop, hnvm⟩
  · obtain ⟨hbusy, hsys, hnvm, hparams⟩ := s.nvmEnd_ends
    exact ⟨s.nvmEnd, eraseComplete_ends hop, hbusy, by rw [hsys], hnvm, hparams⟩
  · obtain ⟨hbusy, hsys, hnvm, -⟩ := s.nvmEnd_ends
    obtain ⟨-, hshown, hbusy', hop', hnvm'⟩ := s.nvmEnd.checkSlot_shows hk
    refine ⟨(s.nvmEnd.checkSlot k).2, ?_, hbusy'.trans hbusy, ?_, hnvm'.trans hnvm, hshown⟩
    · exact (commitComplete_checks st hop).trans (congrArg done (if_neg (fun hc => hphase hc.2.1)))
    · rw [hop', hsys]
  · obtain ⟨hbusy, hsys, hnvm, -⟩ := s.nvmEnd_ends
    obtain ⟨hcode, hshown, hbusy', hop', hnvm'⟩ := s.nvmEnd.checkSlot_shows hk
    have hslot : (s.nvmEnd.checkSlot k).2.slotImage = s.slotImage := by
      unfold State.slotImage
      rw [hnvm', hnvm]
    have hslot' : s.nvmEnd.slotImage = s.slotImage := by
      unfold State.slotImage
      rw [hnvm]
    have hcommit := commitComplete_checks st hop
    rw [hslot'] at hcode hshown
    rw [hcode, hslot] at hcommit
    refine ⟨_, hcommit, ?_⟩
    by_cases hloads : s.nvmEnd.imageCheck (s.slotImage k) = 0 ∧ ((s.nvmEnd.checkSlot k).2.imageCheck (s.slotImage (1 - k)) ≠ 0 ∨
        (s.slotImage (1 - k)).version ≤ (s.slotImage k).version)
    · rw [if_pos hloads, if_pos ⟨hloads.1, hphase, hloads.2⟩]
      have hload := State.loadSlot_loads (s := (s.nvmEnd.checkSlot k).2) k st
      rw [hslot] at hload
      exact hload
    · rw [if_neg hloads, if_neg (fun hc => hloads ⟨hc.1, hc.2.2⟩)]
      exact ⟨hbusy'.trans hbusy, by rw [hop', hsys], hnvm'.trans hnvm, hshown⟩
  · have hdoes := State.opConfigWrite_does hsub (by decide) (by decide) (State.configState_kindling hphase)
      (State.configRange_param hsub hk hparam) hbusy
    exact congrArg done (State.configRow_answers h hsub (hdoes.trans (State.configDoes_param hparam)))
  · have hparam : s.paramConfig (leAt r.payload 2 2) (leAt r.payload 4 4) = (0, (s.setP 0x0200 (leAt r.payload 4 4)).mapSys
        (fun y => { y with paramHold := insNat 0x0200 y.paramHold })) := by
      rw [ha]
      exact State.paramConfig_period hv hlin0 hlin1
    have hdoes := State.opConfigWrite_does hsub (by decide) (by decide) (State.configState_kindling hphase)
      (State.configRange_param hsub hk hparam) hbusy
    refine ⟨_, congrArg done (State.configRow_answers h hsub (hdoes.trans (State.configDoes_param hparam))), ?_, ?_, rfl,
      fun a ha => ?_⟩
    · rw [State.mapSys_p, State.p_setP_same, Nat.mod_eq_of_lt (by omega)]
    · rw [State.mapSys_sys, State.setP_sys]
    · rw [State.mapSys_p, State.p_setP_other _ _ (by simpa using ha)]
  · have hdoes := State.opConfigWrite_does hsub (by decide) (by decide) (State.configState_kindling hphase)
      (State.configRange_fuse h hsub hk) hbusy
    rw [State.configDoes_fuse hk (length_of_passes_fuse h hsub hk), State.fuseWrite_burns hblank hlock hread] at hdoes
    exact ⟨_, congrArg done (State.configRow_answers h hsub hdoes), Nvm.fuseOr_burnt (by decide) hv hblank,
      BitVec.or_and_left _ _, rfl⟩
  · have hdoes := State.opConfigWrite_does hsub (by decide) (by decide) (State.configState_kindling hphase)
      (State.configRange_fuse h hsub hk) hbusy
    rw [State.configDoes_fuse hk (length_of_passes_fuse h hsub hk), State.fuseWrite_burnt hburnt] at hdoes
    exact congrArg done (State.configRow_answers h hsub hdoes)

end Sys2Proof

/-! The watchdog's instants (R290, R294, R295, R300, R301, R846). -/
namespace Sys2Proof.Machine

variable {s : State}

/-- Marks for every waiting answer, as one change of each queued request (R846). -/
theorem State.wdgHold_queue (f g : QItem → QItem) (hans : ∀ q, q.op = 0x70 → f q = g q) (hother : ∀ q, q.op ≠ 0x70 → q = g q) :
    (s.wdgHold f).cmd.queue = s.cmd.queue.map g := by
  refine List.map_congr_left (fun q _ => ?_)
  split
  · exact hans q ‹_›
  · exact hother q ‹_›

/-- Every waiting answer holds the reset of a period that ends (R846). -/
theorem State.wdgHold_ended (hwaits : s.wdgWaits = true) : (s.wdgHold (fun q => { q with ended := true })).wdgEndHeld = true := by
  obtain ⟨q, hq, hop⟩ := List.any_eq_true.mp hwaits
  refine List.any_eq_true.mpr ⟨{ q with ended := true }, List.mem_map.mpr ⟨q, hq, ?_⟩, rfl⟩
  rw [if_pos (by simpa using hop)]

theorem State.wdgGo_pf (l w : Nat) (h : l + w ≤ 19) : s.wdgGo.pf 0x0703 l w = s.pf 0x0703 l w := by
  rw [State.wdgGo, State.wdgPeriod_pf _ h, State.mapWdg_pf, State.setPb, s.pf_setPf_below _ _ _ _ _ _ (by omega) (by omega)]

/-- A watchdog that starts or resumes runs (R279, R300). -/
theorem State.wdgGo_runs : s.wdgGo.wdgRuns = true := by
  rw [State.wdgRuns, State.wdgGo, State.wdgPeriod, State.mapWdg_pb, State.pb_setPb_bit _ _ _ (by omega) (by omega), State.mapWdg_pb,
    s.pb_setPb_same _ _ _ (by omega)]

theorem State.wdgGo_period : s.wdgGo.wdg.period = s.wdg.period + 1 ∧ s.wdgGo.wdg.paused = false := by
  rw [State.wdgGo, State.wdgPeriod, State.mapWdg_wdg, State.setPb_wdg, State.mapWdg_wdg, State.setPb_wdg]
  exact ⟨rfl, rfl⟩

theorem State.wdgGo_closed : s.wdgGo.pb 0x0703 19 = false := by rw [State.wdgGo, State.wdgPeriod_closed]

/-- A period that ends without an answer makes a reset due, by cause 2 (R295). -/
theorem State.wdgExpire_due : s.wdgExpire.wdg.expired = true ∧ s.wdgExpire.sys.resetDue = insNat 2 s.sys.resetDue := by
  rw [State.wdgExpire, State.dueReset, State.mapSys_wdg, State.mapWdg_wdg, State.mapSys_sys, State.mapWdg_sys]
  exact ⟨rfl, rfl⟩

/-- In Kindling a watchdog that resumes runs on the settings it has (R301). -/
theorem State.wdgGo_settings (hphase : s.sys.phase = .kindling) : s.wdgGo.wdg.seed = s.wdg.seed ∧ s.wdgGo.wdg.periodMs = s.wdg.periodMs ∧
    s.wdgGo.wdg.openAt = s.wdg.openAt ∧ s.wdgGo.wdg.errMax = s.wdg.errMax ∧ s.wdgGo.island = s.island := by
  have hfull (t : State) (ht : t.sys = s.sys) : t.full = false := by
    rw [State.full, ht, hphase]
    rfl
  rw [State.wdgGo, State.wdgPeriod, State.mapWdg_island, State.setPb_island, State.mapWdg_island, State.setPb_island, State.mapWdg_wdg,
    State.setPb_wdg, State.mapWdg_wdg, State.setPb_wdg, hfull _ (by rw [State.mapWdg_sys, State.setPb_sys]), Bool.and_false]
  exact ⟨rfl, rfl, rfl, rfl, rfl⟩

/-- The question steps from the one before a waiting answer's step, and the error count stays (R291, R300, R301). -/
theorem State.wdgResume_question {n : Nat} (h : (s.cmd.queue.findSome? (·.was)).getD (s.pf 0x0703 0 16) = n) :
    s.wdgRestep.wdgGo.pf 0x0703 0 16 = lfsr n ∧ s.wdgRestep.wdgGo.pf 0x0703 16 3 = s.pf 0x0703 16 3 := by
  rw [State.wdgGo_pf _ _ (by omega), State.wdgGo_pf _ _ (by omega), State.wdgRestep, State.mapCmd_pf, State.mapCmd_pf,
    s.pf_setPf_same _ _ _ _ (by omega), s.pf_setPf_above _ _ _ _ _ _ (by omega) (by omega), Nat.mod_eq_of_lt (lfsr_lt _), h]
  exact ⟨rfl, rfl⟩

theorem State.wdgResume_queue : ∀ q ∈ s.wdgRestep.wdgGo.cmd.queue, q.was = none := by
  intro q hq
  rw [State.wdgGo, State.wdgPeriod, State.mapWdg_cmd, State.setPb_cmd, State.mapWdg_cmd, State.setPb_cmd] at hq
  obtain ⟨x, -, rfl⟩ := List.mem_map.mp hq
  rfl

theorem getD_findSome_was {l : List QItem} (h : ∀ q ∈ l, q.was = none) (n : Nat) : (l.findSome? (·.was)).getD n = n := by
  rw [List.findSome?_eq_none_iff.mpr h, Option.getD_none]

/-- A watchdog that the island has kept, in Kindling (R299, R301). -/
def State.wdgKeptRuns (s : State) (l : List Nat) : State :=
  (s.mapWdg (fun w => { w with cfg := true, seed := nth 0 l 0, periodMs := nth 0 l 1, openAt := nth 0 l 2, errMax := nth 0 l 3 })).mapIsland
    (fun i => { i with wdgKept := none })

theorem State.wdgKeptRuns_pf (l : List Nat) (a lo w : Nat) : (s.wdgKeptRuns l).pf a lo w = s.pf a lo w := by
  rw [State.wdgKeptRuns, State.mapIsland_pf, State.mapWdg_pf]

theorem State.wdgKeptRuns_cmd (l : List Nat) : (s.wdgKeptRuns l).cmd = s.cmd := by
  rw [State.wdgKeptRuns, State.mapIsland_cmd, State.mapWdg_cmd]

theorem wdgResume_kept {l : List Nat} (hkept : s.island.wdgKept = some l) (hphase : s.sys.phase = .kindling) (hpll : s.sys.pll = true) :
    execWdgResume s = done (s.wdgKeptRuns l).wdgRestep.wdgGo := by
  unfold execWdgResume
  rw [if_neg (by rw [hphase]; simp), hkept]
  refine congrArg done (if_pos ?_)
  rw [hphase, hpll]
  rfl

theorem wdgResume_lit (hpaused : s.wdg.paused = true) (hlit : s.sys.phase = .lit) : execWdgResume s = done s.wdgRestep.wdgGo :=
  congrArg done (if_pos (by rw [hpaused, hlit]; rfl))

end Sys2Proof.Machine

namespace Sys2Proof
open Machine

/-- Settles O34: an instant by whether an answer waits, a resume by the question it steps from. -/
theorem watchdogInstants : Obligations.WatchdogInstants := by
  refine ⟨fun s hruns hexp hwaits => ?_, fun s hruns hexp hwaits => ?_, fun s hruns hexp hwaits => ?_,
    fun s hruns hexp hwaits => ?_, fun s q hended hheld => ?_, fun s q hwarn hended hnone => ?_, fun s q hended hwarn => ?_,
    fun s hruns hexp hheld => ?_, fun s hpaused hlit hwas => ?_, fun s a b c d hkept hphase hpll hwas => ?_,
    fun s q l n hpaused hlit hqueue hwas => ?_⟩
  · refine congrArg done ?_
    rw [if_pos (by rw [hruns, hexp]; rfl), if_neg (by rw [hwaits]; decide)]
  · refine ⟨s.wdgHold (fun q => { q with warn := true }), congrArg done ?_, rfl,
      State.wdgHold_queue _ _ (fun q hq => ?_) (fun q hq => ?_)⟩
    · rw [if_pos (by rw [hruns, hexp]; rfl), if_pos hwaits]
    · rw [hq]
      simp
    · rw [beq_false_of_ne hq, Bool.or_false]
  · refine ⟨(s.setPb 0x0703 19 false).wdgExpire, congrArg done ?_, State.wdgExpire_due.1, ?_, ?_, ?_⟩
    · rw [if_pos (by rw [hruns, hexp]; rfl)]
      exact if_neg (by rw [hwaits]; decide)
    · rw [State.wdgExpire_due.2, State.setPb_sys]
    · rw [State.wdgExpire, State.dueReset, State.mapSys_pb, State.mapWdg_pb, s.pb_setPb_same _ _ _ (by omega)]
    · rw [State.wdgExpire, State.dueReset, State.mapSys_pf, State.mapWdg_pf, s.pf_setPb_apart _ _ _ (by omega) (by omega)]
  · have hwaits' : (s.setPb 0x0703 19 false).wdgWaits = true := by rw [State.wdgWaits, State.setPb_cmd, ← hwaits, State.wdgWaits]
    have hqueue : (s.setPb 0x0703 19 false).cmd.queue = s.cmd.queue := by rw [State.setPb_cmd]
    refine ⟨(s.setPb 0x0703 19 false).wdgHold (fun q => { q with ended := true }), congrArg done ?_, ?_,
      State.wdgHold_ended hwaits', hqueue ▸ State.wdgHold_queue _ _ (fun q hq => ?_) (fun q hq => ?_), ?_, ?_, ?_⟩
    · rw [if_pos (by rw [hruns, hexp]; rfl)]
      exact if_pos hwaits
    · rw [State.wdgHold, State.mapCmd_wdg, State.setPb_wdg]
    · rw [hq]
      simp
    · rw [beq_false_of_ne hq, Bool.or_false]
    · rw [State.wdgHold, State.mapCmd_sys, State.setPb_sys]
    · rw [State.wdgHold, State.mapCmd_pb, s.pb_setPb_same _ _ _ (by omega)]
    · rw [State.wdgHold, State.mapCmd_pf, s.pf_setPb_apart _ _ _ (by omega) (by omega)]
  · unfold State.wdgJudged
    dsimp only
    rw [if_pos (c := (q.ended && !s.wdgEndHeld) = true) (by rw [hended, hheld]; rfl)]
    rw [State.wdgExpire_due.1, State.wdgExpire_due.2]
    exact ⟨rfl, mem_insNat _ _⟩
  · have hany : s.cmd.queue.any (·.warn) = false := by simpa using hnone
    unfold State.wdgJudged
    dsimp only
    rw [if_neg (by rw [hended]; simp), if_pos (by rw [hwarn, hany]; rfl)]
  · have hquiet : (q.warn && !s.cmd.queue.any (·.warn)) = false := by
      cases hw : q.warn with
      | false => rfl
      | true =>
        rw [List.any_eq_true.mpr (hwarn hw)]
        rfl
    have hlive : (q.ended && !s.wdgEndHeld) = false := by
      cases he : q.ended with
      | false => rfl
      | true =>
        rw [hended he]
        rfl
    unfold State.wdgJudged
    dsimp only
    rw [hquiet, hlive]
    rfl
  · exact congrArg done (if_pos (by rw [hruns, hexp, hheld]; rfl))
  · obtain ⟨hquestion, herrors⟩ := State.wdgResume_question (getD_findSome_was hwas (s.pf 0x0703 0 16))
    obtain ⟨hperiod, hgoes⟩ := State.wdgGo_period (s := s.wdgRestep)
    obtain ⟨-, -, -, -, -, -, -, hwdg, -⟩ := s.wdgRestep_frame
    exact ⟨_, wdgResume_lit hpaused hlit, State.wdgGo_runs, hgoes, hquestion, herrors, State.wdgGo_closed,
      by rw [hperiod, hwdg]⟩
  · have hwas' : ∀ q ∈ (s.wdgKeptRuns [a, b, c, d]).cmd.queue, q.was = none := by
      rw [State.wdgKeptRuns_cmd]
      exact hwas
    obtain ⟨hquestion, herrors⟩ := State.wdgResume_question (getD_findSome_was hwas' _)
    rw [State.wdgKeptRuns_pf] at hquestion herrors
    obtain ⟨-, -, hsys, hisland, -, -, -, hwdg, -⟩ := (s.wdgKeptRuns [a, b, c, d]).wdgRestep_frame
    obtain ⟨hseed, hms, hopen, hmax, hkeeps⟩ := State.wdgGo_settings (s := (s.wdgKeptRuns [a, b, c, d]).wdgRestep)
      (by rw [hsys]; exact hphase)
    refine ⟨_, wdgResume_kept hkept hphase hpll, State.wdgGo_runs, ?_, ?_, ?_, ?_, ?_, hquestion, herrors⟩
    · rw [hseed, hwdg]
      rfl
    · rw [hms, hwdg]
      rfl
    · rw [hopen, hwdg]
      rfl
    · rw [hmax, hwdg]
      rfl
    · rw [hkeeps, hisland]
      rfl
  · have hstep : (s.cmd.queue.findSome? (·.was)).getD (s.pf 0x0703 0 16) = n := by
      rw [hqueue, List.findSome?_cons, hwas]
      rfl
    exact ⟨_, wdgResume_lit hpaused hlit, (State.wdgResume_question hstep).1, State.wdgResume_queue⟩

end Sys2Proof

/-! What the cores reach in the manager (R227, R480, R753 to R762). -/
namespace Sys2Proof.Machine

variable {s : State} {c x : Nat}

/-- The bits of an instruction whose row names a part of fn (R753). -/
def fnNamed (x : BitVec 26) (lo wid v : Nat) : BitVec 26 := BitVec.ofNat 26 (setFld x.toNat lo wid v)

theorem fnNamed_toNat (x : BitVec 26) (lo wid v : Nat) : (fnNamed x lo wid v).toNat = setFld x.toNat lo wid v % 2 ^ 26 :=
  BitVec.toNat_ofNat _ _

theorem bit_fnNamed (x : BitVec 26) {lo wid : Nat} (v n : Nat) :
    bit (fnNamed x lo wid v).toNat n = (decide (n < 26) && if lo ≤ n ∧ n < lo + wid then bit v (n - lo) else bit x.toNat n) := by
  rw [fnNamed, BitVec.toNat_ofNat, bit_eq_testBit, Nat.testBit_mod_two_pow, ← bit_eq_testBit, bit_setFld]

theorem xd_fnNamed (x : BitVec 26) {lo wid : Nat} (v : Nat) (h : lo + wid ≤ 14) : xd (fnNamed x lo wid v).toNat = xd x.toNat :=
  fld_of_bits (fun n hlo hhi => by rw [bit_fnNamed, decide_eq_true (by omega), Bool.true_and, if_neg (by omega)])

theorem xa_fnNamed (x : BitVec 26) {lo wid : Nat} (v : Nat) (h : lo + wid ≤ 14) : xa (fnNamed x lo wid v).toNat = xa x.toNat :=
  fld_of_bits (fun n hlo hhi => by rw [bit_fnNamed, decide_eq_true (by omega), Bool.true_and, if_neg (by omega)])

/-- The part of fn that the row names. -/
theorem fld_fnNamed_same (x : BitVec 26) {lo wid : Nat} (v : Nat) (h : lo + wid ≤ 14) :
    fld (fnNamed x lo wid v).toNat lo wid = v % 2 ^ wid := by
  rw [← fld_setFld_same x.toNat lo wid v]
  exact fld_of_bits (fun n hlo hhi => by
    rw [bit_fnNamed, decide_eq_true (by omega), Bool.true_and, bit_setFld])

/-- The part of fn below it. -/
theorem fld_fnNamed_below (x : BitVec 26) {lo wid : Nat} (v : Nat) (h : lo ≤ 14) :
    fld (fnNamed x lo wid v).toNat 0 lo = fld x.toNat 0 lo :=
  fld_of_bits (fun n _ hhi => by rw [bit_fnNamed, decide_eq_true (by omega), Bool.true_and, if_neg (by omega)])

/-- A row that names bits it uses leaves the unused ones 0. -/
theorem unusedZero_fnNamed (x : BitVec 26) {lo wid v used more : Nat} (hused : used < 2 ^ 26) (hmore : more < 2 ^ 26)
    (hsub : ∀ n < 26, more.testBit n = false → used.testBit n = false ∨ (lo ≤ n ∧ n < lo + wid))
    (hv : ∀ n < 26, lo ≤ n → more.testBit n = false → bit v (n - lo) = false) (hu : unusedZero x.toNat used = true) :
    unusedZero (fnNamed x lo wid v).toNat more = true := by
  refine (unusedZero_iff hmore).mpr (fun n hn hbit => ?_)
  rw [bit_fnNamed, decide_eq_true hn, Bool.true_and]
  by_cases hin : lo ≤ n ∧ n < lo + wid
  · rw [if_pos hin]
    exact hv n hn hin.1 hbit
  · rw [if_neg hin]
    exact (unusedZero_iff hused).mp hu n hn ((hsub n hn hbit).resolve_right hin)

section
variable (hu : unusedZero x (useD + 255) = true)
include hu

theorem State.skEvt_read (h : fld x 6 2 = 0) : s.skEvt c x = s.skPut c x 4 none (wBool (s.latched (fld x 0 6))) := by
  simp only [State.skEvt, h, State.skEvtRead, hu]
  rfl

theorem State.skEvt_severity (h : fld x 6 2 = 2) : s.skEvt c x = s.skPut c x 4 none (wInt (s.evSev (fld x 0 6))) := by
  simp only [State.skEvt, h, State.skEvtSev, hu]
  rfl

theorem State.skEvt_clear (h : fld x 6 2 = 1) : s.skEvt c x = .next ((s.clearEv (fld x 0 6)).setReg c (xd x)
    (wBool ((s.clearEv (fld x 0 6)).latched (fld x 0 6)))) ((s.core c).pc + 1) 4 false := by
  obtain ⟨-, -, -, -, -, -, -, -, -, -, -, -, -, hcores, -⟩ := s.clearEv_frame (fld x 0 6)
  have hcore : (s.clearEv (fld x 0 6)).core c = s.core c := by rw [State.core, hcores, State.core]
  simp only [State.skEvt, h, State.skEvtClear, hu, ← hcore]
  rfl

end

/-- TICKRD, by its selector (R753). -/
theorem State.skTickrd_eq (hu : unusedZero x (useD + 3) = true) : s.skTickrd c x = s.skPut c x 1 none
    (match xf x with
      | 0 => tword 4 (s.tick % 2 ^ 32)
      | 1 => tword 1 (s.tick / 2 ^ 32)
      | 2 => tword 1 (s.core c).cycles
      | _ => tword 1 s.island.rtc) := by
  simp only [State.skTickrd, hu]
  refine congrArg (s.skPut c x 1 none) ?_
  match xf x with
  | 0 => rfl
  | 1 => rfl
  | 2 => rfl
  | _ + 3 => rfl

section
variable {k : Nat} (htag : tagOf (s.reg c (xa x)) = 5)
include htag

theorem State.skHrd_reads {w : TWord} (hu : unusedZero x (useD + useA + 2 ^ 14 - 1) = true)
    (hslot : s.current (payOf (s.reg c (xa x))) = some k) (hitem : xf x ≠ 0x3FFF) (hword : s.hrdWord k (xf x) = .ok w) :
    s.skHrd c x = .next (s.drawn.setReg c (xd x) w) ((s.core c).pc + 1) 4 false := by
  have hpoison : isPoison (s.reg c (xa x)) = false := isPoison_false (by omega)
  simp only [State.skHrd, State.handleIn, hslot, if_neg hitem, hword, hpoison, htag, hu]
  rfl

/-- LEDGRD through a handle of class LEDG (R480). -/
theorem State.skLedgrd_reads (hu : unusedZero x (useD + useA + 2 ^ 14 - 1) = true)
    (hslot : s.current (payOf (s.reg c (xa x))) = some k) (hcls : (s.slot k).cls = 16) :
    s.skLedgrd c x = s.skPut c x 4 none (s.ledgItem (s.slot k).res (xf x)) := by
  have hpoison : isPoison (s.reg c (xa x)) = false := isPoison_false (by omega)
  simp only [State.skLedgrd, State.handleIn, hslot, hpoison, htag, hu, Option.getD_some, hcls]
  rfl

/-- A register that names no open handle is a stale one (R761). -/
theorem State.skStale (hu : unusedZero x (useD + useA) = true) (hstale : s.current (payOf (s.reg c (xa x))) = none) :
    s.skHrd c x = .trap 0xA 0 ∧ s.skHclose c x = .trap 0xA 0 ∧ s.skLedgrd c x = .trap 0xA 0 := by
  have hpoison : isPoison (s.reg c (xa x)) = false := isPoison_false (by omega)
  have hmore : unusedZero x (useD + useA + 2 ^ 14 - 1) = true := unusedZero_mono (by decide) (by decide) (by decide) hu
  refine ⟨?_, ?_, ?_⟩
  · simp only [State.skHrd, State.handleIn, hstale, hpoison, htag, hmore]
    exact congrArg (fun o => s.drawn.skPut c x 4 o _) (trapOf_one (k := 0xA) _ rfl)
  · simp only [State.skHclose, State.handleIn, hstale, hpoison, htag, hu]
    have htrap (m : Nat) : trapOf m false (5 != 5) [(!true, 7), ((none : Option Nat).isNone, 0xA)] = some 0xA := trapOf_one m rfl
    rw [htrap]
  · simp only [State.skLedgrd, State.handleIn, hstale, hpoison, htag, hmore]
    exact congrArg (fun o => s.skPut c x 4 o _) (trapOf_one (k := 0xA) _ rfl)

theorem State.skHclose_waits (hu : unusedZero x (useD + useA) = true) (hslot : s.current (payOf (s.reg c (xa x))) ≠ none) :
    s.skHclose c x = .next ((s.mapHdl (fun h => { h with
      reqs := h.reqs ++ [⟨c, false, xd x, 0, 0, 0, 0, payOf (s.reg c (xa x))⟩] })).setReg c (xd x) (wStatus 1))
      ((s.core c).pc + 1) 4 false := by
  have hpoison : isPoison (s.reg c (xa x)) = false := isPoison_false (by omega)
  obtain ⟨k, hk⟩ := Option.ne_none_iff_exists'.mp hslot
  simp only [State.skHclose, State.handleIn, hk, hpoison, htag, hu]
  rfl

end

/-- HOPEN without class data (R760). -/
theorem State.skHopen_waits (hu : unusedZero x (useD + useA + 511) = true) (htag : tagOf (s.reg c (xa x)) = 1) :
    s.skHopen c x = .next ((s.mapHdl (fun h => { h with reqs := h.reqs ++
      [⟨c, true, xd x, fld x 0 6, fld x 6 3, payOf (s.reg c (xa x)), payOf (s.reg c (xb x)), 0⟩] })).setReg c (xd x) (wStatus 3))
      ((s.core c).pc + 1) 4 false := by
  have hpoison : isPoison (s.reg c (xa x)) = false := isPoison_false (by omega)
  have hnodata : bit x 9 = false := bit_of_unusedZero hu (by decide) (by decide) (by decide)
  have hmore : unusedZero x (useD + useA + 0 + 1023) = true := unusedZero_mono (by decide) (by decide) (by decide) hu
  have hflags : fld x 6 4 = fld x 6 3 := by
    rw [bit] at hnodata
    unfold fld
    have := beq_eq_false_iff_ne.mp hnodata
    omega
  simp only [State.skHopen, hnodata, hpoison, htag, Bool.false_eq_true, if_false, hmore, hflags]
  rfl

/-- A judgement of the watchdog leaves the cores alone. -/
theorem State.wdgJudge_core (ans : Nat) (k : WdgSnap) (c : Nat) : (s.wdgJudge ans k).2.core c = s.core c := by
  have hcores : (s.wdgJudge ans k).2.cores = s.cores := by
    unfold State.wdgJudge
    dsimp only
    split
    · rfl
    · split
      · simp -implicitDefEqProofs
      · split
        · simp -implicitDefEqProofs [State.dueReset]
        · simp -implicitDefEqProofs
  rw [State.core, hcores, State.core]

/-- WDGA with fn at 0: an answer from this core (R284, R755). -/
theorem State.skWdga_answer (hf : xf x = 0) (hu : unusedZero x (useD + useA) = true) (htag : tagOf (s.reg c (xa x)) = 1) :
    s.skWdga c x = .next ((s.wdgJudge (payOf (s.reg c (xa x)) % 65536) (s.wdgSnap (4 + c))).2.setReg c (xd x)
      (wStatus (s.wdgJudge (payOf (s.reg c (xa x)) % 65536) (s.wdgSnap (4 + c))).1)) ((s.core c).pc + 1) 4 false := by
  have hpoison : isPoison (s.reg c (xa x)) = false := isPoison_false (by omega)
  have hcore := State.wdgJudge_core (s := s) (payOf (s.reg c (xa x)) % 65536) (s.wdgSnap (4 + c)) c
  simp only [State.skWdga, hf, State.skWdgaAnswer, hpoison, htag, hu]
  rw [← hcore]
  rfl

section
variable {k : Nat} (hslot : s.current (payOf (s.reg c (xa x))) = some k) (htagA : tagOf (s.reg c (xa x)) = 5)
  (hcls : payOf (s.reg c (xa x)) / 2 ^ 26 = 1) (htagB : tagOf (s.reg c (xb x)) = 3)
include hslot htagA hcls htagB

/-- HWR of a BOOL through a handle of class HS: the status and state of its lodging (R758). -/
theorem State.skHwr_lodges {n : Nat} {t : State} (hitem : xf x = 0)
    (hwrite : s.hwrWord c k (payOf (s.reg c (xa x))) 0 (s.reg c (xb x)) = .ok (n, t)) :
    s.skHwr c x = .next (t.setReg c (xd x) (wStatus n)) ((s.core c).pc + 1) 4 false := by
  have hpa : isPoison (s.reg c (xa x)) = false := isPoison_false (by omega)
  have hpb : isPoison (s.reg c (xb x)) = false := isPoison_false (by omega)
  simp only [State.skHwr, State.handleIn, hslot, hpa, hpb, htagA, hcls, htagB, hitem, hwrite]
  rfl

end

/-- A BOOL for an HS channel through a handle that does not write, or that writes (R758, R759). -/
theorem State.hwrWord_switch {k handle : Nat} {w : TWord} (hcls : (s.slot k).cls = 1) (htag : tagOf w = 3) (hbool : payOf w ≤ 1) :
    ((s.slot k).writer = false → s.hwrWord c k handle 0 w = .ok (0x0205, s)) ∧
    ((s.slot k).writer = true → s.hwrWord c k handle 0 w =
      .ok (1, (s.lodgeCore 1 (s.slot k).res c (s.slot k).excl 0 (payOf w) 0).hwrWaits c handle s.cmd.lodge)) := by
  have hfits : s.hwrFits (s.slot k) (tagOf w) (payOf w) = true := by simp [State.hwrFits, hcls, htag, hbool]
  have hlodge : s.hwrLodge c (s.slot k) 0 (tagOf w) (payOf w) w = s.lodgeCore 1 (s.slot k).res c (s.slot k).excl 0 (payOf w) 0 := by
    simp only [State.hwrLodge, hcls, htag]
    rfl
  refine ⟨fun hreads => ?_, fun hwrites => ?_⟩
  · unfold State.hwrWord
    dsimp only
    rw [if_neg (by simp [hwrTags, hcls]), if_neg (by omega), if_pos hreads]
  · unfold State.hwrWord
    dsimp only
    rw [if_neg (by simp [hwrTags, hcls]), if_neg (by omega), if_neg (by simp [hwrites]), if_neg (by simp [hfits]), hlodge]

theorem Tbl.get_eq_find {α : Type} (d : α) (t : Tbl α) (k : Nat) : Tbl.get d t k = (Tbl.find t k).getD d := by
  induction t with
  | nil => rfl
  | cons e t ih =>
    obtain ⟨j, v⟩ := e
    by_cases h : j = k
    · simp [Tbl.get, Tbl.find, h]
    · simp [Tbl.get, Tbl.find, h, ih]

/-- A parameter's word is its entry, or its reset word. -/
theorem State.p_eq_get (a : Nat) : s.p a = (Tbl.get (paramReset a) s.params a).toNat := by
  rw [Tbl.get_eq_find, State.p]
  cases Tbl.find s.params a <;> rfl

theorem State.hrdWord_switch {k : Nat} (hcls : (s.slot k).cls = 1) : s.hrdWord k 0 =
    .ok (wInt (Tbl.get (paramReset (hsStat (s.slot k).res)) s.sampled.params (hsStat (s.slot k).res)).toNat) := by
  simp only [State.hrdWord, hcls, if_true, State.p_eq_get]
  rfl

theorem State.skWdga_question (hf : xf x = 1) (hu : unusedZero x (useD + 1) = true) :
    s.skWdga c x = s.skPut c x 4 none (wInt (s.pf 0x0703 0 16)) := by
  simp only [State.skWdga, hf, State.skWdgaQuestion, hu]
  rfl

end Sys2Proof.Machine

namespace Sys2Proof
open Machine

/-- Settles O56: each row is its case of the lemmas `State.sk…` above, in an open slice (`gives_of_next`, `gives_of_trap`). -/
theorem stokerReachesTheManager : Obligations.StokerReachesTheManager := by
  unfold Obligations.StokerReachesTheManager
  refine ⟨?hrd, ?word, ?switch, ?hwr, ?handles, ?hopen, ?events, ?ticks, ?ledger, ?answer, ?question⟩
  case hrd =>
    intro s c k x w hruns hu htag hslot hitem hword
    exact gives_of_next hruns (op := 0x1B) (fun _ => rfl) (State.skHrd_reads htag hu hslot hitem hword)
  case word => exact fun s k hcls => State.hrdWord_switch hcls
  case switch =>
    intro s c k x hruns hu htag hslot hcls hitem
    have hword := State.hrdWord_switch (s := s) hcls
    rw [← hitem] at hword
    exact gives_of_next hruns (op := 0x1B) (fun _ => rfl) (State.skHrd_reads htag hu hslot (by omega) hword)
  case hwr =>
    intro s c k x hruns htagA hslot hpay hcls htagB hbool hitem
    obtain ⟨hreads, hwrites⟩ := State.hwrWord_switch (s := s) (c := c) (handle := payOf (wordA s c x)) hcls htagB hbool
    refine ⟨fun h => ?_, fun h => ?_⟩
    · exact gives_of_next hruns (op := 0x1C) (fun _ => rfl) (State.skHwr_lodges hslot htagA hpay htagB hitem (hreads h))
    · refine ⟨_, gives_of_next hruns (op := 0x1C) (fun _ => rfl) (State.skHwr_lodges hslot htagA hpay htagB hitem (hwrites h)),
        rfl, rfl, rfl, rfl, ?_⟩
      rw [State.hwrWaits, State.updCore_same]
      rfl
  case handles =>
    intro s c x hruns hu htag
    refine ⟨fun hstale => ?_, fun hslot => ?_⟩
    · obtain ⟨hhrd, hhclose, hledgrd⟩ := State.skStale htag hu hstale
      exact ⟨gives_of_trap hruns (op := 0x1B) (fun _ => rfl) hhrd, gives_of_trap hruns (op := 0x1E) (fun _ => rfl) hhclose,
        gives_of_trap hruns (op := 0x22) (fun _ => rfl) hledgrd⟩
    · exact gives_of_next hruns (op := 0x1E) (fun _ => rfl) (State.skHclose_waits htag hu hslot)
  case hopen =>
    intro s c x hruns hu htag
    exact gives_of_next hruns (op := 0x1D) (fun _ => rfl) (State.skHopen_waits hu htag)
  case events =>
    rintro s c e x hruns hu rfl
    have hrow (v : Nat) : ∀ t : Machine.State, done (t.skRow c 0x1F (setFld x.toNat 6 2 v)) = done (t.skRow c 0x1F (fnNamed x 6 2 v).toNat) := by
      intro t
      rw [fnNamed_toNat, State.skRow, State.skRow, Nat.mod_mod]
    have hunused {v : Nat} (hv : v < 4) : unusedZero (fnNamed x 6 2 v).toNat (useD + 255) = true := by
      refine unusedZero_fnNamed x (by decide) (by decide) (fun n _ h => Or.inl h) (fun n hn hlo hbit => ?_) hu
      have hhigh : ∀ n < 26, 6 ≤ n → (useD + 255).testBit n = false → 8 ≤ n := by decide
      have hlow : v < 2 ^ (n - 6) :=
        hv.trans_le (Nat.pow_le_pow_right (n := 2) (i := 2) (by decide) (by have := hhigh n hn hlo hbit; omega))
      rw [bit_eq_testBit, Nat.testBit_lt_two_pow hlow]
    have hevent (v : Nat) : fld (fnNamed x 6 2 v).toNat 0 6 = fld x.toNat 0 6 := fld_fnNamed_below x v (by decide)
    have hgd (v : Nat) : xd (fnNamed x 6 2 v).toNat = xd x.toNat := xd_fnNamed x v (by decide)
    have hread := State.skEvt_read (s := s) (c := c) (hunused (v := 0) (by decide)) (fld_fnNamed_same x 0 (by decide))
    have hclear := State.skEvt_clear (s := s) (c := c) (hunused (v := 1) (by decide)) (fld_fnNamed_same x 1 (by decide))
    have hseverity := State.skEvt_severity (s := s) (c := c) (hunused (v := 2) (by decide)) (fld_fnNamed_same x 2 (by decide))
    rw [hevent] at hread hclear hseverity
    refine ⟨?_, ?_, ?_, State.clearEv_latched _ _⟩
    · have hsets := coreSets_of_put hruns (i := .evtLatchedRead c x) (hrow 0) hread
      unfold CoreSets at hsets ⊢
      rwa [hgd] at hsets
    · have hsets := coreSets_of_put hruns (i := .evtSeverityRead c x) (hrow 2) hseverity
      unfold CoreSets at hsets ⊢
      rwa [hgd] at hsets
    · have hgives := gives_of_next hruns (i := .evtClear c x) (hrow 1) hclear
      rwa [hgd] at hgives
  case ticks =>
    intro s c x hruns hu
    exact coreSets_of_put hruns (op := 0x21) (fun _ => rfl) (State.skTickrd_eq hu)
  case ledger =>
    intro s c k x hruns hu htag hslot hcls
    have hsets := coreSets_of_put hruns (op := 0x22) (i := .ledgrd c x) (fun _ => rfl) (State.skLedgrd_reads htag hu hslot hcls)
    refine ⟨fun hitem => ?_, fun hitem hlives => ?_⟩
    · rwa [State.ledgItem, if_pos hitem] at hsets
    · rw [State.ledgItem, hitem, if_neg (by decide), if_neg (by rw [hlives]; decide)] at hsets
      exact hsets
  case answer =>
    intro s c x hruns hu htag
    have hrow : IsRow (.wdgaAnswer c x) c 0x23 (fnNamed x 0 14 0) := fun t => by
      change done (t.skRow c 0x23 (setFld x.toNat 0 14 0)) = _
      rw [fnNamed_toNat, State.skRow, State.skRow, Nat.mod_mod]
    have hunused : unusedZero (fnNamed x 0 14 0).toNat (useD + useA) = true :=
      unusedZero_fnNamed x (by decide) (by decide) (fun n _ h => Or.inl h) (fun n _ _ _ => by simp [bit]) hu
    have hwa : wordA s c (fnNamed x 0 14 0) = wordA s c x := by rw [wordA, xa_fnNamed x 0 (by decide), wordA]
    have hgives := gives_of_next hruns hrow (State.skWdga_answer (fld_fnNamed_same x 0 (by decide)) hunused
      ((congrArg tagOf hwa).trans htag))
    rw [xa_fnNamed x 0 (by decide), xd_fnNamed x 0 (by decide)] at hgives
    exact ⟨_, hgives, rfl⟩
  case question =>
    intro s c x hruns hu
    have hrow : IsRow (.wdgaQuestion c x) c 0x23 (fnNamed x 0 14 1) := fun t => by
      change done (t.skRow c 0x23 (setFld x.toNat 0 14 1)) = _
      rw [fnNamed_toNat, State.skRow, State.skRow, Nat.mod_mod]
    have hunused : unusedZero (fnNamed x 0 14 1).toNat (useD + 1) = true :=
      unusedZero_fnNamed x (by decide) (by decide) (by decide) (by decide) hu
    have hsets := coreSets_of_put hruns hrow (State.skWdga_question (s := s) (fld_fnNamed_same x 1 (by decide)) hunused)
    unfold CoreSets at hsets ⊢
    rwa [xd_fnNamed x 1 (by decide)] at hsets

end Sys2Proof

/-! The first Kindling tick and the end of the ROM boot (R49, R59, R63, R76, R77, R279, R304, R515). -/
namespace Sys2Proof.Machine

variable {s : State}

theorem leNat_le_mod (n v : Nat) : leNat (le n v) = v % 256 ^ n := by
  induction n generalizing v with
  | zero => simp [le, leNat, Nat.mod_one]
  | succ n ih =>
    simp only [le, leNat, ih, BitVec.toNat_ofNat]
    rw [show 256 ^ (n + 1) = 256 * 256 ^ n from Nat.pow_succ', Nat.mod_mul]

/-- A field at the front of the bytes, of the value modulo its width. -/
theorem leAt_le_mod (n v : Nat) (l : List Byte) : leAt (le n v ++ l) 0 n = v % 256 ^ n := by
  rw [leAt, List.drop_zero, List.take_left' (le_length n v), leNat_le_mod]

/-- The counter that a tick takes (R49, R63). -/
def State.nextCount (s : State) : Nat :=
  match s.part.follow with
  | some n => n % 2 ^ 48
  | none => if s.island.fresh then s.island.count else (s.island.count + 1) % 2 ^ 48

/-- A tick takes its counter; the clocks stand. -/
theorem State.tickCount_takes : s.tickCount.island = { s.island with count := s.nextCount, fresh := false } ∧
    s.tickCount.part.follow = none ∧
    s.tickCount = { s with island := s.tickCount.island, part := s.tickCount.part } := by
  unfold State.tickCount State.nextCount
  cases hfollow : s.part.follow with
  | some n => exact ⟨rfl, rfl, rfl⟩
  | none =>
    refine ⟨?_, hfollow, rfl⟩
    change (if s.island.fresh then _ else _) = _
    by_cases hfresh : s.island.fresh = true
    · simp only [hfresh, if_true]
    · simp only [hfresh]
      rfl

/-- The role in the tick that a manager takes at its first Kindling tick (R59, R63). -/
theorem State.tickRole_takes : s.tickRole = { s with params := s.tickRole.params } ∧ SameParams s s.tickRole [0x0203, 0x0206] ∧
    (s.role = 2 ∧ s.pf 0x0206 0 2 = 0 → s.tickRole.pf 0x0206 0 2 = (if s.pb 0x1905 0 then 1 else 2) ∧ s.tickRole.pb 0x0203 0 = false) ∧
    (¬(s.role = 2 ∧ s.pf 0x0206 0 2 = 0) → s.tickRole.pb 0x0203 0 = (s.pf 0x0206 0 2 == 0)) := by
  have hcode : (if s.pb 0x1905 0 then 1 else 2) % 2 ^ 2 = if s.pb 0x1905 0 then 1 else 2 := by split <;> rfl
  unfold State.tickRole
  split
  · next hfollows =>
    refine ⟨rfl, fun a ha => ?_, fun _ => ⟨?_, ?_⟩, fun h => absurd hfollows h⟩
    · obtain ⟨h1, h2⟩ : a ≠ 0x0203 ∧ a ≠ 0x0206 := by simpa using ha
      rw [State.p_setPb_other _ _ _ h1, State.p_setPf_other _ _ _ _ h2]
    · rw [State.pf_setPb_other _ _ _ _ _ (by decide), s.pf_setPf_same _ _ _ _ (by decide), hcode]
    · rw [State.pb_setPb_same _ _ _ _ (by decide)]
  · next hleads =>
    refine ⟨rfl, fun a ha => ?_, fun h => absurd h hleads, fun _ => s.pb_setPb_same _ _ _ (by decide)⟩
    obtain ⟨h1, -⟩ : a ≠ 0x0203 ∧ a ≠ 0x0206 := by simpa using ha
    rw [State.p_setPb_other _ _ _ h1]

/-- A part of the watchdog's start, which writes its bits and settings alone. -/
theorem State.setPb_mapWdg_only (t : State) (a lo : Nat) (b : Bool) (f : Wdg → Wdg) : (t.setPb a lo b).mapWdg f =
    { t with params := ((t.setPb a lo b).mapWdg f).params, wdg := ((t.setPb a lo b).mapWdg f).wdg } := rfl

theorem State.wdgGo_only : s.wdgGo = { s with params := s.wdgGo.params, wdg := s.wdgGo.wdg } := by
  have htrans {t u : State} (ht : t = { s with params := t.params, wdg := t.wdg }) (hu : u = { t with params := u.params, wdg := u.wdg }) :
      u = { s with params := u.params, wdg := u.wdg } := hu.trans (by rw [ht])
  unfold State.wdgGo State.wdgPeriod
  exact htrans (State.setPb_mapWdg_only s _ _ _ _) (State.setPb_mapWdg_only _ _ _ _ _)

/-- The hardware start of the watchdog (R279, R288). -/
theorem State.wdgHwStart_starts : s.wdgHwStart = { s with params := s.wdgHwStart.params, wdg := s.wdgHwStart.wdg } ∧
    SameParams s s.wdgHwStart [0x0703] ∧
    s.wdgHwStart.pb 0x0703 20 = (s.pb 0x0703 20 || (s.sys.fuseRead.getLsbD 0x46B && s.island.wdgKept.isNone)) := by
  unfold State.wdgHwStart
  split
  · next hstarts =>
    refine ⟨State.wdgGo_only, fun a ha => ?_, ?_⟩
    · have ha' : a ≠ 0x0703 := by simpa using ha
      rw [State.wdgGo, State.wdgPeriod, State.mapWdg_p, State.p_setPb_other _ _ _ ha', State.mapWdg_p, State.p_setPb_other _ _ _ ha']
    · rw [hstarts, Bool.or_true]
      exact State.wdgGo_runs
  · next hnot =>
    refine ⟨rfl, fun _ _ => rfl, ?_⟩
    rw [Bool.eq_false_iff.mpr hnot, Bool.or_false]

/-- The BEAT of a tick in Kindling (R515, R534). -/
theorem State.sendBeat_sends (hphase : s.sys.phase = .kindling) : (s.role = 0 → s.sendBeat = s) ∧
    (s.role ≠ 0 → ∃ b, s.sendBeat.sent = { s.sent with part := s.sent.part ++ [(0x11, b)] } ∧
      leAt b 1 6 = s.island.count % 2 ^ 48 ∧ fld (leAt b 8 1) 2 1 = s.pf 0x0203 0 1) ∧
    s.sendBeat = { s with part := s.sendBeat.part, sent := s.sendBeat.sent } ∧ s.sendBeat.part.follow = s.part.follow := by
  have hfull : s.full = false := by
    rw [State.full, hphase]
    rfl
  by_cases hrole : s.role = 0
  · have hsolo : s.sendBeat = s := if_pos hrole
    exact ⟨fun _ => hsolo, fun h => absurd hrole h, by rw [hsolo], by rw [hsolo]⟩
  · have hbeat : s.sendBeat = s.partOut 0x11 (le 6 s.tick ++ le 1 s.periodCode ++
        le 1 (s.stateCode + 4 * s.pf 0x0203 0 1 + 8 * s.pf 0x1906 0 1 + 16 * b2n s.part.sleep) ++ le 4 (s.p 0x0108) ++ zeros 4) := by
      unfold State.sendBeat
      rw [if_neg hrole]
      dsimp only
      rw [hfull, Bool.false_and, if_neg (by decide)]
    refine ⟨fun h => absurd h hrole, fun _ => ?_, ?_, ?_⟩
    · rw [hbeat]
      refine ⟨_, rfl, ?_, ?_⟩
      · simp only [List.append_assoc]
        rw [leAt_skip (k := 0) (by rw [le_length]), leAt_le_mod]
        rfl
      · simp only [List.append_assoc]
        rw [leAt_skip (k := 7) (by rw [le_length]), leAt_skip (k := 1) (by rw [le_length]), leAt_skip (k := 0) (by rw [le_length]),
          leAt_le_mod]
        have hcode : s.stateCode = 1 := by
          rw [State.stateCode, hphase]
        have hsource : s.pf 0x0203 0 1 < 2 := s.pf_lt _ _ _
        rw [hcode]
        unfold fld
        omega
    · rw [hbeat]
      rfl
    · rw [hbeat]
      rfl

/-- Changes of parameters alone, one after the other. -/
theorem State.each_params_only {α : Type} (f : State → α → State) (hf : ∀ t x, ∃ ps, f t x = { t with params := ps }) (l : List α)
    (s : State) : s.each l f = { s with params := (s.each l f).params } := by
  induction l generalizing s with
  | nil => rfl
  | cons x l ih =>
    obtain ⟨ps, hps⟩ := hf s x
    have hstep : s.each (x :: l) f = (f s x).each l f := rfl
    rw [hstep, ih, hps]

theorem State.params_after_mapSys {u : State} {f : Sys → Sys} (hu : u = { s.mapSys f with params := u.params }) :
    u = { s with sys := u.sys, params := u.params } := by
  rw [hu]
  rfl

end Sys2Proof.Machine

namespace Sys2Proof
open Machine

/-- Settles O12: the first tick stage by stage (its counter, the role in the tick, the watchdog, the BEAT), and the training bit of
each ring in use. -/
theorem kindlingBringUp : Obligations.KindlingBringUp := by
  refine ⟨fun s us hphase hpll => ?_, fun s hphase hrom => ?_⟩
  · have hexec : execPllLock us s = done
        ((s.rtcUs us).mapSys (fun y => { y with pll := true, tph := 1 })).tickCount.tickRole.wdgHwStart.sendBeat := by
      rw [execPllLock, if_pos (by rw [hphase, hpll]; rfl), State.lapse_of_supply s us (by rw [hphase]; decide)]
    obtain ⟨hisland, hfollow, htick⟩ := State.tickCount_takes (s := (s.rtcUs us).mapSys (fun y => { y with pll := true, tph := 1 }))
    generalize ((s.rtcUs us).mapSys (fun y => { y with pll := true, tph := 1 })).tickCount = t at hexec hisland hfollow htick
    have hts : t = { s with sys := t.sys, island := t.island, part := t.part } ∧ t.sys = { s.sys with pll := true, tph := 1 } :=
      ⟨by rw [htick]; rfl, by rw [htick]; rfl⟩
    obtain ⟨hbase, hsys⟩ := hts
    have hparams : t.params = s.params := by rw [hbase]
    have hrole : t.role = s.role := by rw [State.role, State.role, hsys]
    obtain ⟨honly1, hother1, htwin, hlone⟩ := State.tickRole_takes (s := t)
    generalize t.tickRole = t1 at hexec honly1 hother1 htwin hlone
    obtain ⟨honly2, hother2, hruns⟩ := State.wdgHwStart_starts (s := t1)
    generalize t1.wdgHwStart = t2 at hexec honly2 hother2 hruns
    obtain ⟨hsolo, hbeat, honly3, hfollow3⟩ := State.sendBeat_sends (s := t2) (by rw [honly2, honly1, hsys]; exact hphase)
    generalize t2.sendBeat = u at hexec hsolo hbeat honly3 hfollow3
    have hkeep2 : t2.sys = t.sys ∧ t2.island = t.island ∧ t2.sent = s.sent ∧ t2.part = t.part := by
      rw [honly2, honly1]
      exact ⟨rfl, rfl, by rw [hbase], rfl⟩
    obtain ⟨hsys2, hisland2, hsent2, hpart2⟩ := hkeep2
    have hkeep : u.sys = t2.sys ∧ u.island = t2.island ∧ u.params = t2.params := by
      rw [honly3]
      exact ⟨rfl, rfl, rfl⟩
    obtain ⟨hsys3, hisland3, hparams3⟩ := hkeep
    have hrole2 : t2.role = s.role := by rw [State.role, State.role, hsys2, hsys]
    have hp2 {a : Nat} (ha : a ≠ 0x0703) : u.p a = t1.p a :=
      (State.p_of_params hparams3 a).trans (hother2 a (by simpa using ha))
    have hpf (a l w : Nat) : t.pf a l w = s.pf a l w := State.pf_of_params hparams a l w
    have hpb (a l : Nat) : t.pb a l = s.pb a l := State.pb_of_params hparams a l
    rw [hrole, hpf, hpb] at htwin
    rw [hrole, hpf] at hlone
    refine ⟨u, hexec, hsys3.trans (hsys2.trans hsys), ?_, ?_, ?_, ?_, fun h => ?_, fun h => ?_, ?_, fun h => ?_, fun h => ?_, ?_,
      fun a ha => ?_⟩
    · rw [hisland3, hisland2, hisland]
      rfl
    · rw [hisland3, hisland2, hisland]
    · rw [hfollow3, hpart2, hfollow]
    · rw [hisland3, hisland2, hisland]
      rfl
    · obtain ⟨hcode, hsource⟩ := htwin h
      refine ⟨?_, ?_⟩
      · rw [State.pf, hp2 (by decide)]
        exact hcode
      · rw [State.pb, hp2 (by decide)]
        exact hsource
    · rw [State.pb, hp2 (by decide)]
      exact hlone h
    · have hfuse : t1.sys.fuseRead = s.sys.fuseRead := by
        rw [honly1, hsys]
      have hkept : t1.island.wdgKept = s.island.wdgKept := by
        rw [honly1, hisland]
        rfl
      rw [State.pb_of_params hparams3, hruns, State.pb, hother1 _ (by decide), ← State.pb, hpb, hfuse, hkept]
    · rw [hsolo (hrole2.trans h), hsent2]
    · obtain ⟨b, hsent, hcount, hsource⟩ := hbeat (by rw [hrole2]; exact h)
      rw [hsent2] at hsent
      exact ⟨b, hsent, by rw [hcount, hisland3], by rw [hsource, State.pf_of_params hparams3]⟩
    · rw [honly3, honly2, honly1, hbase]
    · have ha' : a ≠ 0x0203 ∧ a ≠ 0x0206 ∧ a ≠ 0x0703 := by simpa using ha
      rw [hp2 ha'.2.2, hother1 a (by simpa using ⟨ha'.1, ha'.2.1⟩), State.p_of_params hparams]
  · refine ⟨_, congrArg done (if_pos (by rw [hphase, hrom]; rfl)), ?_, fun r hr hon => ?_, fun r hr hoff => ?_, ?_, ?_⟩
    · exact State.each_sys _ _ _ (fun t r => State.setPb_sys _ _ _ _)
    · obtain ⟨t, -, hone⟩ := State.each_one (fun t => t.pb (0x1004 + r) 22) (fun t r => t.setPb (0x1004 + r) 22 true) r
        ((List.range 4).filter (s.pb 0x1000)) (List.nodup_range.filter _) (List.mem_filter.mpr ⟨List.mem_range.mpr hr, hon⟩)
        (fun t y _ hne => State.pb_setPb_other _ _ _ _ (by omega)) (s.mapSys (fun y => { y with rom := true }))
      exact hone.trans (t.pb_setPb_same _ _ _ (by decide))
    · refine State.each_keeps_mem (fun t => t.p (0x1004 + r)) _ _ (fun t y hy => State.p_setPb_other _ _ _ ?_) _
      have hne : y ≠ r := by
        rintro rfl
        rw [(List.mem_filter.mp hy).2] at hoff
        exact Bool.noConfusion hoff
      omega
    · exact State.params_after_mapSys (State.each_params_only _ (fun t r => ⟨(t.setPb (0x1004 + r) 22 true).params, rfl⟩) _ _)
    · intro a ha
      refine State.each_keeps_mem (fun t => t.p a) _ _ (fun t y hy => State.p_setPb_other _ _ _ ?_) _
      have hy4 := List.mem_range.mp (List.mem_filter.mp hy).1
      simp at ha
      omega

end Sys2Proof

/-! The rings at the manager: what sending frames leaves unchanged, and what enumeration holds of a ring (R330 to R334, R351). -/

namespace Sys2Proof.Machine

/-- A ring at the manager but for the SEQ of its next frame. -/
def State.ringFixed (s : State) (r : Nat) : Ring := { s.ring r with seq := 0 }

section
variable (s : State)

theorem State.ringFixed_seq {s t : State} {r k : Nat} {q : Nat} (h : t.flue = (s.updRing r (fun g => { g with seq := q })).flue) :
    t.ringFixed k = s.ringFixed k := by
  have hring : t.ring k = (s.updRing r (fun g => { g with seq := q })).ring k := by
    rw [State.ring, State.ring, h]
  rw [State.ringFixed, State.ringFixed, hring]
  by_cases hk : k = r
  · rw [hk, State.updRing_same]
  · rw [State.updRing_other _ _ hk]

theorem State.sendRing_rings (w dir kind : Nat) (body : List Byte) (k : Nat) :
    (s.sendRing w dir kind body).ringFixed k = s.ringFixed k ∧ (s.sendRing w dir kind body).flue.views = s.flue.views :=
  ⟨State.ringFixed_seq rfl, rfl⟩

theorem State.sendTo_rings (w kind : Nat) (body : List Byte) (k : Nat) :
    (s.sendTo w kind body).ringFixed k = s.ringFixed k ∧ (s.sendTo w kind body).flue.views = s.flue.views := by
  unfold State.sendTo
  split
  · exact s.sendRing_rings _ _ _ _ k
  · split
    · exact ⟨State.ringFixed_seq rfl, rfl⟩
    · exact s.sendRing_rings _ _ _ _ k

theorem State.sendWrite_rings (w kind index value k : Nat) :
    (s.sendWrite w kind index value).ringFixed k = s.ringFixed k ∧ (s.sendWrite w kind index value).flue.views = s.flue.views :=
  s.sendTo_rings w 5 _ k

theorem State.putDelay_rings (w i : Nat) (trip : Option Nat) (k : Nat) :
    (s.putDelay w i trip).ringFixed k = s.ringFixed k ∧ (s.putDelay w i trip).flue.views = s.flue.views := by
  unfold State.putDelay
  split
  · next x =>
    obtain ⟨hring, hviews⟩ := (s.each (List.range 16) (fun t _ => t.sendRing w (i - 1) 2 (le 1 3 ++ zeros 3))).sendWrite_rings w 1 i
      (hopDelay s.free x + 65536) k
    refine ⟨hring.trans ?_, hviews.trans ?_⟩
    · exact State.each_keeps (fun t => t.ringFixed k) _ _ (fun t _ => (t.sendRing_rings _ _ _ _ k).1) s
    · exact State.each_keeps (fun t => t.flue.views) _ _ (fun t _ => (t.sendRing_rings _ _ _ _ k).2) s
  · exact ⟨rfl, rfl⟩

theorem State.updRing_views (s : State) (r : Nat) (f : Ring → Ring) : (s.updRing r f).flue.views = s.flue.views := rfl

theorem State.ring_of_flue {s t : State} (h : t.flue = s.flue) (r : Nat) : t.ring r = s.ring r := by
  rw [State.ring, State.ring, h]

theorem State.view_of_flue {s t : State} (h : t.flue = s.flue) (w : Nat) : t.view w = s.view w := by
  rw [State.view, State.view, h]

theorem State.view_of_views {s t : State} (h : t.flue.views = s.flue.views) (w : Nat) : t.view w = s.view w := by
  rw [State.view, State.view, h]

theorem wKey_inj {r a b : Nat} (ha : a < 64) (hb : b < 64) (h : wKey r a = wKey r b) : a = b := by
  unfold wKey at h
  omega

/-- Each enumerated worker is held with its serial and its role. -/
theorem State.setViews_view (r a : Nat) (serials roles : List Nat) {k : Nat} (hk : k < serials.length) (hlast : a + serials.length ≤ 64) :
    ((s.setViews r a serials roles).view (wKey r (a + k))).here = true ∧
    ((s.setViews r a serials roles).view (wKey r (a + k))).serial = nth 0 serials k ∧
    ((s.setViews r a serials roles).view (wKey r (a + k))).meter = (nth 0 roles k == 1) := by
  have hnodup : serials.zipIdx.Nodup := List.Nodup.of_map Prod.snd (by rw [List.zipIdx_map_snd]; exact List.nodup_range')
  have hmem : (nth 0 serials k, k) ∈ serials.zipIdx := by
    rw [List.mk_mem_zipIdx_iff_getElem?, nth]
    simp [List.getElem?_eq_getElem hk]
  obtain ⟨t, -, hone⟩ := State.each_one (fun t => t.view (wKey r (a + k))) (fun t (e : Nat × Nat) =>
    t.updView (wKey r (a + e.2)) (fun v => { v with here := true, serial := e.1, meter := nth 0 roles e.2 == 1 })) _ _ hnodup hmem
    (fun t y hy hne => by
      refine State.updView_other _ _ (fun hkey => hne ?_)
      have hyk := List.mem_zipIdx_iff_getElem?.mp hy
      have hlt : y.2 < serials.length := (List.getElem?_eq_some_iff.mp hyk).1
      have hidx : y.2 = k := by
        have := wKey_inj (by omega) (by omega) hkey
        omega
      rw [hidx] at hyk
      refine Prod.ext ?_ hidx
      rw [nth, List.getD_eq_getElem?_getD, hyk]
      rfl) s
  have hview : (s.setViews r a serials roles).view (wKey r (a + k)) = _ := hone
  rw [hview, State.updView_same]
  exact ⟨rfl, rfl, rfl⟩

theorem ringStat_ne (r : Nat) : ringStat r ≠ 0x0203 := by
  unfold ringStat
  omega

theorem State.serials_of_ringFixed {t : State} {r : Nat} {l : List Nat} (h : (t.ringFixed r).serials = l) :
    (t.ring r).serials = l := h

/-- What enumeration holds of a ring that is whole. -/
theorem State.ringFound_holds (f : RingFound) (fromB : Bool) (hon : s.ringOn f.ring = true) (hcal : (s.ring f.ring).cal = 0)
    (hwhole : f.closed = true ∨ fromB = true) (hlen : f.serials.length ≤ 63) :
    ((s.ringFound f fromB).ring f.ring).serials = f.serials ∧
    (s.ringFound f fromB).pf (ringStat f.ring) 0 6 = f.serials.length ∧ (s.ringFound f fromB).pb (ringStat f.ring) 6 = false ∧
    (∀ k, k < f.serials.length → ((s.ringFound f fromB).view (wKey f.ring (k + 1))).here = true ∧
      ((s.ringFound f fromB).view (wKey f.ring (k + 1))).serial = nth 0 f.serials k ∧
      ((s.ringFound f fromB).view (wKey f.ring (k + 1))).meter = (nth 0 f.roles k == 1)) := by
  have hw : (f.closed || fromB || (decide (f.serials.length = 0) && decide (f.farCount = 0))) = true := by
    rcases hwhole with h | h <;> simp [h]
  unfold State.ringFound
  rw [if_neg (by rw [hon, hcal]; decide)]
  dsimp only
  rw [if_pos hw]
  generalize (if (s.role != 0 && (s.ring f.ring).joined) = true then s else _) = s0
  have hst (x y z : Nat) : fld ((f.serials.length + 64 * b2n (!true) + 256 * f.serials.length + 2 ^ 14 * x + 2 ^ 21 * y +
      2 ^ 22 * z) % 2 ^ 32) 0 6 = f.serials.length ∧ fld ((f.serials.length + 64 * b2n (!true) + 256 * f.serials.length + 2 ^ 14 * x +
      2 ^ 21 * y + 2 ^ 22 * z) % 2 ^ 32) 6 1 = 0 := by
    have hzero : b2n (!true) = 0 := rfl
    have hsplit : f.serials.length + 64 * 0 + 256 * f.serials.length + 2 ^ 14 * x + 2 ^ 21 * y + 2 ^ 22 * z =
        f.serials.length + 128 * (2 * f.serials.length + 2 ^ 7 * x + 2 ^ 14 * y + 2 ^ 15 * z) := by omega
    rw [hzero, hsplit]
    generalize 2 * f.serials.length + 2 ^ 7 * x + 2 ^ 14 * y + 2 ^ 15 * z = high
    unfold fld
    omega
  refine ⟨?_, ?_, ?_, fun k hk => ?_⟩
  · refine State.serials_of_ringFixed ((congrArg Ring.serials (State.each_keeps (fun t => t.ringFixed f.ring) _ _ (fun t k =>
      ((State.putDelay_rings _ _ _ _ _).1.trans (State.putDelay_rings _ _ _ _ _).1)) _)).trans ?_)
    rw [State.ringFixed, State.updRing_same]
  · refine (State.pf_of_params (State.each_keeps (fun t => t.params) _ _ (fun t k => by simp -implicitDefEqProofs) _) _ _ _).trans ?_
    rw [State.updRing_pf, State.pf_of_params (State.setViews_frame _ _ _ _ _).2.2.2.2.2.1, State.pf, State.p_setP_same, hw]
    exact (hst _ _ _).1
  · refine (State.pb_of_params (State.each_keeps (fun t => t.params) _ _ (fun t k => by simp -implicitDefEqProofs) _) _ _).trans ?_
    rw [State.updRing_pb, State.pb_of_params (State.setViews_frame _ _ _ _ _).2.2.2.2.2.1, State.pb, State.p_setP_same, hw, bit_eq_fld,
      (hst _ _ _).2]
    rfl
  · rw [State.view_of_views (State.each_keeps (fun t => t.flue.views) _ _ (fun t k =>
      ((State.putDelay_rings _ _ _ _ f.ring).2.trans (State.putDelay_rings _ _ _ _ f.ring).2)) _), Nat.add_comm k 1]
    exact State.setViews_view _ f.ring 1 _ _ hk (by omega)

/-- Manager B's segment of a broken ring (R332). -/
theorem State.segmentB_counts {r : Nat} (n : Nat) (hr : r < 4) (hon : s.ringOn r = true) (hcal : (s.ring r).cal = 0)
    (hjoined : (s.ring r).joined = false) : ((s.segmentB r n).ring r).far = some n ∧ (s.segmentB r n).pb (ringStat r) 6 = true ∧
    (s.segmentB r n).holds (2 + r) = true := by
  unfold State.segmentB
  rw [if_neg (by rw [hon, hcal, hjoined]; decide)]
  dsimp only
  generalize s.sendRing (wKey r 0) 1 2 (le 1 1 ++ zeros 3) = t
  refine ⟨?_, ?_, ?_⟩
  · rw [State.ring_of_flue (State.incPf_flue _ _ _ _), State.ring_of_flue (State.begin_frame _ _ _ _).2.2.2.2.2.2.2.2.1,
      State.updRing_same]
  · rw [State.pb, State.incPf_p _ _ _ (by unfold ringStat; omega), State.begin_p _ _ _ _ (by unfold ringStat; omega) (by unfold ringStat; omega),
      State.updRing_p, State.p_setP_same]
    rfl
  · rw [State.holds_of_conds (congrArg Evt.conds (State.incPf_evt _ _ _ _)), State.begin_holds]

/-- What `calSettle` leaves of the rings, and of the parameters but TICK.STAT. -/
theorem State.calSettle_keeps : s.calSettle.flue = s.flue ∧ s.calSettle.nvm = s.nvm ∧ s.calSettle.out = s.out ∧
    s.calSettle.wks = s.wks ∧ (∀ a, a ≠ 0x0203 → s.calSettle.p a = s.p a) :=
  ⟨rfl, rfl, rfl, rfl, fun _ ha => s.p_setPb_other _ _ ha⟩

end

/-- The rings in use that no result of the enumeration names hold no worker (R330). -/
def State.ringsEmpty (s : State) (mine : Nat → Bool) (found : List RingFound) : State :=
  s.each ((List.range 4).filter (fun r => mine r && s.ringOn r && (s.ring r).cal == 0 && found.all (fun f => f.ring != r)))
    (fun t r => (t.setPb (ringStat r) 22 false).updRing r (fun g => { g with cal := 3 }))

theorem State.ringsEmpty_keeps {β : Type} (π : State → β) (s : State) (mine : Nat → Bool) (f : RingFound)
    (h : ∀ t r, r ≠ f.ring → π ((t.setPb (ringStat r) 22 false).updRing r (fun g => { g with cal := 3 })) = π t) :
    π (s.ringsEmpty mine [f]) = π s := by
  refine State.each_keeps_mem π _ _ (fun t r hr => h t r ?_) s
  have hnamed := (List.mem_filter.mp hr).2
  simp at hnamed
  exact fun he => hnamed.2 he.symm

end Sys2Proof.Machine

namespace Sys2Proof
open Machine

section
variable (s : State) (f : RingFound)

theorem execRingEnumeration_eq (hphase : s.sys.phase = .kindling) (hrom : s.sys.rom = true) (hrole : s.role ≠ 2) :
    ∃ g, execRingEnumeration [f] s = done
      (((s.ringFound f false).ringsEmpty (fun r => s.role != 2 || (s.ring r).joined) [f]).calSettle.mapSys g) := by
  unfold execRingEnumeration
  rw [if_pos (by simp [hphase, hrom, hrole])]
  dsimp only
  rw [List.filter_cons_of_pos (by simp [hrole])]
  exact ⟨_, rfl⟩

theorem execEnumFromB_eq (hphase : s.sys.phase = .kindling) (hrom : s.sys.rom = true) (hrole : s.role = 2)
    (hfar : (s.ring f.ring).far = none) :
    execEnumFromB f s = done (if s.linkUp then s.segmentB f.ring f.serials.length else (s.ringFound f true).calSettle) := by
  unfold execEnumFromB
  dsimp only
  rw [if_neg (by rw [hphase, hrom]; decide), hfar]
  dsimp only
  rw [if_neg (not_not.mpr hrole)]

end

/-- Settles O13: `ringFound` holds a whole ring, and what follows it in each command leaves that ring as it is. -/
theorem enumerationHoldsTheWorkers : Obligations.EnumerationHoldsTheWorkers := by
  refine ⟨fun s f hphase hrom hrole hon hcal hclosed hover hlen => ?_,
    fun s f hphase hrom hrole hlink hon hcal hfar hover hlen => ?_, fun s f hphase hrom hrole hlink hr hon hcal hfar hjoined => ?_⟩
  · obtain ⟨g, hexec⟩ := execRingEnumeration_eq s f hphase hrom hrole
    obtain ⟨hserials, hcount, hwhole, hviews⟩ := s.ringFound_holds f false hon hcal (.inl hclosed) hlen
    have hstart := s.ringFound_frame f false
    have hkeep {β : Type} (π : State → β) := State.ringsEmpty_keeps π (s.ringFound f false) (fun r => s.role != 2 || (s.ring r).joined) f
    generalize (s.ringFound f false).ringsEmpty _ [f] = t at hexec hkeep
    have hring := hkeep (fun t => t.ring f.ring) (fun t r hne =>
      (State.updRing_other _ _ (Ne.symm hne)).trans (State.ring_of_flue (State.setPb_flue _ _ _ _) _))
    have hp := hkeep (fun t => t.p (ringStat f.ring)) (fun t r hne =>
      (State.updRing_p _ _ _ _).trans (State.p_setPb_other _ _ _ (by unfold ringStat; omega)))
    have hview := hkeep (fun t => t.flue.views) (fun t r _ =>
      (State.updRing_views _ _ _).trans (congrArg Flue.views (State.setPb_flue _ _ _ _)))
    have hnvm' := (hkeep State.nvm (fun t r _ => (State.updRing_nvm _ _ _).trans (State.setPb_nvm _ _ _ _))).trans hstart.2.2.2.1
    have hout' := (hkeep State.out (fun t r _ => (State.updRing_out _ _ _).trans (State.setPb_out _ _ _ _))).trans hstart.2.2.2.2.2.2.2.1
    have hwks' := (hkeep State.wks (fun t r _ => (State.updRing_wks _ _ _).trans (State.setPb_wks _ _ _ _))).trans hstart.2.2.2.2.2.2.2.2.2.2.2.1
    obtain ⟨hflue, hnvm, hout, hwks, hset⟩ := t.calSettle_keeps
    generalize t.calSettle = v at hexec hflue hnvm hout hwks hset
    refine ⟨_, hexec, ?_, ?_, ?_, fun k hk => ?_, hnvm.trans hnvm', hout.trans hout', hwks.trans hwks'⟩
    · rw [← hserials, ← hring, ← State.ring_of_flue hflue, State.ring_of_flue (State.mapSys_flue v g)]
    · rw [← hcount, State.mapSys_pf, State.pf, hset _ (ringStat_ne f.ring), hp, State.pf]
    · rw [← hwhole, State.mapSys_pb, State.pb, hset _ (ringStat_ne f.ring), hp, State.pb]
    · rw [State.view_of_flue (State.mapSys_flue v g), State.view_of_flue hflue, State.view_of_views hview]
      exact hviews k hk
  · have hexec := execEnumFromB_eq s f hphase hrom hrole hfar
    rw [if_neg (Bool.eq_false_iff.mp hlink)] at hexec
    obtain ⟨hserials, hcount, -, hviews⟩ := s.ringFound_holds f true hon hcal (.inr rfl) hlen
    obtain ⟨hflue, hnvm, hout, hwks, hp⟩ := (s.ringFound f true).calSettle_keeps
    obtain ⟨-, -, -, hnvm', -, -, -, hout', -, -, -, hwks', -⟩ := s.ringFound_frame f true
    generalize (s.ringFound f true).calSettle = v at hexec hflue hnvm hout hwks hp
    refine ⟨_, hexec, ?_, ?_, fun k hk => ?_, hnvm.trans hnvm', hout.trans hout', hwks.trans hwks'⟩
    · rw [← hserials, State.ring_of_flue hflue]
    · rw [← hcount, State.pf, hp _ (ringStat_ne f.ring), State.pf]
    · rw [State.view_of_flue hflue]
      exact ⟨(hviews k hk).1, (hviews k hk).2.1⟩
  · have hexec := execEnumFromB_eq s f hphase hrom hrole hfar
    rw [if_pos hlink] at hexec
    obtain ⟨hfar', hbroken, hholds⟩ := s.segmentB_counts f.serials.length hr hon hcal hjoined
    exact ⟨_, hexec, hfar', hbroken, hholds⟩

end Sys2Proof

/-! RELEASE_TO_LIT and the tick's start (R66, R105, R106). -/

namespace Sys2Proof.Machine

section
variable (s : State)

theorem State.skResume_keeps : s.skResume.sys = s.sys ∧ s.skResume.evt = s.evt := by
  have hone (t : State) (c : Nat) : (t.skStart c).sys = t.sys ∧ (t.skStart c).evt = t.evt := by simp -implicitDefEqProofs
  constructor
  · refine State.each_keeps State.sys _ _ (fun t c => ?_) s
    dsimp only
    refine State.ite_keeps State.sys _ _ _ _ (State.ite_keeps State.sys _ _ _ _ (State.setPf_sys _ _ _ _ _)
      (State.ite_keeps State.sys _ _ _ _ (hone t c).1 rfl)) rfl
  · refine State.each_keeps State.evt _ _ (fun t c => ?_) s
    dsimp only
    refine State.ite_keeps State.evt _ _ _ _ (State.ite_keeps State.evt _ _ _ _ (State.setPf_evt _ _ _ _ _)
      (State.ite_keeps State.evt _ _ _ _ (hone t c).2 rfl)) rfl

/-- The state in which the tick's start decides on a release: the old tick is over and the counters have advanced. -/
def State.tickCounted : State :=
  (({ s with sent := Sent.none }.tickEnd.rtcUs s.tUs).wearLit s.tUs).tickCount.phaseTo 0

theorem State.tickEnd_sys : s.tickEnd.sys = { s.sys with douseTick := false } := by
  unfold State.tickEnd
  simp -implicitDefEqProofs only [State.mapSys_sys, State.each_sys, State.updHs_sys, State.updHb_sys, State.pgFree_frame, State.mapHdl_sys,
    State.mapCmd_sys, implies_true]

theorem State.tickCounted_keeps : s.tickCounted.params = s.params ∧ s.tickCounted.evt = s.evt ∧
    s.tickCounted.sys = { s.sys with douseTick := false, tph := 0 } := by
  unfold State.tickCounted State.phaseTo
  refine ⟨by simp -implicitDefEqProofs, by simp -implicitDefEqProofs, ?_⟩
  have hcount (t : State) : t.tickCount.sys = t.sys := by simp -implicitDefEqProofs
  have hwear (t : State) (us : Nat) : (t.wearLit us).sys = t.sys := by simp -implicitDefEqProofs
  have hrtc (t : State) (us : Nat) : (t.rtcUs us).sys = t.sys := rfl
  rw [State.mapSys_sys, hcount, hwear, hrtc, State.tickEnd_sys]

theorem State.reconReady_of_params {t : State} (h : t.params = s.params) : t.reconReady = s.reconReady := by
  have hon : t.instances = s.instances := List.filter_congr fun n _ => State.pb_of_params h _ _
  unfold State.reconReady
  rw [hon]
  exact congrArg (fun f => s.instances.all f) (funext fun n => by rw [State.instState, State.instState, State.pf_of_params h])

/-- A release that is not ready lapses as the tick begins (R105): the manager stays in Kindling. -/
theorem State.tickEnter_lapses (hphase : s.sys.phase = .kindling) (hready : s.reconReady = false) :
    s.tickEnter.sys = { s.sys with douseTick := false, tph := 1, releaseDue := false } ∧ s.tickEnter.evt = s.evt := by
  obtain ⟨hparams, hevt, hsys⟩ := s.tickCounted_keeps
  have hagain : s.tickCounted.litAgain = s.tickCounted := if_neg (by rw [hsys]; simp [hphase])
  have hwait : s.tickCounted.reconReady = false := (s.reconReady_of_params hparams).trans hready
  have henter : s.tickEnter = (if s.tickCounted.sys.releaseDue then s.tickCounted.mapSys (fun y => { y with releaseDue := false })
      else s.tickCounted).phaseTo 1 := by
    have hunfold : s.tickEnter = (if s.tickCounted.litAgain.sys.releaseDue then (if s.tickCounted.litAgain.reconReady then
        s.tickCounted.litAgain.release else s.tickCounted.litAgain.mapSys (fun y => { y with releaseDue := false }))
        else s.tickCounted.litAgain).phaseTo 1 := rfl
    rw [hunfold, hagain, hwait]
    rfl
  rw [henter]
  unfold State.phaseTo
  rw [State.mapSys_sys, State.mapSys_evt]
  split
  · rw [State.mapSys_sys, State.mapSys_evt, hsys, hevt]
    exact ⟨rfl, rfl⟩
  · next hdue =>
    rw [hsys] at hdue ⊢
    rw [hevt]
    have hdue : s.sys.releaseDue = false := Bool.eq_false_iff.mpr hdue
    rw [hdue]
    exact ⟨rfl, rfl⟩

/-- What a tick's start does to the phase and to the entries to Doused, past the counters and a release. -/
theorem State.tickBegin_phase : s.tickBegin.sys.phase = s.copyEnd.flrLast.tickEnter.sys.phase ∧
    s.tickBegin.evt = s.copyEnd.flrLast.tickEnter.evt := by
  unfold State.tickBegin
  generalize s.copyEnd.flrLast.tickEnter = t
  obtain ⟨hsys, hevt⟩ := t.queueDue.skResume_keeps
  have hkeep (last : Bool) (f : View → View) : (((t.queueDue.skResume.packWhole.tickSends last).each
      (t.queueDue.skResume.packWhole.tickSends last).workers (fun u w => u.updView w f)).netTick.netDrain).sys = t.sys ∧
      (((t.queueDue.skResume.packWhole.tickSends last).each
      (t.queueDue.skResume.packWhole.tickSends last).workers (fun u w => u.updView w f)).netTick.netDrain).evt = t.evt := by
    simp -implicitDefEqProofs [hsys, hevt]
  dsimp only
  split
  · rw [State.mapSys_sys, State.mapSys_evt, (hkeep _ _).1, (hkeep _ _).2]
    exact ⟨rfl, rfl⟩
  · rw [(hkeep _ _).1, (hkeep _ _).2]
    exact ⟨rfl, rfl⟩

theorem State.settle_phase (hphase : s.sys.phase = .kindling) (hdouse : s.evt.douse = false) : s.settle.sys.phase = .kindling := by
  unfold State.settle
  rw [if_neg (by rw [hdouse]; decide)]
  split
  · rw [(State.kindleOff_frame s).2.2.1]
    exact hphase
  · exact hphase

/-- In Lit or Doused, the end of an effect leaves the manager there. -/
theorem State.settle_full (hphase : s.sys.phase = .lit ∨ s.sys.phase = .doused) : s.settle.sys.phase ≠ .kindling := by
  unfold State.settle
  split
  · rw [State.enterDoused_phase]
    decide
  · rw [if_neg (by rcases hphase with h | h <;> simp [h])]
    rcases hphase with h | h <;> rw [h] <;> decide

end

/-- A reply on a port number past the four ports, whose count of failed verifications would stand in LEDG.CFG of `Inst` 0. -/
def strayReply : RSlot :=
  { op := 0, seq := 0, crc := 0, quiet := false, status := 0x0303, tick := 0, payload := [], iface := 0, ip := 0, udp := 0, wait := none }

/-- The FLARE_READ whose end lets that reply leave. -/
def strayRead : FRead :=
  { port := 0x13F8, lodge := 0, w := 0, rseq := 0, first := 0, kind := 0, flags := 0, tick := 0, offset := 0, rows := [[]] }

/-- A release that is due, with every configured `Inst` reconstructed, and a read that ends as the tick begins. -/
def strayRelease : State := { State.reset with
  sys := { Sys.start with phase := .kindling, pll := true, releaseDue := true }
  params := [(0x1800, 0x7F000000#32), (0x1818, 1#32)]
  cmd := { Cmd.start with ports := [(0x13F8, { Port.d with slots := [strayReply] })] }
  flue := { Flue.start with reads := [strayRead] } }

/-- The count of the stray reply configures `Inst` 0, which is not reconstructed. -/
theorem strayRelease_waits : strayRelease.copyEnd.flrLast.reconReady = false ∧
    strayRelease.copyEnd.flrLast.sys.phase = .kindling ∧ strayRelease.copyEnd.flrLast.evt.douse = false := by
  decide

end Sys2Proof.Machine

namespace Sys2Proof
open Machine

/-- Refutes O15: no premise bounds the port that a FLARE_READ in progress names. Where the read ends as the tick begins, a reply
that waits on a port past the four counts in `portStat`, which reaches LEDG.CFG: it configures an `Inst` that is not
reconstructed, so the release that was ready lapses and the manager stays in Kindling. -/
theorem not_releaseEntersLitOrDoused : ¬ Obligations.ReleaseEntersLitOrDoused := by
  rintro ⟨-, -, hrelease⟩
  obtain ⟨u, hgives, hphase, -⟩ := hrelease strayRelease (by decide) (by decide) (by decide) (by decide)
  obtain ⟨hready, hkindling, hdouse⟩ := strayRelease_waits
  obtain ⟨hsys, hevt⟩ := State.tickEnter_lapses strayRelease.copyEnd.flrLast hkindling hready
  obtain ⟨hphase', hevt'⟩ := strayRelease.tickBegin_phase
  have hstays : strayRelease.tickBegin.settle.sys.phase = .kindling :=
    State.settle_phase _ (by rw [hphase', hsys]; exact hkindling) (by rw [hevt', hevt]; exact hdouse)
  have hexec : exec .tickStart strayRelease = .next strayRelease.tickBegin.settle :=
    congrArg done (if_pos (by decide : strayRelease.ticking = true))
  have hsame : strayRelease.tickBegin.settle = u.settle := Host.Outcome.next.inj (hexec.symm.trans hgives)
  rw [hsame] at hstays
  exact u.settle_full hphase hstays

end Sys2Proof

/-! Banked: sleep entry's end, the wake sources and the island's sensing (R152 to R155, R159, R670 to R672, R718). -/

namespace Sys2Proof.Machine

section
variable {s : State} {src dt : Nat}

/-- An enabled source wakes the manager from Banked on the warm path, with EV37 for the journal (R153, R154). -/
theorem State.wakeBy_banked (hphase : s.sys.phase = .banked) (hon : s.pb 0x0303 src = true) (hsrc : src < 6) :
    done (s.wakeBy src) = .next (s.wakeBy src) ∧ (s.wakeBy src).sys = { Sys.start with warm := true } ∧
    (s.wakeBy src).pb 0x0304 src = true ∧ (s.wakeBy src).island.rtc = s.island.rtc ∧
    (s.wakeBy src).island.recs = s.island.recs ++ [⟨37, detail [], s.island.rtc⟩] ∧
    (∀ a, keptParam true a = true → a ≠ 0x0304 → (s.wakeBy src).p a = s.p a) := by
  have hwake : s.wakeBy src = (((s.setPb 0x0304 src true).islandRec 37 []).restart true).mapSys (fun y => { y with warm := true }) := by
    unfold State.wakeBy
    rw [if_neg (by simp [hon])]
    dsimp only
    rw [hphase]
  have hsrc' : (s.setPb 0x0304 src true).pb 0x0304 src = true := s.pb_setPb_same _ _ _ (by omega)
  have hother (a : Nat) (ha : a ≠ 0x0304) : (s.setPb 0x0304 src true).p a = s.p a := s.p_setPb_other _ _ ha
  have hisland : (s.setPb 0x0304 src true).island = s.island := State.setPb_island _ _ _ _
  generalize s.setPb 0x0304 src true = t at hwake hsrc' hother hisland
  obtain ⟨-, hrtc, -, hrecs⟩ := (t.islandRec 37 []).restart_island true
  have hp (a : Nat) (hk : keptParam true a = true) : (s.wakeBy src).p a = t.p a := by
    rw [hwake, State.mapSys_p, State.restart_p _ _ _ hk, State.islandRec, State.mapIsland_p]
  refine ⟨?_, ?_, ?_, ?_, ?_, fun a hk ha => (hp a hk).trans (hother a ha)⟩
  · rw [hwake]
    exact congrArg Host.Outcome.next (State.settle_calm _ rfl (by rw [State.mapSys_sys, State.restart_sys]; decide))
  · rw [hwake, State.mapSys_sys, State.restart_sys]
  · rw [State.pb, hp _ (by decide), ← State.pb, hsrc']
  · rw [hwake, State.mapSys_island, hrtc, ← hisland]
    rfl
  · rw [hwake, State.mapSys_island, hrecs, ← hisland]
    rfl

theorem State.idle_pb (a l : Nat) : (s.idle dt).pb a l = s.pb a l := State.mapIsland_pb _ _ _ _

theorem State.idle_pf (a l w : Nat) : (s.idle dt).pf a l w = s.pf a l w := State.mapIsland_pf _ _ _ _ _

theorem State.idle_p (a : Nat) : (s.idle dt).p a = s.p a := State.mapIsland_p _ _ _

theorem State.wakeBy_disabled (hoff : s.pb 0x0303 src = false) : s.wakeBy src = s := by
  unfold State.wakeBy
  rw [hoff]
  rfl

/-- Where sleep entry runs, a wake source is kept for its end (R153). -/
theorem State.wakeBy_sleeping (hawake : s.awake = true) (hsleep : s.sys.sleeping ≠ 0) (hon : s.pb 0x0303 src = true) :
    s.wakeBy src = (s.setPb 0x0304 src true).mapIsland (fun i => { i with wakePend := true }) := by
  unfold State.wakeBy
  rw [if_neg (by simp [hon])]
  dsimp only
  have hphase : s.sys.phase = .kindling ∨ s.sys.phase = .lit ∨ s.sys.phase = .doused := by
    simpa [State.awake, or_assoc] using hawake
  rcases hphase with h | h | h <;> rw [h] <;> exact if_neg hsleep

/-- During fuse load, sequencing and the rest a wake source is latched alone (R159). -/
theorem State.wakeBy_starting (hphase : s.sys.phase = .fuseLoad ∨ s.sys.phase = .sequencing ∨ s.sys.phase = .rest)
    (hon : s.pb 0x0303 src = true) : s.wakeBy src = s.setPb 0x0304 src true := by
  unfold State.wakeBy
  rw [if_neg (by simp [hon])]
  dsimp only
  rcases hphase with h | h | h <;> rw [h]

theorem execWake_eq (hawake : s.awake = false) (hsrc : src < 6) (hrtc : src ≠ 4) :
    execWake src dt s = done ((s.idle dt).wakeBy src) := by
  unfold execWake
  rw [hawake]
  dsimp only
  rw [if_neg hrtc, if_pos hsrc]
  rfl

theorem execWake_rtc (hawake : s.awake = false) : execWake 4 dt s = done (s.idle dt).rtcWake := by
  unfold execWake
  rw [hawake]
  rfl

theorem execRtcWakeTimer_eq (hawake : s.awake = false) (hcold : s.sys.phase ≠ .cold) :
    execRtcWakeTimer dt s = done (s.idle dt).rtcWake := by
  unfold execRtcWakeTimer
  rw [if_neg (by simp [hawake, hcold])]

/-- The wake timer runs once, at PWR.RTCWAKE (R154, R155). -/
theorem State.rtcWake_due (hrun : s.island.rtcRun = true) (hset : s.p 0x0305 ≠ 0) (hdue : s.p 0x0305 ≤ s.island.bankedS) :
    s.rtcWake = (s.mapIsland (fun i => { i with rtcRun := false })).wakeBy 4 := if_pos ⟨hrun, hset, hdue⟩

theorem State.rtcWake_waits (h : s.island.rtcRun = false ∨ s.p 0x0305 = 0 ∨ s.island.bankedS < s.p 0x0305) : s.rtcWake = s := by
  refine if_neg (fun ⟨hrun, hset, hdue⟩ => ?_)
  rcases h with h | h | h
  · exact Bool.noConfusion (h.symm.trans hrun)
  · exact hset h
  · omega

theorem execCanwakeInput_free (hawake : s.awake = false) (hnap : s.island.napS ≤ dt) (hcold : s.sys.phase ≠ .coldHold) :
    execCanwakeInput dt s = done ((s.idle dt).wakeBy 1) := by
  have hfree : (s.idle dt).island.napS = 0 := Nat.sub_eq_zero_of_le hnap
  have hphase : (s.idle dt).sys.phase ≠ .coldHold := hcold
  have hidle : (if s.awake = true then s else s.idle dt) = s.idle dt := if_neg (by rw [hawake]; decide)
  unfold execCanwakeInput
  dsimp only
  rw [hidle, if_neg (not_not.mpr hfree), if_neg (by simpa using hphase)]

theorem execCanwakeInput_napping (hawake : s.awake = false) (hnap : dt < s.island.napS) :
    execCanwakeInput dt s = done ((s.idle dt).incPf 0x300A 16 16) := by
  have hlocked : (s.idle dt).island.napS ≠ 0 := Nat.sub_ne_zero_of_lt hnap
  have hidle : (if s.awake = true then s else s.idle dt) = s.idle dt := if_neg (by rw [hawake]; decide)
  unfold execCanwakeInput
  dsimp only
  rw [hidle, if_pos hlocked]

theorem execCanwakeInput_cold (hawake : s.awake = false) (hnap : s.island.napS ≤ dt) (hcold : s.sys.phase = .coldHold) :
    execCanwakeInput dt s = done ((s.idle dt).coldExit false) := by
  have hfree : (s.idle dt).island.napS = 0 := Nat.sub_eq_zero_of_le hnap
  have hphase : (s.idle dt).sys.phase = .coldHold := hcold
  have hidle : (if s.awake = true then s else s.idle dt) = s.idle dt := if_neg (by rw [hawake]; decide)
  unfold execCanwakeInput
  dsimp only
  rw [hidle, if_neg (not_not.mpr hfree), if_pos (by simpa using hphase)]

/-- Cold-hold ends for a fuse load, with RETRIES cleared (R145). -/
theorem State.coldExit_ends (retry : Bool) (hphase : s.sys.phase = .coldHold) : done (s.coldExit retry) = .next (s.coldExit retry) ∧
    (s.coldExit retry).sys = Sys.start ∧ (s.coldExit retry).pf 0x0302 8 3 = 0 := by
  have hexit : s.coldExit retry = ((s.restart false).setPf 0x0302 8 3 0).setPb 0x0302 12 retry := if_pos (by rw [hphase]; rfl)
  have hsys : (s.coldExit retry).sys = Sys.start := by
    rw [hexit, State.setPb_sys, State.setPf_sys, State.restart_sys]
  refine ⟨congrArg Host.Outcome.next (State.settle_calm _ ?_ (by rw [hsys]; decide)), hsys, ?_⟩
  · rw [hexit, State.setPb_evt, State.setPf_evt, State.restart_evt]
    rfl
  · rw [hexit, State.pf_setPb_apart _ _ _ _ (by decide) (by decide), State.pf_setPf_same _ _ _ _ _ (by decide), Nat.zero_mod]

/-- The state in which sleep entry arms the inputs that may wake (R104, R671). -/
def State.bankArmed (s : State) : State :=
  (s.wdgBank.mapNvm (fun v => { v with
    bankedDoused := s.sys.phase == .doused, seen := (List.range 4).map (fun r => (r, (s.ring r).serials)) })).wakeArm
    (fun n => (s.sw n).level) s.swForced (fun n => (s.sw n).raw)

/-- The state that Banked begins in (R33, R68, R104). -/
def State.banked (s : State) : State :=
  ((s.bankArmed.mapIsland (fun i => { i with
    rtcRun := true, napS := if s.net.napDue then 60 * s.pf 0x3003 8 8 else i.napS, wakePend := false })).setPb 0x0102 1 false).mapSys
    (fun y => { y with phase := .banked, crystal := false, serdes := 0, pll := false, rom := false, rails := [], sleeping := 0, tph := 0 })

/-- A wake that came during sleep entry takes the warm path from Banked at once (R153). -/
theorem State.bank_eq : s.bank = if s.island.wakePend then
    ((s.banked.islandRec 37 []).restart true).mapSys (fun y => { y with warm := true }) else s.banked := rfl

theorem State.bankArmed_keeps : s.bankArmed.evt = s.evt ∧ s.bankArmed.nvm = { s.nvm with
    bankedDoused := s.sys.phase == .doused, seen := (List.range 4).map (fun r => (r, (s.ring r).serials)) } ∧
    s.bankArmed.island.bankedS = 0 := by
  unfold State.bankArmed
  refine ⟨by simp -implicitDefEqProofs, ?_, rfl⟩
  rw [(State.wakeArm_frame _ _ _ _).2.2.2.1, State.mapNvm_nvm, (State.wdgBank_frame s).2.2.2.1]

/-- What Banked holds. -/
theorem State.banked_holds : s.banked.sys.sleeping = 0 ∧ s.banked.sys.pll = false ∧ s.banked.sys.rails = [] ∧
    s.banked.sys.phase = .banked ∧ s.banked.sys.crystal = false ∧ s.banked.sys.serdes = 0 ∧ s.banked.pb 0x0102 1 = false ∧
    s.banked.island.rtcRun = true ∧ s.banked.nvm.bankedDoused = (s.sys.phase == .doused) ∧ s.banked.island.bankedS = 0 ∧
    s.banked.nvm.seen = (List.range 4).map (fun r => (r, (s.ring r).serials)) ∧ s.banked.evt = s.evt := by
  obtain ⟨hevt, hnvm, hzero⟩ := State.bankArmed_keeps (s := s)
  unfold State.banked
  generalize s.bankArmed = t at hevt hnvm hzero
  rw [State.mapSys_sys, State.mapSys_pb, State.mapSys_island, State.mapSys_nvm, State.mapSys_evt, State.setPb_island, State.setPb_nvm,
    State.setPb_evt, State.mapIsland_island, State.mapIsland_nvm, State.mapIsland_evt, State.pb_setPb_same _ _ _ _ (by decide), hnvm, hevt]
  exact ⟨rfl, rfl, rfl, rfl, rfl, rfl, rfl, rfl, rfl, hzero, rfl, rfl⟩

/-- The end of sleep entry (R152, R153). -/
theorem State.bank_ends (hcalm : s.evt.douse = false) : done s.bank = .next s.bank ∧
    s.bank.sys = (if s.island.wakePend then { Sys.start with warm := true } else s.banked.sys) ∧
    (s.island.wakePend = false → s.bank = s.banked) := by
  obtain ⟨-, -, -, hphase, -, -, -, -, -, -, -, hevt⟩ := State.banked_holds (s := s)
  rw [State.bank_eq]
  split
  · next hwake =>
    refine ⟨congrArg Host.Outcome.next (State.settle_calm _ rfl (by rw [State.mapSys_sys, State.restart_sys]; decide)), ?_,
      fun h => absurd hwake (by simp [h])⟩
    rw [State.mapSys_sys, State.restart_sys]
  · exact ⟨congrArg Host.Outcome.next (State.settle_calm _ (by rw [hevt, hcalm]) (by rw [hphase]; decide)), rfl, fun _ => rfl⟩

/-- An input that wakes the manager from Banked (R671). -/
theorem State.swWakes_banked {n : Nat} (hphase : s.sys.phase = .banked) (hon : s.pb 0x0303 0 = true) (hn : n < 64) :
    done (s.swWakes n) = .next (s.swWakes n) ∧ (s.swWakes n).sys = { Sys.start with warm := true } ∧
    (s.swWakes n).pb 0x0304 0 = true ∧ (s.swWakes n).pb (0x2845 + n / 32) (n % 32) = true := by
  have hwake : s.swWakes n = (s.setPb (0x2845 + n / 32) (n % 32) true).wakeBy 0 := by
    unfold State.swWakes
    rw [if_neg (by rw [hphase]; decide)]
  have hlow : n / 32 < 2 := by omega
  have hkept : keptParam true (0x2845 + n / 32) = true := by
    generalize n / 32 = k at hlow
    interval_cases k <;> decide
  have hself : (s.setPb (0x2845 + n / 32) (n % 32) true).pb (0x2845 + n / 32) (n % 32) = true :=
    s.pb_setPb_same _ _ _ (by omega)
  have hset : (s.setPb (0x2845 + n / 32) (n % 32) true).pb 0x0303 0 = true :=
    (s.pb_setPb_other _ _ _ (by omega)).trans hon
  have hsys : (s.setPb (0x2845 + n / 32) (n % 32) true).sys.phase = .banked :=
    (congrArg Sys.phase (State.setPb_sys _ _ _ _)).trans hphase
  rw [hwake]
  generalize s.setPb (0x2845 + n / 32) (n % 32) true = t at hself hset hsys
  obtain ⟨hdone, hstart, hlatch, -, -, hp⟩ := State.wakeBy_banked hsys hset (by decide : 0 < 6)
  refine ⟨hdone, hstart, hlatch, ?_⟩
  rw [State.pb, hp _ hkept (by omega), ← State.pb, hself]

theorem State.idle_reads (n : Nat) (mv : Int) : (s.idle dt).islandRead n mv = s.swRead n mv (s.island.raws.contains n) := rfl

/-- One poll of one polled input (R670, R672). -/
def State.polled (s : State) (n : Nat) (mv : Int) : State :=
  ((s.islandSensed n mv).updSw n (fun c => { c with wet := s.swWet n })).mapIsland (fun i =>
    { i with polls := Tbl.upd 0 i.polls n (fun c => if s.islandRead n mv != s.wakeRef n then c + 1 else 0) })

theorem mem_insNat_iff {n : Nat} (l : List Nat) (b : Bool) : n ∈ (if b then insNat n l else l.filter (· != n)) ↔ b = true := by
  cases b with
  | true => simp [mem_insNat]
  | false => simp

/-- A poll that finds the input changed counts, wets it and keeps its reading (R663, R670, R672). -/
theorem State.polled_holds {n : Nat} {mv : Int} (hdif : s.islandRead n mv ≠ s.wakeRef n) : (s.polled n mv).sys = s.sys ∧
    (∀ a, (s.polled n mv).p a = s.p a) ∧ (s.polled n mv).island.wakeMask = s.island.wakeMask ∧
    Tbl.get 0 (s.polled n mv).island.polls n = Tbl.get 0 s.island.polls n + 1 ∧ ((s.polled n mv).sw n).wet = s.swWet n ∧
    (n ∈ (s.polled n mv).island.raws ↔ s.islandRead n mv = true) := by
  refine ⟨rfl, fun _ => rfl, rfl, ?_, ?_, mem_insNat_iff _ _⟩
  · refine (Tbl.get_upd_same 0 s.island.polls n (fun c => if s.islandRead n mv != s.wakeRef n then c + 1 else 0)).trans ?_
    rw [if_pos (by simpa using hdif)]
  · exact congrArg SwCh.wet (State.updSw_same _ _ _)

theorem execBankedPoll_one {n : Nat} {mv : Int} (hphase : s.sys.phase = .banked) (hmask : s.island.wakeMask = [n])
    (hcont : s.swCont n = false) (hdif : s.swRead n mv (s.island.raws.contains n) ≠ s.wakeRef n) :
    execBankedPoll [(n, mv)] dt s = done (if s.pf 0x2840 9 3 ≤ Tbl.get 0 s.island.polls n + 1 then ((s.idle dt).polled n mv).swWakes n
      else (s.idle dt).polled n mv) := by
  have hread : (s.idle dt).islandRead n mv ≠ (s.idle dt).wakeRef n := by
    rw [State.idle_reads, State.wakeRef, State.idle_pb, ← State.wakeRef]
    exact hdif
  obtain ⟨hsys, hp, hkeepMask, hpolls, -, -⟩ := State.polled_holds hread
  have hpolled : execBankedPoll [(n, mv)] dt s = done (match ((s.idle dt).polled n mv).island.wakeMask.filter (fun k =>
      ((s.idle dt).polled n mv).pf 0x2840 9 3 ≤ Tbl.get 0 ((s.idle dt).polled n mv).island.polls k && [(n, mv)].any (fun e => e.1 == k)) with
      | [] => (s.idle dt).polled n mv
      | k :: r => ((((s.idle dt).polled n mv).each r (fun t k => t.setPb (0x2845 + k / 32) (k % 32) true))).swWakes k) := by
    have hone : [(n, mv)].filter (fun e => (s.idle dt).island.wakeMask.contains e.1 && !(s.idle dt).swCont e.1) = [(n, mv)] := by
      refine List.filter_cons_of_pos (l := []) ?_
      have hc : (s.idle dt).swCont n = false := by
        rw [State.swCont, State.idle_pf]
        exact hcont
      have hm : (s.idle dt).island.wakeMask = [n] := hmask
      rw [hc, hm]
      simp
    unfold execBankedPoll
    rw [if_pos (by rw [State.senses, hphase]; rfl)]
    dsimp only
    rw [hone]
    rfl
  have hmask' : ((s.idle dt).polled n mv).island.wakeMask = [n] := hkeepMask.trans hmask
  have hcount : Tbl.get 0 ((s.idle dt).polled n mv).island.polls n = Tbl.get 0 s.island.polls n + 1 := hpolls
  have hpf : ((s.idle dt).polled n mv).pf 0x2840 9 3 = s.pf 0x2840 9 3 := by
    rw [State.pf, hp, State.idle_p, State.pf]
  rw [hpolled, hmask']
  generalize (s.idle dt).polled n mv = t at hcount hpf
  split_ifs with hreached
  · rw [List.filter_cons_of_pos (by rw [hcount, hpf]; simpa using hreached)]
    rfl
  · rw [List.filter_cons_of_neg (by rw [hcount, hpf]; simpa using hreached)]
    rfl

end
end Sys2Proof.Machine

namespace Sys2Proof
open Machine

/-- Settles O18: one lemma per wake source, and what `bank` begins Banked with. -/
theorem bankedAndWaking : Obligations.BankedAndWaking := by
  have hkeep (s : State) (h : s.sys.phase = .banked) : s.awake = false := by rw [State.awake, h]; rfl
  refine ⟨fun s hfull hsleep => ?_, fun s src dt hphase hsrc hrtc hon => ?_, fun s src dt hphase hoff hsrc hrtc => ?_,
    fun s src dt hawake hsleep hsrc hrtc hon => ?_, fun s src dt hphase hsrc hrtc hon => ?_,
    fun s dt hphase hon hrun hset hdue => ?_, fun s dt hawake hcold hwait => ?_, fun s dt hphase hon hnap => ?_,
    fun s dt hphase hnap => ?_, fun s dt hphase hnap => ?_, fun s => rfl, fun s n dt mv hphase hon hn hmask hcont hdif => ?_,
    fun s n dt mv hphase hon hn hmask hcont hdif => ?_⟩
  · obtain ⟨hdone, hsys, hbank⟩ := State.bank_ends (s.sleepRest.turfsDue.settle_douse)
    obtain ⟨hsleeping, hpll, hrails, hphase, hcrystal, hserdes, href, hrun, hdoused, hzero, hseen, -⟩ :=
      State.banked_holds (s := s.sleepRest.turfsDue.settle)
    have hexec : execSleepEntry s = done s.sleepRest.turfsDue.settle.bank :=
      congrArg done (if_pos (by rw [hfull]; simpa using hsleep))
    refine ⟨_, hexec.trans hdone, ?_, ?_, ?_, ?_, fun h => ?_, fun h => ?_⟩
    · rw [hsys]
      split
      · rfl
      · exact hsleeping
    · rw [hsys]
      split
      · rfl
      · exact hpll
    · rw [hsys]
      split
      · rfl
      · exact hrails
    · rw [hsys]
      split
      · rfl
      · exact hphase
    · rw [hsys] at h ⊢
      split at h
      · next hwake => rw [if_pos hwake]
      · rw [hphase] at h
        exact absurd h (by decide)
    · have hwake : s.sleepRest.turfsDue.settle.island.wakePend = false := by
        by_contra hpend
        rw [hsys, if_pos (by simpa using hpend)] at h
        exact absurd h (by decide)
      rw [hbank hwake]
      exact ⟨hcrystal, hserdes, href, hrun, hdoused, hzero, hseen⟩
  · obtain ⟨hdone, hsys, hlatch, hrtc', hrecs, -⟩ := State.wakeBy_banked (s := s.idle dt) hphase ((State.idle_pb _ _).trans hon) hsrc
    exact ⟨_, (execWake_eq (hkeep s hphase) hsrc hrtc).trans hdone, hsys, hlatch, hrtc', hrecs⟩
  · exact (execWake_eq (hkeep s hphase) hsrc hrtc).trans (congrArg done (State.wakeBy_disabled (s := s.idle dt) ((State.idle_pb _ _).trans hoff)))
  · have hwake := State.wakeBy_sleeping hawake hsleep hon
    have hexec : execWake src dt s = done (s.wakeBy src) := by
      unfold execWake
      rw [hawake]
      dsimp only
      rw [if_neg hrtc, if_pos hsrc]
      rfl
    rw [hwake] at hexec
    refine ⟨_, hexec, rfl, ?_, ?_⟩
    · rw [State.mapIsland_pb, State.pb_setPb_same _ _ _ _ (by omega)]
    · rw [State.mapIsland_sys, State.setPb_sys]
  · have hawake : s.awake = false := by
      rcases hphase with h | h | h <;> rw [State.awake, h] <;> rfl
    exact (execWake_eq hawake hsrc hrtc).trans (congrArg done (State.wakeBy_starting (s := s.idle dt) hphase ((State.idle_pb _ _).trans hon)))
  · obtain ⟨hdone, hsys, hlatch, -, -, -⟩ := State.wakeBy_banked (s := (s.idle dt).mapIsland (fun i => { i with rtcRun := false })) (src := 4)
      hphase ((State.mapIsland_pb _ _ _ _).trans ((State.idle_pb _ _).trans hon)) (by decide)
    have hwake := State.rtcWake_due (s := s.idle dt) hrun (by rw [State.idle_p]; exact hset) (by rw [State.idle_p]; exact hdue)
    rw [← hwake] at hdone hsys hlatch
    exact ⟨_, (execRtcWakeTimer_eq (hkeep s hphase) (by rw [hphase]; decide)).trans hdone, (execWake_rtc (hkeep s hphase)).trans hdone, hsys, hlatch⟩
  · have hwake := State.rtcWake_waits (s := s.idle dt) (by rw [State.idle_p]; exact hwait)
    exact ⟨(execRtcWakeTimer_eq hawake hcold).trans (congrArg done hwake), (execWake_rtc hawake).trans (congrArg done hwake)⟩
  · obtain ⟨hdone, hsys, hlatch, -, -, -⟩ := State.wakeBy_banked (s := s.idle dt) (src := 1) hphase ((State.idle_pb _ _).trans hon) (by decide)
    exact ⟨_, (execCanwakeInput_free (hkeep s hphase) hnap (by rw [hphase]; decide)).trans hdone, hsys, hlatch⟩
  · have hawake : s.awake = false := by
      rcases hphase with h | h <;> rw [State.awake, h] <;> rfl
    refine ⟨_, execCanwakeInput_napping hawake hnap, ?_, ?_⟩
    · rw [State.incPf_sys]
      rfl
    · rw [State.pf_incPf _ _ _ _ (by decide), State.idle_pf]
      rfl
  · have hawake : s.awake = false := by rw [State.awake, hphase]; rfl
    obtain ⟨hdone, hsys, hretries⟩ := State.coldExit_ends (s := s.idle dt) false hphase
    exact ⟨_, (execCanwakeInput_cold hawake hnap hphase).trans hdone, hsys, hretries⟩
  · have hsensed : execSwitchWake n mv dt s = done (((s.idle dt).islandSensed n mv).swWakes n) := by
      have hc : ((s.idle dt).island.wakeMask.contains n && (s.idle dt).swCont n) = true := by
        have hm : (s.idle dt).island.wakeMask = s.island.wakeMask := rfl
        rw [State.swCont, State.idle_pf, hm]
        simp only [Bool.and_eq_true, List.contains_iff_mem]
        exact ⟨hmask, hcont⟩
      unfold execSwitchWake
      rw [if_pos (by rw [State.senses, hphase]; rfl)]
      dsimp only
      rw [if_pos hc, if_pos]
      rw [State.idle_reads, State.wakeRef, State.idle_pb, ← State.wakeRef]
      simpa using hdif
    obtain ⟨hdone, hsys, hlatch, hbit⟩ := State.swWakes_banked (s := (s.idle dt).islandSensed n mv) (n := n) hphase
      ((State.mapIsland_pb _ _ _ _).trans ((State.idle_pb _ _).trans hon)) hn
    exact ⟨_, hsensed.trans hdone, hsys, hlatch, hbit⟩
  · have hread : (s.idle dt).islandRead n mv ≠ (s.idle dt).wakeRef n := by
      rw [State.idle_reads, State.wakeRef, State.idle_pb, ← State.wakeRef]
      exact hdif
    obtain ⟨hsys, hp, -, hpolls, hwet, hraws⟩ := State.polled_holds hread
    have hexec := execBankedPoll_one (dt := dt) hphase hmask hcont hdif
    refine ⟨_, hexec, fun hreached => ?_, fun hfew => ?_⟩
    · rw [if_pos hreached]
      obtain ⟨-, hstart, hlatch, -⟩ := State.swWakes_banked (s := (s.idle dt).polled n mv) (n := n) hphase
        (by rw [State.pb, hp, State.idle_p]; exact hon) hn
      exact ⟨hstart, hlatch⟩
    · rw [if_neg (by omega)]
      refine ⟨hsys, hwet.trans ?_, hpolls, hraws⟩
      rw [State.swWet, State.swWet, State.idle_pf, State.idle_pb]

end Sys2Proof

/-! Replies and the outbound queues of the ports (R162, R169 to R175, R188 to R195, R210). -/

namespace Sys2Proof.Machine

/-- The slot that a reply takes on its port (R169, R170): `wait` is what it waits for. -/
def State.replySlot (s : State) (op : Nat) (r : Req) (status : Nat) (payload : List Byte) (wait : Option Await) : RSlot :=
  ⟨op, r.seq, r.crc, bit r.flags 0, status, s.tick32, payload, r.iface, r.ip, r.udp, wait⟩

/-- A port with a reply behind those that wait, and with its request recorded (R171, R173). -/
def Port.replied (x : Port) (r : Req) (slot : RSlot) : Port :=
  { x with slots := x.slots ++ [slot], last := lastN 8 (x.last ++ [(r.seq, r.crc, none)]) }

section
variable {s : State} {op status : Nat} {r : Req} {payload : List Byte} {w : Option Await}

/-- A reply that settles with its execution, or waits for what it awaits. -/
theorem State.answer_plain (hbare : (w.isNone && outputOp op) = false) : s.answer op r status payload w =
    (s.updPort r.port (fun x => x.replied r (s.replySlot op r status payload w))).flush r.port := by
  unfold State.answer
  dsimp only
  rw [hbare]
  rfl

/-- The reply to an output request that lodged nothing waits for the set instant (R170). -/
theorem State.answer_bare (hbare : (w.isNone && outputOp op) = true) : s.answer op r status payload w =
    ((s.mapCmd (fun m => { m with lodge := m.lodge + 1 })).updPort r.port (fun x => x.replied r
      (s.replySlot op r status payload (some ⟨255, 0, s.cmd.lodge, status⟩)))).flush r.port := by
  unfold State.answer
  dsimp only
  rw [hbare]
  rfl

/-- Nothing leaves a port behind a reply that waits (R171). -/
theorem State.flush_waits {p : Nat} {x : RSlot} {l : List RSlot} (hslots : (s.port p).slots = x :: l) (hwait : x.wait.isSome = true) :
    s.flush p = s.updPort p (fun y => { y with slots := x :: l }) := by
  rw [State.flush, hslots, State.flushList, if_pos hwait]

/-- The one reply of a port leaves (R171). -/
theorem State.flush_one {p : Nat} {x : RSlot} (hslots : (s.port p).slots = [x]) (hwait : x.wait = none) :
    s.flush p = (s.leave p x []).updPort p (fun y => { y with slots := [] }) := by
  rw [State.flush, hslots, State.flushList, if_neg (by rw [hwait]; decide), State.flushList]

theorem Port.replied_slots {x : Port} {slot : RSlot} (h : x.slots = []) : (x.replied r slot).slots = [slot] := by
  rw [Port.replied, h]
  rfl

/-- A reply that waits for nothing takes its place alone and leaves (R171). -/
theorem State.answer_alone (hslots : (s.port r.port).slots = []) (hop : outputOp op = false) :
    s.answer op r status payload none = ((s.updPort r.port (fun x => x.replied r (s.replySlot op r status payload none))).leave r.port
      (s.replySlot op r status payload none) []).updPort r.port (fun y => { y with slots := [] }) := by
  rw [State.answer_plain (by rw [hop]; rfl)]
  exact State.flush_one (by rw [State.updPort_same, Port.replied_slots hslots]) rfl

/-- QUIET keeps a success back (R175). -/
theorem State.leave_quiet {p : Nat} {x : RSlot} (l : List RSlot) (hquiet : x.quiet = true) (hok : x.status < 0x100) : s.leave p x l = s :=
  if_pos (by rw [hquiet]; simpa using hok)

/-- A reply that is sent goes to the record and to the port's queue (R170, R173). -/
theorem State.leave_sent {p : Nat} {x : RSlot} (hsent : x.quiet = false ∨ 0x100 ≤ x.status) (hverified : x.status ≠ 0x0303) :
    s.leave p x [] = (s.updPort p (fun y => { y with last := fillLast x.seq x.crc 0 x.pkt y.last })).pushOut p x.pkt := by
  unfold State.leave
  rw [if_neg (by rcases hsent with h | h <;> simp [h])]
  dsimp only
  rw [if_neg hverified]
  rfl

theorem State.pushOut_room {p : Nat} {k : Pkt} (h1 : p ≠ 1) (h2 : p ≠ 2) (hroom : (s.port p).out.length < 64) :
    s.pushOut p k = s.updPort p (fun x => { x with out := x.out ++ [k] }) := by
  unfold State.pushOut State.enqueueOut
  dsimp only
  rw [if_neg h1, if_neg h2, if_pos hroom]

/-! A full port drops one packet, and marks the gap in a stream (R210, R451). -/

theorem dropFirst_length {α : Type} {f : α → Bool} {l : List α} (h : l.any f = true) : (dropFirst f l).length + 1 = l.length := by
  induction l with
  | nil => exact absurd h (by simp)
  | cons x l ih =>
    unfold dropFirst
    split
    · rfl
    · next hx =>
      have htail : l.any f = true := by simpa [hx] using h
      rw [List.length_cons, List.length_cons, ih htail]

theorem changeNth_length {α : Type} (n : Nat) (f : α → Bool) (g : α → α) (l : List α) : (changeNth n f g l).length = l.length := by
  induction l generalizing n with
  | nil => rfl
  | cons x l ih =>
    unfold changeNth
    split
    · split
      · rfl
      · rw [List.length_cons, List.length_cons, ih]
    · rw [List.length_cons, List.length_cons, ih]

theorem mem_changeNth {α : Type} (n : Nat) {f : α → Bool} (g : α → α) {x : α} {l : List α} (hx : x ∈ l) (hf : f x = false) :
    x ∈ changeNth n f g l := by
  induction l generalizing n with
  | nil => exact hx
  | cons y l ih =>
    unfold changeNth
    rcases List.mem_cons.mp hx with rfl | hmem
    · rw [if_neg (by rw [hf]; decide)]
      exact List.mem_cons_self
    · split
      · split
        · exact List.mem_cons_of_mem _ hmem
        · exact List.mem_cons_of_mem _ (ih _ hmem)
      · exact List.mem_cons_of_mem _ (ih _ hmem)

theorem State.dropGap_out (p : Nat) (d : Pkt) : ((s.dropGap p d).port p).out.length = (s.port p).out.length ∧
    ∀ k ∈ (s.port p).out, k.kind ≠ 2 → k ∈ ((s.dropGap p d).port p).out := by
  unfold State.dropGap
  split
  · exact ⟨rfl, fun k hk _ => hk⟩
  · split
    · rw [State.updPort_same]
      exact ⟨changeNth_length _ _ _ _, fun k hk hkind => mem_changeNth _ _ hk (by simp [Pkt.sameStream, hkind])⟩
    · exact ⟨rfl, fun k hk _ => hk⟩

/-- The outbound queue of a full port less the packet that it drops (R210). -/
def keptOut (o : List Pkt) : List Pkt :=
  if o.any (fun e => e.kind == 1) then dropFirst (fun e => e.kind == 1) o
  else if o.any (fun e => e.kind == 0) then dropFirst (fun e => e.kind == 0) o else o.drop 1

theorem keptOut_length {o : List Pkt} (h : 64 ≤ o.length) : (keptOut o).length + 1 = o.length := by
  unfold keptOut
  split
  · next hany => exact dropFirst_length hany
  · split
    · next hany => exact dropFirst_length hany
    · rw [List.length_drop]
      omega

theorem State.enqueueOut_full {p : Nat} (k : Pkt) (hfull : 64 ≤ (s.port p).out.length) :
    ((s.enqueueOut p k).port p).out.length = (s.port p).out.length ∧ (k.kind ≠ 2 → k ∈ ((s.enqueueOut p k).port p).out) := by
  have hqueue : (((s.updPort p (fun x => { x with out := keptOut (s.port p).out ++ [k] })).incPf (portStat p) 16 8).port p).out =
      keptOut (s.port p).out ++ [k] := by
    rw [State.port_of_cmd (State.incPf_cmd _ _ _ _), State.updPort_same]
  have hunfold : s.enqueueOut p k = (if (s.port p).out.any (fun e => e.kind == 1 || e.kind == 0) then
      (s.updPort p (fun x => { x with out := keptOut (s.port p).out ++ [k] })).incPf (portStat p) 16 8
      else ((s.port p).out.head?.map
        (((s.updPort p (fun x => { x with out := keptOut (s.port p).out ++ [k] })).incPf (portStat p) 16 8).dropGap p)).getD
        ((s.updPort p (fun x => { x with out := keptOut (s.port p).out ++ [k] })).incPf (portStat p) 16 8)) :=
    if_neg (by omega)
  rw [hunfold]
  generalize (s.updPort p (fun x => { x with out := keptOut (s.port p).out ++ [k] })).incPf (portStat p) 16 8 = t at hqueue
  have hlen : (t.port p).out.length = (s.port p).out.length := by
    rw [hqueue, List.length_append, ← keptOut_length hfull]
    rfl
  have hmem : k ∈ (t.port p).out := by
    rw [hqueue]
    exact List.mem_append_right _ List.mem_cons_self
  split
  · exact ⟨hlen, fun _ => hmem⟩
  · cases (s.port p).out.head? with
    | none => exact ⟨hlen, fun _ => hmem⟩
    | some d =>
      obtain ⟨hlen', hmem'⟩ := State.dropGap_out (s := t) p d
      exact ⟨hlen'.trans hlen, fun hkind => hmem' k hmem hkind⟩

theorem State.enqueueOut_room {p : Nat} {k : Pkt} (hroom : (s.port p).out.length < 64) :
    s.enqueueOut p k = s.updPort p (fun x => { x with out := x.out ++ [k] }) := if_pos hroom

/-- A packet for a known neighbour leaves on Ethernet at once (R188 to R190). -/
theorem State.pushOut_eth {k : Pkt} (hout : (s.port 1).out = []) (hup : s.ethUp k.iface = true)
    (hon : s.pb (0x3018 + 8 * k.iface) 0 = true) (hknown : (Tbl.find s.net.arp (s.nextHop k.iface k.ip)).isSome = true) :
    ((s.pushOut 1 k).port 1).out = [] ∧ (s.pushOut 1 k).sent.net = s.sent.net ++ [s.ethPkt k] ∧
    (s.pushOut 1 k).sent.raw = s.sent.raw := by
  have hpush : s.pushOut 1 k = (s.updPort 1 (fun x => { x with out := x.out ++ [k] })).ethDrain := by
    rw [← State.enqueueOut_room (by rw [hout]; decide)]
    rfl
  have hqueue : ((s.updPort 1 (fun x => { x with out := x.out ++ [k] })).port 1).out = [k] := by
    rw [State.updPort_same, hout]
    rfl
  have hdrain : s.pushOut 1 k = ((s.updPort 1 (fun x => { x with out := x.out ++ [k] })).sentNet [s.ethPkt k]).updPort 1
      (fun p => { p with out := [] }) := by
    have hup' : ∀ t : State, t.params = s.params → t.net = s.net → (t.ethUp k.iface && t.pb (0x3018 + 8 * k.iface) 0) = true ∧
        (Tbl.find t.net.arp (t.nextHop k.iface k.ip)).isSome = true ∧ t.ethPkt k = s.ethPkt k := by
      intro t hparams hnet
      have hp (a : Nat) : t.p a = s.p a := State.p_of_params hparams a
      rw [State.ethUp, State.pf_of_params hparams, ← State.ethUp, hup, State.pb_of_params hparams, hon, hnet, State.nextHop, hp, hp, hp,
        ← State.nextHop, hknown, State.ethPkt, State.pf_of_params hparams, State.ethPkt]
      exact ⟨rfl, rfl, rfl⟩
    obtain ⟨hgo, hto, hpkt⟩ := hup' (s.updPort 1 (fun x => { x with out := x.out ++ [k] })) rfl rfl
    rw [hpush]
    generalize s.updPort 1 (fun x => { x with out := x.out ++ [k] }) = t at hqueue hgo hto hpkt
    unfold State.ethDrain
    rw [hqueue]
    simp only [List.filter_cons, List.filter_nil, hgo, hto]
    rw [← hpkt]
    rfl
  rw [hdrain, State.updPort_same]
  exact ⟨rfl, rfl, rfl⟩

/-- On CAN a packet of one frame leaves at once, and one of several is under way (R192 to R195). -/
theorem State.pushOut_can {k : Pkt} (hout : (s.port 2).out = []) (hruns : s.canRuns = true) (hfree : s.net.canTx = none) :
    s.pushOut 2 k = (((s.updPort 2 (fun x => { x with out := x.out ++ [k] })).sentNet
      (if k.bytes.length ≤ (if s.pb 0x0402 2 then 62 else 7) then [s.canPkt k] else [])).mapNet
        (fun n => { n with canTx := if k.bytes.length ≤ (if s.pb 0x0402 2 then 62 else 7) then none else some k })).updPort 2
      (fun p => { p with out := [] }) := by
  have hpush : s.pushOut 2 k = (s.updPort 2 (fun x => { x with out := x.out ++ [k] })).canDrain := by
    rw [← State.enqueueOut_room (by rw [hout]; decide)]
    rfl
  have hqueue : ((s.updPort 2 (fun x => { x with out := x.out ++ [k] })).port 2).out = [k] := by
    rw [State.updPort_same, hout]
    rfl
  have hkeep : (s.updPort 2 (fun x => { x with out := x.out ++ [k] })).canRuns = s.canRuns ∧
      (s.updPort 2 (fun x => { x with out := x.out ++ [k] })).net = s.net ∧
      (s.updPort 2 (fun x => { x with out := x.out ++ [k] })).pb 0x0402 2 = s.pb 0x0402 2 ∧
      (s.updPort 2 (fun x => { x with out := x.out ++ [k] })).canPkt k = s.canPkt k := ⟨rfl, rfl, rfl, rfl⟩
  rw [hpush]
  generalize s.updPort 2 (fun x => { x with out := x.out ++ [k] }) = t at hqueue hkeep
  obtain ⟨hruns', hnet, hfd, hpkt⟩ := hkeep
  unfold State.canDrain
  rw [if_pos (by rw [hruns', hruns, hnet, hfree]; rfl), hqueue, hfd]
  unfold canSplit
  by_cases hcap : k.bytes.length ≤ (if s.pb 0x0402 2 = true then 62 else 7)
  · rw [if_pos hcap, if_pos hcap, if_pos hcap, ← hpkt]
    rfl
  · rw [if_neg hcap, if_neg hcap, if_neg hcap]
    rfl

/-! Flow control (R193, R195). -/

/-- A flow-control frame of the port's controller (R195). -/
def State.flowFrame (s : State) : Nat × List Byte :=
  (16 + s.pf 0x0402 0 2, le 4 (canIdent (s.p 0x0404) + 2 ^ 30 * s.pf 0x0402 2 1) ++ le 1 0x30 ++ le 1 (s.pf 0x0402 8 8) ++
    le 1 (s.pf 0x0402 16 8))

theorem State.flowSend_frames (k : Nat) :
    s.flowSend k = s.mapSent (fun t => { t with raw := t.raw ++ List.replicate k s.flowFrame }) := by
  unfold State.flowSend State.each
  induction k with
  | zero => simp [State.mapSent]
  | succ k ih =>
    have hone : (s.mapSent (fun t => { t with raw := t.raw ++ List.replicate k s.flowFrame })).sendRaw s.flowFrame.1 s.flowFrame.2 =
        s.mapSent (fun t => { t with raw := (t.raw ++ List.replicate k s.flowFrame) ++ [s.flowFrame] }) := rfl
    rw [List.range_succ, List.foldl_append, ih, List.foldl_cons, List.foldl_nil]
    refine hone.trans ?_
    rw [List.replicate_succ']
    simp only [List.append_assoc]

theorem State.flowCount_whole {n : Nat} (h : n ≤ (if s.pb 0x0402 2 then 62 else 7)) : s.flowCount n true = 0 :=
  if_pos (by simpa using h)

theorem State.flowCount_parts {n : Nat} (h : (if s.pb 0x0402 2 then 62 else 7) < n) : 1 ≤ s.flowCount n true ∧
    (s.pf 0x0402 8 8 = 0 → s.flowCount n true = 1) := by
  have hcount : s.flowCount n true = _ := if_neg (by simpa using h)
  rw [hcount]
  exact ⟨Nat.le_add_right 1 _, fun hbs => congrArg (1 + ·) (if_pos hbs)⟩

/-! Receipt of a request at the end of what a port brings (R160, R164, R168). -/

theorem State.place_of_params {t : State} (h : t.params = s.params) (q : QItem) (l : List QItem) : t.place q l = s.place q l := by
  have hrank (src : Nat) : t.rankOf src = s.rankOf src := by rw [State.rankOf, State.pf_of_params h, ← State.rankOf]
  induction l with
  | nil => rfl
  | cons x l ih => rw [State.place, State.place, hrank, hrank, ih]

end

theorem leAt_append {l : List Byte} (rest : List Byte) {o n : Nat} (h : o + n ≤ l.length) : leAt (l ++ rest) o n = leAt l o n := by
  rw [leAt, List.drop_append_of_le_length (by omega), List.take_append_of_le_length (by rw [List.length_drop]; omega), ← leAt]

/-- Bytes after a request in an SPI frame change nothing of its receipt (R184). -/
theorem receive_requestBytes_rest (s : State) (p iface ip udp : Nat) {op seq flags handle : Nat} {l : List Byte} (rest : List Byte)
    (hop : op < 256) (hseq : seq < 65536) (hflags : flags < 256) (hhandle : handle < 2 ^ 32) (hl : l.length ≤ 4096) :
    s.receive p (requestBytes op seq flags handle l ++ rest) true iface ip udp =
      s.receive p (requestBytes op seq flags handle l) true iface ip udp := by
  have hbytes := requestBytes_length (op := op) (seq := seq) (flags := flags) (handle := handle) (l := l)
  obtain ⟨-, -, -, hlen, -, -, -⟩ := requestBytes_header hop hseq hflags hhandle hl
  generalize requestBytes op seq flags handle l = b at hbytes hlen
  have hat {o n : Nat} (h : o + n ≤ 16 + l.length) : leAt (b ++ rest) o n = leAt b o n := leAt_append rest (by omega)
  have htake (n : Nat) (h : n ≤ 16 + l.length) : (b ++ rest).take n = b.take n := List.take_append_of_le_length (by omega)
  have hpayload : ((b ++ rest).drop 12).take l.length = (b.drop 12).take l.length := by
    rw [List.drop_append_of_le_length (by omega), List.take_append_of_le_length (by rw [List.length_drop]; omega)]
  have hlong : ¬((b ++ rest).length < 6 ∨ 4096 < l.length ∨ (b ++ rest).length < 16 + l.length ∨
      true = false ∧ (b ++ rest).length ≠ 16 + l.length) := by
    rw [List.length_append]
    simp
    omega
  have hlong' : ¬(b.length < 6 ∨ 4096 < l.length ∨ b.length < 16 + l.length ∨ true = false ∧ b.length ≠ 16 + l.length) := by
    simp
    omega
  have hfirst : ((b ++ rest).length < 4 ∨ leAt b 0 1 ≠ 0xF1) ↔ (b.length < 4 ∨ leAt b 0 1 ≠ 0xF1) := by
    rw [List.length_append]
    omega
  unfold State.receive
  dsimp only
  rw [hat (o := 0) (n := 1) (by omega), hat (o := 1) (n := 1) (by omega), hat (o := 2) (n := 2) (by omega), hat (o := 4) (n := 2) (by omega),
    hat (o := 6) (n := 1) (by omega), hat (o := 7) (n := 1) (by omega), hat (o := 8) (n := 4) (by omega), hlen,
    hat (o := 12 + l.length) (n := 4) (by omega), htake _ (by omega), hpayload, if_neg hlong, if_neg hlong', if_congr hfirst rfl rfl]

/-- A command that receives the bytes of a new request on a port, in a state that differs from the one before it in what waits and in
what has left alone, queues the request (R164, R168). -/
theorem queues_of_receive {c : Instr} {s t : State} {p op seq flags handle iface ip udp : Nat} {l : List Byte} {same more : Bool}
    (hnew : NewRequest s p op seq flags handle l)
    (hexec : exec c s = done ((t.received same).receive p (requestBytes op seq flags handle l) more iface ip udp))
    (hbase : t = { s with cmd := t.cmd, net := t.net, sent := t.sent }) (hqueue : t.cmd.queue = s.cmd.queue)
    (hcycle : t.cmd.cycle = s.cmd.cycle) (hlast : (t.port p).last = (s.port p).last) :
    Queues c s p op seq flags handle l iface ip udp same := by
  obtain ⟨hop, hwdg, hseq, hflags, hhandle, hl, hfresh, hroom⟩ := hnew
  obtain ⟨u, hu⟩ : ∃ u, u = t.received same := ⟨_, rfl⟩
  have hreceived : u = { s with cmd := u.cmd, net := u.net, sent := u.sent } ∧ u.cmd.queue = s.cmd.queue ∧
      u.cmd.cycle = s.cmd.cycle + (if same then 0 else 1) ∧ (u.port p).last = (s.port p).last := by
    cases same with
    | true => rw [hu]; exact ⟨hbase, hqueue, hcycle, hlast⟩
    | false =>
      rw [hu]
      refine ⟨?_, hqueue, congrArg (· + 1) hcycle, hlast⟩
      unfold State.received
      rw [hbase]
      rfl
  rw [← hu] at hexec
  clear hu
  obtain ⟨hbase', hqueue', hcycle', hlast'⟩ := hreceived
  rw [receive_requestBytes u p iface ip udp more hop hseq hflags hhandle hl (hlast' ▸ hfresh) (hqueue' ▸ hroom),
    u.enqueue_of_op _ hwdg] at hexec
  have hreq : reqOf u p op seq flags handle l iface ip udp = reqOf s p op seq flags handle l iface ip udp := by
    have hheld : u.wdgEndHeld = s.wdgEndHeld := by rw [State.wdgEndHeld, hqueue', ← State.wdgEndHeld]
    have hsnap : u.wdgSnap p = s.wdgSnap p := by
      unfold State.wdgSnap
      rw [hheld, hbase']
      rfl
    unfold reqOf
    rw [hsnap, hbase']
    rfl
  refine ⟨_, hexec, ?_, ?_⟩
  · rw [hreq, State.mapCmd_cmd]
    dsimp only
    rw [hqueue', hcycle', State.place_of_params (s := s) (by rw [hbase'])]
    rfl
  · rw [hbase']
    exact ⟨rfl, rfl, rfl, rfl, rfl, rfl⟩

/-- The bytes that an SPI frame shifts out, and the port after it (R186). -/
theorem State.shiftOut_first {s : State} {p n : Nat} {k : Pkt} {l : List Pkt} (hout : (s.port p).out = k :: l) (hfits : k.bytes.length ≤ n) :
    s.shiftOut p n = (padTo 0#8 n k.bytes, s.updPort p (fun x => { x with out := l })) := by
  rw [State.shiftOut, hout]
  dsimp only
  rw [if_pos hfits]

theorem State.shiftOut_none {s : State} {p n : Nat} (hout : (s.port p).out = []) : s.shiftOut p n = (zeros n, s) := by
  rw [State.shiftOut, hout]

/-- What shifting out leaves as it was: all but the port's outbound packets. -/
theorem State.shiftOut_keeps (s : State) (p n : Nat) : (s.shiftOut p n).2 = { s with cmd := (s.shiftOut p n).2.cmd } ∧
    (s.shiftOut p n).2.cmd.queue = s.cmd.queue ∧ (s.shiftOut p n).2.cmd.cycle = s.cmd.cycle ∧
    ((s.shiftOut p n).2.port p).last = (s.port p).last := by
  unfold State.shiftOut
  split
  · exact ⟨rfl, rfl, rfl, rfl⟩
  · dsimp only
    split
    · exact ⟨rfl, rfl, rfl, by rw [State.updPort_same]⟩
    · exact ⟨rfl, rfl, rfl, rfl⟩

theorem execSpiFrame_serves {s : State} {sdi : List Byte} {n : Nat} {same : Bool} (h : s.portServes 0 = true) :
    execSpiFrame sdi n same s = done (match sdi with
      | [] => (s.shiftOut 0 (Nat.max n sdi.length)).2.mapSent (fun t => { t with sdo := (s.shiftOut 0 (Nat.max n sdi.length)).1 })
      | b :: _ => if b = 0#8 then
          (s.shiftOut 0 (Nat.max n sdi.length)).2.mapSent (fun t => { t with sdo := (s.shiftOut 0 (Nat.max n sdi.length)).1 })
        else (((s.shiftOut 0 (Nat.max n sdi.length)).2.mapSent
          (fun t => { t with sdo := (s.shiftOut 0 (Nat.max n sdi.length)).1 })).received same).receive 0 sdi true 0 0 0) := by
  unfold execSpiFrame
  rw [h]
  rfl

/-- The first byte of a request packet (R160). -/
theorem requestBytes_cons (op seq flags handle : Nat) (l : List Byte) :
    ∃ rest, requestBytes op seq flags handle l = 0xF1#8 :: rest := by
  rw [requestBytes_eq, requestBody]
  exact ⟨_, rfl⟩

theorem execEthDatagram_serves {s : State} {iface ip udp : Nat} {data : List Byte} {same : Bool} (hiface : iface < 2)
    (h : s.portServes 1 = true) (hon : s.pb (0x3018 + 8 * iface) 0 = true) (hlen : data.length ≤ 4112) :
    execEthDatagram iface ip udp data same s = done ((s.received same).receive 1 data false iface ip udp) :=
  congrArg done (if_pos (by rw [h, hon]; simp [hiface, hlen]))

theorem execCanMessage_serves {s : State} {ident : Nat} {data : List Byte} {last same : Bool} (h : s.portServes 2 = true)
    (hon : s.pb (0x3010 + 2 * s.pf 0x0402 0 2) 0 = true) (hident : canIdent ident = canIdent (s.p 0x0403)) :
    execCanMessage (s.pf 0x0402 0 2) ident data last same s = done (
      if last then ((((s.flowSend (s.flowCount (s.net.canRx ++ data).length last -
        (if s.net.canRx.isEmpty then 0 else s.flowCount s.net.canRx.length false))).mapNet (fun n => { n with canRx := [] })).received
          same).receive 2 (s.net.canRx ++ data) false (s.pf 0x0402 0 2) 0 0)
      else (s.flowSend (s.flowCount (s.net.canRx ++ data).length last -
        (if s.net.canRx.isEmpty then 0 else s.flowCount s.net.canRx.length false))).mapNet (fun n => { n with canRx := s.net.canRx ++ data })) :=
  congrArg done (if_pos ⟨rfl, hident, h, hon⟩)

theorem State.canDrain_keeps (s : State) : s.canDrain.net.canRx = s.net.canRx ∧ s.canDrain.cmd.queue = s.cmd.queue ∧
    s.canDrain.params = s.params := by
  unfold State.canDrain
  split
  · exact ⟨rfl, rfl, rfl⟩
  · exact ⟨rfl, rfl, rfl⟩

/-- Where nothing waits for CAN, nothing leaves on it. -/
theorem State.canDrain_idle {s : State} (hout : (s.port 2).out = []) (hfree : s.net.canTx = none) :
    s.canDrain.net.canTx = none ∧ s.canDrain.sent.net = s.sent.net := by
  unfold State.canDrain
  rw [hout]
  split
  · exact ⟨rfl, List.append_nil _⟩
  · exact ⟨hfree, rfl⟩

/-- A write of the two-wire command window (R196, R724). -/
theorem execTwCommandWrite_serves {s : State} {x : TwXfer} {same : Bool} (hcold : s.sys.phase ≠ .cold)
    (hwindow : s.twWindow x.addr = some 3) (hopen : s.twOpen = true) (hgap : 10 ≤ x.gap) (hlen : x.wr.length ≤ 4112)
    (hwr : x.wr ≠ []) (hserves : s.portServes 3 = true) :
    execTwCommandWrite x same s = done (((s.twAnswer true []).received same).receive 3 x.wr false 0 0 0) := by
  have hsome : x.wr.isEmpty = false := by
    rw [Bool.eq_false_iff, ne_eq, List.isEmpty_iff]
    exact hwr
  unfold execTwCommandWrite
  rw [if_neg (by simpa using hcold), if_neg (by simp [hwindow, hopen, hgap])]
  dsimp only
  rw [if_pos (by rw [hserves, hsome]; rfl), List.take_of_length_le hlen, decide_eq_true hlen]

theorem verifyFirst_append {p : Nat} {l r : List QItem} {q : QItem} (hl : ∀ x ∈ l, ¬(x.req.port = p ∧ x.verif = 1))
    (hq : q.req.port = p ∧ q.verif = 1) : verifyFirst p (l ++ q :: r) = l ++ { q with verif := 2 } :: r := by
  induction l with
  | nil => exact if_pos hq
  | cons x l ih =>
    refine (if_neg (hl x List.mem_cons_self)).trans ?_
    exact congrArg (x :: ·) (ih (fun y hy => hl y (List.mem_cons_of_mem _ hy)))

end Sys2Proof.Machine

namespace Sys2Proof
open Machine

/-- Settles O22: `answer` by what waits on the port, the drains of Ethernet and CAN, and `queues_of_receive` for the four ports. -/
theorem portsReceiveAndReply : Obligations.PortsReceiveAndReply := by
  refine ⟨fun s op r status payload hslots hop hport hroom hsent hverified => ?_, fun s op r status payload hslots hop hquiet hok => ?_,
    fun s op r status payload hslots hop => ?_, fun s op r status payload w x l hslots hwait => ?_, fun s p k hfull => ?_,
    fun s k hout hup hon hknown => ?_, fun s k hout hruns hfree => ?_, fun s n k l same hserves hout hfits => ?_,
    fun s b l same hserves hout hb => ?_, fun s op seq flags handle n l rest same hserves hnew => ?_,
    fun s iface ip udp data same hiface hserves hon hlen => execEthDatagram_serves hiface hserves hon hlen,
    fun s iface ip udp op seq flags handle l same hiface hserves hon hnew => ?_, fun s ident data same hserves hon hident hrx => ?_,
    fun s n k => ⟨State.flowCount_whole, State.flowCount_parts, congrArg (fun t => t.sent.raw) (s.flowSend_frames k)⟩, fun w => ?_,
    fun s op seq flags handle l data same hserves hon hbytes hnew => ?_, fun s data same hserves hon => ?_, fun s c hc => ⟨?_, ?_⟩,
    fun s c inbound hc => congrArg done (if_neg hc), fun s x same hcold hwindow hopen hgap hwr hlen hserves => ?_,
    fun s x op seq flags handle l same hcold hwindow hopen hgap hwr hserves hnew => ?_, fun s x k l hcold hwindow hopen hout hfits => ?_,
    fun s p l r q hqueue hport hverif hfirst => ?_⟩
  · have hpush : s.answer op r status payload none = ((((s.updPort r.port (fun x => x.replied r (s.replySlot op r status payload none))).updPort
        r.port (fun y => { y with last := fillLast r.seq r.crc 0 (s.replySlot op r status payload none).pkt y.last })).updPort r.port
        (fun x => { x with out := x.out ++ [(s.replySlot op r status payload none).pkt] })).updPort r.port (fun y => { y with slots := [] })) := by
      rw [State.answer_alone hslots hop, State.leave_sent hsent hverified]
      rw [State.pushOut_room (by omega) (by omega) (by rw [State.updPort_same, State.updPort_same]; exact hroom)]
      rfl
    rw [hpush]
    refine ⟨_, rfl, ?_, ?_, rfl, fun p hp => ?_⟩
    · rw [State.updPort_same]
    · rw [State.updPort_same, State.updPort_same, State.updPort_same, State.updPort_same]
      rfl
    · rw [State.updPort_other _ _ hp, State.updPort_other _ _ hp, State.updPort_other _ _ hp, State.updPort_other _ _ hp]
  · rw [State.answer_alone hslots hop, State.leave_quiet _ hquiet hok, State.updPort_same, State.updPort_same]
    exact ⟨rfl, rfl⟩
  · have hwait : (s.replySlot op r status payload (some ⟨255, 0, s.cmd.lodge, status⟩)).wait.isSome = true := rfl
    rw [State.answer_bare (by rw [hop]; rfl), State.flush_waits (by rw [State.updPort_same]; exact Port.replied_slots hslots) hwait,
      State.updPort_same, State.updPort_same]
    exact ⟨rfl, rfl⟩
  · cases hbare : w.isNone && outputOp op with
    | false =>
      have hkept : ((s.port r.port).replied r (s.replySlot op r status payload w)).slots =
          x :: (l ++ [s.replySlot op r status payload w]) := by
        rw [Port.replied, hslots]
        rfl
      rw [State.answer_plain hbare, State.flush_waits (by rw [State.updPort_same]; exact hkept) hwait, State.updPort_same,
        State.updPort_same]
      exact ⟨rfl, rfl⟩
    | true =>
      have hkept : ((s.port r.port).replied r (s.replySlot op r status payload (some ⟨255, 0, s.cmd.lodge, status⟩))).slots =
          x :: (l ++ [s.replySlot op r status payload (some ⟨255, 0, s.cmd.lodge, status⟩)]) := by
        rw [Port.replied, hslots]
        rfl
      rw [State.answer_bare hbare, State.flush_waits (by rw [State.updPort_same]; exact hkept) hwait, State.updPort_same,
        State.updPort_same]
      exact ⟨rfl, rfl⟩
  · obtain ⟨hlen, hmem⟩ := State.enqueueOut_full k hfull
    refine ⟨hlen, hmem, fun h1 h2 => ?_⟩
    unfold State.pushOut
    dsimp only
    rw [if_neg h1, if_neg h2]
  · obtain ⟨hempty, hnet, hraw⟩ := State.pushOut_eth hout hup hon hknown
    exact ⟨_, rfl, hempty, hnet, hraw⟩
  · rw [State.pushOut_can hout hruns hfree]
    refine ⟨_, rfl, ?_, fun hcap => ?_, fun hcap => ?_⟩
    · rw [State.updPort_same]
    · rw [if_pos hcap, if_pos hcap]
      exact ⟨rfl, rfl⟩
    · rw [if_neg (by omega), if_neg (by omega)]
      exact ⟨rfl, List.append_nil _⟩
  · have hexec := execSpiFrame_serves (sdi := []) (n := n) (same := same) hserves
    have hmax : Nat.max n ([] : List Byte).length = n := Nat.max_eq_left (Nat.zero_le n)
    rw [hmax, State.shiftOut_first hout hfits] at hexec
    exact ⟨_, hexec, rfl, congrArg Port.out (State.updPort_same s 0 (fun x => { x with out := l })), rfl⟩
  · have hexec := execSpiFrame_serves (sdi := b :: l) (n := l.length + 1) (same := same) hserves
    have hmax : Nat.max (l.length + 1) (b :: l).length = l.length + 1 := Nat.max_self _
    rw [hmax, State.shiftOut_none hout] at hexec
    dsimp only at hexec
    rw [if_neg hb] at hexec
    exact hexec
  · obtain ⟨tail, htail⟩ := requestBytes_cons op seq flags handle l
    obtain ⟨hbase, hqueue, hcycle, hlast⟩ := s.shiftOut_keeps 0 (Nat.max n (requestBytes op seq flags handle l ++ rest).length)
    have hexec := execSpiFrame_serves (sdi := requestBytes op seq flags handle l ++ rest) (n := n) (same := same) hserves
    generalize s.shiftOut 0 (Nat.max n (requestBytes op seq flags handle l ++ rest).length) = o at hbase hqueue hcycle hlast hexec
    have hexec' : execSpiFrame (requestBytes op seq flags handle l ++ rest) n same s = done (((o.2.mapSent (fun t =>
        { t with sdo := o.1 })).received same).receive 0 (requestBytes op seq flags handle l ++ rest) true 0 0 0) := by
      rw [hexec, htail]
      exact congrArg done (if_neg (by decide))
    rw [receive_requestBytes_rest _ _ _ _ _ _ hnew.1 hnew.2.2.1 hnew.2.2.2.1 hnew.2.2.2.2.1 hnew.2.2.2.2.2.1] at hexec'
    refine queues_of_receive hnew hexec' ?_ hqueue hcycle hlast
    rw [hbase]
    rfl
  · have hlen : (requestBytes op seq flags handle l).length ≤ 4112 := by
      have := hnew.2.2.2.2.2.1
      rw [requestBytes_length]
      omega
    exact queues_of_receive hnew (execEthDatagram_serves hiface hserves hon hlen) rfl rfl rfl rfl
  · have hexec := execCanMessage_serves (data := data) (last := true) (same := same) hserves hon hident
    rw [hrx] at hexec
    have hkept (k : Nat) : (s.flowSend k).mapNet (fun n => { n with canRx := [] }) = s.flowSend k := by
      have hnet : { s.net with canRx := [] } = s.net := by rw [← hrx]
      rw [s.flowSend_frames]
      exact congrArg (fun n => { s.mapSent (fun t => { t with raw := t.raw ++ List.replicate k s.flowFrame }) with net := n }) hnet
    refine hexec.trans ?_
    rw [if_pos rfl, hkept]
    rfl
  · unfold canIdent
    split
    · exact Nat.add_comm _ _
    · rfl
  · have hexec := execCanMessage_serves (data := data) (last := true) (same := same) hserves hon rfl
    rw [if_pos rfl, hbytes, s.flowSend_frames] at hexec
    exact queues_of_receive hnew hexec rfl rfl rfl rfl
  · have hexec := execCanMessage_serves (data := data) (last := false) (same := same) hserves hon rfl
    rw [if_neg (by decide)] at hexec
    refine ⟨_, hexec, rfl, ?_, ?_, ?_, ?_⟩
    · simp only [List.isEmpty_iff]
      rfl
    · rw [s.flowSend_frames]
      rfl
    · rw [s.flowSend_frames]
      rfl
    · rw [s.flowSend_frames]
      rfl
  · exact congrArg done (if_pos hc)
  · have hexec : execCanIsotpTimeout c false s = done (s.mapNet (fun n => { n with canTx := none })).canDrain := congrArg done (if_pos hc)
    obtain ⟨hrx, hqueue, hparams⟩ := (s.mapNet (fun n => { n with canTx := none })).canDrain_keeps
    exact ⟨_, hexec, hrx, hqueue, hparams, fun hout => State.canDrain_idle hout rfl⟩
  · exact execTwCommandWrite_serves hcold hwindow hopen hgap hlen hwr hserves
  · obtain ⟨tail, htail⟩ := requestBytes_cons op seq flags handle l
    have hlen : x.wr.length ≤ 4112 := by
      have := hnew.2.2.2.2.2.1
      rw [hwr, requestBytes_length]
      omega
    have hexec := execTwCommandWrite_serves (same := same) hcold hwindow hopen hgap hlen (by rw [hwr, htail]; exact List.cons_ne_nil _ _) hserves
    rw [hwr] at hexec
    exact queues_of_receive hnew hexec rfl rfl rfl rfl
  · have hexec : execTwCommandRead x s = done ((s.shiftOut 3 x.rd).2.twAnswer true (s.shiftOut 3 x.rd).1) := by
      unfold execTwCommandRead
      rw [if_neg (by simpa using hcold), if_neg (by simp [hwindow, hopen])]
    rw [State.shiftOut_first hout hfits] at hexec
    exact ⟨_, hexec, rfl, rfl, congrArg Port.out (State.updPort_same s 3 (fun x => { x with out := l }))⟩
  · have hverify : verifyFirst p s.cmd.queue = l ++ { q with verif := 2 } :: r := by
      rw [hqueue, verifyFirst_append hfirst ⟨hport, hverif⟩]
    exact congrArg (fun v => done (s.mapCmd (fun m => { m with queue := v }))) hverify

end Sys2Proof

/-! A worker that is declared lost (R359). -/

namespace Sys2Proof.Machine

/-- Where the end of an effect leaves the manager outside Kindling, it writes no parameter below the load switches' but the watchdog's. -/
theorem State.settle_p {s : State} {a : Nat} (hphase : s.settle.sys.phase ≠ .kindling) (ha : a < 0x2000) (hw : a ≠ 0x0703) :
    s.settle.p a = s.p a := by
  unfold State.settle at hphase ⊢
  split
  · exact State.enterDoused_p ha hw
  · next hcalm =>
    rw [if_neg hcalm] at hphase
    split
    · next hkindle =>
      have hkindling : s.sys.phase = .kindling := by
        simp at hkindle
        exact hkindle.1
      rw [if_pos hkindle, (State.kindleOff_frame s).2.2.1] at hphase
      exact absurd hkindling hphase
    · rfl

/-- A worker of ring 0 that answers, and a FLARE_READ of its record whose port number is past the four ports: that port's count of failed
verifications would stand in the count of lost workers. -/
def strayLoss : State := { State.reset with
  sys := { Sys.start with phase := .doused }
  cmd := { Cmd.start with ports := [(0xC00, { Port.d with slots := [strayReply] })] }
  flue := { Flue.start with reads := [{ strayRead with w := 1, port := 0xC00 }], views := [(1, { View.d with here := true })] } }

/-- The loss is counted twice: once for the worker, and once for the reply that leaves behind the read. -/
theorem strayLoss_counts : (strayLoss.loseWorker 1).pf 0x1008 24 8 = 2 ∧ (strayLoss.loseWorker 1).settle.sys.phase = .doused := by
  decide

end Sys2Proof.Machine

namespace Sys2Proof
open Machine

/-- Refutes O46, by its last clause: no premise bounds the port that a FLARE_READ in progress names. As the worker of that read is
declared lost, a reply that waits on a port past the four counts in `portStat`, which reaches the ring's count of lost workers. -/
theorem not_managerTakesWorkerFrames : ¬ Obligations.ManagerTakesWorkerFrames := by
  rintro ⟨-, -, -, -, -, -, -, -, -, -, -, -, hlost⟩
  obtain ⟨u, hgives, -, -, hcount, -⟩ := hlost strayLoss 0 1 (by decide) (by decide) (by decide) (by decide) (by decide) (by decide)
  obtain ⟨htwice, hdoused⟩ := strayLoss_counts
  have hexec : exec (.workerLost 0 1) strayLoss = .next (strayLoss.loseWorker 1).settle :=
    congrArg done (if_pos (by decide : strayLoss.awake = true))
  have hsame : (strayLoss.loseWorker 1).settle = u.settle := Host.Outcome.next.inj (hexec.symm.trans hgives)
  have hread : u.pf 0x1008 24 8 = (strayLoss.loseWorker 1).pf 0x1008 24 8 := by
    rw [State.pf, ← State.settle_p (by rw [← hsame, hdoused]; decide) (by decide) (by decide), ← hsame,
      State.settle_p (by rw [hdoused]; decide) (by decide) (by decide), ← State.pf]
  have hone : Nat.min (strayLoss.pf (0x1008 + 0) 24 8 + 1) 255 = 1 := by decide
  rw [hone] at hcount
  exact absurd ((hread.trans htwice).symm.trans hcount) (by decide)

end Sys2Proof

/-! The ledger's instants (R473, R474, R481 to R483, R491), and the MRAM scrubber (R18). -/

namespace Sys2Proof.Machine

section
variable {s : State} {n : Nat}

/-- What the end of `Inst` `n`'s span reads and writes. -/
def State.spanView (n : Nat) (s : State) : Inst × Nat × Nat × Sys × Flue × Island :=
  (s.inst n, s.p (instStat n), s.p (0x1800 + n), s.sys, s.flue, s.island)

theorem State.spanView_updInst {m : Nat} (f : Inst → Inst) (h : n ≠ m) : (s.updInst m f).spanView n = s.spanView n := by
  unfold State.spanView
  rw [State.updInst_other _ _ h]
  rfl

theorem State.spanView_setPb {m l : Nat} (b : Bool) (hn : n < 8) (hm : m < 8) (h : n ≠ m) :
    (s.setPb (instStat m) l b).spanView n = s.spanView n := by
  have hp (a : Nat) (ha : a ≠ instStat m) : (s.setPb (instStat m) l b).p a = s.p a := s.p_setPb_other _ _ ha
  have hinst : (s.setPb (instStat m) l b).inst n = s.inst n := by
    rw [State.inst, State.setPb_insts, ← State.inst]
  unfold State.spanView
  rw [hinst, hp _ (by unfold instStat; omega), hp _ (by unfold instStat; omega), State.setPb_sys,
    State.setPb_flue, State.setPb_island]

/-- The end of one `Inst`'s span touches the `Inst` and its INSTSTAT alone. -/
theorem State.spanEnd_keeps {β : Type} (π : State → β) {m kind rtc : Nat} {cmd : Bool} (hinst : ∀ t f, π (State.updInst t m f) = π t)
    (hstat : ∀ t, π (State.setPb t (instStat m) 6 false) = π t) : π (s.spanEnd m kind rtc cmd) = π s := by
  have hnext (t : State) : π (t.spanNext m) = π t := (hinst _ _).trans (hinst _ _)
  have hcut : π (s.spanCut m kind rtc cmd) = π s := (hnext _).trans ((hstat _).trans (hinst _ _))
  unfold State.spanEnd
  refine State.ite_keeps π _ _ _ _ ?_ (State.ite_keeps π _ _ _ _ (hnext s) rfl)
  dsimp only
  split
  · exact State.ite_keeps π _ _ _ _ rfl (State.ite_keeps π _ _ _ _ (hinst _ _) hcut)
  · exact hcut

theorem State.spanEnd_view {m kind rtc : Nat} {cmd : Bool} (hn : n < 8) (hm : m < 8) (h : n ≠ m) :
    (s.spanEnd m kind rtc cmd).spanView n = s.spanView n :=
  State.spanEnd_keeps (State.spanView n) (fun _ f => State.spanView_updInst f h) (fun _ => State.spanView_setPb _ hn hm h)

theorem State.spanEnd_other {m kind rtc : Nat} {cmd : Bool} (h : n ≠ m) : (s.spanEnd m kind rtc cmd).inst n = s.inst n :=
  State.spanEnd_keeps (fun t => t.inst n) (fun t f => t.updInst_other f h) (fun t => by
    rw [State.inst, State.setPb_insts, ← State.inst])

theorem State.spanEnd_idle {kind rtc : Nat} {cmd : Bool} (h : s.instState n ≠ 2) : s.spanEnd n kind rtc cmd = s := by
  unfold State.spanEnd
  rw [if_neg (fun hc => h hc.1), if_neg (fun hc => h hc.1)]

/-- An owned, running `Inst` with no turf that waits: its span is cut (R482). -/
theorem State.spanEnd_cut {kind rtc : Nat} {cmd : Bool} (hstate : s.instState n = 2) (howns : s.ownsInst n = true)
    (hfull : s.full = true) (hdue : (s.inst n).due = []) : s.spanEnd n kind rtc cmd = s.spanCut n kind rtc cmd := by
  unfold State.spanEnd
  rw [if_pos ⟨hstate, howns, hfull⟩, hdue]
  rfl

/-- A span that is cut leaves its turf behind those that wait, and the next begins at once (R482). -/
theorem State.spanCut_inst {kind rtc : Nat} {cmd : Bool} :
    ((s.spanCut n kind rtc cmd).inst n).due = (s.inst n).due ++ [{ s.spanTurf n kind rtc with index := b2n cmd }] ∧
    ((s.spanCut n kind rtc cmd).inst n).span.startTick = s.tick ∧
    ((s.spanCut n kind rtc cmd).inst n).base = (s.inst n).totals := by
  unfold State.spanCut State.spanNext State.spanStart
  dsimp only
  rw [State.updInst_same, State.updInst_same, State.inst, State.setPb_insts, ← State.inst, State.updInst_same]
  exact ⟨rfl, rfl, rfl⟩

/-- The turf periods' end reads and writes `Inst` `n` as its own turn does alone. -/
theorem State.spanEnds_one (s : State) (hn : n ∈ s.instances) : ∃ t : State, t.spanView n = s.spanView n ∧
    (s.each s.instances (fun t n => t.spanEnd n 0 t.island.rtc false)).spanView n =
      (t.spanEnd n 0 t.island.rtc false).spanView n := by
  have hbelow : ∀ m ∈ s.instances, m < 8 := fun m hm => List.mem_range.mp (List.mem_filter.mp hm).1
  refine State.each_one (State.spanView n) _ n s.instances (List.nodup_range.filter _) hn (fun t m hm hne => ?_) s
  exact State.spanEnd_view (hbelow n hn) (hbelow m hm) (Ne.symm hne)

/-- An `Inst` that does not run is left by the turf periods' end. -/
theorem State.spanEnds_idle (s : State) (h : s.instState n ≠ 2) :
    (s.each s.instances (fun t n => t.spanEnd n 0 t.island.rtc false)).inst n = s.inst n := by
  have hbelow : ∀ m ∈ s.instances, m < 8 := fun m hm => List.mem_range.mp (List.mem_filter.mp hm).1
  by_cases hn : n ∈ s.instances
  · obtain ⟨t, hsame, hend⟩ := s.spanEnds_one hn
    have hstat : t.p (instStat n) = s.p (instStat n) := congrArg (fun v => v.2.1) hsame
    have hidle : t.instState n ≠ 2 := by
      rw [State.instState, State.pf, hstat]
      exact h
    rw [State.spanEnd_idle hidle, hsame] at hend
    exact congrArg Prod.fst hend
  · refine State.each_keeps_mem (fun t => t.inst n) _ _ (fun t m hm => ?_) s
    exact State.spanEnd_other (fun h => hn (h ▸ hm))

/-- An owned, running `Inst` with no turf that waits: its turf waits, and its next span begins (R481, R482). -/
theorem State.spanEnds_running (s : State) (hfull : s.full = true) (hn : n ∈ s.instances) (hstate : s.instState n = 2)
    (howns : s.ownsInst n = true) (hdue : (s.inst n).due = []) :
    ∃ t, ((s.each s.instances (fun t n => t.spanEnd n 0 t.island.rtc false)).inst n).due = [t] ∧ t.kind = 0 ∧ t.inst = n ∧
      t.startTick = (s.inst n).span.startTick ∧ t.endTick = s.tick ∧ t.startRtc = (s.inst n).span.startRtc ∧
      t.endRtc = s.island.rtc ∧ t.totals = (s.inst n).totals ∧
      ((s.each s.instances (fun t n => t.spanEnd n 0 t.island.rtc false)).inst n).span.startTick = s.tick ∧
      ((s.each s.instances (fun t n => t.spanEnd n 0 t.island.rtc false)).inst n).base = (s.inst n).totals := by
  obtain ⟨t, hsame, hend⟩ := s.spanEnds_one hn
  have hinst : t.inst n = s.inst n := congrArg Prod.fst hsame
  have hstat : t.p (instStat n) = s.p (instStat n) := congrArg (fun v => v.2.1) hsame
  have hcfg : t.p (0x1800 + n) = s.p (0x1800 + n) := congrArg (fun v => v.2.2.1) hsame
  have hsys : t.sys = s.sys := congrArg (fun v => v.2.2.2.1) hsame
  have hflue : t.flue = s.flue := congrArg (fun v => v.2.2.2.2.1) hsame
  have hisland : t.island = s.island := congrArg (fun v => v.2.2.2.2.2) hsame
  have hstate' : t.instState n = 2 := by rw [State.instState, State.pf, hstat]; exact hstate
  have hrole : t.role = s.role := by rw [State.role, hsys, ← State.role]
  have howns' : t.ownsInst n = true := by
    rw [State.ownsInst, State.instW, State.pf, State.pf, hcfg, State.owns, hrole, State.view_of_flue hflue]
    exact howns
  have hfull' : t.full = true := by rw [State.full, hsys]; exact hfull
  have hdue' : (t.inst n).due = [] := by rw [hinst]; exact hdue
  have htick : t.tick = s.tick := congrArg Island.count hisland
  obtain ⟨hturf, hstart, hbase⟩ := State.spanCut_inst (s := t) (n := n) (kind := 0) (rtc := t.island.rtc) (cmd := false)
  rw [State.spanEnd_cut hstate' howns' hfull' hdue'] at hend
  have hafter := congrArg Prod.fst hend
  dsimp only [State.spanView] at hafter
  rw [hafter, hturf, hstart, hbase, hdue', hinst, htick]
  refine ⟨_, rfl, rfl, rfl, ?_, ?_, ?_, ?_, ?_, rfl, rfl⟩
  · exact congrArg (fun i : Inst => i.span.startTick) hinst
  · exact htick
  · exact congrArg (fun i : Inst => i.span.startRtc) hinst
  · exact congrArg Island.rtc hisland
  · exact congrArg Inst.totals hinst

end

end Sys2Proof.Machine

/-! Turfs that are written, the shard period, the wall time sent, and the scrubber (R18, R473, R474, R483, R491). -/

namespace Sys2Proof.Machine

section
variable {s : State} {n : Nat}

theorem be_length (k v : Nat) : (be k v).length = k := by rw [be, List.length_reverse, le_length]

theorem deviceSign_length (k : Nat) (hash : List Byte) : (deviceSign k hash).length = 64 := by
  unfold deviceSign
  split
  · simp only [List.length_append, be_length]
  · exact List.length_replicate

/-- What is put into the MRAM and goes to the partner of an `Inst` leaves every `Inst`. -/
theorem State.stored_inst (s : State) (m lo len kind k : Nat) (body : List Byte) : (((s.mramFresh lo len).ledgSync k kind body).inst m) = s.inst m := by
  have hinsts : ((s.mramFresh lo len).ledgSync k kind body).insts = s.insts := by simp
  rw [State.inst, hinsts, ← State.inst]

/-- The merge before a new turf rewrites the `Inst`'s turfs alone (R486). -/
theorem State.mergeTurfs_inst : ((s.mergeTurfs n).inst n) = { s.inst n with turfs := ((s.mergeTurfs n).inst n).turfs } := by
  have hinst (lo len kind k : Nat) (body : List Byte) (t : State) (f : Inst → Inst) :
      (((t.updInst n f).mramFresh lo len).ledgSync k kind body).inst n = f (t.inst n) := by
    rw [State.stored_inst, State.updInst_same]
  unfold State.mergeTurfs
  dsimp only
  generalize (List.filter (s.inst n).unacked (s.inst n).sorted).take 24 = waiting
  cases waiting with
  | nil => rfl
  | cons a l =>
    refine iteInduction (motive := fun u : State => u.inst n = { s.inst n with turfs := (u.inst n).turfs }) (fun _ => rfl) (fun _ => ?_)
    rw [hinst]
    rfl

theorem State.mergeTurfs_other {m : Nat} (h : m ≠ n) : (s.mergeTurfs n).inst m = s.inst m := by
  unfold State.mergeTurfs
  dsimp only
  split
  · refine State.ite_keeps (fun t => t.inst m) _ _ _ _ rfl ?_
    rw [State.stored_inst, State.updInst_other _ _ h]
    rfl
  · rfl

/-- The turf that is written, before it is put away. -/
def State.turfToWrite (s : State) (n : Nat) (t : Turf) : Turf :=
  let s1 := s.mergeTurfs n
  let idx := if (s1.inst n).any then (s1.inst n).newest + 1 else 0
  s1.sign { t with index := idx, firstIndex := idx }

theorem State.writeTurf_inst (t : Turf) : ((s.writeTurf n t).inst n) = { ((s.mergeTurfs n).inst n) with
    turfs := Tbl.set ((s.mergeTurfs n).inst n).turfs ((s.turfToWrite n t).index % 1024) (s.turfToWrite n t),
    newest := (s.turfToWrite n t).index, any := true } := by
  unfold State.writeTurf
  dsimp only
  rw [State.stored_inst, State.inst, State.mapPart_insts, ← State.inst, State.updInst_same]
  rfl

theorem State.writeTurf_other {m : Nat} (t : Turf) (h : m ≠ n) : (s.writeTurf n t).inst m = s.inst m := by
  unfold State.writeTurf
  dsimp only
  rw [State.stored_inst, State.inst, State.mapPart_insts, ← State.inst, State.updInst_other _ _ h]
  exact State.mergeTurfs_other h

theorem State.turfToWrite_index (t : Turf) : (s.turfToWrite n t).index = if (s.inst n).any then (s.inst n).newest + 1 else 0 := by
  unfold State.turfToWrite
  dsimp only
  rw [State.mergeTurfs_inst]
  rfl

/-- The turf goes under its INDEX, and nothing else of it but its signature is new (R483). -/
theorem State.turfToWrite_eq (t : Turf) : s.turfToWrite n t = { t with
    index := (s.turfToWrite n t).index, firstIndex := (s.turfToWrite n t).index, signature := (s.turfToWrite n t).signature } := rfl

/-- The signature is the device's, over bytes 0 to 191 and the serial (R483). -/
theorem State.turfToWrite_signature (t : Turf) : (s.turfToWrite n t).signature =
    deviceSign (Config.signNonce (s.mergeTurfs n).free) (sha256 (turfBody (s.turfToWrite n t) ++ le 8 Config.serial.toNat)) := rfl

end

end Sys2Proof.Machine

/-! The ledger's instants, and the scrub (R18, R473, R474, R477, R481 to R483, R491). -/

namespace Sys2Proof.Machine

section
variable {s : State} {n : Nat}

theorem State.each_insts_only {α : Type} (l : List α) (f : State → α → State) (hf : ∀ t x, ({ f t x with insts := [] } : State) = { t with insts := [] })
    (s : State) : s.each l f = { s with insts := (s.each l f).insts } :=
  congrArg (fun t : State => { t with insts := (s.each l f).insts }) (State.each_keeps (fun t : State => { t with insts := [] }) l f hf s)

/-- A change of some instances, each once. -/
theorem State.each_updInst (l : List Nat) (hl : l.Nodup) (f : Inst → Inst) (n : Nat) :
    (s.each l (fun t m => t.updInst m f)).inst n = if n ∈ l then f (s.inst n) else s.inst n := by
  by_cases hn : n ∈ l
  · obtain ⟨t, hsame, hafter⟩ := State.each_one (fun t => t.inst n) (fun t m => t.updInst m f) n l hl hn
      (fun t m _ hne => t.updInst_other f (Ne.symm hne)) s
    rw [if_pos hn, hafter, State.updInst_same, hsame]
  · rw [if_neg hn]
    exact State.each_keeps_mem (fun t => t.inst n) _ l (fun t m hm => t.updInst_other f (fun h => hn (h ▸ hm))) s

/-- The wall time goes out to each worker of a list in the next Apply (R474). -/
theorem State.each_timeSent (l : List Nat) (s : State) : s.each l (fun t w => t.toWorker w 1 t.island.rtc) =
    s.mapFlue (fun f => { f with apply := f.apply ++ l.map (fun w => (w, 3 * 65536 + 1, s.island.rtc)) }) := by
  induction l generalizing s with
  | nil =>
    rw [List.map_nil, State.mapFlue, List.append_nil]
    rfl
  | cons w l ih =>
    have hcons : s.each (w :: l) (fun t w => t.toWorker w 1 t.island.rtc) =
        (s.toWorker w 1 s.island.rtc).each l (fun t w => t.toWorker w 1 t.island.rtc) := rfl
    rw [hcons, ih, List.map_cons]
    unfold State.toWorker State.mapFlue
    dsimp only
    rw [List.append_assoc, List.singleton_append]

theorem execTurfWrite_one {t : Turf} (h : (s.inst n).due = [t]) :
    execTurfWrite n s = done ((s.updInst n (fun i => { i with due := [] })).writeTurf n t) := by
  unfold execTurfWrite
  rw [h]
  rfl

/-- What an event counts in a span leaves what `φ` reads of an `Inst`. -/
theorem State.upSpan_inst {β : Type} (φ : Inst → β) (hφ : ∀ i keep t f, φ (Inst.upSpan i keep t f) = φ i) (s : State) (m : Nat)
    (f : Span → Span) (n : Nat) : φ ((s.upSpan m f).inst n) = φ (s.inst n) := by
  unfold State.upSpan
  by_cases hn : n = m
  · rw [hn, State.updInst_same]
    exact hφ _ _ _ _
  · rw [State.updInst_other _ _ hn]

/-- An event touches the span of an `Inst` alone (R481). -/
theorem State.raise_inst {β : Type} (φ : Inst → β) (hφ : ∀ i keep t f, φ (Inst.upSpan i keep t f) = φ i) (s : State) (e : Nat)
    (d : List Byte) (n : Nat) : φ ((s.raise e d).inst n) = φ (s.inst n) := by
  have hdouse (t : State) : (t.douseBy e).inst n = t.inst n := by rw [State.inst, State.douseBy_insts, ← State.inst]
  have hspans (t : State) (sev : Nat) : φ ((t.countSpans e sev).inst n) = φ (t.inst n) :=
    State.each_keeps (fun t => φ (t.inst n)) _ _ (fun t m => t.upSpan_inst φ hφ m _ n) t
  have hstart (t : State) (f : Evt → Evt) (a l : Nat) (b : Bool) : ((t.setPb a l b).mapEvt f).inst n = t.inst n := by
    rw [State.inst, State.mapEvt_insts, State.setPb_insts, ← State.inst]
  refine State.ite_keeps (fun t => φ (t.inst n)) _ _ _ _ ?_ rfl
  unfold State.occurs
  dsimp only
  refine State.ite_keeps (fun t => φ (t.inst n)) _ _ _ _ ?_ ?_
  · rw [hdouse, hspans, hstart]
  · rw [hspans, hstart]

/-- An event leaves the mirror slots (R466). -/
theorem State.raise_mirror (s : State) (e : Nat) (d : List Byte) (n : Nat) :
    (((s.raise e d).inst n).m0, ((s.raise e d).inst n).m1) = ((s.inst n).m0, (s.inst n).m1) :=
  s.raise_inst (fun i => (i.m0, i.m1)) (fun _ _ _ _ => rfl) e d n

theorem spoil_of_lt {word at' : Nat} (a : Option AccSlot) (h : word < at') : spoil word at' a = a := by
  unfold spoil
  rw [if_neg (by omega)]

theorem spoil_of_ge {word at' : Nat} (a : Option AccSlot) (h : at' + 8 ≤ word) : spoil word at' a = a := by
  unfold spoil
  rw [if_neg (by omega)]

theorem spoil_of_mem {word at' : Nat} (a : Option AccSlot) (hlo : at' ≤ word) (hhi : word < at' + 8) :
    spoil word at' a = a.map (fun x => { x with good := false }) := by
  unfold spoil
  rw [if_pos ⟨hlo, hhi⟩]

/-- An uncorrectable word of the manager's mirror takes the slot it stands in (R469). -/
theorem execMramScrub_mirror {k : Nat} (hawake : s.awake = true) (hn : n < 8) (hk : k < 16) :
    execMramScrub none (64 * n + k) 2 s = done ((s.raise 61 []).updInst n (fun i =>
      { i with m0 := spoil k 0 i.m0, m1 := spoil k 8 i.m1 })) := by
  have hdiv : (64 * n + k) / 64 = n := by omega
  have hmod : (64 * n + k) % 64 = k := by omega
  unfold execMramScrub
  rw [if_neg (by simp [hawake]), if_neg (by decide), if_pos rfl]
  dsimp only
  rw [if_pos ⟨by omega, by omega⟩, hdiv, hmod]

theorem execMramScrub_other {word : Nat} (hawake : s.awake = true) (h : 512 ≤ word) :
    execMramScrub none word 2 s = done ((s.raise 61 []).mapNvm (fun v => { v with bad := insNat word v.bad })) := by
  unfold execMramScrub
  rw [if_neg (by simp [hawake]), if_neg (by decide), if_pos rfl]
  dsimp only
  rw [if_neg (fun hc => absurd hc.1 (by omega))]

theorem State.raise_latched_61 (d : List Byte) : (s.raise 61 d).latched 61 = true :=
  s.raise_latched d (Bool.or_eq_true_iff.mpr (Or.inl rfl))

end

/-- Settles O47, clause by clause: the span of each `Inst` is its own, and a turf that is written touches one `Inst`. -/
theorem ledgerInstants : Obligations.LedgerInstants := by
  unfold Obligations.LedgerInstants
  refine ⟨fun s hfull => ?_, fun s n t hdue => ?_, fun s hfull => ?_, fun s hfull => ?_, fun s w word hawake => ?_,
    fun s n k hawake hn hk => ?_, fun s word hawake hword => ?_⟩
  · refine ⟨_, congrArg done (if_pos hfull), fun n hn hstate howns hdue => ?_, fun n h => s.spanEnds_idle h, ?_, ?_, ?_⟩
    · exact s.spanEnds_running hfull hn hstate howns hdue
    · exact State.each_keeps State.nvm _ _ (fun t m => by simp) s
    · exact State.each_keeps State.out _ _ (fun t m => by simp) s
    · exact State.each_keeps State.island _ _ (fun t m => by simp) s
  · obtain ⟨u, hu⟩ : ∃ u, u = (s.updInst n (fun i => { i with due := [] })) := ⟨_, rfl⟩
    have hinst : u.inst n = { s.inst n with due := [] } := by rw [hu, State.updInst_same]
    have hafter := State.writeTurf_inst (s := u) (n := n) t
    have hindex := State.turfToWrite_index (s := u) (n := n) t
    refine ⟨u.writeTurf n t, u.turfToWrite n t, by rw [hu]; exact execTurfWrite_one hdue, ?_, ?_, ?_, ?_, ?_, ?_, ?_, fun m hm => ?_, ?_⟩
    · rw [hafter, State.mergeTurfs_inst, hinst]
    · rw [hafter]
    · rw [hafter, hindex, hinst]
    · rw [hafter]
      exact Tbl.find_set_same _ _ _
    · rw [State.turfToWrite_signature]
      exact deviceSign_length _ _
    · rw [hafter]
      exact State.turfToWrite_eq t
    · exact ⟨_, State.turfToWrite_signature t⟩
    · rw [State.writeTurf_other t hm, hu, State.updInst_other _ _ hm]
    · rw [hu]
      simp
  · refine ⟨_, congrArg done (if_pos hfull), State.each_insts_only _
      (fun t m => t.updInst m (fun i => { i with snapNow := true })) (fun t m => rfl) s, fun n => ?_⟩
    refine (State.each_updInst _ ((List.nodup_range.filter _).filter _) (fun i => { i with snapNow := true }) n).trans ?_
    simp only [State.instances, List.mem_filter, beq_iff_eq]
  · exact congrArg done ((if_pos hfull).trans (State.each_timeSent _ s))
  · exact congrArg done ((if_neg (by simp [hawake])).trans (if_pos rfl))
  · have hmirror := s.raise_mirror 61 [] n
    refine ⟨_, execMramScrub_mirror hawake hn hk, State.raise_latched_61 [], fun hlow => ?_, fun hhigh => ?_, ?_, ?_⟩
    · rw [State.updInst_same, spoil_of_mem _ (Nat.zero_le k) (by omega), spoil_of_lt _ hlow]
      exact ⟨congrArg (Option.map _) (congrArg Prod.fst hmirror), congrArg Prod.snd hmirror⟩
    · rw [State.updInst_same, spoil_of_mem _ hhigh (by omega), spoil_of_ge _ (by omega)]
      exact ⟨congrArg (Option.map _) (congrArg Prod.snd hmirror), congrArg Prod.fst hmirror⟩
    · simp
    · simp
  · refine ⟨_, execMramScrub_other hawake hword, State.raise_latched_61 [], ?_, ?_⟩
    · rw [State.mapNvm_nvm]
      exact mem_insNat _ _
    · simp

end Sys2Proof.Machine

/-! The partner link (R60 to R64, R67, R304, R512, R515 to R519, R534, R535, R541). -/

namespace Sys2Proof.Machine

section
variable {s : State}

theorem State.execPartner_solo (h : s.role = 0) : s.twin = false := by
  rw [State.twin, h]
  exact Bool.and_false _

theorem State.partSettle_p {a : Nat} (h : a ≠ 0x1906) : s.partSettle.p a = s.p a :=
  State.ite_keeps (fun t => t.p a) _ _ _ _ (s.p_setPb_other _ _ h) rfl

theorem State.partSettle_same : SameParams s s.partSettle [0x1906] := fun _ h => State.partSettle_p (by simpa using h)

/-- The state in which the link has come up and the RESYNC has gone out (R517, R541). -/
def State.linkRaised (s : State) : State :=
  let s1 := (s.setPb 0x1905 0 true).finish 44 0
  (s1.mapPart (fun p => { p with beats := 0, resync := true, awaits := s1.partnerInsts })).sendResync

theorem State.linkRise_eq (htwin : s.twin = true) (hdown : s.linkUp = false) :
    s.linkRise = (match s.part.asked with
      | some l => s.linkRaised.resyncAnswer l
      | none => s.linkRaised) := by
  unfold State.linkRise
  rw [if_neg (by rw [htwin, hdown]; decide)]
  rfl

theorem State.linkRaised_p {a : Nat} (h : a ≠ 0x1905) : s.linkRaised.p a = s.p a := s.p_setPb_other _ _ h

theorem State.linkRaised_up : s.linkRaised.linkUp = true := s.pb_setPb_same 0x1905 0 true (by decide)

theorem State.linkRaised_ended : s.linkRaised.holdsItem 44 0 = false := (s.setPb 0x1905 0 true).finish_holdsItem 44 0

/-- An answer to a RESYNC changes PART.SYNCSTAT alone of the parameters (R541). -/
theorem State.resyncAnswer_p (l : List Nat) {a : Nat} (h : a ≠ 0x1906) : (s.resyncAnswer l).p a = s.p a := by
  unfold State.resyncAnswer
  refine (State.partSettle_p h).trans ?_
  refine State.each_keeps (fun t => t.p a) _ _ (fun t n => ?_) s
  have hsync (t : State) (k : Nat) (b : List Byte) : (t.ledgSync n k b).p a = t.p a :=
    State.p_of_params (State.ledgSync_frame _ _ _ _).2.2.2.2.2.1 a
  refine (State.p_of_params (State.bindSync_frame _ _).2.2.2.2.2.1 a).trans ((hsync _ _ _).trans ?_)
  exact State.each_keeps (fun t => t.p a) _ _ (fun t x => hsync t _ _) t

theorem State.resyncAnswer_evt (l : List Nat) : (s.resyncAnswer l).evt = s.evt := by simp

/-- With no `Inst`, an answer to a RESYNC sends nothing (R541). -/
theorem State.resyncAnswer_bare (l : List Nat) (h : s.instances = []) :
    s.resyncAnswer l = (s.mapPart (fun p => { p with resync := false, asked := none })).partSettle := by
  unfold State.resyncAnswer
  rw [h]
  rfl

theorem State.linkRise_up (htwin : s.twin = true) (hdown : s.linkUp = false) : s.linkRise.linkUp = true := by
  rw [State.linkRise_eq htwin hdown]
  split
  · rw [State.linkUp, State.pb, State.resyncAnswer_p _ (by decide)]
    exact State.linkRaised_up
  · exact State.linkRaised_up

theorem State.linkRise_ended (htwin : s.twin = true) (hdown : s.linkUp = false) : s.linkRise.holdsItem 44 0 = false := by
  rw [State.linkRise_eq htwin hdown]
  split
  · rw [State.holdsItem, State.resyncAnswer_evt]
    exact State.linkRaised_ended
  · exact State.linkRaised_ended

theorem State.linkRise_asks (htwin : s.twin = true) (hdown : s.linkUp = false) (h : s.part.asked = none) :
    s.linkRise = s.linkRaised := by rw [State.linkRise_eq htwin hdown, h]

/-- The rate of a ring, and following the partner's tick, change the ring's word and TICK.STAT and FOLLOW alone. -/
theorem State.ringRate_p (r : Nat) (slow : Bool) {a : Nat} (h : a ≠ ringStat r) : (s.ringRate r slow).p a = s.p a :=
  State.ite_keeps (fun t => t.p a) _ _ _ _ (s.p_setPb_other _ _ h) rfl

theorem State.followPartner_p (c : Nat) {a : Nat} (h : a ≠ 0x0206) (h' : a ≠ 0x0203) : (s.followPartner c).p a = s.p a := by
  unfold State.followPartner
  dsimp only
  rw [State.mapPart_p, State.p_setPb_other _ _ _ h, State.p_setPb_other _ _ _ h', State.p_setPf_other _ _ _ _ h]

theorem State.followPartner_source (c : Nat) : (s.followPartner c).pf 0x0206 0 2 ≠ 0 := by
  unfold State.followPartner
  dsimp only
  rw [State.mapPart_pf, State.pf_setPb_apart _ _ _ _ (by decide) (by decide), State.pf_setPb_other _ _ _ _ _ (by decide),
    State.pf_setPf_same _ _ _ _ _ (by decide)]
  split <;> decide

theorem State.followPartner_follower (c : Nat) : (s.followPartner c).pb 0x0203 0 = false := by
  unfold State.followPartner
  dsimp only
  rw [State.mapPart_pb, State.pb_setPb_other _ _ _ _ (by decide), State.pb_setPb_same _ _ _ _ (by decide)]

theorem State.followPartner_part (c : Nat) : (s.followPartner c).part = { s.part with follow := some c, slew := none } := rfl

/-- Sleep entry that is asked for in Lit or Doused is under way (R151). -/
theorem State.sleepBegin_begins (own : Bool) (h : s.full = true) : (s.sleepBegin own).sys.sleeping ≠ 0 := by
  unfold State.sleepBegin
  by_cases hbusy : s.sys.sleeping = 0
  · rw [if_pos ⟨hbusy, h⟩]
    exact Nat.one_ne_zero
  · rw [if_neg (fun hc => hbusy hc.1)]
    exact hbusy

theorem State.sleepBegin_idle (own : Bool) (h : s.full = false) : s.sleepBegin own = s := by
  unfold State.sleepBegin
  rw [if_neg (fun hc => Bool.false_ne_true (h.symm.trans hc.2))]

/-- Sleep entry that begins changes the flag that tells the partner alone of the link's block (R534). -/
theorem State.sleepBegin_part (own : Bool) : ∃ b, (s.sleepBegin own).part = { s.part with sleep := b } := by
  unfold State.sleepBegin
  split
  · exact ⟨_, rfl⟩
  · exact ⟨_, rfl⟩

/-- What BEAT_FRAME does of the frame's own fields: the partner's state, whether its configuration is another, its period (R515). -/
def State.beatHeard (s : State) (f : BeatF) : State :=
  ((s.setPf 0x1905 2 2 f.state).setPb 0x1905 4 (f.cfgver != s.p 0x0108)).mapPart (fun p =>
    { p with kindUs := if s.pf 0x1905 2 2 == 1 && f.state == 1 then p.kindUs + s.tUs else 0, period := f.period })

/-- One more BEAT of a link that is not up (R517). -/
def State.beatCount (s : State) (f : BeatF) : State :=
  (if s.part.beats = 0 then (s.beatHeard f).setPb 0x1905 5 true else s.beatHeard f).mapPart
    (fun p => { p with beats := p.beats + 1, beat := true })

/-- What BEAT_FRAME does after the link has been judged: RECLAIM, the tick's source, and sleep (R59, R525, R534). -/
def State.beatFollow (s : State) (f : BeatF) : State :=
  let s3 := if s.full && 2 ≤ f.state then s.setPb 0x1905 5 false else s
  let s4 := if f.source && s3.mayFollow then s3.followPartner (f.tick + 1) else s3
  if f.sleep then s4.sleepBegin false else s4

theorem execBeatFrame_eq (f : BeatF) (htwin : s.twin = true) : execBeatFrame f s = done (State.beatFollow
    (if s.linkUp then s.beatHeard f
      else if 16 ≤ (s.beatCount f).part.beats then (s.beatCount f).linkRise else s.beatCount f) f) := by
  unfold execBeatFrame
  rw [if_neg (by rw [htwin]; decide)]
  rfl

theorem execBeatFrame_up (f : BeatF) (htwin : s.twin = true) (hup : s.linkUp = true) :
    execBeatFrame f s = done ((s.beatHeard f).beatFollow f) := by
  rw [execBeatFrame_eq f htwin, if_pos hup]

theorem execBeatFrame_rises (f : BeatF) (htwin : s.twin = true) (hdown : s.linkUp = false) (hbeats : 15 ≤ s.part.beats) :
    execBeatFrame f s = done ((s.beatCount f).linkRise.beatFollow f) := by
  have hcount : (s.beatCount f).part.beats = s.part.beats + 1 := by
    unfold State.beatCount
    rw [if_neg (by omega)]
    rfl
  rw [execBeatFrame_eq f htwin, if_neg (by rw [hdown]; decide), if_pos (by omega)]

/-- The state before sleep is judged (R525, R59). -/
def State.beatSource (s : State) (f : BeatF) : State :=
  let s3 := if s.full && 2 ≤ f.state then s.setPb 0x1905 5 false else s
  if f.source && s3.mayFollow then s3.followPartner (f.tick + 1) else s3

theorem State.beatSource_keeps {β : Type} (π : State → β) (f : BeatF) (hreclaim : ∀ t, π (State.setPb t 0x1905 5 false) = π t)
    (hfollow : f.source = true → ∀ t c, π (State.followPartner t c) = π t) : π (s.beatSource f) = π s := by
  have hs3 : π (if s.full && 2 ≤ f.state then s.setPb 0x1905 5 false else s) = π s := State.ite_keeps π _ _ _ _ (hreclaim s) rfl
  unfold State.beatSource
  dsimp only
  generalize (if s.full && 2 ≤ f.state then s.setPb 0x1905 5 false else s) = s3 at hs3 ⊢
  split
  case isTrue h => exact (hfollow (Bool.and_eq_true_iff.mp h).1 _ _).trans hs3
  case isFalse => exact hs3

theorem State.beatFollow_keeps {β : Type} (π : State → β) (f : BeatF) (hreclaim : ∀ t, π (State.setPb t 0x1905 5 false) = π t)
    (hfollow : f.source = true → ∀ t c, π (State.followPartner t c) = π t) (hsleep : ∀ t, π (State.sleepBegin t false) = π t) :
    π (s.beatFollow f) = π s :=
  State.ite_keeps π _ _ _ _ ((hsleep _).trans (State.beatSource_keeps π f hreclaim hfollow)) (State.beatSource_keeps π f hreclaim hfollow)

theorem State.beatSource_sys (f : BeatF) : (s.beatSource f).sys = s.sys :=
  State.beatSource_keeps State.sys f (fun _ => rfl) (fun _ _ _ => rfl)

theorem State.full_of_sys {t : State} (h : t.sys = s.sys) : t.full = s.full := by rw [State.full, h, State.full]

/-- A BEAT that tells of sleep begins sleep entry in Lit or Doused (R534). -/
theorem State.beatFollow_sleeps (f : BeatF) (hsleep : f.sleep = true) (hfull : s.full = true) : (s.beatFollow f).sys.sleeping ≠ 0 := by
  have hrest : s.beatFollow f = (s.beatSource f).sleepBegin false := if_pos hsleep
  rw [hrest]
  exact State.sleepBegin_begins false ((State.full_of_sys (State.beatSource_sys f)).trans hfull)

theorem State.beatFollow_sys (f : BeatF) (h : f.sleep = false ∨ s.full = false) : (s.beatFollow f).sys = s.sys := by
  by_cases hsleep : f.sleep = true
  · have hrest : s.beatFollow f = (s.beatSource f).sleepBegin false := if_pos hsleep
    have hidle : s.full = false := h.resolve_left (by simp [hsleep])
    rw [hrest, State.sleepBegin_idle _ ((State.full_of_sys (State.beatSource_sys f)).trans hidle)]
    exact State.beatSource_sys f
  · have hrest : s.beatFollow f = s.beatSource f := if_neg hsleep
    rw [hrest]
    exact State.beatSource_sys f

theorem State.sleepBegin_p (own : Bool) (a : Nat) : (s.sleepBegin own).p a = s.p a :=
  State.p_of_params (s.sleepBegin_frame own).2.2.2.2.1 a

/-- A field of PART.STAT but RECLAIM's flag stands through the rest of a BEAT. -/
theorem State.beatFollow_pf (f : BeatF) {l w : Nat} (h : l + w ≤ 5) : (s.beatFollow f).pf 0x1905 l w = s.pf 0x1905 l w :=
  State.beatFollow_keeps (fun t => t.pf 0x1905 l w) f (fun t => t.pf_setPb_apart _ _ _ (by decide) (Or.inl h))
    (fun _ t c => congrArg (fun v => fld v l w) (State.followPartner_p c (by decide) (by decide)))
    (fun t => congrArg (fun v => fld v l w) (State.sleepBegin_p false _))

theorem State.beatFollow_pb (f : BeatF) {l : Nat} (h : l < 5) : (s.beatFollow f).pb 0x1905 l = s.pb 0x1905 l := by
  have hbit := State.beatFollow_pf (s := s) f (l := l) (w := 1) (by omega)
  rw [State.pb, State.pb, bit_eq_fld, bit_eq_fld]
  exact congrArg (· == 1) hbit

end

end Sys2Proof.Machine

/-! What the partner's ring frames and requests do (R62, R63, R110, R330, R518, R527, R528, R535, R541). -/

namespace Sys2Proof.Machine

section
variable {s : State} {ring : Nat}

/-- A frame of the partner has come on a ring: it is heard, and before the first tick PART.STAT says so (R60). -/
def State.ringHeard (s : State) : State :=
  (s.mapPart (fun p => { p with heard := true })).when (!s.sys.pll) (fun t => t.setPb 0x1905 1 true)

theorem State.ringHeard_keeps {β : Type} (π : State → β) (hpart : ∀ t f, π (State.mapPart t f) = π t)
    (hparam : ∀ t, π (State.setPb t 0x1905 1 true) = π t) : π s.ringHeard = π s :=
  State.ite_keeps π _ _ _ _ ((hparam _).trans (hpart _ _)) (hpart _ _)

theorem State.ringHeard_p {a : Nat} (h : a ≠ 0x1905) : s.ringHeard.p a = s.p a :=
  State.ringHeard_keeps (fun t => t.p a) (fun _ _ => rfl) (fun t => t.p_setPb_other _ _ h)

theorem State.ringHeard_sys : s.ringHeard.sys = s.sys := State.ringHeard_keeps State.sys (fun _ _ => rfl) (fun _ => rfl)

theorem State.ringHeard_flue : s.ringHeard.flue = s.flue := State.ringHeard_keeps State.flue (fun _ _ => rfl) (fun _ => rfl)

theorem State.ringHeard_part : s.ringHeard.part = { s.part with heard := true } := State.ite_keeps State.part _ _ _ _ rfl rfl

/-- What a SYNC tells of its ring (R304, R528). -/
def State.syncTaken (s : State) (ring : Nat) (y : SyncF) : State :=
  ((s.ringHeard.mapPart (fun p => { p with period := y.period })).updRing ring (fun g =>
    { g with slow := bit y.flags 2, joined := g.joined || !s.sys.pll })).ringRate ring (bit y.flags 2)

/-- What a SYNC makes of the tick's source (R63). -/
def State.syncSource (s : State) (y : SyncF) : State :=
  if (bit y.flags 0 || s.role == 2) && s.mayFollow then s.followPartner (y.tick + 1) else s

/-- What a SYNC with BANK begins (R67, R346). -/
def State.syncSleep (s : State) (y : SyncF) : State := if bit y.flags 0 && bit y.flags 1 then s.sleepBegin false else s

theorem execPartnerRingFrame_heard (f : PartnerRingF) (htwin : s.twin = true) (hon : s.ringOn ring = true) :
    execPartnerRingFrame ring true f s = done (match f with
      | .lease _ => s.ringHeard
      | .enum n => s.ringHeard.enumTotal ring n
      | .sync y => ((s.syncTaken ring y).syncSource y).syncSleep y) := by
  unfold execPartnerRingFrame
  rw [if_neg (by rw [htwin, hon]; decide), if_neg (by decide)]
  cases f <;> rfl

theorem execPartnerRingFrame_bad (f : PartnerRingF) (htwin : s.twin = true) (hon : s.ringOn ring = true) :
    execPartnerRingFrame ring false f s = done (s.incPf (0x1008 + ring) 0 16) := by
  have hawake : s.awake = true := (Bool.and_eq_true_iff.mp htwin).1
  have hring : decide (ring < 4) = true := (Bool.and_eq_true_iff.mp hon).1
  unfold execPartnerRingFrame
  rw [if_neg (by rw [htwin, hon]; decide), if_pos (by decide), State.badFrame, if_pos (by rw [hawake, hring]; rfl)]

theorem State.syncTaken_p (y : SyncF) {a : Nat} (h : a ≠ 0x1905) (h' : a ≠ ringStat ring) : (s.syncTaken ring y).p a = s.p a :=
  (State.ringRate_p ring _ h').trans (State.ringHeard_p h)

theorem State.syncTaken_sys (y : SyncF) : (s.syncTaken ring y).sys = s.sys :=
  (State.ringRate_frame _ _ _).2.2.1.trans State.ringHeard_sys

theorem State.syncTaken_part (y : SyncF) : (s.syncTaken ring y).part = { s.part with heard := true, period := y.period } := by
  unfold State.syncTaken
  rw [(State.ringRate_frame _ _ _).2.2.2.2.2.2.2.2.2.2.2.2.1, State.updRing_part, State.mapPart_part, State.ringHeard_part]

theorem State.syncTaken_ring (y : SyncF) : (s.syncTaken ring y).ring ring =
    { s.ring ring with slow := bit y.flags 2, joined := (s.ring ring).joined || !s.sys.pll } := by
  unfold State.syncTaken
  have hring : (s.ringHeard.mapPart (fun p => { p with period := y.period })).ring ring = s.ring ring :=
    State.ring_of_flue State.ringHeard_flue ring
  rw [State.ring_of_flue (State.ringRate_frame _ _ _).2.2.2.2.2.2.2.2.2.2.1, State.updRing_same, hring]

theorem State.syncSource_keeps {β : Type} (π : State → β) (y : SyncF) (h : ∀ c, π (s.followPartner c) = π s) :
    π (s.syncSource y) = π s := State.ite_keeps π _ _ _ _ (h _) rfl

theorem State.syncSleep_keeps {β : Type} (π : State → β) (y : SyncF) (h : π (s.sleepBegin false) = π s) :
    π (s.syncSleep y) = π s := State.ite_keeps π _ _ _ _ h rfl

theorem State.syncSleep_p (y : SyncF) (a : Nat) : (s.syncSleep y).p a = s.p a :=
  State.syncSleep_keeps (fun t => t.p a) y (State.sleepBegin_p false a)

theorem State.syncSleep_part (y : SyncF) : ∃ b, (s.syncSleep y).part = { s.part with sleep := b } := by
  unfold State.syncSleep
  split
  · exact State.sleepBegin_part false
  · exact ⟨_, rfl⟩

theorem State.syncSource_p (y : SyncF) {a : Nat} (h : a ≠ 0x0206) (h' : a ≠ 0x0203) : (s.syncSource y).p a = s.p a :=
  State.syncSource_keeps (fun t => t.p a) y (fun c => State.followPartner_p c h h')

/-- A SYNC of a state that may not follow leaves the tick's source (R63). -/
theorem State.syncSource_idle (y : SyncF) (h : s.mayFollow = false) : s.syncSource y = s := by
  unfold State.syncSource
  rw [if_neg (by rw [h, Bool.and_false]; decide)]

theorem State.syncSource_follows (y : SyncF) (h : s.mayFollow = true) (hprimary : bit y.flags 0 = true) :
    s.syncSource y = s.followPartner (y.tick + 1) := by
  unfold State.syncSource
  rw [if_pos (by rw [h, hprimary]; rfl)]

theorem State.full_kindling (h : s.sys.phase = .kindling) : s.full = false := by
  rw [State.full, h]
  rfl

theorem State.kindling_full (h : s.full = true) : (s.sys.phase == .kindling) = false := by
  cases hphase : s.sys.phase <;> simp_all [State.full]

theorem State.mayFollow_full (h : s.full = true) : s.mayFollow = false := by
  rw [State.mayFollow, State.kindling_full h]
  rfl

theorem State.ringRate_full (r : Nat) (slow : Bool) (h : s.full = true) : s.ringRate r slow = s := by
  unfold State.ringRate
  rw [State.kindling_full h]
  exact if_neg (by simp)

theorem State.ringRate_shows (r : Nat) (slow : Bool) (hphase : s.sys.phase = .kindling) (hjoined : (s.ring r).joined = true) :
    (s.ringRate r slow).pb (ringStat r) 22 = slow := by
  unfold State.ringRate
  rw [if_pos (by rw [hphase, hjoined]; rfl)]
  exact s.pb_setPb_same _ 22 slow (by decide)

/-- The ring's word shows the rate of a joined ring in Kindling (R304, R528). -/
theorem State.syncTaken_rate (y : SyncF) (hphase : s.sys.phase = .kindling)
    (hjoined : ((s.ring ring).joined || !s.sys.pll) = true) : (s.syncTaken ring y).pb (ringStat ring) 22 = bit y.flags 2 := by
  refine State.ringRate_shows ring _ ?_ ?_
  · rw [State.updRing_sys, State.mapPart_sys, State.ringHeard_sys, hphase]
  · have hring : (s.ringHeard.mapPart (fun p => { p with period := y.period })).ring ring = s.ring ring :=
      State.ring_of_flue State.ringHeard_flue ring
    rw [State.updRing_same, hring]
    exact hjoined

/-- Manager A's count at ring end B makes the ring the partner's, with that many workers (R330). -/
theorem State.enumTotal_takes (n : Nat) (hrole : s.role = 2) (hphase : s.sys.phase = .kindling) (hcal : (s.ring ring).cal = 0)
    (hn : n < 64) : (s.enumTotal ring n).pf (ringStat ring) 0 6 = n ∧ ((s.enumTotal ring n).ring ring).joined = true ∧
    (∀ a, a ≠ ringStat ring → (s.enumTotal ring n).p a = s.p a) := by
  unfold State.enumTotal
  rw [if_pos ⟨hrole, hphase, hcal⟩]
  refine ⟨?_, by rw [State.updRing_same], fun a ha => ?_⟩
  · rw [State.updRing_pf, State.pf_setPf_below _ _ _ _ _ _ _ (by decide) (by decide),
      State.pf_setPf_below _ _ _ _ _ _ _ (by decide) (by decide), State.pf_setPf_same _ _ _ _ _ (by decide)]
    exact Nat.mod_eq_of_lt hn
  · rw [State.updRing_p, State.p_setPf_other _ _ _ _ ha, State.p_setPf_other _ _ _ _ ha, State.p_setPf_other _ _ _ _ ha]

/-- What a LEASE sends leaves the flag of a handback (R527). -/
theorem State.sendLease_handback (r op : Nat) (f : Nat → Bool) : (s.sendLease r op f).part.handback = s.part.handback := by
  have hown (l : List (Nat × Nat × Nat)) (d : Nat) (b : Nat × Nat × Nat → List Byte) (t : State) :
      (t.each l (fun t e => t.sendRing (wKey r 0) d 3 (b e))).part.handback = t.part.handback :=
    State.each_keeps (fun t => t.part.handback) l (fun t e => t.sendRing (wKey r 0) d 3 (b e)) (fun _ _ => rfl) t
  have hfar (l : List (Nat × Nat × Nat)) (b : Nat × Nat × Nat → List Byte) (t : State) :
      (t.each l (fun t e => t.sendFar (wKey r 0) 3 (b e))).part.handback = t.part.handback :=
    State.each_keeps (fun t => t.part.handback) l (fun t e => t.sendFar (wKey r 0) 3 (b e)) (fun _ _ => rfl) t
  unfold State.sendLease
  dsimp only
  exact State.ite_keeps (fun t => t.part.handback) _ _ _ _ ((hfar _ _ _).trans (hown _ _ _ _)) (hown _ _ _ _)

end

end Sys2Proof.Machine

/-! The partner link: the statement. -/

namespace Sys2Proof.Machine

section
variable {s : State}

/-- A manager of role SOLO takes nothing of a partner (R12). -/
theorem gives_solo (h : s.role = 0) (f : BeatF) (seq : Nat) (l : List Nat) :
    ∀ c ∈ [Instr.beatFrame f, .partnerLinkLost 0, .partnerLinkUp, .requestResetFrame seq, .requestResyncFrame seq l,
      .partnerAckFrame 0x12 seq 0, .tickSourceTakeover, .handbackRelease], Gives c s s := by
  have htwin : s.twin = false := State.execPartner_solo h
  simp only [List.forall_mem_cons, List.not_mem_nil, false_imp_iff, implies_true, and_true]
  refine ⟨?_, ?_, ?_, ?_, ?_, ?_, ?_, ?_⟩
  · exact congrArg done (if_pos (by rw [htwin]; rfl))
  · exact congrArg done (if_pos (by rw [htwin]; rfl))
  · exact congrArg done (if_pos (by rw [htwin]; rfl))
  · exact congrArg done (if_neg (by rw [htwin]; decide))
  · exact congrArg done (if_pos (by rw [htwin]; rfl))
  · exact congrArg done (if_neg (by rw [htwin]; decide))
  · exact congrArg done (if_neg (by rw [htwin]; exact Bool.false_ne_true))
  · exact congrArg done (if_neg (by rw [htwin]; exact Bool.false_ne_true))

theorem State.beatHeard_p (f : BeatF) {a : Nat} (h : a ≠ 0x1905) : (s.beatHeard f).p a = s.p a := by
  unfold State.beatHeard
  rw [State.mapPart_p, State.p_setPb_other _ _ _ h, State.p_setPf_other _ _ _ _ h]

theorem State.beatHeard_up (f : BeatF) : (s.beatHeard f).linkUp = s.linkUp := by
  unfold State.beatHeard State.linkUp
  rw [State.mapPart_pb, State.pb_setPb_bit _ _ _ (by decide) (by decide), State.pb_setPf_apart _ _ _ _ _ (by decide) (by decide)]

theorem State.beatHeard_state (f : BeatF) (h : f.state < 4) : (s.beatHeard f).pf 0x1905 2 2 = f.state := by
  unfold State.beatHeard
  rw [State.mapPart_pf, State.pf_setPb_apart _ _ _ _ (by decide) (by decide), State.pf_setPf_same _ _ _ _ _ (by decide)]
  exact Nat.mod_eq_of_lt h

theorem State.beatHeard_config (f : BeatF) : (s.beatHeard f).pb 0x1905 4 = (f.cfgver != s.p 0x0108) := by
  unfold State.beatHeard
  rw [State.mapPart_pb, State.pb_setPb_same _ _ _ _ (by decide)]

/-- A BEAT over a link that is up (R512, R515, R534). -/
theorem State.beat_told (f : BeatF) (hup : s.linkUp = true) (hsource : f.source = false) (hstate : f.state < 4) :
    ((s.beatHeard f).beatFollow f).pf 0x1905 2 2 = f.state ∧
    ((s.beatHeard f).beatFollow f).pb 0x1905 4 = (f.cfgver != s.p 0x0108) ∧ ((s.beatHeard f).beatFollow f).linkUp = true ∧
    SameParams s ((s.beatHeard f).beatFollow f) [0x1905] := by
  have hno (h : f.source = true) : False := Bool.false_ne_true (hsource.symm.trans h)
  refine ⟨?_, ?_, ?_, fun a ha => ?_⟩
  · exact (State.beatFollow_pf f (by decide)).trans (State.beatHeard_state f hstate)
  · exact (State.beatFollow_pb f (by decide)).trans (State.beatHeard_config f)
  · rw [State.linkUp, State.beatFollow_pb f (by decide)]
    exact (State.beatHeard_up f).trans hup
  · have ha : a ≠ 0x1905 := by simpa using ha
    refine (State.beatFollow_keeps (fun t => t.p a) f (fun t => t.p_setPb_other _ _ ha) (fun h => (hno h).elim)
      (fun t => State.sleepBegin_p false a)).trans (State.beatHeard_p f ha)

/-- A BEAT that is counted leaves the link as it stands, and the partner's RESYNC that waits. -/
theorem State.beatCount_facts (f : BeatF) : (s.beatCount f).sys = s.sys ∧ (s.beatCount f).linkUp = s.linkUp ∧
    (s.beatCount f).part.asked = s.part.asked := by
  have hflag : ((s.beatHeard f).setPb 0x1905 5 true).linkUp = s.linkUp := by
    rw [State.linkUp, State.pb_setPb_bit _ _ _ (by decide) (by decide), ← State.linkUp, State.beatHeard_up]
  unfold State.beatCount
  refine ⟨State.ite_keeps State.sys _ _ _ _ rfl rfl, ?_, State.ite_keeps (fun t => t.part.asked) _ _ _ _ rfl rfl⟩
  rw [State.linkUp, State.mapPart_pb, ← State.linkUp]
  exact State.ite_keeps State.linkUp _ _ _ _ hflag (State.beatHeard_up f)

theorem State.twin_of_sys {t : State} (h : t.sys = s.sys) : t.twin = s.twin := by
  rw [State.twin, State.awake, State.role, h]
  rfl

/-- The sixteenth BEAT brings the link up (R517, R541). -/
theorem State.beat_rises (f : BeatF) (htwin : s.twin = true) (hdown : s.linkUp = false) :
    ((s.beatCount f).linkRise.beatFollow f).linkUp = true ∧
    (s.part.asked = none → ((s.beatCount f).linkRise.beatFollow f).part.resync = true) ∧
    ((s.beatCount f).linkRise.beatFollow f).holdsItem 44 0 = false := by
  obtain ⟨hsys, hlink, hasked⟩ := State.beatCount_facts (s := s) f
  generalize hu : s.beatCount f = u at hsys hlink hasked ⊢
  have htwin' : u.twin = true := (State.twin_of_sys hsys).trans htwin
  have hdown' : u.linkUp = false := hlink.trans hdown
  refine ⟨?_, fun hnone => ?_, ?_⟩
  · rw [State.linkUp, State.beatFollow_pb f (by decide)]
    exact State.linkRise_up htwin' hdown'
  · have hkeep : (u.linkRise.beatFollow f).part.resync = u.linkRise.part.resync :=
      State.beatFollow_keeps (fun t => t.part.resync) f (fun _ => rfl) (fun _ _ _ => rfl) (fun t => by
        obtain ⟨b, hpart⟩ := State.sleepBegin_part (s := t) false
        rw [hpart])
    rw [hkeep, State.linkRise_asks htwin' hdown' (hasked.trans hnone)]
    rfl
  · have hevt : (u.linkRise.beatFollow f).evt = u.linkRise.evt :=
      State.beatFollow_keeps State.evt f (fun _ => rfl) (fun _ _ _ => rfl) (fun t => by simp)
    rw [State.holdsItem, hevt]
    exact State.linkRise_ended htwin' hdown'

theorem State.begin_pb (e i : Nat) (d : List Byte) {a : Nat} (l : Nat) (h : a ≠ 0x0600 + e / 32) (h' : a ≠ 0x060C + e / 32) :
    (s.begin e i d).pb a l = s.pb a l := by rw [State.pb, s.begin_p e i d h h', State.pb]

/-- What a RESYNC that goes out leaves behind (R518, R541). -/
theorem State.sendResync_sent : ∃ b, s.sendResync.sent.part = s.sent.part ++ [(0x14, b)] := ⟨_, rfl⟩

theorem State.sendResync_part : s.sendResync.part.resync = s.part.resync ∧ s.sendResync.part.asked = s.part.asked := ⟨rfl, rfl⟩

theorem State.linkRaised_frame : s.linkRaised.out = s.out ∧ s.linkRaised.part.resync = true ∧
    s.linkRaised.part.asked = s.part.asked ∧ ∃ b, s.linkRaised.sent.part = s.sent.part ++ [(0x14, b)] := by
  unfold State.linkRaised
  dsimp only
  generalize State.partnerInsts _ = l
  obtain ⟨b, hb⟩ := State.sendResync_sent (s := (((s.setPb 0x1905 0 true).finish 44 0).mapPart (fun p =>
    { p with beats := 0, resync := true, awaits := l })))
  obtain ⟨hresync, hasked⟩ := State.sendResync_part (s := (((s.setPb 0x1905 0 true).finish 44 0).mapPart (fun p =>
    { p with beats := 0, resync := true, awaits := l })))
  refine ⟨by simp, ?_, ?_, b, ?_⟩
  · rw [hresync]
    rfl
  · rw [hasked]
    rfl
  · rw [hb]
    rfl

theorem State.linkFall_eq (cause : Nat) (htwin : s.twin = true) (hup : s.linkUp = true) : s.linkFall cause =
    (((((s.mapPart (fun p => { p with beats := 0, kindUs := 0, asked := none })).setPb 0x1905 0 false).setPb 0x1906 0 false).incPf
      0x1908 0 8).begin 44 0 (le 1 cause)) := by
  unfold State.linkFall
  rw [if_neg (by rw [htwin]; decide)]
  exact if_pos hup

/-- The link is declared lost (R516). -/
theorem State.linkFall_falls (cause : Nat) (htwin : s.twin = true) (hup : s.linkUp = true) :
    (s.linkFall cause).linkUp = false ∧ (s.linkFall cause).pb 0x1906 0 = false ∧ (s.linkFall cause).holds 44 = true ∧
    (s.linkFall cause).pf 0x1908 0 8 = Nat.min (s.pf 0x1908 0 8 + 1) 255 ∧ (s.linkFall cause).part.unacked = s.part.unacked := by
  rw [State.linkFall_eq cause htwin hup]
  refine ⟨?_, ?_, State.begin_holds _ 44 0 _, ?_, ?_⟩
  · rw [State.linkUp, State.begin_pb _ _ _ _ (by decide) (by decide), State.incPf, State.pb_setPf_other _ _ _ _ _ (by decide),
      State.pb_setPb_other _ _ _ _ (by decide), State.pb_setPb_same _ _ _ _ (by decide)]
  · rw [State.begin_pb _ _ _ _ (by decide) (by decide), State.incPf, State.pb_setPf_other _ _ _ _ _ (by decide),
      State.pb_setPb_same _ _ _ _ (by decide)]
  · rw [State.begin_pf _ _ _ _ _ _ (by decide) (by decide), State.pf_incPf _ _ _ _ (by decide)]
    rw [State.pf_setPb_other _ _ _ _ _ (by decide), State.pf_setPb_other _ _ _ _ _ (by decide), State.mapPart_pf]
    rfl
  · rw [(State.begin_frame _ _ _ _).2.2.2.2.2.2.2.2.2.1]
    rfl

/-- Taking the tick's source over (R62). -/
theorem State.takeover_takes : ∀ t : State, (((t.raise 1 []).setP 0x0206 0).setPb 0x0203 0 true).p 0x0206 = 0 ∧
    (((t.raise 1 []).setP 0x0206 0).setPb 0x0203 0 true).pb 0x0203 0 = true ∧
    (t.evOn 1 = true → (((t.raise 1 []).setP 0x0206 0).setPb 0x0203 0 true).latched 1 = true) := by
  refine fun t => ⟨?_, State.pb_setPb_same _ _ _ _ (by decide), fun hon => ?_⟩
  · rw [State.p_setPb_other _ _ _ (by decide), State.p_setP_same]
    rfl
  · rw [State.latched, State.pb_setPb_other _ _ _ _ (by decide), State.pb, State.p_setP_other _ _ (by decide)]
    exact t.raise_latched [] hon

theorem State.instances_of_p {t : State} (h : ∀ n < 8, t.p (0x1800 + n) = s.p (0x1800 + n)) : t.instances = s.instances :=
  List.filter_congr (fun n hn => congrArg (fun v => bit v 31) (h n (List.mem_range.mp hn)))

/-- The partner's RESYNC that waited is answered when the link comes up (R541). -/
theorem State.linkRise_answers (l : List Nat) (htwin : s.twin = true) (hdown : s.linkUp = false) (hasked : s.part.asked = some l)
    (hinsts : s.instances = []) : s.linkRise =
      (s.linkRaised.mapPart (fun p => { p with resync := false, asked := none })).partSettle := by
  have hnone : s.linkRaised.instances = [] :=
    (State.instances_of_p (fun n hn => State.linkRaised_p (by omega))).trans hinsts
  rw [State.linkRise_eq htwin hdown, hasked]
  exact State.resyncAnswer_bare l hnone

theorem State.partSettle_part : s.partSettle.part = s.part := by simp

/-- A SYNC of the partner (R63, R67, R304, R346, R528). -/
theorem State.sync_keeps (ring : Nat) (f : SyncF) : ∃ u, u = ((s.syncTaken ring f).syncSource f).syncSleep f ∧
    u.part.heard = true ∧ u.ring ring = { s.ring ring with slow := bit f.flags 2, joined := (s.ring ring).joined || !s.sys.pll } ∧
    u.part.period = f.period ∧ SameParams s u [0x1905, 0x0203, 0x0206, ringStat ring] := by
  obtain ⟨b, hsleep⟩ := State.syncSleep_part (s := (s.syncTaken ring f).syncSource f) f
  have hflue : (((s.syncTaken ring f).syncSource f).syncSleep f).flue = (s.syncTaken ring f).flue :=
    (State.syncSleep_keeps State.flue f (by simp)).trans (State.syncSource_keeps State.flue f (fun _ => by simp))
  have hheard : ((s.syncTaken ring f).syncSource f).part.heard = (s.syncTaken ring f).part.heard :=
    State.syncSource_keeps (fun t => t.part.heard) f (fun _ => by rw [State.followPartner_part])
  have hperiod : ((s.syncTaken ring f).syncSource f).part.period = (s.syncTaken ring f).part.period :=
    State.syncSource_keeps (fun t => t.part.period) f (fun _ => by rw [State.followPartner_part])
  refine ⟨_, rfl, ?_, (State.ring_of_flue hflue ring).trans (State.syncTaken_ring f), ?_, fun a ha => ?_⟩
  · rw [hsleep]
    exact hheard.trans (congrArg Part.heard (State.syncTaken_part f))
  · rw [hsleep]
    exact hperiod.trans (congrArg Part.period (State.syncTaken_part f))
  · have ha : a ≠ 0x1905 ∧ a ≠ 0x0203 ∧ a ≠ 0x0206 ∧ a ≠ ringStat ring := by simpa using ha
    exact (State.syncSleep_p f a).trans ((State.syncSource_p f ha.2.2.1 ha.2.1).trans (State.syncTaken_p f ha.1 ha.2.2.2))

/-- In Lit and Doused a SYNC changes nothing of the tick's source and of the ring's word (R63, R304). -/
theorem State.sync_full (ring : Nat) (f : SyncF) (hfull : s.full = true) :
    SameParams s (((s.syncTaken ring f).syncSource f).syncSleep f) [0x1905] := by
  intro a ha
  have hfull' : (s.syncTaken ring f).full = true := (State.full_of_sys (State.syncTaken_sys f)).trans hfull
  rw [State.syncSource_idle f (State.mayFollow_full hfull'), State.syncSleep_p, State.syncTaken, State.ringRate_full]
  case h => exact (State.full_of_sys State.ringHeard_sys).trans hfull
  exact State.ringHeard_p (by simpa using ha)

theorem State.syncSource_sys (f : SyncF) : (s.syncSource f).sys = s.sys :=
  State.syncSource_keeps State.sys f (fun _ => by simp)

/-- A PRIMARY SYNC with BANK begins sleep entry in Lit or Doused (R67). -/
theorem State.sync_sleeps (ring : Nat) (f : SyncF) (hfull : s.full = true) (hprimary : bit f.flags 0 = true) (hbank : bit f.flags 1 = true) :
    (((s.syncTaken ring f).syncSource f).syncSleep f).sys.sleeping ≠ 0 := by
  unfold State.syncSleep
  rw [if_pos (by rw [hprimary, hbank]; rfl)]
  exact State.sleepBegin_begins false ((State.full_of_sys (State.syncSource_sys f)).trans ((State.full_of_sys (State.syncTaken_sys f)).trans hfull))

theorem State.syncSleep_kindling (f : SyncF) (h : s.sys.phase = .kindling) : s.syncSleep f = s :=
  State.ite_keeps id _ _ _ _ (State.sleepBegin_idle false (State.full_kindling h)) rfl

end

/-- Settles O48, frame by frame. -/
theorem partnerLink : Obligations.PartnerLink := by
  unfold Obligations.PartnerLink
  refine ⟨fun s f seq l h => gives_solo h f seq l, fun s f htwin hup hsource hstate => ?_, fun s f htwin hdown hbeats => ?_,
    fun s cause htwin hup => ?_, fun s htwin hdown hasked => ?_, fun s l htwin hdown hasked hinsts => ?_, fun s seq htwin => ?_,
    fun s seq l htwin hinsts => ?_, fun s typ seq st htwin => ?_, fun s htwin hsource => ?_,
    fun s c htwin hsource hpll hahead => ?_, fun s c b htwin hbehind => ?_, fun s htwin hdue => ?_,
    fun s ring f htwin hon => ?_, fun s ring f htwin hon => ?_, fun s ring n htwin hrole hon hphase hcal hn => ?_,
    fun s ring f htwin hon => ?_⟩
  · obtain ⟨hstat, hconfig, hlink, hsame⟩ := State.beat_told f hup hsource hstate
    refine ⟨_, execBeatFrame_up f htwin hup, hstat, hconfig, hlink, fun hsleep hfull => State.beatFollow_sleeps f hsleep hfull,
      fun h => State.beatFollow_sys f h, hsame, ?_, ?_⟩
    · exact State.beatFollow_keeps State.out f (fun _ => rfl) (fun _ _ _ => rfl) (fun t => by simp)
    · exact State.beatFollow_keeps State.nvm f (fun _ => rfl) (fun _ _ _ => rfl) (fun t => by simp)
  · exact ⟨_, execBeatFrame_rises f htwin hdown hbeats, State.beat_rises f htwin hdown⟩
  · obtain ⟨hlink, hsync, hholds, hcount, hunacked⟩ := State.linkFall_falls cause htwin hup
    exact ⟨_, rfl, hlink, hsync, hholds, hcount, hunacked, by simp, by simp⟩
  · obtain ⟨hout, hresync, -, hsent⟩ := State.linkRaised_frame (s := s)
    exact ⟨_, congrArg done (State.linkRise_asks htwin hdown hasked), State.linkRaised_up, State.linkRaised_ended, hresync, hsent,
      fun a ha => State.linkRaised_p (by simpa using ha), hout⟩
  · have hrise := State.linkRise_answers l htwin hdown hasked hinsts
    have hp (a : Nat) (ha : a ≠ 0x1906) : s.linkRise.p a = s.linkRaised.p a := by rw [hrise, State.partSettle_p ha, State.mapPart_p]
    refine ⟨_, rfl, State.linkRise_up htwin hdown, State.linkRise_ended htwin hdown, ?_, ?_, fun a ha => ?_, by simp⟩
    · rw [hrise, State.partSettle_part]
      rfl
    · rw [hrise, State.partSettle_part]
      rfl
    · have ha : a ≠ 0x1905 ∧ a ≠ 0x1906 := by simpa using ha
      exact (hp a ha.2).trans (State.linkRaised_p ha.1)
  · refine ⟨_, congrArg done (if_pos htwin), mem_insNat _ _, rfl, rfl⟩
  · have hinsts' : (s.partAck 0x14 seq 0).instances = [] := hinsts
    by_cases hup : s.linkUp = true
    · refine ⟨_, congrArg done ((if_neg (by rw [htwin]; decide)).trans ((if_pos hup).trans (State.resyncAnswer_bare l hinsts'))), ?_,
        fun _ => ?_, fun h => absurd (hup.symm.trans h) (by decide), ?_⟩
      · exact fun a ha => State.partSettle_p (by simpa using ha)
      · rw [State.partSettle_part]
        rfl
      · rw [(State.partSettle_frame _).2.2.2.2.2.2.2.2.2.2.2.2.2.2.2.2.2.1]
        rfl
    · exact ⟨_, congrArg done ((if_neg (by rw [htwin]; decide)).trans (if_neg hup)), fun _ _ => rfl, fun h => absurd h hup, fun _ => rfl, rfl⟩
  · refine ⟨_, congrArg done (if_pos htwin), fun f => ?_, State.partSettle_same, by simp⟩
    rw [(State.partSettle_frame _).2.2.2.2.2.2.2.2.2.2.2.2.1, State.mapPart_part, List.mem_filter]
    simp [imp_iff_not_or]
  · obtain ⟨hfollow, hcal, hlatch⟩ := s.takeover_takes
    refine ⟨_, congrArg done (if_pos (by rw [htwin]; simpa using hsource)), hfollow, hcal, rfl, hlatch, ?_, ?_, ?_⟩
    · simp
    · simp
    · simp
  · have hcond : (s.twin && s.pf 0x0206 0 2 == 0 && s.sys.pll && (decide (s.tick < c) || (s.tick == c && s.role == 2))) = true := by
      rw [htwin, hsource, hpll]
      simpa using hahead
    refine ⟨⟨_, congrArg done ((if_pos hcond).trans (if_pos rfl)), rfl, State.followPartner_source _, State.followPartner_follower _,
      fun a ha => ?_⟩, congrArg done ((if_pos hcond).trans (if_neg (by decide)))⟩
    have ha : a ≠ 0x0203 ∧ a ≠ 0x0206 := by simpa using ha
    exact State.followPartner_p _ ha.2 ha.1
  · refine congrArg done (if_neg ?_)
    have hno : (decide (s.tick < c) || (s.tick == c && s.role == 2)) = false := by simp; omega
    rw [hno, Bool.and_false]
    decide
  · have hstart : (s.mapPart (fun p => { p with handback := true })).part.handback = true := rfl
    refine ⟨_, congrArg done (if_pos (by rw [htwin, hdue]; rfl)), ?_, ?_, ?_, ?_⟩
    · exact (State.each_keeps (fun t => t.part.handback) _ _ (fun t r => State.sendLease_handback r 3 _) _).trans hstart
    · exact State.each_keeps State.params _ _ (fun t r => by simp) _
    · exact State.each_keeps State.out _ _ (fun t r => by simp) _
    · exact State.each_keeps State.nvm _ _ (fun t r => by simp) _
  · exact ⟨_, execPartnerRingFrame_heard (.lease f) htwin hon, by rw [State.ringHeard_part], fun a ha => State.ringHeard_p (by simpa using ha)⟩
  · exact execPartnerRingFrame_bad f htwin hon
  · have hrole' : s.ringHeard.role = 2 := by rw [State.role, State.ringHeard_sys, ← State.role, hrole]
    have hphase' : s.ringHeard.sys.phase = .kindling := by rw [State.ringHeard_sys, hphase]
    have hcal' : (s.ringHeard.ring ring).cal = 0 := by rw [State.ring_of_flue State.ringHeard_flue, hcal]
    obtain ⟨hcount, hjoined, hsame⟩ := State.enumTotal_takes n hrole' hphase' hcal' hn
    refine ⟨_, execPartnerRingFrame_heard (.enum n) htwin hon, hcount, hjoined, fun a ha => ?_⟩
    have ha : a ≠ 0x1905 ∧ a ≠ ringStat ring := by simpa using ha
    exact (hsame a ha.2).trans (State.ringHeard_p ha.1)
  · obtain ⟨u, hu, hheard, hring, hperiod, hsame⟩ := s.sync_keeps ring f
    refine ⟨u, by rw [hu]; exact execPartnerRingFrame_heard (.sync f) htwin hon, hheard, by rw [hring], by rw [hring], hperiod, hsame,
      fun hfull => by rw [hu]; exact State.sync_full ring f hfull, fun hfull hprimary hbank => ?_, fun hphase => ?_,
      fun hphase haligned htook hprimary => ?_, fun hphase hjoined => ?_⟩
    · rw [hu]
      exact State.sync_sleeps ring f hfull hprimary hbank
    · have hphase' : ((s.syncTaken ring f).syncSource f).sys.phase = .kindling := by rw [State.syncSource_sys, State.syncTaken_sys, hphase]
      rw [hu, State.syncSleep_kindling f hphase', State.syncSource_sys, State.syncTaken_sys]
    · have hmay : (s.syncTaken ring f).mayFollow = true := by
        rw [State.mayFollow, State.syncTaken_sys, State.syncTaken_part, hphase, haligned, htook]
        rfl
      have hphase' : ((s.syncTaken ring f).syncSource f).sys.phase = .kindling := by rw [State.syncSource_sys, State.syncTaken_sys, hphase]
      rw [hu, State.syncSleep_kindling f hphase', State.syncSource_follows f hmay hprimary, State.followPartner_part]
      exact ⟨rfl, State.followPartner_source _, State.followPartner_follower _⟩
    · have hring4 : ring < 4 := of_decide_eq_true (Bool.and_eq_true_iff.mp hon).1
      rw [hring] at hjoined
      rw [hu, State.pb, State.syncSleep_p, State.syncSource_p f (by unfold ringStat; omega) (by unfold ringStat; omega)]
      exact State.syncTaken_rate f hphase hjoined

end Sys2Proof.Machine

/-! What the partner's LEDGSYNC and RELAY frames carry (R485, R506, R518, R532, R533, R538, R539). -/

namespace Sys2Proof.Machine

section
variable {s : State} {n : Nat}

theorem State.partAck_pf (typ seq status a l w : Nat) : (s.partAck typ seq status).pf a l w = s.pf a l w := rfl

theorem State.partAck_pb (typ seq status a l : Nat) : (s.partAck typ seq status).pb a l = s.pb a l := rfl

theorem State.partAck_inst (typ seq status m : Nat) : (s.partAck typ seq status).inst m = s.inst m := rfl

/-- An ACK leaves under the link's next SEQ (R518). -/
theorem State.partAck_sent (typ seq status : Nat) : (s.partAck typ seq status).sent.part =
    s.sent.part ++ [(0x15, le 1 s.part.seq ++ (le 1 typ ++ le 1 seq ++ le 2 status))] := rfl

/-- An event leaves the turfs of an `Inst` (R486). -/
theorem State.raise_turfs (e : Nat) (d : List Byte) : ((s.raise e d).inst n).turfs = (s.inst n).turfs :=
  s.raise_inst Inst.turfs (fun _ _ _ _ => rfl) e d n

/-- A turf of the partner's stands in its journal slot (R539). -/
theorem State.takeTurf_inst (t : Turf) : Tbl.find ((s.takeTurf n t).inst n).turfs (t.index % 1024) = some t ∧
    ((s.takeTurf n t).inst n).newest = Nat.max (s.inst n).newest t.index ∧ ((s.takeTurf n t).inst n).any = true := by
  have hinst (u : State) (lo len : Nat) : (u.mramFresh lo len).inst n = u.inst n := rfl
  unfold State.takeTurf
  rw [hinst, State.updInst_same]
  exact ⟨Tbl.find_set_same _ _ _, rfl, rfl⟩

theorem execLedgsyncFrame_eq (seq : Nat) (b : LedgSyncBody) (htwin : s.twin = true) (hn : n < 8) : execLedgsyncFrame seq n b s =
    done (match b with
      | .turf t => State.partAck (match (Tbl.find (s.inst n).turfs (t.index % 1024)).filter (fun u => u.index == t.index) with
          | some u => if u = t then s else (s.incPf 0x1906 8 8).raise 59 (le 1 n ++ le 1 2 ++ le 4 t.index)
          | none => s.takeTurf n t) 0x12 seq 0
      | .ackLevel index => (s.ackTurfs n index).2.partAck 0x12 seq (s.ackTurfs n index).1
      | .binding b => (((s.takeBinding n b).mapPart (fun p => { p with awaits := p.awaits.filter (· != n) })).partAck 0x12 seq 0).partSettle
      | .time rtc => (s.setTime rtc).partAck 0x12 seq 0) := by
  unfold execLedgsyncFrame
  rw [if_neg (by rw [htwin]; decide), Nat.mod_eq_of_lt hn] <;> rfl

/-- The binding's holders and its SEALED state show (R540). -/
theorem State.takeBinding_takes (b : Binding) : ((s.takeBinding n b).inst n).bind = b ∧
    (s.takeBinding n b).pf (instStat n) 16 5 = b.holders.length % 32 ∧
    (b.isSealed = true → s.instState n = 2 → (s.takeBinding n b).instState n = 5) ∧
    (b.isSealed = false → s.instState n = 5 → (s.takeBinding n b).instState n = 2) := by
  obtain ⟨t, ht⟩ : ∃ t, t = (s.updInst n (fun i => { i with bind := b })).setPf (instStat n) 16 5 b.holders.length := ⟨_, rfl⟩
  have hinst : (t.inst n).bind = b := by
    rw [ht, State.inst, State.setPf_insts, ← State.inst, State.updInst_same]
  have hcount : t.pf (instStat n) 16 5 = b.holders.length % 32 := by
    rw [ht]
    exact State.pf_setPf_same _ _ _ _ _ (by decide)
  have hset (v : Nat) (hv : v < 8) : ((t.setPf (instStat n) 0 3 v).inst n).bind = b ∧
      (t.setPf (instStat n) 0 3 v).pf (instStat n) 16 5 = b.holders.length % 32 ∧ (t.setPf (instStat n) 0 3 v).instState n = v := by
    refine ⟨by rw [State.inst, State.setPf_insts, ← State.inst, hinst], ?_, ?_⟩
    · rw [State.pf_setPf_above _ _ _ _ _ _ _ (by decide) (by decide), hcount]
    · exact (State.pf_setPf_same _ _ _ _ _ (by decide)).trans (Nat.mod_eq_of_lt hv)
  have htaken : s.takeBinding n b = if b.isSealed && s.instState n == 2 then t.setPf (instStat n) 0 3 5
      else if !b.isSealed && s.instState n == 5 then t.setPf (instStat n) 0 3 2 else t := by rw [ht]; rfl
  rw [htaken]
  by_cases hseal : (b.isSealed && s.instState n == 2) = true
  · rw [if_pos hseal]
    obtain ⟨hb, hc, hstate⟩ := hset 5 (by decide)
    have hsealed : b.isSealed = true := (Bool.and_eq_true_iff.mp hseal).1
    exact ⟨hb, hc, fun _ _ => hstate, fun h => absurd (h.symm.trans hsealed) (by decide)⟩
  · rw [if_neg hseal]
    by_cases hopen : (!b.isSealed && s.instState n == 5) = true
    · rw [if_pos hopen]
      obtain ⟨hb, hc, hstate⟩ := hset 2 (by decide)
      have hunsealed : b.isSealed = false := Bool.not_eq_true' _ ▸ (Bool.and_eq_true_iff.mp hopen).1
      exact ⟨hb, hc, fun h => absurd (h.symm.trans hunsealed) (by decide), fun _ _ => hstate⟩
    · rw [if_neg hopen]
      refine ⟨hinst, hcount, fun h1 h2 => absurd ?_ hseal, fun h1 h2 => absurd ?_ hopen⟩
      · rw [h1, h2]
        rfl
      · rw [h1, h2]
        rfl

/-- What TURF_ACK's level makes of an `Inst` (R485). -/
theorem State.ackTurfs_level (idx : Nat) (hany : (s.inst n).any = true) (hack : (s.inst n).ackAny = true ∨ (s.inst n).acked = 0) :
    (s.ackTurfs n idx).1 = (if idx ≤ (s.inst n).newest then 0 else 0x0103) ∧
    (s.ackTurfs n idx).2.params = s.params ∧ (s.ackTurfs n idx).2.part = s.part ∧ (s.ackTurfs n idx).2.sent = s.sent ∧
    (idx ≤ (s.inst n).newest → ((s.ackTurfs n idx).2.inst n).ackAny = true) ∧
    ((s.ackTurfs n idx).2.inst n).acked = (if idx ≤ (s.inst n).newest then Nat.max idx (s.inst n).acked else (s.inst n).acked) := by
  unfold State.ackTurfs
  dsimp only
  by_cases hnew : idx ≤ (s.inst n).newest
  · rw [if_neg (by rw [hany]; simpa using hnew), if_pos hnew, if_pos hnew]
    by_cases hold : idx ≤ (s.inst n).acked ∧ (s.inst n).ackAny = true
    · rw [if_pos hold]
      exact ⟨rfl, rfl, rfl, rfl, fun _ => hold.2, (Nat.max_eq_right hold.1).symm⟩
    · rw [if_neg hold]
      have hmax : Nat.max idx (s.inst n).acked = idx := by
        rcases hack with hack | hack
        · exact Nat.max_eq_left (by by_contra hlt; exact hold ⟨by omega, hack⟩)
        · rw [hack]
          exact Nat.max_eq_left (Nat.zero_le idx)
      refine ⟨rfl, rfl, rfl, rfl, fun _ => ?_, ?_⟩
      · rw [State.updInst_same]
      · rw [State.updInst_same, hmax]
  · rw [if_pos (by rw [hany]; simpa using hnew), if_neg hnew, if_neg hnew]
    exact ⟨rfl, rfl, rfl, rfl, fun h => absurd h hnew, rfl⟩

theorem execLedgsyncFrame_time (seq k rtc : Nat) (htwin : s.twin = true) :
    execLedgsyncFrame seq k (.time rtc) s = done ((s.setTime rtc).partAck 0x12 seq 0) := by
  unfold execLedgsyncFrame
  rw [if_neg (by rw [htwin]; decide)]

/-- The body of a frame that the partner relays (R532). -/
def relayBody (l : List Byte) : List Byte := (l.drop 8).take (leAt l 4 2)

/-- A relayed frame by its kind (R312, R532, R533). -/
def State.relayed (s : State) (r : Nat) (l : List Byte) : State :=
  if leAt l 0 1 = 7 then s.takeResult ⟨r, 0, leAt l 1 1, true,
    resultOf (s.view (wKey r (leAt l 1 1))).meter (relayBody l), (s.view (wKey r (leAt l 1 1))).serial⟩
  else if leAt l 0 1 = 6 then s.takeAck r (leAt l 1 1) (leAt (relayBody l) 0 1) (leAt (relayBody l) 1 1) (leAt (relayBody l) 2 2)
    (BitVec.ofNat 32 (leAt (relayBody l) 4 4))
  else if leAt l 0 1 = 9 then s.takeAlarm r (leAt l 1 1) (leAt (relayBody l) 0 1) (leAt (relayBody l) 1 1) (leAt (relayBody l) 2 2)
    (leAt (relayBody l) 4 6)
  else s

theorem execRelayFrame_eq {r : Nat} {l : List Byte} (htwin : s.twin = true) (hr : r < 4) (hlen : 12 ≤ l.length) :
    execRelayFrame ⟨r, l⟩ s = done (
      if leAt l 0 1 ≤ 5 then s.mapSent (fun t => { t with ring := t.ring ++
        [⟨r, if s.role = 2 then 1 else 0, leAt l 1 1, leAt l 0 1, leAt l 2 1, leAt l 3 1, relayBody l⟩] })
      else if crc32c (l.take (l.length - 4)) ≠ leAt l (l.length - 4) 4 then s.incPf (0x1008 + r) 0 16
      else s.relayed r l) := by
  have hgate : ¬(!s.twin || decide (4 ≤ r) || decide (l.length < 12)) = true := by
    rw [htwin]
    simp [hr, hlen]
  exact congrArg done (if_neg hgate)

end

/-- Settles O49, body by body. -/
theorem partnerCarries : Obligations.PartnerCarries := by
  unfold Obligations.PartnerCarries
  refine ⟨fun s seq n b hsolo => ?_, fun s seq n t htwin hn hfree => ?_, fun s seq n t x htwin hn hfind hindex hne => ?_,
    fun s seq n idx htwin hn hany hack => ?_, fun s seq n b htwin hn => ?_, fun s seq n rtc htwin => ?_,
    fun s r l htwin hr hlen htyp => ?_, fun s r l htwin hr hlen htyp hcrc => ?_, fun s r l htwin hr hlen htyp hcrc => ?_⟩
  · exact congrArg done (if_pos (by rw [State.execPartner_solo hsolo]; rfl))
  · have hgives : execLedgsyncFrame seq n (.turf t) s = done ((s.takeTurf n t).partAck 0x12 seq 0) := by
      rw [execLedgsyncFrame_eq seq _ htwin hn]
      dsimp only
      rw [hfree]
      rfl
    obtain ⟨hslot, hnewest, hany⟩ := State.takeTurf_inst (s := s) (n := n) t
    obtain ⟨-, -, -, -, hparams, -, -, -, -, -, -, hpart, -, -, -, -, hsent, -⟩ := s.takeTurf_frame n t
    refine ⟨_, hgives, ?_, ?_, ?_, ?_, ?_⟩
    · rw [State.partAck_inst, hslot]
    · rw [State.partAck_inst, hnewest]
    · rw [State.partAck_inst, hany]
    · rw [((s.takeTurf n t).partAck_frame 0x12 seq 0).2.2.2.2.2.1, hparams]
    · rw [State.partAck_sent, hsent, hpart]
  · have hgives : execLedgsyncFrame seq n (.turf t) s =
        done (((s.incPf 0x1906 8 8).raise 59 (le 1 n ++ le 1 2 ++ le 4 t.index)).partAck 0x12 seq 0) := by
      rw [execLedgsyncFrame_eq seq _ htwin hn]
      dsimp only
      rw [hfind, Option.filter_some, if_pos (by simpa using hindex)]
      dsimp only
      rw [if_neg hne]
    refine ⟨_, hgives, ?_, ?_, ?_⟩
    · rw [State.partAck_inst, State.raise_turfs, State.inst, State.incPf_insts, ← State.inst]
    · rw [State.latched, State.partAck_pb, ← State.latched]
      exact State.raise_latched _ _ (Bool.or_eq_true_iff.mpr (Or.inl rfl))
    · rw [State.partAck_pf, State.raise_pf _ _ _ _ _ (by decide) (by decide), State.pf_incPf _ _ _ _ (by decide)]
      exact congrArg (Nat.min _) (by decide)
  · have hgives := execLedgsyncFrame_eq seq (.ackLevel idx) htwin hn
    obtain ⟨hstatus, hparams, hpart, hsent, hackAny, hacked⟩ := State.ackTurfs_level (s := s) idx hany hack
    refine ⟨_, hgives, hparams, hackAny, hacked, ?_⟩
    dsimp only
    rw [hstatus, State.partAck_sent, hsent, hpart]
  · obtain ⟨hbind, hholders, hseal, hopen⟩ := State.takeBinding_takes (s := s) (n := n) b
    generalize hu : s.takeBinding n b = u at hbind hholders hseal hopen
    obtain ⟨t, ht⟩ : ∃ t : State, t = (u.mapPart (fun p => { p with awaits := p.awaits.filter (· != n) })).partAck 0x12 seq 0 := ⟨_, rfl⟩
    have hgives : execLedgsyncFrame seq n (.binding b) s = done t.partSettle := by
      rw [execLedgsyncFrame_eq seq (.binding b) htwin hn, ht, ← hu]
    have hinst : t.inst n = u.inst n := by rw [ht]; rfl
    have hstat : t.partSettle.p (instStat n) = u.p (instStat n) := by
      rw [State.partSettle_p (by unfold instStat; omega), ht]
      rfl
    have hawaits : n ∉ t.part.awaits := by
      have hfilter : t.part.awaits = u.part.awaits.filter (· != n) := by rw [ht]; rfl
      rw [hfilter, List.mem_filter]
      simp
    have hnvm : u.nvm = s.nvm := by rw [← hu]; simp
    refine ⟨_, hgives, ?_, ?_, ?_, ?_, ?_, ?_⟩
    · rw [State.inst, (State.partSettle_frame t).2.2.2.2.2.2.2.2.2.2.2.1, ← State.inst, hinst, hbind]
    · rw [State.pf, hstat]
      exact hholders
    · rw [State.partSettle_part]
      exact hawaits
    · exact fun hsealed hrun => (congrArg (fun v => fld v 0 3) hstat).trans (hseal hsealed hrun)
    · exact fun hunsealed hrun => (congrArg (fun v => fld v 0 3) hstat).trans (hopen hunsealed hrun)
    · rw [(State.partSettle_frame t).2.2.2.2.1, ht, ← hnvm]
      rfl
  · obtain ⟨hrtc, hus, hbit, hout⟩ := State.setTime_sets (s := s) rtc
    obtain ⟨-, -, -, hisland, hnvm, hparams, -, -, -, -, hout', -⟩ := (s.setTime rtc).partAck_frame 0x12 seq 0
    refine ⟨_, execLedgsyncFrame_time seq n rtc htwin, ?_, ?_, hout'.trans hout, hnvm.trans (s.setTime_frame rtc).2.2.2.1⟩
    · rw [hisland, hrtc]
    · rw [State.pb_of_params hparams, hbit]
  · exact (execRelayFrame_eq htwin hr hlen).trans (congrArg done (if_pos htyp))
  · exact (execRelayFrame_eq htwin hr hlen).trans (congrArg done ((if_neg (by omega)).trans (if_pos hcrc)))
  · have halarm : s.relayed r l = s.takeAlarm r (leAt l 1 1) (leAt (relayBody l) 0 1) (leAt (relayBody l) 1 1)
        (leAt (relayBody l) 2 2) (leAt (relayBody l) 4 6) := by
      unfold State.relayed
      rw [if_neg (by omega), if_neg (by omega), if_pos htyp]
    have hrelay : execRelayFrame ⟨r, l⟩ s = done (s.relayed r l) := by
      rw [execRelayFrame_eq htwin hr hlen, if_neg (by omega), if_neg (not_not_intro hcrc)]
    exact hrelay.trans (congrArg done halarm)

end Sys2Proof.Machine

/-! Keep-alive frames and timers (R710 to R712, R714 to R717, R734). -/

namespace Sys2Proof.Machine

section
variable {s : State}

/-- The frame that KEEPALIVE_SEND puts on its controller (R710, R711). -/
def State.kaFrame (s : State) : Nat × List Byte :=
  (16 + s.kaCtrl, le 4 (s.kaIdent s.kaCtrl (s.pf 0x3000 3 6)) ++ le 1 (s.pf 0x3000 3 6) ++
    le 1 (b2n (s.localNeed && !s.net.ready) + 2 * (1 - b2n (s.localNeed && !s.net.ready))) ++ le 4 (s.p 0x3008) ++ le 2 (s.p 0x3009))

theorem execKeepaliveSend_due (hfull : s.full = true) (hon : s.pb 0x3000 0 = true) (hrun : s.net.stopped = false)
    (hctrl : s.pb (0x3010 + 2 * s.kaCtrl) 0 = true) (hbus : s.busOff s.kaCtrl = false)
    (hdue : (s.net.kaDue || s.dueIn s.net.kaUs (s.pf 0x3002 0 11)) = true) :
    execKeepaliveSend s = done ((s.mapSent (fun t => { t with raw := t.raw ++ [s.kaFrame] })).mapNet
      (fun n => { n with kaUs := 0, kaDue := false })) := by
  refine congrArg done (if_pos ?_)
  rw [hfull, hon, hrun, hctrl, hbus, hdue]
  rfl

theorem execKeepaliveSend_early (hdue : (s.net.kaDue || s.dueIn s.net.kaUs (s.pf 0x3002 0 11)) = false) :
    execKeepaliveSend s = done s := by
  refine congrArg done (if_neg ?_)
  rw [hdue, Bool.and_false]
  exact Bool.false_ne_true

theorem State.dueIn_eq (us ms : Nat) : s.dueIn us ms = decide (1000 * ms < us + s.tUs) := rfl

theorem State.kaFrame_eq : s.kaFrame = (16 + s.kaCtrl,
    le 4 (if s.pf (0x3010 + 2 * s.kaCtrl) 4 3 = 0 then setFld (s.p 0x3001 + s.pf 0x3000 3 6) 30 1 0 else s.p 0x3001 + s.pf 0x3000 3 6) ++
      le 1 (s.pf 0x3000 3 6) ++ le 1 (if s.localNeed = true ∧ s.net.ready = false then 1 else 2) ++ le 4 (s.p 0x3008) ++ le 2 (s.p 0x3009)) := by
  have hneed : b2n (s.localNeed && !s.net.ready) + 2 * (1 - b2n (s.localNeed && !s.net.ready)) =
      if s.localNeed = true ∧ s.net.ready = false then 1 else 2 := by
    cases s.localNeed <;> cases s.net.ready <;> rfl
  rw [State.kaFrame, hneed]
  rfl

/-- Ending a preparation changes AGREED and the preparation alone (R715). -/
theorem State.kaCancel_ends {t : Nat} (h : s.net.prep = some t) :
    s.kaCancel = (s.setPb 0x300A 1 false).mapNet (fun n => { n with prep := none }) := if_pos (by rw [h]; rfl)

theorem State.kaCancel_idle (h : s.net.prep = none) : s.kaCancel = s := if_neg (by rw [h]; exact Bool.false_ne_true)

theorem State.kaCancel_facts : s.kaCancel.net = { s.net with prep := none } ∧
    SameParams s s.kaCancel [0x300A] ∧ (s.net.prep.isSome = true → s.kaCancel.pb 0x300A 1 = false) ∧
    s.kaCancel = { s with net := s.kaCancel.net, params := s.kaCancel.params } := by
  cases hprep : s.net.prep with
  | none =>
    rw [State.kaCancel_idle hprep]
    refine ⟨by rw [← hprep], fun _ _ => rfl, fun h => absurd h Bool.false_ne_true, rfl⟩
  | some t =>
    rw [State.kaCancel_ends hprep]
    refine ⟨rfl, fun a ha => ?_, fun _ => ?_, rfl⟩
    · exact s.p_setPb_other _ _ (by simpa using ha)
    · exact s.pb_setPb_same _ _ _ (by decide)

/-- What a node's frame is held as, and what its NEED restarts (R712, R713, R717). -/
def State.kaHeard (s : State) (node : Nat) (data : List Byte) : State :=
  s.mapNet (fun n => { n with
    ka := Tbl.put KaNode.d n.ka node ⟨bit (leAt data 1 1) 0, bit (leAt data 1 1) 1, leAt data 2 1, 0⟩
    seen := if bit (leAt data 1 1) 0 && s.kaRuns then setFld n.seen node 1 1 else n.seen
    silentUs := if bit (leAt data 1 1) 0 then 0 else n.silentUs })

/-- The identifier word of a node's frame: 29 bits of identifier, and bit 31 for one of 29 bits (R694, R710). -/
theorem kaIdent_parts {k m : Nat} (hk : k < 2) (hm : m < 2 ^ 29) :
    (2 ^ 31 * k + m) % 2 ^ 29 = m ∧ bit (2 ^ 31 * k + m) 31 = (k == 1) := by
  refine ⟨by omega, ?_⟩
  have hdiv : (2 ^ 31 * k + m) / 2 ^ 31 = k := by omega
  rw [bit, hdiv, Nat.mod_eq_of_lt hk]

/-- A frame of a node of the cluster, before its bytes are judged (R710, R712). -/
theorem execKeepaliveReceived_node {node : Nat} (data : List Byte) (hawake : s.awake = true) (hon : s.pb 0x3000 0 = true)
    (hctrl : s.pb (0x3010 + 2 * s.kaCtrl) 0 = true) (hnode : node < 64) (hid : s.pf 0x3001 0 29 + node < 2 ^ 29) :
    execKeepaliveReceived s.kaCtrl (2 ^ 31 * s.pf 0x3001 31 1 + (s.pf 0x3001 0 29 + node)) data s =
      done (if data.isEmpty || leAt data 0 1 != node || node == s.pf 0x3000 3 6 then s.incPf 0x300A 8 8
        else if bit (leAt data 1 1) 0 then (s.kaHeard node data).kaCancel else s.kaHeard node data) := by
  have hk : s.pf 0x3001 31 1 < 2 := Nat.mod_lt _ (by decide)
  obtain ⟨hlow, hbit⟩ := kaIdent_parts hk hid
  have hflag : (s.pf 0x3001 31 1 == 1) = s.pb 0x3001 31 := by rw [State.pb, bit_eq_fld, ← State.pf]
  have hsub : s.pf 0x3001 0 29 + node - s.pf 0x3001 0 29 = node := Nat.add_sub_cancel_left _ _
  unfold execKeepaliveReceived
  dsimp only
  rw [hlow, hbit, hflag, hsub, if_neg]
  · rfl
  · rw [hawake, hon, hctrl, bne_self_eq_false, bne_self_eq_false, decide_eq_false (by omega), decide_eq_false (by omega)]
    decide

theorem leAt_le_one (x : Nat) (l : List Byte) : leAt (le 1 x ++ l) 0 1 = x % 256 := leAt_le_mod 1 x l

theorem execKeepaliveReceived_else {c ident : Nat} {l : List Byte} (h : c ≠ s.kaCtrl ∨ ident % 2 ^ 29 < s.pf 0x3001 0 29 ∨
    s.pf 0x3001 0 29 + 63 < ident % 2 ^ 29 ∨ bit ident 31 ≠ s.pb 0x3001 31) : execKeepaliveReceived c ident l s = done s := by
  refine congrArg done (if_pos ?_)
  simp only [Bool.or_eq_true, Bool.not_eq_true', bne_iff_ne, decide_eq_true_eq]
  tauto

end

end Sys2Proof.Machine

/-! Keep-alive: agreement, preparation and the awake timer. -/

namespace Sys2Proof.Machine

section
variable {s : State}

/-- The first three bytes of a keep-alive frame (R710). -/
theorem kaBytes (node flags need : Nat) (l : List Byte) :
    (le 1 node ++ le 1 flags ++ le 1 need ++ l).isEmpty = false ∧
    leAt (le 1 node ++ le 1 flags ++ le 1 need ++ l) 0 1 = node % 256 ∧
    leAt (le 1 node ++ le 1 flags ++ le 1 need ++ l) 1 1 = flags % 256 ∧
    leAt (le 1 node ++ le 1 flags ++ le 1 need ++ l) 2 1 = need % 256 := by
  rw [List.append_assoc, List.append_assoc]
  refine ⟨rfl, leAt_le_one _ _, ?_, ?_⟩
  · rw [leAt_skip (k := 0) (by rw [le_length])]
    exact leAt_le_one _ _
  · rw [leAt_skip (k := 1) (by rw [le_length]), leAt_skip (k := 0) (by rw [le_length])]
    exact leAt_le_one _ _

theorem bit_setFld_one (x n : Nat) : bit (setFld x n 1 1) n = true := by
  rw [bit_eq_fld, fld_setFld_same]
  rfl

/-- Agreement (R714, R734). -/
theorem State.kaAgree_agrees : s.kaAgree.net.prep = some s.tick ∧ s.kaAgree.pb 0x300A 1 = true ∧
    (s.evOn 38 = true → s.kaAgree.latched 38 = true) ∧ SameParams s s.kaAgree [0x300A, 0x0601, 0x060D] ∧
    (s.awakeDue = true → s.kaAgree.net.awakeUs = 0) ∧ (s.awakeDue = false → s.kaAgree.net = { s.net with prep := some s.tick }) ∧
    s.kaAgree = { s with
      params := s.kaAgree.params, evt := s.kaAgree.evt, insts := s.kaAgree.insts, sys := s.kaAgree.sys, net := s.kaAgree.net } := by
  obtain ⟨t, ht⟩ : ∃ t, t = s.raise 38 [] := ⟨_, rfl⟩
  have hnet : t.net = s.net := by rw [ht]; simp
  have hagree : s.kaAgree = (t.setPb 0x300A 1 true).mapNet (fun n => { n with
      prep := some s.tick, awakeUs := if s.awakeDue then 0 else n.awakeUs, seen := if s.awakeDue then 0 else n.seen }) := by
    rw [ht]
    rfl
  have honly : t = { s with params := t.params, evt := t.evt, insts := t.insts, sys := t.sys } := by
    rw [ht]
    exact s.raise_only 38 []
  rw [hagree]
  refine ⟨rfl, t.pb_setPb_same _ _ _ (by decide), fun hon => ?_, fun a ha => ?_, fun hdue => ?_, fun hdue => ?_, ?_⟩
  · rw [State.latched, State.mapNet_pb, State.pb_setPb_other _ _ _ _ (by decide), ht]
    exact s.raise_latched [] hon
  · have ha : a ≠ 0x300A ∧ a ≠ 0x0601 ∧ a ≠ 0x060D := by simpa using ha
    rw [State.mapNet_p, State.p_setPb_other _ _ _ ha.1, ht, s.raise_p 38 [] ha.2.1 ha.2.2]
  · rw [State.mapNet_net, hdue]
    rfl
  · rw [State.mapNet_net, hdue, State.setPb_net, hnet]
    rfl
  · generalize t.params = P at honly
    generalize t.evt = E at honly
    generalize t.insts = I at honly
    generalize t.sys = Y at honly
    rw [honly]
    rfl

theorem State.sleepBegin_starts (own : Bool) (hfull : s.full = true) (hidle : s.sys.sleeping = 0) :
    (s.sleepBegin own).sys.sleeping = 1 ∧ s.sleepBegin own = { s with sys := (s.sleepBegin own).sys, part := (s.sleepBegin own).part } := by
  have hbegin : s.sleepBegin own = ((s.mapSys (fun y => { y with sleeping := 1, pdKept := (List.range 5).map s.pdWord })).mapPart
      (fun p => { p with sleep := p.sleep || (own && s.role != 0) })) := if_pos ⟨hidle, hfull⟩
  rw [hbegin]
  exact ⟨rfl, rfl⟩

/-- The state in which the awake timer's end has told the nodes that had a need (R717). -/
def State.awakeTold (s : State) : State :=
  (((s.setP 0x300B (s.net.seen % 2 ^ 32)).setP 0x300C (s.net.seen / 2 ^ 32)).raise 39 (le 8 s.net.seen)).mapNet
    (fun n => { n with stopped := true, napDue := true })

theorem execMaxAwakeReached_due (hruns : s.kaRuns = true) (hdue : s.awakeDue = true) : execMaxAwakeReached s =
    done (if s.net.prep.isNone && s.silentDue then s.kaAgree else s.awakeTold.sleepBegin true) := by
  refine congrArg done (if_pos ?_)
  rw [hruns, hdue]
  rfl

theorem State.awakeTold_tells (hseen : s.net.seen < 2 ^ 64) : s.awakeTold.p 0x300B + 2 ^ 32 * s.awakeTold.p 0x300C = s.net.seen := by
  have hlow : s.awakeTold.p 0x300B = s.net.seen % 2 ^ 32 := by
    rw [State.awakeTold, State.mapNet_p, State.raise_p _ _ _ (by decide) (by decide), State.p_setP_other _ _ (by decide),
      State.p_setP_same, Nat.mod_mod]
  have hhigh : s.awakeTold.p 0x300C = s.net.seen / 2 ^ 32 := by
    rw [State.awakeTold, State.mapNet_p, State.raise_p _ _ _ (by decide) (by decide), State.p_setP_same, Nat.mod_eq_of_lt (by omega)]
  rw [hlow, hhigh]
  omega

theorem State.awakeTold_same : SameParams s s.awakeTold [0x300B, 0x300C, 0x0601, 0x060D] := by
  intro a ha
  have ha : a ≠ 0x300B ∧ a ≠ 0x300C ∧ a ≠ 0x0601 ∧ a ≠ 0x060D := by simpa using ha
  rw [State.awakeTold, State.mapNet_p, State.raise_p _ 39 _ ha.2.2.1 ha.2.2.2, State.p_setP_other _ _ ha.2.1, State.p_setP_other _ _ ha.1]

theorem State.awakeTold_latched (hon : s.evOn 39 = true) : s.awakeTold.latched 39 = true := by
  have hon' : ((s.setP 0x300B (s.net.seen % 2 ^ 32)).setP 0x300C (s.net.seen / 2 ^ 32)).evOn 39 = true := by
    rw [State.evOn, State.pb, State.p_setP_other _ _ (by decide), State.p_setP_other _ _ (by decide)]
    exact hon
  exact State.raise_latched _ _ hon'

theorem State.awakeTold_net : s.awakeTold.net = { s.net with stopped := true, napDue := true } := by
  rw [State.awakeTold, State.mapNet_net, (State.raise_frame _ _ _).2.2.2.2.2.2.2.2.2.2.1]
  rfl

/-- An event leaves the phase and the stage of sleep entry. -/
theorem State.raise_phase (e : Nat) (d : List Byte) : (s.raise e d).sys.phase = s.sys.phase ∧ (s.raise e d).sys.sleeping = s.sys.sleeping := by
  obtain ⟨p, c, hsys⟩ := s.raise_sys e d
  rw [hsys]
  exact ⟨rfl, rfl⟩

theorem State.awakeTold_only : s.awakeTold = { s with
    params := s.awakeTold.params, evt := s.awakeTold.evt, insts := s.awakeTold.insts, sys := s.awakeTold.sys, net := s.awakeTold.net } := by
  obtain ⟨t, ht⟩ : ∃ t, t = ((s.setP 0x300B (s.net.seen % 2 ^ 32)).setP 0x300C (s.net.seen / 2 ^ 32)).raise 39 (le 8 s.net.seen) :=
    ⟨_, rfl⟩
  have honly : t = { s with params := t.params, evt := t.evt, insts := t.insts, sys := t.sys } := by
    rw [ht]
    exact State.raise_only _ 39 _
  have htold : s.awakeTold = t.mapNet (fun n => { n with stopped := true, napDue := true }) := by
    rw [ht]
    rfl
  rw [htold]
  generalize t.params = P at honly
  generalize t.evt = E at honly
  generalize t.insts = I at honly
  generalize t.sys = Y at honly
  rw [honly]
  rfl

/-- The awake timer's end, where no agreement takes its place (R717). -/
theorem State.awakeTold_sleeps (hruns : s.kaRuns = true) : (s.awakeTold.sleepBegin true).sys.sleeping = 1 ∧
    s.awakeTold.sleepBegin true = { s.awakeTold with
      sys := (s.awakeTold.sleepBegin true).sys, part := (s.awakeTold.sleepBegin true).part } := by
  simp only [State.kaRuns, Bool.and_eq_true, beq_iff_eq] at hruns
  obtain ⟨hphase, hsleeping⟩ := State.raise_phase (s := (s.setP 0x300B (s.net.seen % 2 ^ 32)).setP 0x300C (s.net.seen / 2 ^ 32)) 39 (le 8 s.net.seen)
  refine State.sleepBegin_starts true ?_ (hsleeping.trans hruns.2)
  exact Eq.trans (congrArg (fun x => x == Phase.lit || x == Phase.doused) hphase) hruns.1.1.1.1

/-- What KA_PREPARE_END does to a preparation that has lasted its time (R716, R733). -/
theorem execKaPrepareEnd_due {t : Nat} (hprep : s.net.prep = some t) (hdue : s.prepDue t = true) : execKaPrepareEnd s =
    done (if s.localNeed then s.kaCancel else (s.kaCancel.mapNet (fun n => { n with ready := true })).sleepBegin true) := by
  unfold execKaPrepareEnd
  rw [hprep]
  dsimp only
  rw [if_neg (by rw [hdue]; decide)]

theorem execKaPrepareEnd_early {t : Nat} (hprep : s.net.prep = some t) (hearly : s.prepDue t = false) : execKaPrepareEnd s = done s := by
  unfold execKaPrepareEnd
  rw [hprep]
  dsimp only
  rw [if_pos (by rw [hearly]; rfl)]

end

/-- Settles O50: what each frame and timer finds is named first, then what it leaves. -/
theorem keepAlive : Obligations.KeepAlive := by
  unfold Obligations.KeepAlive
  refine ⟨fun s hfull hon hrun hctrl hbus hdue => ?_, fun s hno hearly => ?_, fun s node flags need l hawake hon hctrl hnode hother hflags hid => ?_,
    fun s node x l hawake hon hctrl hnode hx hwrong hid => ?_, fun s c ident l h => execKeepaliveReceived_else h,
    fun s hruns hprep hsilent => ?_, fun s hearly => ?_, fun s t hprep hfull hsleep hdue => ?_, fun s t hprep hearly => ?_,
    fun s hruns hdue hnot hseen => ?_, fun s hruns hdue hprep hsilent => ?_, fun s hearly => ?_⟩
  · have hdue' : (s.net.kaDue || s.dueIn s.net.kaUs (s.pf 0x3002 0 11)) = true := by
      rw [State.dueIn_eq]
      simpa using hdue
    refine ⟨_, execKeepaliveSend_due hfull hon hrun hctrl hbus hdue', rfl, ?_, rfl⟩
    rw [← State.kaFrame_eq]
    rfl
  · refine execKeepaliveSend_early ?_
    rw [State.dueIn_eq, hno]
    simpa using hearly
  · obtain ⟨hsome, hnodeByte, hflagByte, hneedByte⟩ := kaBytes node flags need l
    obtain ⟨data, hdata⟩ : ∃ data, data = le 1 node ++ le 1 flags ++ le 1 need ++ l := ⟨_, rfl⟩
    rw [← hdata] at hsome hnodeByte hflagByte hneedByte ⊢
    have hgives : execKeepaliveReceived s.kaCtrl (2 ^ 31 * s.pf 0x3001 31 1 + (s.pf 0x3001 0 29 + node)) data s =
        done (if bit flags 0 then (s.kaHeard node data).kaCancel else s.kaHeard node data) := by
      rw [execKeepaliveReceived_node data hawake hon hctrl hnode hid, hsome, hnodeByte, hflagByte, Nat.mod_eq_of_lt hflags,
        Nat.mod_eq_of_lt (by omega), if_neg (by simpa using hother)]
    have hnet : (s.kaHeard node data).net = { s.net with
        ka := Tbl.put KaNode.d s.net.ka node ⟨bit flags 0, bit flags 1, need % 256, 0⟩
        seen := if bit flags 0 && s.kaRuns then setFld s.net.seen node 1 1 else s.net.seen
        silentUs := if bit flags 0 then 0 else s.net.silentUs } := by
      rw [State.kaHeard, State.mapNet_net, hflagByte, hneedByte, Nat.mod_eq_of_lt hflags]
    have hka : (s.kaHeard node data).net.ka = Tbl.put KaNode.d s.net.ka node ⟨bit flags 0, bit flags 1, need % 256, 0⟩ :=
      congrArg Net.ka hnet
    by_cases hneed : bit flags 0 = true
    · obtain ⟨hended, hsame, hagreed, honly⟩ := State.kaCancel_facts (s := s.kaHeard node data)
      have hka' : (s.kaHeard node data).kaCancel.net.ka = Tbl.put KaNode.d s.net.ka node ⟨bit flags 0, bit flags 1, need % 256, 0⟩ :=
        (congrArg Net.ka hended).trans hka
      rw [hnet, hneed] at hended
      refine ⟨_, hgives.trans (congrArg done (if_pos hneed)), ?_, fun k hk => ?_, fun _ => ⟨?_, ?_, hsame, ?_, fun hruns => ?_⟩,
        fun h => absurd (h.symm.trans hneed) Bool.false_ne_true, honly⟩
      · rw [hka', Tbl.get_put_same]
      · rw [hka', Tbl.get_put_other _ _ _ hk]
      · rw [hended]
      · rw [hended]
        rfl
      · exact fun h => hagreed (by rw [hnet]; exact h)
      · rw [hended, hruns]
        exact bit_setFld_one _ _
    · have hno : bit flags 0 = false := by simpa using hneed
      rw [hno] at hnet
      refine ⟨_, hgives.trans (congrArg done (if_neg hneed)), ?_, fun k hk => ?_, fun h => absurd h hneed, fun _ => ⟨rfl, ?_⟩, rfl⟩
      · rw [hka, Tbl.get_put_same]
      · rw [hka, Tbl.get_put_other _ _ _ hk]
      · rw [hnet]
        rfl
  · have hwrong' : (node == s.pf 0x3000 3 6 || x % 256 != node) = true := by
      rw [Nat.mod_eq_of_lt hx]
      simpa [or_comm] using hwrong
    refine ⟨s.incPf 0x300A 8 8, ?_, rfl, fun a ha => s.p_setPf_other _ _ _ (by simpa using ha), ?_⟩
    · refine (execKeepaliveReceived_node _ hawake hon hctrl hnode hid).trans (congrArg done (if_pos ?_))
      rw [leAt_le_one, Bool.or_assoc, Bool.or_comm (x % 256 != node), hwrong', Bool.or_true]
    · rw [State.pf_incPf _ _ _ _ (by decide)]
      exact congrArg (Nat.min _) (by decide)
  · have hdue : s.silentDue = true := decide_eq_true (by omega)
    obtain ⟨hbegun, hagreed, hlatch, hsame, hboth, halone, honly⟩ := State.kaAgree_agrees (s := s)
    exact ⟨_, congrArg done (if_pos (by rw [hruns, hprep, hdue]; rfl)), hbegun, hagreed, hlatch, hsame, hboth, halone, honly⟩
  · refine congrArg done (if_neg ?_)
    have hno : s.silentDue = false := decide_eq_false (by omega)
    rw [hno, Bool.and_false]
    exact Bool.false_ne_true
  · have hdue' : s.prepDue t = true := decide_eq_true hdue
    obtain ⟨hended, hsame, hagreed, honly⟩ := State.kaCancel_facts (s := s)
    have hno : s.kaCancel.pb 0x300A 1 = false := hagreed (by rw [hprep]; rfl)
    have hcancel := State.kaCancel_ends hprep
    cases hneed : s.localNeed with
    | true =>
      refine ⟨s.kaCancel, (execKaPrepareEnd_due hprep hdue').trans (congrArg done (if_pos hneed)), by rw [hended], hno, hsame,
        fun _ => ⟨by rw [hcancel]; rfl, by rw [hcancel]; rfl, hended⟩, fun h => absurd h (by decide), ?_⟩
      rw [hcancel]
      rfl
    | false =>
      obtain ⟨u, hu⟩ : ∃ u, u = s.kaCancel.mapNet (fun n => { n with ready := true }) := ⟨_, rfl⟩
      have hsys : u.sys = s.sys := by rw [hu, hcancel]; rfl
      obtain ⟨hstarted, hrest⟩ := State.sleepBegin_starts (s := u) true ((State.full_of_sys hsys).trans hfull) (by rw [hsys, hsleep])
      have hnet : (u.sleepBegin true).net = { s.net with prep := none, ready := true } := by
        rw [(State.sleepBegin_frame _ _).2.2.2.2.2.2.2.2.2.2.2.2.1, hu, State.mapNet_net, hended]
      refine ⟨u.sleepBegin true, (execKaPrepareEnd_due hprep hdue').trans (congrArg done ((if_neg (by rw [hneed]; decide)).trans (by rw [hu]))),
        by rw [hnet], ?_, fun a ha => ?_, fun h => absurd h (by decide), fun _ => ⟨hstarted, hnet⟩, ?_⟩
      · rw [State.pb, State.sleepBegin_p, hu]
        exact hno
      · rw [State.sleepBegin_p, hu]
        exact hsame a ha
      · rw [hrest, hu, hcancel]
        rfl
  · refine execKaPrepareEnd_early hprep (decide_eq_false (by omega))
  · have hawakeDue : s.awakeDue = true := decide_eq_true (by omega)
    have hother : (s.net.prep.isNone && s.silentDue) = false := by
      rcases hnot with h | h
      · rw [Option.isNone_eq_false_iff.mpr (Option.isSome_iff_ne_none.mpr h)]
        rfl
      · have hno : s.silentDue = false := decide_eq_false (by omega)
        rw [hno, Bool.and_false]
    obtain ⟨hsleeping, hrest⟩ := State.awakeTold_sleeps hruns
    refine ⟨_, (execMaxAwakeReached_due hruns hawakeDue).trans (congrArg done (if_neg (by rw [hother]; exact Bool.false_ne_true))), ?_, ?_,
      hsleeping, fun hon => ?_, fun a ha => ?_, ?_⟩
    · rw [State.sleepBegin_p, State.sleepBegin_p]
      exact State.awakeTold_tells hseen
    · rw [(State.sleepBegin_frame _ _).2.2.2.2.2.2.2.2.2.2.2.2.1, State.awakeTold_net]
    · rw [State.latched, State.pb, State.sleepBegin_p]
      exact State.awakeTold_latched hon
    · rw [State.sleepBegin_p]
      exact State.awakeTold_same a ha
    · have htold := State.awakeTold_only (s := s)
      generalize s.awakeTold = t at hrest htold ⊢
      rw [hrest, htold]
  · have hawakeDue : s.awakeDue = true := decide_eq_true (by omega)
    have hsilentDue : s.silentDue = true := decide_eq_true (by omega)
    refine (execMaxAwakeReached_due hruns hawakeDue).trans ((congrArg done (if_pos ?_)).trans (congrArg done (if_pos ?_)).symm)
    · rw [hprep, hsilentDue]
      rfl
    · rw [hruns, hprep, hsilentDue]
      rfl
  · refine congrArg done (if_neg ?_)
    have hno : s.awakeDue = false := decide_eq_false (by omega)
    rw [hno, Bool.and_false]
    exact Bool.false_ne_true

end Sys2Proof.Machine

/-! CAN, Ethernet and LIN (R211, R696, R699 to R708). -/

namespace Sys2Proof.Machine

section
variable {s : State}

/-! CAN's bus-off (R696). -/

theorem execCanBusOff_off {c tec : Nat} (hc : c < 4) (hawake : s.awake = true) (hon : s.pb (0x3010 + 2 * c) 0 = true)
    (hbus : s.busOff c = false) : execCanBusOff c tec s =
      done (((s.setPf (0x3011 + 2 * c) 0 2 2).setPf (0x3011 + 2 * c) 8 8 tec).begin 40 c (le 1 c ++ le 1 tec)) := by
  refine congrArg done (if_pos ?_)
  rw [hawake, hon, hbus, decide_eq_true hc]
  rfl

theorem State.canBusOff_held {c tec : Nat} (hc : c < 4) (htec : tec < 256) (t : State)
    (ht : t = ((s.setPf (0x3011 + 2 * c) 0 2 2).setPf (0x3011 + 2 * c) 8 8 tec).begin 40 c (le 1 c ++ le 1 tec)) :
    t.busOff c = true ∧ t.pf (0x3011 + 2 * c) 8 8 = tec := by
  have hp : t.p (0x3011 + 2 * c) = ((s.setPf (0x3011 + 2 * c) 0 2 2).setPf (0x3011 + 2 * c) 8 8 tec).p (0x3011 + 2 * c) := by
    rw [ht]
    exact State.begin_p _ _ _ _ (by omega) (by omega)
  refine ⟨?_, ?_⟩
  · rw [State.busOff, State.pf, hp, ← State.pf, State.pf_setPf_below _ _ _ _ _ _ _ (by decide) (by decide),
      State.pf_setPf_same _ _ _ _ _ (by decide)]
    rfl
  · rw [State.pf, hp, ← State.pf, State.pf_setPf_same _ _ _ _ _ (by decide)]
    exact Nat.mod_eq_of_lt htec

theorem State.canRecover_eq {c : Nat} (hbus : s.busOff c = true) : s.canRecover c =
    ((s.setP (0x3011 + 2 * c) 0).finish 40 c).mapNet (fun n => { n with canFree := n.canFree.filter (· != c) }) := if_pos hbus

/-! A link's change (R211, R707). -/

theorem fld_two_bits (x : Nat) : fld x 0 2 = b2n (bit x 0) + 2 * b2n (bit x 1) := by
  have hbit (n : Nat) : b2n (bit x n) = x / 2 ^ n % 2 := by
    rw [b2n, bit]
    split
    case isTrue h => exact (beq_iff_eq.mp h).symm
    case isFalse h =>
      have hne : x / 2 ^ n % 2 ≠ 1 := fun he => h (beq_iff_eq.mpr he)
      omega
  rw [hbit, hbit, fld]
  omega

/-- The status word and the event of a link's change. -/
def State.linkTold (s : State) (i st : Nat) : State :=
  (((s.setPb (0x3019 + 8 * i) 0 (st == 1)).setPb (0x3019 + 8 * i) 1 (st == 2)).incPf (0x3019 + 8 * i) 8 8).raise 41 (le 1 i ++ le 1 st)

theorem State.ethChange_eq {i st : Nat} (hnew : (if s.pb (0x3019 + 8 * i) 1 then 2 else s.pf (0x3019 + 8 * i) 0 1) ≠ st)
    (hst : st ≤ 2) (hi : st = 2 → i ≠ 0) : s.ethChange i st = if st = 1 then s.linkTold i st else (s.linkTold i st).updPort 1
      (fun p => { p with out := p.out.filter (fun k => !(k.iface == i && (k.kind == 0 || k.kind == 2))) }) := by
  refine if_neg ?_
  rintro (h | h | h)
  · exact hnew h
  · omega
  · exact hi h.2 h.1

theorem State.ethChange_keeps {β : Type} (π : State → β) {i st : Nat}
    (hnew : (if s.pb (0x3019 + 8 * i) 1 then 2 else s.pf (0x3019 + 8 * i) 0 1) ≠ st) (hst : st ≤ 2) (hi : st = 2 → i ≠ 0)
    (hport : ∀ t f, π (State.updPort t 1 f) = π t) : π (s.ethChange i st) = π (s.linkTold i st) := by
  rw [State.ethChange_eq hnew hst hi]
  exact State.ite_keeps π _ _ _ _ rfl (hport _ _)

theorem State.linkTold_p (i st : Nat) (hi : i < 2) : (s.linkTold i st).p (0x3019 + 8 * i) =
    (((s.setPb (0x3019 + 8 * i) 0 (st == 1)).setPb (0x3019 + 8 * i) 1 (st == 2)).incPf (0x3019 + 8 * i) 8 8).p (0x3019 + 8 * i) :=
  State.raise_p _ _ _ (by omega) (by omega)

/-- The status of a link that has changed, and the count of its changes (R707). -/
theorem State.linkTold_status {i st : Nat} (hi : i < 2) (hst : st ≤ 2) : (s.linkTold i st).pf (0x3019 + 8 * i) 0 2 = st ∧
    (s.linkTold i st).pf (0x3019 + 8 * i) 8 8 = Nat.min (s.pf (0x3019 + 8 * i) 8 8 + 1) 255 := by
  refine ⟨?_, ?_⟩
  · have hup : (s.linkTold i st).pb (0x3019 + 8 * i) 0 = (st == 1) := by
      rw [State.pb, State.linkTold_p i st hi, ← State.pb, State.incPf, State.pb_setPf_apart _ _ _ _ _ (by decide) (by decide),
        State.pb_setPb_bit _ _ _ (by decide) (by decide), State.pb_setPb_same _ _ _ _ (by decide)]
    have hasleep : (s.linkTold i st).pb (0x3019 + 8 * i) 1 = (st == 2) := by
      rw [State.pb, State.linkTold_p i st hi, ← State.pb, State.incPf, State.pb_setPf_apart _ _ _ _ _ (by decide) (by decide),
        State.pb_setPb_same _ _ _ _ (by decide)]
    rw [State.pf, fld_two_bits, ← State.pb, ← State.pb, hup, hasleep]
    interval_cases st <;> rfl
  · rw [State.pf, State.linkTold_p i st hi, ← State.pf, State.pf_incPf _ _ _ _ (by decide),
      State.pf_setPb_apart _ _ _ _ (by decide) (by decide), State.pf_setPb_apart _ _ _ _ (by decide) (by decide)]
    exact congrArg (Nat.min _) (by decide)

theorem State.linkTold_latched (i st : Nat) (hi : i < 2) (hon : s.evOn 41 = true) : (s.linkTold i st).latched 41 = true := by
  refine State.raise_latched _ _ ?_
  have hp : (((s.setPb (0x3019 + 8 * i) 0 (st == 1)).setPb (0x3019 + 8 * i) 1 (st == 2)).incPf (0x3019 + 8 * i) 8 8).p 0x0603 = s.p 0x0603 := by
    rw [State.incPf_p _ _ _ (by omega), State.p_setPb_other _ _ _ (by omega), State.p_setPb_other _ _ _ (by omega)]
  rw [State.evOn, State.pb, hp]
  exact hon

theorem State.linkTold_frame (i st : Nat) : (s.linkTold i st).out = s.out ∧ (s.linkTold i st).nvm = s.nvm ∧ (s.linkTold i st).sent = s.sent := by
  obtain ⟨-, -, -, hnvm, -, -, -, hout, -, -, -, -, -, -, hsent, -⟩ :=
    (((s.setPb (0x3019 + 8 * i) 0 (st == 1)).setPb (0x3019 + 8 * i) 1 (st == 2)).incPf (0x3019 + 8 * i) 8 8).raise_frame 41 (le 1 i ++ le 1 st)
  refine ⟨?_, ?_, ?_⟩
  · rw [State.linkTold, hout, State.incPf_out, State.setPb_out, State.setPb_out]
  · rw [State.linkTold, hnvm, State.incPf_nvm, State.setPb_nvm, State.setPb_nvm]
  · rw [State.linkTold, hsent, State.incPf_sent, State.setPb_sent, State.setPb_sent]

/-- What a change of a link leaves (R211, R707). -/
theorem State.ethChange_facts {i st : Nat} (hi : i < 2) (hst : st ≤ 2) (hsleep : st = 2 → i ≠ 0)
    (hnew : (if s.pb (0x3019 + 8 * i) 1 then 2 else s.pf (0x3019 + 8 * i) 0 1) ≠ st) :
    (s.ethChange i st).pf (0x3019 + 8 * i) 0 2 = st ∧
    (s.ethChange i st).pf (0x3019 + 8 * i) 8 8 = Nat.min (s.pf (0x3019 + 8 * i) 8 8 + 1) 255 ∧
    (s.evOn 41 = true → (s.ethChange i st).latched 41 = true) ∧ (s.ethChange i st).out = s.out ∧ (s.ethChange i st).nvm = s.nvm ∧
    (s.ethChange i st).sent = s.sent := by
  obtain ⟨hstatus, hcount⟩ := State.linkTold_status (s := s) hi hst
  obtain ⟨hout, hnvm, hsent⟩ := State.linkTold_frame (s := s) i st
  refine ⟨?_, ?_, fun hon => ?_, ?_, ?_, ?_⟩
  · exact (State.ethChange_keeps (fun t => t.pf (0x3019 + 8 * i) 0 2) hnew hst hsleep (fun _ _ => rfl)).trans hstatus
  · exact (State.ethChange_keeps (fun t => t.pf (0x3019 + 8 * i) 8 8) hnew hst hsleep (fun _ _ => rfl)).trans hcount
  · exact (State.ethChange_keeps (fun t => t.latched 41) hnew hst hsleep (fun _ _ => rfl)).trans (State.linkTold_latched i st hi hon)
  · exact (State.ethChange_keeps State.out hnew hst hsleep (fun _ _ => rfl)).trans hout
  · exact (State.ethChange_keeps State.nvm hnew hst hsleep (fun _ _ => rfl)).trans hnvm
  · exact (State.ethChange_keeps State.sent hnew hst hsleep (fun _ _ => rfl)).trans hsent

/-- A link that is up stands at 1, and is not asleep (R707). -/
theorem State.ethUp_status {i : Nat} (h : s.ethUp i = true) : s.pf (0x3019 + 8 * i) 0 2 = 1 ∧
    (if s.pb (0x3019 + 8 * i) 1 then 2 else s.pf (0x3019 + 8 * i) 0 1) = 1 := by
  have hone : s.pf (0x3019 + 8 * i) 0 2 = 1 := beq_iff_eq.mp h
  have hbits := fld_two_bits (s.p (0x3019 + 8 * i))
  rw [← State.pf, hone, ← State.pb, ← State.pb] at hbits
  have hasleep : s.pb (0x3019 + 8 * i) 1 = false := by
    cases hb : s.pb (0x3019 + 8 * i) 1
    · rfl
    · rw [hb, b2n, b2n] at hbits
      split at hbits <;> simp at hbits
  refine ⟨hone, ?_⟩
  rw [if_neg (by rw [hasleep]; decide)]
  have hlow : s.pf (0x3019 + 8 * i) 0 1 = s.pf (0x3019 + 8 * i) 0 2 % 2 := by
    rw [State.pf, State.pf, fld, fld]
    omega
  rw [hlow, hone]

end

end Sys2Proof.Machine

/-! LIN slots (R699 to R703), and the networks' statement. -/

namespace Sys2Proof.Machine

section
variable {s : State} {l e : Nat}

/-- What LIN_SLOT puts on the wire of entry `e` (R699, R701). -/
def State.linFrame (s : State) (l e : Nat) : List Byte :=
  if bit (s.p (0x3040 + 16 * l + e)) 6 then le 1 (linPid (fld (s.p (0x3040 + 16 * l + e)) 0 6))
  else le 1 (linPid (fld (s.p (0x3040 + 16 * l + e)) 0 6)) ++ (s.linData l e).take (fld (s.p (0x3040 + 16 * l + e)) 7 4) ++
    le 1 (linSum (if bit (s.p (0x3040 + 16 * l + e)) 11
      then le 1 (linPid (fld (s.p (0x3040 + 16 * l + e)) 0 6)) ++ (s.linData l e).take (fld (s.p (0x3040 + 16 * l + e)) 7 4)
      else (s.linData l e).take (fld (s.p (0x3040 + 16 * l + e)) 7 4)))

/-- The slot of entry `e` begins (R699). -/
def State.linBegin (s : State) (l e : Nat) : State :=
  (s.sendRaw (32 + l) (le 1 1 ++ s.linFrame l e)).updLin l (fun p => { p with
    next := (e + 1) % (Nat.max (s.pf (0x3030 + l) 4 5) 1), wait := s.pf (0x3040 + 16 * l + e) 16 8, cur := some e })

theorem execLinSlot_begins (hl : l < 2) (hfull : s.full = true) (hon : s.pb (0x3030 + l) 0 = true) (hsleep : s.sys.sleeping = 0)
    (hwait : (s.lin l).wait = 0) (hnext : (s.lin l).next = e) (he : e < s.pf (0x3030 + l) 4 5) :
    execLinSlot l s = done (s.linBegin l e) := by
  have hgate : ¬(2 ≤ l ∨ s.full = false ∨ bit (s.p (0x3030 + l)) 0 = false ∨ s.sys.sleeping ≠ 0 ∨ (s.lin l).wait ≠ 0) := by
    rintro (h | h | h | h | h)
    · omega
    · exact Bool.false_ne_true (h.symm.trans hfull)
    · exact Bool.false_ne_true (h.symm.trans hon)
    · exact h hsleep
    · exact h hwait
  have hentry : (s.lin l).next % (Nat.max (fld (s.p (0x3030 + l)) 4 5) 1) = e := by
    rw [hnext]
    exact Nat.mod_eq_of_lt (lt_of_lt_of_le he (Nat.le_max_left _ _))
  unfold execLinSlot
  dsimp only
  rw [if_neg hgate, hentry]
  rfl

theorem State.updLin_lin (f : LinPort → LinPort) (t : State) : (t.updLin l f).lin l = f (t.lin l) := Tbl.get_upd_same _ _ l f

/-- An entry that publishes sends its data and their checksum after the identifier (R701). -/
theorem State.linFrame_publishes (hpub : s.pb (0x3040 + 16 * l + e) 6 = false) : ∃ sum, s.linFrame l e =
    le 1 (linPid (s.pf (0x3040 + 16 * l + e) 0 6)) ++ (s.linData l e).take (s.pf (0x3040 + 16 * l + e) 7 4) ++ le 1 sum :=
  ⟨_, if_neg (fun h => Bool.false_ne_true (hpub.symm.trans h))⟩

/-- What a slot that begins leaves (R699, R701). -/
theorem State.linBegin_facts (he : e < s.pf (0x3030 + l) 4 5) : ((s.linBegin l e).lin l).cur = some e ∧
    ((s.linBegin l e).lin l).wait = s.pf (0x3040 + 16 * l + e) 16 8 ∧
    ((s.linBegin l e).lin l).next = (e + 1) % s.pf (0x3030 + l) 4 5 ∧
    (s.linBegin l e).sent.raw = s.sent.raw ++ [(32 + l, le 1 1 ++ s.linFrame l e)] ∧
    (s.linBegin l e).params = s.params ∧ (s.linBegin l e).out = s.out := by
  have hmax : Nat.max (s.pf (0x3030 + l) 4 5) 1 = s.pf (0x3030 + l) 4 5 := Nat.max_eq_left (by omega)
  refine ⟨?_, ?_, ?_, rfl, rfl, rfl⟩
  · rw [State.linBegin, State.updLin_lin]
  · rw [State.linBegin, State.updLin_lin]
  · rw [State.linBegin, State.updLin_lin, hmax]

/-- A slot whose entry subscribes ends (R701, R702): `ok` is whether its response was complete and valid. -/
def State.linEnd (s : State) (l e : Nat) (ok : Bool) : State :=
  (s.updLin l (fun p => { p with cur := none, good := if ok then insNat e p.good else p.good.filter (· != e) })).setPb
    (0x3040 + 16 * l + e) 12 (!ok)

theorem execLinSlotEnd_subscribes {resp : List Byte} {valid : Bool} (hcur : (s.lin l).cur = some e)
    (hsub : s.pb (0x3040 + 16 * l + e) 6 = true) (hlen : resp.length = 8) (hwant : s.pf (0x3040 + 16 * l + e) 7 4 = 8) :
    execLinSlotEnd l resp valid s = done (if valid then
      ((s.linEnd l e true).setP (0x3060 + 2 * (16 * l + e)) (leAt resp 0 4)).setP (0x3061 + 2 * (16 * l + e)) (leAt resp 4 4)
      else s.linEnd l e false) := by
  have hdrop : resp ++ (s.linData l e).drop 8 = resp := by
    rw [List.drop_eq_nil_of_le, List.append_nil]
    rw [State.linData, List.length_append, le_length, le_length]
  unfold execLinSlotEnd
  rw [hcur]
  dsimp only
  rw [hsub, hlen, hwant, hdrop, beq_self_eq_true, Bool.and_true]
  cases valid with
  | true => rfl
  | false => rfl

theorem State.linEnd_facts (ok : Bool) : (s.linEnd l e ok).pb (0x3040 + 16 * l + e) 12 = !ok ∧
    ((s.linEnd l e ok).lin l).cur = none ∧ (e ∈ ((s.linEnd l e ok).lin l).good ↔ ok = true) ∧
    SameParams s (s.linEnd l e ok) [0x3040 + 16 * l + e] ∧ (s.linEnd l e ok).out = s.out := by
  have hlin : (s.linEnd l e ok).lin l = { s.lin l with
      cur := none, good := if ok then insNat e (s.lin l).good else (s.lin l).good.filter (· != e) } := by
    rw [State.linEnd, State.lin, State.setPb_net, ← State.lin, State.updLin_lin]
  refine ⟨State.pb_setPb_same _ _ _ _ (by decide), by rw [hlin], ?_, fun a ha => ?_, rfl⟩
  · rw [hlin]
    cases ok with
    | true => exact iff_of_true (mem_insNat _ _) rfl
    | false => exact iff_of_false (by simp) Bool.false_ne_true
  · exact State.p_setPb_other _ _ _ (by simpa using ha)

end

/-- Settles O51, network by network. -/
theorem networks : Obligations.Networks := by
  unfold Obligations.Networks
  refine ⟨fun s c tec hc hawake hon hbus htec => ?_, fun s c hc hbus hfree => ?_, fun s c hc hreg hfree => ?_,
    fun s i st hi hst hawake hon hasleep hnew => ?_, fun s hawake hon htc hup => ?_, fun s i mac ip hi hawake hon => ?_,
    fun s i ip d hi hawake hon => ?_, fun s l e hl hfull hon hsleep hwait hnext he hsub => ?_,
    fun s l e hl hfull hon hsleep hwait hnext he hpub => ?_, fun s l hwait => ?_, fun s l e resp hl he hcur hsub hlen hwant => ?_,
    fun s hfull hon hrun hctrl hbus hdue => ?_, fun s node hawake hon hctrl hnode hother hid hshort => ?_,
    fun s hruns hprep hsilent => ?_, fun s t hprep hdue hfull hsleep hneed => ?_, fun s hruns hprep hdue => ?_⟩
  · obtain ⟨t, ht⟩ : ∃ t, t = ((s.setPf (0x3011 + 2 * c) 0 2 2).setPf (0x3011 + 2 * c) 8 8 tec).begin 40 c (le 1 c ++ le 1 tec) := ⟨_, rfl⟩
    obtain ⟨hoff, hcount⟩ := State.canBusOff_held hc htec t ht
    refine ⟨t, by rw [ht]; exact execCanBusOff_off hc hawake hon hbus, hoff, hcount, by rw [ht]; exact State.begin_holds _ _ _ _, ?_, ?_⟩
    · rw [ht, (State.begin_frame _ _ _ _).2.2.2.2.2.2.2.1, State.setPf_out, State.setPf_out]
    · rw [ht, (State.begin_frame _ _ _ _).2.2.2.1, State.setPf_nvm, State.setPf_nvm]
  · have hgate : (decide (c < 4) && (s.pb (0x3010 + 2 * c) 7 || s.net.canFree.contains c)) = true := by
      rw [decide_eq_true hc, Bool.true_and, Bool.or_eq_true]
      exact hfree
    refine ⟨_, congrArg done ((if_pos hgate).trans (State.canRecover_eq hbus)), ?_, ?_, fun a ha => ?_, rfl⟩
    · rw [State.mapNet_p, State.finish_p, State.p_setP_same]
      rfl
    · exact (s.setP (0x3011 + 2 * c) 0).finish_holdsItem 40 c
    · rw [State.mapNet_p, State.finish_p, State.p_setP_other _ _ (by simpa using ha)]
  · refine congrArg done (if_neg ?_)
    rw [hreg, hfree, Bool.or_false, Bool.and_false]
    exact Bool.false_ne_true
  · have hnew' : (if s.pb (0x3019 + 8 * i) 1 then 2 else s.pf (0x3019 + 8 * i) 0 1) ≠ st := by
      rw [if_neg (by rw [hasleep]; decide)]
      exact hnew
    obtain ⟨hstatus, hcount, hlatch, hout, hnvm, -⟩ := State.ethChange_facts hi (by omega) (by omega) hnew'
    refine ⟨_, congrArg done (if_pos ?_), hstatus, hcount, hlatch, hout, hnvm⟩
    rw [hawake, hon, decide_eq_true hi]
    rfl
  · obtain ⟨hone, hwas⟩ := State.ethUp_status hup
    have hgate : (s.awake && s.pb 0x3020 0 && s.pb 0x3020 2 && s.ethUp 1) = true := by
      rw [hawake, hon, htc, hup]
      rfl
    cases hneed : s.localNeed with
    | true => exact ⟨_, congrArg done ((if_pos hgate).trans (if_pos hneed)), rfl, rfl, hone⟩
    | false =>
      obtain ⟨hstatus, -, -, hout, -, hsent⟩ := State.ethChange_facts (s := s.sendRaw 49 (le 1 1)) (i := 1) (st := 2) (by decide) (by decide)
        (by decide) (fun h => absurd (hwas.symm.trans h) (by decide))
      refine ⟨_, congrArg done ((if_pos hgate).trans (if_neg (by rw [hneed]; decide))), hout, ?_, hstatus⟩
      rw [hsent]
      rfl
  · have hgate : ¬(2 ≤ i ∨ s.awake = false ∨ s.pb (0x3018 + 8 * i) 0 = false ∨ s.p (0x301A + 8 * i) ≠ s.p (0x301A + 8 * i)) := by
      rw [hawake, hon]
      simp [hi]
    refine ⟨⟨_, congrArg done ((if_neg hgate).trans (if_pos rfl)), Tbl.find_set_same _ _ _, ?_, rfl⟩,
      congrArg done ((if_neg hgate).trans ((if_neg (by decide)).trans (if_pos rfl)))⟩
    exact List.length_append
  · refine congrArg done (if_pos ?_)
    rw [hawake, hon, decide_eq_true hi, beq_self_eq_true]
    rfl
  · obtain ⟨hcur, hslot, hafter, hraw, hparams, hout⟩ := State.linBegin_facts he
    have hframe : s.linFrame l e = le 1 (linPid (s.pf (0x3040 + 16 * l + e) 0 6)) := if_pos hsub
    exact ⟨_, execLinSlot_begins hl hfull hon hsleep hwait hnext he, hcur, hslot, hafter, by rw [hraw, hframe], hparams, hout⟩
  · obtain ⟨hcur, hslot, -, hraw, hparams, hout⟩ := State.linBegin_facts he
    obtain ⟨sum, hframe⟩ := State.linFrame_publishes hpub
    exact ⟨_, sum, execLinSlot_begins hl hfull hon hsleep hwait hnext he, hcur, hslot, by rw [hraw, hframe]; rfl, hparams, hout⟩
  · refine congrArg done (if_pos ?_)
    exact Or.inr (Or.inr (Or.inr (Or.inr hwait)))
  · have hbytes : ∀ k, leAt resp k 4 % 2 ^ 32 = leAt resp k 4 := fun k => Nat.mod_eq_of_lt (leAt_word_lt resp k)
    obtain ⟨hflag, hdone, hgood, -, hout⟩ := State.linEnd_facts (s := s) (l := l) (e := e) true
    obtain ⟨hflag', hdone', hgood', hsame', -⟩ := State.linEnd_facts (s := s) (l := l) (e := e) false
    refine ⟨⟨_, (execLinSlotEnd_subscribes hcur hsub hlen hwant).trans (congrArg done (if_pos rfl)), ?_, ?_, ?_, hdone, hgood.mpr rfl, hout⟩,
      ⟨_, (execLinSlotEnd_subscribes hcur hsub hlen hwant).trans (congrArg done (if_neg (by decide))), hflag', hdone',
        fun h => Bool.false_ne_true (hgood'.mp h), hsame'⟩⟩
    · rw [State.p_setP_other _ _ (by omega), State.p_setP_same, hbytes]
    · rw [State.p_setP_same, hbytes]
    · rw [State.pb, State.p_setP_other _ _ (by omega), State.p_setP_other _ _ (by omega), ← State.pb, hflag]
      rfl
  · refine ⟨_, execKeepaliveSend_due hfull hon hrun hctrl hbus (by rw [hdue]; rfl), ?_, rfl, rfl, rfl⟩
    exact List.length_append
  · have hbit : s.pf 0x3001 31 1 = 0 := by
      have hshort' := hshort
      rw [State.pb, bit_eq_fld, ← State.pf] at hshort'
      have hlt : s.pf 0x3001 31 1 < 2 := Nat.mod_lt _ (by decide)
      have hne : s.pf 0x3001 31 1 ≠ 1 := fun h => by rw [h] at hshort'; exact absurd hshort' (by decide)
      omega
    have hgives := execKeepaliveReceived_node (le 1 node ++ zeros 7) hawake hon hctrl hnode hid
    have hzero : (le 1 node ++ zeros 7) = le 1 node ++ le 1 0 ++ le 1 0 ++ zeros 5 := rfl
    obtain ⟨hsome, hnodeByte, hflagByte, hneedByte⟩ := kaBytes node 0 0 (zeros 5)
    rw [hbit, Nat.mul_zero, Nat.zero_add, hzero, hsome, hnodeByte, hflagByte, Nat.mod_eq_of_lt (by omega),
      if_neg (by simpa using hother)] at hgives
    refine ⟨s.kaHeard node (le 1 node ++ le 1 0 ++ le 1 0 ++ zeros 5), hgives, ?_, rfl, rfl⟩
    rw [State.kaHeard, State.mapNet_net, hflagByte, hneedByte]
    dsimp only
    rw [Tbl.get_put_same]
    rfl
  · obtain ⟨hbegun, hagreed, -, -, -, -, honly⟩ := State.kaAgree_agrees (s := s)
    refine ⟨_, congrArg done (if_pos (by rw [hruns, hprep, hsilent]; rfl)), hbegun, hagreed, ?_⟩
    rw [honly]
  · have hcancel := State.kaCancel_ends hprep
    obtain ⟨u, hu⟩ : ∃ u, u = s.kaCancel.mapNet (fun n => { n with ready := true }) := ⟨_, rfl⟩
    have hsys : u.sys = s.sys := by rw [hu, hcancel, State.mapNet_sys, State.mapNet_sys, State.setPb_sys]
    have hout : u.out = s.out := by rw [hu, hcancel, State.mapNet_out, State.mapNet_out, State.setPb_out]
    obtain ⟨hstarted, -⟩ := State.sleepBegin_starts (s := u) true ((State.full_of_sys hsys).trans hfull) (by rw [hsys, hsleep])
    refine ⟨u.sleepBegin true, (execKaPrepareEnd_due hprep hdue).trans (congrArg done ((if_neg (by rw [hneed]; decide)).trans (by rw [hu]))),
      ?_, hstarted, (State.sleepBegin_frame _ _).2.2.2.2.2.2.2.2.2.1.trans hout⟩
    rw [(State.sleepBegin_frame _ _).2.2.2.2.2.2.2.2.2.2.2.2.1, hu, State.mapNet_net, hcancel]
    rfl
  · obtain ⟨hsleeping, hrest⟩ := State.awakeTold_sleeps hruns
    have hno : ¬(s.net.prep.isNone && s.silentDue) = true := by
      rw [Option.isNone_eq_false_iff.mpr hprep]
      exact Bool.false_ne_true
    refine ⟨_, (execMaxAwakeReached_due hruns hdue).trans (congrArg done (if_neg hno)), ?_, hsleeping, ?_⟩
    · rw [(State.sleepBegin_frame _ _).2.2.2.2.2.2.2.2.2.2.2.2.1, State.awakeTold_net]
    · rw [(State.sleepBegin_frame _ _).2.2.2.2.2.2.2.2.2.1, State.awakeTold_only]

end Sys2Proof.Machine

/-! The two-wire target (R144, R146, R147, R154, R724 to R732). -/

namespace Sys2Proof.Machine

section
variable {s : State}

theorem State.twOpen_warm (h : s.twOpen = true) : (s.sys.phase == Phase.cold) = false := by
  cases hphase : s.sys.phase
  case cold => rw [State.twOpen, State.full, hphase] at h; exact absurd h Bool.false_ne_true
  all_goals rfl

theorem State.awake_warm (h : s.awake = true) : (s.sys.phase == Phase.cold) = false := by
  cases hphase : s.sys.phase
  case cold => rw [State.awake, hphase] at h; exact absurd h (by decide)
  all_goals rfl

/-- An address that no open window answers is not acknowledged (R724). -/
theorem gives_twUnanswered {x : TwXfer} (hphase : s.sys.phase ≠ .cold) (hnone : s.twWindow x.addr = none) :
    ∀ c ∈ [Instr.twStatusWindow x, .twEventWindow x, .twLedgerWindow x], Gives c s (s.twAnswer false []) := by
  have hwarm : ¬(s.sys.phase == Phase.cold) = true := fun h => hphase (beq_iff_eq.mp h)
  have hother (k : Nat) : s.twWindow x.addr ≠ some k := by rw [hnone]; exact nofun
  simp only [List.forall_mem_cons, List.not_mem_nil, false_imp_iff, implies_true, and_true]
  refine ⟨?_, ?_, ?_⟩
  · exact congrArg done ((if_neg hwarm).trans (if_pos (hother 0)))
  · exact congrArg done ((if_neg hwarm).trans (if_pos (Or.inl (hother 1))))
  · exact congrArg done ((if_neg hwarm).trans (if_pos (Or.inl (hother 2))))

/-! The status window (R725 to R728). -/

/-- What the status window has answered to a transfer of `wr` whose pointer stands at `p` after it (R726, R727). -/
def State.twStatusRead (s : State) (p rd : Nat) : State :=
  ((s.twAnswer true ((List.range rd).map (fun k => BitVec.ofNat 8 (s.twReg ((p + k) % 16))))).mapNet
    (fun n => { n with twPtr := Tbl.put 0 n.twPtr 0 ((p + rd) % 16) })).drawn

theorem execTwStatusWindow_eq {x : TwXfer} (hwarm : (s.sys.phase == Phase.cold) = false) (hwin : s.twWindow x.addr = some 0) :
    ∃ p, execTwStatusWindow x s = done (if retrySeq ((x.wr.drop 1).drop (15 - (match x.wr with
        | [] => Tbl.get 0 s.net.twPtr 0
        | b :: _ => b.toNat % 16))) && s.sys.phase == .coldHold then (s.twStatusRead p x.rd).coldExit true
      else (s.twStatusRead p x.rd).wakeBy 5) ∧ (x.wr = [0#8] → p = 0) := by
  refine ⟨twStep (x.wr.drop 1).length (match x.wr with
        | [] => Tbl.get 0 s.net.twPtr 0
        | b :: _ => b.toNat % 16), ?_, fun h => by rw [h]; rfl⟩
  unfold execTwStatusWindow
  rw [if_neg (by rw [hwarm]; decide), if_neg (by rw [hwin]; decide)]
  rfl

theorem State.wakeBy_awake {src : Nat} (hawake : s.awake = true) (hsleep : s.sys.sleeping = 0) : s.wakeBy src = s := by
  unfold State.wakeBy
  refine State.ite_keeps id _ _ _ _ rfl ?_
  dsimp only
  cases hphase : s.sys.phase
  case kindling => exact if_pos hsleep
  case lit => exact if_pos hsleep
  case doused => exact if_pos hsleep
  all_goals
    rw [State.awake, hphase] at hawake
    exact absurd hawake (by decide)

/-- The entry `k` of a list that is made entry by entry. -/
theorem nth_map_range {α : Type} (d : α) (f : Nat → α) {n k : Nat} (h : k < n) : nth d ((List.range n).map f) k = f k := by
  rw [nth, List.getD_eq_getElem _ _ (by simpa using h), List.getElem_map, List.getElem_range]

/-- The state that the status window shows of a manager that is awake (R727). -/
theorem State.twState_awake (hawake : s.awake = true) (hsleep : s.sys.sleeping = 0) :
    s.twState = if s.sys.phase = .kindling then 2 else if s.sys.phase = .lit then 3 else 4 := by
  unfold State.twState
  rw [if_neg (not_not_intro hsleep)]
  cases hphase : s.sys.phase
  case kindling => rfl
  case lit => rfl
  case doused => rfl
  all_goals
    rw [State.awake, hphase] at hawake
    exact absurd hawake (by decide)

/-- The first registers of the status window (R727). -/
theorem State.twStatusRead_first {n : Nat} (hawake : s.awake = true) (hsleep : s.sys.sleeping = 0) :
    (0 < n → nth 0#8 (s.twStatusRead 0 n).net.twOut 0 = 0xB9#8) ∧
    (1 < n → nth 0#8 (s.twStatusRead 0 n).net.twOut 1 =
      if s.sys.phase = .kindling then 2#8 else if s.sys.phase = .lit then 3#8 else 4#8) ∧
    (2 < n → nth 0#8 (s.twStatusRead 0 n).net.twOut 2 = BitVec.ofNat 8 (s.p 0x0105)) := by
  have hout : (s.twStatusRead 0 n).net.twOut = (List.range n).map (fun k => BitVec.ofNat 8 (s.twReg ((0 + k) % 16))) := rfl
  rw [hout]
  refine ⟨fun h => ?_, fun h => ?_, fun h => ?_⟩
  · rw [nth_map_range _ _ h]
    rfl
  · have hstate : s.twReg ((0 + 1) % 16) = s.twState := rfl
    rw [nth_map_range _ _ h, hstate, State.twState_awake hawake hsleep]
    split_ifs <;> rfl
  · have hcause : s.twReg ((0 + 2) % 16) = s.p 0x0105 % 2 ^ 8 := by
      refine (show s.twReg ((0 + 2) % 16) = s.pf 0x0105 0 8 from rfl).trans ?_
      rw [State.pf, fld, pow_zero, Nat.div_one]
    rw [nth_map_range _ _ h, hcause]
    exact BitVec.eq_of_toNat_eq (by simp)

/-! The event and ledger windows (R729, R730). -/

theorem slotBytes_length (a : AccSlot) : (slotBytes a).length = 64 := by
  simp only [slotBytes, slotBody, withCrc, List.length_append, le_length, zeros, List.length_replicate]

/-- A list that is read whole, entry by entry, is itself. -/
theorem map_nth_range {α : Type} (d : α) (l : List α) : (List.range l.length).map (nth d l) = l := by
  refine List.ext_getElem (by simp) (fun k hk hl => ?_)
  rw [List.getElem_map, List.getElem_range, nth, List.getD_eq_getElem _ _ hl]

/-- A slot of 64 bytes that is read from its start, wrapping round, is itself. -/
theorem map_nth_wrap {l : List Byte} (h : l.length = 64) : (List.range 64).map (fun k => nth 0#8 l ((0 + k) % 64)) = l := by
  have hwrap : (List.range 64).map (fun k => nth 0#8 l ((0 + k) % 64)) = (List.range 64).map (nth 0#8 l) :=
    List.map_congr_left (fun k hk => by rw [Nat.zero_add, Nat.mod_eq_of_lt (List.mem_range.mp hk)])
  rw [hwrap, ← h, map_nth_range]

/-- The record of index `k` as the event window shows it (R729). -/
def State.twRecord (s : State) (k : Nat) : List Byte :=
  match s.jFind k with
  | some e => jBytes e
  | none => zeros 32

/-- The slot of `Inst` `n` as the ledger window shows it (R730). -/
def State.twSlot (s : State) (n : Nat) : List Byte :=
  match s.instLives n, (s.inst n).mirror with
  | true, some a => slotBytes a
  | _, _ => zeros 64

/-- What a transfer of the event window leaves, by its index, its pointer and the bytes that it reads (R729). -/
def State.twEventRead (s : State) (busy : Bool) (idx p n : Nat) : State :=
  (s.twAnswer (!busy) ((((List.range ((p + n + 31) / 32)).flatMap (fun k => s.twRecord ((idx + k) % 2 ^ 32))).drop p).take n)).mapNet
    (fun t => { t with twPtr := Tbl.put 0 t.twPtr 1 ((p + n) % 32), evIdx := (idx + (p + n) / 32) % 2 ^ 32 })

theorem State.twEventRead_index (busy : Bool) (idx p n : Nat) : (s.twEventRead busy idx p n).net.evIdx = (idx + (p + n) / 32) % 2 ^ 32 := rfl

/-- A read of 32 bytes from the pointer 0 is the whole record (R729). -/
theorem State.twEventRead_whole {busy : Bool} {idx : Nat} (h : idx < 2 ^ 32) :
    (s.twEventRead busy idx 0 32).net.twOut = (s.twRecord idx).take 32 := by
  have hone : (List.range ((0 + 32 + 31) / 32)).flatMap (fun k => s.twRecord ((idx + k) % 2 ^ 32)) = s.twRecord idx := by
    have hrange : List.range ((0 + 32 + 31) / 32) = [0] := rfl
    rw [hrange, List.flatMap_cons, List.flatMap_nil, List.append_nil, Nat.add_zero, Nat.mod_eq_of_lt h]
  rw [State.twEventRead, State.mapNet_net, State.twAnswer, State.mapNet_net, hone, List.drop_zero]

/-- A transfer of the event window that first sets its pointer to 0 (R726, R729). -/
theorem execTwEventWindow_from {a rd gap : Nat} {data : List Byte} (hwin : s.twWindow a = some 1) (hopen : s.twOpen = true) :
    execTwEventWindow ⟨a, 0#8 :: data, rd, gap⟩ s = done (s.twEventRead (rd != 0 && decide (gap < 50))
      (if data.length = 4 then leNat data else s.net.evIdx) (data.length % 32) (if rd != 0 && decide (gap < 50) then 0 else rd)) := by
  have hdrop : List.drop 1 (0#8 :: data) = data := rfl
  have hidx : (if (0#8).toNat % 32 = 0 ∧ data.length = 4 then leNat data else s.net.evIdx) =
      if data.length = 4 then leNat data else s.net.evIdx := if_congr (and_iff_right rfl) rfl rfl
  have hptr : ((0#8).toNat % 32 + data.length) % 32 = data.length % 32 := congrArg (· % 32) (Nat.zero_add _)
  unfold execTwEventWindow
  rw [if_neg (by rw [State.twOpen_warm hopen]; decide), if_neg (by simp [hwin, hopen])]
  dsimp only
  rw [hdrop, hidx, hptr]
  rfl

/-- What a transfer of the ledger window leaves, by its `Inst` and the bytes that it reads (R730). -/
def State.twLedgerRead (s : State) (busy : Bool) (sel p n : Nat) : State :=
  (s.twAnswer (!busy) ((List.range n).map (fun k => nth 0#8 (s.twSlot sel) ((p + k) % 64)))).mapNet
    (fun t => { t with twPtr := Tbl.put 0 t.twPtr 2 ((p + n) % 64), ldIdx := sel })

theorem execTwLedgerWindow_from {a rd gap : Nat} {data : List Byte} (hwin : s.twWindow a = some 2) (hopen : s.twOpen = true) :
    execTwLedgerWindow ⟨a, 0#8 :: data, rd, gap⟩ s = done (s.twLedgerRead (rd != 0 && decide (gap < 50))
      (if data.length = 1 ∧ leNat data < 8 then leNat data else s.net.ldIdx) (data.length % 64)
      (if rd != 0 && decide (gap < 50) then 0 else rd)) := by
  have hdrop : List.drop 1 (0#8 :: data) = data := rfl
  have hsel : (if (0#8).toNat % 64 = 0 ∧ data.length = 1 ∧ leNat data < 8 then leNat data else s.net.ldIdx) =
      if data.length = 1 ∧ leNat data < 8 then leNat data else s.net.ldIdx := if_congr (and_iff_right rfl) rfl rfl
  have hptr : ((0#8).toNat % 64 + data.length) % 64 = data.length % 64 := congrArg (· % 64) (Nat.zero_add _)
  unfold execTwLedgerWindow
  rw [if_neg (by rw [State.twOpen_warm hopen]; decide), if_neg (by simp [hwin, hopen])]
  dsimp only
  rw [hdrop, hsel, hptr]
  rfl

/-! The timeouts (R731, R732). -/

theorem execTwSclTimeout_eq {w ms : Nat} (hw : w < 4) (hms : fld s.island.twCfg 8 6 ≤ ms) :
    execTwSclTimeout w ms s = done (s.twTimeout 42 w ms) := by
  refine congrArg done (if_pos ?_)
  rw [decide_eq_true hw, decide_eq_true hms]
  rfl

theorem execTwSdaTimeout_eq {w ms : Nat} (hms : fld s.island.twCfg 16 6 ≤ ms) : execTwSdaTimeout w ms s = done (s.twTimeout 43 w ms) :=
  congrArg done (if_pos hms)

theorem State.twTimeout_awake (ev w ms : Nat) (hawake : s.awake = true) :
    s.twTimeout ev w ms = s.raise ev (le 1 w ++ le 2 (Nat.min ms 65535)) := by
  unfold State.twTimeout
  rw [if_neg (by rw [State.awake_warm hawake]; decide), if_pos hawake]

theorem State.twTimeout_island (ev w ms : Nat) (hphase : s.sys.phase = .banked ∨ s.sys.phase = .coldHold) :
    s.twTimeout ev w ms = s.islandRec ev (le 1 w ++ le 2 (Nat.min ms 65535)) := by
  have hasleep : (s.sys.phase == Phase.cold) = false ∧ s.awake = false := by
    rcases hphase with h | h
    · rw [State.awake, h]
      exact ⟨rfl, rfl⟩
    · rw [State.awake, h]
      exact ⟨rfl, rfl⟩
  unfold State.twTimeout
  rw [if_neg (by rw [hasleep.1]; decide), if_neg (by rw [hasleep.2]; decide)]

end

/-- Settles O52, window by window. -/
theorem twoWireTarget : Obligations.TwoWireTarget := by
  unfold Obligations.TwoWireTarget
  refine ⟨fun s x hphase hnone => gives_twUnanswered hphase hnone, fun s a n gap hawake hsleep hwin hn => ?_,
    fun s a rd gap hphase hwin => ?_, fun s x hphase hwin hon => ?_, fun s a gap i0 i1 i2 i3 hwin hopen => ?_,
    fun s a gap hwin hopen hidx => ?_, fun s a gap k hwin hopen hk => ?_, fun s a gap hwin hopen hgap => ?_,
    fun s w ms hw hawake => ⟨fun hms => ?_, fun hms => ?_⟩, fun s w ms => ⟨fun hms => ?_, fun hms => ?_⟩,
    fun s w ms hw hphase hscl hsda => ?_⟩
  · obtain ⟨p, hgives, hp⟩ := execTwStatusWindow_eq (x := ⟨a, [0#8], n, gap⟩) (State.awake_warm hawake) hwin
    rw [hp rfl] at hgives
    obtain ⟨hid, hstate, hcause⟩ := State.twStatusRead_first (n := n) hawake hsleep
    have hstays : (s.twStatusRead 0 n).wakeBy 5 = s.twStatusRead 0 n := State.wakeBy_awake hawake hsleep
    refine ⟨s.twStatusRead 0 n, hgives.trans (congrArg done ((if_neg Bool.false_ne_true).trans hstays)), rfl, ?_, hid, hstate, hcause, rfl, rfl⟩
    exact (List.length_map _).trans List.length_range
  · obtain ⟨p, hgives, -⟩ := execTwStatusWindow_eq (x := ⟨a, [0x0F#8, 0xA5#8, 0x5A#8], rd, gap⟩) (by rw [hphase]; rfl) hwin
    obtain ⟨hdone, hsys, hretries⟩ := State.coldExit_ends (s := s.twStatusRead p rd) true hphase
    refine ⟨_, hgives.trans ((congrArg done (if_pos ?_)).trans hdone), by rw [hsys]; rfl, hretries⟩
    rw [hphase]
    rfl
  · obtain ⟨p, hgives, -⟩ := execTwStatusWindow_eq (x := x) (by rw [hphase]; rfl) hwin
    obtain ⟨hdone, hsys, hsource, -⟩ := State.wakeBy_banked (s := s.twStatusRead p x.rd) (src := 5) hphase hon (by decide)
    refine ⟨_, hgives.trans ((congrArg done (if_neg ?_)).trans hdone), by rw [hsys]; rfl, by rw [hsys], hsource⟩
    rw [hphase, Bool.and_comm]
    exact Bool.false_ne_true
  · have hgives : execTwEventWindow ⟨a, [0#8, i0, i1, i2, i3], 0, gap⟩ s = done (s.twEventRead false (leNat [i0, i1, i2, i3]) 4 0) :=
      execTwEventWindow_from hwin hopen
    have hlt : leNat [i0, i1, i2, i3] < 2 ^ 32 := by simpa using leNat_lt [i0, i1, i2, i3]
    refine ⟨_, hgives, rfl, ?_, rfl⟩
    rw [State.twEventRead_index, Nat.mod_eq_of_lt (by omega)]
    simp only [leNat]
    omega
  · have hgives := execTwEventWindow_from (gap := gap) (rd := 32) (data := []) hwin hopen
    by_cases hfast : gap < 50
    · rw [decide_eq_true hfast] at hgives
      refine ⟨s.twEventRead true s.net.evIdx 0 0, hgives, rfl, fun _ => ⟨rfl, rfl, ?_⟩, fun h => absurd hfast (by omega)⟩
      rw [State.twEventRead_index, Nat.mod_eq_of_lt (by omega)]
      rfl
    · rw [decide_eq_false hfast] at hgives
      refine ⟨s.twEventRead false s.net.evIdx 0 32, hgives, rfl, fun h => absurd h hfast, fun _ => ⟨rfl, ?_, ?_⟩⟩
      · rw [State.twEventRead_index]
      · refine (State.twEventRead_whole hidx).trans ?_
        unfold State.twRecord
        cases s.jFind s.net.evIdx with
        | some e => rfl
        | none => rfl
  · have hgives := execTwLedgerWindow_from (gap := gap) (rd := 0) (data := [k]) hwin hopen
    have hsel : leNat [k] = k.toNat := Nat.add_zero _
    rw [if_pos ⟨rfl, by rw [hsel]; exact hk⟩, hsel] at hgives
    exact ⟨_, hgives, rfl, rfl, rfl⟩
  · have hgives := execTwLedgerWindow_from (gap := gap) (rd := 64) (data := []) hwin hopen
    have hslow : decide (gap < 50) = false := decide_eq_false (by omega)
    rw [hslow] at hgives
    refine ⟨_, hgives, rfl, rfl, fun m hlives hm => ?_, fun hdead => ?_⟩
    · have hslot : s.twSlot s.net.ldIdx = slotBytes m := by rw [State.twSlot, hlives, hm]
      refine Eq.trans ?_ (map_nth_wrap (slotBytes_length m))
      rw [← hslot]
      rfl
    · have hslot : s.twSlot s.net.ldIdx = zeros 64 := by rw [State.twSlot, hdead]
      refine Eq.trans ?_ (map_nth_wrap (l := zeros 64) List.length_replicate)
      rw [← hslot]
      rfl
  · rw [← State.twTimeout_awake 42 w ms hawake]
    exact execTwSclTimeout_eq hw hms
  · rw [← State.twTimeout_awake 43 w ms hawake]
    exact execTwSdaTimeout_eq hms
  · refine congrArg done (if_neg ?_)
    have hshort : decide (fld s.island.twCfg 8 6 ≤ ms) = false := decide_eq_false (by omega)
    rw [hshort, Bool.and_false]
    exact Bool.false_ne_true
  · exact congrArg done (if_neg (by omega))
  · refine ⟨_, _, execTwSclTimeout_eq hw hscl, execTwSdaTimeout_eq hsda, ?_, ?_⟩
    · rw [State.twTimeout_island 42 w ms hphase]
      rfl
    · rw [State.twTimeout_island 43 w ms hphase]
      rfl

end Sys2Proof.Machine
